-- ==== Sys2Proof/Word.lean ====
section
/-! DEFINITION. The words of the CX2304 and the one container its sparse state is held in: a list of
(key, value) pairs with keys strictly rising and no entry equal to the value an absent key reads as. -/

namespace Sys2Proof

/-- A 32-bit register or memory word (00 R5). -/
abbrev Word := BitVec 32

/-- A byte of an addressed memory. -/
abbrev Byte := BitVec 8

/-- The four tag bits of a strand word: UNSETTLED, SUBSTITUTED, CLIPPED, MUTING (02 R25). -/
abbrev Tag := BitVec 4

/-- An engine instruction word (04 R76). -/
abbrev IWord := BitVec 64

/-- A quad: four consecutive words, word i in bits [32i+31:32i] (03 R59). -/
abbrev Quad := BitVec 128

/-- An engine accumulator, s17.62 (03 R45). -/
abbrev Acc := BitVec 80

/-- Sparse data by key, in one canonical form: keys strictly rising, no default entries. -/
abbrev SMap (V : Type) := List (Nat × V)

end Sys2Proof
end

