-- ==== Sys2Proof/Machine/Plan.lean ====
section
/-! DEFINITION. What a lay plan holds (05 R106, R107, R111; 06 R123, R124, R126, R128): the data the load unit
writes into a bank of the node; and the records of the matrix and of whipping that a replay copy carries. -/

namespace Sys2Proof.Machine

/-- The producer classes of R21. -/
inductive SlotClass where
  | none | hitch | engine | matrix | host
deriving DecidableEq, Repr

/-- The slot map's entry of one slot: producer class, the producing engine of an ENGINE slot, the
policy (HOLD or ZERO) and the RAMP mark of R118. -/
structure SlotDef where
  cls : SlotClass := .none
  engine : Nat := 0
  hold : Bool := false
  ramp : Bool := false
deriving DecidableEq, Repr

/-- A coil-slot descriptor (03 R69), with the even cycles that the plan schedules for it and its
tick-phase mask (05 R110). -/
structure CoilSlot where
  base : Nat
  len : Nat
  cycles : List Nat
  phases : BitVec 4
deriving DecidableEq, Repr

/-- Which memory a region lies in. -/
inductive MemKind where
  | x | y | prog | coil
deriving DecidableEq, Repr

/-- A state or constant region of an engine (05 R111): word addresses of X or Y, quad addresses of the
pool, both ends included, and the resync mark of a state region (14 R322). -/
structure Region where
  mem : MemKind
  lo : Nat
  hi : Nat
  resync : Bool := false
deriving DecidableEq, Repr

/-- A constant region with its contents, one set for each family where TWOSET is 1 (05 R112). -/
structure ConstData where
  region : Region
  words48 : List Word
  words44 : List Word
deriving DecidableEq, Repr

/-- What the plan gives one engine (05 R111, R120). Programs are listed by address; an address not
listed holds the all-zero word (NOP, 04 R76). -/
structure EnginePlan where
  entry : BitVec 12 := 0
  program : SMap IWord := []
  initD : SMap Word := []
  initA : SMap Acc := []
  initAgu : SMap Word := []
  seed0 : Word := 1
  seed1 : Word := 1
  csd : SMap CoilSlot := []
  consts : List ConstData := []
  params : SMap Word := []
deriving DecidableEq, Repr

/-- A parameter record (05 R107): TYPE codes 0 s.31, 1 s3.28, 2 s4.27, 3 signed, 4 unsigned, 5 BOOL;
targets are (engine, X word). -/
structure ParamRec where
  number : Nat
  ty : Nat
  words : Nat
  targets : List (Nat × Nat)
  min : Word
  max : Word
deriving DecidableEq, Repr

/-- A knot record (05 R106), with its lists resolved. `bypass` is the target, engine and X word, of its BYPASS
parameter; `bypIn` gives each output's bypass input as an index of `inputs` (R104). -/
structure Knot where
  kid : Nat
  parent : Nat
  ordinal : Nat
  depth : Nat
  kind : Nat
  firstChild : Nat
  nchild : Nat
  engine : Nat
  lib : Nat := 0xFFFF
  twoset : Bool := false
  bypass : Option (Nat × Nat) := none
  fprint : Word := 0
  inputs : List Nat := []
  outputs : List Nat := []
  params : List ParamRec := []
  state : List Region := []
  consts : List Region := []
  fused : Bool := false
  bypIn : List Nat := []
  hops : Nat := 0
  delay : Nat := 0
  coilCount : Nat := 0
  name : List Byte := []
deriving DecidableEq, Repr

/-- A row binding of the matrix program (06 R126, R140). -/
structure RowPlan where
  slot : Nat
  openThr : Nat := 1049
  closeThr : Nat := 524
  hold : Nat := 9600
deriving DecidableEq, Repr

/-- A column's list: nothing (OFF), one row (PATCH), or rows with s4.27 gains (MIX) (06 R124). -/
inductive ColList where
  | off
  | patch (row : Nat)
  | mix (gains : SMap Word)
deriving DecidableEq, Repr

/-- A column of the matrix program (06 R124). -/
structure ColPlan where
  slot : Nat
  nom : Bool := false
  unit : Nat := 0
  list : ColList
deriving DecidableEq, Repr

/-- A NOM unit's settings carried by the plan (06 R141, R142). -/
structure NomPlan where
  law : Nat := 1
  ramp : Nat := 64
  table : SMap Word := []
deriving DecidableEq, Repr

/-- Pair modes (01 R15, R16). -/
inductive PairMode where
  | solo | paired | twin
deriving DecidableEq, Repr

/-- A lay plan (05 R111). Absent slots are of class NONE, absent engines have no program, absent
columns are OFF. `resync` lists, for each resync step, its copy words as engine, memory (true: Y) and address
(14 R322); `sha` is the plan's SHA-256. -/
structure LayPlan where
  ident : Word := 0
  sha : Nat := 0
  mult : Nat := 1
  pair : PairMode := .solo
  lpSplice : Nat := 64
  resBase : Nat := 0
  resCount : Nat := 1024
  mirror : Nat := 32
  pairWait : Nat := 2000
  degradedEn : Bool := true
  resend : Bool := true
  twinFollow : Bool := false
  convergeW : Nat := 0
  resync : List (List (Nat × Bool × Nat)) := []
  slots : SMap SlotDef := []
  engines : SMap EnginePlan := []
  knots : List Knot := []
  rows : SMap RowPlan := []
  cols : SMap ColPlan := []
  noms : SMap NomPlan := []
deriving DecidableEq, Repr

/-! ### Records that the pair copies from chip to chip (14 R321-R323) -/

/-- The mute of a hitch (R33): full gain, waiting for a zero crossing (R212) with the ticks waited, ramping
down or up at ramp tick k, or muted. -/
inductive Mute where
  | full
  | waitZc (down : Bool) (waited : Nat)
  | down (k : Nat)
  | muted
  | up (k : Nat)
deriving DecidableEq, Repr

/-- A row's settings (R126, R140). -/
structure RowSet where
  slot : Nat := 0
  valid : Bool := false
  openThr : Nat := 1049
  closeThr : Nat := 524
  hold : Nat := 9600
deriving DecidableEq, Repr

/-- A row: its settings in force and those that wait for the boundary, the gate that governs the present
tick, the gate after the present tick's samples, and the run of ticks below CLOSE (R126, R140). -/
structure Row where
  live : RowSet := {}
  staged : Option RowSet := none
  gate : Bool := false
  gateNext : Bool := false
  quiet : Nat := 0
deriving DecidableEq, Repr

/-- A NOM unit beyond its registers (R141, R142): whether it has a gain yet, the current gain, the ramp's start
gain, its target and its tick, and the open rows of the present tick. -/
structure NomUnit where
  live : Bool := false
  g : Int := 0
  g0 : Int := 0
  target : Int := 0
  j : Nat := 0
  ramping : Bool := false
  openRows : Nat := 0
deriving DecidableEq, Repr

/-- The settings of a whipping stage (R143, R144, R148), in register units. -/
structure WhipCfg where
  gain : Word := 0x08000000
  mute : Bool := false
  limEn : Bool := false
  dcEn : Bool := true
  dcMute : Bool := false
  zcto : Nat := 480
  zcthr : Nat := 256
  rshift : Nat := 12
  thr : Nat := 0x7F
  dcthr : Nat := 20972
  dcshift : Nat := 16
  dctime : Nat := 960
deriving DecidableEq, Repr

/-- Where a gain or mute change of a whipping stage is (R144): none, waiting for a zero crossing with the ticks
waited and whether it was found, or in tick k of a 16-tick ramp. -/
inductive WhipPhase where
  | rest
  | waitZc (waited : Nat) (found : Bool)
  | ramp (k : Nat)
deriving DecidableEq, Repr

/-- A whipping stage: live and staged settings, the phase of a change, the gain and mute in effect, those it
moves to, the mute that DCMUTE forces, the limiter state r (whose bits [31:16] read 0xFFFF after reset, R148), the DC mean and run and fault, the last output of
step 1, MUTING in the present tick, and its counts. -/
structure Whip where
  live : WhipCfg := {}
  staged : Option WhipCfg := none
  phase : WhipPhase := .rest
  curGain : Word := 0x08000000
  curMute : Bool := false
  toGain : Word := 0x08000000
  toMute : Bool := false
  dcForced : Mute := .full
  dcWant : Bool := false
  r : Nat := 4294967295
  m : Int := 0
  dcRun : Nat := 0
  dc : Bool := false
  lastA : Word := 0
  muting : Bool := false
  clip : Nat := 0
  lim : Nat := 0
deriving DecidableEq, Repr

end Sys2Proof.Machine
end

