-- ==== Sys2Proof/Syntax.lean ====
section
/-! DEFINITION. The commands of the node, with their operands. -/

namespace Sys2Proof

open Sys2Proof.Machine

/-! ### Engine instructions (04 R76-R97) -/

/-- Sharing modes of a MAC (03 R49, 04 R85). -/
inductive MacMode where
  | quad | bcastx | bcasty | cplx | sum
deriving DecidableEq, Repr

/-- Accumulate modes of a MAC (03 R50, 04 R85). -/
inductive AccMode where
  | acc | sub | set
deriving DecidableEq, Repr

/-- Address-specifier modes (04 R84). -/
inductive AddrMode where
  | posti | postm | index
deriving DecidableEq, Repr

/-- An address specifier: pointer, mode, immediate step or modifier number (04 R84). -/
structure AddrSpec where
  ptr : BitVec 3
  mode : AddrMode
  step : BitVec 4
deriving DecidableEq, Repr

/-- A source of an operand bus: memory through a specifier, or a D quad (03 R47, 04 R85). -/
inductive BusSrc where
  | mem (spec : AddrSpec)
  | quad (q : BitVec 2)
deriving DecidableEq, Repr

/-- Operands of MAC (04 R85). -/
structure MacArgs where
  mode : MacMode
  amode : AccMode
  cf : Bool
  k : BitVec 2
  x : BusSrc
  y : BusSrc
deriving DecidableEq, Repr

/-- Operands of MVA (04 R86). -/
structure MvaArgs where
  d : BitVec 4
  k : BitVec 2
  scs : BitVec 2
  w : BitVec 2
  rnd : BitVec 2
  dgs : Bool
deriving DecidableEq, Repr

/-- Operands of MVAQ (04 R86). -/
structure MvaqArgs where
  q : BitVec 2
  scs : BitVec 2
  w : BitVec 2
  rnd : BitVec 2
  dgs : Bool
deriving DecidableEq, Repr

/-- Second operand of an ALU instruction: a D register or the 32-bit immediate (04 R89). -/
inductive AluB where
  | reg (d : BitVec 4)
  | imm (v : BitVec 32)
deriving DecidableEq, Repr

/-- Operands of an ALU instruction (04 R89). -/
structure AluArgs where
  d : BitVec 4
  a : BitVec 4
  b : AluB
deriving DecidableEq, Repr

/-- Where a strand instruction takes its slot number from (04 R91). -/
inductive SlotSrc where
  | imm (slot : BitVec 13)
  | reg (d : BitVec 4)
deriving DecidableEq, Repr

/-- Where a coil instruction takes its index from (04 R92). -/
inductive CoilIdx where
  | imm (i : BitVec 16)
  | spec (a : AddrSpec)
deriving DecidableEq, Repr

/-- The engine instructions of chapter 04, one constructor per mnemonic. -/
inductive EngOp where
  | mac (a : MacArgs)
  | mva (a : MvaArgs)
  | mvaq (a : MvaqArgs)
  | aclr (k : BitVec 2)
  | acpy (k j : BitVec 2)
  | aadd (k j : BitVec 2)
  | asub (k j : BitVec 2)
  | aneg (k : BitVec 2)
  | aabs (k : BitVec 2)
  | norm (k : BitVec 2) (d : BitVec 4)
  | ashi (k : BitVec 2) (imm : BitVec 8)
  | dtoa (k : BitVec 2) (d : BitVec 4) (scs : BitVec 2)
  | dadd (k : BitVec 2) (d : BitVec 4) (scs : BitVec 2)
  | expa (k : BitVec 2) (d : BitVec 4)
  | atst (k : BitVec 2)
  | ldw (d : BitVec 4) (a : AddrSpec)
  | ldq (q : BitVec 2) (a : AddrSpec)
  | stw (d : BitVec 4) (a : AddrSpec)
  | stq (q : BitVec 2) (a : AddrSpec)
  | ldwa (d : BitVec 4) (ms : Bool) (addr : BitVec 16)
  | ldqa (q : BitVec 2) (ms : Bool) (addr : BitVec 16)
  | stwa (d : BitVec 4) (ms : Bool) (addr : BitVec 16)
  | stqa (q : BitVec 2) (ms : Bool) (addr : BitVec 16)
  | add (a : AluArgs)
  | sub (a : AluArgs)
  | adds (a : AluArgs)
  | subs (a : AluArgs)
  | and (a : AluArgs)
  | or (a : AluArgs)
  | xor (a : AluArgs)
  | ash (a : AluArgs)
  | lsh (a : AluArgs)
  | min (a : AluArgs)
  | max (a : AluArgs)
  | abs (a : AluArgs)
  | neg (a : AluArgs)
  | cmp (a : AluArgs)
  | mov (a : AluArgs)
  | expd (a : AluArgs)
  | setr (reg : BitVec 6) (imm : BitVec 32)
  | movr (reg : BitVec 6) (d : BitVec 4)
  | getr (reg : BitVec 6) (d : BitVec 4)
  | modp (a : AddrSpec)
  | srd (d : BitVec 4) (slot : SlotSrc)
  | swr (d : BitVec 4) (slot : SlotSrc)
  | crdd (csd : BitVec 6) (i : CoilIdx) (q : BitVec 2)
  | crdm (csd : BitVec 6) (i : CoilIdx) (ms : Bool) (addr : BitVec 16)
  | cwrd (csd : BitVec 6) (i : CoilIdx) (q : BitVec 2)
  | cwrm (csd : BitVec 6) (i : CoilIdx) (ms : Bool) (addr : BitVec 16)
  | tclip (d : BitVec 4) (sel : BitVec 2)
  | tor (d a mask : BitVec 4)
  | tset (d val mask : BitVec 4)
  | tcpy (d a : BitVec 4)
  | ttst (d mask : BitVec 4)
  | fclr (sel : BitVec 2)
  | nop
  | wait
  | bra (tgt : BitVec 12)
  | bcc (cond : BitVec 4) (tgt : BitVec 12)
  | loop (last : BitVec 12) (count : BitVec 16)
  | loopr (last : BitVec 12) (d : BitVec 4)
  | brk
deriving DecidableEq, Repr


/-- One BCK period of a serial input: the levels of FS and D at the rising and at the falling edge of BCK (10 R203). -/
structure SapBck where
  riseFs : Bool
  riseD : Bool
  fallFs : Bool
  fallD : Bool
deriving DecidableEq, Repr

/-- What the frequency gate of one reference slot counted: the events' frequency in units of 10^-12 Hz, as the XO at its
nominal frequency would have it (08 R164). -/
structure RefMeas where
  slot : Fin 16
  freq : Nat
deriving DecidableEq, Repr

/-- What the gates of one second counted: the reference slots, and the offset of the tether's frame rate against the XO in
10^-12, which a chip in TETHER follows (08 R164, R173). -/
structure SecondMeas where
  slots : List RefMeas
  tether : Int
deriving DecidableEq, Repr

/-- Which event a reference slot has: on a FREF_IN slot whether it is the PPS_IN edge, and on a VSYNC slot the frame periods
since the slot's last event (08 R162). -/
structure RefEdge where
  pps : Bool
  frames : Nat
deriving DecidableEq, Repr

/-- A frame that an AES3 or MADI receiver brings: the phase of the tick at which it completes, its length in ECLK, and
whether its coding was good (10 R207, R213, R215). -/
structure FrameRx where
  phase : BitVec 15
  period : Nat
  ok : Bool
deriving DecidableEq, Repr

/-- The instant of an overcurrent assertion: the carrier period of the tick and the RCLK cycle in it (11 R240). -/
structure OcInstant where
  period : Fin 16
  cycle : BitVec 12
deriving DecidableEq, Repr

/-- The timestamp point of a received frame, the first bit after its SFD (09 R189): ticks before the completion's, cycle of
its tick, sixteenth of that cycle, and SC cycles from there to the completion. -/
structure SfdPoint where
  back : Nat
  eclk : BitVec 15
  sixteenth : BitVec 4
  sc : Nat
deriving DecidableEq, Repr

/-- When a lane sends its frame: the phase of the marker instant, and the idle blocks or characters that have gone since
the frame before (13 R279). -/
structure FlxSend where
  phase : BitVec 12
  idle : BitVec 16
deriving DecidableEq, Repr

/-- A stored word that an upset hits (03 R72, 16 R365): a strand slot of the current bank, a word of X or Y (true), an
instruction, a quad of the coil pool (its upper codeword: true), an entry of gain memory, 64 bits of working RAM. -/
inductive UpsetAt where
  | strand (slot : Fin 8192)
  | xy (e : Fin 192) (y : Bool) (a : Fin 65536)
  | prog (e : Fin 192) (bank : Bool) (a : Fin 4096)
  | coil (q : Fin 4194304) (high : Bool)
  | gain (i : Fin 2097152)
  | ram (k : Fin 131072)
deriving DecidableEq, Repr

/-- What a lane of the PRBS role does in a tick: the bits that its receiver sampled, the first first, and how many bit times
its transmitter has gone through (13 R295). -/
structure PrbsIn where
  lane : Fin 16
  bits : List Bool
  sent : Nat
deriving DecidableEq, Repr

/-- What a tick boundary brings from outside: the bits that the decimation channels have taken in the tick, by channel
(an absent list counts as zeros); the SC cycles since the last instant that a command named; the stored words that have
been upset, with whether the error is double; the PEER_ACTIVE pin; whether a standby's pattern check failed;
and what the lanes of the PRBS role did. -/
structure TickIn where
  bits : List (List Bool) := []
  sc : Nat := 0
  upsets : List (UpsetAt × Bool) := []
  peerActive : Bool := false
  patternBad : Bool := false
  prbs : List PrbsIn := []
deriving DecidableEq, Repr

/-- The owner of a time trigger (09 R197): a braid, the lay-plan switch, a pending commit, a start group. -/
inductive TrigOwner where
  | braid (b : Fin 64)
  | plan
  | commit (c : Fin 16)
  | group (g : Fin 16)
deriving DecidableEq, Repr

/-- A direction of a serial port whose clock is watched (10 R209). -/
inductive SerialDir where
  | sapRx (p : Fin 24)
  | sapTx (p : Fin 24)
  | aesRx (n : Fin 8)
  | madiRx (m : Fin 2)
deriving DecidableEq, Repr


/-- What the partner tells at a tether start (14 R302): the SHA-256 of its running image, part, revision, side,
whether its lay plan selects PAIRED, its live family and multiple, and its tick count now (02 R41). -/
structure PeerInfo where
  image : Nat
  part : BitVec 16
  rev : BitVec 8
  side : Bool
  paired : Bool
  fam441 : Bool
  mult : BitVec 2
  tick : Nat
deriving DecidableEq, Repr

/-- A domain as the ACTIVE holds it for a mirror boundary (09 R188): D_d and INC_d in 2^-32 ns, OFS_d, and
whether it runs on STEP. -/
structure MirrorDomain where
  d : Nat
  inc : Nat
  ofs : Int
  step : Bool
deriving DecidableEq, Repr

/-- What resync step 1 copies that has no fabric address of its own (14 R321): the hitch tables (true: egress) by entry,
the matrix rows and lists by number, initial registers by engine, live parameter words by 512 × engine + word, and
register words of the blocks' settings. -/
structure BulkItems where
  hitches : List (Bool × Nat × Word × Word) := []
  rows : List (Nat × RowSet) := []
  lists : List (Nat × ColList) := []
  inits : List (Nat × EnginePlan) := []
  pages : List (Nat × Word) := []
  regs : List (Nat × Word) := []
deriving DecidableEq, Repr

/-- The mirror items of R313 as they arrive: the compared ones, the four domains, egress templates by address,
register words of the audio blocks, and in step 1 of a resync what that step copies that has no fabric address (R321). -/
structure MirrorItems where
  compared : List Nat
  domains : List MirrorDomain
  templates : List (Nat × List Byte)
  counters : List (Nat × Word)
  bulk : BulkItems := {}
deriving DecidableEq, Repr

/-- The state that a replay copy carries, as the ACTIVE held it at the end of tick E (14 R323): row gates, NOM
units, the zero-crossing waits of columns, and whipping stages. -/
structure ReplayItems where
  rows : List (Nat × Row)
  noms : List (Nat × NomUnit)
  waits : List (Nat × Bool)
  whips : List (Nat × Whip)
deriving DecidableEq, Repr

/-- The straps as the node samples them (17 R374); `bad`: the samples of a strap disagreed to the end, and the first code
of its row was taken (19 R415). -/
structure Straps where
  bootSel : BitVec 2 := 0
  side : Bool := false
  test : BitVec 2 := 0
  bad : Bool := false
deriving DecidableEq, Repr

/-- What the OTP fuses hold (17 R376, R383, R385, 18 R405): the SHA-256 of the signing key, whether unsigned images
fail, the Pelond key of KEYID 0, the station address of MAC_M, its rate and IPv4 address in the no-image state,
the PCIe role, temperature grade, serial number and PCI vendor. -/
structure Otp where
  keyHash : Nat := 0
  requireSig : Bool := false
  pelKey : Nat := 0
  macAddr : BitVec 48 := 0
  mgmtRate : BitVec 2 := 0
  mgmtIp : BitVec 32 := 0
  pcieMode : BitVec 2 := 0
  grade : BitVec 2 := 0
  serial : BitVec 64 := 0
  vendor : BitVec 16 := 0
deriving DecidableEq, Repr

/-- How a step of the start ends (17 R376): as the table says; step 2 with the fuses read (none: an uncorrectable
word) and the straps; step 4 with an attempt that failed; step 5 with its first failing memory, and whether that
is the boot ROM or the working RAM; step 6 with the lanes that failed; the flash of step 7 as found, its bytes and
whether it stays in 1S-1S-1S mode. -/
inductive StepEvent where
  | done
  | fuses (otp : Option Otp) (straps : Straps)
  | rootFail
  | bist (mem : BitVec 8) (core : Bool)
  | lanes (failed : BitVec 16)
  | flash (size : Nat) (oneS : Bool)
deriving DecidableEq, Repr

/-- The commands of the node: one constructor per row of the table of operations and events. -/
inductive Instr where
  /-- TICK_BOUNDARY (R20): At each tick boundary the strand-store banks exchange roles, and the items due at that boundary are applied in the order of R32. -/
  | tickBoundary (x : TickIn)
  /-- EXCHANGE_WINDOW (R113): At ECLK D of every tick the exchange window opens: write-queue drain, parameter copy, substitution, scrub, digest and shadow commits. -/
  | exchangeWindow
  /-- HOLD_LIMIT_REACHED (R22): A run of missing ticks passes STR_CTRL.HOLDMAX and the HOLD substitute falls to zero. -/
  | holdLimitReached (slot : Fin 8192)
  /-- STRAND_WINDOW_READ (R23): A fabric read of the strand store window returns the current bank, or a substitute on a double-bit error. -/
  | strandWindowRead (slot : Fin 8192) (part : Fin 3)
  /-- STRAND_WINDOW_WRITE (R24): A fabric write to a HOST slot goes to the next bank; any other window write is refused. -/
  | strandWindowWrite (slot : Fin 8192) (sample tag : Option Word)
  /-- HIT_W1_QUEUE (R31): A write of STR_HIT_W1 places the staged entry in the 256-entry change queue, or sets OVF when the queue is full. -/
  | hitW1Queue (v : Word)
  /-- HIT_COMMIT (R31): STR_HIT_COMMIT.COMMIT arms the application of the queued hitch changes at the next tick boundary. -/
  | hitCommit (v : Word)
  /-- HIT_DISCARD (R42): STR_HIT_COMMIT.DISCARD empties the hitch change queue unless a commit is pending. -/
  | hitDiscard (v : Word)
  /-- HIT_APPLY (R31): At the armed boundary all queued hitch changes apply together, or the whole commit is refused. -/
  | hitApply
  /-- HITCH_RAMP_DONE (R33): A 16-tick hitch mute or unmute ramp ends. -/
  | hitchRampDone (egress : Bool) (h : Fin 8192)
  /-- BRAID_ARM (R35): A write of ARM to an IDLE braid selects its start tick by TRIGSRC, or is refused. -/
  | braidArm (b : Fin 64) (v : Word)
  /-- BRAID_STOP (R37): STOP ramps a running braid down to IDLE, or cancels an armed braid. -/
  | braidStop (b : Fin 64) (v : Word)
  /-- START_IN_EDGE (R35): A filtered edge on START_IN fixes the start tick of every braid armed with TRIGSRC 0b01. -/
  | startInEdge (falling : Bool)
  /-- BRAID_START (R35): At the start tick every member's frame counter is 0 and every member writes or sends its first frame. -/
  | braidStart (b : Fin 64)
  /-- BRAID_REJOIN (R39): After REJOIN_FRAMES clean braid frames, the braid returns to RUNNING and every member ramps in. -/
  | braidRejoin (b : Fin 64)
  /-- TETHER_UNSETTLED_END (R41): 64 ticks after a takeover, UNSETTLED ends on a switched ASRC TETHER hitch. -/
  | tetherUnsettledEnd (h : Fin 8192)
  /-- MAC (R85): Multiply-accumulate on the operand buses in the selected sharing and accumulate modes. -/
  | mac (e : Fin 192) (a : MacArgs)
  /-- MVA (R86): Move one accumulator to a D register with scale, rounding and saturation. -/
  | mva (e : Fin 192) (a : MvaArgs)
  /-- MVAQ (R86): Move all four accumulators to a D quad. -/
  | mvaq (e : Fin 192) (a : MvaqArgs)
  /-- ACLR (R87): Clear an accumulator. -/
  | aclr (e : Fin 192) (k : BitVec 2)
  /-- ACPY (R87): Copy one accumulator to another. -/
  | acpy (e : Fin 192) (k j : BitVec 2)
  /-- AADD (R87): Add two accumulators with saturation. -/
  | aadd (e : Fin 192) (k j : BitVec 2)
  /-- ASUB (R87): Subtract two accumulators with saturation. -/
  | asub (e : Fin 192) (k j : BitVec 2)
  /-- ANEG (R87): Negate an accumulator with saturation. -/
  | aneg (e : Fin 192) (k : BitVec 2)
  /-- AABS (R87): Take the absolute value of an accumulator with saturation. -/
  | aabs (e : Fin 192) (k : BitVec 2)
  /-- NORM (R57): Shift an accumulator by a D-register count. -/
  | norm (e : Fin 192) (k : BitVec 2) (d : BitVec 4)
  /-- ASHI (R87): Shift an accumulator by an immediate count. -/
  | ashi (e : Fin 192) (k : BitVec 2) (imm : BitVec 8)
  /-- DTOA (R52): Load an accumulator from a scaled D register. -/
  | dtoa (e : Fin 192) (k : BitVec 2) (d : BitVec 4) (scs : BitVec 2)
  /-- DADD (R87): Add a scaled D register to an accumulator. -/
  | dadd (e : Fin 192) (k : BitVec 2) (d : BitVec 4) (scs : BitVec 2)
  /-- EXPA (R56): Extract the exponent of an accumulator into a D register. -/
  | expa (e : Fin 192) (k : BitVec 2) (d : BitVec 4)
  /-- ATST (R87): Set Z and N from an accumulator. -/
  | atst (e : Fin 192) (k : BitVec 2)
  /-- LDW (R88): Load one word from X or Y memory through a pointer. -/
  | ldw (e : Fin 192) (d : BitVec 4) (a : AddrSpec)
  /-- LDQ (R88): Load one quad from X or Y memory through a pointer. -/
  | ldq (e : Fin 192) (q : BitVec 2) (a : AddrSpec)
  /-- STW (R88): Store one word to X or Y memory through a pointer. -/
  | stw (e : Fin 192) (d : BitVec 4) (a : AddrSpec)
  /-- STQ (R88): Store one quad to X or Y memory through a pointer. -/
  | stq (e : Fin 192) (q : BitVec 2) (a : AddrSpec)
  /-- LDWA (R88): Load one word from an absolute address. -/
  | ldwa (e : Fin 192) (d : BitVec 4) (ms : Bool) (addr : BitVec 16)
  /-- LDQA (R88): Load one quad from an absolute address. -/
  | ldqa (e : Fin 192) (q : BitVec 2) (ms : Bool) (addr : BitVec 16)
  /-- STWA (R88): Store one word to an absolute address. -/
  | stwa (e : Fin 192) (d : BitVec 4) (ms : Bool) (addr : BitVec 16)
  /-- STQA (R88): Store one quad to an absolute address. -/
  | stqa (e : Fin 192) (q : BitVec 2) (ms : Bool) (addr : BitVec 16)
  /-- ADD (R89): Integer add modulo 2^32. -/
  | add (e : Fin 192) (a : AluArgs)
  /-- SUB (R89): Integer subtract modulo 2^32. -/
  | sub (e : Fin 192) (a : AluArgs)
  /-- ADDS (R89): Add with saturation to s.31. -/
  | adds (e : Fin 192) (a : AluArgs)
  /-- SUBS (R89): Subtract with saturation to s.31. -/
  | subs (e : Fin 192) (a : AluArgs)
  /-- AND (R89): Bitwise AND. -/
  | and (e : Fin 192) (a : AluArgs)
  /-- OR (R89): Bitwise OR. -/
  | or (e : Fin 192) (a : AluArgs)
  /-- XOR (R89): Bitwise XOR. -/
  | xor (e : Fin 192) (a : AluArgs)
  /-- ASH (R89): Arithmetic shift with saturation. -/
  | ash (e : Fin 192) (a : AluArgs)
  /-- LSH (R89): Logical shift. -/
  | lsh (e : Fin 192) (a : AluArgs)
  /-- MIN (R89): Signed minimum. -/
  | min (e : Fin 192) (a : AluArgs)
  /-- MAX (R89): Signed maximum. -/
  | max (e : Fin 192) (a : AluArgs)
  /-- ABS (R89): Absolute value with saturation. -/
  | abs (e : Fin 192) (a : AluArgs)
  /-- NEG (R89): Negation with saturation. -/
  | neg (e : Fin 192) (a : AluArgs)
  /-- CMP (R89): Set flags from a − b without writing a register. -/
  | cmp (e : Fin 192) (a : AluArgs)
  /-- MOV (R89): Move a register with its tag, or load an immediate (LDI). -/
  | mov (e : Fin 192) (a : AluArgs)
  /-- EXPD (R56): Extract the exponent of a D register. -/
  | expd (e : Fin 192) (a : AluArgs)
  /-- SETR (R90): Write an AGU register from an immediate. -/
  | setr (e : Fin 192) (reg : BitVec 6) (imm : BitVec 32)
  /-- MOVR (R90): Write an AGU register from a D register. -/
  | movr (e : Fin 192) (reg : BitVec 6) (d : BitVec 4)
  /-- GETR (R90): Read an AGU register into a D register. -/
  | getr (e : Fin 192) (reg : BitVec 6) (d : BitVec 4)
  /-- MODP (R90): Update a pointer by an address specifier with no memory access. -/
  | modp (e : Fin 192) (a : AddrSpec)
  /-- SRD (R66): Read a strand's sample and tag from the current bank into a D register. -/
  | srd (e : Fin 192) (d : BitVec 4) (slot : SlotSrc)
  /-- SWR (R67): Place a strand write to the next bank in the engine's write queue. -/
  | swr (e : Fin 192) (d : BitVec 4) (slot : SlotSrc)
  /-- CRDD (R92): Issue a coil read into a D quad. -/
  | crdd (e : Fin 192) (csd : BitVec 6) (idx : CoilIdx) (q : BitVec 2)
  /-- CRDM (R92): Issue a coil read into an X or Y quad. -/
  | crdm (e : Fin 192) (csd : BitVec 6) (idx : CoilIdx) (ms : Bool) (addr : BitVec 16)
  /-- CWRD (R92): Issue a coil write from a D quad. -/
  | cwrd (e : Fin 192) (csd : BitVec 6) (idx : CoilIdx) (q : BitVec 2)
  /-- CWRM (R92): Issue a coil write from an X or Y quad. -/
  | cwrm (e : Fin 192) (csd : BitVec 6) (idx : CoilIdx) (ms : Bool) (addr : BitVec 16)
  /-- TCLIP (R93): Copy the selected sticky flags into CLIPPED and clear them. -/
  | tclip (e : Fin 192) (d : BitVec 4) (sel : BitVec 2)
  /-- TOR (R93): OR masked tag bits of one register into another register's tag. -/
  | tor (e : Fin 192) (d a mask : BitVec 4)
  /-- TSET (R93): Set masked tag bits. -/
  | tset (e : Fin 192) (d val mask : BitVec 4)
  /-- TCPY (R93): Copy a tag. -/
  | tcpy (e : Fin 192) (d a : BitVec 4)
  /-- TTST (R93): Test masked tag bits into Z. -/
  | ttst (e : Fin 192) (d mask : BitVec 4)
  /-- FCLR (R93): Clear the selected sticky flags. -/
  | fclr (e : Fin 192) (sel : BitVec 2)
  /-- NOP (R94): Do nothing for one cycle. -/
  | nop (e : Fin 192)
  /-- WAIT (R99): End the tick's program and close every loop level. -/
  | wait (e : Fin 192)
  /-- BRA (R95): Branch unconditionally after two delay slots. -/
  | bra (e : Fin 192) (tgt : BitVec 12)
  /-- BCC (R95): Branch on a condition after two delay slots. -/
  | bcc (e : Fin 192) (cond : BitVec 4) (tgt : BitVec 12)
  /-- LOOP (R96): Open a loop level with an immediate count. -/
  | loop (e : Fin 192) (last : BitVec 12) (count : BitVec 16)
  /-- LOOPR (R96): Open a loop level with a count taken from a register. -/
  | loopr (e : Fin 192) (last : BitVec 12) (d : BitVec 4)
  /-- BRK (R97): Close the innermost active loop level. -/
  | brk (e : Fin 192)
  /-- ILLEGAL_INSTRUCTION (R77): An illegal instruction executes as NOP, sets ILL and raises the engine fault source. -/
  | illegalInstruction (e : Fin 192)
  /-- LOOP_CLOSE (R96): A loop level's count runs out at its END instruction and issue continues at END + 1. -/
  | loopClose (e : Fin 192)
  /-- STRAND_QUEUE_DRAIN (R67): The engine's strand write queue drains its oldest entry in its drain cycle, or in the first 64 cycles of the exchange window. -/
  | strandQueueDrain (e : Fin 192)
  /-- COIL_BANK_ACCESS (R70): A coil access reaches its pool bank at ECLK t + 24 and takes effect in bank order. -/
  | coilBankAccess (e : Fin 192)
  /-- COIL_READ_DELIVERY (R70): A coil read's quad is written to its destination and becomes readable from t + 48. -/
  | coilReadDelivery (e : Fin 192)
  /-- ENGINE_OVERRUN (R100): An engine reaches its WAIT deadline without WAIT: issue stops and its slots are substituted. -/
  | engineOverrun (e : Fin 192)
  /-- SHADOW_PAGE_WRITE (R61): A fabric write to X words 0–511 lands in the shadow parameter page. -/
  | shadowPageWrite (e : Fin 192) (w : Fin 512) (v : Word)
  /-- ENGINE_WINDOW_WRITE (R62): A fabric write to engine X, Y or program memory outside the parameter page is served in free cycles, or refused. -/
  | engineWindowWrite (e : Fin 192) (w : Fin 262144) (v : Word)
  /-- PCOMMIT (R61): ENG_eee_CTRL.PCOMMIT arms a copy of the shadow parameter page. -/
  | pcommit (e : Fin 192) (v : Word)
  /-- PARAM_COPY (R61): In the exchange window the engine snapshots the shadow page and copies it into the live page over 128 cycles. -/
  | paramCopy (e : Fin 192)
  /-- PCM_GO (R108): ENG_PCM_GO makes every masked engine copy its shadow page in the same exchange window. -/
  | pcmGo (v : Word)
  /-- ENGINE_RELOAD (R121): ENG_eee_CTRL.RELOAD block-resets an engine and reloads it from the reserved copy. -/
  | engineReload (e : Fin 192) (v : Word)
  /-- RELOAD_DONE (R121): A reload completes, and at the next boundary the engine returns to RUN and its outputs ramp in. -/
  | reloadDone (e : Fin 192)
  /-- BYPASS_XFADE_END (R104): The 64-tick bypass crossfade of a knot ends and MUTING clears. -/
  | bypassXfadeEnd (kid : Nat)
  /-- LP_LOAD (R116): ENG_LP_CTRL.LOAD starts every engine's load unit on the other bank, or is refused. -/
  | lpLoad (v : Word) (plan : LayPlan)
  /-- LP_LOAD_DONE (R116): A lay-plan load ends with OTHER set to READY or BAD. -/
  | lpLoadDone (ok : Bool)
  /-- LP_ARM (R117): ENG_LP_CTRL.ARM selects the switch tick S, or is refused. -/
  | lpArm (v : Word)
  /-- LP_DISARM (R119): DISARM cancels an armed switch, and slots already ramped out ramp in again. -/
  | lpDisarm (v : Word)
  /-- LP_RAMP_OUT_START (R118): L ticks before S, slots of changed knots begin ramping out. -/
  | lpRampOutStart
  /-- LP_SWITCH (R118): At S the new banks become live, or the switch is refused and the old plan stays live. -/
  | lpSwitch
  /-- LP_RAMP_IN_END (R118): L ticks after S, the ramp-in of RAMP slots ends. -/
  | lpRampInEnd
  /-- LP_REFRESH_DONE (R118): The refresh of the outgoing bank ends and OTHER reads READY. -/
  | lpRefreshDone
  /-- ROW_BIND_WRITE (R126): A write of MTX_ROW_W0 stages a row binding, or is refused while the row is in use. -/
  | rowBindWrite (v : Word)
  /-- ROW_BIND_APPLY (R126): A staged row binding takes effect at the next tick boundary and its gate starts closed. -/
  | rowBindApply (r : Fin 2304)
  /-- CL_APPEND (R131): A write of MTX_CL_W1 appends an entry to the open change list. -/
  | clAppend (v : Word)
  /-- CL_DISCARD (R147): MTX_CM_GO.DISCARD empties the open change list. -/
  | clDiscard (v : Word)
  /-- MTX_COMMIT (R132): MTX_CM_GO.COMMIT accepts the open list as a pending commit, or refuses it. -/
  | mtxCommit (v : Word)
  /-- COMMIT_START (R133): A pending commit starts its columns at its start tick. -/
  | commitStart (id : Fin 16)
  /-- SPLICE_ZC_START (R137): A ZC column starts its splice in the tick after its first zero crossing. -/
  | spliceZcStart (c : Fin 2304)
  /-- SPLICE_ZC_TIMEOUT (R137): A ZC column with no zero crossing starts its splice at start + TIMEOUT. -/
  | spliceZcTimeout (c : Fin 2304)
  /-- SPLICE_END (R135): At S + L a splice ends, and only the new list is read. -/
  | spliceEnd (c : Fin 2304)
  /-- CUT_ZC (R139): A fallback cut switches to the new list after a zero crossing. -/
  | cutZc (c : Fin 2304)
  /-- CUT_DIP_START (R139): A fallback cut with no zero crossing within TIMEOUT starts a 32-tick dip. -/
  | cutDipStart (c : Fin 2304)
  /-- DIP_END (R139): A dip's ramp back in ends. -/
  | dipEnd (c : Fin 2304)
  /-- NOM_GATE_CLOSE (R140): A row gate closes after HOLD ticks below CLOSE. -/
  | nomGateClose (r : Fin 2304)
  /-- NOM_RAMP_END (R142): A NOM ramp of RAMP ticks ends at G*. -/
  | nomRampEnd (u : Fin 256)
  /-- WHIP_COMMIT (R148): EGR_WCOMMIT.COMMIT arms the staged whipping values. -/
  | whipCommit (v : Word)
  /-- WHIP_APPLY (R353): Staged whipping values are copied into the live bank at the tick boundary. -/
  | whipApply
  /-- WHIP_ZC_CHANGE (R144): A mute, unmute or gain change applies at a zero crossing of a. -/
  | whipZcChange (w : Fin 2304)
  /-- WHIP_ZC_TIMEOUT (R144): With no zero crossing within ZCTO, the change applies as a 16-tick ramp. -/
  | whipZcTimeout (w : Fin 2304)
  /-- WHIP_RAMP_END (R144): A 16-tick whipping ramp ends. -/
  | whipRampEnd (w : Fin 2304)
  /-- WHIP_DC_FAULT (R143): After DCTIME ticks of DC, the detector raises EGR_DC, and mutes the instance when DCMUTE is set. -/
  | whipDcFault (w : Fin 2304)
  /-- SIDETONE_GAIN_RAMP_END (R145): A 16-tick side-tone gain ramp ends. -/
  | sidetoneGainRampEnd (m : Fin 64) (k : Fin 4)
  /-- XO_LOSS (R161): XO loss stops the RCLK clocks, puts pins in reset state, asserts FAULT_N and holds the core in reset. -/
  | xoLoss (eclk : BitVec 15) (sixteenth : BitVec 4) (sc : Nat)
  /-- ROOT_UNLOCK (R161): Root synthesiser unlock acts as XO loss. -/
  | rootUnlock (eclk : BitVec 15) (sixteenth : BitVec 4) (sc : Nat)
  /-- XO_RECOVERY (R161): After 10 ms of a good XO the root relocks and a warm start follows. -/
  | xoRecovery
  /-- FORCE_RELOCK (R179): CLK_ROOT.FORCE_RELOCK relocks the synthesiser with the outputs stopped. -/
  | forceRelock (v : Word) (eclk : BitVec 15) (sixteenth : BitVec 4) (sc : Nat)
  /-- REF_EVENT (R163): A reference slot event passes the phase window to the DPLL and monitors, or is discarded as a glitch. -/
  | refEvent (n : Fin 16) (dep phase : Int) (edge : RefEdge)
  /-- REF_PHASE_JUMP (R163): After 16 consecutive discarded events a slot declares a phase jump. -/
  | refPhaseJump (n : Fin 16)
  /-- REF_ACTIVITY_LOST (R162): A slot's activity timeout expires and the slot goes to NOACT. -/
  | refActivityLost (n : Fin 16)
  /-- PPS_MISSING (R162): No PPS_IN edge for 1.5 s sets PPS_LOST. -/
  | ppsMissing (n : Fin 16)
  /-- REF_PTP_ERR_WRITE (R162): The servo writes a domain phase error as a slot event, or reports the servo unlocked. -/
  | refPtpErrWrite (d : Fin 4) (v : Word) (dep : Int)
  /-- REF_MEASUREMENT (R164): Each slot's 1 s frequency gate delivers a measurement. -/
  | refMeasurement (gates : SecondMeas)
  /-- DPLL_ACQUIRE_LOCK (R168): After 100 ms within 100 ns, ACQUIRE becomes LOCKED. -/
  | dpllAcquireLock
  /-- DPLL_SLEW_DONE (R169): A slew reaches the slot frequency and the DPLL pulls phase, or builds out. -/
  | dpllSlewDone
  /-- DPLL_PULL_DONE (R168): The phase error closes and PULLING becomes LOCKED. -/
  | dpllPullDone (err : Int)
  /-- ACQ_TIMEOUT (R174): No slot qualifies within ACQ_TMO and the node unmutes in FREERUN. -/
  | acqTimeout
  /-- FAMREQ (R175): REF_CTRL.FAMREQ requests a change of rate family at tick F, or is refused. -/
  | famreq (v : Word)
  /-- FAMILY_RAMP_OUT_START (R175): At tick F every output starts a 16-tick ramp to zero. -/
  | familyRampOutStart
  /-- FAMILY_LAST_OLD_TICK (R175): At F+16 every splice, cut and dip completes on its new list. -/
  | familyLastOldTick
  /-- RELOCK_START (R175): At F+17 the tick-domain clocks stop and the root changes ratio. -/
  | relockStart (sc : Nat)
  /-- ROOT_RELOCKED (R175): The root locks at the new ratio and the lay plan restarts warm. -/
  | rootRelocked
  /-- FIRST_NEW_TICK (R175): The first new-rate tick resumes the clocks, rescales INC and restarts the streams. -/
  | firstNewTick (x : TickIn)
  /-- FAMILY_HOLD_END (R175): After HOLD_TICKS the outputs ramp in. -/
  | familyHoldEnd
  /-- FAMILY_RAMP_IN_END (R175): The ramp-in ends and MUTING ends. -/
  | familyRampInEnd
  /-- INC_WRITE (R183): A write of TIME_d_INC is range-checked and takes effect at the next tick boundary. -/
  | incWrite (d : Fin 4) (hi : Bool) (v : Word)
  /-- SC_INC_WRITE (R185): A write of TIME_SC_INC trims the stepping counter within 8 ns, or is refused. -/
  | scIncWrite (hi : Bool) (v : Word)
  /-- TIME_ADJ_GO (R187): TIME_d_ADJ_GO takes an adjustment, or refuses it. -/
  | timeAdjGo (d : Fin 4) (v : Word)
  /-- TIME_ADJ_APPLY (R187): A pending adjustment applies at the boundary, or within 1 µs on STEP, or is refused. -/
  | timeAdjApply (d : Fin 4) (sc : Nat)
  /-- TS_SNAP (R193): A write of TS_SNAP clears VALID and requests a snapshot of a domain or SC. -/
  | tsSnap (m : Fin 2) (v : Word)
  /-- SNAP_CAPTURE (R193): The snapshot words change together and VALID sets. -/
  | snapCapture (m : Fin 2) (eclk : BitVec 15) (sixteenth : BitVec 4) (sc : Nat)
  /-- TS2_READ (R193): A read of TS_2 returns the word and clears VALID. -/
  | ts2Read (m : Fin 2)
  /-- PPSALIGN (R196): TIME_d_CTRL.PPSALIGN arms an alignment to the next PPS_IN boundary. -/
  | ppsalign (d : Fin 4) (v : Word)
  /-- PPS_ALIGN (R196): At the next PPS boundary the domain's nanoseconds are zeroed. -/
  | ppsAlign (d : Fin 4)
  /-- TRIGGER_RESOLVE (R197): A PTP-time trigger within 8,192.5 ticks resolves to a fixed tick S, or is found late. -/
  | triggerResolve (o : TrigOwner) (sc : Nat)
  /-- SAP_RX_FRAME (R207): A received SAP frame completes and enters the two-frame buffer, or is discarded as malformed. -/
  | sapRxFrame (p : Fin 24) (phase : BitVec 15) (period : Nat) (before : SapBck) (frame next : List SapBck)
  /-- SAP_CLOCK_LOST (R209): No BCK or FS edge for 2N ECLK puts the direction in CLKLOST. -/
  | sapClockLost (d : SerialDir)
  /-- SAP_RATE_WINDOW (R209): A 64-frame rate window completes, entering or leaving RATEMIS. -/
  | sapRateWindow (d : SerialDir) (eclk : Nat)
  /-- SAP_TX_FRAME (R208): A slave transmit frame begins and sends the last loaded frame, repeating or skipping as needed. -/
  | sapTxFrame (p : Fin 24) (phase : BitVec 15) (ok : Bool)
  /-- SAP_CFG_WRITE (R210): A write of SAP RXCFG or TXCFG is checked and staged for the next boundary. -/
  | sapCfgWrite (p : Fin 24) (tx : Bool) (v : Word)
  /-- SAP_CFG_APPLY (R210): A new SAP configuration takes effect and the direction restarts in ACQUIRE. -/
  | sapCfgApply (p : Fin 24) (tx : Bool)
  /-- HITCH_ZC_CROSSING (R212): A gated SAP hitch finds its zero crossing and its ramp starts in the next tick. -/
  | hitchZcCrossing (h : Fin 8192) (prev : Word)
  /-- HITCH_ZC_TIMEOUT (R212): A gated hitch's TIMEOUT expires and its ramp starts. -/
  | hitchZcTimeout (h : Fin 8192)
  /-- AES_RX_FRAME (R213): An AES3 frame is decoded, checked for parity and placed. -/
  | aesRxFrame (n : Fin 8) (rx : FrameRx) (z : Bool) (a b : Word)
  /-- AES_LOCK_LOST (R213): After 4 missing or violating frames the receiver loses lock. -/
  | aesLockLost (d : SerialDir)
  /-- AES_TX_CS_APPLY (R214): New transmit channel status takes effect at the next block start. -/
  | aesTxCsApply (n : Fin 8)
  /-- MADI_RX_FRAME (R215): A MADI frame is decoded and its channels placed. -/
  | madiRxFrame (m : Fin 2) (rx : FrameRx) (chans : List Word)
  /-- ASRC_LOCKED (R216): An ASRC lane's ratio estimate settles and the lane enters LOCKED. -/
  | asrcLocked (l : Fin 64) (rate : Nat)
  /-- ASRC_FAULT (R216): An input outside 32–192 kHz puts the lane in FAULT. -/
  | asrcFault (l : Fin 64) (rate : Nat)
  /-- DEC_SWITCH (R224): A channel start or a CFG change clears the filter state at the boundary. -/
  | decSwitch (c : Fin 96)
  /-- DEC_SETTLED (R224): The UNSETTLED outputs of a channel are used up. -/
  | decSettled (c : Fin 96)
  /-- AMP_ENABLE (R238): EN = 1 starts a channel from OFF into DIAG_WAIT or START. -/
  | ampEnable (n : Fin 32) (v : Word)
  /-- AMP_DISABLE (R238): EN = 0 stops a channel by its stop path. -/
  | ampDisable (n : Fin 32) (v : Word)
  /-- AMP_RELAY_CLOSE (R238): 1 ms after PSE_nn rises, RLY_nn rises. -/
  | ampRelayClose (n : Fin 32)
  /-- AMP_UNMUTE_START (R238): After RLYT, or a diagnostic PASS, the channel enters UNMUTE. -/
  | ampUnmuteStart (n : Fin 32)
  /-- AMP_RUN_ENTRY (R238): After 20 ms of UNMUTE the channel enters RUN. -/
  | ampRunEntry (n : Fin 32)
  /-- AMP_STOP_RAMP_END (R238): 6 ticks after the stop ramp ends, RLY_nn falls. -/
  | ampStopRampEnd (n : Fin 32)
  /-- AMP_PSE_OFF (R238): RLYT after the relay opens, PSE_nn falls and the channel is OFF. -/
  | ampPseOff (n : Fin 32)
  /-- AMP_DIAG_ENTER (R239): A waiting channel takes a free diagnostic place and enters DIAG. -/
  | ampDiagEnter (n : Fin 32)
  /-- AMP_DIAG_PHASE_END (R239): A diagnostic phase ends and the next begins. -/
  | ampDiagPhaseEnd (n : Fin 32)
  /-- RUNDIAG (R239): AMP_CH_nn_CTRL.RUNDIAG runs one diagnostic from OFF. -/
  | rundiag (n : Fin 32) (v : Word)
  /-- AMP_CLR (R241): CTRL.CLR moves a LOCKED_OFF channel to OFF and resets RETRIES. -/
  | ampClr (n : Fin 32) (v : Word)
  /-- AMP_MOD_WRITE (R230): A write of AMP_MOD or AMP_NS_i is checked against the clamp bound and the channel states. -/
  | ampModWrite (r : Fin 6) (v : Word)
  /-- OC_ASSERT (R240): A filtered OC_nn assertion drives both legs low for the rest of the carrier period. -/
  | ocAssert (n : Fin 32) (instant : OcInstant)
  /-- AMP_LATCH_RELAY_OPEN (R241): 2 ms after PSE_nn falls, RLY_nn falls. -/
  | ampLatchRelayOpen (n : Fin 32)
  /-- AMP_RETRY (R241): 1 s after PSE_nn falls, a latched channel reruns the diagnostic. -/
  | ampRetry (n : Fin 32)
  /-- AMP_RETRY_RESET (R241): After 10 s in RUN without a latch, RETRIES resets. -/
  | ampRetryReset (n : Fin 32)
  /-- SENSE_LOST (R233): 256 bits without a transition mark a sense bitstream lost. -/
  | senseLost (n : Fin 32)
  /-- SENSE_RESTORED (R233): 1,024 bits of transitions on both sense channels, once settled, clear SENSE_LOST. -/
  | senseRestored (n : Fin 32)
  /-- MAC_RX_FRAME (R250): A received frame is sized, filtered, classified and delivered, or dropped. -/
  | macRxFrame (m : Fin 5) (bytes : List Byte) (pcsErr : Bool) (done : BitVec 15) (sfd : SfdPoint) (sc : Nat)
  /-- MAC_LINK_FAULT (R249): A local or remote fault, or lost block lock, takes the link down. -/
  | macLinkFault (m : Fin 5) (lf rf lock : Bool)
  /-- RXQ_TAIL_WRITE (R273): A write of a receive ring's TAIL hands new descriptors to the device. -/
  | rxqTailWrite (q : Fin 4) (v : Word)
  /-- TXQ_TAIL_WRITE (R273): A write of a transmit ring's TAIL hands new descriptors to the device. -/
  | txqTailWrite (m : Fin 5) (v : Word)
  /-- MAC_TX_CONTROL (R259): The MAC sends a control frame from its ring and writes its descriptor back. -/
  | macTxControl (m : Fin 5) (eclk : BitVec 15) (sixteenth : BitVec 4) (sc : Nat)
  /-- STREAM_RX_PACKET (R265): A media packet is checked and written into the jitter buffer, or dropped as early, late or duplicate. -/
  | streamRxPacket
  /-- STREAM_PACKET_DEADLINE (R266): A packet's deadline passes, marking paths MISSING and substituting a packet missing on every path. -/
  | streamPacketDeadline (n : Fin 512)
  /-- STREAM_TX_QUEUE (R263): At m0 + nP + P, ECLK 256, an egress packet is built and queued on its paths. -/
  | streamTxQueue (n : Fin 512)
  /-- STREAM_DESC_COMMIT (R267): NET_DESC_GO.GO checks the staged descriptor, or refuses it. -/
  | streamDescCommit (v : Word)
  /-- STREAM_DESC_APPLY (R267): An accepted descriptor takes effect at the next tick boundary. -/
  | streamDescApply
  /-- GROUP_ARM (R268): ARM of a start group selects m0, or is refused. -/
  | groupArm (g : Fin 16) (v : Word)
  /-- GROUP_START (R268): At m0 every VALID IDLE egress stream of the group starts. -/
  | groupStart (g : Fin 16)
  /-- PARTNER_ABSENT (R269): No ACTIVE packet is seen for 2 packet times and PARTNER_ABSENT sets. -/
  | partnerAbsent
  /-- LANE_CFG_WRITE (R277): A write of LANE_nn_CFG restarts the lane and recalibrates it where its rate changes. -/
  | laneCfgWrite (n : Fin 16) (v : Word)
  /-- LANE_CAL_DONE (R277): Lane calibration completes and acquisition begins. -/
  | laneCalDone (n : Fin 16)
  /-- LOS_ASSERT (R276): Amplitude below THR for 1 µs asserts LOS. -/
  | losAssert (n : Fin 16)
  /-- LOS_CLEAR (R276): 100 µs above THR + 8 mV clears LOS. -/
  | losClear (n : Fin 16)
  /-- LOL_ASSERT (R276): A CDR frequency or phase-detector fault asserts LOL. -/
  | lolAssert (n : Fin 16)
  /-- BLOCK_LOCK (R285): 128 valid sync headers move HUNT to WAIT_MARKER, or to LOCKED on an ETH lane. -/
  | blockLock (n : Fin 16) (b : Fin 66)
  /-- BLOCK_LOCK_LOSS (R285): 16 invalid headers in 64 return the lane to HUNT. -/
  | blockLockLoss (n : Fin 16)
  /-- FLX_FRAME_TX (R279): At the marker instant the lane sends the frame of tick m. -/
  | flxFrameTx (n : Fin 16) (send : FlxSend)
  /-- FLX_MARKER (R282): A received tick marker closes frame m − 1, which is admitted or substituted. -/
  | flxMarker (n : Fin 16) (eclk : BitVec 15) (sixteenth : BitVec 4) (marker : BitVec 64) (blocks : List (BitVec 2 × BitVec 64))
  /-- MARKER_LOSS (R282): 2 consecutive missing or invalid markers put the lane in MARKER_LOSS. -/
  | markerLoss (n : Fin 16)
  /-- CELL_RX (R288): A control cell is received into the cell buffer. -/
  | cellRx (n : Fin 16) (cell : List Byte)
  /-- FLX_CC_TX_TAIL (R290): A write of TXTAIL hands transmit messages to the control channel. -/
  | flxCcTxTail (n : Fin 16) (v : Word)
  /-- FLX1_MARKER (R291): A Flitex-1 marker closes and checks the previous frame. -/
  | flx1Marker (n : Fin 16) (eclk : BitVec 15) (sixteenth : BitVec 4) (seq phase : BitVec 8) (fcrc : Word) (link : BitVec 8) (bytes : List Byte)
  /-- TETHER_FRAME (R293): The two tether lane frames of one tick are deskewed and admitted as one tether frame. -/
  | tetherFrame
  /-- MARGIN_START (R295): LANE_nn_MARGIN.START begins a 1 ms eye scan. -/
  | marginStart (n : Fin 16) (v : Word)
  /-- MARGIN_DONE (R295): An eye scan ends and reports its openings. -/
  | marginDone (n : Fin 16) (h w : BitVec 8)
  /-- PCIE_TLP (R396): A PCIe request to BAR0 or BAR2 becomes M3 fabric transactions, or is discarded or aborted. -/
  | pcieTlp (bar2 : Bool) (off : BitVec 29) (tag : Fin 256) (len : Fin 257) (data : Option (List Byte))
  /-- PCIE_HOT_RESET (R329): A PCIe hot reset or link down resets master M3. -/
  | pcieHotReset (down : Bool) (beats : Nat)
  /-- PEER_FAIL_EDGE (R317): A filtered PEER_FAIL_N fall triggers a takeover on a standby, or PAIR_PEER on the ACTIVE. -/
  | peerFailEdge (low : Bool)
  /-- HEARTBEAT_LOSS (R317): No heartbeat for 3 ticks is counted, and with PARTNER_ABSENT it triggers a takeover. -/
  | heartbeatLoss
  /-- TAKEOVER (R318): At T the standby becomes ACTIVE and continues every output. -/
  | takeover
  /-- PAIR_WAIT_EXPIRY (R301): With no tether for PAIR_WAIT, an unpaired chip becomes ACTIVE. -/
  | pairWaitExpiry
  /-- TETHER_UP (R302): The tether comes up and the pairing checks run. -/
  | tetherUp (peer : PeerInfo) (delay : BitVec 10)
  /-- SPLIT_BRAIN_YIELD (R319): When both chips claim ACTIVE, one yields to STANDBY_FAULTY. -/
  | splitBrainYield
  /-- SWAP_REQUEST (R320): TTH_CTRL.SWAP requests a swap, or is refused. -/
  | swapRequest (v : Word)
  /-- SWAP (R320): At B the partner becomes ACTIVE and the writer becomes STANDBY_READY. -/
  | swap
  /-- CONTROL_CHANGE_LOG (R310): On the ACTIVE a control change is placed in the change log. -/
  | controlChangeLog (a : Nat) (v : Word)
  /-- APPLY_SEQ_FIX (R310): When the frame of B − 4 departs, APPLY_SEQ(B) is fixed. -/
  | applySeqFix
  /-- APPLY_TICK (R310): At B both chips perform every logged record up to APPLY_SEQ. -/
  | applyTick
  /-- MIRROR_SNAPSHOT (R313): At the end of B − 8 mirror items are taken and sent. -/
  | mirrorSnapshot
  /-- MIRROR_LOAD (R313): At B the standby loads or compares the mirror items. -/
  | mirrorLoad (items : MirrorItems)
  /-- STBY_MARGIN_ROTATION (R316): Every 10 s the standby runs a margin scan on one of its lanes. -/
  | stbyMarginRotation
  /-- PREARM_END (R316): 1 s after SUPPLY_WARN, PREARM ends. -/
  | prearmEnd
  /-- RESYNC_BULK_DONE (R321): Every BULK block is acknowledged and the rotation starts. -/
  | resyncBulkDone
  /-- RESYNC_ROTATE_DONE (R321): 192 ticks of rotation end and CONVERGE starts. -/
  | resyncRotateDone
  /-- RESYNC_W_REACHED (R321): W ticks after step 2 the replay copies begin. -/
  | resyncWReached
  /-- REPLAY_APPLY (R323): At the end of E + 32 the standby applies the replayed state. -/
  | replayApply (items : ReplayItems)
  /-- RESYNC_CONVERGE_DONE (R321): 256 ticks after W the DIGEST step starts. -/
  | resyncConvergeDone
  /-- RESYNC_READY (R321): 1,000 clean ticks make the standby STANDBY_READY. -/
  | resyncReady
  /-- FABRIC_GRANT (R333): A free target grants a waiting request by age, priority and round robin. -/
  | fabricGrant (t : Fin 5) (cycle : Nat)
  /-- FABRIC_RESPONSE (R335): A transaction's response reaches its master. -/
  | fabricResponse (t : Fin 5)
  /-- FAB_TIMEOUT (R338): A transaction without a response for CYCLES is retired with an error response. -/
  | fabTimeout (t : Fin 5) (cycle : Nat)
  /-- LOCK_READ (R340): A LOCK read begins a locked sequence on T0 or T1. -/
  | lockRead (host wide : Bool) (addr : Word)
  /-- UNLOCK (R340): An UNLOCK transaction ends a locked sequence. -/
  | unlock (host write wide : Bool) (addr : Word) (data : BitVec 64)
  /-- LOCK_BREAK (R341): A lock held for 64 FCLK cycles is broken. -/
  | lockBreak (cycle : Nat)
  /-- MASTER_RESET (R342): A master reset settles the master's bursts, reads, locks and IDs. -/
  | masterReset (m : Fin 6) (beats : Nat)
  /-- RETIRE_DRAINED (R342): The retired entries drain and RETIRING clears. -/
  | retireDrained (m : Fin 6)
  /-- REMAP_WRITE (R332): A write of FAB_REMAP changes M0's boot region for later requests. -/
  | remapWrite (v : Word)
  /-- DMA_START (R343): START begins the channel at its DESC descriptor. -/
  | dmaStart (c : Fin 64)
  /-- DMA_STOP (R350): STOP takes effect at the next descriptor boundary, or at once in PARKED. -/
  | dmaStop (c : Fin 64)
  /-- DMA_DOORBELL (R351): DOORBELL latches DBPEND, or makes a PARKED channel reread its link word. -/
  | dmaDoorbell (c : Fin 64)
  /-- DMA_CFG_COMMIT (R353): DMA_CH_cc_CTRL.COMMIT arms the CFG shadow. -/
  | dmaCfgCommit (c : Fin 64)
  /-- DMA_RESET (R356): DMA_CTRL.RESET resets M1 and M2 and every channel to IDLE. -/
  | dmaReset (v : Word)
  /-- DMA_COPY (R346): A COPY descriptor moves its elements. -/
  | dmaCopy (c : Fin 64) (n : Nat)
  /-- DMA_FILL (R346): A FILL descriptor writes its constant. -/
  | dmaFill (c : Fin 64) (n : Nat)
  /-- DMA_CMP (R346): A CMP descriptor compares source and destination words. -/
  | dmaCmp (c : Fin 64) (n : Nat)
  /-- DMA_CMPC (R346): A CMPC descriptor compares destination words with a constant. -/
  | dmaCmpc (c : Fin 64) (n : Nat)
  /-- DMA_DESC_COMPLETE (R349): A descriptor completes, or lands with ACKWAIT, and DONE steps. -/
  | dmaDescComplete (c : Fin 64)
  /-- FAULT_EVENT (R358): The events of one FCLK cycle set PEND and fix their applied levels. -/
  | faultEvent (k : Nat)
  /-- FAULT_REACTION (R358): 8 FCLK cycles after arrival the reactions take effect and FAULT_N follows. -/
  | faultReaction
  /-- FAULT_N_HOLD_END (R358): After 128 ECLK low, FAULT_N may rise. -/
  | faultNHoldEnd
  /-- FAULT_ACK (R361): Writing 1 to FLT_PEND_n acknowledges a source. -/
  | faultAck (n : Fin 8) (v : Word)
  /-- RAIL_FAULT (R363): Equal rails for 2 cycles raise FLT_RAIL and mark the source RAILBAD. -/
  | railFault (n : Fin 256)
  /-- WDT_WRITE (R362): A write of FLT_WDT restarts, or stops, the watchdog. -/
  | wdtWrite (v : Word)
  /-- WDT_EXPIRY (R362): The watchdog expires and raises SUP_WDT. -/
  | wdtExpiry
  /-- FLT_UNLOCK_WRITE (R364): A write of FLT_UNLOCK advances or abandons the test-mode unlock sequence. -/
  | fltUnlockWrite (v : Word) (pclk : Nat)
  /-- FAULT_INJECT (R364): FLT_INJ.GO drives the rails of a source in test mode. -/
  | faultInject (v : Word)
  /-- AUDIT_PASS (R366): Every PERIOD firmware compares the audited registers and may repair them. -/
  | auditPass
  /-- SUPPLY_WARN (R368): A rail dips below its warning level for more than 1 µs. -/
  | supplyWarn (r : Fin 6) (mv : BitVec 12)
  /-- BROWN_OUT (R369): A rail below its reset level holds the node in reset. -/
  | brownOut (r : Fin 6) (mv : BitVec 12) (eclk : BitVec 15) (sixteenth : BitVec 4) (sc : Nat)
  /-- BROWNOUT_RELEASE (R369): After 2 ms of good rails the node starts warm or cold. -/
  | brownoutRelease (mv : BitVec 12)
  /-- SERDES_RAIL_DIP (R369): A dip on VDDA_SD or VDDH_SD restarts the lanes. -/
  | serdesRailDip
  /-- TEMP_SAMPLE (R370): Every 100 µs the junction sensors are read. -/
  | tempSample (t : BitVec 8) (mv : List (BitVec 12))
  /-- THERMAL_SHUTDOWN (R371): 120 °C for 1 ms shuts the node down. -/
  | thermalShutdown (eclk : BitVec 15) (sixteenth : BitVec 4) (sc : Nat)
  /-- THERMAL_RESTART (R371): Below 95 °C for 10 s, the node warm-starts. -/
  | thermalRestart
  /-- POWER_ON (R375): Power-on begins a cold start. -/
  | powerOn
  /-- RST_N_ASSERT (R375): A filtered RST_N fall holds the node in reset. -/
  | rstNAssert
  /-- RST_N_RELEASE (R375): The RST_N rising edge begins a cold start. -/
  | rstNRelease
  /-- START_STEP_DONE (R376): A start step that waited or took time completes and the next step begins. -/
  | startStepDone (ev : StepEvent)
  /-- FLASH_READ_TIMEOUT (R380): A flash read not complete in 1 ms is retried, and the slot fails after the third retry. -/
  | flashReadTimeout
  /-- WARM_N_FALL (R375): A filtered WARM_N fall requests a warm start. -/
  | warmNFall
  /-- WARM_START (R378): A warm start runs its steps, keeping clocks and kept fields. -/
  | warmStart
  /-- BOOT_RUN (R381): BOOT_CTRL.RUN leaves HELD and starts step 9. -/
  | bootRun
  /-- HOSTGO (R381): BOOT_CTRL.HOSTGO checks and loads the host-downloaded image. -/
  | hostgo
  /-- CHIP_WARM (R401): CHIP_CTRL.WARM requests a warm start. -/
  | chipWarm
  /-- DORMANT (R388): CHIP_CTRL.DORMANT ramps out and stops the node. -/
  | dormant
  /-- COILCLR (R401): CHIP_CTRL.COILCLR zeroes every unused coil. -/
  | coilclr
  /-- COILCLR_DONE (R389): A coil clear ends and CHIP_PROGRESS records it. -/
  | coilclrDone
  /-- PELOND_READ (R393): A READ message reads consecutive words. -/
  | pelondRead (ip : BitVec 32) (port : BitVec 16) (msg : List Byte)
  /-- PELOND_WRITE (R393): A WRITE message writes consecutive words. -/
  | pelondWrite (ip : BitVec 32) (port : BitVec 16) (msg : List Byte)
  /-- PELOND_PARAM (R108): A PARAM message sets a knot parameter whole, or refuses it. -/
  | pelondParam (ip : BitVec 32) (port : BitVec 16) (msg : List Byte)
  /-- PELOND_SPLICE (R393): A SPLICE message appends entries and commits with MORE = 0. -/
  | pelondSplice (ip : BitVec 32) (port : BitVec 16) (msg : List Byte)
  /-- PELOND_EVENT (R393): An EVENT message writes trigger registers, then ARM or LOAD. -/
  | pelondEvent (ip : BitVec 32) (port : BitVec 16) (msg : List Byte)
  /-- PELOND_METER (R393): A METER message replaces the source's meter subscription. -/
  | pelondMeter (ip : BitVec 32) (port : BitVec 16) (msg : List Byte)
  /-- PELOND_QUERY (R393): A QUERY message returns the status registers. -/
  | pelondQuery (ip : BitVec 32) (port : BitVec 16) (msg : List Byte)
  /-- PELOND_IMAGE_BEGIN (R395): IMAGE BEGIN erases a flash slot. -/
  | pelondImageBegin (ip : BitVec 32) (port : BitVec 16) (msg : List Byte)
  /-- PELOND_IMAGE_DATA (R395): IMAGE DATA writes bytes at the next offset. -/
  | pelondImageData (ip : BitVec 32) (port : BitVec 16) (msg : List Byte)
  /-- PELOND_IMAGE_END (R395): IMAGE END checks the slot and writes its first 4 KB last. -/
  | pelondImageEnd (ip : BitVec 32) (port : BitVec 16) (msg : List Byte)
  /-- PELOND_IMAGE_ABORT (R393): IMAGE ABORT abandons an update. -/
  | pelondImageAbort (ip : BitVec 32) (port : BitVec 16) (msg : List Byte)
  /-- METER_REPORT (R393): Every interval the node sends a meter report. -/
  | meterReport (m : Fin 16)
  /-- METER_EXPIRY (R393): A meter subscription expires after its lifetime. -/
  | meterExpiry (m : Fin 16)
  /-- SPLICE_LIST_TIMEOUT (R393): An open Pelond splice list idle for 1 s is discarded. -/
  | spliceListTimeout
  /-- SPI_WRITE (R398): An SPI WRITE frame issues one fabric write. -/
  | spiWrite (addr data : Word)
  /-- SPI_READ (R398): An SPI READ frame issues one fabric read. -/
  | spiRead (addr : Word)
  /-- SPI_FETCH (R398): An SPI FETCH frame returns the status and data of the last access. -/
  | spiFetch
  /-- I2C_READ (R399): An I²C read returns a register of the permitted blocks, or NACKs. -/
  | i2cRead (dev : BitVec 7) (addr : Word)
  /-- I2C_WRITE (R399): An I²C write reaches CHIP_CTRL only. -/
  | i2cWrite (dev : BitVec 7) (addr v : Word)
  /-- I2C_BUS_TIMEOUT (R399): SCL held low for 25 ms releases the bus and resets the target. -/
  | i2cBusTimeout
  /-- REG_WRITE (R435): A write of a register without a row of its own is checked and applied, or refused. -/
  | regWrite (a : Nat) (v : Word)
  /-- RC_READ (R6): A read of an RC field returns it and clears it. -/
  | rcRead (a : Nat)
  /-- TAP_EXTEST (R429): EXTEST drives the pins from the boundary-scan register. -/
  | tapExtest (capture load : BitVec 1395)
  /-- TAP_IDCODE (R429): IDCODE selects the identification register. -/
  | tapIdcode
  /-- TAP_SAMPLE_PRELOAD (R429): SAMPLE/PRELOAD captures and loads the boundary-scan cells. -/
  | tapSamplePreload (capture load : BitVec 1395)
  /-- TAP_HIGHZ (R429): HIGHZ puts the pins in high impedance. -/
  | tapHighz
  /-- TAP_CLAMP (R429): CLAMP holds the pins from the boundary cells with BYPASS selected. -/
  | tapClamp
  /-- TAP_BYPASS (R429): BYPASS, or any unlisted code, selects the bypass register. -/
  | tapBypass (code : BitVec 8)
  /-- RAIL_WARN_RECOVERY (R368): A rail that dipped below its warning level returns above the warning level plus hysteresis, clearing WARN and ending the dip record and PWR_WARN condition. -/
  | railWarnRecovery (r : Fin 6) (mv : BitVec 12) (us : Nat)
  /-- LOL_CLEAR (R276): A lane's CDR regains lock and LOL deasserts, letting its PCS, Flitex receiver or PCIe link acquire again. -/
  | lolClear (n : Fin 16)
  /-- REFCLK_SD_LOSS (R275): REFCLK_SD_0 or REFCLK_SD_1 goes missing or outside ±1,000 ppm, or returns, updating LANE_GSTATUS and making every lane of its half report LOL. -/
  | refclkSdLoss (half : Fin 2) (ok : Bool)
  /-- PELOND_UNKNOWN_OP (R394): An authenticated Pelond message with an OP the node does not serve is answered with STATUS 5 UNKNOWN_OP. -/
  | pelondUnknownOp (ip : BitVec 32) (port : BitVec 16) (msg : List Byte)
  /-- SLOT_ERASE_DONE (R395): The erase of a flash slot started by IMAGE BEGIN completes under OP 4 of R389. -/
  | slotEraseDone
deriving DecidableEq, Repr

end Sys2Proof
end

