-- ==== Sys2Proof/Decode.lean ====
section
/-! DEFINITION. The table of operations and events gives its commands no words, so no word spells a command;
what has words is the knot engine's instruction (04 R76-R97), whose decoder and encoder stand here. -/

namespace Sys2Proof

/-! ### Engine instruction words (04 R76-R97) -/

/-- The field of `n` bits whose lowest bit is `lo`. -/
def bits (w : IWord) (lo n : Nat) : BitVec n := w.extractLsb' lo n

/-- One bit of an instruction word. -/
def bit (w : IWord) (i : Nat) : Bool := w.getLsbD i

/-- What the engine makes of a word: an instruction, or an illegal one with the lowest cause code of
R77 that the word alone decides. -/
inductive EngDecoded where
  | op (o : EngOp)
  | illegal (cause : Nat)
deriving DecidableEq, Repr

/-- An address specifier; none for the reserved mode 0b11 (R84). -/
def decodeSpec (b : BitVec 9) : Option AddrSpec :=
  let ptr := b.extractLsb' 6 3
  let step := b.extractLsb' 0 4
  match (b.extractLsb' 4 2).toNat with
  | 0 => some ⟨ptr, .posti, step⟩
  | 1 => some ⟨ptr, .postm, step⟩
  | 2 => some ⟨ptr, .index, step⟩
  | _ => none

/-- The bits of an address specifier (R84). -/
def encodeSpec (a : AddrSpec) : BitVec 9 :=
  let m : BitVec 2 := match a.mode with | .posti => 0 | .postm => 1 | .index => 2
  a.ptr ++ m ++ a.step

/-- A bus source of a MAC: the bit that selects a D quad, and the specifier or quad number (R85). -/
def decodeBus (src : Bool) (b : BitVec 9) : Option BusSrc :=
  if src then some (.quad (b.extractLsb' 0 2)) else (decodeSpec b).map .mem

/-- The pointers the X bus may name are P0-P3, those of the Y bus P4-P7 (R84). -/
def busPointerOk (yBus : Bool) : BusSrc → Bool
  | .mem a => if yBus then decide (4 ≤ a.ptr.toNat) else decide (a.ptr.toNat < 4)
  | .quad _ => true

/-- Class MAC (R85). -/
def decodeMac (w : IWord) : EngDecoded :=
  let mode := match (bits w 57 3).toNat with
    | 0 => some MacMode.quad | 1 => some .bcastx | 2 => some .bcasty | 3 => some .cplx | 4 => some .sum
    | _ => none
  let amode := match (bits w 55 2).toNat with
    | 0 => some AccMode.acc | 1 => some .sub | 2 => some .set | _ => none
  match mode, amode, decodeBus (bit w 51) (bits w 42 9), decodeBus (bit w 41) (bits w 32 9) with
  | some m, some am, some x, some y =>
    if busPointerOk false x && busPointerOk true y then
      .op (.mac ⟨m, am, bit w 54, bits w 52 2, x, y⟩)
    else .illegal 3
  | _, _, _, _ => .illegal 2

/-- Class MVA (R86). -/
def decodeMva (w : IWord) : EngDecoded :=
  match (bits w 56 4).toNat with
  | 0 => .op (.mva ⟨bits w 52 4, bits w 50 2, bits w 48 2, bits w 46 2, bits w 44 2, bit w 43⟩)
  | 1 => .op (.mvaq ⟨bits w 52 2, bits w 48 2, bits w 46 2, bits w 44 2, bit w 43⟩)
  | _ => .illegal 1

/-- Class ACC (R87). -/
def decodeAcc (w : IWord) : EngDecoded :=
  let k := bits w 54 2
  let j := bits w 52 2
  let d := bits w 48 4
  let scs := bits w 46 2
  match (bits w 56 4).toNat with
  | 0 => .op (.aclr k)
  | 1 => .op (.acpy k j)
  | 2 => .op (.aadd k j)
  | 3 => .op (.asub k j)
  | 4 => .op (.aneg k)
  | 5 => .op (.aabs k)
  | 6 => .op (.norm k d)
  | 7 => .op (.ashi k (bits w 32 8))
  | 8 => .op (.dtoa k d scs)
  | 9 => .op (.dadd k d scs)
  | 10 => .op (.expa k d)
  | 11 => .op (.atst k)
  | _ => .illegal 1

/-- Class MEM (R88). -/
def decodeMem (w : IWord) : EngDecoded :=
  let d := bits w 52 4
  let q := bits w 52 2
  let ms := bit w 51
  let addr := bits w 32 16
  let spec (f : AddrSpec → EngOp) : EngDecoded :=
    match decodeSpec (bits w 43 9) with
    | some a => .op (f a)
    | none => .illegal 2
  match (bits w 56 4).toNat with
  | 0 => spec (.ldw d)
  | 1 => spec (.ldq q)
  | 2 => spec (.stw d)
  | 3 => spec (.stq q)
  | 4 => .op (.ldwa d ms addr)
  | 5 => .op (.ldqa q ms addr)
  | 6 => .op (.stwa d ms addr)
  | 7 => .op (.stqa q ms addr)
  | _ => .illegal 1

/-- Class ALU (R89). -/
def decodeAlu (w : IWord) : EngDecoded :=
  let a : AluArgs :=
    ⟨bits w 52 4, bits w 48 4, if bit w 47 then .imm (bits w 0 32) else .reg (bits w 43 4)⟩
  match (bits w 56 4).toNat with
  | 0 => .op (.add a)
  | 1 => .op (.sub a)
  | 2 => .op (.adds a)
  | 3 => .op (.subs a)
  | 4 => .op (.and a)
  | 5 => .op (.or a)
  | 6 => .op (.xor a)
  | 7 => .op (.ash a)
  | 8 => .op (.lsh a)
  | 9 => .op (.min a)
  | 10 => .op (.max a)
  | 11 => .op (.abs a)
  | 12 => .op (.neg a)
  | 13 => .op (.cmp a)
  | 14 => .op (.mov a)
  | _ => .op (.expd a)

/-- An AGU register code of R90 that exists. -/
def aguCodeOk (r : BitVec 6) : Bool := decide (r.toNat < 0x2A)

/-- An AGU register code that is not read-only: all but LC1-LC3 (R90). -/
def aguWritable (r : BitVec 6) : Bool := decide (r.toNat < 0x27)

/-- Class AGU (R90). -/
def decodeAgu (w : IWord) : EngDecoded :=
  let r := bits w 50 6
  let d := bits w 46 4
  match (bits w 56 4).toNat with
  | 0 => if !aguCodeOk r then .illegal 2 else if !aguWritable r then .illegal 7 else .op (.setr r (bits w 0 32))
  | 1 => if !aguCodeOk r then .illegal 2 else if !aguWritable r then .illegal 7 else .op (.movr r d)
  | 2 => if !aguCodeOk r then .illegal 2 else .op (.getr r d)
  | 3 =>
    match decodeSpec (bits w 43 9) with
    | some a => if a.mode = .index then .illegal 2 else .op (.modp a)
    | none => .illegal 2
  | _ => .illegal 1

/-- Class STR (R91). -/
def decodeStr (w : IWord) : EngDecoded :=
  let src : SlotSrc := if bit w 51 then .reg (bits w 47 4) else .imm (bits w 0 13)
  match (bits w 56 4).toNat with
  | 0 => .op (.srd (bits w 52 4) src)
  | 1 => .op (.swr (bits w 52 4) src)
  | _ => .illegal 1

/-- Class COIL (R92). -/
def decodeCoil (w : IWord) : EngDecoded :=
  let csd := bits w 50 6
  let idx : Option CoilIdx :=
    if bit w 49 then (decodeSpec (bits w 40 9)).map .spec else some (.imm (bits w 16 16))
  let q := bits w 38 2
  let ms := bit w 37
  let addr := bits w 0 16
  match (bits w 56 4).toNat, idx with
  | 0, some i => .op (.crdd csd i q)
  | 1, some i => .op (.crdm csd i ms addr)
  | 2, some i => .op (.cwrd csd i q)
  | 3, some i => .op (.cwrm csd i ms addr)
  | 0, none => .illegal 2
  | 1, none => .illegal 2
  | 2, none => .illegal 2
  | 3, none => .illegal 2
  | _, _ => .illegal 1

/-- Class TAG (R93). -/
def decodeTag (w : IWord) : EngDecoded :=
  let d := bits w 52 4
  let a := bits w 48 4
  let mask := bits w 32 4
  match (bits w 56 4).toNat with
  | 0 => .op (.tclip d (bits w 32 2))
  | 1 => .op (.tor d a mask)
  | 2 => .op (.tset d (bits w 36 4) mask)
  | 3 => .op (.tcpy d a)
  | 4 => .op (.ttst d mask)
  | 5 => .op (.fclr (bits w 32 2))
  | _ => .illegal 1

/-- Class CTL (R94, R95). -/
def decodeCtl (w : IWord) : EngDecoded :=
  let tgt := bits w 32 12
  match (bits w 56 4).toNat with
  | 0 => .op .nop
  | 1 => .op .wait
  | 2 => .op (.bra tgt)
  | 3 => if (bits w 52 4).toNat ≤ 0xC then .op (.bcc (bits w 52 4) tgt) else .illegal 2
  | 4 => .op (.loop tgt (bits w 0 16))
  | 5 => .op (.loopr tgt (bits w 48 4))
  | 6 => .op .brk
  | _ => .illegal 1

/-- The instruction an engine reads from a word (R76, R77). -/
def decodeEng (w : IWord) : EngDecoded :=
  match (bits w 60 4).toNat with
  | 0 => decodeCtl w
  | 1 => decodeMac w
  | 2 => decodeMva w
  | 3 => decodeAcc w
  | 4 => decodeMem w
  | 5 => decodeAlu w
  | 6 => decodeAgu w
  | 7 => decodeStr w
  | 8 => decodeCoil w
  | 9 => decodeTag w
  | _ => .illegal 1

/-- A field placed at its lowest bit in an instruction word. -/
def put {n : Nat} (v : BitVec n) (lo : Nat) : IWord := (v.setWidth 64) <<< lo

/-- A single bit placed in an instruction word. -/
def putBit (b : Bool) (lo : Nat) : IWord := (BitVec.ofBool b).setWidth 64 <<< lo

/-- Class and OP of a word (R76). -/
def headWord (cls op : Nat) : IWord := BitVec.ofNat 64 (cls * 2 ^ 60 + op * 2 ^ 56)

/-- The two fields of a bus source: the select bit at `s` and the 9 bits at `lo` (R85). -/
def encodeBus (b : BusSrc) (s lo : Nat) : IWord :=
  match b with
  | .mem a => put (encodeSpec a) lo
  | .quad q => putBit true s ||| put q lo

/-- Second operand of an ALU word (R89). -/
def encodeAluB : AluB → IWord
  | .reg d => put d 43
  | .imm v => putBit true 47 ||| put v 0

/-- Slot source of an STR word (R91). -/
def encodeSlotSrc : SlotSrc → IWord
  | .imm s => put s 0
  | .reg d => putBit true 51 ||| put d 47

/-- Index source of a COIL word (R92). -/
def encodeCoilIdx : CoilIdx → IWord
  | .imm i => put i 16
  | .spec a => putBit true 49 ||| put (encodeSpec a) 40

/-- An ALU word (R89). -/
def encodeAlu (op : Nat) (a : AluArgs) : IWord :=
  headWord 5 op ||| put a.d 52 ||| put a.a 48 ||| encodeAluB a.b

/-- The word of an engine instruction, every unassigned bit 0 (R76-R94). -/
def encodeEng : EngOp → IWord
  | .mac a =>
    let m := match a.mode with | .quad => 0 | .bcastx => 1 | .bcasty => 2 | .cplx => 3 | .sum => 4
    let am := match a.amode with | .acc => 0 | .sub => 1 | .set => 2
    BitVec.ofNat 64 (1 * 2 ^ 60 + m * 2 ^ 57 + am * 2 ^ 55) ||| putBit a.cf 54 ||| put a.k 52
      ||| encodeBus a.x 51 42 ||| encodeBus a.y 41 32
  | .mva a =>
    headWord 2 0 ||| put a.d 52 ||| put a.k 50 ||| put a.scs 48 ||| put a.w 46 ||| put a.rnd 44 ||| putBit a.dgs 43
  | .mvaq a => headWord 2 1 ||| put a.q 52 ||| put a.scs 48 ||| put a.w 46 ||| put a.rnd 44 ||| putBit a.dgs 43
  | .aclr k => headWord 3 0 ||| put k 54
  | .acpy k j => headWord 3 1 ||| put k 54 ||| put j 52
  | .aadd k j => headWord 3 2 ||| put k 54 ||| put j 52
  | .asub k j => headWord 3 3 ||| put k 54 ||| put j 52
  | .aneg k => headWord 3 4 ||| put k 54
  | .aabs k => headWord 3 5 ||| put k 54
  | .norm k d => headWord 3 6 ||| put k 54 ||| put d 48
  | .ashi k v => headWord 3 7 ||| put k 54 ||| put v 32
  | .dtoa k d scs => headWord 3 8 ||| put k 54 ||| put d 48 ||| put scs 46
  | .dadd k d scs => headWord 3 9 ||| put k 54 ||| put d 48 ||| put scs 46
  | .expa k d => headWord 3 10 ||| put k 54 ||| put d 48
  | .atst k => headWord 3 11 ||| put k 54
  | .ldw d a => headWord 4 0 ||| put d 52 ||| put (encodeSpec a) 43
  | .ldq q a => headWord 4 1 ||| put q 52 ||| put (encodeSpec a) 43
  | .stw d a => headWord 4 2 ||| put d 52 ||| put (encodeSpec a) 43
  | .stq q a => headWord 4 3 ||| put q 52 ||| put (encodeSpec a) 43
  | .ldwa d ms ad => headWord 4 4 ||| put d 52 ||| putBit ms 51 ||| put ad 32
  | .ldqa q ms ad => headWord 4 5 ||| put q 52 ||| putBit ms 51 ||| put ad 32
  | .stwa d ms ad => headWord 4 6 ||| put d 52 ||| putBit ms 51 ||| put ad 32
  | .stqa q ms ad => headWord 4 7 ||| put q 52 ||| putBit ms 51 ||| put ad 32
  | .add a => encodeAlu 0 a
  | .sub a => encodeAlu 1 a
  | .adds a => encodeAlu 2 a
  | .subs a => encodeAlu 3 a
  | .and a => encodeAlu 4 a
  | .or a => encodeAlu 5 a
  | .xor a => encodeAlu 6 a
  | .ash a => encodeAlu 7 a
  | .lsh a => encodeAlu 8 a
  | .min a => encodeAlu 9 a
  | .max a => encodeAlu 10 a
  | .abs a => encodeAlu 11 a
  | .neg a => encodeAlu 12 a
  | .cmp a => encodeAlu 13 a
  | .mov a => encodeAlu 14 a
  | .expd a => encodeAlu 15 a
  | .setr r v => headWord 6 0 ||| put r 50 ||| put v 0
  | .movr r d => headWord 6 1 ||| put r 50 ||| put d 46
  | .getr r d => headWord 6 2 ||| put r 50 ||| put d 46
  | .modp a => headWord 6 3 ||| put (encodeSpec a) 43
  | .srd d s => headWord 7 0 ||| put d 52 ||| encodeSlotSrc s
  | .swr d s => headWord 7 1 ||| put d 52 ||| encodeSlotSrc s
  | .crdd c i q => headWord 8 0 ||| put c 50 ||| encodeCoilIdx i ||| put q 38
  | .crdm c i ms ad => headWord 8 1 ||| put c 50 ||| encodeCoilIdx i ||| putBit ms 37 ||| put ad 0
  | .cwrd c i q => headWord 8 2 ||| put c 50 ||| encodeCoilIdx i ||| put q 38
  | .cwrm c i ms ad => headWord 8 3 ||| put c 50 ||| encodeCoilIdx i ||| putBit ms 37 ||| put ad 0
  | .tclip d sel => headWord 9 0 ||| put d 52 ||| put sel 32
  | .tor d a m => headWord 9 1 ||| put d 52 ||| put a 48 ||| put m 32
  | .tset d v m => headWord 9 2 ||| put d 52 ||| put v 36 ||| put m 32
  | .tcpy d a => headWord 9 3 ||| put d 52 ||| put a 48
  | .ttst d m => headWord 9 4 ||| put d 52 ||| put m 32
  | .fclr sel => headWord 9 5 ||| put sel 32
  | .nop => 0
  | .wait => headWord 0 1
  | .bra t => headWord 0 2 ||| put t 32
  | .bcc c t => headWord 0 3 ||| put c 52 ||| put t 32
  | .loop l c => headWord 0 4 ||| put l 32 ||| put c 0
  | .loopr l d => headWord 0 5 ||| put d 48 ||| put l 32
  | .brk => headWord 0 6
/-! ### Commands -/

/-- The command a word spells by the table's bits: the table gives no row any bits. -/
def decodeTableWord (_nbits _w : Nat) : Option Instr := none

end Sys2Proof
end

