-- ==== Sys2Proof/Config.lean ====
section
/-! DEFINITION. What the manual leaves open and the model leaves free: constants without a body, so that
nothing can be proved of their values. Each is named in a log entry. -/

namespace Sys2Proof.Config

/-- The word the manual does not state, for the n-th use of a free value. -/
opaque freeWord : Nat → Word

/-- The tether's 32-bit code of a sequencing gain d given as a fraction, which 14 R306 does not lay out. -/
opaque seqGainWord : Nat → Nat → Word

/-- A drive channel's sample in a carrier period (11 R228), by an interpolator whose filter the manual bounds and does not
give, from the whipped samples of the last nine ticks, latest first, and the period among those of a tick: the sample four
ticks back is the one that the tick's ECLK 0 stands for. -/
opaque ampInterp : List Word → Nat → Nat → Word

/-- What the DPLL's loop of a bandwidth code (REF_DPLL.BW) adds to the slot's frequency at a phase error in ps (08 R168),
whose response the manual bounds and does not give. -/
opaque loopStep : Nat → Int → Int

/-- An ASRC lane's output (10 R216, R217), whose filter the manual bounds and does not give, from its rate estimate and its
input samples, each with its instant in ECLK counted from the instant that the output stands for.  -/
opaque asrcOut : Nat → List (Int × Word) → Word

/-- The contents of the boot ROM, by byte (15 R330). -/
opaque bootRom : Nat → Byte

/-- The regions of a list in a lay plan's list area (05 R106), whose layout the manual does not give, from the bytes at
the list's offset: memory (0 X, 1 Y, 2 coils), first and last address, and the resync mark. -/
opaque regionList : List Byte → List (Nat × Nat × Nat × Bool)

/-- The initial registers of an ENGPROG record of kind 2 (17 R383), whose layout the manual does not give, from its
data: 0-15 D registers, 16-19 accumulators, 32-69 AGU registers by their code, 128 and 129 dither seeds. -/
opaque initialRegs : List Byte → List (Nat × Nat)

/-- The coil descriptors of an ENGPROG record of kind 3 (17 R383), whose layout the manual does not give, from its data:
descriptor, base, length, scheduled cycles and tick-phase mask. -/
opaque coilDescs : List Byte → List (Nat × Nat × Nat × List Nat × Nat)

/-- The copy words of each resync step (14 R322), which no section of the image lays out, from LAYPLAN and ENGPROG: engine,
memory (true: Y) and address. -/
opaque resyncSteps : List Byte → List (List (Nat × Bool × Nat))

/-- TTH_CONV.W (14 R321), which the compiler gives and no section of the image lays out, from LAYPLAN and ENGPROG. -/
opaque convergeTicks : List Byte → Nat

/-- The first coil of the reserved copy (05 R120), which no section of the image lays out, from LAYPLAN and ENGPROG. -/
opaque reservedBase : List Byte → Nat

/-- The columns of the matrix program (06 R124), which no section of the image lays out, from LAYPLAN and ENGPROG: column,
slot, whether it is a NOM column, and its unit. -/
opaque matrixCols : List Byte → List (Nat × Nat × Bool × Nat)

end Sys2Proof.Config
end

