-- ==== Sys2Proof/Machine/Sparse.lean ====
section
/-! DEFINITION. Reading and writing a sparse map: the operations every register, memory and per-instance
record of the model goes through. -/

namespace Sys2Proof.Machine

/-- The value listed under a key, if any. -/
def sfind {V : Type} (k : Nat) : SMap V → Option V
  | [] => none
  | (j, v) :: r => if j = k then some v else sfind k r

/-- The map without its entry for a key. -/
def serase {V : Type} (k : Nat) : SMap V → SMap V
  | [] => []
  | (j, v) :: r => if j = k then serase k r else (j, v) :: serase k r

/-- The map with an entry for a key, kept in key order. -/
def sinsert {V : Type} (k : Nat) (v : V) : SMap V → SMap V
  | [] => [(k, v)]
  | (j, w) :: r =>
    if j = k then (k, v) :: r else if k < j then (k, v) :: (j, w) :: r else (j, w) :: sinsert k v r

/-- What a key reads as: its entry, or the default of the map. -/
def sget {V : Type} (d : V) (k : Nat) (m : SMap V) : V := (sfind k m).getD d

/-- Writing a key. Writing the default removes the entry, so equal contents are equal lists. -/
def sset {V : Type} [DecidableEq V] (d : V) (k : Nat) (v : V) (m : SMap V) : SMap V :=
  if v = d then serase k m else sinsert k v m

/-- The canonical form: keys strictly rising and no entry equal to the default. -/
def swf {V : Type} [DecidableEq V] (d : V) (m : SMap V) : Bool :=
  match m with
  | [] => true
  | (j, v) :: r => decide (v ≠ d) && r.all (fun p => decide (j < p.1)) && swf d r

/-- An entry put into an ordered list, before the entries it may stand before. -/
def insertBy {V : Type} (le : V → V → Bool) (a : V) : List V → List V
  | [] => [a]
  | b :: l => if le a b then a :: b :: l else b :: insertBy le a l

/-- A list in the order of a relation, equal entries in their own order. -/
def sortBy {V : Type} (le : V → V → Bool) (l : List V) : List V := l.foldr (insertBy le) []

/-- Numbers in ascending order. -/
def ascending (l : List Nat) : List Nat := sortBy (fun a b => decide (a ≤ b)) l

end Sys2Proof.Machine
end

