-- ==== Sys2Proof/Machine/FaultTable.lean ====
section
/-! DEFINITION. The fault sources of 16 R359, with the classes, levels and PIN bits that R359 and the
tables it refers to (11 R246, 12 R271, 13 R296, 14 R327, 15 R354) give them. -/

namespace Sys2Proof.Machine

/-- The classes of R357, in FLT_CLASS and FLT_LAST_0 order: 0 A, 1 B, 2 C, 3 D. -/
structure FaultRow where
  first : Nat
  last : Nat
  cls : Nat
  level : Nat
  pin : Nat
  fixed : Nat
deriving DecidableEq, Repr

/-- The source table of R359: runs of source numbers with one class, default level, PIN and fixed mark. -/
def faultRows : List FaultRow := [
  ⟨0, 0, 2, 1, 1, 1⟩,
  ⟨1, 2, 2, 4, 1, 1⟩,
  ⟨3, 6, 2, 1, 0, 0⟩,
  ⟨7, 7, 2, 4, 1, 0⟩,
  ⟨8, 8, 2, 2, 0, 0⟩,
  ⟨9, 11, 2, 1, 0, 0⟩,
  ⟨12, 12, 3, 0, 0, 0⟩,
  ⟨16, 16, 0, 1, 0, 0⟩,
  ⟨17, 17, 2, 1, 0, 0⟩,
  ⟨18, 19, 0, 1, 0, 0⟩,
  ⟨20, 20, 0, 2, 1, 0⟩,
  ⟨21, 21, 0, 1, 0, 0⟩,
  ⟨22, 22, 2, 1, 0, 0⟩,
  ⟨23, 25, 0, 1, 0, 0⟩,
  ⟨26, 26, 3, 0, 0, 0⟩,
  ⟨32, 65, 0, 1, 0, 0⟩,
  ⟨80, 83, 0, 1, 0, 0⟩,
  ⟨84, 85, 3, 0, 0, 0⟩,
  ⟨86, 86, 2, 1, 0, 0⟩,
  ⟨87, 87, 1, 1, 0, 0⟩,
  ⟨88, 88, 0, 1, 0, 0⟩,
  ⟨89, 90, 3, 0, 0, 0⟩,
  ⟨91, 91, 2, 1, 0, 0⟩,
  ⟨92, 93, 0, 1, 0, 0⟩,
  ⟨94, 94, 0, 0, 0, 0⟩,
  ⟨95, 95, 3, 0, 0, 0⟩,
  ⟨96, 99, 1, 1, 0, 0⟩,
  ⟨100, 101, 1, 2, 0, 0⟩,
  ⟨102, 102, 3, 0, 0, 0⟩,
  ⟨103, 104, 2, 1, 0, 0⟩,
  ⟨105, 106, 3, 0, 0, 0⟩,
  ⟨107, 107, 2, 1, 0, 0⟩,
  ⟨108, 108, 3, 0, 0, 0⟩,
  ⟨109, 109, 2, 1, 0, 0⟩,
  ⟨110, 110, 3, 0, 0, 0⟩]

/-- The row of a source number; none for the reserved numbers of R359. -/
def faultRow (n : Nat) : Option FaultRow :=
  faultRows.find? (fun r => decide (r.first ≤ n) && decide (n ≤ r.last))

/-- A source number that R359 lists. -/
def faultListed (n : Nat) : Bool := (faultRow n).isSome

/-- FLT_SRC_sss.LEVEL at reset (R359). -/
def faultDefaultLevel (n : Nat) : Nat := ((faultRow n).map FaultRow.level).getD 0

/-- FLT_SRC_sss.PIN at reset (R359). -/
def faultDefaultPin (n : Nat) : Nat := ((faultRow n).map FaultRow.pin).getD 0

/-- FLT_SRC_sss.FIXED (R359). -/
def faultFixed (n : Nat) : Nat := ((faultRow n).map FaultRow.fixed).getD 0

/-- The class of a source (R357, R359). -/
def faultClass (n : Nat) : Nat := ((faultRow n).map FaultRow.cls).getD 3

/-! Source numbers by name (R359). -/
namespace Src
def FLT_RAIL : Nat := 0
def CLK_XO : Nat := 1
def CLK_ROOT : Nat := 2
def PWR_WARN : Nat := 3
def PWR_BROWNOUT : Nat := 4
def TEMP_WARN : Nat := 5
def TEMP_SHUT : Nat := 6
def SUP_WDT : Nat := 7
def SUP_RAM : Nat := 8
def CFG_AUDIT : Nat := 9
def REF_HOLDOVER : Nat := 10
def REF_DISAGREE : Nat := 11
def REF_SWITCH : Nat := 12
def STR_ECC : Nat := 16
def ENG_ILL : Nat := 17
def ENG_OVR : Nat := 18
def ENG_DERR : Nat := 19
def ENG_PERR : Nat := 20
def COIL_DBE : Nat := 21
def COIL_RESDBE : Nat := 22
def MTX_ECC : Nat := 23
def EGR_DC : Nat := 24
def ASRC_RANGE : Nat := 25
def DEC_SAT : Nat := 26
def SAP_00 : Nat := 32
def AES_RX_0 : Nat := 56
def MADI_0 : Nat := 64
def AMP_LATCH : Nat := 80
def AMP_LOCKOUT : Nat := 81
def AMP_DIAG : Nat := 82
def AMP_SENSE : Nat := 83
def AMP_PLIM : Nat := 84
def AMP_CFG : Nat := 85
def NET_LINK : Nat := 86
def NET_PATH : Nat := 87
def NET_LOSS : Nat := 88
def NET_RXOVF : Nat := 89
def NET_CFG : Nat := 90
def LANE_LOS : Nat := 91
def FLX_LOCK : Nat := 92
def FLX_SLIP : Nat := 93
def FLX_CRC : Nat := 94
def FLX_CFG : Nat := 95
def PAIR_TAKEOVER : Nat := 96
def PAIR_PEER : Nat := 97
def PAIR_STBY : Nat := 98
def PAIR_CHECK : Nat := 99
def PAIR_SPLIT : Nat := 100
def PAIR_DEGRADED : Nat := 101
def PAIR_LOG : Nat := 102
def FAB_LOCK : Nat := 103
def FAB_TMO : Nat := 104
def FAB_ERR : Nat := 105
def FAB_RETIRE : Nat := 106
def DMA_ERR : Nat := 107
def DMA_MISMATCH : Nat := 108
def BOOT_FALLBACK : Nat := 109
def CTL_REFUSED : Nat := 110
end Src

end Sys2Proof.Machine
end

