-- ==== Sys2Proof/Machine/RegFields.lean ====
section
/-! DEFINITION. Every register field of the manual, under its own name: where it lies (byte offset from
0x4000_0000, low bit, width) and its reset value, as the register tables of the chapters give them.
A field of an array register is a function of its instance numbers (18 R404). -/

namespace Sys2Proof.Machine

/-- One field of one register: the byte offset of its register in register space, its lowest bit,
its width and its reset value (00 R5, R8). -/
structure FieldRef where
  addr : Nat
  lo : Nat
  width : Nat
  reset : Nat
deriving DecidableEq, Repr

namespace Reg


/-! ### The CHIP block (18 R405, 17 R401) -/

def CHIP_ID.PART : FieldRef := ⟨0x0, 0, 16, 0x2304⟩
def CHIP_ID.FAMILY : FieldRef := ⟨0x0, 16, 8, 0x01⟩
def CHIP_REV.REV : FieldRef := ⟨0x4, 0, 8, 0x01⟩
def CHIP_REV.GRADE : FieldRef := ⟨0x4, 8, 2, 0⟩
def CHIP_SERIAL_LO.SERIAL : FieldRef := ⟨0x8, 0, 32, 0⟩
def CHIP_SERIAL_HI.SERIAL : FieldRef := ⟨0xC, 0, 32, 0⟩
def CHIP_OTP.VALID : FieldRef := ⟨0x10, 0, 1, 0⟩
def CHIP_OTP.REQUIRE_SIG : FieldRef := ⟨0x10, 1, 1, 0⟩
def CHIP_OTP.KEYHASH_SET : FieldRef := ⟨0x10, 2, 1, 0⟩
def CHIP_OTP.PELKEY_SET : FieldRef := ⟨0x10, 3, 1, 0⟩
def CHIP_OTP.PCIE_MODE : FieldRef := ⟨0x10, 4, 2, 0⟩
def CHIP_OTP.MGMT_RATE : FieldRef := ⟨0x10, 6, 2, 0⟩
def CHIP_SCRATCH.DATA : FieldRef := ⟨0x14, 0, 32, 0⟩
def CHIP_CTRL.WARM : FieldRef := ⟨0x100, 0, 1, 0⟩
def CHIP_CTRL.DORMANT : FieldRef := ⟨0x100, 1, 1, 0⟩
def CHIP_CTRL.COILCLR : FieldRef := ⟨0x100, 2, 1, 0⟩
def CHIP_STATE.STATE : FieldRef := ⟨0x104, 0, 4, 2⟩
def CHIP_STATE.STEP : FieldRef := ⟨0x104, 4, 4, 1⟩
def CHIP_STATE.WARM : FieldRef := ⟨0x104, 8, 1, 0⟩
def CHIP_PROGRESS.OP : FieldRef := ⟨0x108, 0, 4, 0⟩
def CHIP_PROGRESS.PERCENT : FieldRef := ⟨0x108, 4, 7, 0⟩
def CHIP_PROGRESS.DONE : FieldRef := ⟨0x108, 11, 1, 0⟩
def CHIP_PROGRESS.LASTOP : FieldRef := ⟨0x108, 12, 4, 0⟩
def CHIP_PROGRESS_POS.POSITION : FieldRef := ⟨0x10C, 0, 24, 0⟩

/-! ### The CLK block (08 R179) -/

def CLK_CTRL.MCLK0 : FieldRef := ⟨0x10000, 0, 2, 0⟩
def CLK_CTRL.MCLK1 : FieldRef := ⟨0x10000, 2, 2, 0⟩
def CLK_CTRL.MCLK2 : FieldRef := ⟨0x10000, 4, 2, 0⟩
def CLK_CTRL.MCLK3 : FieldRef := ⟨0x10000, 6, 2, 0⟩
def CLK_CTRL.WCLK0 : FieldRef := ⟨0x10000, 8, 2, 0⟩
def CLK_CTRL.WCLK1 : FieldRef := ⟨0x10000, 10, 2, 0⟩
def CLK_STATUS.XO_OK : FieldRef := ⟨0x10004, 0, 1, 0⟩
def CLK_STATUS.ROOT_LOCK : FieldRef := ⟨0x10004, 1, 1, 0⟩
def CLK_STATUS.XO_LOST : FieldRef := ⟨0x10004, 2, 1, 0⟩
def CLK_STATUS.ROOT_UNLOCK : FieldRef := ⟨0x10004, 3, 1, 0⟩
def CLK_STATUS.FAMILY : FieldRef := ⟨0x10004, 4, 1, 0⟩
def CLK_STATUS.MULT : FieldRef := ⟨0x10004, 5, 2, 0⟩
def CLK_STATUS.RELOCK : FieldRef := ⟨0x10004, 7, 1, 0⟩
def CLK_ROOT.ABW : FieldRef := ⟨0x10008, 0, 3, 3⟩
def CLK_ROOT.FORCE_RELOCK : FieldRef := ⟨0x10008, 3, 1, 0⟩

/-! ### The BOOT block (17 R401) -/

def BOOT_STATUS.SEL : FieldRef := ⟨0x150000, 0, 2, 0⟩
def BOOT_STATUS.SLOT : FieldRef := ⟨0x150000, 2, 1, 0⟩
def BOOT_STATUS.FALLBACK : FieldRef := ⟨0x150000, 3, 1, 0⟩
def BOOT_STATUS.UNSIGNED : FieldRef := ⟨0x150000, 4, 1, 0⟩
def BOOT_STATUS.FLASH_1S : FieldRef := ⟨0x150000, 5, 1, 0⟩
def BOOT_STATUS.HASH_MATCH : FieldRef := ⟨0x150000, 6, 1, 0⟩
def BOOT_STATUS.STRAP_BAD : FieldRef := ⟨0x150000, 7, 1, 0⟩
def BOOT_STATUS.REASON_A : FieldRef := ⟨0x150000, 8, 4, 0⟩
def BOOT_STATUS.REASON_B : FieldRef := ⟨0x150000, 12, 4, 0⟩
def BOOT_STATUS.NOIMG : FieldRef := ⟨0x150000, 16, 4, 0⟩
def BOOT_STATUS.WARMFAIL : FieldRef := ⟨0x150000, 20, 2, 0⟩
def BOOT_CTRL.RUN : FieldRef := ⟨0x150004, 0, 1, 0⟩
def BOOT_CTRL.HOSTGO : FieldRef := ⟨0x150004, 1, 1, 0⟩
def BOOT_CTRL.WARMBIST : FieldRef := ⟨0x150004, 2, 1, 0⟩
def BOOT_HOSTIMG.LEN : FieldRef := ⟨0x150008, 0, 26, 0⟩
def BOOT_VER.VERSION : FieldRef := ⟨0x15000C, 0, 32, 0⟩
def BOOT_BIST.MEMID : FieldRef := ⟨0x150010, 0, 8, 0⟩
def BOOT_BIST.VALID : FieldRef := ⟨0x150010, 8, 1, 0⟩
def BOOT_HASH.HASH (i : Nat) : FieldRef := ⟨0x150020 + i * 0x4, 0, 32, 0⟩

/-! ### The HOST block (17 R401) -/

def HOST_WIN.SEL : FieldRef := ⟨0x160000, 0, 1, 0⟩
def HOST_STATUS.LINKUP : FieldRef := ⟨0x160004, 0, 1, 0⟩
def HOST_STATUS.WIDTH : FieldRef := ⟨0x160004, 1, 2, 0⟩
def HOST_STATUS.SPEED : FieldRef := ⟨0x160004, 3, 2, 0⟩
def HOST_STATUS.WIDTH_ERR : FieldRef := ⟨0x160004, 5, 1, 0⟩
def HOST_STATUS.SPI_ERR : FieldRef := ⟨0x160004, 6, 1, 0⟩
def HOST_PCI_ID.VENDOR : FieldRef := ⟨0x160008, 0, 16, 0⟩
def HOST_PCI_ID.DEVICE : FieldRef := ⟨0x160008, 16, 16, 0x2304⟩
def HOST_IRQ_PEND.PEND (i : Nat) : FieldRef := ⟨0x160010 + i * 0x4, 0, 32, 0⟩
def HOST_IRQ_EN.EN (i : Nat) : FieldRef := ⟨0x160018 + i * 0x4, 0, 32, 0⟩
def HOST_PEL_CNT.AUTH : FieldRef := ⟨0x160020, 0, 16, 0⟩
def HOST_PEL_CNT.REPLAY : FieldRef := ⟨0x160020, 16, 16, 0⟩

/-! ### The REF block (08 R180) -/

def REF_CTRL.MODE : FieldRef := ⟨0x20000, 0, 2, 0⟩
def REF_CTRL.FORCE_SLOT : FieldRef := ⟨0x20000, 2, 4, 0⟩
def REF_CTRL.REVERT : FieldRef := ⟨0x20000, 6, 1, 1⟩
def REF_CTRL.FAMILY : FieldRef := ⟨0x20000, 7, 1, 0⟩
def REF_CTRL.FAMREQ : FieldRef := ⟨0x20000, 8, 1, 0⟩
def REF_STATUS.DPLL : FieldRef := ⟨0x20004, 0, 3, 0⟩
def REF_STATUS.SEL_VALID : FieldRef := ⟨0x20004, 3, 1, 0⟩
def REF_STATUS.SEL : FieldRef := ⟨0x20004, 4, 4, 0⟩
def REF_STATUS.DISAGREE : FieldRef := ⟨0x20004, 8, 1, 0⟩
def REF_STATUS.ALERT : FieldRef := ⟨0x20004, 9, 1, 0⟩
def REF_STATUS.DRIFT_WARN : FieldRef := ⟨0x20004, 10, 1, 0⟩
def REF_STATUS.CFG_REFUSED : FieldRef := ⟨0x20004, 11, 1, 0⟩
def REF_STATUS.FAM_REFUSED : FieldRef := ⟨0x20004, 12, 1, 0⟩
def REF_STATUS.HO_SHORT : FieldRef := ⟨0x20004, 13, 1, 0⟩
def REF_TIME.ACCEPT_TIME : FieldRef := ⟨0x20010, 0, 10, 10⟩
def REF_TIME.START_ACCEPT : FieldRef := ⟨0x20010, 10, 10, 10⟩
def REF_TIME.WTR : FieldRef := ⟨0x20010, 20, 12, 30⟩
def REF_DPLL.BW : FieldRef := ⟨0x20014, 0, 3, 2⟩
def REF_DPLL.FSLEW : FieldRef := ⟨0x20014, 3, 10, 50⟩
def REF_DPLL.SLOPE : FieldRef := ⟨0x20014, 16, 14, 500⟩
def REF_PHWIN.WIN : FieldRef := ⟨0x20018, 0, 16, 1000⟩
def REF_PHERR.PHERR : FieldRef := ⟨0x20030, 0, 32, 0⟩
def REF_ACQ.HOLD_TICKS : FieldRef := ⟨0x20034, 0, 16, 1024⟩
def REF_ACQ.ACQ_TMO : FieldRef := ⟨0x20034, 16, 10, 200⟩
def REF_HO.HO_AVG : FieldRef := ⟨0x2001C, 0, 12, 60⟩
def REF_LIM_0.ACCEPT : FieldRef := ⟨0x20008, 0, 16, 500⟩
def REF_LIM_0.REJECT : FieldRef := ⟨0x20008, 16, 16, 1200⟩
def REF_LIM_1.WARN : FieldRef := ⟨0x2000C, 0, 16, 800⟩
def REF_LIM_1.AGREE : FieldRef := ⟨0x2000C, 16, 16, 100⟩
def REF_HO_FREQ.HO_FREQ : FieldRef := ⟨0x20020, 0, 32, 0⟩
def REF_STEER.STEER : FieldRef := ⟨0x20024, 0, 32, 0⟩
def REF_XOCAL.XOCAL : FieldRef := ⟨0x20028, 0, 32, 0⟩
def REF_FOFF.FOFF : FieldRef := ⟨0x2002C, 0, 32, 0⟩
def REF_PTP_ERR.ERR (d : Nat) : FieldRef := ⟨0x20040 + d * 0x4, 0, 32, 0⟩
def REFS_CFG.SRC (n : Nat) : FieldRef := ⟨0x20100 + n * 0x10, 0, 6, 0⟩
def REFS_CFG.RANK (n : Nat) : FieldRef := ⟨0x20100 + n * 0x10, 6, 4, 0⟩
def REFS_CFG.EN (n : Nat) : FieldRef := ⟨0x20100 + n * 0x10, 10, 1, 0⟩
def REFS_CFG.PBO (n : Nat) : FieldRef := ⟨0x20100 + n * 0x10, 11, 1, 0⟩
def REFS_CFG.NOM (n : Nat) : FieldRef := ⟨0x20100 + n * 0x10, 12, 3, 0⟩
def REFS_STATUS.STATE (n : Nat) : FieldRef := ⟨0x20104 + n * 0x10, 0, 3, 0⟩
def REFS_STATUS.SELECTED (n : Nat) : FieldRef := ⟨0x20104 + n * 0x10, 3, 1, 0⟩
def REFS_STATUS.FAMILY (n : Nat) : FieldRef := ⟨0x20104 + n * 0x10, 4, 1, 0⟩
def REFS_STATUS.PPS_LOST (n : Nat) : FieldRef := ⟨0x20104 + n * 0x10, 5, 1, 0⟩
def REFS_STATUS.DISAGREE (n : Nat) : FieldRef := ⟨0x20104 + n * 0x10, 6, 1, 0⟩
def REFS_STATUS.QTIME (n : Nat) : FieldRef := ⟨0x20104 + n * 0x10, 8, 10, 0⟩
def REFS_FREQ.FREQ (n : Nat) : FieldRef := ⟨0x20108 + n * 0x10, 0, 32, 0x80000000⟩
def REFS_CNT.GLITCH (n : Nat) : FieldRef := ⟨0x2010C + n * 0x10, 0, 8, 0⟩
def REFS_CNT.LOSS (n : Nat) : FieldRef := ⟨0x2010C + n * 0x10, 8, 8, 0⟩
def REFS_CNT.REJECT (n : Nat) : FieldRef := ⟨0x2010C + n * 0x10, 16, 8, 0⟩
def REFS_CNT.SELECT (n : Nat) : FieldRef := ⟨0x2010C + n * 0x10, 24, 8, 0⟩

/-! ### The TIME block (09 R201) -/

def TIME_SC_INC_LO.INC : FieldRef := ⟨0x30000, 0, 32, 0⟩
def TIME_SC_INC_HI.INC : FieldRef := ⟨0x30004, 0, 32, 1⟩
def TIME_MB_SNAP.SRC (m : Nat) : FieldRef := ⟨0x30010 + m * 0x20, 0, 3, 0⟩
def TIME_MB_SNAP.TS_SNAP (m : Nat) : FieldRef := ⟨0x30010 + m * 0x20, 3, 1, 0⟩
def TIME_MB_SNAP.TS_VALID (m : Nat) : FieldRef := ⟨0x30010 + m * 0x20, 4, 1, 0⟩
def TIME_MB_SNAP.STEP (m : Nat) : FieldRef := ⟨0x30010 + m * 0x20, 5, 1, 0⟩
def TIME_MB_TS_0.TS (m : Nat) : FieldRef := ⟨0x30014 + m * 0x20, 0, 32, 0⟩
def TIME_MB_TS_1.TS (m : Nat) : FieldRef := ⟨0x30018 + m * 0x20, 0, 32, 0⟩
def TIME_MB_TS_2.TS (m : Nat) : FieldRef := ⟨0x3001C + m * 0x20, 0, 32, 0⟩
def TIME_MB_TS_CY.ECLK (m : Nat) : FieldRef := ⟨0x30020 + m * 0x20, 0, 15, 0⟩
def TIME_MB_TS_CY.SIXTEENTH (m : Nat) : FieldRef := ⟨0x30020 + m * 0x20, 15, 4, 0⟩
def TIME_MB_TS_CY.ROOT (m : Nat) : FieldRef := ⟨0x30020 + m * 0x20, 19, 1, 0⟩
def TIME_MB_TS_CY.TICK (m : Nat) : FieldRef := ⟨0x30020 + m * 0x20, 20, 12, 0⟩
def TIME_CTRL.DOMNUM (d : Nat) : FieldRef := ⟨0x30100 + d * 0x40, 0, 8, 0⟩
def TIME_CTRL.EN (d : Nat) : FieldRef := ⟨0x30100 + d * 0x40, 8, 1, 0⟩
def TIME_CTRL.HOSTEP (d : Nat) : FieldRef := ⟨0x30100 + d * 0x40, 9, 1, 1⟩
def TIME_CTRL.BIGSTEP (d : Nat) : FieldRef := ⟨0x30100 + d * 0x40, 10, 1, 0⟩
def TIME_CTRL.PAIR (d : Nat) : FieldRef := ⟨0x30100 + d * 0x40, 11, 2, 0⟩
def TIME_CTRL.PPSALIGN (d : Nat) : FieldRef := ⟨0x30100 + d * 0x40, 13, 1, 0⟩
def TIME_STATUS.SOURCE (d : Nat) : FieldRef := ⟨0x30104 + d * 0x40, 0, 1, 1⟩
def TIME_STATUS.ADJ_REFUSED (d : Nat) : FieldRef := ⟨0x30104 + d * 0x40, 1, 1, 0⟩
def TIME_STATUS.INC_REFUSED (d : Nat) : FieldRef := ⟨0x30104 + d * 0x40, 2, 1, 0⟩
def TIME_STATUS.ADJ_PEND (d : Nat) : FieldRef := ⟨0x30104 + d * 0x40, 3, 1, 0⟩
def TIME_STATUS.ADJCNT (d : Nat) : FieldRef := ⟨0x30104 + d * 0x40, 16, 16, 0⟩
def TIME_INC_LO.INC (d : Nat) : FieldRef := ⟨0x30108 + d * 0x40, 0, 32, 0⟩
def TIME_INC_HI.INC (d : Nat) : FieldRef := ⟨0x3010C + d * 0x40, 0, 32, 0⟩
def TIME_ADJ_0.NS (d : Nat) : FieldRef := ⟨0x30110 + d * 0x40, 0, 32, 0⟩
def TIME_ADJ_1.SEC_LO (d : Nat) : FieldRef := ⟨0x30114 + d * 0x40, 0, 32, 0⟩
def TIME_ADJ_2.SEC_HI (d : Nat) : FieldRef := ⟨0x30118 + d * 0x40, 0, 16, 0⟩
def TIME_ADJ_2.FRAC (d : Nat) : FieldRef := ⟨0x30118 + d * 0x40, 16, 16, 0⟩
def TIME_ADJ_GO.GO (d : Nat) : FieldRef := ⟨0x3011C + d * 0x40, 0, 1, 0⟩
def TIME_ADJ_GO.SIGN (d : Nat) : FieldRef := ⟨0x3011C + d * 0x40, 1, 1, 0⟩
def TIME_ADJ_GO.SET (d : Nat) : FieldRef := ⟨0x3011C + d * 0x40, 2, 1, 0⟩
def TIME_PORT_LAT.RX (p : Nat) : FieldRef := ⟨0x30200 + p * 0x10, 0, 16, 0⟩
def TIME_PORT_LAT.TX (p : Nat) : FieldRef := ⟨0x30200 + p * 0x10, 16, 16, 0⟩
def TIME_PORT_ASYM.ASYM (p : Nat) : FieldRef := ⟨0x30204 + p * 0x10, 0, 32, 0⟩

/-! ### The FLT block (16 R372) -/

def FLT_CLASS.PENDING : FieldRef := ⟨0x40000, 0, 4, 0⟩
def FLT_LAST_0.SRC : FieldRef := ⟨0x40004, 0, 8, 0⟩
def FLT_LAST_0.LEVEL : FieldRef := ⟨0x40004, 8, 3, 0⟩
def FLT_LAST_0.ESCALATED : FieldRef := ⟨0x40004, 11, 1, 0⟩
def FLT_LAST_0.NOBR : FieldRef := ⟨0x40004, 12, 1, 0⟩
def FLT_LAST_0.CLASS : FieldRef := ⟨0x40004, 13, 2, 0⟩
def FLT_LAST_1.TICK : FieldRef := ⟨0x40008, 0, 32, 0⟩
def FLT_RAIL_INFO.SRC : FieldRef := ⟨0x4000C, 0, 8, 0⟩
def FLT_RAIL_INFO.VALID : FieldRef := ⟨0x4000C, 8, 1, 0⟩
def FLT_WDT.WDT_MS : FieldRef := ⟨0x40010, 0, 16, 1000⟩
def FLT_AUD.PERIOD : FieldRef := ⟨0x40014, 0, 14, 100⟩
def FLT_AUD.REPAIR : FieldRef := ⟨0x40014, 14, 1, 0⟩
def FLT_AUD.EN : FieldRef := ⟨0x40014, 15, 1, 1⟩
def FLT_AUD.DIFFS : FieldRef := ⟨0x40014, 16, 16, 0⟩
def FLT_AUD_ADDR.ADDR : FieldRef := ⟨0x40018, 0, 32, 0⟩
def FLT_AUD_JBASE.BASE : FieldRef := ⟨0x4001C, 0, 32, 0x0020E000⟩
def FLT_AUD_JPTR.HEAD : FieldRef := ⟨0x40020, 0, 10, 0⟩
def FLT_AUD_JPTR.OVF : FieldRef := ⟨0x40020, 10, 1, 0⟩
def FLT_AUD_JPTR.TAIL : FieldRef := ⟨0x40020, 16, 10, 0⟩
def FLT_UNLOCK.KEY : FieldRef := ⟨0x40024, 0, 32, 0⟩
def FLT_INJ.SRC : FieldRef := ⟨0x40028, 0, 8, 0⟩
def FLT_INJ.MODE : FieldRef := ⟨0x40028, 8, 2, 0⟩
def FLT_INJ.GO : FieldRef := ⟨0x40028, 10, 1, 0⟩
def FLT_TEST.TESTMODE : FieldRef := ⟨0x4002C, 0, 1, 0⟩
def FLT_PEND.PEND (n : Nat) : FieldRef := ⟨0x40040 + n * 0x4, 0, 32, 0⟩
def FLT_SRC.LEVEL (x : Nat) : FieldRef := ⟨0x41000 + x * 0x4, 0, 3, (faultDefaultLevel x)⟩
def FLT_SRC.PIN (x : Nat) : FieldRef := ⟨0x41000 + x * 0x4, 3, 1, (faultDefaultPin x)⟩
def FLT_SRC.FIXED (x : Nat) : FieldRef := ⟨0x41000 + x * 0x4, 4, 1, (faultFixed x)⟩
def FLT_SRC.ACTIVE (x : Nat) : FieldRef := ⟨0x41000 + x * 0x4, 5, 1, 0⟩
def FLT_SRC.RAILBAD (x : Nat) : FieldRef := ⟨0x41000 + x * 0x4, 6, 1, 0⟩
def FLT_SRC.PEND (x : Nat) : FieldRef := ⟨0x41000 + x * 0x4, 7, 1, 0⟩
def FLT_SRC.COUNT (x : Nat) : FieldRef := ⟨0x41000 + x * 0x4, 8, 8, 0⟩

/-! ### The PWR block (16 R373) -/

def PWR_RAIL_STATUS.VNOW (r : Nat) : FieldRef := ⟨0x50000 + r * 0x10, 0, 12, 0⟩
def PWR_RAIL_STATUS.WARN (r : Nat) : FieldRef := ⟨0x50000 + r * 0x10, 12, 1, 0⟩
def PWR_RAIL_STATUS.WARN_EV (r : Nat) : FieldRef := ⟨0x50000 + r * 0x10, 13, 1, 0⟩
def PWR_RAIL_DIP.MINV (r : Nat) : FieldRef := ⟨0x50004 + r * 0x10, 0, 12, 0⟩
def PWR_RAIL_DIP.DUR (r : Nat) : FieldRef := ⟨0x50004 + r * 0x10, 12, 20, 0⟩
def PWR_LAST.RAIL : FieldRef := ⟨0x50100, 0, 3, 0⟩
def PWR_LAST.VALID : FieldRef := ⟨0x50100, 3, 1, 0⟩
def PWR_LAST.AONLOST : FieldRef := ⟨0x50100, 4, 1, 0⟩
def PWR_LAST.MINV : FieldRef := ⟨0x50100, 16, 12, 0⟩
def PWR_TEMP.TNOW : FieldRef := ⟨0x50104, 0, 8, 0⟩
def PWR_TEMP.TPEAK : FieldRef := ⟨0x50104, 8, 8, 0⟩
def PWR_TEMP.WARN : FieldRef := ⟨0x50104, 16, 1, 0⟩
def PWR_TEMP.SHUT_EV : FieldRef := ⟨0x50104, 17, 1, 0⟩
def PWR_TEMP_CFG.TWARN : FieldRef := ⟨0x50108, 0, 8, 105⟩
def PWR_TEMP_CFG.THYST : FieldRef := ⟨0x50108, 8, 4, 5⟩

/-! ### The FAB block (15 R355) -/

def FAB_REMAP.REMAP : FieldRef := ⟨0x60000, 0, 1, 0⟩
def FAB_ARB.AGE : FieldRef := ⟨0x60004, 0, 16, 1024⟩
def FAB_TMO.CYCLES : FieldRef := ⟨0x60008, 0, 24, 65536⟩
def FAB_STATUS.LOCK_BROKEN : FieldRef := ⟨0x6000C, 0, 1, 0⟩
def FAB_STATUS.TIMEOUT : FieldRef := ⟨0x6000C, 1, 1, 0⟩
def FAB_STATUS.ERRRESP : FieldRef := ⟨0x6000C, 2, 1, 0⟩
def FAB_STATUS.RETIRED : FieldRef := ⟨0x6000C, 3, 1, 0⟩
def FAB_STATUS.LOCKED : FieldRef := ⟨0x6000C, 4, 1, 0⟩
def FAB_STATUS.LOCK_MASTER : FieldRef := ⟨0x6000C, 5, 3, 0⟩
def FAB_STATUS.LOCK_TARGET : FieldRef := ⟨0x6000C, 8, 3, 0⟩
def FAB_ERR_ADDR.ADDR : FieldRef := ⟨0x60010, 0, 32, 0⟩
def FAB_ERR_INFO.MASTER : FieldRef := ⟨0x60014, 0, 3, 0⟩
def FAB_ERR_INFO.TARGET : FieldRef := ⟨0x60014, 3, 3, 0⟩
def FAB_ERR_INFO.ID : FieldRef := ⟨0x60014, 6, 4, 0⟩
def FAB_ERR_INFO.WRITE : FieldRef := ⟨0x60014, 10, 1, 0⟩
def FAB_ERR_INFO.KIND : FieldRef := ⟨0x60014, 11, 3, 0⟩
def FAB_ERR_INFO.VALID : FieldRef := ⟨0x60014, 14, 1, 0⟩
def FAB_CNT.ERRRESP : FieldRef := ⟨0x60018, 0, 16, 0⟩
def FAB_CNT.LOCKBRK : FieldRef := ⟨0x60018, 16, 8, 0⟩
def FAB_CNT.TMO : FieldRef := ⟨0x60018, 24, 8, 0⟩
def FAB_T_ARB.P0 (t : Nat) : FieldRef := ⟨0x60100 + t * 0x10, 0, 4, 8⟩
def FAB_T_ARB.P1 (t : Nat) : FieldRef := ⟨0x60100 + t * 0x10, 4, 4, 2⟩
def FAB_T_ARB.P2 (t : Nat) : FieldRef := ⟨0x60100 + t * 0x10, 8, 4, 2⟩
def FAB_T_ARB.P3 (t : Nat) : FieldRef := ⟨0x60100 + t * 0x10, 12, 4, 6⟩
def FAB_T_ARB.P4 (t : Nat) : FieldRef := ⟨0x60100 + t * 0x10, 16, 4, 12⟩
def FAB_T_ARB.P5 (t : Nat) : FieldRef := ⟨0x60100 + t * 0x10, 20, 4, 10⟩
def FAB_T_ARB.PARK (t : Nat) : FieldRef := ⟨0x60100 + t * 0x10, 24, 3, (if t = 1 then 4 else 0)⟩
def FAB_M_CFG.OUTST (m : Nat) : FieldRef := ⟨0x60200 + m * 0x10, 0, 6, 32⟩
def FAB_M_STATUS.OUTSTANDING (m : Nat) : FieldRef := ⟨0x60204 + m * 0x10, 0, 6, 0⟩
def FAB_M_STATUS.RETIRING (m : Nat) : FieldRef := ⟨0x60204 + m * 0x10, 6, 1, 0⟩

/-! ### The DMA block (15 R356) -/

def DMA_CTRL.RESET : FieldRef := ⟨0x70000, 0, 1, 0⟩
def DMA_STATUS.RUNNING : FieldRef := ⟨0x70004, 0, 7, 0⟩
def DMA_IRQ.CH (i : Nat) : FieldRef := ⟨0x70008 + i * 0x4, 0, 32, 0⟩
def DMA_CH_CTRL.START (c : Nat) : FieldRef := ⟨0x70100 + c * 0x40, 0, 1, 0⟩
def DMA_CH_CTRL.STOP (c : Nat) : FieldRef := ⟨0x70100 + c * 0x40, 1, 1, 0⟩
def DMA_CH_CTRL.DOORBELL (c : Nat) : FieldRef := ⟨0x70100 + c * 0x40, 2, 1, 0⟩
def DMA_CH_CTRL.COMMIT (c : Nat) : FieldRef := ⟨0x70100 + c * 0x40, 3, 1, 0⟩
def DMA_CH_DESC.FIRST (c : Nat) : FieldRef := ⟨0x70104 + c * 0x40, 0, 15, 0⟩
def DMA_CH_STATUS.STATE (c : Nat) : FieldRef := ⟨0x70108 + c * 0x40, 0, 3, 0⟩
def DMA_CH_STATUS.CUR (c : Nat) : FieldRef := ⟨0x70108 + c * 0x40, 3, 15, 0⟩
def DMA_CH_STATUS.CAUSE (c : Nat) : FieldRef := ⟨0x70108 + c * 0x40, 18, 3, 0⟩
def DMA_CH_STATUS.MISMATCH (c : Nat) : FieldRef := ⟨0x70108 + c * 0x40, 21, 1, 0⟩
def DMA_CH_STATUS.DBPEND (c : Nat) : FieldRef := ⟨0x70108 + c * 0x40, 22, 1, 0⟩
def DMA_CH_STATUS.SHADOW_DIRTY (c : Nat) : FieldRef := ⟨0x70108 + c * 0x40, 23, 1, 0⟩
def DMA_CH_CFG.PRIO (c : Nat) : FieldRef := ⟨0x7010C + c * 0x40, 0, 2, 0⟩
def DMA_CH_CFG.RATE (c : Nat) : FieldRef := ⟨0x7010C + c * 0x40, 2, 8, 0⟩
def DMA_CH_CFG.ERRIRQ (c : Nat) : FieldRef := ⟨0x7010C + c * 0x40, 10, 1, 1⟩
def DMA_CH_CFG_LIVE.PRIO (c : Nat) : FieldRef := ⟨0x70110 + c * 0x40, 0, 2, 0⟩
def DMA_CH_CFG_LIVE.RATE (c : Nat) : FieldRef := ⟨0x70110 + c * 0x40, 2, 8, 0⟩
def DMA_CH_CFG_LIVE.ERRIRQ (c : Nat) : FieldRef := ⟨0x70110 + c * 0x40, 10, 1, 1⟩
def DMA_CH_MISS_S.ADDR (c : Nat) : FieldRef := ⟨0x70114 + c * 0x40, 0, 32, 0⟩
def DMA_CH_MISS_D.ADDR (c : Nat) : FieldRef := ⟨0x70118 + c * 0x40, 0, 32, 0⟩
def DMA_CH_ERRADDR.ADDR (c : Nat) : FieldRef := ⟨0x7011C + c * 0x40, 0, 32, 0⟩
def DMA_CH_CNT.DONE (c : Nat) : FieldRef := ⟨0x70120 + c * 0x40, 0, 16, 0⟩
def DMA_CH_CNT.MISCNT (c : Nat) : FieldRef := ⟨0x70120 + c * 0x40, 16, 16, 0⟩

/-! ### The STR block (02 R42) -/

def STR_CTRL.HOLDMAX : FieldRef := ⟨0x80000, 0, 16, 48⟩
def STR_CTRL.HOSTWR_EN : FieldRef := ⟨0x80000, 16, 1, 0⟩
def STR_STATUS.HIT_REFUSED : FieldRef := ⟨0x80004, 0, 1, 0⟩
def STR_STATUS.HOSTWR_ERR : FieldRef := ⟨0x80004, 1, 1, 0⟩
def STR_STATUS.ECC_DBE : FieldRef := ⟨0x80004, 2, 1, 0⟩
def STR_STATUS.CFG_REFUSED : FieldRef := ⟨0x80004, 3, 1, 0⟩
def STR_STATUS.SUBST_SLOTS : FieldRef := ⟨0x80004, 16, 13, 0⟩
def STR_TICK_LO.TICK : FieldRef := ⟨0x80008, 0, 32, 0⟩
def STR_TICK_HI.TICK : FieldRef := ⟨0x8000C, 0, 32, 0⟩
def STR_HIT_SEL.INDEX : FieldRef := ⟨0x80010, 0, 13, 0⟩
def STR_HIT_SEL.TABLE : FieldRef := ⟨0x80010, 15, 1, 0⟩
def STR_HIT_W0.SLOT : FieldRef := ⟨0x80014, 0, 13, 0⟩
def STR_HIT_W0.IFTYPE : FieldRef := ⟨0x80014, 16, 4, 0⟩
def STR_HIT_W0.PORT : FieldRef := ⟨0x80014, 20, 9, 0⟩
def STR_HIT_W0.VALID : FieldRef := ⟨0x80014, 31, 1, 0⟩
def STR_HIT_W1.W1 : FieldRef := ⟨0x80018, 0, 32, 0⟩
def STR_HIT_STAT.STATE : FieldRef := ⟨0x8001C, 0, 3, 0⟩
def STR_HIT_STAT.FAULTY : FieldRef := ⟨0x8001C, 3, 1, 0⟩
def STR_HIT_STAT.FRAME : FieldRef := ⟨0x8001C, 16, 16, 0⟩
def STR_HIT_CNT.SUBST_FR : FieldRef := ⟨0x80020, 0, 16, 0⟩
def STR_HIT_CNT.DROP_FR : FieldRef := ⟨0x80020, 16, 16, 0⟩
def STR_HIT_COMMIT.COMMIT : FieldRef := ⟨0x80024, 0, 1, 0⟩
def STR_HIT_COMMIT.DISCARD : FieldRef := ⟨0x80024, 1, 1, 0⟩
def STR_HIT_QSTAT.DEPTH : FieldRef := ⟨0x80028, 0, 9, 0⟩
def STR_HIT_QSTAT.OVF : FieldRef := ⟨0x80028, 9, 1, 0⟩
def STR_HIT_QSTAT.REFUSED : FieldRef := ⟨0x80028, 16, 8, 0⟩
def STR_HIT_QSTAT.REASON : FieldRef := ⟨0x80028, 24, 4, 0⟩
def STR_BRD_CTRL.LOCKSTEP (b : Nat) : FieldRef := ⟨0x81000 + b * 0x20, 1, 1, 0⟩
def STR_BRD_CTRL.TRIGSRC (b : Nat) : FieldRef := ⟨0x81000 + b * 0x20, 2, 2, 0⟩
def STR_BRD_CTRL.DOMAIN (b : Nat) : FieldRef := ⟨0x81000 + b * 0x20, 4, 2, 0⟩
def STR_BRD_CTRL.EDGE (b : Nat) : FieldRef := ⟨0x81000 + b * 0x20, 6, 1, 0⟩
def STR_BRD_CTRL.ARM (b : Nat) : FieldRef := ⟨0x81000 + b * 0x20, 7, 1, 0⟩
def STR_BRD_CTRL.STOP (b : Nat) : FieldRef := ⟨0x81000 + b * 0x20, 8, 1, 0⟩
def STR_BRD_CTRL.BFRAME (b : Nat) : FieldRef := ⟨0x81000 + b * 0x20, 9, 9, 1⟩
def STR_BRD_CTRL.REJOIN_FRAMES (b : Nat) : FieldRef := ⟨0x81000 + b * 0x20, 18, 10, 256⟩
def STR_BRD_TRIG_0.TRIG (b : Nat) : FieldRef := ⟨0x81004 + b * 0x20, 0, 32, 0⟩
def STR_BRD_TRIG_1.TRIG (b : Nat) : FieldRef := ⟨0x81008 + b * 0x20, 0, 32, 0⟩
def STR_BRD_TRIG_2.TRIG (b : Nat) : FieldRef := ⟨0x8100C + b * 0x20, 0, 32, 0⟩
def STR_BRD_STATUS.STATE (b : Nat) : FieldRef := ⟨0x81010 + b * 0x20, 0, 2, 0⟩
def STR_BRD_STATUS.LATE (b : Nat) : FieldRef := ⟨0x81010 + b * 0x20, 2, 1, 0⟩
def STR_BRD_STATUS.BAD_FRAME (b : Nat) : FieldRef := ⟨0x81010 + b * 0x20, 3, 1, 0⟩
def STR_BRD_STATUS.FAULTY (b : Nat) : FieldRef := ⟨0x81010 + b * 0x20, 4, 1, 0⟩
def STR_BRD_STATUS.BAD_TRIG (b : Nat) : FieldRef := ⟨0x81010 + b * 0x20, 5, 1, 0⟩
def STR_BRD_STATUS.MEMBERS (b : Nat) : FieldRef := ⟨0x81010 + b * 0x20, 8, 9, 0⟩
def STR_BRD_START_LO.START (b : Nat) : FieldRef := ⟨0x81014 + b * 0x20, 0, 32, 0⟩
def STR_BRD_START_HI.START (b : Nat) : FieldRef := ⟨0x81018 + b * 0x20, 0, 32, 0⟩

/-! ### The ENG block (03 R75, 04 R101, 05 R122) -/

def ENG_CTRL.PCOMMIT (e : Nat) : FieldRef := ⟨0x90000 + e * 0x40, 0, 1, 0⟩
def ENG_CTRL.RELOAD (e : Nat) : FieldRef := ⟨0x90000 + e * 0x40, 1, 1, 0⟩
def ENG_STATUS.SAT_SEEN (e : Nat) : FieldRef := ⟨0x90004 + e * 0x40, 0, 1, 0⟩
def ENG_STATUS.AOV_SEEN (e : Nat) : FieldRef := ⟨0x90004 + e * 0x40, 1, 1, 0⟩
def ENG_STATUS.ADDR_ERR (e : Nat) : FieldRef := ⟨0x90004 + e * 0x40, 2, 1, 0⟩
def ENG_STATUS.STRQ_OVF (e : Nat) : FieldRef := ⟨0x90004 + e * 0x40, 3, 1, 0⟩
def ENG_STATUS.SWR_REFUSED (e : Nat) : FieldRef := ⟨0x90004 + e * 0x40, 4, 1, 0⟩
def ENG_STATUS.COIL_NOSLOT (e : Nat) : FieldRef := ⟨0x90004 + e * 0x40, 5, 1, 0⟩
def ENG_STATUS.DERR (e : Nat) : FieldRef := ⟨0x90004 + e * 0x40, 6, 1, 0⟩
def ENG_STATUS.PERR (e : Nat) : FieldRef := ⟨0x90004 + e * 0x40, 7, 1, 0⟩
def ENG_STATUS.OVERRUN (e : Nat) : FieldRef := ⟨0x90004 + e * 0x40, 8, 1, 0⟩
def ENG_STATUS.PDIRTY (e : Nat) : FieldRef := ⟨0x90004 + e * 0x40, 9, 1, 0⟩
def ENG_STATUS.STATE (e : Nat) : FieldRef := ⟨0x90004 + e * 0x40, 10, 2, 2⟩
def ENG_STATUS.BANK (e : Nat) : FieldRef := ⟨0x90004 + e * 0x40, 12, 1, 0⟩
def ENG_STATUS.OTHER_BAD (e : Nat) : FieldRef := ⟨0x90004 + e * 0x40, 13, 1, 0⟩
def ENG_ECC.SBE (e : Nat) : FieldRef := ⟨0x90008 + e * 0x40, 0, 16, 0⟩
def ENG_ECC.DBE (e : Nat) : FieldRef := ⟨0x90008 + e * 0x40, 16, 16, 0⟩
def ENG_DBE_ADDR.ADDR (e : Nat) : FieldRef := ⟨0x9000C + e * 0x40, 0, 22, 0⟩
def ENG_DBE_ADDR.MEM (e : Nat) : FieldRef := ⟨0x9000C + e * 0x40, 22, 2, 0⟩
def ENG_DBE_ADDR.CONST (e : Nat) : FieldRef := ⟨0x9000C + e * 0x40, 24, 1, 0⟩
def ENG_DBE_ADDR.VALID (e : Nat) : FieldRef := ⟨0x9000C + e * 0x40, 25, 1, 0⟩
def ENG_ENTRY.ENTRY0 (e : Nat) : FieldRef := ⟨0x90010 + e * 0x40, 0, 12, 0⟩
def ENG_ENTRY.ENTRY1 (e : Nat) : FieldRef := ⟨0x90010 + e * 0x40, 16, 12, 0⟩
def ENG_WAITCYC.LAST (e : Nat) : FieldRef := ⟨0x90014 + e * 0x40, 0, 16, 0⟩
def ENG_WAITCYC.PEAK (e : Nat) : FieldRef := ⟨0x90014 + e * 0x40, 16, 16, 0⟩
def ENG_OVRCNT.COUNT (e : Nat) : FieldRef := ⟨0x90018 + e * 0x40, 0, 16, 0⟩
def ENG_OVR_PC.PC (e : Nat) : FieldRef := ⟨0x9001C + e * 0x40, 0, 12, 0⟩
def ENG_OVR_PC.BANK (e : Nat) : FieldRef := ⟨0x9001C + e * 0x40, 12, 1, 0⟩
def ENG_EXC.ILL (e : Nat) : FieldRef := ⟨0x90020 + e * 0x40, 0, 1, 0⟩
def ENG_EXC.PORT_CONFLICT (e : Nat) : FieldRef := ⟨0x90020 + e * 0x40, 1, 1, 0⟩
def ENG_EXC.CAUSE (e : Nat) : FieldRef := ⟨0x90020 + e * 0x40, 4, 4, 0⟩
def ENG_EXC.ILL_PC (e : Nat) : FieldRef := ⟨0x90020 + e * 0x40, 16, 12, 0⟩
def ENG_LP_CTRL.LOAD : FieldRef := ⟨0x94000, 0, 1, 0⟩
def ENG_LP_CTRL.ARM : FieldRef := ⟨0x94000, 1, 1, 0⟩
def ENG_LP_CTRL.DISARM : FieldRef := ⟨0x94000, 2, 1, 0⟩
def ENG_LP_CTRL.TRIGSRC : FieldRef := ⟨0x94000, 3, 2, 0⟩
def ENG_LP_CTRL.DOMAIN : FieldRef := ⟨0x94000, 5, 2, 0⟩
def ENG_LP_STATUS.LIVE : FieldRef := ⟨0x94004, 0, 1, 0⟩
def ENG_LP_STATUS.OTHER : FieldRef := ⟨0x94004, 1, 2, 0⟩
def ENG_LP_STATUS.ARMED : FieldRef := ⟨0x94004, 3, 1, 0⟩
def ENG_LP_STATUS.LATE : FieldRef := ⟨0x94004, 4, 1, 0⟩
def ENG_LP_STATUS.REFUSED : FieldRef := ⟨0x94004, 5, 1, 0⟩
def ENG_LP_STATUS.REASON : FieldRef := ⟨0x94004, 6, 4, 0⟩
def ENG_LP_STATUS.RAMPING : FieldRef := ⟨0x94004, 10, 1, 0⟩
def ENG_LP_STATUS.LOADPCT : FieldRef := ⟨0x94004, 16, 7, 0⟩
def ENG_LP_TRIG_0.TRIG : FieldRef := ⟨0x94008, 0, 32, 0⟩
def ENG_LP_TRIG_1.TRIG : FieldRef := ⟨0x9400C, 0, 32, 0⟩
def ENG_LP_TRIG_2.TRIG : FieldRef := ⟨0x94010, 0, 32, 0⟩
def ENG_LP_ID.ID (i : Nat) : FieldRef := ⟨0x94014 + i * 0x4, 0, 32, 0⟩
def ENG_LP_SPLICE.LEN : FieldRef := ⟨0x9401C, 0, 12, 64⟩
def ENG_LP_LAST_LO.TICK : FieldRef := ⟨0x94020, 0, 32, 0⟩
def ENG_LP_LAST_HI.TICK : FieldRef := ⟨0x94024, 0, 32, 0⟩
def ENG_RES.BASE : FieldRef := ⟨0x94028, 0, 14, 0⟩
def ENG_RES.COUNT : FieldRef := ⟨0x94028, 14, 14, 1024⟩
def ENG_PCM.MASK (i : Nat) : FieldRef := ⟨0x94030 + i * 0x4, 0, 32, 0⟩
def ENG_PCM_GO.GO : FieldRef := ⟨0x94048, 0, 1, 0⟩

/-! ### The MTX block (06 R147) -/

def MTX_CTRL.SCRUB_EN : FieldRef := ⟨0xA0000, 0, 1, 1⟩
def MTX_STATUS.ROW_BUSY : FieldRef := ⟨0xA0004, 0, 1, 0⟩
def MTX_STATUS.CL_OVF : FieldRef := ⟨0xA0004, 1, 1, 0⟩
def MTX_STATUS.CM_REFUSED : FieldRef := ⟨0xA0004, 2, 1, 0⟩
def MTX_STATUS.ECC_DBE : FieldRef := ⟨0xA0004, 3, 1, 0⟩
def MTX_STATUS.CLIPCOLS : FieldRef := ⟨0xA0004, 16, 12, 0⟩
def MTX_BUDGET.B : FieldRef := ⟨0xA0008, 0, 21, 1048576⟩
def MTX_INUSE.INUSE : FieldRef := ⟨0xA000C, 0, 21, 0⟩
def MTX_ECC.SBE : FieldRef := ⟨0xA0010, 0, 16, 0⟩
def MTX_ECC.DBE : FieldRef := ⟨0xA0010, 16, 16, 0⟩
def MTX_ROW_W0.SLOT : FieldRef := ⟨0xA0024, 0, 13, 0⟩
def MTX_ROW_W0.VALID : FieldRef := ⟨0xA0024, 31, 1, 0⟩
def MTX_ROW_W1.OPEN : FieldRef := ⟨0xA0028, 0, 16, 1049⟩
def MTX_ROW_W1.CLOSE : FieldRef := ⟨0xA0028, 16, 16, 524⟩
def MTX_ROW_W2.HOLD : FieldRef := ⟨0xA002C, 0, 16, 9600⟩
def MTX_ROW_W2.GATE : FieldRef := ⟨0xA002C, 16, 1, 0⟩
def MTX_COL_W0.SLOT : FieldRef := ⟨0xA0034, 0, 13, 0⟩
def MTX_COL_W0.KIND : FieldRef := ⟨0xA0034, 13, 2, 0⟩
def MTX_COL_W0.NOM : FieldRef := ⟨0xA0034, 15, 1, 0⟩
def MTX_COL_W0.UNIT : FieldRef := ⟨0xA0034, 16, 8, 0⟩
def MTX_COL_W1.NLIVE : FieldRef := ⟨0xA0038, 0, 12, 0⟩
def MTX_COL_W1.NNEW : FieldRef := ⟨0xA0038, 12, 12, 0⟩
def MTX_COL_W1.STATE : FieldRef := ⟨0xA0038, 24, 3, 0⟩
def MTX_COL_W2.K : FieldRef := ⟨0xA003C, 0, 12, 0⟩
def MTX_COL_W2.ID : FieldRef := ⟨0xA003C, 12, 4, 0⟩
def MTX_COL_W2.RESULT : FieldRef := ⟨0xA003C, 16, 3, 0⟩
def MTX_XQ_SEL.ROW : FieldRef := ⟨0xA0040, 0, 12, 0⟩
def MTX_XQ_SEL.COLUMN : FieldRef := ⟨0xA0040, 12, 12, 0⟩
def MTX_CM_CTRL.LEN : FieldRef := ⟨0xA0060, 0, 12, 64⟩
def MTX_CM_CTRL.LAW : FieldRef := ⟨0xA0060, 12, 1, 0⟩
def MTX_CM_CTRL.PREEMPT : FieldRef := ⟨0xA0060, 13, 1, 0⟩
def MTX_CM_CTRL.START : FieldRef := ⟨0xA0060, 14, 2, 0⟩
def MTX_CM_CTRL.DOMAIN : FieldRef := ⟨0xA0060, 16, 2, 0⟩
def MTX_CM_CTRL.ZC : FieldRef := ⟨0xA0060, 18, 1, 0⟩
def MTX_CM_ZC.TIMEOUT : FieldRef := ⟨0xA0064, 0, 16, 480⟩
def MTX_CM_ZC.THR : FieldRef := ⟨0xA0064, 16, 16, 256⟩
def MTX_CM_GO.COMMIT : FieldRef := ⟨0xA0074, 0, 1, 0⟩
def MTX_CM_GO.DISCARD : FieldRef := ⟨0xA0074, 1, 1, 0⟩
def MTX_CM_LAST.ID : FieldRef := ⟨0xA0078, 0, 4, 0⟩
def MTX_CM_LAST.REFUSED : FieldRef := ⟨0xA0078, 4, 1, 0⟩
def MTX_CM_LAST.REASON : FieldRef := ⟨0xA0078, 5, 4, 0⟩
def MTX_ROW_SEL.INDEX : FieldRef := ⟨0xA0020, 0, 12, 0⟩
def MTX_COL_SEL.INDEX : FieldRef := ⟨0xA0030, 0, 12, 0⟩
def MTX_XQ_LIVE.GAIN : FieldRef := ⟨0xA0044, 0, 32, 0⟩
def MTX_XQ_NEW.GAIN : FieldRef := ⟨0xA0048, 0, 32, 0⟩
def MTX_CL_W0.ENTRY : FieldRef := ⟨0xA0050, 0, 32, 0⟩
def MTX_CL_W1.ENTRY : FieldRef := ⟨0xA0054, 0, 32, 0⟩
def MTX_CL_COUNT.COUNT : FieldRef := ⟨0xA0058, 0, 13, 0⟩
def MTX_CM_TRIG_0.TRIG : FieldRef := ⟨0xA0068, 0, 32, 0⟩
def MTX_CM_TRIG_1.TRIG : FieldRef := ⟨0xA006C, 0, 32, 0⟩
def MTX_CM_TRIG_2.TRIG : FieldRef := ⟨0xA0070, 0, 32, 0⟩
def MTX_CS_SEL.ID : FieldRef := ⟨0xA0080, 0, 4, 0⟩
def MTX_CS_STAT.STATE : FieldRef := ⟨0xA0084, 0, 3, 0⟩
def MTX_CS_STAT.DELAYED : FieldRef := ⟨0xA0084, 3, 1, 0⟩
def MTX_CS_STAT.FALLBACK : FieldRef := ⟨0xA0084, 4, 12, 0⟩
def MTX_CS_STAT.REFUSED : FieldRef := ⟨0xA0084, 16, 12, 0⟩
def MTX_CS_START_LO.START : FieldRef := ⟨0xA0088, 0, 32, 0⟩
def MTX_CS_START_HI.START : FieldRef := ⟨0xA008C, 0, 32, 0⟩
def MTX_NOM_CTRL.LAW (u : Nat) : FieldRef := ⟨0xA1000 + u * 0x80, 0, 2, 1⟩
def MTX_NOM_CTRL.RAMP (u : Nat) : FieldRef := ⟨0xA1000 + u * 0x80, 2, 12, 64⟩
def MTX_NOM_STATUS.N (u : Nat) : FieldRef := ⟨0xA1004 + u * 0x80, 0, 12, 0⟩
def MTX_NOM_TABLE.GAIN (u : Nat) (i : Nat) : FieldRef := ⟨0xA1040 + u * 0x80 + i * 0x4, 0, 32, 0x08000000⟩

/-! ### The EGR block (06 R148) -/

def EGR_WSEL.INST : FieldRef := ⟨0xB0000, 0, 12, 0⟩
def EGR_WGAIN.GAIN : FieldRef := ⟨0xB0004, 0, 32, 0x08000000⟩
def EGR_WCTRL.MUTE : FieldRef := ⟨0xB0008, 0, 1, 0⟩
def EGR_WCTRL.LIM_EN : FieldRef := ⟨0xB0008, 1, 1, 0⟩
def EGR_WCTRL.DC_EN : FieldRef := ⟨0xB0008, 2, 1, 1⟩
def EGR_WCTRL.DCMUTE : FieldRef := ⟨0xB0008, 3, 1, 0⟩
def EGR_WCTRL.ZCTO : FieldRef := ⟨0xB0008, 16, 16, 480⟩
def EGR_WLIM.ZCTHR : FieldRef := ⟨0xB000C, 0, 16, 256⟩
def EGR_WLIM.RSHIFT : FieldRef := ⟨0xB000C, 16, 5, 12⟩
def EGR_WLIM.THR : FieldRef := ⟨0xB000C, 24, 8, 0x7F⟩
def EGR_WDC.DCTHR : FieldRef := ⟨0xB0010, 0, 16, 20972⟩
def EGR_WDC.DCSHIFT : FieldRef := ⟨0xB0010, 16, 5, 16⟩
def EGR_WDC.DCTIME : FieldRef := ⟨0xB0010, 21, 11, 960⟩
def EGR_WCOMMIT.COMMIT : FieldRef := ⟨0xB0014, 0, 1, 0⟩
def EGR_WSTAT.STATE : FieldRef := ⟨0xB0018, 0, 3, 0⟩
def EGR_WSTAT.DC : FieldRef := ⟨0xB0018, 3, 1, 0⟩
def EGR_WSTAT.GR : FieldRef := ⟨0xB0018, 16, 16, 0xFFFF⟩
def EGR_WCNT.CLIP : FieldRef := ⟨0xB001C, 0, 16, 0⟩
def EGR_WCNT.LIM : FieldRef := ⟨0xB001C, 16, 16, 0⟩
def EGR_ST_CTRL.TARGET (m : Nat) : FieldRef := ⟨0xB1000 + m * 0x40, 0, 13, 0⟩
def EGR_ST_CTRL.MODE (m : Nat) : FieldRef := ⟨0xB1000 + m * 0x40, 13, 1, 0⟩
def EGR_ST_CTRL.EN (m : Nat) : FieldRef := ⟨0xB1000 + m * 0x40, 14, 1, 0⟩
def EGR_ST_SRC.HITCH (m : Nat) (i : Nat) : FieldRef := ⟨0xB1004 + m * 0x40 + i * 0x4, 0, 13, 0⟩
def EGR_ST_SRC.VALID (m : Nat) (i : Nat) : FieldRef := ⟨0xB1004 + m * 0x40 + i * 0x4, 31, 1, 0⟩
def EGR_ST_GAIN.GAIN (m : Nat) (i : Nat) : FieldRef := ⟨0xB1014 + m * 0x40 + i * 0x4, 0, 32, 0⟩

/-! ### The SAP block (10 R225) -/

def SAP_RXCFG.EN (p : Nat) : FieldRef := ⟨0xC0000 + p * 0x40, 0, 1, 0⟩
def SAP_RXCFG.MASTER (p : Nat) : FieldRef := ⟨0xC0000 + p * 0x40, 1, 1, 0⟩
def SAP_RXCFG.FMT (p : Nat) : FieldRef := ⟨0xC0000 + p * 0x40, 2, 2, 0⟩
def SAP_RXCFG.SLOTS (p : Nat) : FieldRef := ⟨0xC0000 + p * 0x40, 4, 3, 0⟩
def SAP_RXCFG.SLOTW (p : Nat) : FieldRef := ⟨0xC0000 + p * 0x40, 7, 1, 1⟩
def SAP_RXCFG.DW (p : Nat) : FieldRef := ⟨0xC0000 + p * 0x40, 8, 2, 2⟩
def SAP_RXCFG.DELAY (p : Nat) : FieldRef := ⟨0xC0000 + p * 0x40, 10, 1, 0⟩
def SAP_RXCFG.FSW (p : Nat) : FieldRef := ⟨0xC0000 + p * 0x40, 11, 1, 0⟩
def SAP_RXCFG.FSPOL (p : Nat) : FieldRef := ⟨0xC0000 + p * 0x40, 12, 1, 0⟩
def SAP_RXCFG.BCKPOL (p : Nat) : FieldRef := ⟨0xC0000 + p * 0x40, 13, 1, 0⟩
def SAP_RXCFG.ASYNC (p : Nat) : FieldRef := ⟨0xC0000 + p * 0x40, 14, 1, 0⟩
def SAP_TXCFG.EN (p : Nat) : FieldRef := ⟨0xC0004 + p * 0x40, 0, 1, 0⟩
def SAP_TXCFG.MASTER (p : Nat) : FieldRef := ⟨0xC0004 + p * 0x40, 1, 1, 0⟩
def SAP_TXCFG.FMT (p : Nat) : FieldRef := ⟨0xC0004 + p * 0x40, 2, 2, 0⟩
def SAP_TXCFG.SLOTS (p : Nat) : FieldRef := ⟨0xC0004 + p * 0x40, 4, 3, 0⟩
def SAP_TXCFG.SLOTW (p : Nat) : FieldRef := ⟨0xC0004 + p * 0x40, 7, 1, 1⟩
def SAP_TXCFG.DW (p : Nat) : FieldRef := ⟨0xC0004 + p * 0x40, 8, 2, 2⟩
def SAP_TXCFG.DELAY (p : Nat) : FieldRef := ⟨0xC0004 + p * 0x40, 10, 1, 0⟩
def SAP_TXCFG.FSW (p : Nat) : FieldRef := ⟨0xC0004 + p * 0x40, 11, 1, 0⟩
def SAP_TXCFG.FSPOL (p : Nat) : FieldRef := ⟨0xC0004 + p * 0x40, 12, 1, 0⟩
def SAP_TXCFG.BCKPOL (p : Nat) : FieldRef := ⟨0xC0004 + p * 0x40, 13, 1, 0⟩
def SAP_TXCFG.HIZ (p : Nat) : FieldRef := ⟨0xC0004 + p * 0x40, 14, 1, 0⟩
def SAP_ZC.TIMEOUT (p : Nat) : FieldRef := ⟨0xC0008 + p * 0x40, 0, 16, 480⟩
def SAP_ZC.THR (p : Nat) : FieldRef := ⟨0xC0008 + p * 0x40, 16, 16, 256⟩
def SAP_STATUS.RXSTATE (p : Nat) : FieldRef := ⟨0xC000C + p * 0x40, 0, 3, 0⟩
def SAP_STATUS.TXSTATE (p : Nat) : FieldRef := ⟨0xC000C + p * 0x40, 3, 3, 0⟩
def SAP_STATUS.MALF (p : Nat) : FieldRef := ⟨0xC000C + p * 0x40, 6, 1, 0⟩
def SAP_STATUS.RX_CLKLOST (p : Nat) : FieldRef := ⟨0xC000C + p * 0x40, 7, 1, 0⟩
def SAP_STATUS.RX_RATEMIS (p : Nat) : FieldRef := ⟨0xC000C + p * 0x40, 8, 1, 0⟩
def SAP_STATUS.TX_CLKLOST (p : Nat) : FieldRef := ⟨0xC000C + p * 0x40, 9, 1, 0⟩
def SAP_STATUS.TX_RATEMIS (p : Nat) : FieldRef := ⟨0xC000C + p * 0x40, 10, 1, 0⟩
def SAP_STATUS.CFG_REFUSED (p : Nat) : FieldRef := ⟨0xC000C + p * 0x40, 11, 1, 0⟩
def SAP_PHASE.RXPH (p : Nat) : FieldRef := ⟨0xC0010 + p * 0x40, 0, 15, 0⟩
def SAP_PHASE.RXPPM (p : Nat) : FieldRef := ⟨0xC0010 + p * 0x40, 16, 16, 0⟩
def SAP_RXCNT.MALF (p : Nat) : FieldRef := ⟨0xC0014 + p * 0x40, 0, 16, 0⟩
def SAP_RXCNT.SLIP (p : Nat) : FieldRef := ⟨0xC0014 + p * 0x40, 16, 16, 0⟩
def SAP_TXCNT.REPEAT (p : Nat) : FieldRef := ⟨0xC0018 + p * 0x40, 0, 16, 0⟩
def SAP_TXCNT.SKIP (p : Nat) : FieldRef := ⟨0xC0018 + p * 0x40, 16, 16, 0⟩
def SAP_ASRC_STATUS.STATE (l : Nat) : FieldRef := ⟨0xC1000 + l * 0x8, 0, 2, 0⟩
def SAP_ASRC_STATUS.RANGE (l : Nat) : FieldRef := ⟨0xC1000 + l * 0x8, 2, 1, 0⟩
def SAP_ASRC_STATUS.INRATE (l : Nat) : FieldRef := ⟨0xC1000 + l * 0x8, 8, 24, 0⟩
def SAP_ASRC_RATIO.RATIO (l : Nat) : FieldRef := ⟨0xC1004 + l * 0x8, 0, 32, 0⟩

/-! ### The AES block (10 R226) -/

def AES_RX_CFG.EN (n : Nat) : FieldRef := ⟨0xD0000 + n * 0x40, 0, 1, 0⟩
def AES_RX_CFG.ASYNC (n : Nat) : FieldRef := ⟨0xD0000 + n * 0x40, 1, 1, 0⟩
def AES_RX_CFG.CSSEL (n : Nat) : FieldRef := ⟨0xD0000 + n * 0x40, 2, 1, 0⟩
def AES_RX_STATUS.STATE (n : Nat) : FieldRef := ⟨0xD0004 + n * 0x40, 0, 2, 0⟩
def AES_RX_STATUS.PARITY (n : Nat) : FieldRef := ⟨0xD0004 + n * 0x40, 2, 1, 0⟩
def AES_RX_STATUS.LOCKLOST (n : Nat) : FieldRef := ⟨0xD0004 + n * 0x40, 3, 1, 0⟩
def AES_RX_STATUS.RATEMIS (n : Nat) : FieldRef := ⟨0xD0004 + n * 0x40, 4, 1, 0⟩
def AES_RX_STATUS.VBIT (n : Nat) : FieldRef := ⟨0xD0004 + n * 0x40, 5, 1, 0⟩
def AES_RX_STATUS.CS_NEW (n : Nat) : FieldRef := ⟨0xD0004 + n * 0x40, 6, 1, 0⟩
def AES_RX_STATUS.CRC_ERR (n : Nat) : FieldRef := ⟨0xD0004 + n * 0x40, 7, 1, 0⟩
def AES_RX_CNT.PARITY (n : Nat) : FieldRef := ⟨0xD0008 + n * 0x40, 0, 16, 0⟩
def AES_RX_CNT.SUBST (n : Nat) : FieldRef := ⟨0xD0008 + n * 0x40, 16, 16, 0⟩
def AES_RX_CS.CS (n : Nat) (k : Nat) : FieldRef := ⟨0xD0010 + n * 0x40 + k * 0x4, 0, 32, 0⟩
def AES_TX_CFG.EN (n : Nat) : FieldRef := ⟨0xD0200 + n * 0x40, 0, 1, 0⟩
def AES_TX_CFG.CRC_EN (n : Nat) : FieldRef := ⟨0xD0200 + n * 0x40, 1, 1, 1⟩
def AES_TX_CS.CS (n : Nat) (k : Nat) : FieldRef := ⟨0xD0210 + n * 0x40 + k * 0x4, 0, 32, 0⟩
def MADI_CFG.RXEN (m : Nat) : FieldRef := ⟨0xD0400 + m * 0x40, 0, 1, 0⟩
def MADI_CFG.TXEN (m : Nat) : FieldRef := ⟨0xD0400 + m * 0x40, 1, 1, 0⟩
def MADI_CFG.MODE (m : Nat) : FieldRef := ⟨0xD0400 + m * 0x40, 2, 2, 1⟩
def MADI_CFG.ASYNC (m : Nat) : FieldRef := ⟨0xD0400 + m * 0x40, 4, 1, 0⟩
def MADI_STATUS.RXSTATE (m : Nat) : FieldRef := ⟨0xD0404 + m * 0x40, 0, 2, 0⟩
def MADI_STATUS.SYNCERR (m : Nat) : FieldRef := ⟨0xD0404 + m * 0x40, 2, 1, 0⟩
def MADI_STATUS.PARITY (m : Nat) : FieldRef := ⟨0xD0404 + m * 0x40, 3, 1, 0⟩
def MADI_STATUS.LOCKLOST (m : Nat) : FieldRef := ⟨0xD0404 + m * 0x40, 4, 1, 0⟩
def MADI_STATUS.RATEMIS (m : Nat) : FieldRef := ⟨0xD0404 + m * 0x40, 5, 1, 0⟩
def MADI_CNT.PARITY (m : Nat) : FieldRef := ⟨0xD0408 + m * 0x40, 0, 16, 0⟩
def MADI_CNT.SUBST (m : Nat) : FieldRef := ⟨0xD0408 + m * 0x40, 16, 16, 0⟩

/-! ### The DEC block (10 R227) -/

def DEC_CH_CFG.EN (c : Nat) : FieldRef := ⟨0xE0000 + c * 0x10, 0, 1, 0⟩
def DEC_CH_CFG.ORDER (c : Nat) : FieldRef := ⟨0xE0000 + c * 0x10, 1, 2, 2⟩
def DEC_CH_CFG.MDD (c : Nat) : FieldRef := ⟨0xE0000 + c * 0x10, 3, 1, 0⟩
def DEC_CH_CFG.HB (c : Nat) : FieldRef := ⟨0xE0000 + c * 0x10, 4, 1, 0⟩
def DEC_CH_CFG.CSET (c : Nat) : FieldRef := ⟨0xE0000 + c * 0x10, 5, 3, 0⟩
def DEC_CH_CFG.INV (c : Nat) : FieldRef := ⟨0xE0000 + c * 0x10, 8, 1, 0⟩
def DEC_CH_DC.FC (c : Nat) : FieldRef := ⟨0xE0004 + c * 0x10, 0, 11, 100⟩
def DEC_CH_DC.BYP (c : Nat) : FieldRef := ⟨0xE0004 + c * 0x10, 11, 1, 0⟩
def DEC_CH_DC.FREEZE (c : Nat) : FieldRef := ⟨0xE0004 + c * 0x10, 12, 1, 0⟩
def DEC_CH_STATUS.UNSETTLED (c : Nat) : FieldRef := ⟨0xE0008 + c * 0x10, 0, 1, 0⟩
def DEC_CH_STATUS.SAT (c : Nat) : FieldRef := ⟨0xE0008 + c * 0x10, 1, 1, 0⟩
def DEC_CH_STATUS.NOCLK (c : Nat) : FieldRef := ⟨0xE0008 + c * 0x10, 2, 1, 0⟩
def DEC_CH_STATUS.SETTLE (c : Nat) : FieldRef := ⟨0xE0008 + c * 0x10, 8, 8, 0⟩
def DEC_CH_STATUS.RATIO (c : Nat) : FieldRef := ⟨0xE0008 + c * 0x10, 16, 9, 0⟩
def DEC_COEF.COEF (x : Nat) (t : Nat) : FieldRef := ⟨0xE1000 + x * 0x80 + t * 0x4, 0, 32, (if t = 0 then 0x10000000 else 0)⟩
def DEC_HB.COEF (i : Nat) : FieldRef := ⟨0xE1400 + i * 0x4, 0, 32, 0⟩
def DEC_PDMCLK.DIV0 : FieldRef := ⟨0xE1500, 0, 2, 0⟩
def DEC_PDMCLK.DIV1 : FieldRef := ⟨0xE1500, 2, 2, 0⟩
def DEC_PDMCLK.DIV2 : FieldRef := ⟨0xE1500, 4, 2, 0⟩
def DEC_PDMCLK.DIV3 : FieldRef := ⟨0xE1500, 6, 2, 0⟩

/-! ### The AMP block (11 R247) -/

def AMP_CTRL.SNSEN : FieldRef := ⟨0xF0000, 0, 4, 0⟩
def AMP_CTRL.WARMDIAG : FieldRef := ⟨0xF0000, 4, 1, 0⟩
def AMP_CTRL.OCFILT : FieldRef := ⟨0xF0000, 5, 3, 2⟩
def AMP_STATUS.CFG_REFUSED : FieldRef := ⟨0xF0004, 0, 1, 0⟩
def AMP_STATUS.NDIAG : FieldRef := ⟨0xF0004, 1, 4, 0⟩
def AMP_MOD.JMAX : FieldRef := ⟨0xF0008, 0, 13, 6144⟩
def AMP_MOD.USCALE : FieldRef := ⟨0xF0008, 16, 13, 6000⟩
def AMP_DIAG.DIAGJ : FieldRef := ⟨0xF000C, 0, 10, 64⟩
def AMP_DIAG.ZSHORT : FieldRef := ⟨0xF000C, 10, 10, 100⟩
def AMP_DIAG.RLYT : FieldRef := ⟨0xF000C, 20, 4, 10⟩
def AMP_NS.H (i : Nat) : FieldRef := ⟨0xF0010 + i * 0x4, 0, 32, ([0xD8000000, 0x50000000, 0xB0000000, 0x28000000, 0xF8000000].getD i 0)⟩
def AMP_CH_CTRL.EN (n : Nat) : FieldRef := ⟨0xF0100 + n * 0x20, 0, 1, 0⟩
def AMP_CH_CTRL.DIAG_EN (n : Nat) : FieldRef := ⟨0xF0100 + n * 0x20, 1, 1, 1⟩
def AMP_CH_CTRL.OPEN_EN (n : Nat) : FieldRef := ⟨0xF0100 + n * 0x20, 2, 1, 1⟩
def AMP_CH_CTRL.PLIM_EN (n : Nat) : FieldRef := ⟨0xF0100 + n * 0x20, 3, 1, 1⟩
def AMP_CH_CTRL.CLR (n : Nat) : FieldRef := ⟨0xF0100 + n * 0x20, 4, 1, 0⟩
def AMP_CH_CTRL.RUNDIAG (n : Nat) : FieldRef := ⟨0xF0100 + n * 0x20, 5, 1, 0⟩
def AMP_CH_SCALE.VFS (n : Nat) : FieldRef := ⟨0xF0104 + n * 0x20, 0, 16, 0⟩
def AMP_CH_SCALE.IFS (n : Nat) : FieldRef := ⟨0xF0104 + n * 0x20, 16, 16, 0⟩
def AMP_CH_PLIM.PLIM (n : Nat) : FieldRef := ⟨0xF0108 + n * 0x20, 0, 16, 0xFFFF⟩
def AMP_CH_PLIM.PLOSS (n : Nat) : FieldRef := ⟨0xF0108 + n * 0x20, 24, 8, 0x20⟩
def AMP_CH_TIME.WINDOW (n : Nat) : FieldRef := ⟨0xF010C + n * 0x20, 0, 14, 500⟩
def AMP_CH_TIME.ATTACK (n : Nat) : FieldRef := ⟨0xF010C + n * 0x20, 14, 6, 5⟩
def AMP_CH_TIME.RELEASE (n : Nat) : FieldRef := ⟨0xF010C + n * 0x20, 20, 12, 500⟩
def AMP_CH_STATUS.STATE (n : Nat) : FieldRef := ⟨0xF0110 + n * 0x20, 0, 4, 0⟩
def AMP_CH_STATUS.DIAG_RES (n : Nat) : FieldRef := ⟨0xF0110 + n * 0x20, 4, 3, 0⟩
def AMP_CH_STATUS.PLIM_ACT (n : Nat) : FieldRef := ⟨0xF0110 + n * 0x20, 7, 1, 0⟩
def AMP_CH_STATUS.SENSE_LOST (n : Nat) : FieldRef := ⟨0xF0110 + n * 0x20, 8, 1, 0⟩
def AMP_CH_STATUS.LOWSIG (n : Nat) : FieldRef := ⟨0xF0110 + n * 0x20, 9, 1, 0⟩
def AMP_CH_STATUS.RETRIES (n : Nat) : FieldRef := ⟨0xF0110 + n * 0x20, 10, 2, 0⟩
def AMP_CH_STATUS.LATCH_EV (n : Nat) : FieldRef := ⟨0xF0110 + n * 0x20, 12, 1, 0⟩
def AMP_CH_STATUS.CFG_REFUSED (n : Nat) : FieldRef := ⟨0xF0110 + n * 0x20, 13, 1, 0⟩
def AMP_CH_PWR.P (n : Nat) : FieldRef := ⟨0xF0114 + n * 0x20, 0, 16, 0⟩
def AMP_CH_PWR.GR (n : Nat) : FieldRef := ⟨0xF0114 + n * 0x20, 16, 16, 0xFFFF⟩
def AMP_CH_Z.ZEST (n : Nat) : FieldRef := ⟨0xF0118 + n * 0x20, 0, 16, 0⟩
def AMP_CH_Z.ZDIAG (n : Nat) : FieldRef := ⟨0xF0118 + n * 0x20, 16, 16, 0⟩
def AMP_CH_CNT.OCPER (n : Nat) : FieldRef := ⟨0xF011C + n * 0x20, 0, 16, 0⟩
def AMP_CH_CNT.LATCHES (n : Nat) : FieldRef := ⟨0xF011C + n * 0x20, 16, 8, 0⟩
def AMP_CH_CNT.CLAMPS (n : Nat) : FieldRef := ⟨0xF011C + n * 0x20, 24, 8, 0⟩

/-! ### The MAC block (12 R272) -/

def MAC_CTRL.EN (i : Nat) : FieldRef := ⟨0x100000 + i * 0x100, 0, 1, 0⟩
def MAC_CTRL.RATE (i : Nat) : FieldRef := ⟨0x100000 + i * 0x100, 1, 2, 0⟩
def MAC_CTRL.DELIVER_ERRORED (i : Nat) : FieldRef := ⟨0x100000 + i * 0x100, 3, 1, 1⟩
def MAC_CTRL.COMPAT (i : Nat) : FieldRef := ⟨0x100000 + i * 0x100, 4, 1, 0⟩
def MAC_CTRL.CTLVLAN_EN (i : Nat) : FieldRef := ⟨0x100000 + i * 0x100, 5, 1, 0⟩
def MAC_CTRL.MCALL (i : Nat) : FieldRef := ⟨0x100000 + i * 0x100, 6, 1, 0⟩
def MAC_CTRL.RGMII_TXDLY (i : Nat) : FieldRef := ⟨0x100000 + i * 0x100, 7, 1, 1⟩
def MAC_STATUS.LINK (i : Nat) : FieldRef := ⟨0x100004 + i * 0x100, 0, 1, 0⟩
def MAC_STATUS.LFAULT (i : Nat) : FieldRef := ⟨0x100004 + i * 0x100, 1, 1, 0⟩
def MAC_STATUS.RFAULT (i : Nat) : FieldRef := ⟨0x100004 + i * 0x100, 2, 1, 0⟩
def MAC_STATUS.CFG_REFUSED (i : Nat) : FieldRef := ⟨0x100004 + i * 0x100, 3, 1, 0⟩
def MAC_MAXLEN.MAXLEN (i : Nat) : FieldRef := ⟨0x100008 + i * 0x100, 0, 14, 1522⟩
def MAC_VLAN.VID (i : Nat) : FieldRef := ⟨0x10000C + i * 0x100, 0, 12, 0⟩
def MAC_VLAN.PCP (i : Nat) : FieldRef := ⟨0x10000C + i * 0x100, 12, 3, 0⟩
def MAC_VLAN.DEI (i : Nat) : FieldRef := ⟨0x10000C + i * 0x100, 15, 1, 0⟩
def MAC_ADDR_LO.ADDR (i : Nat) : FieldRef := ⟨0x100010 + i * 0x100, 0, 32, 0⟩
def MAC_ADDR_HI.ADDR (i : Nat) : FieldRef := ⟨0x100014 + i * 0x100, 0, 16, 0⟩
def MAC_CNT.COUNT (i : Nat) (j : Nat) : FieldRef := ⟨0x100040 + i * 0x100 + j * 0x4, 0, 32, 0⟩
def MAC_WP_CTRL.CRC (k : Nat) : FieldRef := ⟨0x100800 + k * 0x20, 0, 16, 0⟩
def MAC_WP_CTRL.PORTS (k : Nat) : FieldRef := ⟨0x100800 + k * 0x20, 16, 5, 0⟩
def MAC_WP_CTRL.WAKE (k : Nat) : FieldRef := ⟨0x100800 + k * 0x20, 21, 1, 0⟩
def MAC_WP_CTRL.CLASS (k : Nat) : FieldRef := ⟨0x100800 + k * 0x20, 22, 1, 0⟩
def MAC_WP_CTRL.ACT (k : Nat) : FieldRef := ⟨0x100800 + k * 0x20, 23, 1, 0⟩
def MAC_WP_CTRL.QSEL (k : Nat) : FieldRef := ⟨0x100800 + k * 0x20, 24, 2, 0⟩
def MAC_WP_MASK.MASK (k : Nat) (w : Nat) : FieldRef := ⟨0x100804 + k * 0x20 + w * 0x4, 0, 32, 0⟩
def MAC_WAKE.PATTERN : FieldRef := ⟨0x100A00, 0, 3, 0⟩
def MAC_WAKE.WOKE : FieldRef := ⟨0x100A00, 3, 1, 0⟩
def MAC_WAKE.PATDROP : FieldRef := ⟨0x100A00, 16, 16, 0⟩

/-! ### The NET block (12 R273) -/

def NET_CTRL.PELOND_PORT : FieldRef := ⟨0x110000, 0, 16, 47100⟩
def NET_CTRL.PLOSS : FieldRef := ⟨0x110000, 16, 4, 4⟩
def NET_CTRL.WATCH_EN : FieldRef := ⟨0x110000, 20, 1, 0⟩
def NET_STATUS.PARTNER_ABSENT : FieldRef := ⟨0x110004, 0, 1, 0⟩
def NET_STATUS.CFG_REFUSED : FieldRef := ⟨0x110004, 1, 1, 0⟩
def NET_TMPL_BASE.BASE : FieldRef := ⟨0x110008, 0, 32, 0x00200000⟩
def NET_SEL.INDEX : FieldRef := ⟨0x110020, 0, 9, 0⟩
def NET_SEL.DIR : FieldRef := ⟨0x110020, 9, 1, 0⟩
def NET_SEL.WORD : FieldRef := ⟨0x110020, 10, 4, 0⟩
def NET_DATA.DATA : FieldRef := ⟨0x110024, 0, 32, 0⟩
def NET_DESC_GO.GO : FieldRef := ⟨0x110028, 0, 1, 0⟩
def NET_DESC_LAST.REFUSED : FieldRef := ⟨0x11002C, 0, 1, 0⟩
def NET_DESC_LAST.REASON : FieldRef := ⟨0x11002C, 1, 4, 0⟩
def NET_STRM_STAT.STATE : FieldRef := ⟨0x110030, 0, 2, 0⟩
def NET_STRM_STAT.PATH_A : FieldRef := ⟨0x110030, 2, 1, 0⟩
def NET_STRM_STAT.PATH_B : FieldRef := ⟨0x110030, 3, 1, 0⟩
def NET_STRM_CNT.LOW (k : Nat) : FieldRef := ⟨0x110034 + k * 0x4, 0, 16, 0⟩
def NET_STRM_CNT.HIGH (k : Nat) : FieldRef := ⟨0x110034 + k * 0x4, 16, 16, 0⟩
def NET_GRP_CTRL.ARM (g : Nat) : FieldRef := ⟨0x110100 + g * 0x10, 0, 1, 0⟩
def NET_GRP_CTRL.TRIGSRC (g : Nat) : FieldRef := ⟨0x110100 + g * 0x10, 1, 2, 0⟩
def NET_GRP_CTRL.DOMAIN (g : Nat) : FieldRef := ⟨0x110100 + g * 0x10, 3, 2, 0⟩
def NET_GRP_CTRL.LATE (g : Nat) : FieldRef := ⟨0x110100 + g * 0x10, 5, 1, 0⟩
def NET_GRP_CTRL.BAD_TRIG (g : Nat) : FieldRef := ⟨0x110100 + g * 0x10, 6, 1, 0⟩
def NET_GRP_TRIG_0.TRIG (g : Nat) : FieldRef := ⟨0x110104 + g * 0x10, 0, 32, 0⟩
def NET_GRP_TRIG_1.TRIG (g : Nat) : FieldRef := ⟨0x110108 + g * 0x10, 0, 32, 0⟩
def NET_GRP_TRIG_2.TRIG (g : Nat) : FieldRef := ⟨0x11010C + g * 0x10, 0, 32, 0⟩
def NET_RXQ_BASE.BASE (q : Nat) : FieldRef := ⟨0x110200 + q * 0x10, 0, 32, 0⟩
def NET_RXQ_CTRL.SIZE (q : Nat) : FieldRef := ⟨0x110204 + q * 0x10, 0, 13, 0⟩
def NET_RXQ_CTRL.BUFSZ (q : Nat) : FieldRef := ⟨0x110204 + q * 0x10, 13, 6, 8⟩
def NET_RXQ_CTRL.IRQ_EN (q : Nat) : FieldRef := ⟨0x110204 + q * 0x10, 19, 1, 0⟩
def NET_RXQ_PTR.HEAD (q : Nat) : FieldRef := ⟨0x110208 + q * 0x10, 0, 12, 0⟩
def NET_RXQ_PTR.TAIL (q : Nat) : FieldRef := ⟨0x110208 + q * 0x10, 16, 12, 0⟩
def NET_TXQ_BASE.BASE (i : Nat) : FieldRef := ⟨0x110300 + i * 0x10, 0, 32, 0⟩
def NET_TXQ_CTRL.SIZE (i : Nat) : FieldRef := ⟨0x110304 + i * 0x10, 0, 13, 0⟩
def NET_TXQ_CTRL.BUFSZ (i : Nat) : FieldRef := ⟨0x110304 + i * 0x10, 13, 6, 8⟩
def NET_TXQ_CTRL.IRQ_EN (i : Nat) : FieldRef := ⟨0x110304 + i * 0x10, 19, 1, 0⟩
def NET_TXQ_PTR.HEAD (i : Nat) : FieldRef := ⟨0x110308 + i * 0x10, 0, 12, 0⟩
def NET_TXQ_PTR.TAIL (i : Nat) : FieldRef := ⟨0x110308 + i * 0x10, 16, 12, 0⟩

/-! ### The LANE block (13 R297) -/

def LANE_CFG.ROLE (n : Nat) : FieldRef := ⟨0x120000 + n * 0x40, 0, 3, 0⟩
def LANE_CFG.TXRATE (n : Nat) : FieldRef := ⟨0x120000 + n * 0x40, 3, 1, 1⟩
def LANE_CFG.RXRATE (n : Nat) : FieldRef := ⟨0x120000 + n * 0x40, 4, 1, 1⟩
def LANE_CFG.TXPOL (n : Nat) : FieldRef := ⟨0x120000 + n * 0x40, 5, 1, 0⟩
def LANE_CFG.RXPOL (n : Nat) : FieldRef := ⟨0x120000 + n * 0x40, 6, 1, 0⟩
def LANE_CFG.PMUL (n : Nat) : FieldRef := ⟨0x120000 + n * 0x40, 8, 10, 264⟩
def LANE_CFG.PATTERN (n : Nat) : FieldRef := ⟨0x120000 + n * 0x40, 18, 2, 2⟩
def LANE_STATUS.LOS (n : Nat) : FieldRef := ⟨0x120004 + n * 0x40, 0, 1, 1⟩
def LANE_STATUS.LOL (n : Nat) : FieldRef := ⟨0x120004 + n * 0x40, 1, 1, 1⟩
def LANE_STATUS.CAL_DONE (n : Nat) : FieldRef := ⟨0x120004 + n * 0x40, 2, 1, 0⟩
def LANE_STATUS.LOS_EV (n : Nat) : FieldRef := ⟨0x120004 + n * 0x40, 3, 1, 0⟩
def LANE_STATUS.LOL_EV (n : Nat) : FieldRef := ⟨0x120004 + n * 0x40, 4, 1, 0⟩
def LANE_STATUS.CFG_REFUSED (n : Nat) : FieldRef := ⟨0x120004 + n * 0x40, 5, 1, 0⟩
def LANE_STATUS.SLIP (n : Nat) : FieldRef := ⟨0x120004 + n * 0x40, 8, 7, 0⟩
def LANE_TXEQ.PRE (n : Nat) : FieldRef := ⟨0x120008 + n * 0x40, 0, 5, 4⟩
def LANE_TXEQ.POST (n : Nat) : FieldRef := ⟨0x120008 + n * 0x40, 8, 5, 12⟩
def LANE_TXEQ.MAIN (n : Nat) : FieldRef := ⟨0x120008 + n * 0x40, 16, 7, 111⟩
def LANE_RXEQ.ADAPT (n : Nat) : FieldRef := ⟨0x12000C + n * 0x40, 0, 1, 1⟩
def LANE_RXEQ.CTLE (n : Nat) : FieldRef := ⟨0x12000C + n * 0x40, 1, 5, 8⟩
def LANE_RXEQ.DFE_EN (n : Nat) : FieldRef := ⟨0x12000C + n * 0x40, 6, 1, 1⟩
def LANE_LOS.THR (n : Nat) : FieldRef := ⟨0x120010 + n * 0x40, 0, 6, 15⟩
def LANE_MARGIN.START (n : Nat) : FieldRef := ⟨0x120014 + n * 0x40, 0, 1, 0⟩
def LANE_MARGIN.HOPEN (n : Nat) : FieldRef := ⟨0x120014 + n * 0x40, 8, 8, 0⟩
def LANE_MARGIN.VOPEN (n : Nat) : FieldRef := ⟨0x120014 + n * 0x40, 16, 8, 0⟩
def LANE_PRBSCNT.ERR (n : Nat) : FieldRef := ⟨0x120018 + n * 0x40, 0, 32, 0⟩
def LANE_GSTATUS.REFCLK0_OK : FieldRef := ⟨0x120800, 0, 1, 0⟩
def LANE_GSTATUS.REFCLK1_OK : FieldRef := ⟨0x120800, 1, 1, 0⟩

/-! ### The FLX block (13 R298) -/

def FLX_CFG.TXGRP (n : Nat) : FieldRef := ⟨0x130000 + n * 0x40, 0, 9, 0⟩
def FLX_CFG.RXGRP (n : Nat) : FieldRef := ⟨0x130000 + n * 0x40, 9, 9, 0⟩
def FLX_CFG.TXEN (n : Nat) : FieldRef := ⟨0x130000 + n * 0x40, 18, 1, 0⟩
def FLX_CFG.RXEN (n : Nat) : FieldRef := ⟨0x130000 + n * 0x40, 19, 1, 0⟩
def FLX_STATUS.STATE (n : Nat) : FieldRef := ⟨0x130004 + n * 0x40, 0, 3, 0⟩
def FLX_STATUS.MISMATCH (n : Nat) : FieldRef := ⟨0x130004 + n * 0x40, 3, 1, 0⟩
def FLX_STATUS.FAR_LOCKED (n : Nat) : FieldRef := ⟨0x130004 + n * 0x40, 4, 1, 0⟩
def FLX_STATUS.FAR_MULT (n : Nat) : FieldRef := ⟨0x130004 + n * 0x40, 5, 2, 0⟩
def FLX_STATUS.FAR_FAMILY (n : Nat) : FieldRef := ⟨0x130004 + n * 0x40, 7, 1, 0⟩
def FLX_STATUS.FAR_RXLOCK (n : Nat) : FieldRef := ⟨0x130004 + n * 0x40, 8, 1, 0⟩
def FLX_STATUS.LOCKLOST (n : Nat) : FieldRef := ⟨0x130004 + n * 0x40, 9, 1, 0⟩
def FLX_STATUS.CFG_REFUSED (n : Nat) : FieldRef := ⟨0x130004 + n * 0x40, 10, 1, 0⟩
def FLX_PHASE.RXPH (n : Nat) : FieldRef := ⟨0x130008 + n * 0x40, 0, 15, 0⟩
def FLX_PHASE.SIXTEENTH (n : Nat) : FieldRef := ⟨0x130008 + n * 0x40, 15, 4, 0⟩
def FLX_CNT_0.SLIP (n : Nat) : FieldRef := ⟨0x13000C + n * 0x40, 0, 16, 0⟩
def FLX_CNT_0.FCRC (n : Nat) : FieldRef := ⟨0x13000C + n * 0x40, 16, 16, 0⟩
def FLX_CNT_1.MARKER (n : Nat) : FieldRef := ⟨0x130010 + n * 0x40, 0, 16, 0⟩
def FLX_CNT_1.CELLERR (n : Nat) : FieldRef := ⟨0x130010 + n * 0x40, 16, 16, 0⟩
def FLX_CC_CTRL.EN (n : Nat) : FieldRef := ⟨0x130014 + n * 0x40, 0, 1, 0⟩
def FLX_CC_CTRL.TXSIZE (n : Nat) : FieldRef := ⟨0x130014 + n * 0x40, 1, 12, 0⟩
def FLX_CC_CTRL.RXSIZE (n : Nat) : FieldRef := ⟨0x130014 + n * 0x40, 13, 12, 0⟩
def FLX_CC_CTRL.IRQ_EN (n : Nat) : FieldRef := ⟨0x130014 + n * 0x40, 25, 1, 0⟩
def FLX_CC_TXRING.BASE (n : Nat) : FieldRef := ⟨0x130018 + n * 0x40, 0, 32, 0⟩
def FLX_CC_RXRING.BASE (n : Nat) : FieldRef := ⟨0x13001C + n * 0x40, 0, 32, 0⟩
def FLX_CC_PTR.TXTAIL (n : Nat) : FieldRef := ⟨0x130020 + n * 0x40, 0, 12, 0⟩
def FLX_CC_PTR.RXTAIL (n : Nat) : FieldRef := ⟨0x130020 + n * 0x40, 16, 12, 0⟩
def FLX_CC_CRED.AVAIL (n : Nat) : FieldRef := ⟨0x130024 + n * 0x40, 0, 10, 0⟩
def FLX_CC_CRED.TXHEAD (n : Nat) : FieldRef := ⟨0x130024 + n * 0x40, 16, 12, 0⟩

/-! ### The TTH block (14 R328) -/

def TTH_CTRL.SWAP : FieldRef := ⟨0x140000, 0, 1, 0⟩
def TTH_CTRL.DEGRADED_EN : FieldRef := ⟨0x140000, 1, 1, 1⟩
def TTH_CTRL.RESEND : FieldRef := ⟨0x140000, 2, 1, 1⟩
def TTH_CTRL.TWIN_FOLLOW : FieldRef := ⟨0x140000, 3, 1, 0⟩
def TTH_CTRL.PAIR_WAIT : FieldRef := ⟨0x140000, 4, 14, 2000⟩
def TTH_CTRL.MIRROR : FieldRef := ⟨0x140000, 18, 9, 32⟩
def TTH_STATUS.STATE : FieldRef := ⟨0x140004, 0, 3, 0⟩
def TTH_STATUS.PEER_STATE : FieldRef := ⟨0x140004, 3, 3, 6⟩
def TTH_STATUS.TETHER_UP : FieldRef := ⟨0x140004, 6, 1, 0⟩
def TTH_STATUS.PEER_ACTIVE : FieldRef := ⟨0x140004, 7, 1, 0⟩
def TTH_STATUS.PEER_FAIL : FieldRef := ⟨0x140004, 8, 1, 0⟩
def TTH_STATUS.SIDE : FieldRef := ⟨0x140004, 9, 1, 0⟩
def TTH_STATUS.PREARM : FieldRef := ⟨0x140004, 10, 1, 0⟩
def TTH_STATUS.MISMATCH : FieldRef := ⟨0x140004, 11, 1, 0⟩
def TTH_STATUS.REASON : FieldRef := ⟨0x140004, 12, 4, 0⟩
def TTH_STATUS.SWAP_REF : FieldRef := ⟨0x140004, 16, 1, 0⟩
def TTH_LOG.FREE : FieldRef := ⟨0x140008, 0, 14, 8192⟩
def TTH_LOG.FULL_ERR : FieldRef := ⟨0x140008, 14, 1, 0⟩
def TTH_LOG.STBY_WR : FieldRef := ⟨0x140008, 15, 1, 0⟩
def TTH_LOG.LOST : FieldRef := ⟨0x140008, 16, 16, 0⟩
def TTH_DIGEST.MISMATCH : FieldRef := ⟨0x14000C, 0, 16, 0⟩
def TTH_DIGEST.RUN : FieldRef := ⟨0x14000C, 16, 3, 0⟩
def TTH_DIGEST.SWEEP : FieldRef := ⟨0x14000C, 24, 8, 0⟩
def TTH_RESYNC.STEP : FieldRef := ⟨0x140010, 0, 3, 0⟩
def TTH_RESYNC.PERCENT : FieldRef := ⟨0x140010, 3, 7, 0⟩
def TTH_RESYNC_POS.POSITION : FieldRef := ⟨0x140014, 0, 24, 0⟩
def TTH_CONV.W : FieldRef := ⟨0x140018, 0, 24, 0⟩
def TTH_DELAY.DELAY : FieldRef := ⟨0x14001C, 0, 10, 0⟩
def TTH_HEALTH_0.SBE : FieldRef := ⟨0x140020, 0, 16, 0⟩
def TTH_HEALTH_0.DBE : FieldRef := ⟨0x140020, 16, 8, 0⟩
def TTH_HEALTH_0.PATFAIL : FieldRef := ⟨0x140020, 24, 1, 0⟩
def TTH_HEALTH_1.HOPEN : FieldRef := ⟨0x140024, 0, 8, 0⟩
def TTH_HEALTH_1.VOPEN : FieldRef := ⟨0x140024, 8, 8, 0⟩
def TTH_HEALTH_1.VMIN : FieldRef := ⟨0x140024, 16, 12, 0⟩
def TTH_CNT.TAKEOVERS : FieldRef := ⟨0x140028, 0, 8, 0⟩
def TTH_CNT.SPLITS : FieldRef := ⟨0x140028, 8, 8, 0⟩
def TTH_CNT.HBLOSS : FieldRef := ⟨0x140028, 16, 8, 0⟩
def TTH_CNT.RESYNCS : FieldRef := ⟨0x140028, 24, 8, 0⟩
def TTH_TAKE_LO.TICK : FieldRef := ⟨0x14002C, 0, 32, 0⟩
def TTH_TAKE_HI.TICK : FieldRef := ⟨0x140030, 0, 32, 0⟩

end Reg

end Sys2Proof.Machine
end

