-- ==== Sys2Proof/Machine/State.lean ====
section
/-! DEFINITION. The state of the CX2304 as plain data, what can stop a command, and the state right after
reset. INVENTORY.md lists every field with the rule that names it. -/

namespace Sys2Proof.Machine

/-- A damaged stored word: its ECC error is double or single, whether it has been counted (R22, R72), and, for a
quad of the coil pool, whether it is the upper of its two codewords (16 R365). -/
structure EccMark where
  double : Bool
  seen : Bool
  high : Bool
deriving DecidableEq, Repr

/-- The answer of the last bus access: data, whether it was an error response (R5), and the master and ID that
made it (15 R329). -/
structure BusAnswer where
  data : Nat := 0
  err : Bool := false
  master : Nat := 3
  id : Nat := 0
deriving DecidableEq, Repr


/-! ### The strand store, hitches and braids (chapter 02) -/

/-- One slot of a bank: sample, tag and the WRITTEN bit of the window (R22, R23). -/
structure Slot where
  sample : Word := 0
  tag : Tag := 0
  written : Bool := false
deriving DecidableEq, Repr

/-- A trigger that an armed braid, switch, commit or start group waits for (R35, R197). -/
inductive Trig where
  | tick (s : Nat)
  | edge
  | ptp (domain : Nat) (sec : Nat) (ns : Nat)
deriving DecidableEq, Repr

/-- The two words of a hitch table entry (R28). -/
structure Hitch where
  w0 : Word := 0
  w1 : Word := 0
deriving DecidableEq, Repr

/-- A queued hitch change: table (false ingress, true egress), entry and words (R31). `late` marks a
change that landed in an exchange window after the commit that the next boundary applies. -/
structure HitChange where
  egress : Bool
  index : Nat
  w0 : Word
  w1 : Word
  late : Bool
deriving DecidableEq, Repr

/-- What the node keeps for one hitch while it runs (R33, R34, R38, R42): its mute, the faults that mute it
(a STOP or LOCKSTEP of its braid, R37, R39; RATEMIS of its port, 10 R209), whether a gated request is
pending and whether its wait found a zero crossing in the present tick (10 R212), its frame counter and the
tick at which it joins its braid, STATE and FAULTY as STR_HIT_STAT shows them, whether a frame of its port
was dropped in the tick, its counts, its last sample, the tick until which UNSETTLED marks it (R41), and the
two ticks of delay of a TETHER hitch, latest first: what its interface gave and its mute (R40). -/
structure HitchRun where
  mute : Mute := .full
  lockMute : Bool := false
  devMute : Bool := false
  gate : Bool := false
  zc : Bool := false
  frame : Nat := 0
  join : Nat := 0
  stat : Nat := 0
  faulty : Bool := false
  subst : Bool := false
  dropped : Bool := false
  substFr : Nat := 0
  dropFr : Nat := 0
  lastIn : Word := 0
  unsettledTo : Nat := 0
  delay : List (Option (Word × Tag) × Mute) := []
deriving DecidableEq, Repr

/-- What the node keeps for one braid beyond its registers (R35, R37, R39): the trigger it waits for, its start
tick, clean braid frames in a row and whether the present one is spoiled, the ticks at which a STOP begins
and ends, the end of a ramp-in, and the boundary at which a MUTED braid rejoins. -/
structure Braid where
  armed : Option Trig := none
  start : Nat := 0
  clean : Nat := 0
  spoiled : Bool := false
  stopAt : Option Nat := none
  stopDone : Nat := 0
  rampEnd : Nat := 0
  rejoin : Option Nat := none
deriving DecidableEq, Repr

/-- A write of a HOST slot served in an exchange window, for the bank of the tick after next (R24). -/
structure HostWrite where
  slot : Nat
  sample : Option Word
  tag : Option Tag
deriving DecidableEq, Repr

/-- The strand store and the hitch tables. -/
structure StrState where
  cur : SMap Slot := []
  nxt : SMap Slot := []
  fresh : SMap Nat := []
  hostFresh : List Nat := []
  late : List HostWrite := []
  missing : SMap Nat := []
  last : SMap Slot := []
  ingress : SMap Hitch := []
  egress : SMap Hitch := []
  runIn : SMap HitchRun := []
  runEg : SMap HitchRun := []
  stagedW0 : Word := 0
  queue : List HitChange := []
  armed : Option Nat := none
  braid : SMap Braid := []
  substNow : Nat := 0
  armed2 : Option Nat := none
  sbe : Nat := 0
  out : SMap Slot := []
  inp : SMap Slot := []
deriving DecidableEq, Repr

/-! ### Knot engines (chapters 03, 04) -/

/-- A D register: word and tag (R45). -/
structure DReg where
  val : Word := 0
  tag : Tag := 0
deriving DecidableEq, Repr

/-- The engine flags (R58). -/
structure EngFlags where
  z : Bool := false
  n : Bool := false
  sat : Bool := false
  aov : Bool := false
  ssat : Bool := false
  saov : Bool := false
deriving DecidableEq, Repr

/-- What an accumulator update does in its accumulate stage (R50, R57, R79, R87). Values are exact
integers in units of 2^-62. -/
inductive AccFn where
  | load (v : Int)
  | plus (v : Int)
  | minus (v : Int)
  | clear
  | copy (j : Nat)
  | addAcc (j : Nat)
  | subAcc (j : Nat)
  | neg
  | abs
  | shift (n : Int)
deriving DecidableEq, Repr

/-- One accumulator update. -/
structure AccUpd where
  k : Nat
  fn : AccFn
deriving DecidableEq, Repr

/-- A register or flag write in flight (R78-R81). -/
inductive FlyWrite where
  | dreg (r : Nat) (v : Word) (t : Tag)
  | dtag (r : Nat) (t : Tag)
  | agu (code : Nat) (v : Word)
  | zn (z n : Bool)
  | z (b : Bool)
  | sat (b : Bool)
  | aov (b : Bool)
  | stickySet (ssat saov : Bool)
  | stickyClear (ssat saov : Bool)
  | acc (l : List AccUpd)
deriving DecidableEq, Repr

/-- A write and the cycle at whose end it completes. -/
structure InFlight where
  due : Nat
  w : FlyWrite
deriving DecidableEq, Repr

/-- An open loop level (R96). -/
structure LoopLevel where
  first : Nat
  last : Nat
  remaining : Nat
deriving DecidableEq, Repr

/-- The delay slots of the last branch: how many are still to issue, and what issues after them (R95). -/
structure DelaySlots where
  left : Nat
  target : Nat
deriving DecidableEq, Repr

/-- An entry of a strand write queue (R67). -/
structure StrandWrite where
  slot : Nat
  sample : Word
  tag : Tag
deriving DecidableEq, Repr

/-- One knot engine. The AGU registers are keyed by their R90 codes 0x00-0x25. -/
structure Engine where
  d : SMap DReg := []
  acc : SMap Acc := []
  agu : SMap Word := []
  flags : EngFlags := {}
  pc : Nat := 0
  cyc : Nat := 0
  issuing : Bool := false
  loops : List LoopLevel := []
  slots : Option DelaySlots := none
  fly : List InFlight := []
  queue : List StrandWrite := []
  lastDrain : Option Nat := none
  derr : Bool := false
  ovr : Bool := false
  waitCyc : Option Nat := none
  pcommit : Bool := false
  copying : Bool := false
deriving DecidableEq, Repr

/-- Where a coil read delivers its quad (R70, R92). -/
inductive CoilDest where
  | dquad (q : Nat)
  | mem (y : Bool) (addr : Nat)
deriving DecidableEq, Repr

/-- What a coil access moves. -/
inductive CoilMove where
  | read (dest : CoilDest)
  | write (data : Quad)
deriving DecidableEq, Repr

/-- A coil access between its issue and its end (R70, R71): issuing engine, issue cycle, quad address,
whether the plan schedules it, and the data once its bank cycle is past. -/
structure CoilAccess where
  engine : Nat
  issued : Nat
  quad : Nat
  move : CoilMove
  scheduled : Bool
  data : Option Quad := none
deriving DecidableEq, Repr

/-- The coil pool's ports: accesses in flight, and those served in the tick. -/
structure CoilState where
  inFlight : List CoilAccess := []
  served : List CoilAccess := []
  scrub : Nat := 0
  restore : List Nat := []
deriving DecidableEq, Repr

/-! ### Lay plans (chapter 05) -/

/-- A store ramp of a slot (R118, R119, R121): up or down, first tick and length. -/
structure SlotRamp where
  up : Bool
  first : Nat
  len : Nat
deriving DecidableEq, Repr

/-- A bypass crossfade of a knot (R104): ticks left and the direction. -/
structure Xfade where
  left : Nat
  bypassed : Bool
deriving DecidableEq, Repr

/-- The lay-plan banks and what changes them: the plans of the two banks, the plan that firmware has staged, the plan
of the load that runs, whether a load or the refresh of R118 runs, the trigger an armed switch waits for with the tick its ARM landed in and its L, the
store ramps of each slot, latest first, the bypass crossfades by knot and the samples of earlier ticks of each bypass
input, latest first (R104), the engines whose reload is complete,
and the position of the engines' scrubbers in quads (03 R74). -/
structure LpState where
  plan0 : LayPlan := {}
  plan1 : LayPlan := {}
  staged : Option LayPlan := none
  incoming : Option LayPlan := none
  loading : Bool := false
  refresh : Bool := false
  armed : Option Trig := none
  armTick : Nat := 0
  len : Nat := 0
  ramps : SMap (List SlotRamp) := []
  xfade : SMap Xfade := []
  past : SMap (List Slot) := []
  reloaded : List Nat := []
  scrub : Nat := 0
deriving DecidableEq, Repr


/-! ### Mixing matrix, whipping and side-tone (chapter 06) -/

/-- How a column is changing (R133-R139): due to start, waiting for the zero crossing that starts a splice,
splicing, waiting for the zero crossing of a cut, or in a cut's dip. -/
inductive ColPhase where
  | start | waitZc | splice | waitCut | dip
deriving DecidableEq, Repr

/-- A change in progress on a column: its new list, its phase and the tick the phase began, splice length and
law, zero-crossing parameters, whether the crossing was found, whether the column is OFF afterwards, and the
number of the commit it belongs to (none: the bank splice of a lay-plan switch, R119); `zc`: it waited, or waits, for
the zero crossing that starts its splice (R137). -/
structure ColChange where
  new : ColList
  phase : ColPhase
  t0 : Nat
  len : Nat
  equalPower : Bool
  thr : Nat
  timeout : Nat
  cross : Bool := false
  toOff : Bool := false
  zc : Bool := false
  commit : Option Nat
deriving DecidableEq, Repr

/-- A column of the matrix (R123, R124, R147). An absent column is OFF. `damaged` marks a double-bit error
found by the pass of the present tick, `faulted` one found before; `cutTick` the MUTING of a cut. -/
structure Col where
  slot : Nat := 0
  nom : Bool := false
  unit : Nat := 0
  live : ColList := .off
  change : Option ColChange := none
  damaged : Bool := false
  faulted : Bool := false
  cutTick : Bool := false
  y : Word := 0
  commitId : Nat := 0
  result : Nat := 0
deriving DecidableEq, Repr

/-- A change entry (R131). -/
structure ChangeEntry where
  gain : Word
  w1 : Word
deriving DecidableEq, Repr

/-- An accepted commit (R132-R134): STATE, its entries and settings, the trigger it waits for (its base tick
once resolved), the tick of its acceptance, DELAYED, its counts, and the tick of its first column start. -/
structure Commit where
  state : Nat := 1
  entries : List ChangeEntry
  len : Nat
  equalPower : Bool
  preempt : Bool
  zc : Bool
  timeout : Nat
  thr : Nat
  trig : Trig
  accepted : Nat
  delayed : Bool := false
  fallback : Nat := 0
  refused : Nat := 0
  started : Option Nat := none
deriving DecidableEq, Repr

/-- The mixing matrix. Commits are keyed by their number of acceptance, whose last four bits are the ID;
`clips` counts the columns that saturated in the present tick; `gmem` is the gain memory by entry, `gown` the column and
row whose gain an entry holds (R128). -/
structure MtxState where
  rows : SMap Row := []
  cols : SMap Col := []
  openList : List ChangeEntry := []
  clW0 : Word := 0
  commits : SMap Commit := []
  nextSeq : Nat := 0
  nom : SMap NomUnit := []
  clips : Nat := 0
  gmem : SMap Word := []
  gown : SMap (Nat × Nat) := []
  scrub : Nat := 0
deriving DecidableEq, Repr

/-- A side-tone source's gain ramp (R145): current and start gain, target, and ramp tick. -/
structure StGain where
  cur : Int := 0
  base : Int := 0
  goal : Int := 0
  k : Nat := 16
deriving DecidableEq, Repr

/-- The egress stage: whipping stages, side-tone gains by mixer × 4 + source, and the words of the present tick
by hitch entry after whipping (14 R314). `out` is the mute of all outputs together, at a start, at a change
of rate family and before a dormant state (17 R376, 08 R175, 17 R388), and `outWant` whether it is wanted. -/
structure EgrState where
  whip : SMap Whip := []
  st : SMap StGain := []
  words : SMap Slot := []
  out : Mute := .muted
  outWant : Bool := true
deriving DecidableEq, Repr


/-! ### Fault collector (chapter 16) -/

/-- An event whose level is fixed and whose reaction is still to take effect (R358): source, level acted
on, whether it was escalated, whether a BLOCK_RESET acts as an NMI for want of a block (R360), and whether the
source's PIN bit was set, and the tick of the event. -/
structure Reaction where
  src : Nat
  level : Nat
  escalated : Bool
  nobr : Bool
  pin : Bool
  tick : Nat
deriving DecidableEq, Repr

/-- The fault collector beyond its registers: events that have reached it but not been decided, events
decided whose reactions are due, one list for each cycle, the applied levels of pending events (R361), the FAULT_N pin and its
128-ECLK hold (R358), a rail fault of source 0 (R363), the words of the
unlock sequence received (R364), the interrupt lines raised (R357), and the audit list and copy (R366). -/
structure FltState where
  arriving : List Nat := []
  reacting : List (List Reaction) := []
  applied : SMap Nat := []
  faultLow : Bool := false
  holding : Bool := false
  stuckLow : Bool := false
  unlock : Nat := 0
  unlockStart : Nat := 0
  irq : Bool := false
  nmi : Bool := false
  auditList : List Nat := []
  auditCopy : SMap Word := []
deriving DecidableEq, Repr

/-! ### The media network (chapter 12) -/

/-- A packet accepted into a jitter buffer (R265, R266): the due tick of its first sample, the paths an
accepted copy came by, and the samples that failed their parity, as channel × P + index (R264). -/
structure NetPkt where
  due : Nat
  gotA : Bool
  gotB : Bool
  bad : List Nat
deriving DecidableEq, Repr

/-- One path of an ingress stream: UP, consecutive MISSING packets and consecutive packets in time (R266). -/
structure NetPath where
  up : Bool := false
  miss : Nat := 0
  good : Nat := 0
  count : Nat := 0
  seq : Option Nat := none
  gaps : Nat := 0
deriving DecidableEq, Repr

/-- An ingress stream that runs: the tick it accepts packets from (R268), the tick whose first sample gave
its phase (R264), its paths, its buffered packets, the tick whose deadline is done, and its counts: late, early,
substituted and duplicate packets, packets that R264 drops, and subframes that fail their parity. -/
structure InStream where
  run : Bool := false
  first : Nat := 0
  phase : Option Nat := none
  a : NetPath := {}
  b : NetPath := {}
  pkts : List NetPkt := []
  deadline : Option Nat := none
  late : Nat := 0
  early : Nat := 0
  lost : Nat := 0
  dup : Nat := 0
  refused : Nat := 0
  parity : Nat := 0
deriving DecidableEq, Repr

/-- An egress stream that runs: its start tick m0, the packets sent since, the next sequence number, the
ticks read and not yet sent, each with its media count and samples by channel, the two templates read
at the start (R263), and the last packet with the tick of its queue instant (14 R318). -/
structure OutStream where
  run : Bool := false
  m0 : Nat := 0
  n : Nat := 0
  seq : Nat := 0
  buf : List (Nat × List Word) := []
  tmplA : List Byte := []
  tmplB : List Byte := []
  lastTick : Nat := 0
  last : List (Nat × List Byte) := []
deriving DecidableEq, Repr

/-- A media packet between the MAC and the stream engine: its MAC, stream and bytes, the tick in which its command came,
whose own deadline is past, and its completion: tick and ECLK (07 R154). -/
structure NetRx where
  mac : Nat
  stream : Nat
  bytes : List Byte
  tick : Nat
  now : Nat
  eclk : Nat
deriving DecidableEq, Repr

/-- The stream engine and the MACs beyond their registers. Descriptor words are keyed by (direction × 512 +
stream) × 16 + word; `play` holds the playout window by (stream × 64 + channel) × 16 + tick mod 16;
`lastTx` the last frame each MAC sent; `quiet` the ticks since a partner's packet was seen (R269); `addrLo` the MAC_i_ADDR_LO words
held for the next write of ADDR_HI (17 R400); `faultOut` whether a MAC sends remote-fault sequences (R249). -/
structure NetState where
  live : SMap Word := []
  staged : SMap Word := []
  go : List (Nat × List Word) := []
  ins : SMap InStream := []
  outs : SMap OutStream := []
  play : SMap Slot := []
  rxq : List NetRx := []
  grp : SMap Trig := []
  lastTx : SMap (List Byte) := []
  quiet : Nat := 0
  addrLo : SMap Nat := []
  faultOut : SMap Nat := []
deriving DecidableEq, Repr


/-! ### Lanes and Flitex links (chapter 13). Instants are absolute, in sixteenths of ECLK. -/

/-- An admitted frame: its TICKSEQ, its completion instant C, and its words by channel (R282, R286). -/
structure FlxFrame where
  seq : Nat
  c : Nat
  words : List (Word × Tag)
deriving DecidableEq, Repr

/-- A lane's receiver, transmitter and control channel: the lock state of R285 (0 OFF, 1 HUNT, 2 WAIT_MARKER,
3 LOCKED, 4 MARKER_LOSS); the previous marker's TICKSEQ, whether it opened a frame, the valid markers seen,
up to 16, with their instants latest first, and the run of missing or invalid ones (R282); the two-tick
buffer, and whether the last boundary took a frame (R286); the FCRC
of the frame last sent and its blocks or bytes, with the idle before them as they are on the line: scrambled blocks and the
scrambler (R278), or 10-bit characters and whether the running disparity is + (R291); SENT, the latest CREDIT and the freed count, the next cell's SEQ, the
cells received and not freed, the position in the message being sent, and the receive ring's head (R289,
R290); and in the PRBS role the latest 31 bits received, the latest 31 of the pattern sent, latest first, and the bits sent
in the tick, the first first (R295). -/
structure FlxLane where
  lock : Nat := 0
  seq : Option Nat := none
  opened : Bool := false
  valid : Nat := 0
  cs : List Nat := []
  miss : Nat := 0
  frames : List FlxFrame := []
  took : Bool := false
  fcrc : Nat := 0
  out : List (BitVec 2 × BitVec 64) := []
  outBytes : List Byte := []
  wire : List (BitVec 2 × BitVec 64) := []
  scr : BitVec 58 := 0
  codes : List (BitVec 10) := []
  rd : Bool := false
  sent : Nat := 0
  credit : Nat := 0
  freed : Nat := 0
  cellSeq : Nat := 0
  cells : List (List Byte) := []
  txPos : Nat := 0
  rxHead : Nat := 0
  prbsIn : List Bool := []
  prbsGen : List Bool := []
  prbsOut : List Bool := []
deriving DecidableEq, Repr

/-! ### The redundant pair (chapter 14) -/

/-- A record of the change log: its SEQ and the write it holds (R310). -/
structure LogRec where
  seq : Nat
  addr : Nat
  size : Nat
  data : Nat
deriving DecidableEq, Repr

/-- An admitted tether frame: its TICKSEQ, the later of the completion instants of its lanes' frames, and the words of
LANE_12 and LANE_13 (R293, R305). -/
structure TetherRx where
  seq : Nat
  c : Nat
  w12 : List (Word × Tag)
  w13 : List (Word × Tag)
deriving DecidableEq, Repr

/-- What a standby gathers for its HEALTH record (R316, R328): errors found since pairing, a failed pattern check, the
worst openings scanned, and the lowest VDD_CORE sampled in the mirror cycle, in mV. -/
structure Health where
  sbe : Nat := 0
  dbe : Nat := 0
  patfail : Bool := false
  hopen : Option Nat := none
  vopen : Option Nat := none
  vmin : Option Nat := none
deriving DecidableEq, Repr

/-- The pair beyond the TTH registers: the tether frames of the last ticks, the partner's pair words of the
last one, whether one came since the last boundary, ticks without a heartbeat, without the tether, and with
both chips claiming ACTIVE; whether the tether was ever up and the chip ever ACTIVE since the start, whether
the checks of R302 passed, and the partner's tick count less this chip's; ACTIVE_AGE and the chip's own PREARM;
the change log, its next SEQ, the highest SEQ the partner holds (on a standby: this chip), the coil writes
whose BULK copy is not acknowledged, the BULK block being received, the blocks received and those to acknowledge, the
block being sent with its next cell and its bytes as they were read, the blocks of resync step 1 sent, and APPLY_SEQ with its tick (R310); a swap's tick (R320); a split-brain event seen;
digests of recent ticks, own and partner's, plus 1 (R314), and the sweep CRCs likewise (R315); whether the
rotation of R322 runs, ticks since its start and clean ticks (R321); the strand banks recorded for a replay
copy (R323); the compared mirror items taken (R313); the lane of the next margin scan (R316); and its HEALTH record. -/
structure TthState where
  frames : List TetherRx := []
  peer : SMap Word := []
  beat : Bool := false
  noBeat : Nat := 0
  noTether : Nat := 0
  both : Nat := 0
  everTether : Bool := false
  everActive : Bool := false
  checked : Bool := false
  tickOfs : Int := 0
  age : Nat := 0
  prearm : Bool := false
  log : List LogRec := []
  nextSeq : Nat := 0
  acked : Option Nat := none
  bulkWait : List Nat := []
  bulkIn : List Byte := []
  staged : List (Nat × List Byte) := []
  acks : List Nat := []
  bulkOut : Option (Nat × Nat) := none
  bulkData : List Byte := []
  bulkPos : Nat := 0
  apply : Option (Nat × Nat) := none
  swapAt : Option Nat := none
  split : Bool := false
  own : SMap Nat := []
  theirs : SMap Nat := []
  sweepOwn : SMap Nat := []
  rot : Bool := false
  since : Nat := 0
  clean : Nat := 0
  heard : List (SMap Slot) := []
  mirror : List Nat := []
  marginLane : Nat := 0
  health : Health := {}
deriving DecidableEq, Repr



/-! ### Fabric and DMA (chapter 15) -/

/-- A request of a fabric master (R333-R336): master, ID, the port it answers to (0 none, 1 SPI, 2 PCIe), write or
read, address, bytes and write data, LOCK and UNLOCK, whether the boot region was the ROM when it was issued (R332),
and the FCLK cycle of its issue. -/
structure FabReq where
  master : Nat
  id : Nat
  port : Nat := 0
  write : Bool
  addr : Nat
  size : Nat
  data : Nat := 0
  lock : Bool := false
  unlock : Bool := false
  rom : Bool := false
  at_ : Nat := 0
deriving DecidableEq, Repr

/-- A granted transaction: its grant cycle, and whether a master reset has retired it (R338, R342). -/
structure FabGrant where
  req : FabReq
  since : Nat
  retired : Bool := false
deriving DecidableEq, Repr

/-- The lock that is held: holder, target and the cycle of its grant (R340). -/
structure FabLock where
  master : Nat
  target : Nat
  since : Nat
deriving DecidableEq, Repr

/-- The fabric: the latest FCLK cycle seen, waiting requests in issue order, the transaction each target serves, the
master each target granted last, the lock, the answers that the ports hold, and the DMA channel served last (R348). -/
structure FabState where
  now : Nat := 0
  waiting : List FabReq := []
  served : SMap FabGrant := []
  last : SMap Nat := []
  lock : Option FabLock := none
  answers : SMap BusAnswer := []
  dmaLast : Nat := 63
deriving DecidableEq, Repr

/-- A DMA channel beyond its registers (R344-R353): the descriptor's four 64-bit words, the loop indices, s and
d, whether the last element is issued or a mismatch ended the descriptor, the bursts of the tick, where the
last read and write bursts end, and the descriptor that holds the link word last read. -/
structure DmaCh where
  w0 : Nat := 0
  w1 : Nat := 0
  w2 : Nat := 0
  w3 : Nat := 0
  i0 : Nat := 0
  i1 : Nat := 0
  i2 : Nat := 0
  src : Nat := 0
  dst : Nat := 0
  issued : Bool := false
  mis : Bool := false
  bursts : Nat := 0
  lastRd : Nat := 1
  lastWr : Nat := 1
deriving DecidableEq, Repr

/-! ### Serial audio, AES3, MADI, ASRC lanes and decimation (chapter 10) -/

/-- A received frame by channel: the sample and tag, or none where the channel's sample is discarded. -/
abbrev RxFrame := List (Option (Word × Tag))

/-- A receive direction: the configuration in force and whether the register's waits for the boundary
(R210), the boundary of its last restart, consecutive good and bad frames, the frame buffer, oldest first (R207), rate windows within tolerance (R209), and the channel-status bits of the open
block, latest first (R213), and the levels of FS by BCK period that a master direction drives in the tick (R203). Keys:
0-23 SAP, 24-31 AES3, 32-33 MADI. -/
structure RxPort where
  cfg : Word := 0
  staged : Bool := false
  since : Nat := 0
  good : Nat := 0
  bad : Nat := 0
  frames : List RxFrame := []
  rateGood : Nat := 0
  rateBad : Bool := false
  block : Option (List Bool) := none
  fs : List Bool := []
deriving DecidableEq, Repr

/-- A transmit direction: the configuration in force and whether the register's waits, frames counted in
ACQUIRE and whether one has begun, the frame that the present tick loaded, the frame to send and whether it is still to be sent (R152, R208), and the frame on the pins, where a slot
left undriven is none: its slots or subframes, its data line by bit cell from the frame reference edge on (R203, R213, R215), the levels of FS that a
master drives by BCK period, the frame's place in its block of 192 (R214), and the level that the line is left at; rate
windows within tolerance, and whether the present one is to be discarded (R209). -/
structure TxPort where
  cfg : Word := 0
  staged : Bool := false
  good : Nat := 0
  opened : Bool := false
  next : Option (List (Option Word)) := none
  loaded : List (Option Word) := []
  fresh : Bool := false
  sent : List (Option Word) := []
  line : List (Option Bool) := []
  fs : List Bool := []
  pos : Nat := 0
  level : Bool := false
  rateGood : Nat := 0
  rateBad : Bool := false
deriving DecidableEq, Repr

/-- Transmit channel status: the 24 bytes in force, and whether new ones wait for a block start (R214). -/
structure TxStatus where
  bytes : List Nat := []
  armed : Bool := false
deriving DecidableEq, Repr

/-- A decimation channel: configuration in force, whether it restarts at the boundary, integrators, comb
delays by stage, histories latest first, the DC estimate m in 2^-47 and the constant K (R219-R224). -/
structure DecCh where
  cfg : Word := 0
  restart : Bool := false
  ints : List Int := []
  combs : List (List Int) := []
  fir : List Int := []
  hb : List Int := []
  m : Int := 0
  k : Nat := 0
deriving DecidableEq, Repr

/-- The serial interfaces and the decimation channels. `coefHeld` lists the coefficients that stay in force
until the boundary after a write (R221), by set × 32 + t and 256 + i, `coefPast` those of the tick that ended while its
bits are worked on; `pdmHeld` likewise the PDM clock
dividers; `decOut` the latest outputs ahead of the DC blocker (11 R232); `asrc` the input samples of each ASRC lane with
their completion instants in ECLK, latest first (R216). -/
structure SerState where
  rx : SMap RxPort := []
  tx : SMap TxPort := []
  cs : SMap TxStatus := []
  dec : SMap DecCh := []
  coefHeld : SMap Nat := []
  coefPast : SMap Nat := []
  pdmHeld : Option Nat := none
  decOut : SMap Word := []
  asrc : SMap (List (Nat × Word)) := []
deriving DecidableEq, Repr

/-! ### Amplifier drive (chapter 11) -/

/-- What the legs of a bridge do (R231, R237, R239). -/
inductive Drive where
  | low | high | idle | dc | modulated
deriving DecidableEq, Repr

/-- Where a channel goes when its stop path ends (R238, R239, R241). -/
inductive StopTo where
  | off | latched | locked
deriving DecidableEq, Repr

/-- Gains of one tick: the power gain g and the sequencing gain d as a fraction (R236, R237). -/
structure AmpGain where
  g : Int := 2147483647
  num : Nat := 0
  den : Nat := 1
deriving DecidableEq, Repr

/-- An edge of a leg within its carrier period: RCLK cycle and fine steps of the delay line (R231). -/
structure Edge where
  cycle : Nat
  fine : Nat
deriving DecidableEq, Repr

/-- The edges of legs A and B in one carrier period (R231). -/
structure Pulse where
  aRise : Edge
  aFall : Edge
  bRise : Edge
  bFall : Edge
deriving DecidableEq, Repr

/-- A drive channel beyond its registers: pins, ticks in the present timed step, the step's part (START and
LATCHED 0 relay not moved, 1 moved; STOP 0 ramping, 1 relay open), whether the step has begun since the last boundary, so
that the coming one is its tick 0, what follows a stop, whether the diagnostic is a RUNDIAG or a retry, phase-5 sums, whether
sense was lost during it, whether LATCHED stands without a retry (16 R360), the last overcurrent period and the run of them,
the period and the RCLK cycle from which overcurrent holds the legs low (R240), whether the coming carrier boundary, a tick
boundary, latches the channel off (R241), the averages of R234 and R235, the power gain and the gains of the last ticks,
latest first, the whipped samples of the last nine ticks, latest first (R228), the noise shaper and the j of each carrier
period of the tick (R229) with its edges, and whether the carrier restarts at j = 0 (R245). -/
structure AmpCh where
  drive : Drive := .low
  pse : Bool := false
  rly : Bool := false
  t : Nat := 0
  part : Nat := 0
  acted : Bool := false
  after : StopTo := .off
  once : Bool := false
  retry : Bool := false
  vsum : Int := 0
  isum : Int := 0
  cnt : Nat := 0
  senseBad : Bool := false
  noRetry : Bool := false
  lastOc : Option Nat := none
  ocRun : Nat := 0
  lowIn : Option (Nat × Nat) := none
  latchDue : Bool := false
  p : Int := 0
  mv : Int := 0
  mi : Int := 0
  g : Int := 2147483647
  gains : List AmpGain := []
  hist : List Word := []
  errs : List Int := []
  js : List Int := []
  pulses : List Pulse := []
  restart : Bool := false
deriving DecidableEq, Repr

/-- A sense bitstream: its last bit, the bits since its last transition, and the bits since it was last lost (R233). -/
structure SenseBits where
  last : Bool := false
  still : Nat := 0
  good : Nat := 0
deriving DecidableEq, Repr

/-- The drive channels, the sense bitstreams by decimation channel, and whether a channel has entered DIAG for the coming
boundary (R239). -/
structure AmpState where
  ch : SMap AmpCh := []
  sense : SMap SenseBits := []
  entered : Bool := false
deriving DecidableEq, Repr


/-! ### Network time (chapter 09). Times are in units of 2^-32 ns. -/

/-- An adjustment taken by a GO write and not yet applied (R187). -/
structure TimeAdj where
  value : Nat
  minus : Bool
  set : Bool
  big : Bool
deriving DecidableEq, Repr

/-- A domain: its boundary time D_d(k), its offset on SC, an increment written but not yet in effect
(R183), the LO word held for the next HI write (17 R400), and a pending adjustment. -/
structure Domain where
  d : Nat := 0
  ofs : Int := 0
  incNext : Option Nat := none
  incLo : Option Nat := none
  adj : Option TimeAdj := none
deriving DecidableEq, Repr

/-- The time bases: the stepping counter, its value at the latest tick boundary, its held LO word, the domains, and the mailboxes whose snapshot
is requested (R193). -/
structure TimeState where
  sc : Nat := 0
  scMark : Nat := 0
  scLo : Option Nat := none
  dom : SMap Domain := []
  snap : List Nat := []
deriving DecidableEq, Repr

/-! ### References and the DPLL (chapter 08). Frequencies are signed ppt, phases signed ps. -/

/-- What the node keeps for one reference slot beyond its registers: events discarded in a row (R163), the
run of good measurements in WARN and the seconds qualified (R165, R166), the measurements in a row in
which the selected slot disagreed with it (R167), its last phase error, that error at the last gate (R164), and
the place of its last edge in its frame sequence (R162). -/
structure RefSlot where
  discards : Nat := 0
  warnRun : Nat := 0
  qualified : Nat := 0
  disagree : Nat := 0
  phase : Int := 0
  gate : Option Int := none
  edge : Nat := 0
deriving DecidableEq, Repr

/-- A change of rate family: its tick F and how far it has come (R175). -/
structure FamilyStep where
  tick : Nat
  phase : Nat
deriving DecidableEq, Repr

/-- The selector and the DPLL beyond their registers: the output offset y; the seconds, latest first, each with the DPLL
state it was spent wholly in (7 for none) and the output at its end (R171); whether the present second has been spent
in one state; the last output in LOCKED and in TETHER (R171, R173); the build-out offset (R170), whether the
present slew or pull was entered from holdover (R186), whether the start's acquisition is still open
(R174), the run of measurements in full agreement (R167), and a family change: its tick F and its phase,
0 requested, 1 ramping out, 2 last old tick, 3 relock, 4 root locked at the new ratio, 5 hold, 6 ramping in
(R175). -/
structure RefState where
  slot : SMap RefSlot := []
  y : Int := 0
  history : List (Nat × Int) := []
  whole : Bool := false
  lastLocked : Option Int := none
  lastTether : Option Int := none
  buildOut : Option Int := none
  fromHoldover : Bool := false
  acquiring : Bool := true
  agreeRun : Nat := 0
  family : Option FamilyStep := none
deriving DecidableEq, Repr



/-! ### Control (chapter 17) -/

/-- An operation of CHIP_PROGRESS that runs (R389): its code, percentage and position. -/
structure OpRun where
  op : Nat
  pct : Nat
  pos : Nat
deriving DecidableEq, Repr

/-- The control path beyond its registers: the operations that run, latest first (R389), and the SHA-256 of the
running image (14 R302), and whether a dormant state was asked for (R388). -/
structure CtlState where
  ops : List OpRun := []
  imageSha : Nat := 0
  dormantReq : Bool := false
deriving DecidableEq, Repr

/-- What holds the core in reset or ends in a start, and what a start uses (17 R374-R387): straps and fuses as last
read; RST_N low, a clock loss, a brown-out and a shutdown temperature as reasons to hold; whether the start that
follows is a cold one; the flash (an absent byte reads 0xFF, as erased flash does) and its size in bytes; the image
source being tried (0 slot A, 1 slot B, 2 the host's image), root attempts and flash retries; whether ACQ_TMO has
passed; sources to raise once firmware runs; the SECURITY keys by KEYID; and the writes of STR_BRD_bb_CTRL with ARM
that step 10 performs, by braid; and the lanes whose calibration failed. -/
structure BootState where
  straps : Straps := {}
  otp : Otp := {}
  rst : Bool := false
  clk : Bool := false
  pwr : Bool := false
  temp : Bool := false
  cold : Bool := true
  flash : SMap Byte := []
  flashSize : Nat := 0
  source : Nat := 0
  tries : Nat := 0
  retries : Nat := 0
  acqOver : Bool := false
  notices : List Nat := []
  keys : SMap Nat := []
  arms : SMap Word := []
  badLanes : BitVec 16 := 0
deriving DecidableEq, Repr

/-- The host's ports beyond the fabric (17 R396-R399): the status and data of the SPI frame last served; the register
address that the I²C target holds, and what it last answered (none: a NACK); the MSI-X table by word; the PCIe
completions sent, latest first, as tag, data and Completer Abort. -/
structure HostState where
  spiStatus : Nat := 0
  spiData : Nat := 0
  i2cAddr : Nat := 0
  i2cOut : Option Nat := none
  msix : SMap Word := []
  completions : List (Nat × Nat × Bool) := []
deriving DecidableEq, Repr

/-- What drives the pins (19 R429): the device, the cells of the boundary-scan register, or nothing. -/
inductive TapDrive where
  | device | cells | highZ
deriving DecidableEq, Repr

/-- The test access port (19 R429): the instruction register, the update latches of the 1,395 boundary cells, the bits
that the last scan shifted out and their number, and what drives the pins. -/
structure TapState where
  ir : BitVec 8 := 1
  cells : BitVec 1395 := 0
  out : Nat := 0
  outBits : Nat := 0
  drive : TapDrive := .device
deriving DecidableEq, Repr

/-- A sender of Pelond messages as the replay table knows it (17 R392). -/
structure PelPeer where
  ip : BitVec 32
  port : BitVec 16
  key : Nat
deriving DecidableEq, Repr

/-- A source of the replay table: the last SEQ accepted and the response to it. -/
structure PelSource where
  peer : PelPeer
  seq : Nat
  response : List Byte
deriving DecidableEq, Repr

/-- A meter subscription (17 R393): its source, interval, lifetime in seconds, knot paths, the tick of the next report
and the SEQ it will carry. -/
structure PelMeter where
  peer : PelPeer
  interval : Nat
  life : Nat
  paths : List (List Byte)
  next : Nat
  seq : Nat := 0
deriving DecidableEq, Repr

/-- An image update (17 R395): the slot, the image's length, the next offset, whether the erase runs, and the first
4 KB held in working RAM. -/
structure PelUpdate where
  slot : Nat
  len : Nat
  next : Nat := 0
  erasing : Bool := true
  head : List Byte := []
deriving DecidableEq, Repr

/-- The Pelond service: the replay table, most recently used first; the floor of each KEYID; the source whose splice
list is open; the subscriptions; the update; and the datagrams last sent, each with its receiver. -/
structure PelState where
  sources : List PelSource := []
  floors : SMap Nat := []
  splice : Option PelPeer := none
  meters : List PelMeter := []
  update : Option PelUpdate := none
  sent : List (PelPeer × List Byte) := []
deriving DecidableEq, Repr


/-- The whole node. `regs` holds the register fields (an absent field has its reset value), `mem` the
addressed memories of R331 byte by byte (an absent byte reads 0), `livePage` the live parameter pages by
engine × 512 + word (R61), `ecc` the damaged words, `tick` STR_TICK, `inWindow` whether the exchange window
of the tick is open (R113), `free` the counter of the free values, `held` whether the core is held in reset, `rclk`
whether the clocks derived from RCLK run, `clkOut` the rising edges in the tick, the first at ECLK 0, of MCLK_OUT_0-3
(keys 0-3), WCLK_OUT_0-1 (4, 5; 08 R177), SNS_CLK_0-3 (6-9) and PDM_CLK_0-3 (10-13), an absent one being low, and `pending` the commands that wait. -/
structure State where
  regs : SMap Nat := []
  mem : List Host.Cell := []
  livePage : SMap Word := []
  ecc : SMap EccMark := []
  tick : Nat := 0
  inWindow : Bool := false
  free : Nat := 0
  held : Bool := false
  rclk : Bool := false
  clkOut : SMap Nat := []
  bus : BusAnswer := {}
  str : StrState := {}
  eng : SMap Engine := []
  coil : CoilState := {}
  lp : LpState := {}
  mtx : MtxState := {}
  egr : EgrState := {}
  flt : FltState := {}
  ser : SerState := {}
  amp : AmpState := {}
  time : TimeState := {}
  ref : RefState := {}
  net : NetState := {}
  lane : SMap FlxLane := []
  tth : TthState := {}
  fab : FabState := {}
  dma : SMap DmaCh := []
  ctl : CtlState := {}
  boot : BootState := {}
  host : HostState := {}
  tap : TapState := {}
  pel : PelState := {}
  pending : List Instr := []
deriving DecidableEq, Repr

/-- Why the machine stops. The manual describes no event that stops the node for good, so there is no
reason: the type has no constructor. -/
inductive Fault where
deriving DecidableEq, Repr

/-- Why a command has no outcome. -/
inductive Refusal where
  /-- Raised by the dispatcher for a command whose meaning is not written yet: safe. -/
  | notModelled (mnemonic : String)
deriving DecidableEq, Repr

/-- The node right after reset (17 R375, R376): a cold start is in its step 1, and FAULT_N is low. -/
def State.reset : State := { flt := { faultLow := true, holding := true }, boot := { cold := false } }

end Sys2Proof.Machine
end

