-- ==== Sys2Proof/Machine/Flags.lean ====
section
/-! DEFINITION. The engine's flags (03 R58): what a result does to Z and N, and how FLAGS reads. -/

namespace Sys2Proof.Machine

/-- The conditions of R95. -/
def condHolds (f : EngFlags) (c : Nat) : Bool :=
  match c with
  | 0x0 => true
  | 0x1 => f.z
  | 0x2 => !f.z
  | 0x3 => f.n
  | 0x4 => !f.n
  | 0x5 => !f.n && !f.z
  | 0x6 => f.n || f.z
  | 0x7 => f.sat
  | 0x8 => !f.sat
  | 0x9 => f.aov
  | 0xA => !f.aov
  | 0xB => f.ssat
  | _ => f.saov

/-- FLAGS as GETR reads it. -/
def flagsWord (f : EngFlags) : Word :=
  BitVec.ofNat 32 (f.z.toNat + 2 * f.n.toNat + 4 * f.sat.toNat + 8 * f.aov.toNat + 16 * f.ssat.toNat + 32 * f.saov.toNat)

end Sys2Proof.Machine
end

