-- ==== Sys2Proof/Machine/Operands.lean ====
section
/-! DEFINITION. Fixed-point arithmetic as the manual defines it: exact integers, one rounding, one
saturation (00 R2, 03 R48-R57). -/

namespace Sys2Proof.Machine

/-- The value of a two's-complement code. -/
def sval {w : Nat} (x : BitVec w) : Int := x.toInt

/-- The code of `w` bits of a value, modulo 2^w. -/
def code (w : Nat) (x : Int) : BitVec w := BitVec.ofInt w x

/-- Saturation to a signed range of `w` bits (03 R51 step 4). -/
def satBits (w : Nat) (x : Int) : Int :=
  if x < -(2 ^ (w - 1)) then -(2 ^ (w - 1)) else if 2 ^ (w - 1) - 1 < x then 2 ^ (w - 1) - 1 else x

/-- Rounding mode NEAREST of 03 R53: the nearest integer to x / d, a tie to the even one. -/
def roundNearest (x : Int) (d : Nat) : Int :=
  let q := x / (d : Int)
  let r := 2 * (x % (d : Int))
  if r > d then q + 1 else if r = d ∧ q % 2 = 1 then q + 1 else q

/-- Rounding mode FLOOR of 03 R53. -/
def roundFloor (x : Int) (d : Nat) : Int := x / (d : Int)

/-- An s.31 result: x / d rounded by NEAREST and saturated (03 R51 with W = 32). -/
def s31 (x : Int) (d : Nat) : Word := code 32 (satBits 32 (roundNearest x d))

/-- Whether `s31` saturates. -/
def s31Sat (x : Int) (d : Nat) : Bool := decide (satBits 32 (roundNearest x d) ≠ roundNearest x d)

/-- A sample times a fraction num / den, rounded as an s.31 result (02 R33, 05 R118). -/
def scaleSample (v : Word) (num : Int) (den : Nat) : Word := s31 (sval v * num) den

/-- Multiplication by 2^n with bits below the unit discarded toward minus infinity (03 R57). -/
def shiftFloor (x : Int) (n : Int) : Int :=
  if 0 ≤ n then x * 2 ^ n.toNat else x / 2 ^ (-n).toNat

/-- Clamping of an integer. -/
def clampInt (lo hi x : Int) : Int := if x < lo then lo else if hi < x then hi else x

/-- The number of bits of a natural number: 0 for 0. -/
def bitLen (n : Nat) : Nat := if n = 0 then 0 else Nat.log2 n + 1

/-- The exponent of R56 of a code with `f` fractional bits: 0 for 0, otherwise the e for which the
value times 2^e lies in [-1, -1/2) or [1/2, 1). -/
def exponent (f : Nat) (x : Int) : Int :=
  if x = 0 then 0
  else if 0 < x then (f : Int) - bitLen x.toNat
  else (f : Int) - bitLen (-x - 1).toNat

/-- One step of a dither generator (03 R54). -/
def ditherStep (g : Word) : Word :=
  if g.getLsbD 0 then (g >>> 1) ^^^ 0x80200003#32 else g >>> 1

/-- The dither numerator of R54 from two states: d = this / 65,536. -/
def ditherValue (s1 s2 : Word) : Int :=
  ((s1.extractLsb' 0 16).toNat : Int) + (s2.extractLsb' 0 16).toNat - 65536

/-- Output widths of MVA by their code (04 R86). -/
def moveWidth (w : BitVec 2) : Nat :=
  match w.toNat with | 0 => 32 | 1 => 24 | 2 => 20 | _ => 16

/-- The move of R51: accumulator value, scale, width, rounding code (01 FLOOR, others NEAREST) and the
dither numerator to add (0 where the mode is not DITHER). The s.31 result and whether it saturated. -/
def moveAcc (v : Int) (s : Int) (w : Nat) (rnd : Nat) (dither : Int) : Word × Bool :=
  let x := v * 2 ^ (s + 16).toNat + dither * 2 ^ (78 - (w - 1) - 16)
  let q := 2 ^ (78 - (w - 1))
  let r := if rnd = 1 then roundFloor x q else roundNearest x q
  let t := satBits w r
  (code 32 (t * 2 ^ (32 - w)), decide (t ≠ r))

/-- A D register scaled to accumulator units of 2^-62 (R52); the shift never loses a bit for the 5-bit
scale registers. -/
def dScaled (d : Word) (s : Int) : Int := shiftFloor (sval d * 2 ^ 31) s

/-- Integer square root by bisection from below: the largest r ≤ hi bits with r² ≤ n. -/
def isqrtGo (n : Nat) : Nat → Nat → Nat
  | 0, r => r
  | b + 1, r => let t := r + 2 ^ b; if t * t ≤ n then isqrtGo n b t else isqrtGo n b r

/-- ⌊√n⌋ for n below 2^(2·bits). -/
def isqrt (bits n : Nat) : Nat := isqrtGo n bits 0

/-- ⌈a / b⌉ of naturals. -/
def ceilDiv (a b : Nat) : Nat := (a + b - 1) / b

/-- ⌈a / b⌉ of integers, b > 0. -/
def ceilDivInt (a : Int) (b : Nat) : Int := -((-a) / (b : Int))

end Sys2Proof.Machine
end

