-- ==== Sys2Proof/Machine/RegTable.lean ====
section
/-! DEFINITION. The register index (18 R402-R404): for each register its address, its instances, and for
each of its fields the type code of R6 and the values a write may give it (R435). -/

namespace Sys2Proof.Machine

/-- The type codes of R6. -/
inductive Access where
  | rw | ro | w1c | wo | rc | ws
deriving DecidableEq, Repr

/-- The values a field may be written with (00 R435): any, a range of unsigned codes, a range of signed
codes, a multiple, an address of working RAM (in the boot region or its own) that is a multiple, zero or a range, or
any code but one. -/
inductive Rng where
  | any
  | nat (lo hi : Nat)
  | int (lo hi : Int)
  | mult (m : Nat)
  | ram (m : Nat)
  | zeroOr (lo hi : Nat)
  | not (code : Nat)
deriving DecidableEq, Repr

/-- A field as the bus sees it. -/
structure FieldSpec where
  ref : FieldRef
  acc : Access
  rng : Rng
deriving DecidableEq, Repr

/-- A register or an array of registers: byte offset of instance (0, 0), instance counts and strides. -/
structure RegRow where
  base : Nat
  n1 : Nat
  s1 : Nat
  n2 : Nat
  s2 : Nat
  fields : Nat → Nat → List FieldSpec

/-- The registers of the CHIP block (18 R405, 17 R401). -/
def regRowsCHIP : List RegRow := [
  ⟨0x0, 1, 0x4, 1, 0x4, fun _ _ => [⟨Reg.CHIP_ID.PART, .ro, .any⟩, ⟨Reg.CHIP_ID.FAMILY, .ro, .any⟩]⟩,
  ⟨0x4, 1, 0x4, 1, 0x4, fun _ _ => [⟨Reg.CHIP_REV.REV, .ro, .any⟩, ⟨Reg.CHIP_REV.GRADE, .ro, .any⟩]⟩,
  ⟨0x8, 1, 0x4, 1, 0x4, fun _ _ => [⟨Reg.CHIP_SERIAL_LO.SERIAL, .ro, .any⟩]⟩,
  ⟨0xC, 1, 0x4, 1, 0x4, fun _ _ => [⟨Reg.CHIP_SERIAL_HI.SERIAL, .ro, .any⟩]⟩,
  ⟨0x10, 1, 0x4, 1, 0x4, fun _ _ => [⟨Reg.CHIP_OTP.VALID, .ro, .any⟩, ⟨Reg.CHIP_OTP.REQUIRE_SIG, .ro, .any⟩, ⟨Reg.CHIP_OTP.KEYHASH_SET, .ro, .any⟩, ⟨Reg.CHIP_OTP.PELKEY_SET, .ro, .any⟩, ⟨Reg.CHIP_OTP.PCIE_MODE, .ro, .any⟩, ⟨Reg.CHIP_OTP.MGMT_RATE, .ro, .any⟩]⟩,
  ⟨0x14, 1, 0x4, 1, 0x4, fun _ _ => [⟨Reg.CHIP_SCRATCH.DATA, .rw, .any⟩]⟩,
  ⟨0x100, 1, 0x4, 1, 0x4, fun _ _ => [⟨Reg.CHIP_CTRL.WARM, .wo, .any⟩, ⟨Reg.CHIP_CTRL.DORMANT, .wo, .any⟩, ⟨Reg.CHIP_CTRL.COILCLR, .ws, .any⟩]⟩,
  ⟨0x104, 1, 0x4, 1, 0x4, fun _ _ => [⟨Reg.CHIP_STATE.STATE, .ro, .any⟩, ⟨Reg.CHIP_STATE.STEP, .ro, .any⟩, ⟨Reg.CHIP_STATE.WARM, .ro, .any⟩]⟩,
  ⟨0x108, 1, 0x4, 1, 0x4, fun _ _ => [⟨Reg.CHIP_PROGRESS.OP, .ro, .any⟩, ⟨Reg.CHIP_PROGRESS.PERCENT, .ro, .any⟩, ⟨Reg.CHIP_PROGRESS.DONE, .w1c, .any⟩, ⟨Reg.CHIP_PROGRESS.LASTOP, .ro, .any⟩]⟩,
  ⟨0x10C, 1, 0x4, 1, 0x4, fun _ _ => [⟨Reg.CHIP_PROGRESS_POS.POSITION, .ro, .any⟩]⟩]

/-- The registers of the CLK block (08 R179). -/
def regRowsCLK : List RegRow := [
  ⟨0x10000, 1, 0x4, 1, 0x4, fun _ _ => [⟨Reg.CLK_CTRL.MCLK0, .rw, .nat 0 2⟩, ⟨Reg.CLK_CTRL.MCLK1, .rw, .nat 0 2⟩, ⟨Reg.CLK_CTRL.MCLK2, .rw, .nat 0 2⟩, ⟨Reg.CLK_CTRL.MCLK3, .rw, .nat 0 2⟩, ⟨Reg.CLK_CTRL.WCLK0, .rw, .nat 0 2⟩, ⟨Reg.CLK_CTRL.WCLK1, .rw, .nat 0 2⟩]⟩,
  ⟨0x10004, 1, 0x4, 1, 0x4, fun _ _ => [⟨Reg.CLK_STATUS.XO_OK, .ro, .any⟩, ⟨Reg.CLK_STATUS.ROOT_LOCK, .ro, .any⟩, ⟨Reg.CLK_STATUS.XO_LOST, .w1c, .any⟩, ⟨Reg.CLK_STATUS.ROOT_UNLOCK, .w1c, .any⟩, ⟨Reg.CLK_STATUS.FAMILY, .ro, .any⟩, ⟨Reg.CLK_STATUS.MULT, .ro, .any⟩, ⟨Reg.CLK_STATUS.RELOCK, .ro, .any⟩]⟩,
  ⟨0x10008, 1, 0x4, 1, 0x4, fun _ _ => [⟨Reg.CLK_ROOT.ABW, .rw, .any⟩, ⟨Reg.CLK_ROOT.FORCE_RELOCK, .ws, .any⟩]⟩]

/-- The registers of the REF block (08 R180). -/
def regRowsREF : List RegRow := [
  ⟨0x20000, 1, 0x4, 1, 0x4, fun _ _ => [⟨Reg.REF_CTRL.MODE, .rw, .any⟩, ⟨Reg.REF_CTRL.FORCE_SLOT, .rw, .any⟩, ⟨Reg.REF_CTRL.REVERT, .rw, .any⟩, ⟨Reg.REF_CTRL.FAMILY, .rw, .any⟩, ⟨Reg.REF_CTRL.FAMREQ, .ws, .any⟩]⟩,
  ⟨0x20004, 1, 0x4, 1, 0x4, fun _ _ => [⟨Reg.REF_STATUS.DPLL, .ro, .any⟩, ⟨Reg.REF_STATUS.SEL_VALID, .ro, .any⟩, ⟨Reg.REF_STATUS.SEL, .ro, .any⟩, ⟨Reg.REF_STATUS.DISAGREE, .ro, .any⟩, ⟨Reg.REF_STATUS.ALERT, .w1c, .any⟩, ⟨Reg.REF_STATUS.DRIFT_WARN, .ro, .any⟩, ⟨Reg.REF_STATUS.CFG_REFUSED, .w1c, .any⟩, ⟨Reg.REF_STATUS.FAM_REFUSED, .w1c, .any⟩, ⟨Reg.REF_STATUS.HO_SHORT, .ro, .any⟩]⟩,
  ⟨0x20010, 1, 0x4, 1, 0x4, fun _ _ => [⟨Reg.REF_TIME.ACCEPT_TIME, .rw, .nat 1 1023⟩, ⟨Reg.REF_TIME.START_ACCEPT, .rw, .nat 1 1023⟩, ⟨Reg.REF_TIME.WTR, .rw, .any⟩]⟩,
  ⟨0x20014, 1, 0x4, 1, 0x4, fun _ _ => [⟨Reg.REF_DPLL.BW, .rw, .nat 0 6⟩, ⟨Reg.REF_DPLL.FSLEW, .rw, .nat 1 1000⟩, ⟨Reg.REF_DPLL.SLOPE, .rw, .nat 1 10000⟩]⟩,
  ⟨0x20018, 1, 0x4, 1, 0x4, fun _ _ => [⟨Reg.REF_PHWIN.WIN, .rw, .nat 50 10000⟩]⟩,
  ⟨0x20030, 1, 0x4, 1, 0x4, fun _ _ => [⟨Reg.REF_PHERR.PHERR, .ro, .any⟩]⟩,
  ⟨0x20034, 1, 0x4, 1, 0x4, fun _ _ => [⟨Reg.REF_ACQ.HOLD_TICKS, .rw, .any⟩, ⟨Reg.REF_ACQ.ACQ_TMO, .rw, .nat 1 1023⟩]⟩,
  ⟨0x2001C, 1, 0x4, 1, 0x4, fun _ _ => [⟨Reg.REF_HO.HO_AVG, .rw, .nat 1 3600⟩]⟩,
  ⟨0x20008, 1, 0x4, 1, 0x4, fun _ _ => [⟨Reg.REF_LIM_0.ACCEPT, .rw, .nat 1 5000⟩, ⟨Reg.REF_LIM_0.REJECT, .rw, .nat 1 5000⟩]⟩,
  ⟨0x2000C, 1, 0x4, 1, 0x4, fun _ _ => [⟨Reg.REF_LIM_1.WARN, .rw, .nat 1 5000⟩, ⟨Reg.REF_LIM_1.AGREE, .rw, .nat 1 5000⟩]⟩,
  ⟨0x20020, 1, 0x4, 1, 0x4, fun _ _ => [⟨Reg.REF_HO_FREQ.HO_FREQ, .ro, .any⟩]⟩,
  ⟨0x20024, 1, 0x4, 1, 0x4, fun _ _ => [⟨Reg.REF_STEER.STEER, .rw, .int (-100000000) 100000000⟩]⟩,
  ⟨0x20028, 1, 0x4, 1, 0x4, fun _ _ => [⟨Reg.REF_XOCAL.XOCAL, .rw, .int (-20000000) 20000000⟩]⟩,
  ⟨0x2002C, 1, 0x4, 1, 0x4, fun _ _ => [⟨Reg.REF_FOFF.FOFF, .ro, .any⟩]⟩,
  ⟨0x20040, 4, 0x4, 1, 0x4, fun d _ => [⟨Reg.REF_PTP_ERR.ERR d, .wo, .any⟩]⟩,
  ⟨0x20100, 16, 0x10, 1, 0x4, fun n _ => [⟨Reg.REFS_CFG.SRC n, .rw, .any⟩, ⟨Reg.REFS_CFG.RANK n, .rw, .any⟩, ⟨Reg.REFS_CFG.EN n, .rw, .any⟩, ⟨Reg.REFS_CFG.PBO n, .rw, .any⟩, ⟨Reg.REFS_CFG.NOM n, .rw, .any⟩]⟩,
  ⟨0x20104, 16, 0x10, 1, 0x4, fun n _ => [⟨Reg.REFS_STATUS.STATE n, .ro, .any⟩, ⟨Reg.REFS_STATUS.SELECTED n, .ro, .any⟩, ⟨Reg.REFS_STATUS.FAMILY n, .ro, .any⟩, ⟨Reg.REFS_STATUS.PPS_LOST n, .ro, .any⟩, ⟨Reg.REFS_STATUS.DISAGREE n, .ro, .any⟩, ⟨Reg.REFS_STATUS.QTIME n, .ro, .any⟩]⟩,
  ⟨0x20108, 16, 0x10, 1, 0x4, fun n _ => [⟨Reg.REFS_FREQ.FREQ n, .ro, .any⟩]⟩,
  ⟨0x2010C, 16, 0x10, 1, 0x4, fun n _ => [⟨Reg.REFS_CNT.GLITCH n, .rc, .any⟩, ⟨Reg.REFS_CNT.LOSS n, .rc, .any⟩, ⟨Reg.REFS_CNT.REJECT n, .rc, .any⟩, ⟨Reg.REFS_CNT.SELECT n, .rc, .any⟩]⟩]

/-- The registers of the TIME block (09 R201). -/
def regRowsTIME : List RegRow := [
  ⟨0x30000, 1, 0x4, 1, 0x4, fun _ _ => [⟨Reg.TIME_SC_INC_LO.INC, .rw, .any⟩]⟩,
  ⟨0x30004, 1, 0x4, 1, 0x4, fun _ _ => [⟨Reg.TIME_SC_INC_HI.INC, .rw, .any⟩]⟩,
  ⟨0x30010, 2, 0x20, 1, 0x4, fun m _ => [⟨Reg.TIME_MB_SNAP.SRC m, .rw, .nat 0 4⟩, ⟨Reg.TIME_MB_SNAP.TS_SNAP m, .wo, .any⟩, ⟨Reg.TIME_MB_SNAP.TS_VALID m, .ro, .any⟩, ⟨Reg.TIME_MB_SNAP.STEP m, .ro, .any⟩]⟩,
  ⟨0x30014, 2, 0x20, 1, 0x4, fun m _ => [⟨Reg.TIME_MB_TS_0.TS m, .ro, .any⟩]⟩,
  ⟨0x30018, 2, 0x20, 1, 0x4, fun m _ => [⟨Reg.TIME_MB_TS_1.TS m, .ro, .any⟩]⟩,
  ⟨0x3001C, 2, 0x20, 1, 0x4, fun m _ => [⟨Reg.TIME_MB_TS_2.TS m, .ro, .any⟩]⟩,
  ⟨0x30020, 2, 0x20, 1, 0x4, fun m _ => [⟨Reg.TIME_MB_TS_CY.ECLK m, .ro, .any⟩, ⟨Reg.TIME_MB_TS_CY.SIXTEENTH m, .ro, .any⟩, ⟨Reg.TIME_MB_TS_CY.ROOT m, .ro, .any⟩, ⟨Reg.TIME_MB_TS_CY.TICK m, .ro, .any⟩]⟩,
  ⟨0x30100, 4, 0x40, 1, 0x4, fun d _ => [⟨Reg.TIME_CTRL.DOMNUM d, .rw, .nat 0 127⟩, ⟨Reg.TIME_CTRL.EN d, .rw, .any⟩, ⟨Reg.TIME_CTRL.HOSTEP d, .rw, .any⟩, ⟨Reg.TIME_CTRL.BIGSTEP d, .rw, .any⟩, ⟨Reg.TIME_CTRL.PAIR d, .rw, .nat 0 2⟩, ⟨Reg.TIME_CTRL.PPSALIGN d, .ws, .any⟩]⟩,
  ⟨0x30104, 4, 0x40, 1, 0x4, fun d _ => [⟨Reg.TIME_STATUS.SOURCE d, .ro, .any⟩, ⟨Reg.TIME_STATUS.ADJ_REFUSED d, .w1c, .any⟩, ⟨Reg.TIME_STATUS.INC_REFUSED d, .w1c, .any⟩, ⟨Reg.TIME_STATUS.ADJ_PEND d, .ro, .any⟩, ⟨Reg.TIME_STATUS.ADJCNT d, .rc, .any⟩]⟩,
  ⟨0x30108, 4, 0x40, 1, 0x4, fun d _ => [⟨Reg.TIME_INC_LO.INC d, .rw, .any⟩]⟩,
  ⟨0x3010C, 4, 0x40, 1, 0x4, fun d _ => [⟨Reg.TIME_INC_HI.INC d, .rw, .any⟩]⟩,
  ⟨0x30110, 4, 0x40, 1, 0x4, fun d _ => [⟨Reg.TIME_ADJ_0.NS d, .rw, .any⟩]⟩,
  ⟨0x30114, 4, 0x40, 1, 0x4, fun d _ => [⟨Reg.TIME_ADJ_1.SEC_LO d, .rw, .any⟩]⟩,
  ⟨0x30118, 4, 0x40, 1, 0x4, fun d _ => [⟨Reg.TIME_ADJ_2.SEC_HI d, .rw, .any⟩, ⟨Reg.TIME_ADJ_2.FRAC d, .rw, .any⟩]⟩,
  ⟨0x3011C, 4, 0x40, 1, 0x4, fun d _ => [⟨Reg.TIME_ADJ_GO.GO d, .ws, .any⟩, ⟨Reg.TIME_ADJ_GO.SIGN d, .rw, .any⟩, ⟨Reg.TIME_ADJ_GO.SET d, .rw, .any⟩]⟩,
  ⟨0x30200, 5, 0x10, 1, 0x4, fun p _ => [⟨Reg.TIME_PORT_LAT.RX p, .ro, .any⟩, ⟨Reg.TIME_PORT_LAT.TX p, .ro, .any⟩]⟩,
  ⟨0x30204, 5, 0x10, 1, 0x4, fun p _ => [⟨Reg.TIME_PORT_ASYM.ASYM p, .rw, .any⟩]⟩]

/-- The registers of the FLT block (16 R372). -/
def regRowsFLT : List RegRow := [
  ⟨0x40000, 1, 0x4, 1, 0x4, fun _ _ => [⟨Reg.FLT_CLASS.PENDING, .ro, .any⟩]⟩,
  ⟨0x40004, 1, 0x4, 1, 0x4, fun _ _ => [⟨Reg.FLT_LAST_0.SRC, .ro, .any⟩, ⟨Reg.FLT_LAST_0.LEVEL, .ro, .any⟩, ⟨Reg.FLT_LAST_0.ESCALATED, .ro, .any⟩, ⟨Reg.FLT_LAST_0.NOBR, .ro, .any⟩, ⟨Reg.FLT_LAST_0.CLASS, .ro, .any⟩]⟩,
  ⟨0x40008, 1, 0x4, 1, 0x4, fun _ _ => [⟨Reg.FLT_LAST_1.TICK, .ro, .any⟩]⟩,
  ⟨0x4000C, 1, 0x4, 1, 0x4, fun _ _ => [⟨Reg.FLT_RAIL_INFO.SRC, .ro, .any⟩, ⟨Reg.FLT_RAIL_INFO.VALID, .ro, .any⟩]⟩,
  ⟨0x40010, 1, 0x4, 1, 0x4, fun _ _ => [⟨Reg.FLT_WDT.WDT_MS, .rw, .any⟩]⟩,
  ⟨0x40014, 1, 0x4, 1, 0x4, fun _ _ => [⟨Reg.FLT_AUD.PERIOD, .rw, .nat 10 10000⟩, ⟨Reg.FLT_AUD.REPAIR, .rw, .any⟩, ⟨Reg.FLT_AUD.EN, .rw, .any⟩, ⟨Reg.FLT_AUD.DIFFS, .rc, .any⟩]⟩,
  ⟨0x40018, 1, 0x4, 1, 0x4, fun _ _ => [⟨Reg.FLT_AUD_ADDR.ADDR, .ro, .any⟩]⟩,
  ⟨0x4001C, 1, 0x4, 1, 0x4, fun _ _ => [⟨Reg.FLT_AUD_JBASE.BASE, .rw, .ram 8192⟩]⟩,
  ⟨0x40020, 1, 0x4, 1, 0x4, fun _ _ => [⟨Reg.FLT_AUD_JPTR.HEAD, .ro, .any⟩, ⟨Reg.FLT_AUD_JPTR.OVF, .w1c, .any⟩, ⟨Reg.FLT_AUD_JPTR.TAIL, .rw, .any⟩]⟩,
  ⟨0x40024, 1, 0x4, 1, 0x4, fun _ _ => [⟨Reg.FLT_UNLOCK.KEY, .wo, .any⟩]⟩,
  ⟨0x40028, 1, 0x4, 1, 0x4, fun _ _ => [⟨Reg.FLT_INJ.SRC, .rw, .any⟩, ⟨Reg.FLT_INJ.MODE, .rw, .nat 0 2⟩, ⟨Reg.FLT_INJ.GO, .ws, .any⟩]⟩,
  ⟨0x4002C, 1, 0x4, 1, 0x4, fun _ _ => [⟨Reg.FLT_TEST.TESTMODE, .ro, .any⟩]⟩,
  ⟨0x40040, 8, 0x4, 1, 0x4, fun n _ => [⟨Reg.FLT_PEND.PEND n, .w1c, .any⟩]⟩,
  ⟨0x41000, 256, 0x4, 1, 0x4, fun x _ => [⟨Reg.FLT_SRC.LEVEL x, .rw, .nat 0 4⟩, ⟨Reg.FLT_SRC.PIN x, .rw, .any⟩, ⟨Reg.FLT_SRC.FIXED x, .ro, .any⟩, ⟨Reg.FLT_SRC.ACTIVE x, .ro, .any⟩, ⟨Reg.FLT_SRC.RAILBAD x, .ro, .any⟩, ⟨Reg.FLT_SRC.PEND x, .ro, .any⟩, ⟨Reg.FLT_SRC.COUNT x, .rc, .any⟩]⟩]

/-- The registers of the PWR block (16 R373). -/
def regRowsPWR : List RegRow := [
  ⟨0x50000, 6, 0x10, 1, 0x4, fun r _ => [⟨Reg.PWR_RAIL_STATUS.VNOW r, .ro, .any⟩, ⟨Reg.PWR_RAIL_STATUS.WARN r, .ro, .any⟩, ⟨Reg.PWR_RAIL_STATUS.WARN_EV r, .w1c, .any⟩]⟩,
  ⟨0x50004, 6, 0x10, 1, 0x4, fun r _ => [⟨Reg.PWR_RAIL_DIP.MINV r, .ro, .any⟩, ⟨Reg.PWR_RAIL_DIP.DUR r, .ro, .any⟩]⟩,
  ⟨0x50100, 1, 0x4, 1, 0x4, fun _ _ => [⟨Reg.PWR_LAST.RAIL, .ro, .any⟩, ⟨Reg.PWR_LAST.VALID, .rc, .any⟩, ⟨Reg.PWR_LAST.AONLOST, .ro, .any⟩, ⟨Reg.PWR_LAST.MINV, .ro, .any⟩]⟩,
  ⟨0x50104, 1, 0x4, 1, 0x4, fun _ _ => [⟨Reg.PWR_TEMP.TNOW, .ro, .any⟩, ⟨Reg.PWR_TEMP.TPEAK, .rc, .any⟩, ⟨Reg.PWR_TEMP.WARN, .ro, .any⟩, ⟨Reg.PWR_TEMP.SHUT_EV, .w1c, .any⟩]⟩,
  ⟨0x50108, 1, 0x4, 1, 0x4, fun _ _ => [⟨Reg.PWR_TEMP_CFG.TWARN, .rw, .nat 85 115⟩, ⟨Reg.PWR_TEMP_CFG.THYST, .rw, .nat 1 15⟩]⟩]

/-- The registers of the FAB block (15 R355). -/
def regRowsFAB : List RegRow := [
  ⟨0x60000, 1, 0x4, 1, 0x4, fun _ _ => [⟨Reg.FAB_REMAP.REMAP, .rw, .any⟩]⟩,
  ⟨0x60004, 1, 0x4, 1, 0x4, fun _ _ => [⟨Reg.FAB_ARB.AGE, .rw, .any⟩]⟩,
  ⟨0x60008, 1, 0x4, 1, 0x4, fun _ _ => [⟨Reg.FAB_TMO.CYCLES, .rw, .nat 1024 16777215⟩]⟩,
  ⟨0x6000C, 1, 0x4, 1, 0x4, fun _ _ => [⟨Reg.FAB_STATUS.LOCK_BROKEN, .w1c, .any⟩, ⟨Reg.FAB_STATUS.TIMEOUT, .w1c, .any⟩, ⟨Reg.FAB_STATUS.ERRRESP, .w1c, .any⟩, ⟨Reg.FAB_STATUS.RETIRED, .w1c, .any⟩, ⟨Reg.FAB_STATUS.LOCKED, .ro, .any⟩, ⟨Reg.FAB_STATUS.LOCK_MASTER, .ro, .any⟩, ⟨Reg.FAB_STATUS.LOCK_TARGET, .ro, .any⟩]⟩,
  ⟨0x60010, 1, 0x4, 1, 0x4, fun _ _ => [⟨Reg.FAB_ERR_ADDR.ADDR, .ro, .any⟩]⟩,
  ⟨0x60014, 1, 0x4, 1, 0x4, fun _ _ => [⟨Reg.FAB_ERR_INFO.MASTER, .ro, .any⟩, ⟨Reg.FAB_ERR_INFO.TARGET, .ro, .any⟩, ⟨Reg.FAB_ERR_INFO.ID, .ro, .any⟩, ⟨Reg.FAB_ERR_INFO.WRITE, .ro, .any⟩, ⟨Reg.FAB_ERR_INFO.KIND, .ro, .any⟩, ⟨Reg.FAB_ERR_INFO.VALID, .rc, .any⟩]⟩,
  ⟨0x60018, 1, 0x4, 1, 0x4, fun _ _ => [⟨Reg.FAB_CNT.ERRRESP, .rc, .any⟩, ⟨Reg.FAB_CNT.LOCKBRK, .rc, .any⟩, ⟨Reg.FAB_CNT.TMO, .rc, .any⟩]⟩,
  ⟨0x60100, 5, 0x10, 1, 0x4, fun t _ => [⟨Reg.FAB_T_ARB.P0 t, .rw, .any⟩, ⟨Reg.FAB_T_ARB.P1 t, .rw, .any⟩, ⟨Reg.FAB_T_ARB.P2 t, .rw, .any⟩, ⟨Reg.FAB_T_ARB.P3 t, .rw, .any⟩, ⟨Reg.FAB_T_ARB.P4 t, .rw, .any⟩, ⟨Reg.FAB_T_ARB.P5 t, .rw, .any⟩, ⟨Reg.FAB_T_ARB.PARK t, .rw, .nat 0 5⟩]⟩,
  ⟨0x60200, 6, 0x10, 1, 0x4, fun m _ => [⟨Reg.FAB_M_CFG.OUTST m, .rw, .nat 1 32⟩]⟩,
  ⟨0x60204, 6, 0x10, 1, 0x4, fun m _ => [⟨Reg.FAB_M_STATUS.OUTSTANDING m, .ro, .any⟩, ⟨Reg.FAB_M_STATUS.RETIRING m, .ro, .any⟩]⟩]

/-- The registers of the DMA block (15 R356). -/
def regRowsDMA : List RegRow := [
  ⟨0x70000, 1, 0x4, 1, 0x4, fun _ _ => [⟨Reg.DMA_CTRL.RESET, .wo, .any⟩]⟩,
  ⟨0x70004, 1, 0x4, 1, 0x4, fun _ _ => [⟨Reg.DMA_STATUS.RUNNING, .ro, .any⟩]⟩,
  ⟨0x70008, 2, 0x4, 1, 0x4, fun i _ => [⟨Reg.DMA_IRQ.CH i, .w1c, .any⟩]⟩,
  ⟨0x70100, 64, 0x40, 1, 0x4, fun c _ => [⟨Reg.DMA_CH_CTRL.START c, .ws, .any⟩, ⟨Reg.DMA_CH_CTRL.STOP c, .ws, .any⟩, ⟨Reg.DMA_CH_CTRL.DOORBELL c, .wo, .any⟩, ⟨Reg.DMA_CH_CTRL.COMMIT c, .ws, .any⟩]⟩,
  ⟨0x70104, 64, 0x40, 1, 0x4, fun c _ => [⟨Reg.DMA_CH_DESC.FIRST c, .rw, .any⟩]⟩,
  ⟨0x70108, 64, 0x40, 1, 0x4, fun c _ => [⟨Reg.DMA_CH_STATUS.STATE c, .ro, .any⟩, ⟨Reg.DMA_CH_STATUS.CUR c, .ro, .any⟩, ⟨Reg.DMA_CH_STATUS.CAUSE c, .ro, .any⟩, ⟨Reg.DMA_CH_STATUS.MISMATCH c, .w1c, .any⟩, ⟨Reg.DMA_CH_STATUS.DBPEND c, .ro, .any⟩, ⟨Reg.DMA_CH_STATUS.SHADOW_DIRTY c, .ro, .any⟩]⟩,
  ⟨0x7010C, 64, 0x40, 1, 0x4, fun c _ => [⟨Reg.DMA_CH_CFG.PRIO c, .rw, .any⟩, ⟨Reg.DMA_CH_CFG.RATE c, .rw, .any⟩, ⟨Reg.DMA_CH_CFG.ERRIRQ c, .rw, .any⟩]⟩,
  ⟨0x70110, 64, 0x40, 1, 0x4, fun c _ => [⟨Reg.DMA_CH_CFG_LIVE.PRIO c, .ro, .any⟩, ⟨Reg.DMA_CH_CFG_LIVE.RATE c, .ro, .any⟩, ⟨Reg.DMA_CH_CFG_LIVE.ERRIRQ c, .ro, .any⟩]⟩,
  ⟨0x70114, 64, 0x40, 1, 0x4, fun c _ => [⟨Reg.DMA_CH_MISS_S.ADDR c, .ro, .any⟩]⟩,
  ⟨0x70118, 64, 0x40, 1, 0x4, fun c _ => [⟨Reg.DMA_CH_MISS_D.ADDR c, .ro, .any⟩]⟩,
  ⟨0x7011C, 64, 0x40, 1, 0x4, fun c _ => [⟨Reg.DMA_CH_ERRADDR.ADDR c, .ro, .any⟩]⟩,
  ⟨0x70120, 64, 0x40, 1, 0x4, fun c _ => [⟨Reg.DMA_CH_CNT.DONE c, .rc, .any⟩, ⟨Reg.DMA_CH_CNT.MISCNT c, .rc, .any⟩]⟩]

/-- The registers of the STR block (02 R42). -/
def regRowsSTR : List RegRow := [
  ⟨0x80000, 1, 0x4, 1, 0x4, fun _ _ => [⟨Reg.STR_CTRL.HOLDMAX, .rw, .any⟩, ⟨Reg.STR_CTRL.HOSTWR_EN, .rw, .any⟩]⟩,
  ⟨0x80004, 1, 0x4, 1, 0x4, fun _ _ => [⟨Reg.STR_STATUS.HIT_REFUSED, .w1c, .any⟩, ⟨Reg.STR_STATUS.HOSTWR_ERR, .w1c, .any⟩, ⟨Reg.STR_STATUS.ECC_DBE, .w1c, .any⟩, ⟨Reg.STR_STATUS.CFG_REFUSED, .w1c, .any⟩, ⟨Reg.STR_STATUS.SUBST_SLOTS, .ro, .any⟩]⟩,
  ⟨0x80008, 1, 0x4, 1, 0x4, fun _ _ => [⟨Reg.STR_TICK_LO.TICK, .ro, .any⟩]⟩,
  ⟨0x8000C, 1, 0x4, 1, 0x4, fun _ _ => [⟨Reg.STR_TICK_HI.TICK, .ro, .any⟩]⟩,
  ⟨0x80010, 1, 0x4, 1, 0x4, fun _ _ => [⟨Reg.STR_HIT_SEL.INDEX, .rw, .any⟩, ⟨Reg.STR_HIT_SEL.TABLE, .rw, .any⟩]⟩,
  ⟨0x80014, 1, 0x4, 1, 0x4, fun _ _ => [⟨Reg.STR_HIT_W0.SLOT, .rw, .any⟩, ⟨Reg.STR_HIT_W0.IFTYPE, .rw, .any⟩, ⟨Reg.STR_HIT_W0.PORT, .rw, .any⟩, ⟨Reg.STR_HIT_W0.VALID, .rw, .any⟩]⟩,
  ⟨0x80018, 1, 0x4, 1, 0x4, fun _ _ => [⟨Reg.STR_HIT_W1.W1, .rw, .any⟩]⟩,
  ⟨0x8001C, 1, 0x4, 1, 0x4, fun _ _ => [⟨Reg.STR_HIT_STAT.STATE, .ro, .any⟩, ⟨Reg.STR_HIT_STAT.FAULTY, .ro, .any⟩, ⟨Reg.STR_HIT_STAT.FRAME, .ro, .any⟩]⟩,
  ⟨0x80020, 1, 0x4, 1, 0x4, fun _ _ => [⟨Reg.STR_HIT_CNT.SUBST_FR, .rc, .any⟩, ⟨Reg.STR_HIT_CNT.DROP_FR, .rc, .any⟩]⟩,
  ⟨0x80024, 1, 0x4, 1, 0x4, fun _ _ => [⟨Reg.STR_HIT_COMMIT.COMMIT, .ws, .any⟩, ⟨Reg.STR_HIT_COMMIT.DISCARD, .wo, .any⟩]⟩,
  ⟨0x80028, 1, 0x4, 1, 0x4, fun _ _ => [⟨Reg.STR_HIT_QSTAT.DEPTH, .ro, .any⟩, ⟨Reg.STR_HIT_QSTAT.OVF, .w1c, .any⟩, ⟨Reg.STR_HIT_QSTAT.REFUSED, .ro, .any⟩, ⟨Reg.STR_HIT_QSTAT.REASON, .ro, .any⟩]⟩,
  ⟨0x81000, 64, 0x20, 1, 0x4, fun b _ => [⟨Reg.STR_BRD_CTRL.LOCKSTEP b, .rw, .any⟩, ⟨Reg.STR_BRD_CTRL.TRIGSRC b, .rw, .any⟩, ⟨Reg.STR_BRD_CTRL.DOMAIN b, .rw, .any⟩, ⟨Reg.STR_BRD_CTRL.EDGE b, .rw, .any⟩, ⟨Reg.STR_BRD_CTRL.ARM b, .ws, .any⟩, ⟨Reg.STR_BRD_CTRL.STOP b, .wo, .any⟩, ⟨Reg.STR_BRD_CTRL.BFRAME b, .rw, .nat 1 384⟩, ⟨Reg.STR_BRD_CTRL.REJOIN_FRAMES b, .rw, .nat 1 1023⟩]⟩,
  ⟨0x81004, 64, 0x20, 1, 0x4, fun b _ => [⟨Reg.STR_BRD_TRIG_0.TRIG b, .rw, .any⟩]⟩,
  ⟨0x81008, 64, 0x20, 1, 0x4, fun b _ => [⟨Reg.STR_BRD_TRIG_1.TRIG b, .rw, .any⟩]⟩,
  ⟨0x8100C, 64, 0x20, 1, 0x4, fun b _ => [⟨Reg.STR_BRD_TRIG_2.TRIG b, .rw, .any⟩]⟩,
  ⟨0x81010, 64, 0x20, 1, 0x4, fun b _ => [⟨Reg.STR_BRD_STATUS.STATE b, .ro, .any⟩, ⟨Reg.STR_BRD_STATUS.LATE b, .w1c, .any⟩, ⟨Reg.STR_BRD_STATUS.BAD_FRAME b, .w1c, .any⟩, ⟨Reg.STR_BRD_STATUS.FAULTY b, .ro, .any⟩, ⟨Reg.STR_BRD_STATUS.BAD_TRIG b, .w1c, .any⟩, ⟨Reg.STR_BRD_STATUS.MEMBERS b, .ro, .any⟩]⟩,
  ⟨0x81014, 64, 0x20, 1, 0x4, fun b _ => [⟨Reg.STR_BRD_START_LO.START b, .ro, .any⟩]⟩,
  ⟨0x81018, 64, 0x20, 1, 0x4, fun b _ => [⟨Reg.STR_BRD_START_HI.START b, .ro, .any⟩]⟩]

/-- The registers of the ENG block (03 R75, 04 R101, 05 R122). -/
def regRowsENG : List RegRow := [
  ⟨0x90000, 192, 0x40, 1, 0x4, fun e _ => [⟨Reg.ENG_CTRL.PCOMMIT e, .ws, .any⟩, ⟨Reg.ENG_CTRL.RELOAD e, .ws, .any⟩]⟩,
  ⟨0x90004, 192, 0x40, 1, 0x4, fun e _ => [⟨Reg.ENG_STATUS.SAT_SEEN e, .w1c, .any⟩, ⟨Reg.ENG_STATUS.AOV_SEEN e, .w1c, .any⟩, ⟨Reg.ENG_STATUS.ADDR_ERR e, .w1c, .any⟩, ⟨Reg.ENG_STATUS.STRQ_OVF e, .w1c, .any⟩, ⟨Reg.ENG_STATUS.SWR_REFUSED e, .w1c, .any⟩, ⟨Reg.ENG_STATUS.COIL_NOSLOT e, .w1c, .any⟩, ⟨Reg.ENG_STATUS.DERR e, .w1c, .any⟩, ⟨Reg.ENG_STATUS.PERR e, .w1c, .any⟩, ⟨Reg.ENG_STATUS.OVERRUN e, .w1c, .any⟩, ⟨Reg.ENG_STATUS.PDIRTY e, .ro, .any⟩, ⟨Reg.ENG_STATUS.STATE e, .ro, .any⟩, ⟨Reg.ENG_STATUS.BANK e, .ro, .any⟩, ⟨Reg.ENG_STATUS.OTHER_BAD e, .ro, .any⟩]⟩,
  ⟨0x90008, 192, 0x40, 1, 0x4, fun e _ => [⟨Reg.ENG_ECC.SBE e, .rc, .any⟩, ⟨Reg.ENG_ECC.DBE e, .rc, .any⟩]⟩,
  ⟨0x9000C, 192, 0x40, 1, 0x4, fun e _ => [⟨Reg.ENG_DBE_ADDR.ADDR e, .ro, .any⟩, ⟨Reg.ENG_DBE_ADDR.MEM e, .ro, .any⟩, ⟨Reg.ENG_DBE_ADDR.CONST e, .ro, .any⟩, ⟨Reg.ENG_DBE_ADDR.VALID e, .rc, .any⟩]⟩,
  ⟨0x90010, 192, 0x40, 1, 0x4, fun e _ => [⟨Reg.ENG_ENTRY.ENTRY0 e, .ro, .any⟩, ⟨Reg.ENG_ENTRY.ENTRY1 e, .ro, .any⟩]⟩,
  ⟨0x90014, 192, 0x40, 1, 0x4, fun e _ => [⟨Reg.ENG_WAITCYC.LAST e, .ro, .any⟩, ⟨Reg.ENG_WAITCYC.PEAK e, .rc, .any⟩]⟩,
  ⟨0x90018, 192, 0x40, 1, 0x4, fun e _ => [⟨Reg.ENG_OVRCNT.COUNT e, .rc, .any⟩]⟩,
  ⟨0x9001C, 192, 0x40, 1, 0x4, fun e _ => [⟨Reg.ENG_OVR_PC.PC e, .ro, .any⟩, ⟨Reg.ENG_OVR_PC.BANK e, .ro, .any⟩]⟩,
  ⟨0x90020, 192, 0x40, 1, 0x4, fun e _ => [⟨Reg.ENG_EXC.ILL e, .w1c, .any⟩, ⟨Reg.ENG_EXC.PORT_CONFLICT e, .w1c, .any⟩, ⟨Reg.ENG_EXC.CAUSE e, .ro, .any⟩, ⟨Reg.ENG_EXC.ILL_PC e, .ro, .any⟩]⟩,
  ⟨0x94000, 1, 0x4, 1, 0x4, fun _ _ => [⟨Reg.ENG_LP_CTRL.LOAD, .ws, .any⟩, ⟨Reg.ENG_LP_CTRL.ARM, .ws, .any⟩, ⟨Reg.ENG_LP_CTRL.DISARM, .wo, .any⟩, ⟨Reg.ENG_LP_CTRL.TRIGSRC, .rw, .nat 0 2⟩, ⟨Reg.ENG_LP_CTRL.DOMAIN, .rw, .any⟩]⟩,
  ⟨0x94004, 1, 0x4, 1, 0x4, fun _ _ => [⟨Reg.ENG_LP_STATUS.LIVE, .ro, .any⟩, ⟨Reg.ENG_LP_STATUS.OTHER, .ro, .any⟩, ⟨Reg.ENG_LP_STATUS.ARMED, .ro, .any⟩, ⟨Reg.ENG_LP_STATUS.LATE, .w1c, .any⟩, ⟨Reg.ENG_LP_STATUS.REFUSED, .w1c, .any⟩, ⟨Reg.ENG_LP_STATUS.REASON, .ro, .any⟩, ⟨Reg.ENG_LP_STATUS.RAMPING, .ro, .any⟩, ⟨Reg.ENG_LP_STATUS.LOADPCT, .ro, .any⟩]⟩,
  ⟨0x94008, 1, 0x4, 1, 0x4, fun _ _ => [⟨Reg.ENG_LP_TRIG_0.TRIG, .rw, .any⟩]⟩,
  ⟨0x9400C, 1, 0x4, 1, 0x4, fun _ _ => [⟨Reg.ENG_LP_TRIG_1.TRIG, .rw, .any⟩]⟩,
  ⟨0x94010, 1, 0x4, 1, 0x4, fun _ _ => [⟨Reg.ENG_LP_TRIG_2.TRIG, .rw, .any⟩]⟩,
  ⟨0x94014, 2, 0x4, 1, 0x4, fun i _ => [⟨Reg.ENG_LP_ID.ID i, .ro, .any⟩]⟩,
  ⟨0x9401C, 1, 0x4, 1, 0x4, fun _ _ => [⟨Reg.ENG_LP_SPLICE.LEN, .ro, .any⟩]⟩,
  ⟨0x94020, 1, 0x4, 1, 0x4, fun _ _ => [⟨Reg.ENG_LP_LAST_LO.TICK, .ro, .any⟩]⟩,
  ⟨0x94024, 1, 0x4, 1, 0x4, fun _ _ => [⟨Reg.ENG_LP_LAST_HI.TICK, .ro, .any⟩]⟩,
  ⟨0x94028, 1, 0x4, 1, 0x4, fun _ _ => [⟨Reg.ENG_RES.BASE, .ro, .any⟩, ⟨Reg.ENG_RES.COUNT, .ro, .any⟩]⟩,
  ⟨0x94030, 6, 0x4, 1, 0x4, fun i _ => [⟨Reg.ENG_PCM.MASK i, .rw, .any⟩]⟩,
  ⟨0x94048, 1, 0x4, 1, 0x4, fun _ _ => [⟨Reg.ENG_PCM_GO.GO, .ws, .any⟩]⟩]

/-- The registers of the MTX block (06 R147). DESIGN CHOICE (log 10): MTX_XQ_SEL.ROW and COLUMN, of which no range
is stated, are refused above 2,303, the rows and columns there are. -/
def regRowsMTX : List RegRow := [
  ⟨0xA0000, 1, 0x4, 1, 0x4, fun _ _ => [⟨Reg.MTX_CTRL.SCRUB_EN, .rw, .any⟩]⟩,
  ⟨0xA0004, 1, 0x4, 1, 0x4, fun _ _ => [⟨Reg.MTX_STATUS.ROW_BUSY, .w1c, .any⟩, ⟨Reg.MTX_STATUS.CL_OVF, .w1c, .any⟩, ⟨Reg.MTX_STATUS.CM_REFUSED, .w1c, .any⟩, ⟨Reg.MTX_STATUS.ECC_DBE, .w1c, .any⟩, ⟨Reg.MTX_STATUS.CLIPCOLS, .ro, .any⟩]⟩,
  ⟨0xA0008, 1, 0x4, 1, 0x4, fun _ _ => [⟨Reg.MTX_BUDGET.B, .ro, .any⟩]⟩,
  ⟨0xA000C, 1, 0x4, 1, 0x4, fun _ _ => [⟨Reg.MTX_INUSE.INUSE, .ro, .any⟩]⟩,
  ⟨0xA0010, 1, 0x4, 1, 0x4, fun _ _ => [⟨Reg.MTX_ECC.SBE, .rc, .any⟩, ⟨Reg.MTX_ECC.DBE, .rc, .any⟩]⟩,
  ⟨0xA0024, 1, 0x4, 1, 0x4, fun _ _ => [⟨Reg.MTX_ROW_W0.SLOT, .rw, .any⟩, ⟨Reg.MTX_ROW_W0.VALID, .rw, .any⟩]⟩,
  ⟨0xA0028, 1, 0x4, 1, 0x4, fun _ _ => [⟨Reg.MTX_ROW_W1.OPEN, .rw, .any⟩, ⟨Reg.MTX_ROW_W1.CLOSE, .rw, .any⟩]⟩,
  ⟨0xA002C, 1, 0x4, 1, 0x4, fun _ _ => [⟨Reg.MTX_ROW_W2.HOLD, .rw, .any⟩, ⟨Reg.MTX_ROW_W2.GATE, .ro, .any⟩]⟩,
  ⟨0xA0034, 1, 0x4, 1, 0x4, fun _ _ => [⟨Reg.MTX_COL_W0.SLOT, .ro, .any⟩, ⟨Reg.MTX_COL_W0.KIND, .ro, .any⟩, ⟨Reg.MTX_COL_W0.NOM, .ro, .any⟩, ⟨Reg.MTX_COL_W0.UNIT, .ro, .any⟩]⟩,
  ⟨0xA0038, 1, 0x4, 1, 0x4, fun _ _ => [⟨Reg.MTX_COL_W1.NLIVE, .ro, .any⟩, ⟨Reg.MTX_COL_W1.NNEW, .ro, .any⟩, ⟨Reg.MTX_COL_W1.STATE, .ro, .any⟩]⟩,
  ⟨0xA003C, 1, 0x4, 1, 0x4, fun _ _ => [⟨Reg.MTX_COL_W2.K, .ro, .any⟩, ⟨Reg.MTX_COL_W2.ID, .ro, .any⟩, ⟨Reg.MTX_COL_W2.RESULT, .ro, .any⟩]⟩,
  ⟨0xA0040, 1, 0x4, 1, 0x4, fun _ _ => [⟨Reg.MTX_XQ_SEL.ROW, .rw, .nat 0 2303⟩, ⟨Reg.MTX_XQ_SEL.COLUMN, .rw, .nat 0 2303⟩]⟩,
  ⟨0xA0060, 1, 0x4, 1, 0x4, fun _ _ => [⟨Reg.MTX_CM_CTRL.LEN, .rw, .any⟩, ⟨Reg.MTX_CM_CTRL.LAW, .rw, .any⟩, ⟨Reg.MTX_CM_CTRL.PREEMPT, .rw, .any⟩, ⟨Reg.MTX_CM_CTRL.START, .rw, .nat 0 2⟩, ⟨Reg.MTX_CM_CTRL.DOMAIN, .rw, .any⟩, ⟨Reg.MTX_CM_CTRL.ZC, .rw, .any⟩]⟩,
  ⟨0xA0064, 1, 0x4, 1, 0x4, fun _ _ => [⟨Reg.MTX_CM_ZC.TIMEOUT, .rw, .nat 1 65535⟩, ⟨Reg.MTX_CM_ZC.THR, .rw, .any⟩]⟩,
  ⟨0xA0074, 1, 0x4, 1, 0x4, fun _ _ => [⟨Reg.MTX_CM_GO.COMMIT, .wo, .any⟩, ⟨Reg.MTX_CM_GO.DISCARD, .wo, .any⟩]⟩,
  ⟨0xA0078, 1, 0x4, 1, 0x4, fun _ _ => [⟨Reg.MTX_CM_LAST.ID, .ro, .any⟩, ⟨Reg.MTX_CM_LAST.REFUSED, .ro, .any⟩, ⟨Reg.MTX_CM_LAST.REASON, .ro, .any⟩]⟩,
  ⟨0xA0020, 1, 0x4, 1, 0x4, fun _ _ => [⟨Reg.MTX_ROW_SEL.INDEX, .rw, .nat 0 2303⟩]⟩,
  ⟨0xA0030, 1, 0x4, 1, 0x4, fun _ _ => [⟨Reg.MTX_COL_SEL.INDEX, .rw, .nat 0 2303⟩]⟩,
  ⟨0xA0044, 1, 0x4, 1, 0x4, fun _ _ => [⟨Reg.MTX_XQ_LIVE.GAIN, .ro, .any⟩]⟩,
  ⟨0xA0048, 1, 0x4, 1, 0x4, fun _ _ => [⟨Reg.MTX_XQ_NEW.GAIN, .ro, .any⟩]⟩,
  ⟨0xA0050, 1, 0x4, 1, 0x4, fun _ _ => [⟨Reg.MTX_CL_W0.ENTRY, .wo, .any⟩]⟩,
  ⟨0xA0054, 1, 0x4, 1, 0x4, fun _ _ => [⟨Reg.MTX_CL_W1.ENTRY, .wo, .any⟩]⟩,
  ⟨0xA0058, 1, 0x4, 1, 0x4, fun _ _ => [⟨Reg.MTX_CL_COUNT.COUNT, .ro, .any⟩]⟩,
  ⟨0xA0068, 1, 0x4, 1, 0x4, fun _ _ => [⟨Reg.MTX_CM_TRIG_0.TRIG, .rw, .any⟩]⟩,
  ⟨0xA006C, 1, 0x4, 1, 0x4, fun _ _ => [⟨Reg.MTX_CM_TRIG_1.TRIG, .rw, .any⟩]⟩,
  ⟨0xA0070, 1, 0x4, 1, 0x4, fun _ _ => [⟨Reg.MTX_CM_TRIG_2.TRIG, .rw, .any⟩]⟩,
  ⟨0xA0080, 1, 0x4, 1, 0x4, fun _ _ => [⟨Reg.MTX_CS_SEL.ID, .rw, .any⟩]⟩,
  ⟨0xA0084, 1, 0x4, 1, 0x4, fun _ _ => [⟨Reg.MTX_CS_STAT.STATE, .ro, .any⟩, ⟨Reg.MTX_CS_STAT.DELAYED, .ro, .any⟩, ⟨Reg.MTX_CS_STAT.FALLBACK, .ro, .any⟩, ⟨Reg.MTX_CS_STAT.REFUSED, .ro, .any⟩]⟩,
  ⟨0xA0088, 1, 0x4, 1, 0x4, fun _ _ => [⟨Reg.MTX_CS_START_LO.START, .ro, .any⟩]⟩,
  ⟨0xA008C, 1, 0x4, 1, 0x4, fun _ _ => [⟨Reg.MTX_CS_START_HI.START, .ro, .any⟩]⟩,
  ⟨0xA1000, 256, 0x80, 1, 0x4, fun u _ => [⟨Reg.MTX_NOM_CTRL.LAW u, .rw, .nat 0 2⟩, ⟨Reg.MTX_NOM_CTRL.RAMP u, .rw, .any⟩]⟩,
  ⟨0xA1004, 256, 0x80, 1, 0x4, fun u _ => [⟨Reg.MTX_NOM_STATUS.N u, .ro, .any⟩]⟩,
  ⟨0xA1040, 256, 0x80, 16, 0x4, fun u i => [⟨Reg.MTX_NOM_TABLE.GAIN u i, .rw, .any⟩]⟩]

/-- The registers of the EGR block (06 R148). -/
def regRowsEGR : List RegRow := [
  ⟨0xB0000, 1, 0x4, 1, 0x4, fun _ _ => [⟨Reg.EGR_WSEL.INST, .rw, .nat 0 2303⟩]⟩,
  ⟨0xB0004, 1, 0x4, 1, 0x4, fun _ _ => [⟨Reg.EGR_WGAIN.GAIN, .rw, .any⟩]⟩,
  ⟨0xB0008, 1, 0x4, 1, 0x4, fun _ _ => [⟨Reg.EGR_WCTRL.MUTE, .rw, .any⟩, ⟨Reg.EGR_WCTRL.LIM_EN, .rw, .any⟩, ⟨Reg.EGR_WCTRL.DC_EN, .rw, .any⟩, ⟨Reg.EGR_WCTRL.DCMUTE, .rw, .any⟩, ⟨Reg.EGR_WCTRL.ZCTO, .rw, .nat 1 65535⟩]⟩,
  ⟨0xB000C, 1, 0x4, 1, 0x4, fun _ _ => [⟨Reg.EGR_WLIM.ZCTHR, .rw, .any⟩, ⟨Reg.EGR_WLIM.RSHIFT, .rw, .any⟩, ⟨Reg.EGR_WLIM.THR, .rw, .any⟩]⟩,
  ⟨0xB0010, 1, 0x4, 1, 0x4, fun _ _ => [⟨Reg.EGR_WDC.DCTHR, .rw, .any⟩, ⟨Reg.EGR_WDC.DCSHIFT, .rw, .any⟩, ⟨Reg.EGR_WDC.DCTIME, .rw, .any⟩]⟩,
  ⟨0xB0014, 1, 0x4, 1, 0x4, fun _ _ => [⟨Reg.EGR_WCOMMIT.COMMIT, .ws, .any⟩]⟩,
  ⟨0xB0018, 1, 0x4, 1, 0x4, fun _ _ => [⟨Reg.EGR_WSTAT.STATE, .ro, .any⟩, ⟨Reg.EGR_WSTAT.DC, .ro, .any⟩, ⟨Reg.EGR_WSTAT.GR, .ro, .any⟩]⟩,
  ⟨0xB001C, 1, 0x4, 1, 0x4, fun _ _ => [⟨Reg.EGR_WCNT.CLIP, .rc, .any⟩, ⟨Reg.EGR_WCNT.LIM, .rc, .any⟩]⟩,
  ⟨0xB1000, 64, 0x40, 1, 0x4, fun m _ => [⟨Reg.EGR_ST_CTRL.TARGET m, .rw, .any⟩, ⟨Reg.EGR_ST_CTRL.MODE m, .rw, .any⟩, ⟨Reg.EGR_ST_CTRL.EN m, .rw, .any⟩]⟩,
  ⟨0xB1004, 64, 0x40, 4, 0x4, fun m i => [⟨Reg.EGR_ST_SRC.HITCH m i, .rw, .any⟩, ⟨Reg.EGR_ST_SRC.VALID m i, .rw, .any⟩]⟩,
  ⟨0xB1014, 64, 0x40, 4, 0x4, fun m i => [⟨Reg.EGR_ST_GAIN.GAIN m i, .rw, .any⟩]⟩]

/-- The registers of the SAP block (10 R225). -/
def regRowsSAP : List RegRow := [
  ⟨0xC0000, 24, 0x40, 1, 0x4, fun p _ => [⟨Reg.SAP_RXCFG.EN p, .rw, .any⟩, ⟨Reg.SAP_RXCFG.MASTER p, .rw, .any⟩, ⟨Reg.SAP_RXCFG.FMT p, .rw, .nat 0 2⟩, ⟨Reg.SAP_RXCFG.SLOTS p, .rw, .nat 0 4⟩, ⟨Reg.SAP_RXCFG.SLOTW p, .rw, .any⟩, ⟨Reg.SAP_RXCFG.DW p, .rw, .any⟩, ⟨Reg.SAP_RXCFG.DELAY p, .rw, .any⟩, ⟨Reg.SAP_RXCFG.FSW p, .rw, .any⟩, ⟨Reg.SAP_RXCFG.FSPOL p, .rw, .any⟩, ⟨Reg.SAP_RXCFG.BCKPOL p, .rw, .any⟩, ⟨Reg.SAP_RXCFG.ASYNC p, .rw, .any⟩]⟩,
  ⟨0xC0004, 24, 0x40, 1, 0x4, fun p _ => [⟨Reg.SAP_TXCFG.EN p, .rw, .any⟩, ⟨Reg.SAP_TXCFG.MASTER p, .rw, .any⟩, ⟨Reg.SAP_TXCFG.FMT p, .rw, .nat 0 2⟩, ⟨Reg.SAP_TXCFG.SLOTS p, .rw, .nat 0 4⟩, ⟨Reg.SAP_TXCFG.SLOTW p, .rw, .any⟩, ⟨Reg.SAP_TXCFG.DW p, .rw, .any⟩, ⟨Reg.SAP_TXCFG.DELAY p, .rw, .any⟩, ⟨Reg.SAP_TXCFG.FSW p, .rw, .any⟩, ⟨Reg.SAP_TXCFG.FSPOL p, .rw, .any⟩, ⟨Reg.SAP_TXCFG.BCKPOL p, .rw, .any⟩, ⟨Reg.SAP_TXCFG.HIZ p, .rw, .any⟩]⟩,
  ⟨0xC0008, 24, 0x40, 1, 0x4, fun p _ => [⟨Reg.SAP_ZC.TIMEOUT p, .rw, .nat 1 65535⟩, ⟨Reg.SAP_ZC.THR p, .rw, .any⟩]⟩,
  ⟨0xC000C, 24, 0x40, 1, 0x4, fun p _ => [⟨Reg.SAP_STATUS.RXSTATE p, .ro, .any⟩, ⟨Reg.SAP_STATUS.TXSTATE p, .ro, .any⟩, ⟨Reg.SAP_STATUS.MALF p, .w1c, .any⟩, ⟨Reg.SAP_STATUS.RX_CLKLOST p, .w1c, .any⟩, ⟨Reg.SAP_STATUS.RX_RATEMIS p, .w1c, .any⟩, ⟨Reg.SAP_STATUS.TX_CLKLOST p, .w1c, .any⟩, ⟨Reg.SAP_STATUS.TX_RATEMIS p, .w1c, .any⟩, ⟨Reg.SAP_STATUS.CFG_REFUSED p, .w1c, .any⟩]⟩,
  ⟨0xC0010, 24, 0x40, 1, 0x4, fun p _ => [⟨Reg.SAP_PHASE.RXPH p, .ro, .any⟩, ⟨Reg.SAP_PHASE.RXPPM p, .ro, .any⟩]⟩,
  ⟨0xC0014, 24, 0x40, 1, 0x4, fun p _ => [⟨Reg.SAP_RXCNT.MALF p, .rc, .any⟩, ⟨Reg.SAP_RXCNT.SLIP p, .rc, .any⟩]⟩,
  ⟨0xC0018, 24, 0x40, 1, 0x4, fun p _ => [⟨Reg.SAP_TXCNT.REPEAT p, .rc, .any⟩, ⟨Reg.SAP_TXCNT.SKIP p, .rc, .any⟩]⟩,
  ⟨0xC1000, 64, 0x8, 1, 0x4, fun l _ => [⟨Reg.SAP_ASRC_STATUS.STATE l, .ro, .any⟩, ⟨Reg.SAP_ASRC_STATUS.RANGE l, .w1c, .any⟩, ⟨Reg.SAP_ASRC_STATUS.INRATE l, .ro, .any⟩]⟩,
  ⟨0xC1004, 64, 0x8, 1, 0x4, fun l _ => [⟨Reg.SAP_ASRC_RATIO.RATIO l, .ro, .any⟩]⟩]

/-- The registers of the AES block (10 R226). -/
def regRowsAES : List RegRow := [
  ⟨0xD0000, 8, 0x40, 1, 0x4, fun n _ => [⟨Reg.AES_RX_CFG.EN n, .rw, .any⟩, ⟨Reg.AES_RX_CFG.ASYNC n, .rw, .any⟩, ⟨Reg.AES_RX_CFG.CSSEL n, .rw, .any⟩]⟩,
  ⟨0xD0004, 8, 0x40, 1, 0x4, fun n _ => [⟨Reg.AES_RX_STATUS.STATE n, .ro, .any⟩, ⟨Reg.AES_RX_STATUS.PARITY n, .w1c, .any⟩, ⟨Reg.AES_RX_STATUS.LOCKLOST n, .w1c, .any⟩, ⟨Reg.AES_RX_STATUS.RATEMIS n, .w1c, .any⟩, ⟨Reg.AES_RX_STATUS.VBIT n, .ro, .any⟩, ⟨Reg.AES_RX_STATUS.CS_NEW n, .w1c, .any⟩, ⟨Reg.AES_RX_STATUS.CRC_ERR n, .w1c, .any⟩]⟩,
  ⟨0xD0008, 8, 0x40, 1, 0x4, fun n _ => [⟨Reg.AES_RX_CNT.PARITY n, .rc, .any⟩, ⟨Reg.AES_RX_CNT.SUBST n, .rc, .any⟩]⟩,
  ⟨0xD0010, 8, 0x40, 6, 0x4, fun n k => [⟨Reg.AES_RX_CS.CS n k, .ro, .any⟩]⟩,
  ⟨0xD0200, 8, 0x40, 1, 0x4, fun n _ => [⟨Reg.AES_TX_CFG.EN n, .rw, .any⟩, ⟨Reg.AES_TX_CFG.CRC_EN n, .rw, .any⟩]⟩,
  ⟨0xD0210, 8, 0x40, 6, 0x4, fun n k => [⟨Reg.AES_TX_CS.CS n k, .rw, .any⟩]⟩,
  ⟨0xD0400, 2, 0x40, 1, 0x4, fun m _ => [⟨Reg.MADI_CFG.RXEN m, .rw, .any⟩, ⟨Reg.MADI_CFG.TXEN m, .rw, .any⟩, ⟨Reg.MADI_CFG.MODE m, .rw, .nat 0 2⟩, ⟨Reg.MADI_CFG.ASYNC m, .rw, .any⟩]⟩,
  ⟨0xD0404, 2, 0x40, 1, 0x4, fun m _ => [⟨Reg.MADI_STATUS.RXSTATE m, .ro, .any⟩, ⟨Reg.MADI_STATUS.SYNCERR m, .w1c, .any⟩, ⟨Reg.MADI_STATUS.PARITY m, .w1c, .any⟩, ⟨Reg.MADI_STATUS.LOCKLOST m, .w1c, .any⟩, ⟨Reg.MADI_STATUS.RATEMIS m, .w1c, .any⟩]⟩,
  ⟨0xD0408, 2, 0x40, 1, 0x4, fun m _ => [⟨Reg.MADI_CNT.PARITY m, .rc, .any⟩, ⟨Reg.MADI_CNT.SUBST m, .rc, .any⟩]⟩]

/-- The registers of the DEC block (10 R227). -/
def regRowsDEC : List RegRow := [
  ⟨0xE0000, 96, 0x10, 1, 0x4, fun c _ => [⟨Reg.DEC_CH_CFG.EN c, .rw, .any⟩, ⟨Reg.DEC_CH_CFG.ORDER c, .rw, .nat 0 2⟩, ⟨Reg.DEC_CH_CFG.MDD c, .rw, .any⟩, ⟨Reg.DEC_CH_CFG.HB c, .rw, .any⟩, ⟨Reg.DEC_CH_CFG.CSET c, .rw, .any⟩, ⟨Reg.DEC_CH_CFG.INV c, .rw, .any⟩]⟩,
  ⟨0xE0004, 96, 0x10, 1, 0x4, fun c _ => [⟨Reg.DEC_CH_DC.FC c, .rw, .nat 50 2000⟩, ⟨Reg.DEC_CH_DC.BYP c, .rw, .any⟩, ⟨Reg.DEC_CH_DC.FREEZE c, .rw, .any⟩]⟩,
  ⟨0xE0008, 96, 0x10, 1, 0x4, fun c _ => [⟨Reg.DEC_CH_STATUS.UNSETTLED c, .ro, .any⟩, ⟨Reg.DEC_CH_STATUS.SAT c, .w1c, .any⟩, ⟨Reg.DEC_CH_STATUS.NOCLK c, .ro, .any⟩, ⟨Reg.DEC_CH_STATUS.SETTLE c, .ro, .any⟩, ⟨Reg.DEC_CH_STATUS.RATIO c, .ro, .any⟩]⟩,
  ⟨0xE1000, 8, 0x80, 32, 0x4, fun x t => [⟨Reg.DEC_COEF.COEF x t, .rw, .any⟩]⟩,
  ⟨0xE1400, 8, 0x4, 1, 0x4, fun i _ => [⟨Reg.DEC_HB.COEF i, .rw, .any⟩]⟩,
  ⟨0xE1500, 1, 0x4, 1, 0x4, fun _ _ => [⟨Reg.DEC_PDMCLK.DIV0, .rw, .any⟩, ⟨Reg.DEC_PDMCLK.DIV1, .rw, .any⟩, ⟨Reg.DEC_PDMCLK.DIV2, .rw, .any⟩, ⟨Reg.DEC_PDMCLK.DIV3, .rw, .any⟩]⟩]

/-- The registers of the AMP block (11 R247). -/
def regRowsAMP : List RegRow := [
  ⟨0xF0000, 1, 0x4, 1, 0x4, fun _ _ => [⟨Reg.AMP_CTRL.SNSEN, .rw, .any⟩, ⟨Reg.AMP_CTRL.WARMDIAG, .rw, .any⟩, ⟨Reg.AMP_CTRL.OCFILT, .rw, .any⟩]⟩,
  ⟨0xF0004, 1, 0x4, 1, 0x4, fun _ _ => [⟨Reg.AMP_STATUS.CFG_REFUSED, .w1c, .any⟩, ⟨Reg.AMP_STATUS.NDIAG, .ro, .any⟩]⟩,
  ⟨0xF0008, 1, 0x4, 1, 0x4, fun _ _ => [⟨Reg.AMP_MOD.JMAX, .rw, .nat 1024 6400⟩, ⟨Reg.AMP_MOD.USCALE, .rw, .nat 1 6400⟩]⟩,
  ⟨0xF000C, 1, 0x4, 1, 0x4, fun _ _ => [⟨Reg.AMP_DIAG.DIAGJ, .rw, .nat 1 1023⟩, ⟨Reg.AMP_DIAG.ZSHORT, .rw, .nat 10 1000⟩, ⟨Reg.AMP_DIAG.RLYT, .rw, .nat 2 10⟩]⟩,
  ⟨0xF0010, 5, 0x4, 1, 0x4, fun i _ => [⟨Reg.AMP_NS.H i, .rw, .any⟩]⟩,
  ⟨0xF0100, 32, 0x20, 1, 0x4, fun n _ => [⟨Reg.AMP_CH_CTRL.EN n, .rw, .any⟩, ⟨Reg.AMP_CH_CTRL.DIAG_EN n, .rw, .any⟩, ⟨Reg.AMP_CH_CTRL.OPEN_EN n, .rw, .any⟩, ⟨Reg.AMP_CH_CTRL.PLIM_EN n, .rw, .any⟩, ⟨Reg.AMP_CH_CTRL.CLR n, .wo, .any⟩, ⟨Reg.AMP_CH_CTRL.RUNDIAG n, .ws, .any⟩]⟩,
  ⟨0xF0104, 32, 0x20, 1, 0x4, fun n _ => [⟨Reg.AMP_CH_SCALE.VFS n, .rw, .any⟩, ⟨Reg.AMP_CH_SCALE.IFS n, .rw, .any⟩]⟩,
  ⟨0xF0108, 32, 0x20, 1, 0x4, fun n _ => [⟨Reg.AMP_CH_PLIM.PLIM n, .rw, .any⟩, ⟨Reg.AMP_CH_PLIM.PLOSS n, .rw, .any⟩]⟩,
  ⟨0xF010C, 32, 0x20, 1, 0x4, fun n _ => [⟨Reg.AMP_CH_TIME.WINDOW n, .rw, .nat 1 10000⟩, ⟨Reg.AMP_CH_TIME.ATTACK n, .rw, .nat 1 63⟩, ⟨Reg.AMP_CH_TIME.RELEASE n, .rw, .nat 10 4095⟩]⟩,
  ⟨0xF0110, 32, 0x20, 1, 0x4, fun n _ => [⟨Reg.AMP_CH_STATUS.STATE n, .ro, .any⟩, ⟨Reg.AMP_CH_STATUS.DIAG_RES n, .ro, .any⟩, ⟨Reg.AMP_CH_STATUS.PLIM_ACT n, .ro, .any⟩, ⟨Reg.AMP_CH_STATUS.SENSE_LOST n, .ro, .any⟩, ⟨Reg.AMP_CH_STATUS.LOWSIG n, .ro, .any⟩, ⟨Reg.AMP_CH_STATUS.RETRIES n, .ro, .any⟩, ⟨Reg.AMP_CH_STATUS.LATCH_EV n, .w1c, .any⟩, ⟨Reg.AMP_CH_STATUS.CFG_REFUSED n, .w1c, .any⟩]⟩,
  ⟨0xF0114, 32, 0x20, 1, 0x4, fun n _ => [⟨Reg.AMP_CH_PWR.P n, .ro, .any⟩, ⟨Reg.AMP_CH_PWR.GR n, .ro, .any⟩]⟩,
  ⟨0xF0118, 32, 0x20, 1, 0x4, fun n _ => [⟨Reg.AMP_CH_Z.ZEST n, .ro, .any⟩, ⟨Reg.AMP_CH_Z.ZDIAG n, .ro, .any⟩]⟩,
  ⟨0xF011C, 32, 0x20, 1, 0x4, fun n _ => [⟨Reg.AMP_CH_CNT.OCPER n, .rc, .any⟩, ⟨Reg.AMP_CH_CNT.LATCHES n, .rc, .any⟩, ⟨Reg.AMP_CH_CNT.CLAMPS n, .rc, .any⟩]⟩]

/-- The registers of the MAC block (12 R272). -/
def regRowsMAC : List RegRow := [
  ⟨0x100000, 5, 0x100, 1, 0x4, fun i _ => [⟨Reg.MAC_CTRL.EN i, .rw, .any⟩, ⟨Reg.MAC_CTRL.RATE i, .rw, .any⟩, ⟨Reg.MAC_CTRL.DELIVER_ERRORED i, .rw, .any⟩, ⟨Reg.MAC_CTRL.COMPAT i, .rw, .any⟩, ⟨Reg.MAC_CTRL.CTLVLAN_EN i, .rw, .any⟩, ⟨Reg.MAC_CTRL.MCALL i, .rw, .any⟩, ⟨Reg.MAC_CTRL.RGMII_TXDLY i, .rw, .any⟩]⟩,
  ⟨0x100004, 5, 0x100, 1, 0x4, fun i _ => [⟨Reg.MAC_STATUS.LINK i, .ro, .any⟩, ⟨Reg.MAC_STATUS.LFAULT i, .ro, .any⟩, ⟨Reg.MAC_STATUS.RFAULT i, .ro, .any⟩, ⟨Reg.MAC_STATUS.CFG_REFUSED i, .w1c, .any⟩]⟩,
  ⟨0x100008, 5, 0x100, 1, 0x4, fun i _ => [⟨Reg.MAC_MAXLEN.MAXLEN i, .rw, .nat 1518 9216⟩]⟩,
  ⟨0x10000C, 5, 0x100, 1, 0x4, fun i _ => [⟨Reg.MAC_VLAN.VID i, .rw, .any⟩, ⟨Reg.MAC_VLAN.PCP i, .rw, .any⟩, ⟨Reg.MAC_VLAN.DEI i, .rw, .any⟩]⟩,
  ⟨0x100010, 5, 0x100, 1, 0x4, fun i _ => [⟨Reg.MAC_ADDR_LO.ADDR i, .rw, .any⟩]⟩,
  ⟨0x100014, 5, 0x100, 1, 0x4, fun i _ => [⟨Reg.MAC_ADDR_HI.ADDR i, .rw, .any⟩]⟩,
  ⟨0x100040, 5, 0x100, 13, 0x4, fun i j => [⟨Reg.MAC_CNT.COUNT i j, .rc, .any⟩]⟩,
  ⟨0x100800, 8, 0x20, 1, 0x4, fun k _ => [⟨Reg.MAC_WP_CTRL.CRC k, .rw, .any⟩, ⟨Reg.MAC_WP_CTRL.PORTS k, .rw, .any⟩, ⟨Reg.MAC_WP_CTRL.WAKE k, .rw, .any⟩, ⟨Reg.MAC_WP_CTRL.CLASS k, .rw, .any⟩, ⟨Reg.MAC_WP_CTRL.ACT k, .rw, .any⟩, ⟨Reg.MAC_WP_CTRL.QSEL k, .rw, .any⟩]⟩,
  ⟨0x100804, 8, 0x20, 4, 0x4, fun k w => [⟨Reg.MAC_WP_MASK.MASK k w, .rw, .any⟩]⟩,
  ⟨0x100A00, 1, 0x4, 1, 0x4, fun _ _ => [⟨Reg.MAC_WAKE.PATTERN, .ro, .any⟩, ⟨Reg.MAC_WAKE.WOKE, .w1c, .any⟩, ⟨Reg.MAC_WAKE.PATDROP, .rc, .any⟩]⟩]

/-- The registers of the NET block (12 R273). -/
def regRowsNET : List RegRow := [
  ⟨0x110000, 1, 0x4, 1, 0x4, fun _ _ => [⟨Reg.NET_CTRL.PELOND_PORT, .rw, .any⟩, ⟨Reg.NET_CTRL.PLOSS, .rw, .nat 1 15⟩, ⟨Reg.NET_CTRL.WATCH_EN, .rw, .any⟩]⟩,
  ⟨0x110004, 1, 0x4, 1, 0x4, fun _ _ => [⟨Reg.NET_STATUS.PARTNER_ABSENT, .ro, .any⟩, ⟨Reg.NET_STATUS.CFG_REFUSED, .w1c, .any⟩]⟩,
  ⟨0x110008, 1, 0x4, 1, 0x4, fun _ _ => [⟨Reg.NET_TMPL_BASE.BASE, .rw, .ram 128⟩]⟩,
  ⟨0x110020, 1, 0x4, 1, 0x4, fun _ _ => [⟨Reg.NET_SEL.INDEX, .rw, .any⟩, ⟨Reg.NET_SEL.DIR, .rw, .any⟩, ⟨Reg.NET_SEL.WORD, .rw, .any⟩]⟩,
  ⟨0x110024, 1, 0x4, 1, 0x4, fun _ _ => [⟨Reg.NET_DATA.DATA, .rw, .any⟩]⟩,
  ⟨0x110028, 1, 0x4, 1, 0x4, fun _ _ => [⟨Reg.NET_DESC_GO.GO, .ws, .any⟩]⟩,
  ⟨0x11002C, 1, 0x4, 1, 0x4, fun _ _ => [⟨Reg.NET_DESC_LAST.REFUSED, .ro, .any⟩, ⟨Reg.NET_DESC_LAST.REASON, .ro, .any⟩]⟩,
  ⟨0x110030, 1, 0x4, 1, 0x4, fun _ _ => [⟨Reg.NET_STRM_STAT.STATE, .ro, .any⟩, ⟨Reg.NET_STRM_STAT.PATH_A, .ro, .any⟩, ⟨Reg.NET_STRM_STAT.PATH_B, .ro, .any⟩]⟩,
  ⟨0x110034, 3, 0x4, 1, 0x4, fun k _ => [⟨Reg.NET_STRM_CNT.LOW k, .rc, .any⟩, ⟨Reg.NET_STRM_CNT.HIGH k, .rc, .any⟩]⟩,
  ⟨0x110100, 16, 0x10, 1, 0x4, fun g _ => [⟨Reg.NET_GRP_CTRL.ARM g, .ws, .any⟩, ⟨Reg.NET_GRP_CTRL.TRIGSRC g, .rw, .not 1⟩, ⟨Reg.NET_GRP_CTRL.DOMAIN g, .rw, .any⟩, ⟨Reg.NET_GRP_CTRL.LATE g, .w1c, .any⟩, ⟨Reg.NET_GRP_CTRL.BAD_TRIG g, .w1c, .any⟩]⟩,
  ⟨0x110104, 16, 0x10, 1, 0x4, fun g _ => [⟨Reg.NET_GRP_TRIG_0.TRIG g, .rw, .any⟩]⟩,
  ⟨0x110108, 16, 0x10, 1, 0x4, fun g _ => [⟨Reg.NET_GRP_TRIG_1.TRIG g, .rw, .any⟩]⟩,
  ⟨0x11010C, 16, 0x10, 1, 0x4, fun g _ => [⟨Reg.NET_GRP_TRIG_2.TRIG g, .rw, .any⟩]⟩,
  ⟨0x110200, 4, 0x10, 1, 0x4, fun q _ => [⟨Reg.NET_RXQ_BASE.BASE q, .rw, .ram 32⟩]⟩,
  ⟨0x110204, 4, 0x10, 1, 0x4, fun q _ => [⟨Reg.NET_RXQ_CTRL.SIZE q, .rw, .zeroOr 16 4096⟩, ⟨Reg.NET_RXQ_CTRL.BUFSZ q, .rw, .any⟩, ⟨Reg.NET_RXQ_CTRL.IRQ_EN q, .rw, .any⟩]⟩,
  ⟨0x110208, 4, 0x10, 1, 0x4, fun q _ => [⟨Reg.NET_RXQ_PTR.HEAD q, .ro, .any⟩, ⟨Reg.NET_RXQ_PTR.TAIL q, .rw, .any⟩]⟩,
  ⟨0x110300, 5, 0x10, 1, 0x4, fun i _ => [⟨Reg.NET_TXQ_BASE.BASE i, .rw, .ram 32⟩]⟩,
  ⟨0x110304, 5, 0x10, 1, 0x4, fun i _ => [⟨Reg.NET_TXQ_CTRL.SIZE i, .rw, .zeroOr 16 4096⟩, ⟨Reg.NET_TXQ_CTRL.BUFSZ i, .rw, .any⟩, ⟨Reg.NET_TXQ_CTRL.IRQ_EN i, .rw, .any⟩]⟩,
  ⟨0x110308, 5, 0x10, 1, 0x4, fun i _ => [⟨Reg.NET_TXQ_PTR.HEAD i, .ro, .any⟩, ⟨Reg.NET_TXQ_PTR.TAIL i, .rw, .any⟩]⟩]

/-- The registers of the LANE block (13 R297). -/
def regRowsLANE : List RegRow := [
  ⟨0x120000, 16, 0x40, 1, 0x4, fun n _ => [⟨Reg.LANE_CFG.ROLE n, .rw, .nat 0 6⟩, ⟨Reg.LANE_CFG.TXRATE n, .rw, .any⟩, ⟨Reg.LANE_CFG.RXRATE n, .rw, .any⟩, ⟨Reg.LANE_CFG.TXPOL n, .rw, .any⟩, ⟨Reg.LANE_CFG.RXPOL n, .rw, .any⟩, ⟨Reg.LANE_CFG.PMUL n, .rw, .nat 32 720⟩, ⟨Reg.LANE_CFG.PATTERN n, .rw, .nat 0 2⟩]⟩,
  ⟨0x120004, 16, 0x40, 1, 0x4, fun n _ => [⟨Reg.LANE_STATUS.LOS n, .ro, .any⟩, ⟨Reg.LANE_STATUS.LOL n, .ro, .any⟩, ⟨Reg.LANE_STATUS.CAL_DONE n, .ro, .any⟩, ⟨Reg.LANE_STATUS.LOS_EV n, .w1c, .any⟩, ⟨Reg.LANE_STATUS.LOL_EV n, .w1c, .any⟩, ⟨Reg.LANE_STATUS.CFG_REFUSED n, .w1c, .any⟩, ⟨Reg.LANE_STATUS.SLIP n, .ro, .any⟩]⟩,
  ⟨0x120008, 16, 0x40, 1, 0x4, fun n _ => [⟨Reg.LANE_TXEQ.PRE n, .rw, .any⟩, ⟨Reg.LANE_TXEQ.POST n, .rw, .any⟩, ⟨Reg.LANE_TXEQ.MAIN n, .rw, .any⟩]⟩,
  ⟨0x12000C, 16, 0x40, 1, 0x4, fun n _ => [⟨Reg.LANE_RXEQ.ADAPT n, .rw, .any⟩, ⟨Reg.LANE_RXEQ.CTLE n, .rw, .any⟩, ⟨Reg.LANE_RXEQ.DFE_EN n, .rw, .any⟩]⟩,
  ⟨0x120010, 16, 0x40, 1, 0x4, fun n _ => [⟨Reg.LANE_LOS.THR n, .rw, .nat 8 40⟩]⟩,
  ⟨0x120014, 16, 0x40, 1, 0x4, fun n _ => [⟨Reg.LANE_MARGIN.START n, .ws, .any⟩, ⟨Reg.LANE_MARGIN.HOPEN n, .ro, .any⟩, ⟨Reg.LANE_MARGIN.VOPEN n, .ro, .any⟩]⟩,
  ⟨0x120018, 16, 0x40, 1, 0x4, fun n _ => [⟨Reg.LANE_PRBSCNT.ERR n, .rc, .any⟩]⟩,
  ⟨0x120800, 1, 0x4, 1, 0x4, fun _ _ => [⟨Reg.LANE_GSTATUS.REFCLK0_OK, .ro, .any⟩, ⟨Reg.LANE_GSTATUS.REFCLK1_OK, .ro, .any⟩]⟩]

/-- The registers of the FLX block (13 R298). -/
def regRowsFLX : List RegRow := [
  ⟨0x130000, 16, 0x40, 1, 0x4, fun n _ => [⟨Reg.FLX_CFG.TXGRP n, .rw, .any⟩, ⟨Reg.FLX_CFG.RXGRP n, .rw, .any⟩, ⟨Reg.FLX_CFG.TXEN n, .rw, .any⟩, ⟨Reg.FLX_CFG.RXEN n, .rw, .any⟩]⟩,
  ⟨0x130004, 16, 0x40, 1, 0x4, fun n _ => [⟨Reg.FLX_STATUS.STATE n, .ro, .any⟩, ⟨Reg.FLX_STATUS.MISMATCH n, .ro, .any⟩, ⟨Reg.FLX_STATUS.FAR_LOCKED n, .ro, .any⟩, ⟨Reg.FLX_STATUS.FAR_MULT n, .ro, .any⟩, ⟨Reg.FLX_STATUS.FAR_FAMILY n, .ro, .any⟩, ⟨Reg.FLX_STATUS.FAR_RXLOCK n, .ro, .any⟩, ⟨Reg.FLX_STATUS.LOCKLOST n, .w1c, .any⟩, ⟨Reg.FLX_STATUS.CFG_REFUSED n, .w1c, .any⟩]⟩,
  ⟨0x130008, 16, 0x40, 1, 0x4, fun n _ => [⟨Reg.FLX_PHASE.RXPH n, .ro, .any⟩, ⟨Reg.FLX_PHASE.SIXTEENTH n, .ro, .any⟩]⟩,
  ⟨0x13000C, 16, 0x40, 1, 0x4, fun n _ => [⟨Reg.FLX_CNT_0.SLIP n, .rc, .any⟩, ⟨Reg.FLX_CNT_0.FCRC n, .rc, .any⟩]⟩,
  ⟨0x130010, 16, 0x40, 1, 0x4, fun n _ => [⟨Reg.FLX_CNT_1.MARKER n, .rc, .any⟩, ⟨Reg.FLX_CNT_1.CELLERR n, .rc, .any⟩]⟩,
  ⟨0x130014, 16, 0x40, 1, 0x4, fun n _ => [⟨Reg.FLX_CC_CTRL.EN n, .rw, .any⟩, ⟨Reg.FLX_CC_CTRL.TXSIZE n, .rw, .zeroOr 16 4095⟩, ⟨Reg.FLX_CC_CTRL.RXSIZE n, .rw, .zeroOr 16 4095⟩, ⟨Reg.FLX_CC_CTRL.IRQ_EN n, .rw, .any⟩]⟩,
  ⟨0x130018, 16, 0x40, 1, 0x4, fun n _ => [⟨Reg.FLX_CC_TXRING.BASE n, .rw, .ram 16⟩]⟩,
  ⟨0x13001C, 16, 0x40, 1, 0x4, fun n _ => [⟨Reg.FLX_CC_RXRING.BASE n, .rw, .ram 16⟩]⟩,
  ⟨0x130020, 16, 0x40, 1, 0x4, fun n _ => [⟨Reg.FLX_CC_PTR.TXTAIL n, .rw, .any⟩, ⟨Reg.FLX_CC_PTR.RXTAIL n, .rw, .any⟩]⟩,
  ⟨0x130024, 16, 0x40, 1, 0x4, fun n _ => [⟨Reg.FLX_CC_CRED.AVAIL n, .ro, .any⟩, ⟨Reg.FLX_CC_CRED.TXHEAD n, .ro, .any⟩]⟩]

/-- The registers of the TTH block (14 R328). -/
def regRowsTTH : List RegRow := [
  ⟨0x140000, 1, 0x4, 1, 0x4, fun _ _ => [⟨Reg.TTH_CTRL.SWAP, .ws, .any⟩, ⟨Reg.TTH_CTRL.DEGRADED_EN, .rw, .any⟩, ⟨Reg.TTH_CTRL.RESEND, .rw, .any⟩, ⟨Reg.TTH_CTRL.TWIN_FOLLOW, .rw, .any⟩, ⟨Reg.TTH_CTRL.PAIR_WAIT, .rw, .nat 100 10000⟩, ⟨Reg.TTH_CTRL.MIRROR, .ro, .any⟩]⟩,
  ⟨0x140004, 1, 0x4, 1, 0x4, fun _ _ => [⟨Reg.TTH_STATUS.STATE, .ro, .any⟩, ⟨Reg.TTH_STATUS.PEER_STATE, .ro, .any⟩, ⟨Reg.TTH_STATUS.TETHER_UP, .ro, .any⟩, ⟨Reg.TTH_STATUS.PEER_ACTIVE, .ro, .any⟩, ⟨Reg.TTH_STATUS.PEER_FAIL, .ro, .any⟩, ⟨Reg.TTH_STATUS.SIDE, .ro, .any⟩, ⟨Reg.TTH_STATUS.PREARM, .ro, .any⟩, ⟨Reg.TTH_STATUS.MISMATCH, .w1c, .any⟩, ⟨Reg.TTH_STATUS.REASON, .ro, .any⟩, ⟨Reg.TTH_STATUS.SWAP_REF, .w1c, .any⟩]⟩,
  ⟨0x140008, 1, 0x4, 1, 0x4, fun _ _ => [⟨Reg.TTH_LOG.FREE, .ro, .any⟩, ⟨Reg.TTH_LOG.FULL_ERR, .w1c, .any⟩, ⟨Reg.TTH_LOG.STBY_WR, .w1c, .any⟩, ⟨Reg.TTH_LOG.LOST, .rc, .any⟩]⟩,
  ⟨0x14000C, 1, 0x4, 1, 0x4, fun _ _ => [⟨Reg.TTH_DIGEST.MISMATCH, .rc, .any⟩, ⟨Reg.TTH_DIGEST.RUN, .ro, .any⟩, ⟨Reg.TTH_DIGEST.SWEEP, .rc, .any⟩]⟩,
  ⟨0x140010, 1, 0x4, 1, 0x4, fun _ _ => [⟨Reg.TTH_RESYNC.STEP, .ro, .any⟩, ⟨Reg.TTH_RESYNC.PERCENT, .ro, .any⟩]⟩,
  ⟨0x140014, 1, 0x4, 1, 0x4, fun _ _ => [⟨Reg.TTH_RESYNC_POS.POSITION, .ro, .any⟩]⟩,
  ⟨0x140018, 1, 0x4, 1, 0x4, fun _ _ => [⟨Reg.TTH_CONV.W, .ro, .any⟩]⟩,
  ⟨0x14001C, 1, 0x4, 1, 0x4, fun _ _ => [⟨Reg.TTH_DELAY.DELAY, .ro, .any⟩]⟩,
  ⟨0x140020, 1, 0x4, 1, 0x4, fun _ _ => [⟨Reg.TTH_HEALTH_0.SBE, .ro, .any⟩, ⟨Reg.TTH_HEALTH_0.DBE, .ro, .any⟩, ⟨Reg.TTH_HEALTH_0.PATFAIL, .ro, .any⟩]⟩,
  ⟨0x140024, 1, 0x4, 1, 0x4, fun _ _ => [⟨Reg.TTH_HEALTH_1.HOPEN, .ro, .any⟩, ⟨Reg.TTH_HEALTH_1.VOPEN, .ro, .any⟩, ⟨Reg.TTH_HEALTH_1.VMIN, .ro, .any⟩]⟩,
  ⟨0x140028, 1, 0x4, 1, 0x4, fun _ _ => [⟨Reg.TTH_CNT.TAKEOVERS, .rc, .any⟩, ⟨Reg.TTH_CNT.SPLITS, .rc, .any⟩, ⟨Reg.TTH_CNT.HBLOSS, .rc, .any⟩, ⟨Reg.TTH_CNT.RESYNCS, .rc, .any⟩]⟩,
  ⟨0x14002C, 1, 0x4, 1, 0x4, fun _ _ => [⟨Reg.TTH_TAKE_LO.TICK, .ro, .any⟩]⟩,
  ⟨0x140030, 1, 0x4, 1, 0x4, fun _ _ => [⟨Reg.TTH_TAKE_HI.TICK, .ro, .any⟩]⟩]

/-- The registers of the BOOT block (17 R401). -/
def regRowsBOOT : List RegRow := [
  ⟨0x150000, 1, 0x4, 1, 0x4, fun _ _ => [⟨Reg.BOOT_STATUS.SEL, .ro, .any⟩, ⟨Reg.BOOT_STATUS.SLOT, .ro, .any⟩, ⟨Reg.BOOT_STATUS.FALLBACK, .ro, .any⟩, ⟨Reg.BOOT_STATUS.UNSIGNED, .ro, .any⟩, ⟨Reg.BOOT_STATUS.FLASH_1S, .ro, .any⟩, ⟨Reg.BOOT_STATUS.HASH_MATCH, .ro, .any⟩, ⟨Reg.BOOT_STATUS.STRAP_BAD, .ro, .any⟩, ⟨Reg.BOOT_STATUS.REASON_A, .ro, .any⟩, ⟨Reg.BOOT_STATUS.REASON_B, .ro, .any⟩, ⟨Reg.BOOT_STATUS.NOIMG, .ro, .any⟩, ⟨Reg.BOOT_STATUS.WARMFAIL, .ro, .any⟩]⟩,
  ⟨0x150004, 1, 0x4, 1, 0x4, fun _ _ => [⟨Reg.BOOT_CTRL.RUN, .ws, .any⟩, ⟨Reg.BOOT_CTRL.HOSTGO, .ws, .any⟩, ⟨Reg.BOOT_CTRL.WARMBIST, .rw, .any⟩]⟩,
  ⟨0x150008, 1, 0x4, 1, 0x4, fun _ _ => [⟨Reg.BOOT_HOSTIMG.LEN, .rw, .nat 0 33554432⟩]⟩,
  ⟨0x15000C, 1, 0x4, 1, 0x4, fun _ _ => [⟨Reg.BOOT_VER.VERSION, .ro, .any⟩]⟩,
  ⟨0x150010, 1, 0x4, 1, 0x4, fun _ _ => [⟨Reg.BOOT_BIST.MEMID, .ro, .any⟩, ⟨Reg.BOOT_BIST.VALID, .ro, .any⟩]⟩,
  ⟨0x150020, 8, 0x4, 1, 0x4, fun i _ => [⟨Reg.BOOT_HASH.HASH i, .ro, .any⟩]⟩]

/-- The registers of the HOST block (17 R401). -/
def regRowsHOST : List RegRow := [
  ⟨0x160000, 1, 0x4, 1, 0x4, fun _ _ => [⟨Reg.HOST_WIN.SEL, .rw, .any⟩]⟩,
  ⟨0x160004, 1, 0x4, 1, 0x4, fun _ _ => [⟨Reg.HOST_STATUS.LINKUP, .ro, .any⟩, ⟨Reg.HOST_STATUS.WIDTH, .ro, .any⟩, ⟨Reg.HOST_STATUS.SPEED, .ro, .any⟩, ⟨Reg.HOST_STATUS.WIDTH_ERR, .w1c, .any⟩, ⟨Reg.HOST_STATUS.SPI_ERR, .w1c, .any⟩]⟩,
  ⟨0x160008, 1, 0x4, 1, 0x4, fun _ _ => [⟨Reg.HOST_PCI_ID.VENDOR, .ro, .any⟩, ⟨Reg.HOST_PCI_ID.DEVICE, .ro, .any⟩]⟩,
  ⟨0x160010, 2, 0x4, 1, 0x4, fun i _ => [⟨Reg.HOST_IRQ_PEND.PEND i, .ro, .any⟩]⟩,
  ⟨0x160018, 2, 0x4, 1, 0x4, fun i _ => [⟨Reg.HOST_IRQ_EN.EN i, .rw, .any⟩]⟩,
  ⟨0x160020, 1, 0x4, 1, 0x4, fun _ _ => [⟨Reg.HOST_PEL_CNT.AUTH, .rc, .any⟩, ⟨Reg.HOST_PEL_CNT.REPLAY, .rc, .any⟩]⟩]

/-- The register index of a block, by the block's number: its byte offset divided by 0x1_0000 (R402). -/
def regRowsOf (block : Nat) : List RegRow :=
  match block with
  | 0 => regRowsCHIP
  | 1 => regRowsCLK
  | 2 => regRowsREF
  | 3 => regRowsTIME
  | 4 => regRowsFLT
  | 5 => regRowsPWR
  | 6 => regRowsFAB
  | 7 => regRowsDMA
  | 8 => regRowsSTR
  | 9 => regRowsENG
  | 10 => regRowsMTX
  | 11 => regRowsEGR
  | 12 => regRowsSAP
  | 13 => regRowsAES
  | 14 => regRowsDEC
  | 15 => regRowsAMP
  | 16 => regRowsMAC
  | 17 => regRowsNET
  | 18 => regRowsLANE
  | 19 => regRowsFLX
  | 20 => regRowsTTH
  | 21 => regRowsBOOT
  | 22 => regRowsHOST
  | _ => []

end Sys2Proof.Machine
end

