-- ==== Sys2Proof/Machine/Ops.lean ====
section
/-! DEFINITION. The named operations over the state: register fields, fault events, addressed memory and
damaged words. -/

namespace Sys2Proof.Machine

/-! ### Outcomes -/

/-- A command that ends in a next state. -/
abbrev Out := Host.Outcome State Fault Refusal

/-- A command of the core: while the chip is held in reset it changes nothing (08 R161, 16 R369). -/
def core (f : State → State) (s : State) : Out := .next (if s.held then s else f s)

/-- A command of a unit that runs on clocks derived from RCLK: while they are stopped, or the chip is held
in reset, it changes nothing (08 R161, R175). -/
def clocked (f : State → State) (s : State) : Out := .next (if s.held || !s.rclk then s else f s)

/-! ### Register fields (00 R5-R8) -/

/-- The key of a field in the register file. -/
def FieldRef.key (f : FieldRef) : Nat := f.addr * 32 + f.lo

/-- The value of a field. -/
def State.rd (s : State) (f : FieldRef) : Nat := sget f.reset f.key s.regs

/-- Setting a field, kept to its width. -/
def State.wr (s : State) (f : FieldRef) (v : Nat) : State :=
  { s with regs := sset f.reset f.key (v % 2 ^ f.width) s.regs }

/-- A one-bit field as a Bool. -/
def State.on (s : State) (f : FieldRef) : Bool := decide (s.rd f = 1)

/-- Setting a one-bit field. -/
def State.put (s : State) (f : FieldRef) (b : Bool) : State := s.wr f b.toNat

/-- A count that saturates at the field's largest value. -/
def State.bump (s : State) (f : FieldRef) (n : Nat) : State :=
  s.wr f (min (s.rd f + n) (2 ^ f.width - 1))

/-- A field back at its reset value. -/
def State.toReset (s : State) (f : FieldRef) : State := s.wr f f.reset

/-! ### Fault events (16 R358) -/

/-- A source raises an event, which reaches the collector. Reserved numbers are never raised (R359). -/
def State.raise (s : State) (n : Nat) : State :=
  if faultListed n then { s with flt := { s.flt with arriving := s.flt.arriving ++ [n] } } else s

/-- A refused input of the control path (01 R19, 00 R435). -/
def State.refused (s : State) : State := s.raise Src.CTL_REFUSED

/-! ### Rate multiple and tick geometry (01 R12, 05 R113) -/

/-- The live rate multiple as a power: 0 for 1×, 1 for 2×, 2 for 4×. -/
def State.mult (s : State) : Nat := s.rd Reg.CLK_STATUS.MULT

/-- ECLK cycles per tick at a rate multiple (R12). -/
def eclkPerTick (m : Nat) : Nat := if m = 0 then 25600 else if m = 1 then 12800 else 6400

/-- The first cycle of the exchange window, D (R12, R113). -/
def windowStart (m : Nat) : Nat := eclkPerTick m - 192

/-! ### Addressed memory (15 R331) -/

/-- The byte at a fabric address. -/
def State.byte (s : State) (a : Nat) : Byte := sget 0 a s.mem

/-- Writing one byte. -/
def State.setByte (s : State) (a : Nat) (b : Byte) : State := { s with mem := sset 0 a b s.mem }

/-- `n` bytes as a number, the byte at the lowest address least significant (00 R5). -/
def State.load (s : State) (a : Nat) : Nat → Nat
  | 0 => 0
  | n + 1 => (s.byte a).toNat + 256 * State.load s (a + 1) n

/-- Writing `n` bytes of a number. -/
def State.store (s : State) (a : Nat) : Nat → Nat → State
  | 0, _ => s
  | n + 1, v => State.store (s.setByte a (BitVec.ofNat 8 (v % 256))) (a + 1) n (v / 256)

/-- A list of bytes written from an address on. -/
def State.storeBytes (s : State) (a : Nat) : List Byte → State
  | [] => s
  | b :: r => State.storeBytes (s.setByte a b) (a + 1) r

/-- The bytes from `lo` up to `hi` (not included) written as 0. -/
def State.zeroBytes (s : State) (lo hi : Nat) : State :=
  { s with mem := s.mem.filter fun p => decide (p.1 < lo ∨ hi ≤ p.1) }

/-- `n` bytes read from an address on. -/
def State.loadBytes (s : State) (a : Nat) : Nat → List Byte
  | 0 => []
  | n + 1 => s.byte a :: State.loadBytes s (a + 1) n

/-- Base of the coil pool. -/
def coilBase : Nat := 0x10000000

/-- Base of the working RAM. -/
def ramBase : Nat := 0x00200000

/-- An address of working RAM: the boot region reads it too for M1-M5 (15 R332). -/
def ramAddr (a : Nat) : Nat := if a < 0x100000 then ramBase + a else a

/-- Base of an engine's window (03 R63). -/
def engineBase (e : Nat) : Nat := 0x20000000 + e * 0x100000

/-- Fabric address of a word of X or Y memory (R63). -/
def xyAddr (e : Nat) (y : Bool) (a : Nat) : Nat := engineBase e + (if y then 0x40000 else 0) + 4 * a

/-- Fabric address of an instruction (R63). -/
def progAddr (e bank i : Nat) : Nat := engineBase e + 0x80000 + bank * 0x8000 + 8 * i

/-- The stored word of X or Y memory as the engine sees it: X words 0-511 are the live parameter page
(R61); the window's bytes there are the shadow page. -/
def State.xyWord (s : State) (e : Nat) (y : Bool) (a : Nat) : Word :=
  if !y && decide (a < 512) then sget 0 (e * 512 + a) s.livePage
  else BitVec.ofNat 32 (s.load (xyAddr e y a) 4)

/-- Storing a word of X or Y memory from the engine's side. -/
def State.setXyWord (s : State) (e : Nat) (y : Bool) (a : Nat) (v : Word) : State :=
  if !y && decide (a < 512) then { s with livePage := sset 0 (e * 512 + a) v s.livePage }
  else s.store (xyAddr e y a) 4 v.toNat

/-- A word of the shadow parameter page (R61). -/
def State.shadowWord (s : State) (e w : Nat) : Word := BitVec.ofNat 32 (s.load (xyAddr e false w) 4)

/-- An instruction word of a program bank (R63). -/
def State.progWord (s : State) (e bank i : Nat) : IWord := BitVec.ofNat 64 (s.load (progAddr e bank i) 8)

/-- A quad of the coil pool (R69). -/
def State.quad (s : State) (q : Nat) : Quad := BitVec.ofNat 128 (s.load (coilBase + 16 * q) 16)

/-- Writing a quad of the coil pool. -/
def State.setQuad (s : State) (q : Nat) (v : Quad) : State := s.store (coilBase + 16 * q) 16 v.toNat

/-- Word i of a quad (R45). -/
def quadWord (q : Quad) (i : Nat) : Word := q.extractLsb' (32 * i) 32

/-- A quad from its four words. -/
def mkQuad (w0 w1 w2 w3 : Word) : Quad := w3 ++ w2 ++ w1 ++ w0

/-! ### Damaged words -/

/-- The memories whose words can be damaged, as keys of the ECC marks. -/
inductive EccKey where
  | strand (slot : Nat)
  | xy (e : Nat) (y : Bool) (a : Nat)
  | prog (e bank i : Nat)
  | coil (q : Nat)
  | gain (entry : Nat)
  | ram (a : Nat)
deriving DecidableEq, Repr

/-- The number a damaged word is listed under. -/
def EccKey.num : EccKey → Nat
  | .strand n => n
  | .xy e y a => 2 ^ 32 + (e * 2 + y.toNat) * 65536 + a
  | .prog e b i => 2 * 2 ^ 32 + (e * 2 + b) * 4096 + i
  | .coil q => 3 * 2 ^ 32 + q
  | .gain c => 4 * 2 ^ 32 + c
  | .ram a => 5 * 2 ^ 32 + a

/-- The mark of a word, if it is damaged. -/
def State.eccMark (s : State) (k : EccKey) : Option EccMark := sfind k.num s.ecc

/-- A word written anew carries no error. -/
def State.eccClear (s : State) (k : EccKey) : State := { s with ecc := serase k.num s.ecc }

/-- An error that is found enters the HEALTH record (14 R316). -/
def State.healthError (s : State) (double : Bool) : State :=
  let h := s.tth.health
  let h := if double then { h with dbe := min 255 (h.dbe + 1) } else { h with sbe := min 65535 (h.sbe + 1) }
  { s with tth := { s.tth with health := h } }

/-- A word is found damaged; the mark records that it has been counted. -/
def State.eccSee (s : State) (k : EccKey) (m : EccMark) : State :=
  { s.healthError m.double with ecc := sinsert k.num { m with seen := true } s.ecc }

/-- The words under the keys from `lo` up to `hi` (not included) carry no error. -/
def State.eccClearRange (s : State) (lo hi : Nat) : State :=
  { s with ecc := s.ecc.filter fun p => decide (p.1 < lo ∨ hi ≤ p.1) }

/-- Damage to a word. -/
def State.eccHit (s : State) (k : EccKey) (double : Bool) (high : Bool := false) : State :=
  { s with ecc := sinsert k.num ⟨double, false, high⟩ s.ecc }

/-! ### Parts of the state -/

/-- Changing the part `str`. -/
def State.onStr (s : State) (f : StrState → StrState) : State := { s with str := f s.str }

/-- Changing the part `coil`. -/
def State.onCoil (s : State) (f : CoilState → CoilState) : State := { s with coil := f s.coil }

/-- Changing the part `lp`. -/
def State.onLp (s : State) (f : LpState → LpState) : State := { s with lp := f s.lp }

/-- Changing the part `mtx`. -/
def State.onMtx (s : State) (f : MtxState → MtxState) : State := { s with mtx := f s.mtx }

/-- Changing the part `egr`. -/
def State.onEgr (s : State) (f : EgrState → EgrState) : State := { s with egr := f s.egr }

/-- Changing the part `flt`. -/
def State.onFlt (s : State) (f : FltState → FltState) : State := { s with flt := f s.flt }

/-- Changing the part `time`. -/
def State.onTime (s : State) (f : TimeState → TimeState) : State := { s with time := f s.time }

/-- Changing the part `ref`. -/
def State.onRef (s : State) (f : RefState → RefState) : State := { s with ref := f s.ref }

/-- Changing the part `ser`. -/
def State.onSer (s : State) (f : SerState → SerState) : State := { s with ser := f s.ser }

/-- Changing the part `amp`. -/
def State.onAmp (s : State) (f : AmpState → AmpState) : State := { s with amp := f s.amp }

/-- Changing the part `net`. -/
def State.onNet (s : State) (f : NetState → NetState) : State := { s with net := f s.net }

/-- Changing the part `tth`. -/
def State.onTth (s : State) (f : TthState → TthState) : State := { s with tth := f s.tth }

/-! ### The free values -/

/-- The next free value's number, and the state with the counter stepped. -/
def State.nextFree (s : State) : Nat × State := (s.free, { s with free := s.free + 1 })

end Sys2Proof.Machine
end

