-- ==== Sys2Proof/Machine/EngineCore.lean ====
section
/-! DEFINITION. The knot engine: registers, address generation, memory reads with their ECC reactions,
writes in flight, program flow and the issue of one instruction (03 R45-R74, 04 R76-R100). -/

namespace Sys2Proof.Machine

/-! ### State access -/

/-- An engine's own state. -/
def State.engine (s : State) (e : Nat) : Engine := sget {} e s.eng

/-- Replacing an engine's own state. -/
def State.setEngine (s : State) (e : Nat) (x : Engine) : State := { s with eng := sset {} e x s.eng }

/-- The live bank, ENG_LP_STATUS.LIVE (05 R122). -/
def State.liveBank (s : State) : Nat := s.rd Reg.ENG_LP_STATUS.LIVE

/-- The plan of a bank. -/
def State.planOf (s : State) (bank : Nat) : LayPlan := if bank = 0 then s.lp.plan0 else s.lp.plan1

/-- The live lay plan. -/
def State.livePlan (s : State) : LayPlan := s.planOf s.liveBank

/-- What the live plan gives an engine. -/
def State.enginePlan (s : State) (e : Nat) : EnginePlan := sget {} e s.livePlan.engines

/-- The live slot map's entry of a slot (02 R21). -/
def State.slotDef (s : State) (n : Nat) : SlotDef := sget {} n s.livePlan.slots

/-- An engine in STATE RUN. -/
def State.engRuns (s : State) (e : Nat) : Bool := decide (s.rd (Reg.ENG_STATUS.STATE e) = 0)

/-- A D register. -/
def Engine.dreg (x : Engine) (r : Nat) : DReg := sget {} r x.d

/-- The quad of D registers Q (03 R45). -/
def Engine.dquad (x : Engine) (q : Nat) : Quad :=
  mkQuad (x.dreg (4 * q)).val (x.dreg (4 * q + 1)).val (x.dreg (4 * q + 2)).val (x.dreg (4 * q + 3)).val

/-- An accumulator's value in units of 2^-62. -/
def Engine.accVal (x : Engine) (k : Nat) : Int := sval (sget 0 k x.acc)

/-- An AGU register's stored bits, by its code (04 R90). -/
def Engine.aguWord (x : Engine) (c : Nat) : Word := sget 0 c x.agu

/-- A pointer. -/
def Engine.ptr (x : Engine) (n : Nat) : Nat := (x.aguWord n).toNat

/-- A modifier, signed 16 bits. -/
def Engine.modifier (x : Engine) (m : Nat) : Int := ((x.aguWord (8 + m)).setWidth 16).toInt

/-- A scale register, signed 5 bits. -/
def Engine.scale (x : Engine) (k : Nat) : Int := ((x.aguWord (0x20 + k)).setWidth 5).toInt

/-- A dither generator. A state of 0 stands for the seed 1 that 0 loads (03 R54). -/
def Engine.dither (x : Engine) (g : Nat) : Word :=
  if x.aguWord (0x24 + g) = 0 then 1 else x.aguWord (0x24 + g)

/-! ### Address generation (03 R64, R65) -/

/-- The function c of R64, with B and L taken with bits [1:0] as 0 for a quad access (R65). -/
def Engine.circ (x : Engine) (n : Nat) (quad : Bool) (t : Int) : Nat :=
  let b0 := (x.aguWord (0x10 + n)).toNat
  let l0 := (x.aguWord (0x18 + n)).toNat
  let b : Int := if quad then b0 - b0 % 4 else b0
  let l : Int := if quad then l0 - l0 % 4 else l0
  let t := if l = 0 then t else if b + l ≤ t then t - l else if t < b then t + l else t
  (t % 65536).toNat

/-- The address an access uses, and the pointer's new value if the form updates it (R64, 04 R84). -/
def Engine.access (x : Engine) (a : AddrSpec) (quad : Bool) : Nat × Option Nat :=
  let n := a.ptr.toNat
  let p := x.ptr n
  let m := x.modifier (a.step.toNat % 8)
  match a.mode with
  | .posti => (p, some (x.circ n quad (p + a.step.toInt)))
  | .postm => (p, some (x.circ n quad (p + m)))
  | .index => (x.circ n quad (p + m), none)

/-- The four addresses of a quad access at an address (R65). -/
def Engine.quadAddrs (x : Engine) (n : Nat) (a : Nat) : List Nat :=
  [x.circ n true a, x.circ n true (a + 1 : Nat), x.circ n true (a + 2 : Nat), x.circ n true (a + 3 : Nat)]

/-! ### Writes in flight (04 R78-R81) -/

/-- A sticky clear goes before every other write of its cycle, so that a set in the same cycle wins (R80);
any other write goes after the writes of its cycle, so that the later-issued one is kept. -/
def insertFly (f : InFlight) : List InFlight → List InFlight
  | [] => [f]
  | g :: r =>
    match f.w with
    | .stickyClear _ _ => if f.due ≤ g.due then f :: g :: r else g :: insertFly f r
    | _ => if f.due < g.due then f :: g :: r else g :: insertFly f r

/-- Putting a write in flight: latency `l` from the cycle of issue. -/
def State.fly (s : State) (e : Nat) (l : Nat) (w : FlyWrite) : State :=
  let x := s.engine e
  s.setEngine e { x with fly := insertFly ⟨x.cyc + l - 1, w⟩ x.fly }

/-- The stored bits of an AGU register for a value written to it (R90). -/
def aguStored (c : Nat) (v : Word) : Word :=
  if c < 0x20 then v &&& 0xFFFF#32
  else if c < 0x24 then v &&& 0x1F#32
  else if v = 0 then 1 else v

/-- The exact value of an accumulator update (03 R50, 04 R87). -/
def accExact (x : Engine) (u : AccUpd) : Int :=
  let a := x.accVal u.k
  match u.fn with
  | .load v => v
  | .plus v => a + v
  | .minus v => a - v
  | .clear => 0
  | .copy j => x.accVal j
  | .addAcc j => a + x.accVal j
  | .subAcc j => a - x.accVal j
  | .neg => -a
  | .abs => if a < 0 then -a else a
  | .shift n => shiftFloor a n

/-- The accumulator updates of one instruction, each saturated once (R50); the second component says
whether any saturated. -/
def accUpdates (x : Engine) : List AccUpd → Engine × Bool
  | [] => (x, false)
  | u :: r =>
    let v := accExact x u
    let t := satBits 80 v
    let (y, ov) := accUpdates { x with acc := sset 0 u.k (code 80 t) x.acc } r
    (y, ov || decide (t ≠ v))

/-- SSAT or SAOV being set also sets SAT_SEEN and AOV_SEEN (03 R58). -/
def State.setSticky (s : State) (e : Nat) (ssat saov : Bool) : State :=
  let x := s.engine e
  let s := s.setEngine e { x with flags := { x.flags with ssat := x.flags.ssat || ssat, saov := x.flags.saov || saov } }
  let s := if ssat then s.put (Reg.ENG_STATUS.SAT_SEEN e) true else s
  if saov then s.put (Reg.ENG_STATUS.AOV_SEEN e) true else s

/-- A write in flight completes. -/
def State.complete (s : State) (e : Nat) (w : FlyWrite) : State :=
  let x := s.engine e
  match w with
  | .dreg r v t => s.setEngine e { x with d := sset {} r ⟨v, t⟩ x.d }
  | .dtag r t => s.setEngine e { x with d := sset {} r ⟨(x.dreg r).val, t⟩ x.d }
  | .agu c v => s.setEngine e { x with agu := sset 0 c (aguStored c v) x.agu }
  | .zn z n => s.setEngine e { x with flags := { x.flags with z := z, n := n } }
  | .z z => s.setEngine e { x with flags := { x.flags with z := z } }
  | .sat b => s.setEngine e { x with flags := { x.flags with sat := b } }
  | .aov b => s.setEngine e { x with flags := { x.flags with aov := b } }
  | .stickySet a b => s.setSticky e a b
  | .stickyClear a b =>
    s.setEngine e { x with flags := { x.flags with ssat := x.flags.ssat && !a, saov := x.flags.saov && !b } }
  | .acc l =>
    let (y, ov) := accUpdates x l
    (s.setEngine e { y with flags := { y.flags with aov := ov } }).setSticky e false ov

/-! ### Block reset and reload (05 R121) -/

/-- An engine after a block reset: every register 0, each dither generator at its seed (03 R45). -/
def resetEngine (old : Engine) (p : EnginePlan) : Engine :=
  { agu := sset 0 0x25 (aguStored 0x25 p.seed1) (sset 0 0x24 (aguStored 0x24 p.seed0) []),
    pcommit := old.pcommit, copying := old.copying }

/-- Steps 1 and 2 of R121: block reset, STATE RELOAD. An EMPTY engine has nothing to reload. The engine's coil
accesses in flight end with its block reset and reach no bank: DESIGN CHOICE (log 40). -/
def State.startReload (s : State) (e : Nat) : State :=
  if s.rd (Reg.ENG_STATUS.STATE e) = 2 then s
  else
    ((s.setEngine e (resetEngine (s.engine e) (s.enginePlan e))).wr (Reg.ENG_STATUS.STATE e) 1).onCoil fun c =>
      { c with inFlight := c.inFlight.filter fun a => decide (a.engine ≠ e) }

/-! ### Reads of X, Y and program memory with their ECC (03 R60, R72, R73) -/

/-- Whether the live plan marks a word of X or Y constant (R72). -/
def State.isConst (s : State) (e : Nat) (y : Bool) (a : Nat) : Bool :=
  (s.enginePlan e).consts.any fun c =>
    decide (c.region.mem = if y then .y else .x) && decide (c.region.lo ≤ a) && decide (a ≤ c.region.hi)

/-- ENG_eee_DBE_ADDR names a double-bit error (R75). -/
def State.nameDbe (s : State) (e addr mem : Nat) (const : Bool) : State :=
  (((s.wr (Reg.ENG_DBE_ADDR.ADDR e) addr).wr (Reg.ENG_DBE_ADDR.MEM e) mem).put
    (Reg.ENG_DBE_ADDR.CONST e) const).put (Reg.ENG_DBE_ADDR.VALID e) true

/-- A double-bit error is recorded and counted (R75). -/
def State.noteDbe (s : State) (e addr mem : Nat) (const : Bool) : State :=
  (s.nameDbe e addr mem const).bump (Reg.ENG_ECC.DBE e) 1

/-- An engine's data of the tick is in error: its slots of the tick are substituted, and DERR says so (R73). -/
def State.markDerr (s : State) (e : Nat) : State :=
  let x := s.engine e
  (s.setEngine e { x with derr := true }).put (Reg.ENG_STATUS.DERR e) true

/-- A double-bit error in data reaches the engine (R73). -/
def State.dataError (s : State) (e : Nat) : State :=
  (s.markDerr e).raise Src.ENG_DERR

/-- A double-bit error in live program memory or a constant region: PERR, block reset and reload (R72). -/
def State.programError (s : State) (e : Nat) : State :=
  ((s.put (Reg.ENG_STATUS.PERR e) true).raise Src.ENG_PERR).startReload e

/-- Reading one word of X or Y memory from the engine's side. -/
def State.readXY (s : State) (e : Nat) (y : Bool) (a : Nat) : Word × State :=
  if 49152 ≤ a then (0, s.put (Reg.ENG_STATUS.ADDR_ERR e) true)
  else
    let k := EccKey.xy e y a
    match s.eccMark k with
    | none => (s.xyWord e y a, s)
    | some m =>
      if m.double then
        if m.seen then (0, s)
        else
          let s := (s.eccSee k m).noteDbe e a y.toNat (s.isConst e y a)
          (0, if s.isConst e y a then s.programError e else s.dataError e)
      else
        (s.xyWord e y a, if m.seen then s else (s.eccSee k m).bump (Reg.ENG_ECC.SBE e) 1)

/-- Reading a list of words. -/
def State.readWords (s : State) (e : Nat) (y : Bool) : List Nat → List Word × State
  | [] => ([], s)
  | a :: r =>
    let (w, s) := s.readXY e y a
    let (ws, s) := State.readWords s e y r
    (w :: ws, s)

/-- Four words as a quad. -/
def quadOf (l : List Word) : Quad := mkQuad (l.getD 0 0) (l.getD 1 0) (l.getD 2 0) (l.getD 3 0)

/-- Whether a coil delivery uses the write port of X or Y in the engine's present cycle (04 R82). -/
def State.portTaken (s : State) (e : Nat) (y : Bool) : Bool :=
  s.coil.inFlight.any fun c =>
    decide (c.engine = e) && decide (c.issued + 47 = (s.engine e).cyc) &&
      (match c.move with
       | .read (.mem y' _) => decide (y' = y)
       | _ => false)

/-- Storing words from the engine's side (R60): a word beyond the memory is discarded. -/
def State.writeWords (s : State) (e : Nat) (y : Bool) : List (Nat × Word) → State
  | [] => s
  | (a, v) :: r =>
    let s := if 49152 ≤ a then s.put (Reg.ENG_STATUS.ADDR_ERR e) true
             else (s.setXyWord e y a v).eccClear (.xy e y a)
    State.writeWords s e y r

/-- A store instruction: discarded whole when a coil delivery takes the port (04 R82). -/
def State.storeWords (s : State) (e : Nat) (y : Bool) (l : List (Nat × Word)) : State :=
  if s.portTaken e y then s.put (Reg.ENG_EXC.PORT_CONFLICT e) true else s.writeWords e y l

/-- The instruction word the engine executes at an address of the live bank; none when it holds an
uncorrectable error, which starts a reload (R72). -/
def State.fetch (s : State) (e : Nat) (pc : Nat) : Option IWord × State :=
  let k := EccKey.prog e s.liveBank pc
  match s.eccMark k with
  | none => (some (s.progWord e s.liveBank pc), s)
  | some m =>
    if m.double then
      (none, if m.seen then s else ((s.eccSee k m).noteDbe e (s.liveBank * 4096 + pc) 2 false).programError e)
    else
      (some (s.progWord e s.liveBank pc), if m.seen then s else (s.eccSee k m).bump (Reg.ENG_ECC.SBE e) 1)

/-! ### Program flow (04 R94-R99) -/

/-- The check at an instruction that is the END of active levels, innermost first (R96): the address
that issues next and the levels left. -/
def loopEnd (pc : Nat) : List LoopLevel → Nat × List LoopLevel
  | [] => ((pc + 1) % 4096, [])
  | l :: r =>
    if l.last = pc then
      if 1 < l.remaining then (l.first, { l with remaining := l.remaining - 1 } :: r) else loopEnd pc r
    else
      let (p, r') := loopEnd pc r
      (p, l :: r')

/-- The two delay slots after a branch (R95): the first, the second, then the target. -/
def slotNext (pc : Nat) (d : DelaySlots) : Nat × Option DelaySlots :=
  if d.left ≤ 1 then (d.target, none) else ((pc + 1) % 4096, some { d with left := d.left - 1 })

/-- A loop instruction with its count known (R96, R97). -/
def Engine.openLoop (x : Engine) (last count : Nat) : Engine :=
  if count = 0 then { x with pc := (last + 1) % 4096, cyc := x.cyc + 3 }
  else
    { x with loops := ⟨(x.pc + 1) % 4096, last, count⟩ :: x.loops, pc := (x.pc + 1) % 4096, cyc := x.cyc + 1 }

/-- Where issue goes after an instruction (R94-R99). A BRK that is itself the END of a level that stays open makes
no END check, since R97 has issue continue at BRK's address + 1: DESIGN CHOICE (log 61). -/
def Engine.next (x : Engine) (o : EngOp) : Engine :=
  let step := { x with pc := (x.pc + 1) % 4096, cyc := x.cyc + 1 }
  match o with
  | .wait => { x with issuing := false, loops := [], slots := none, waitCyc := some x.cyc, cyc := x.cyc + 1 }
  | .brk => { step with loops := x.loops.tail }
  | .bra t => { step with slots := some ⟨2, t.toNat⟩ }
  | .bcc c t =>
    { step with slots := some ⟨2, if condHolds x.flags c.toNat then t.toNat else (x.pc + 3) % 4096⟩ }
  | .loop last n => x.openLoop last.toNat n.toNat
  | .loopr last d => x.openLoop last.toNat ((x.dreg d.toNat).val.toNat % 65536)
  | _ =>
    match x.slots with
    | some d =>
      let (p, sl) := slotNext x.pc d
      { step with pc := p, slots := sl }
    | none =>
      let (p, ls) := loopEnd x.pc x.loops
      { step with pc := p, loops := ls }

/-- The instructions that may not stand in a delay slot (R77 cause 4). -/
def isFlow : EngOp → Bool
  | .wait => true
  | .bra _ => true
  | .bcc _ _ => true
  | .loop _ _ => true
  | .loopr _ _ => true
  | .brk => true
  | _ => false

/-- Cause 6 of R77 for a loop with a given END and count. -/
def Engine.badLoop (x : Engine) (last count : Nat) : Bool :=
  decide (last ≤ x.pc) || x.loops.any (fun l => decide (l.last < last)) ||
    (decide (count ≠ 0) && decide (3 ≤ x.loops.length))

/-- The lowest cause of R77 that depends on where the instruction stands (4, 5 or 6). -/
def Engine.flowFault (x : Engine) (o : EngOp) : Option Nat :=
  if isFlow o && x.slots.isSome then some 4
  else
    let near := x.loops.any fun l => decide (x.pc ≤ l.last) && decide (l.last ≤ x.pc + 2)
    match o with
    | .bra _ => if near then some 5 else none
    | .bcc _ _ => if near then some 5 else none
    | .loop last n => if x.badLoop last.toNat n.toNat then some 6 else none
    | .loopr last d => if x.badLoop last.toNat ((x.dreg d.toNat).val.toNat % 65536) then some 6 else none
    | _ => none

/-- What the engine makes of the word it has fetched, where it stands (R76, R77). -/
def Engine.decode (x : Engine) (w : IWord) : EngDecoded :=
  match decodeEng w with
  | .op o =>
    match x.flowFault o with
    | some c => .illegal c
    | none => .op o
  | .illegal c => .illegal c

/-! ### Strand access (03 R66-R68, 02 R22) -/

/-- A slot of the current bank. -/
def State.curSlot (s : State) (n : Nat) : Slot := sget {} n s.str.cur

/-- Reading a slot of the current bank: a double-bit error reads as 0, SUBSTITUTED, and is counted at the
first read that finds it; a single-bit error is corrected and counted (02 R22). -/
def State.readSlot (s : State) (n : Nat) : Slot × State :=
  match s.eccMark (.strand n) with
  | none => (s.curSlot n, s)
  | some m =>
    if m.double then
      (⟨0, 0b0010, false⟩,
        if m.seen then s
        else ((s.eccSee (.strand n) m).put Reg.STR_STATUS.ECC_DBE true).raise Src.STR_ECC)
    else (s.curSlot n, if m.seen then s
      else { s.eccSee (.strand n) m with str := { s.str with sbe := s.str.sbe + 1 } })

/-- The ramp of a slot that governs a tick: the latest that has begun. -/
def rampAt (l : List SlotRamp) (t : Nat) : Option SlotRamp := l.find? fun r => decide (r.first ≤ t)

/-- The gain a slot's store ramp gives the sample written in a tick, as numerator and denominator (05 R118). -/
def rampGain (r : SlotRamp) (t : Nat) : Option (Int × Nat) :=
  if r.len = 0 then none
  else if r.up then
    if r.first ≤ t ∧ t < r.first + r.len then some ((t : Int) - r.first + 1, r.len) else none
  else if r.first ≤ t ∧ t < r.first + r.len then some ((r.first : Int) + r.len - 1 - t, r.len) else none

/-- The word of a slot of the current bank, its error corrected or 0 with SUBSTITUTED (02 R22), with no count. -/
def State.peekSlot (s : State) (n : Nat) : Slot :=
  match s.eccMark (.strand n) with
  | some m => if m.double then ⟨0, 0b0010, false⟩ else s.curSlot n
  | none => s.curSlot n

/-- What a knot's output carries in bypass: its bypass input as it was HOPS + DELAY ticks before the tick in which the
output is read (05 R103, R104). None: the output names no input. -/
def State.bypassed (s : State) (k : Knot) (slot : Nat) : Option Slot :=
  (((k.outputs.zip k.bypIn).find? fun p => decide (p.1 = slot)).bind fun p => k.inputs[p.2]?).map fun n =>
    let back := k.hops + k.delay
    if back ≤ 1 then s.peekSlot n else (sget [] n s.lp.past).getD (back - 2) {}

/-- A knot's output with its bypass (05 R104): the processed word, the bypass word, or in the crossfade of 64 ticks the
linear mix of the two, with both tags and MUTING. -/
def State.bypassOut (s : State) (slot : Nat) (w : Word × Tag) (k : Knot) : Word × Tag :=
  match k.bypass, s.bypassed k slot with
  | some b, some y =>
    match sfind k.kid s.lp.xfade with
    | some x =>
      let j : Int := 65 - x.left
      let j := if x.bypassed then j else 64 - j
      (s31 (sval w.1 * (64 - j) + sval y.sample * j) 64, w.2 ||| y.tag ||| 0b1000)
    | none => if s.xyWord b.1 false b.2 = 0 then w else (y.sample, y.tag)
  | _, _ => w

/-- The knots of the live plan that have a bypass and name an output slot, the deepest first: a composite's bypass
acts on what its children give (05 R104). -/
def State.bypassKnots (s : State) (slot : Nat) : List Knot :=
  sortBy (fun a b => decide (b.depth ≤ a.depth)) (s.livePlan.knots.filter fun k => k.bypass.isSome && k.outputs.contains slot)

/-- A strand write lands in the next bank: the bypass of its knots, then the ramp where the store ramps the slot
(05 R104, R118). -/
def State.landStrand (s : State) (e : Nat) (w : StrandWrite) : State :=
  let d := s.slotDef w.slot
  if d.cls = .engine ∧ d.engine = e then
    let (v, t) := (s.bypassKnots w.slot).foldl (s.bypassOut w.slot) (w.sample, w.tag)
    let (v, t) := match rampAt (sget [] w.slot s.lp.ramps) s.tick with
      | none => (v, t)
      | some r =>
        match rampGain r s.tick with
        | none => (v, t)
        | some (num, den) => (scaleSample v num den, t ||| 0b1000)
    { s with str := { s.str with
        nxt := sset {} w.slot ⟨v, t, true⟩ s.str.nxt
        fresh := sset 0 w.slot (e + 1) s.str.fresh } }
  else s.put (Reg.ENG_STATUS.SWR_REFUSED e) true

/-- One drain of an engine's strand write queue (R67). -/
def State.drain (s : State) (e : Nat) : State :=
  let x := s.engine e
  match x.queue with
  | [] => s
  | w :: r => (s.setEngine e { x with queue := r }).landStrand e w

/-- The drain of an engine's present cycle, once (R67). -/
def State.drainCycle (s : State) (e : Nat) : State :=
  let x := s.engine e
  if x.cyc % 16 = e % 16 ∧ x.lastDrain ≠ some x.cyc then
    (s.setEngine e { x with lastDrain := some x.cyc }).drain e
  else s

/-! ### Coil accesses (03 R69-R72) -/

/-- The engine's descriptor in the live bank. -/
def State.csd (s : State) (e n : Nat) : Option CoilSlot := sfind n (s.enginePlan e).csd

/-- The quad address of an access (R69). -/
def coilQuad (c : CoilSlot) (i : Nat) : Nat := (c.base + i % c.len) % 4194304

/-- Whether the plan schedules an access in a cycle of a tick (R70, R71, 05 R110). -/
def coilScheduled (c : CoilSlot) (cyc tick : Nat) : Bool :=
  decide (cyc % 2 = 0) && c.cycles.contains cyc && c.phases.getLsbD (tick % 4)

/-- A quad that lies in the coils of the reserved copy (R71, 05 R120): 256 quads to a coil. -/
def State.quadReserved (s : State) (q : Nat) : Bool :=
  let base := s.rd Reg.ENG_RES.BASE
  decide (256 * base ≤ q) && decide (q < 256 * (base + s.rd Reg.ENG_RES.COUNT))

/-- The pool bank of a quad (R69). -/
def coilBank (q : Nat) : Nat := (16 * q / 256) % 8

/-- Issuing a coil access (R70, R71). -/
def State.issueCoil (s : State) (e csd i : Nat) (mv : CoilMove) : State :=
  let x := s.engine e
  let (quad, ok) := match s.csd e csd with
    | none => (0, false)
    | some c =>
      let q := coilQuad c i
      let wr := match mv with | .write _ => true | .read _ => false
      (q, coilScheduled c x.cyc s.tick && !(wr && s.quadReserved q))
  { s with coil := { s.coil with inFlight := s.coil.inFlight ++ [⟨e, x.cyc, quad, mv, ok, none⟩] } }

/-- Two accesses at their banks in one FCLK cycle (R70). -/
def sameCycle (c d : CoilAccess) : Bool := decide (c.issued / 2 = d.issued / 2)

/-- An access gets the coil port of its cluster: no lower-numbered engine of the cluster uses it in the cycle (R71). -/
def portWins (l : List CoilAccess) (c : CoilAccess) : Bool :=
  c.scheduled && !(l.any fun d =>
    d.scheduled && sameCycle c d && decide (d.engine / 16 = c.engine / 16) && decide (d.engine < c.engine))

/-- An access is served: it has its cluster's port, and no lower-numbered cluster's access that has its own is at
the same bank in the cycle (R71). -/
def coilServed (l : List CoilAccess) (c : CoilAccess) : Bool :=
  portWins l c && !(l.any fun d =>
    portWins l d && sameCycle c d && decide (d.engine / 16 < c.engine / 16) &&
      decide (coilBank d.quad = coilBank c.quad))

/-- A quad in a coil region that the live plan marks constant. -/
def State.coilConst (s : State) (q : Nat) : Bool :=
  s.livePlan.engines.any fun p => p.2.consts.any fun c =>
    decide (c.region.mem = .coil ∧ c.region.lo ≤ q ∧ q ≤ c.region.hi)

/-- The access at its bank, in the memory and ECC of the quad: the data a read delivers. A further engine that
reads a damaged quad in the tick gets the zeros too, so its outputs of the tick are substituted as well; the error
is not counted or raised again (R72, R73): DEDUCED (log 42). -/
def State.coilRead (s : State) (c : CoilAccess) : Quad × State :=
  let k := EccKey.coil c.quad
  match s.eccMark k with
  | none => (s.quad c.quad, s)
  | some m =>
    if m.double then
      if m.seen then
        (0, if (s.engine c.engine).derr then s
          else (s.nameDbe c.engine c.quad 3 (s.coilConst c.quad)).markDerr c.engine)
      else (0, ((s.eccSee k m).noteDbe c.engine c.quad 3 (s.coilConst c.quad)).dataError c.engine)
    else (s.quad c.quad, if m.seen then s else s.eccSee k m)

/-- A coil access reaches its bank (R70, R71). A write ends there; a read keeps its data until delivery. -/
def State.bankAccess (s : State) (c : CoilAccess) : State :=
  let ok := coilServed ((s.coil.inFlight ++ s.coil.served).filter fun d => decide (d ≠ c)) c
  let s := if c.scheduled then { s with coil := { s.coil with served := s.coil.served ++ [{ c with data := none }] } } else s
  let s := if ok then s else s.put (Reg.ENG_STATUS.COIL_NOSLOT c.engine) true
  let drop := s.coil.inFlight.filter fun d => decide (d ≠ c)
  match c.move with
  | .write q =>
    let s := { s with coil := { s.coil with inFlight := drop } }
    if ok then (s.setQuad c.quad q).eccClear (.coil c.quad) else s
  | .read _ =>
    let (v, s) := if ok then s.coilRead c else (0, s)
    { s with coil := { s.coil with
        inFlight := s.coil.inFlight.map fun d => if d = c then { c with data := some v } else d } }

/-- The order of bank cycles (R70); in one cycle, that of the engines. -/
def coilBefore (c d : CoilAccess) : Bool :=
  decide (c.issued < d.issued) || (decide (c.issued = d.issued) && decide (c.engine < d.engine))

/-- An access put into its place in the order of bank cycles. -/
def insertCoil (c : CoilAccess) : List CoilAccess → List CoilAccess
  | [] => [c]
  | d :: r => if coilBefore d c then d :: insertCoil c r else c :: d :: r

/-- The accesses that meet a condition and still have to reach their banks do so, in the order of their bank
cycles, whichever engines issued them (R70). -/
def State.banks (s : State) (p : CoilAccess → Bool) : State :=
  ((s.coil.inFlight.filter fun c => decide (c.data = none) && p c).foldr insertCoil []).foldl State.bankAccess s

/-- The delivery of a coil read's quad at the end of t + 47 (R70, R92): D quad with tags 0, or four
words of X or Y. -/
def State.deliver (s : State) (c : CoilAccess) : State :=
  let s := { s with coil := { s.coil with inFlight := s.coil.inFlight.filter fun d => decide (d ≠ c) } }
  match c.move, c.data with
  | .read (.dquad q), some v =>
    let x := s.engine c.engine
    let d := (List.range 4).foldl (fun d i => sset {} (4 * q + i) ⟨quadWord v i, 0⟩ d) x.d
    s.setEngine c.engine { x with d := d }
  | .read (.mem y a), some v =>
    s.writeWords c.engine y ((List.range 4).map fun i => ((a + i) % 65536, quadWord v i))
  | _, _ => s

/-- The accesses of an engine that meet a condition, in order of issue. -/
def State.coilOf (s : State) (e : Nat) (p : CoilAccess → Bool) : List CoilAccess :=
  s.coil.inFlight.filter fun c => decide (c.engine = e) && p c

/-- The accesses of all engines that are past their bank cycle, t + 24, when an engine issues in its present cycle
(R70). -/
def State.coilCatchUp (s : State) (e : Nat) : State :=
  let t := (s.engine e).cyc
  s.banks fun c => decide (c.issued + 24 ≤ t)

/-- The reads of an engine that are due for delivery by the end of a cycle are delivered (R70). -/
def State.deliverDue (s : State) (e c : Nat) : State :=
  (s.coilOf e fun a => a.data.isSome && decide (a.issued + 47 ≤ c)).foldl State.deliver s

/-- Every write due at the end of a cycle up to `c` completes, in order. A coil read due in the cycle of another
write was issued before it, and so is delivered before it (04 R80). -/
def State.completeList (s : State) (e : Nat) (c : Nat) : List InFlight → State
  | [] => let x := s.engine e; s.setEngine e { x with fly := [] }
  | f :: r =>
    if f.due ≤ c then State.completeList ((s.deliverDue e f.due).complete e f.w) e c r
    else let x := s.engine e; s.setEngine e { x with fly := f :: r }

/-- Completion of the writes and deliveries due at the end of a cycle up to `c`. -/
def State.settle (s : State) (e : Nat) (c : Nat) : State := (s.completeList e c (s.engine e).fly).deliverDue e c

end Sys2Proof.Machine
end

