-- ==== Sys2Proof/Machine/RegOps.lean ====
section
/-! DEFINITION. Register access by the type codes of R6: which register an address names, what a read
returns, and what a write does to the fields it may change (00 R5-R8, R435). -/

namespace Sys2Proof.Machine

/-- The instances of a register row that an address names. -/
def RegRow.find (r : RegRow) (a : Nat) : Option (Nat × Nat) :=
  if a < r.base then none
  else
    let i := (a - r.base) / r.s1
    let j := (a - r.base) % r.s1 / r.s2
    if i < r.n1 ∧ j < r.n2 ∧ r.base + i * r.s1 + j * r.s2 = a then some (i, j) else none

/-- The fields of the register at a byte offset of register space; none where no register stands. -/
def fieldsAt (a : Nat) : Option (List FieldSpec) :=
  (regRowsOf (a / 65536)).findSome? fun r => (r.find a).map fun p => r.fields p.1 p.2

/-- The part of a written word that falls to a field. -/
def FieldRef.part (f : FieldRef) (v : Word) : Nat := v.toNat / 2 ^ f.lo % 2 ^ f.width

/-- The signed value of a field's code. -/
def FieldRef.signed (f : FieldRef) (c : Nat) : Int :=
  if c < 2 ^ (f.width - 1) then c else (c : Int) - 2 ^ f.width

/-- Whether a code is in the stated range of a field (R435). -/
def FieldSpec.admits (f : FieldSpec) (c : Nat) : Bool :=
  match f.rng with
  | .any => true
  | .nat lo hi => decide (lo ≤ c) && decide (c ≤ hi)
  | .int lo hi => decide (lo ≤ f.ref.signed c) && decide (f.ref.signed c ≤ hi)
  | .mult m => decide (c % m = 0)
  | .ram m => decide (c % m = 0) && (decide (c < 0x100000) || (decide (0x200000 ≤ c) && decide (c < 0x300000)))
  | .zeroOr lo hi => decide (c = 0) || (decide (lo ≤ c) && decide (c ≤ hi))
  | .not k => decide (c ≠ k)

/-- Whether a write of a word leaves every writable field in its range. -/
def admitsAll (fs : List FieldSpec) (v : Word) : Bool :=
  fs.all fun f => match f.acc with
    | .ro => true
    | .rc => true
    | _ => f.admits (f.ref.part v)

/-- What an accepted write does by the type code alone: RW takes the value, W1C clears where 1 is written. -/
def State.writeField (s : State) (v : Word) (f : FieldSpec) : State :=
  match f.acc with
  | .rw => s.wr f.ref (f.ref.part v)
  | .w1c => if f.ref.part v = 0 then s else s.wr f.ref (s.rd f.ref - (s.rd f.ref &&& f.ref.part v))
  | _ => s

/-- The RW and W1C fields of an accepted write. -/
def State.writeFields (s : State) (fs : List FieldSpec) (v : Word) : State :=
  fs.foldl (fun s f => s.writeField v f) s

/-- The word that the fields of a register make. -/
def State.word (s : State) (fs : List FieldSpec) : Word :=
  BitVec.ofNat 32 (fs.foldl (fun n f => match f.acc with
    | .wo => n
    | _ => n + s.rd f.ref * 2 ^ f.ref.lo) 0)

/-- The flag of one of `n` instances whose registers are `stride` bytes apart. -/
def instFlag (off n stride : Nat) (f : Nat → FieldRef) : Option FieldRef :=
  if off / stride < n then some (f (off / stride)) else none

/-- The refusal flag of the block, and the instance, that owns an address, where there is one (R435). -/
def refusalFlag (a : Nat) : Option FieldRef :=
  let off := a % 65536
  match a / 65536 with
  | 2 => some Reg.REF_STATUS.CFG_REFUSED
  | 8 => some Reg.STR_STATUS.CFG_REFUSED
  | 12 => instFlag off 24 0x40 Reg.SAP_STATUS.CFG_REFUSED
  | 15 => if off < 0x100 then some Reg.AMP_STATUS.CFG_REFUSED
    else instFlag (off - 0x100) 32 0x20 Reg.AMP_CH_STATUS.CFG_REFUSED
  | 16 => instFlag off 5 0x100 Reg.MAC_STATUS.CFG_REFUSED
  | 17 => some Reg.NET_STATUS.CFG_REFUSED
  | 18 => instFlag off 16 0x40 Reg.LANE_STATUS.CFG_REFUSED
  | 19 => instFlag off 16 0x40 Reg.FLX_STATUS.CFG_REFUSED
  | _ => none

/-- The refusal of a write: the block's flag, its refusal source where R359 names one, and CTL_REFUSED
(R435, 01 R19). -/
def State.refuseWrite (s : State) (a : Nat) : State :=
  let s := match refusalFlag a with | some f => s.put f true | none => s
  let s := match a / 65536 with
    | 15 => s.raise Src.AMP_CFG
    | 16 => s.raise Src.NET_CFG
    | 17 => s.raise Src.NET_CFG
    | 18 => s.raise Src.FLX_CFG
    | 19 => s.raise Src.FLX_CFG
    | _ => s
  s.refused

/-- A write by the type codes of R6 and the ranges of R435; `act` is what the accepted write does beyond
that, with the state before the write to compare with. -/
def State.guarded (s : State) (a : Nat) (v : Word) (act : State → State) : State :=
  match fieldsAt a with
  | none => s
  | some fs => if admitsAll fs v then act (s.writeFields fs v) else s.refuseWrite a

end Sys2Proof.Machine
end

