-- ==== Sys2Proof/Machine/Control.lean ====
section
/-! DEFINITION. Where a control write acts: at once on this chip, or through the change log of a PAIRED node
(14 R309-R311). -/

namespace Sys2Proof.Machine

/-- The chip runs in PAIRED mode: it is ACTIVE or in a STANDBY state (14 R301). -/
def State.paired (s : State) : Bool :=
  decide (1 ≤ s.rd Reg.TTH_STATUS.STATE) && decide (s.rd Reg.TTH_STATUS.STATE ≤ 4)

/-- The registers that act at once on the chip they reach (14 R309, 13 R277, 18 R401): the FAB, DMA, FLT, PWR,
BOOT, HOST and TTH blocks, the registers of LANE_12 and LANE_13, the snapshot mailboxes, CHIP_SCRATCH. -/
def actsLocally (a : Nat) : Bool :=
  let off := a % 65536
  match a / 65536 with
  | 4 => true
  | 5 => true
  | 6 => true
  | 7 => true
  | 20 => true
  | 21 => true
  | 22 => true
  | 18 => decide (0x300 ≤ off ∧ off < 0x380)
  | 19 => decide (0x300 ≤ off ∧ off < 0x380)
  | 3 => decide (0x10 ≤ off ∧ off < 0x50)
  | 0 => decide (off = 0x14)
  | _ => false

/-- The target that an address belongs to, 7 where no row of 15 R331 names it. -/
def fabTarget (a : Nat) : Nat :=
  if a < 0x140000 ∨ (0x200000 ≤ a ∧ a < 0x300000) then 0
  else if 0x10000000 ≤ a ∧ a < 0x14000000 then 1
  else if (0x20000000 ≤ a ∧ a < 0x2C000000) ∨ (0x31000000 ≤ a ∧ a < 0x31010000) then 2
  else if 0x30000000 ≤ a ∧ a < 0x30800000 then 3
  else if 0x40000000 ≤ a ∧ a < 0x40170000 then 4
  else 7

/-- An error response is counted, recorded unless a record is held, and raised (15 R339). KIND: 1 unmapped, 2
read-only, 3 width, 4 lock target, 5 refused by target, 6 timeout, 7 lock broken. A refused write is a refused
input of the control path too (01 R19). -/
def State.fabError (s : State) (master id target kind a : Nat) (write : Bool) : State :=
  let s := (s.bump Reg.FAB_CNT.ERRRESP 1).put Reg.FAB_STATUS.ERRRESP true
  let s := if s.on Reg.FAB_ERR_INFO.VALID then s
    else
      let s := ((s.wr Reg.FAB_ERR_ADDR.ADDR a).wr Reg.FAB_ERR_INFO.MASTER master).wr Reg.FAB_ERR_INFO.TARGET target
      let s := ((s.wr Reg.FAB_ERR_INFO.ID id).put Reg.FAB_ERR_INFO.WRITE write).wr Reg.FAB_ERR_INFO.KIND kind
      s.put Reg.FAB_ERR_INFO.VALID true
  let s := s.raise Src.FAB_ERR
  if write && decide (kind < 6) then s.refused else s

/-- A write that its target refuses ends in an error response (15 R339). The access is the one whose master and
ID the bus record names. -/
def State.busError (s : State) (a : Nat) : State :=
  let s := s.fabError s.bus.master s.bus.id (fabTarget a) 5 a true
  { s with bus := { s.bus with data := 0, err := true } }

/-- The fabric address of a register offset; other addresses stand as they are. -/
def fabricAddr (a : Nat) : Nat := if a < 0x170000 then 0x40000000 + a else a

/-- A record joins the change log. -/
def State.logRecord (s : State) (addr size data : Nat) : State :=
  let bulk := decide (coilBase ≤ addr ∧ addr < 0x20000000)
  let n := s.tth.nextSeq
  let s := s.onTth fun r => { r with
    log := r.log ++ [⟨n, addr, size, data⟩]
    nextSeq := (n + 1) % 65536
    bulkWait := if bulk then r.bulkWait ++ [n] else r.bulkWait }
  s.wr Reg.TTH_LOG.FREE (8192 - s.tth.log.length)

/-- A control change on a chip of a PAIRED node, as the (address, size, data) of its records: refused on a standby,
logged on the ACTIVE where the log has room for all of them (14 R310, R311). -/
def State.logAll (s : State) (addr : Nat) (l : List (Nat × Nat × Nat)) : State :=
  if s.rd Reg.TTH_STATUS.STATE ≠ 1 then (s.put Reg.TTH_LOG.STBY_WR true).busError (fabricAddr addr)
  else if 8192 < s.tth.log.length + l.length then
    ((s.put Reg.TTH_LOG.FULL_ERR true).raise Src.PAIR_LOG).busError (fabricAddr addr)
  else l.foldl (fun s r => s.logRecord r.1 r.2.1 r.2.2) s

/-- A control change of one record. -/
def State.logChange (s : State) (addr size data : Nat) : State := s.logAll addr [(addr, size, data)]

/-- The W1C part of a write: writes of 1 to W1C fields act at once (R309). -/
def State.clearFields (s : State) (fs : List FieldSpec) (v : Word) : State :=
  fs.foldl (fun s f => match f.acc with
    | .w1c => s.writeField v f
    | _ => s) s

/-- The word with its W1C bits taken out. -/
def withoutW1c (fs : List FieldSpec) (v : Word) : Word :=
  fs.foldl (fun v f => match f.acc with
    | .w1c => v &&& ~~~(BitVec.ofNat 32 ((2 ^ f.ref.width - 1) * 2 ^ f.ref.lo))
    | _ => v) v

/-- A register with a field that software can write other than by W1C. -/
def hasControl (fs : List FieldSpec) : Bool :=
  fs.any fun f => match f.acc with
    | .ro => false
    | .rc => false
    | .w1c => false
    | _ => true

/-- The refused inputs that have reached the collector and are not decided. -/
def State.refusals (s : State) : Nat := (s.flt.arriving.filter fun n => decide (n = Src.CTL_REFUSED)).length

/-- The block of a register holds a register of the audit list (16 R366). -/
def State.audited (s : State) (a : Nat) : Bool := s.flt.auditList.any fun x => decide (x / 65536 = a / 65536)

/-- A write that was performed in an audited block enters the journal, address then data (16 R367); firmware's own
writes, by M0, do not. A refused write is not performed. -/
def State.journal (old s : State) (a : Nat) (v : Word) : State :=
  if s.bus.master = 0 || !s.audited a || decide (old.refusals < s.refusals) then s
  else
    let h := s.rd Reg.FLT_AUD_JPTR.HEAD
    if (h + 1) % 1024 = s.rd Reg.FLT_AUD_JPTR.TAIL then s.put Reg.FLT_AUD_JPTR.OVF true
    else
      let at0 := ramAddr (s.rd Reg.FLT_AUD_JBASE.BASE) + 8 * h
      ((s.eccClear (.ram (at0 / 8))).store at0 8 (fabricAddr a + 2 ^ 32 * v.toNat)).wr Reg.FLT_AUD_JPTR.HEAD (h + 1)

/-- A write of a word at a register address, with the action it has where it acts at once. -/
def State.control (s : State) (a : Nat) (v : Word) (act : State → State) : State :=
  if s.paired && !actsLocally a then
    let fs := (fieldsAt a).getD []
    let t := s.clearFields fs v
    if hasControl fs then t.logChange a 4 (withoutW1c fs v).toNat else s.journal t a v
  else s.journal (act s) a v

/-- A write of fabric memory that is a control change in PAIRED mode (R309). -/
def State.controlMem (s : State) (addr size data : Nat) (act : State → State) : State :=
  if s.paired then s.logChange addr size data else act s

end Sys2Proof.Machine
end

