-- ==== Sys2Proof/Machine/Time.lean ====
section
/-! DEFINITION. Network time: the four domains, the stepping counter, adjustments, snapshots and the
resolution of time triggers (09 R181-R201). Times are in units of 2^-32 ns. -/

namespace Sys2Proof.Machine

/-- One second in units of 2^-32 ns. -/
def oneSecond : Nat := 1000000000 * 2 ^ 32

/-- The largest time, 2^48 − 1 s (R182). A time base that reaches it stays there: SECONDS never wraps (DESIGN CHOICE,
log 140). -/
def timeLimit : Nat := (2 ^ 48 - 1) * oneSecond

/-- The chip is in a STANDBY state (14 R300): its DPLL is in TETHER (08 R173), and its time bases follow the ACTIVE
chip's (R188). -/
def State.isStandby (s : State) : Bool :=
  decide (s.rd Reg.TTH_STATUS.STATE = 2 ∨ s.rd Reg.TTH_STATUS.STATE = 3 ∨ s.rd Reg.TTH_STATUS.STATE = 4)

/-- A domain's record. -/
def State.domain (s : State) (d : Nat) : Domain := sget {} d s.time.dom

/-- Replacing a domain's record. -/
def State.setDomain (s : State) (d : Nat) (x : Domain) : State :=
  { s with time := { s.time with dom := sset {} d x s.time.dom } }

/-- The tick rate in Hz for a family (0: 48 kHz, 1: 44.1 kHz) and rate multiple (01 R12). -/
def tickRate (fam mult : Nat) : Nat := (if fam = 0 then 48000 else 44100) * 2 ^ mult

/-- The live tick rate. -/
def State.rate (s : State) : Nat := tickRate (s.rd Reg.CLK_STATUS.FAMILY) s.mult

/-- The nominal tick length, truncated to 32 fractional bits (R183). -/
def nominalInc (rate : Nat) : Nat := oneSecond / rate

/-- INC_d in effect; 0 stands for the nominal tick length (R183, R201). -/
def State.inc (s : State) (d : Nat) : Nat :=
  let v := s.rd (Reg.TIME_INC_HI.INC d) * 2 ^ 32 + s.rd (Reg.TIME_INC_LO.INC d)
  if v = 0 then nominalInc s.rate else v

/-- INC_d as the registers hold it. -/
def State.setInc (s : State) (d v : Nat) : State :=
  (s.wr (Reg.TIME_INC_HI.INC d) (v / 2 ^ 32)).wr (Reg.TIME_INC_LO.INC d) v

/-- The domain runs on STEP. -/
def State.onStep (s : State) (d : Nat) : Bool := s.on (Reg.TIME_STATUS.SOURCE d)

/-- The domain's time at the latest boundary on ROOT, or now on STEP (R184, R186). A standby's own SC is not used
(R188). -/
def State.domTime (s : State) (d : Nat) : Int :=
  if s.onStep d && !s.isStandby then min timeLimit ((s.time.sc : Int) + (s.domain d).ofs) else ((s.domain d).d : Int)

/-! ### Increments (R183, R185) -/

/-- Within ±1,000 ppm of the nominal tick length. -/
def incInRange (rate v : Nat) : Bool :=
  decide ((v * rate - oneSecond) * 1000 ≤ oneSecond) && decide ((oneSecond - v * rate) * 1000 ≤ oneSecond)

/-- A rate write is refused that takes a domain's time past the largest at the next step (R182; DEDUCED, log 141). -/
def State.refuseAdj (s : State) (d : Nat) : State := (s.put (Reg.TIME_STATUS.ADJ_REFUSED d) true).refused

/-- A write of TIME_d_INC_LO is held; a write of TIME_d_INC_HI takes effect with it (17 R400) at the next
boundary, or is refused. -/
def State.writeInc (s : State) (d : Nat) (hi : Bool) (v : Word) : State :=
  let x := s.domain d
  if hi then
    let lo := x.incLo.getD (s.rd (Reg.TIME_INC_LO.INC d))
    let n := v.toNat * 2 ^ 32 + lo
    let s := s.setDomain d { x with incLo := none }
    if n = 0 then s.setDomain d { x with incLo := none, incNext := some (nominalInc s.rate) }
    else if !incInRange s.rate n then (s.put (Reg.TIME_STATUS.INC_REFUSED d) true).refused
    else if timeLimit < x.d + n then s.refuseAdj d
    else s.setDomain d { x with incLo := none, incNext := some n }
  else s.setDomain d { x with incLo := some v.toNat }

/-- TIME_SC_INC: 0.999 to 1.001 (R185). -/
def scIncInRange (n : Nat) : Bool :=
  decide (2 ^ 32 * 999 ≤ n * 1000) && decide (n * 1000 ≤ 2 ^ 32 * 1001)

/-- The domains on STEP that one more cycle of SC, by n, would take past the largest time (R182). -/
def State.scFull (s : State) (n : Nat) : List Nat :=
  (List.range 4).filter fun d => s.onStep d && decide ((timeLimit : Int) < s.time.sc + n + (s.domain d).ofs)

/-- A write of TIME_SC_INC_LO is held; one of TIME_SC_INC_HI takes effect with it, or is refused. -/
def State.writeScInc (s : State) (hi : Bool) (v : Word) : State :=
  if hi then
    let lo := s.time.scLo.getD (s.rd Reg.TIME_SC_INC_LO.INC)
    let n := v.toNat * 2 ^ 32 + lo
    let s := { s with time := { s.time with scLo := none } }
    if !scIncInRange n then s.refused
    else if (s.scFull n).isEmpty then (s.wr Reg.TIME_SC_INC_HI.INC v.toNat).wr Reg.TIME_SC_INC_LO.INC lo
    else (s.scFull n).foldl State.refuseAdj s
  else { s with time := { s.time with scLo := some v.toNat } }

/-- What SC adds in each of its cycles (R185). -/
def State.scInc (s : State) : Nat := s.rd Reg.TIME_SC_INC_HI.INC * 2 ^ 32 + s.rd Reg.TIME_SC_INC_LO.INC

/-- SC runs for a number of its cycles (R185). -/
def State.runSc (s : State) (cycles : Nat) : State :=
  { s with time := { s.time with sc := s.time.sc + cycles * s.scInc } }

/-! ### Adjustments (R187) -/

/-- The value of ADJ_0-ADJ_2: seconds, nanoseconds and 2^-16 ns. -/
def State.adjValue (s : State) (d : Nat) : Nat :=
  (s.rd (Reg.TIME_ADJ_2.SEC_HI d) * 2 ^ 32 + s.rd (Reg.TIME_ADJ_1.SEC_LO d)) * oneSecond +
    s.rd (Reg.TIME_ADJ_0.NS d) * 2 ^ 32 + s.rd (Reg.TIME_ADJ_2.FRAC d) * 2 ^ 16

/-- A write of TIME_d_ADJ_GO. -/
def State.writeAdjGo (s : State) (d : Nat) (v : Word) : State :=
  s.guarded (0x3011C + d * 0x40) v fun s =>
    if Reg.TIME_ADJ_GO.GO d |>.part v |> (· = 1) then
      let set := s.on (Reg.TIME_ADJ_GO.SET d)
      let big := s.on (Reg.TIME_CTRL.BIGSTEP d)
      let s := s.put (Reg.TIME_CTRL.BIGSTEP d) false
      let a := s.adjValue d
      if 1000000000 ≤ s.rd (Reg.TIME_ADJ_0.NS d) ∨ (set = false ∧ big = false ∧ oneSecond < a) then s.refuseAdj d
      else
        let s := (s.put (Reg.TIME_ADJ_GO.GO d) true).put (Reg.TIME_STATUS.ADJ_PEND d) true
        s.setDomain d { s.domain d with adj := some ⟨a, s.on (Reg.TIME_ADJ_GO.SIGN d), set, big⟩ }
    else s

/-- The pending adjustment takes effect on D_d or OFS_d, or is refused. -/
def State.applyAdj (s : State) (d : Nat) : State :=
  let x := s.domain d
  match x.adj with
  | none => s
  | some a =>
    let s := (s.put (Reg.TIME_ADJ_GO.GO d) false).put (Reg.TIME_STATUS.ADJ_PEND d) false
    let now := s.domTime d
    let t : Int := if a.set then a.value else if a.minus then now - a.value else now + a.value
    let far := a.set && !a.big && decide ((oneSecond : Int) < t - now ∨ (oneSecond : Int) < now - t)
    if t < 0 ∨ (timeLimit : Int) < t ∨ far = true then (s.setDomain d { x with adj := none }).refuseAdj d
    else
      let x := { x with
        adj := none
        ofs := if s.onStep d then x.ofs + (t - now) else x.ofs
        d := if s.onStep d && !s.isStandby then x.d else t.toNat }
      (s.setDomain d x).bump (Reg.TIME_STATUS.ADJCNT d) 1

/-! ### Sources and the boundary (R183, R186) -/

/-- The conditions of R186 under which a domain's source is STEP: the root has no lock, a family change,
the factory test mode, or HOSTEP during a pull back from holdover. -/
def State.wantsStep (s : State) (d : Nat) : Bool :=
  !s.rclk || !s.on Reg.CLK_STATUS.ROOT_LOCK || decide (s.rd Reg.REF_STATUS.DPLL = 7) || s.on Reg.FLT_TEST.TESTMODE ||
    (s.on (Reg.TIME_CTRL.HOSTEP d) && s.ref.fromHoldover &&
      (decide (s.rd Reg.REF_STATUS.DPLL = 2) || decide (s.rd Reg.REF_STATUS.DPLL = 3)))

/-- A change to STEP: OFS_d continues the ROOT time. -/
def State.toStep (s : State) (d : Nat) : State :=
  let x := s.domain d
  if s.onStep d then s
  else (s.setDomain d { x with ofs := (x.d : Int) - (s.time.sc : Int) }).put (Reg.TIME_STATUS.SOURCE d) true

/-- A change back to ROOT: the boundary's D_d continues the STEP time. -/
def State.toRoot (s : State) (d : Nat) : State :=
  if s.onStep d then
    (s.setDomain d { s.domain d with d := (s.domTime d).toNat }).put (Reg.TIME_STATUS.SOURCE d) false
  else s

/-- A domain at a tick boundary: it advances by INC_d on ROOT, its source is reviewed, a pending
adjustment applies, and a written INC_d comes into effect. On a standby it advances by INC_d on either source, which
the ACTIVE chip's copy sets (R188; DESIGN CHOICE, log 142). -/
def State.domainTick (s : State) (d : Nat) : State :=
  let sc := s.onStep d && !s.isStandby
  let s := if sc then s else s.setDomain d { s.domain d with d := min timeLimit ((s.domain d).d + s.inc d) }
  let s := if s.isStandby then s else if s.wantsStep d then s.toStep d else s.toRoot d
  let s := s.applyAdj d
  let s := match (s.domain d).incNext with
    | none => s
    | some n => (s.setInc d n).setDomain d { s.domain d with incNext := none }
  s.setDomain d { s.domain d with d := (s.domTime d).toNat }

/-- All domains at a tick boundary. -/
def State.timeTick (s : State) (sc : Nat) : State :=
  let s := s.runSc sc
  (List.range 4).foldl State.domainTick { s with time := { s.time with scMark := s.time.sc } }

/-- A standby that becomes ACTIVE carries its domains on STEP on with its own SC (R188). -/
def State.ownSc (s : State) : State :=
  (List.range 4).foldl (fun s d => if s.onStep d then
    s.setDomain d { s.domain d with ofs := ((s.domain d).d : Int) - s.time.scMark } else s) s

/-- A new rate family: INC_d × f_old / f_new, truncated (R183). An INC_d of 0 stands for the nominal length. -/
def State.rescaleInc (s : State) (fOld fNew : Nat) : State :=
  (List.range 4).foldl (fun s d =>
    if s.rd (Reg.TIME_INC_HI.INC d) = 0 ∧ s.rd (Reg.TIME_INC_LO.INC d) = 0 then s
    else s.setInc d (s.inc d * fOld / fNew)) s

/-! ### Instants and their records (R181, R184, R192) -/

/-- The ROOT time of cycle c plus f/16 of the present tick, rounded to units of 2^-16 ns, half up. -/
def State.rootInstant (s : State) (d c f : Nat) : Nat :=
  let n := 16 * eclkPerTick s.mult
  (2 * ((s.domain d).d * n + (16 * c + f) * s.inc d) + n * 2 ^ 16) / (2 * n * 2 ^ 16)

/-- A time in units of 2^-32 ns rounded to units of 2^-16 ns, half up. -/
def roundTime (t : Int) : Nat := ((t + 2 ^ 15) / 2 ^ 16).toNat

/-- The three words of a time in units of 2^-16 ns. -/
def timeWords (t : Nat) : Word × Word × Word :=
  let ns := t / 2 ^ 16
  let sec := ns / 1000000000
  (BitVec.ofNat 32 (ns % 1000000000), BitVec.ofNat 32 sec,
    BitVec.ofNat 32 (sec / 2 ^ 32 % 2 ^ 16 + t % 2 ^ 16 * 2 ^ 16))

/-- A write of TIME_MB_m_SNAP (R193). -/
def State.writeSnap (s : State) (m : Nat) (v : Word) : State :=
  s.guarded (0x30010 + m * 0x20) v fun s =>
    if (Reg.TIME_MB_SNAP.TS_SNAP m).part v = 1 then
      let s := s.put (Reg.TIME_MB_SNAP.TS_VALID m) false
      { s with time := { s.time with snap := if s.time.snap.contains m then s.time.snap else m :: s.time.snap } }
    else s

/-- The capture of a requested snapshot, at a ROOT instant and an SC value. -/
def State.capture (s : State) (m c f : Nat) : State :=
  if s.time.snap.contains m then
    let src := s.rd (Reg.TIME_MB_SNAP.SRC m)
    let step := if src < 4 then s.onStep src else true
    let t := if src < 4 then (if s.onStep src then roundTime (s.domTime src) else s.rootInstant src c f)
             else roundTime (s.time.sc : Int)
    let (w0, w1, w2) := timeWords t
    let s := { s with time := { s.time with snap := s.time.snap.filter (· ≠ m) } }
    let s := ((s.wr (Reg.TIME_MB_TS_0.TS m) w0.toNat).wr (Reg.TIME_MB_TS_1.TS m) w1.toNat).wr
      (Reg.TIME_MB_TS_2.TS m) w2.toNat
    let s := (s.put (Reg.TIME_MB_SNAP.TS_VALID m) true).put (Reg.TIME_MB_SNAP.STEP m) (decide (src < 4) && step)
    if s.rclk then
      (((s.wr (Reg.TIME_MB_TS_CY.ECLK m) c).wr (Reg.TIME_MB_TS_CY.SIXTEENTH m) f).put
        (Reg.TIME_MB_TS_CY.ROOT m) true).wr (Reg.TIME_MB_TS_CY.TICK m) s.tick
    else
      (((s.wr (Reg.TIME_MB_TS_CY.ECLK m) 0).wr (Reg.TIME_MB_TS_CY.SIXTEENTH m) 0).put
        (Reg.TIME_MB_TS_CY.ROOT m) false).wr (Reg.TIME_MB_TS_CY.TICK m) 0
  else s

/-- The answer of a bus read. -/
def State.answer (s : State) (v : Nat) : State := { s with bus := { s.bus with data := v, err := false } }

/-- A read of TS_2 returns the word and clears TS_VALID. -/
def State.readTs2 (s : State) (m : Nat) : State :=
  (s.answer (s.rd (Reg.TIME_MB_TS_2.TS m))).put (Reg.TIME_MB_SNAP.TS_VALID m) false

/-! ### PPS alignment (R196) -/

/-- A write of TIME_d_CTRL. -/
def State.writeTimeCtrl (s : State) (d : Nat) (v : Word) : State :=
  s.guarded (0x30100 + d * 0x40) v fun s =>
    if (Reg.TIME_CTRL.PPSALIGN d).part v = 1 then s.put (Reg.TIME_CTRL.PPSALIGN d) true else s

/-- The boundary placed at a PPS_IN edge: D_d moves to the nearest second, half up. -/
def State.alignPps (s : State) (d : Nat) : State :=
  if s.on (Reg.TIME_CTRL.PPSALIGN d) && !s.onStep d then
    let t := (s.domain d).d
    let sec := t / oneSecond
    let sec := if 500000000 * 2 ^ 32 ≤ t % oneSecond then sec + 1 else sec
    (s.setDomain d { s.domain d with d := sec * oneSecond }).put (Reg.TIME_CTRL.PPSALIGN d) false
  else s

/-! ### Time triggers (R197, R198) -/

/-- The time of a trigger. -/
def trigTime (sec ns : Nat) : Nat := sec * oneSecond + ns * 2 ^ 32

/-- The resolution of a trigger at boundary k with the domain's time there: none while it is more than
8,192.5 ticks ahead. -/
def resolveAt (k : Nat) (now : Int) (inc t : Nat) : Option Nat :=
  if 2 * (t : Int) ≤ 2 * now + 16385 * (inc : Int) then
    some (k + (max 0 (ceilDivInt (2 * ((t : Int) - now) - inc) (2 * inc))).toNat)
  else none

/-- The tick that a PTP-time trigger resolves to at boundary k, with the state as it stands there, and whether it is late
(R197, R198). -/
def State.resolve (s : State) (k d sec ns : Nat) : Option (Nat × Bool) :=
  (resolveAt k ((s.domain d).d : Int) (s.inc d) (trigTime sec ns)).map fun S => (S, decide (S ≤ k))

/-- A trigger as its owner writes it (R35, R117, R132, R268): what it waits for, that it is already past,
or that it is refused (R198). -/
inductive Arming where
  | wait (t : Trig)
  | late
  | bad
deriving DecidableEq, Repr

/-- The check of a PTP-time trigger when its arming write lands (R36, R198): late where the next boundary, as the domain
now runs toward it, would find it so; on STEP, where SC sets that boundary's time, the boundary itself finds it
(DEDUCED, log 143). -/
def State.armPtp (s : State) (d sec ns : Nat) : Arming :=
  if 1000000000 ≤ ns ∨ s.on (Reg.TIME_CTRL.EN d) = false then .bad
  else if s.onStep d then .wait (.ptp d sec ns)
  else match (s.domainTick d).resolve (s.tick + 1) d sec ns with
    | some (_, true) => .late
    | _ => .wait (.ptp d sec ns)

/-- The check of a tick-count trigger (R36). -/
def State.armTick (s : State) (t : Nat) : Arming :=
  if t ≤ s.tick + 1 then .late else .wait (.tick t)

/-! ### The commands -/

/-- INC_WRITE (09 R183). -/
def execIncWrite (d : Fin 4) (hi : Bool) (v : Word) (s : State) : Out :=
  core (fun s => s.control (0x30108 + d.val * 0x40 + 4 * hi.toNat) v fun s => s.writeInc d.val hi v) s

/-- SC_INC_WRITE (09 R185). -/
def execScIncWrite (hi : Bool) (v : Word) (s : State) : Out :=
  core (fun s => s.control (0x30000 + 4 * hi.toNat) v fun s => s.writeScInc hi v) s

/-- TIME_ADJ_GO (09 R187). -/
def execTimeAdjGo (d : Fin 4) (v : Word) (s : State) : Out :=
  core (fun s => s.control (0x3011C + d.val * 0x40) v fun s => s.writeAdjGo d.val v) s

/-- TIME_ADJ_APPLY (09 R187): on STEP within 1 µs, after SC has run; on ROOT the boundary itself applies it, and so it
does on a standby, whose time is the ACTIVE chip's. -/
def execTimeAdjApply (d : Fin 4) (sc : Nat) (s : State) : Out :=
  core (fun s =>
    let s := s.runSc sc
    if s.onStep d.val && !s.isStandby then s.applyAdj d.val else s) s

/-- TS_SNAP (09 R193). -/
def execTsSnap (m : Fin 2) (v : Word) (s : State) : Out :=
  core (fun s => s.control (0x30010 + m.val * 0x20) v fun s => s.writeSnap m.val v) s

/-- SNAP_CAPTURE (09 R193), at a cycle and sixteenth of the present tick, after SC has run. -/
def execSnapCapture (m : Fin 2) (eclk : BitVec 15) (sixteenth : BitVec 4) (sc : Nat) (s : State) : Out :=
  core (fun s => (s.runSc sc).capture m.val eclk.toNat sixteenth.toNat) s

/-- TS2_READ (09 R193). -/
def execTs2Read (m : Fin 2) (s : State) : Out := core (fun s => s.readTs2 m.val) s

/-- PPSALIGN (09 R196): a write of TIME_d_CTRL. -/
def execPpsalign (d : Fin 4) (v : Word) (s : State) : Out :=
  core (fun s => s.control (0x30100 + d.val * 0x40) v fun s => s.writeTimeCtrl d.val v) s

/-- PPS_ALIGN (09 R196): the boundary placed at the next PPS_IN edge. -/
def execPpsAlign (d : Fin 4) (s : State) : Out := clocked (fun s => s.alignPps d.val) s

end Sys2Proof.Machine
end

