-- ==== Sys2Proof/Machine/Ref.lean ====
section
/-! DEFINITION. Reference slots, the selector and the DPLL (08 R162-R174, R180). Frequencies are signed
parts per trillion, phases signed picoseconds. -/

namespace Sys2Proof.Machine

/-- A reference slot's record. -/
def State.refSlot (s : State) (n : Nat) : RefSlot := sget {} n s.ref.slot

/-- Replacing a reference slot's record. -/
def State.setRefSlot (s : State) (n : Nat) (x : RefSlot) : State :=
  { s with ref := { s.ref with slot := sset {} n x s.ref.slot } }

/-- The slot's state of R165. -/
def State.slotState (s : State) (n : Nat) : Nat := s.rd (Reg.REFS_STATUS.STATE n)

/-- QUALIFIED and WARN are qualified (R165). -/
def State.slotQualified (s : State) (n : Nat) : Bool := decide (s.slotState n = 3 ∨ s.slotState n = 4)

/-- A condition that lasts shows in FLT_SRC_sss.ACTIVE, and raises its source on entry (16 R359). -/
def State.condition (s : State) (n : Nat) (on : Bool) : State :=
  let was := s.on (Reg.FLT_SRC.ACTIVE n)
  let s := s.put (Reg.FLT_SRC.ACTIVE n) on
  if on && !was then s.raise n else s

/-- The latest measurement as a signed number, if there is one. -/
def State.slotFreq (s : State) (n : Nat) : Option Int :=
  let c := s.rd (Reg.REFS_FREQ.FREQ n)
  if c = 0x80000000 then none else some ((Reg.REFS_FREQ.FREQ n).signed c)

/-- A signed code stored in a 32-bit field. -/
def State.wrInt (s : State) (f : FieldRef) (v : Int) : State := s.wr f (code f.width v).toNat

/-- A signed field. -/
def State.rdInt (s : State) (f : FieldRef) : Int := f.signed (s.rd f)

/-- PTP and FREF_IN slots serve both families (R164). -/
def servesBoth (src : Nat) : Bool := decide ((1 ≤ src ∧ src ≤ 4) ∨ src = 0x21)

/-- PTP, FREF_IN and Flitex slots ignore PBO (R170). -/
def ignoresPbo (src : Nat) : Bool := servesBoth src || decide (0x10 ≤ src ∧ src ≤ 0x1F)

/-- The phase error wrapped into −½ to +½ tick (R169). -/
def wrapPhase (rate : Nat) (e : Int) : Int :=
  let p : Int := 1000000000000
  ((e * rate + p / 2) % p - p / 2) / rate

/-! ### The DPLL -/

/-- The DPLL's state (R168). -/
def State.dpll (s : State) : Nat := s.rd Reg.REF_STATUS.DPLL

/-- The output offset, and REF_FOFF with it (R180). -/
def State.setOutput (s : State) (y : Int) : State :=
  (s.onRef fun r => { r with y := y }).wrInt Reg.REF_FOFF.FOFF (y + s.rdInt Reg.REF_XOCAL.XOCAL)

/-- A DPLL state. A change of state ends a second spent in one state, and leaves the last output in LOCKED or TETHER
behind (R171, R173). -/
def State.setDpll (s : State) (st : Nat) : State :=
  let old := s.dpll
  let s := if old = st then s else s.onRef fun r => { r with
    whole := false
    lastLocked := if old = 4 then some r.y else r.lastLocked
    lastTether := if old = 6 then some r.y else r.lastTether }
  s.wr Reg.REF_STATUS.DPLL st

/-- The mean output over the whole seconds in a DPLL state among the last HO_AVG seconds; with fewer than 10, the last
output in that state, or nominal, and HO_SHORT (R171, R173; log 122). -/
def State.meanOutput (s : State) (st : Nat) (last : Option Int) : Int × Bool :=
  let l := ((s.ref.history.take (s.rd Reg.REF_HO.HO_AVG)).filter fun p => decide (p.1 = st)).map (·.2)
  if 10 ≤ l.length then (roundNearest l.sum l.length, false) else (last.getD 0, true)

/-- DRIFT_WARN: the selected slot is in WARN (R180). -/
def State.showDrift (s : State) : State :=
  s.put Reg.REF_STATUS.DRIFT_WARN
    (s.on Reg.REF_STATUS.SEL_VALID && decide (s.slotState (s.rd Reg.REF_STATUS.SEL) = 4))

/-- No slot is selected. -/
def State.deselect (s : State) : State :=
  let s := if s.on Reg.REF_STATUS.SEL_VALID then s.put (Reg.REFS_STATUS.SELECTED (s.rd Reg.REF_STATUS.SEL)) false else s
  ((s.put Reg.REF_STATUS.SEL_VALID false).onRef fun r => { r with buildOut := none }).showDrift

/-- Entry to HOLDOVER at a frequency (R171). -/
def State.holdAt (s : State) (f : Int × Bool) : State :=
  (((s.setDpll 5).wrInt Reg.REF_HO_FREQ.HO_FREQ f.1).put Reg.REF_STATUS.HO_SHORT f.2).condition Src.REF_HOLDOVER true

/-- Entry to HOLDOVER at the mean LOCKED frequency (R171). -/
def State.enterHoldover (s : State) : State :=
  let s := s.deselect
  if s.dpll = 5 then s
  else
    let last := if s.dpll = 4 then some s.ref.y else s.ref.lastLocked
    s.holdAt (s.meanOutput 4 last)

/-- A slot is selected (R166, R168, R174). The counts of R167 are of one selected slot, so they begin again. -/
def State.selectSlot (s : State) (n : Nat) : State :=
  if s.on Reg.REF_STATUS.SEL_VALID = true ∧ s.rd Reg.REF_STATUS.SEL = n then s
  else
    let st := s.dpll
    let s := s.deselect
    let s := (((s.wr Reg.REF_STATUS.SEL n).put Reg.REF_STATUS.SEL_VALID true).put
      (Reg.REFS_STATUS.SELECTED n) true).bump (Reg.REFS_CNT.SELECT n) 1
    let s := (List.range 16).foldl (fun s k => s.setRefSlot k { s.refSlot k with disagree := 0 }) s
    let s := (s.wrInt Reg.REF_PHERR.PHERR (s.refSlot n).phase).raise Src.REF_SWITCH
    let s := s.condition Src.REF_HOLDOVER false
    let held := decide (st = 5) || (s.ref.fromHoldover && decide (st = 2 ∨ st = 3))
    let s := s.onRef fun r => { r with fromHoldover := held }
    (if st = 0 ∧ s.ref.acquiring then s.setDpll 1 else if st = 1 then s else s.setDpll 2).showDrift

/-! ### The selector (R166, R167) -/

/-- Two qualified slots agree (R167). -/
def State.agrees (s : State) (a b : Nat) : Bool :=
  match s.slotFreq a, s.slotFreq b with
  | some x, some y => decide ((x - y).natAbs ≤ s.rd Reg.REF_LIM_1.AGREE * 10000)
  | _, _ => false

/-- The other qualified slots of any rank that agree with a slot. -/
def State.agreeCount (s : State) (n : Nat) : Nat :=
  ((List.range 16).filter fun m => decide (m ≠ n) && s.slotQualified m && s.agrees n m).length

/-- A slot's rank. -/
def State.slotRank (s : State) (n : Nat) : Nat := s.rd (Reg.REFS_CFG.RANK n)

/-- The slot of a list with the highest score, the lowest number where two are equal. -/
def bestBy (score : Nat → Nat) : List Nat → Option Nat
  | [] => none
  | a :: r => match bestBy score r with
    | none => some a
    | some b => if score a < score b then some b else some a

/-- Step 1 of R166 among a list of slots: best rank, most agreements, lowest number. -/
def State.choose (s : State) (l : List Nat) : Option Nat :=
  match (l.map s.slotRank).min? with
  | none => none
  | some r => bestBy s.agreeCount (l.filter fun n => decide (s.slotRank n = r))

/-- What MODE has the selector do (R166). -/
def State.applyMode (s : State) : State :=
  let quals := (List.range 16).filter s.slotQualified
  let sel := s.rd Reg.REF_STATUS.SEL
  let valid := s.on Reg.REF_STATUS.SEL_VALID
  match s.rd Reg.REF_CTRL.MODE with
  | 0 =>
    if valid && s.slotQualified sel then
      if s.on Reg.REF_CTRL.REVERT then
        let ready := quals.filter fun n => decide (s.slotRank n < s.slotRank sel) &&
          decide (s.rd Reg.REF_TIME.WTR ≤ (s.refSlot n).qualified)
        match s.choose ready with
        | some n => s.selectSlot n
        | none => s
      else s
    else match s.choose quals with
      | some n => s.selectSlot n
      | none => if valid then s.enterHoldover else s
  | 1 =>
    let n := s.rd Reg.REF_CTRL.FORCE_SLOT
    if 2 ≤ s.slotState n then s.selectSlot n else s.enterHoldover
  | 2 => s.enterHoldover
  | _ => ((s.deselect).setDpll 0).condition Src.REF_HOLDOVER false

/-- The review of the slots (R166). It waits while the root relocks, and a standby selects nothing. -/
def State.review (s : State) : State :=
  (if s.isStandby ∨ s.dpll = 7 then s else s.applyMode).showDrift

/-- The counts of R167 at a measurement: for each qualified slot of the selected one's rank, the
measurements in a row in which the selected slot did not agree with it. -/
def State.countDisagree (s : State) : State :=
  let sel := s.rd Reg.REF_STATUS.SEL
  let peers := (List.range 16).filter fun n => decide (n ≠ sel) && s.slotQualified n && decide (s.slotRank n = s.slotRank sel)
  let s := (List.range 16).foldl (fun s n =>
    let x := s.refSlot n
    s.setRefSlot n { x with disagree := if peers.contains n && !(s.agrees sel n) then x.disagree + 1 else 0 }) s
  let rank := (List.range 16).filter fun n => s.slotQualified n && decide (s.slotRank n = s.slotRank sel)
  let all := rank.all fun a => rank.all fun b => decide (a = b) || s.agrees a b
  s.onRef fun r => { r with agreeRun := if all then s.ref.agreeRun + 1 else 0 }

/-- REFS_n_STATUS.DISAGREE at a measurement: a qualified slot that does not agree with a qualified slot of its rank
(R180; DEDUCED, log 123). -/
def State.showDisagree (s : State) : State :=
  (List.range 16).foldl (fun s n => s.put (Reg.REFS_STATUS.DISAGREE n)
    (s.slotQualified n && (List.range 16).any fun m => decide (m ≠ n) && s.slotQualified m &&
      decide (s.slotRank m = s.slotRank n) && !(s.agrees n m))) s

/-- Disagreement and its resolution (R167). -/
def State.disagreement (s : State) : State :=
  if !(s.on Reg.REF_STATUS.SEL_VALID) || s.isStandby then s
  else
    let sel := s.rd Reg.REF_STATUS.SEL
    let s := s.countDisagree
    let foes := (List.range 16).filter fun n => decide (3 ≤ (s.refSlot n).disagree)
    if foes.isEmpty then
      if 3 ≤ s.ref.agreeRun then (s.put Reg.REF_STATUS.DISAGREE false).condition Src.REF_DISAGREE false else s
    else
      let s := (s.put Reg.REF_STATUS.DISAGREE true).condition Src.REF_DISAGREE true
      let own := s.agreeCount sel
      let top := (foes.map s.agreeCount).foldl max 0
      if own = 0 ∧ top = 0 then s.put Reg.REF_STATUS.ALERT true
      else if top ≤ own then s
      else match bestBy s.agreeCount foes with
        | some n => if s.rd Reg.REF_CTRL.MODE = 0 then s.selectSlot n else s
        | none => s

/-! ### Slot states (R163-R165) -/

/-- Seconds of the accept timer that qualify: ACCEPT_TIME, or START_ACCEPT during a start until ACQ_TMO has passed
(R165, R174; DEDUCED, log 124). -/
def State.acceptTime (s : State) : Nat :=
  if s.rd Reg.CHIP_STATE.STATE = 2 ∧ s.boot.acqOver = false then ceilDiv (s.rd Reg.REF_TIME.START_ACCEPT * 10) 1000
  else s.rd Reg.REF_TIME.ACCEPT_TIME

/-- A slot's state and accept timer. -/
def State.setSlotState (s : State) (n st t : Nat) : State :=
  let s := if st = 5 ∧ s.slotState n ≠ 5 then s.bump (Reg.REFS_CNT.REJECT n) 1 else s
  (s.wr (Reg.REFS_STATUS.STATE n) st).wr (Reg.REFS_STATUS.QTIME n) (min t 1023)

/-- Activity lost, or a phase jump (R165). -/
def State.slotLost (s : State) (n : Nat) : State :=
  if 2 ≤ s.slotState n then
    let s := (s.setSlotState n 1 0).bump (Reg.REFS_CNT.LOSS n) 1
    (s.setRefSlot n { s.refSlot n with discards := 0, warnRun := 0, qualified := 0, gate := none, edge := 0 }).review
  else s

/-- Activity on a slot in NOACT (R165). -/
def State.slotActive (s : State) (n : Nat) : State :=
  if s.slotState n = 1 then (s.setSlotState n 2 0).review else s

/-- The table of R165 at a measurement f in the slot's family. -/
def State.measureSlot (s : State) (n : Nat) (f : Int) (fam : Nat) : State :=
  let both := servesBoth (s.rd (Reg.REFS_CFG.SRC n))
  let live := s.rd Reg.CLK_STATUS.FAMILY
  let other := !both && decide (fam ≠ live)
  let a := f.natAbs
  let accept := decide (a ≤ s.rd Reg.REF_LIM_0.ACCEPT * 10000)
  let warn := decide (s.rd Reg.REF_LIM_1.WARN * 10000 < a)
  let reject := decide (s.rd Reg.REF_LIM_0.REJECT * 10000 < a)
  let t := s.rd (Reg.REFS_STATUS.QTIME n)
  let st := s.slotState n
  let x := s.refSlot n
  let t' := if accept then t + 1 else 0
  let ready := decide (s.acceptTime ≤ t')
  let s := if both then s else s.wr (Reg.REFS_STATUS.FAMILY n) fam
  match st with
  | 2 => if other then s.setSlotState n 6 t else if accept && ready then s.setSlotState n 3 t' else s.setSlotState n 2 t'
  | 6 =>
    if other then s.setSlotState n 6 t'
    else if accept && decide (s.acceptTime ≤ t) then s.setSlotState n 3 t else s.setSlotState n 2 t'
  | 3 =>
    if other then s.setSlotState n 6 t
    else if reject then s.setSlotState n 5 t
    else if warn then (s.setSlotState n 4 t).setRefSlot n { x with warnRun := 0 } else s
  | 4 =>
    if other then s.setSlotState n 6 t
    else if reject then s.setSlotState n 5 t
    else if warn then s.setRefSlot n { x with warnRun := 0 }
    else if 9 ≤ x.warnRun then (s.setSlotState n 3 t).setRefSlot n { x with warnRun := 0 }
    else s.setRefSlot n { x with warnRun := x.warnRun + 1 }
  | 5 => if accept then s.setSlotState n 2 0 else s
  | _ => s

/-- The offset in ppt of a frequency, in units of 10^-12 Hz, from num / den Hz. -/
def offsetPpt (freq num den : Nat) : Int := roundNearest ((freq * den : Int) - num * 1000000000000) num

/-- The video rates of NOM (R162). -/
def videoRate (nom : Nat) : Nat × Nat :=
  [(24000, 1001), (24, 1), (25, 1), (30000, 1001), (30, 1), (50, 1), (60000, 1001), (60, 1)].getD nom (24, 1)

/-- Samples per frame at the base rate, in ten-thousandths (R162). -/
def frameSamples (fam nom : Nat) : Nat :=
  (if fam = 0 then [20020000, 20000000, 19200000, 16016000, 16000000, 9600000, 8008000, 8000000]
   else [18393375, 18375000, 17640000, 14714700, 14700000, 8820000, 7357350, 7350000]).getD nom 0

/-- The offset from the nominal of whichever family lies nearer, and that family; the live one where both lie equally
near (R164; DESIGN CHOICE, log 125). -/
def State.nearer (s : State) (freq : Nat) (nom : Nat → Nat × Nat) : Int × Nat :=
  let a := offsetPpt freq (nom 0).1 (nom 0).2
  let b := offsetPpt freq (nom 1).1 (nom 1).2
  let live := s.rd Reg.CLK_STATUS.FAMILY
  if a.natAbs < b.natAbs then (a, 0) else if b.natAbs < a.natAbs then (b, 1) else (if live = 0 then a else b, live)

/-- A slot's offset against the XO, and its family, at a gate (R164): a PTP slot's from its phase errors and the
root's offset, which the XO shares (DEDUCED, log 126); FREF_IN's nominal is 10 MHz (PRESUMED, log 127). -/
def State.measured (s : State) (m : RefMeas) : Option (Int × Nat) :=
  let n := m.slot.val
  let src := s.rd (Reg.REFS_CFG.SRC n)
  let nom := s.rd (Reg.REFS_CFG.NOM n)
  if src ≤ 4 then
    (s.refSlot n).gate.map fun g =>
      (s.ref.y + wrapPhase s.rate ((s.refSlot n).phase - g), s.rd Reg.CLK_STATUS.FAMILY)
  else if src < 0x10 then some (s.nearer m.freq fun fam => (tickRate fam nom, 1))
  else if src < 0x20 then some (s.nearer m.freq fun fam => (tickRate fam s.mult, 1))
  else if src = 0x20 then some (s.nearer m.freq fun _ => videoRate nom)
  else some (offsetPpt m.freq 10000000 1, s.rd Reg.CLK_STATUS.FAMILY)

/-- One slot's measurement, corrected by REF_XOCAL (R164). A slot counts a second for WTR where it was qualified before
and after it (R166). -/
def State.measure (s : State) (m : RefMeas) : State :=
  let n := m.slot.val
  if s.slotState n < 2 then s
  else
    let r := s.measured m
    let s := s.setRefSlot n { s.refSlot n with gate := some (s.refSlot n).phase }
    match r with
    | none => s
    | some (raw, fam) =>
      let was := s.slotQualified n
      let f := raw + s.rdInt Reg.REF_XOCAL.XOCAL
      let s := (s.wrInt (Reg.REFS_FREQ.FREQ n) f).measureSlot n f fam
      let x := s.refSlot n
      s.setRefSlot n { x with qualified := if was && s.slotQualified n then x.qualified + 1 else 0 }

/-- The selected slot's frequency as the root sees it, without the XO's correction. -/
def State.slotOutput (s : State) : Int :=
  ((s.slotFreq (s.rd Reg.REF_STATUS.SEL)).map (· - s.rdInt Reg.REF_XOCAL.XOCAL)).getD s.ref.y

/-- The phase error that the loop works on: the selected slot's, beyond what is built out (R168, R170). -/
def State.loopError (s : State) : Int :=
  (s.refSlot (s.rd Reg.REF_STATUS.SEL)).phase - s.ref.buildOut.getD 0

/-- The output at the end of a second (R168, R171-R173; DESIGN CHOICE, log 120): ACQUIRE follows the slot by its loop of
10 Hz with no slew limit; PULLING is the slot's frequency with a pull of at most SLOPE toward the phase; TETHER is the
tether's frequency; LOCKED follows the slot by its loop, SLEWING the slot, HOLDOVER and FREERUN their own goals, each at
most FSLEW from the last value. -/
def State.nextOutput (s : State) (tether : Int) : Int :=
  let y := s.ref.y
  let step : Int := s.rd Reg.REF_DPLL.FSLEW * 10000
  let slope : Int := s.rd Reg.REF_DPLL.SLOPE * 10000
  let e := s.loopError
  let slew := fun goal : Int => y + clampInt (-step) step (goal - y)
  match s.dpll with
  | 0 => slew (s.rdInt Reg.REF_STEER.STEER)
  | 1 => s.slotOutput + Config.loopStep 6 e
  | 2 => slew s.slotOutput
  | 3 => s.slotOutput + clampInt (-slope) slope e
  | 4 => slew (s.slotOutput + Config.loopStep (s.rd Reg.REF_DPLL.BW) e)
  | 5 => slew (s.rdInt Reg.REF_HO_FREQ.HO_FREQ + s.rdInt Reg.REF_STEER.STEER)
  | 6 => tether
  | _ => y

/-- The DPLL's second: its output, and the second's place in the history (R171). -/
def State.dpllSecond (s : State) (tether : Int) : State :=
  let y := s.nextOutput tether
  let s := s.setOutput y
  s.onRef fun r => { r with history := ((if r.whole then s.dpll else 7, y) :: r.history).take 3600, whole := true }

/-- The clock outputs in a tick (R177): MCLK_OUT_n at RCLK/100 or RCLK/200, WCLK_OUT_n at the tick rate or, in the ticks
whose STR_TICK is a multiple of 2^MULT, at the base rate; SNS_CLK_k at RCLK/200 (11 R228) and PDM_CLK_j at RCLK/200, /400
or /800 (10 R218); off is low. -/
def State.clockPins (s : State) : State :=
  let cycles := 512 / 2 ^ s.mult
  let m := fun f : FieldRef => match s.rd f with | 1 => cycles | 2 => cycles / 2 | _ => 0
  let w := fun f : FieldRef => match s.rd f with | 1 => 1 | 2 => if s.tick % 2 ^ s.mult = 0 then 1 else 0 | _ => 0
  let l := [m Reg.CLK_CTRL.MCLK0, m Reg.CLK_CTRL.MCLK1, m Reg.CLK_CTRL.MCLK2, m Reg.CLK_CTRL.MCLK3,
    w Reg.CLK_CTRL.WCLK0, w Reg.CLK_CTRL.WCLK1]
  let sns := fun k : Nat => if (s.rd Reg.AMP_CTRL.SNSEN).testBit k then cycles / 2 else 0
  let pdm := fun f : FieldRef => match s.rd f with | 0 => 0 | d => cycles / 2 ^ d
  let l := l ++ (List.range 4).map sns ++
    [pdm Reg.DEC_PDMCLK.DIV0, pdm Reg.DEC_PDMCLK.DIV1, pdm Reg.DEC_PDMCLK.DIV2, pdm Reg.DEC_PDMCLK.DIV3]
  { s with clkOut := l.zipIdx.foldl (fun o p => sset 0 p.2 p.1 o) [] }

/-- A write of CLK_CTRL: an output that it disables is low at once, and one that it enables runs from the next tick
(R177, R179; DESIGN CHOICE, log 121). -/
def State.writeClkCtrl (s : State) (v : Word) : State :=
  s.guarded 0x10000 v fun s =>
    let on := fun p : Nat × Nat => decide (6 ≤ p.1 ∨ v.toNat / 4 ^ p.1 % 4 ≠ 0)
    { s with clkOut := s.clkOut.filter on }

/-! ### The commands -/

/-- The phase error of an event that comes `phase` ps before the node's boundary, against the target of the slot's source
(R162), wrapped (R169): of a word clock or AES3 input above the tick rate against the nearest of its 2 or 4 edges to the
tick (for AES3 DEDUCED, log 128), of a video edge against its own place in the frame sequence. -/
def State.targetPhase (s : State) (n edge : Nat) (phase : Int) : Int :=
  let src := s.rd (Reg.REFS_CFG.SRC n)
  let nom := s.rd (Reg.REFS_CFG.NOM n)
  if 5 ≤ src ∧ src ≤ 0xF then wrapPhase (s.rate * 2 ^ (nom - s.mult)) phase
  else if src = 0x20 then
    let part := edge * frameSamples (s.rd Reg.CLK_STATUS.FAMILY) nom * 2 ^ s.mult % 10000
    wrapPhase s.rate (phase + (part * 100000000 / s.rate : Nat))
  else wrapPhase s.rate phase

/-- REF_EVENT (R163): an event that departs from its expected instant by `dep` ps and comes `phase` ps before the node's
boundary; `frames` frame periods after the slot's last event on a VSYNC slot; on a FREF_IN slot `pps` marks the PPS_IN
edge, which gives the phase, where FREF_IN's own edges give activity (R162). -/
def State.refEvent (s : State) (n : Nat) (dep phase : Int) (pps : Bool) (frames : Nat) : State :=
  if s.slotState n = 0 then s
  else if s.rd Reg.REF_PHWIN.WIN * 1000 < dep.natAbs then
    let x := s.refSlot n
    (s.setRefSlot n { x with discards := x.discards + 1 }).bump (Reg.REFS_CNT.GLITCH n) 1
  else
    let fref := decide (s.rd (Reg.REFS_CFG.SRC n) = 0x21)
    let x := s.refSlot n
    let edge := if s.slotState n = 1 then 0 else (x.edge + frames) % 10000
    let e := if fref && !pps then x.phase else s.targetPhase n edge phase
    let s := s.setRefSlot n { x with discards := 0, phase := e, edge := edge }
    let s := if fref && pps then s.put (Reg.REFS_STATUS.PPS_LOST n) false else s.slotActive n
    if s.on (Reg.REFS_STATUS.SELECTED n) && s.ref.buildOut.isNone then s.wrInt Reg.REF_PHERR.PHERR e else s

/-- REF_EVENT (08 R163). -/
def execRefEvent (n : Fin 16) (dep phase : Int) (edge : RefEdge) (s : State) : Out :=
  core (fun s => s.refEvent n.val dep phase edge.pps edge.frames) s

/-- REF_PHASE_JUMP (08 R163): after 16 discarded events in a row. -/
def execRefPhaseJump (n : Fin 16) (s : State) : Out :=
  core (fun s => if 16 ≤ (s.refSlot n.val).discards then s.slotLost n.val else s) s

/-- REF_ACTIVITY_LOST (08 R162). -/
def execRefActivityLost (n : Fin 16) (s : State) : Out := core (fun s => s.slotLost n.val) s

/-- PPS_MISSING (08 R162). -/
def execPpsMissing (n : Fin 16) (s : State) : Out :=
  core (fun s => if s.rd (Reg.REFS_CFG.SRC n.val) = 0x21 ∧ s.slotState n.val ≠ 0
    then s.put (Reg.REFS_STATUS.PPS_LOST n.val) true else s) s

/-- A write of REF_PTP_d_ERR: the servo unlocked, a refused value, or an event of every slot bound to the
domain (R162). `dep` is the event's departure from the instant those slots expect. -/
def State.writePtpErr (s : State) (d : Nat) (v : Word) (dep : Int) : State :=
  let bound := (List.range 16).filter fun n => decide (s.rd (Reg.REFS_CFG.SRC n) = d + 1)
  if v = 0x80000000#32 then bound.foldl State.slotLost s
  else if 1000000000000 < 2 * (sval v).natAbs * s.rate then s.refuseWrite (0x20040 + 4 * d)
  else bound.foldl (fun s n => s.refEvent n dep (sval v) false 0) s

/-- REF_PTP_ERR_WRITE (08 R162). -/
def execRefPtpErrWrite (d : Fin 4) (v : Word) (dep : Int) (s : State) : Out :=
  core (fun s => s.control (0x20040 + 4 * d.val) v fun s => s.writePtpErr d.val v dep) s

/-- The measurements of one second, the review, disagreement, and the DPLL's second (R164-R173). -/
def State.refSecond (s : State) (l : List RefMeas) (tether : Int) : State :=
  ((l.foldl State.measure s).review.showDisagree.disagreement).dpllSecond tether

/-- REF_MEASUREMENT (08 R164): the second's gates, and the offset of the tether's frame rate against the XO in ppt,
which a chip in TETHER follows (R173). -/
def execRefMeasurement (gates : SecondMeas) (s : State) : Out :=
  core (fun s => s.refSecond gates.slots gates.tether) s

/-- DPLL_ACQUIRE_LOCK (08 R168): 100 ms within 100 ns. -/
def execDpllAcquireLock (s : State) : Out :=
  clocked (fun s => if s.rd Reg.REF_STATUS.DPLL = 1 then
    (s.setDpll 4).onRef fun r => { r with acquiring := false } else s) s

/-- The output reaches the selected slot's frequency (R168-R170). -/
def State.slewDone (s : State) : State :=
  let n := s.rd Reg.REF_STATUS.SEL
  let s := s.setOutput s.slotOutput
  if s.on (Reg.REFS_CFG.PBO n) && !(ignoresPbo (s.rd (Reg.REFS_CFG.SRC n))) then
    let o := (s.refSlot n).phase
    ((s.setDpll 4).onRef fun r => { r with buildOut := some o, fromHoldover := false }).wrInt Reg.REF_PHERR.PHERR o
  else s.setDpll 3

/-- DPLL_SLEW_DONE (08 R168, R169): within 0.01 ppm of the slot's frequency, the output having moved by at most FSLEW
since the last second. -/
def execDpllSlewDone (s : State) : Out :=
  clocked (fun s => if s.dpll = 2 ∧ (s.slotOutput - s.ref.y).natAbs ≤ s.rd Reg.REF_DPLL.FSLEW * 10000 + 10000
    then s.slewDone else s) s

/-- DPLL_PULL_DONE (08 R168): the phase error comes within 100 ns. -/
def execDpllPullDone (err : Int) (s : State) : Out :=
  clocked (fun s => if s.rd Reg.REF_STATUS.DPLL = 3 ∧ err.natAbs ≤ 100000 then
    ((s.setDpll 4).onRef fun r => { r with fromHoldover := false }).wrInt Reg.REF_PHERR.PHERR err else s) s

/-! ### Register writes -/

/-- REF_LIM_0 and REF_LIM_1: ACCEPT < WARN < REJECT (R180). -/
def State.writeRefLim (s : State) (i : Nat) (v : Word) : State :=
  let lo := v.toNat % 65536
  let hi := v.toNat / 65536
  let ok := if i = 0 then decide (lo < s.rd Reg.REF_LIM_1.WARN) && decide (s.rd Reg.REF_LIM_1.WARN < hi)
            else decide (s.rd Reg.REF_LIM_0.ACCEPT < lo) && decide (lo < s.rd Reg.REF_LIM_0.REJECT)
  if ok then s.guarded (0x20008 + 4 * i) v id else s.refuseWrite (0x20008 + 4 * i)

/-- The sources of R162. -/
def refSourceLegal (src : Nat) : Bool :=
  decide (src ≤ 6) || decide (8 ≤ src ∧ src ≤ 0x21)

/-- The NOM codes of R162: 1×, 2× and 4× for WCLK and AES3, every code elsewhere. -/
def refNomLegal (src nom : Nat) : Bool :=
  if src = 5 ∨ src = 6 ∨ (8 ≤ src ∧ src ≤ 0xF) then decide (nom ≤ 2) else true

/-- REFS_n_CFG: EN and SRC turn the slot off or start it (R165). -/
def State.writeRefsCfg (s : State) (n : Nat) (v : Word) : State :=
  let a := 0x20100 + n * 0x10
  let src := (Reg.REFS_CFG.SRC n).part v
  let old := s.rd (Reg.REFS_CFG.SRC n)
  if refSourceLegal src && refNomLegal src ((Reg.REFS_CFG.NOM n).part v) then
    s.guarded a v fun s =>
      if (Reg.REFS_CFG.EN n).part v = 0 ∨ src = 0 then
        (((s.setSlotState n 0 0).setRefSlot n {}).put (Reg.REFS_STATUS.PPS_LOST n) false).review
      else if s.slotState n = 0 ∨ src ≠ old then
        ((((s.setSlotState n 1 0).setRefSlot n {}).toReset (Reg.REFS_FREQ.FREQ n)).put
          (Reg.REFS_STATUS.PPS_LOST n) false).review
      else s.review
  else s.refuseWrite a

/-- REF_CTRL, with FAMREQ (R175): refused for the live family or while a lay-plan switch is armed or ramping. -/
def State.writeRefCtrl (s : State) (v : Word) : State :=
  s.guarded 0x20000 v fun s =>
    let s := if Reg.REF_CTRL.FAMREQ.part v = 1 then
        if s.rd Reg.REF_CTRL.FAMILY = s.rd Reg.CLK_STATUS.FAMILY ∨ s.on Reg.ENG_LP_STATUS.ARMED = true ∨
            s.on Reg.ENG_LP_STATUS.RAMPING = true then
          (s.put Reg.REF_STATUS.FAM_REFUSED true).refused
        else if s.ref.family.isSome then s
        else (s.put Reg.REF_CTRL.FAMREQ true).onRef fun r => { r with family := some ⟨s.tick + 2, 0⟩ }
      else s
    s.review

/-- FAMREQ (08 R175): a write of REF_CTRL. -/
def execFamreq (v : Word) (s : State) : Out :=
  core (fun s => s.control 0x20000 v fun s => s.writeRefCtrl v) s

/-- The gain of R175 in the present tick, in sixteenths, for every whipping instance and every Flitex and
tether egress; none outside a family change. -/
def State.familyGain (s : State) : Option Nat :=
  match s.ref.family with
  | none => none
  | some f =>
    let h := s.rd Reg.REF_ACQ.HOLD_TICKS
    if s.tick < f.tick then none
    else if f.phase ≤ 2 then some (15 - (s.tick - f.tick))
    else if s.tick < f.tick + 17 + h then some 0
    else some (min 16 (s.tick - (f.tick + 17 + h) + 1))

end Sys2Proof.Machine
end

