-- ==== Sys2Proof/Machine/StrBase.lean ====
section
/-! DEFINITION. The hitch tables as every interface sees them: the fields of an entry, the hitches of a port,
and the samples that pass between a hitch and its interface (02 R28-R30, R42). -/

namespace Sys2Proof.Machine

/-- A field of a hitch word. -/
def wfield (w : Word) (lo n : Nat) : Nat := (w.toNat / 2 ^ lo) % 2 ^ n

def Hitch.slot (h : Hitch) : Nat := wfield h.w0 0 13
def Hitch.iftype (h : Hitch) : Nat := wfield h.w0 16 4
def Hitch.port (h : Hitch) : Nat := wfield h.w0 20 9
def Hitch.chan (h : Hitch) : Nat := wfield h.w1 0 12
def Hitch.braid (h : Hitch) : Nat := wfield h.w1 12 6
def Hitch.braided (h : Hitch) : Bool := h.w1.getLsbD 18
def Hitch.hold (h : Hitch) : Bool := h.w1.getLsbD 19
def Hitch.asrcEn (h : Hitch) : Bool := h.w1.getLsbD 20
def Hitch.asrc (h : Hitch) : Nat := wfield h.w1 21 6
def Hitch.zcGate (h : Hitch) : Bool := h.w1.getLsbD 27
def Hitch.tether (h : Hitch) : Bool := h.w1.getLsbD 29
def Hitch.whip (h : Hitch) : Nat := wfield h.w1 20 12

/-- An entry in use. An entry of interface type None is not in use (R29). -/
def Hitch.valid (h : Hitch) : Bool := h.w0.msb && decide (h.iftype ≠ 0)

/-- The MUTE bit of an ingress (28) or egress (19) entry. -/
def Hitch.mute (h : Hitch) (egress : Bool) : Bool := if egress then h.w1.getLsbD 19 else h.w1.getLsbD 28

/-- A hitch table. -/
def State.hitches (s : State) (egress : Bool) : SMap Hitch := if egress then s.str.egress else s.str.ingress

/-- A hitch's record. -/
def State.hitchRun (s : State) (egress : Bool) (i : Nat) : HitchRun :=
  sget {} i (if egress then s.str.runEg else s.str.runIn)

/-- Replacing a hitch's record. -/
def State.setRun (s : State) (egress : Bool) (i : Nat) (x : HitchRun) : State :=
  s.onStr fun r => if egress then { r with runEg := sset {} i x r.runEg } else { r with runIn := sset {} i x r.runIn }

/-- The valid hitches of a port in a direction. -/
def State.portHitches (s : State) (egress : Bool) (ift port : Nat) : List (Nat × Hitch) :=
  (s.hitches egress).filter fun p => p.2.valid && decide (p.2.iftype = ift) && decide (p.2.port = port)

/-- A valid hitch of the port names a channel at or above a count (R29, 10 R210). -/
def State.channelsBeyond (s : State) (egress : Bool) (ift port count : Nat) : Bool :=
  (s.portHitches egress ift port).any fun p => decide (count ≤ p.2.chan)

/-- The key of a channel of an interface. -/
def chanKey (ift port chan : Nat) : Nat := (ift * 512 + port) * 4096 + chan

/-- The interface number under which an ASRC lane's output is offered to its hitch. -/
def asrcIf : Nat := 0xF

/-- The interface number under which tethered words are offered to TETHER hitches (14 R305). -/
def tetherIf : Nat := 0xE

/-- An interface offers a channel's sample at the boundary. -/
def State.offer (s : State) (k : Nat) (v : Word) (t : Tag) : State :=
  s.onStr fun r => { r with inp := sinsert k ⟨v, t, true⟩ r.inp }

/-- What an egress hitch left for a channel in this tick. -/
def State.egressOf (s : State) (k : Nat) : Option (Word × Tag) :=
  (sfind k s.str.out).map fun x => (x.sample, x.tag)

/-- Both counts saturate (R42). -/
def HitchRun.countSubst (x : HitchRun) : HitchRun := { x with substFr := min (x.substFr + 1) 65535 }
def HitchRun.countDrop (x : HitchRun) : HitchRun := { x with dropFr := min (x.dropFr + 1) 65535, dropped := true }

/-- Data that came too late, early or beyond the buffer is dropped: every hitch of the port counts it (R38). A fault only
where the buffer was full (R39). -/
def State.dropLate (s : State) (ift port : Nat) (fault : Bool) : State :=
  (s.portHitches false ift port).foldl (fun s p =>
    let r := (s.hitchRun false p.1)
    s.setRun false p.1 { r.countDrop with dropped := r.dropped || fault }) s

/-- A frame of a port is dropped: every hitch of the port counts it (10 R207). -/
def State.dropFrame (s : State) (ift port : Nat) : State :=
  (s.portHitches false ift port).foldl (fun s p => s.setRun false p.1 (s.hitchRun false p.1).countDrop) s

/-! ### Mutes (02 R33) -/

/-- The sixteenths of gain that a mute leaves in the present tick; none at full gain. -/
def Mute.gain : Mute → Option Int
  | .full => none
  | .waitZc dn _ => if dn then none else some 0
  | .down k => some (15 - k)
  | .muted => some 0
  | .up k => some (k + 1)

/-- A gain at rest at full: `down` where the mute is wanted, `wait` where a gated request to mute is pending. -/
def restFull (down wait : Bool) : Mute := if down then .down 0 else if wait then .waitZc true 0 else .full

/-- A gain at rest at 0: `hold` where the mute is wanted, `wait` where a gated request to unmute is pending. -/
def restMuted (hold wait : Bool) : Mute := if wait then .waitZc false 0 else if hold then .muted else .up 0

/-- A mute at the next tick (R33, 10 R212): whether the entry wants a mute, whether a fault wants it, whether a change of
the entry is still a pending gated request, and whether its wait ends. While a request is pending the hitch stays as it
was before the request. A ramp completes before the next one starts; a fault's starts at once. -/
def Mute.step (host fault gate done : Bool) (m : Mute) : Mute :=
  let base := if gate then !host else host
  match m with
  | .full => restFull (base || fault) (gate && !fault)
  | .waitZc true w => if fault then .down 0 else if !gate then restFull base false else if done then .down 0 else .waitZc true (w + 1)
  | .waitZc false w => if fault then .muted else if !gate then restMuted base false else if done then .up 0 else .waitZc false (w + 1)
  | .down k => if k < 15 then .down (k + 1) else restMuted (base || fault) (gate && base && !fault)
  | .muted => restMuted (base || fault) (gate && base && !fault)
  | .up k => if k < 15 then .up (k + 1) else restFull (base || fault) (gate && !fault)

/-- The ticks a mute has waited for its zero crossing, with the coming one. -/
def Mute.waited : Mute → Nat
  | .waitZc _ w => w + 1
  | _ => 0

/-- The mute waits for a zero crossing. -/
def Mute.waits : Mute → Bool
  | .waitZc _ _ => true
  | _ => false

/-- A hitch's mute at the next tick, from its entry's MUTE and its port's TIMEOUT. A gated request is served once its
ramp starts. -/
def HitchRun.stepMute (r : HitchRun) (host : Bool) (timeout : Nat) : HitchRun :=
  let fault := r.lockMute || r.devMute
  let done := r.zc || decide (timeout ≤ r.mute.waited)
  { r with mute := r.mute.step host fault r.gate done, zc := false, gate := r.gate && !(r.mute.waits && done && !fault) }

/-- A word under a mute: rounded as an s.31 result, with MUTING in every ramp and muted tick. -/
def Mute.apply (m : Mute) (x : Word × Tag) : Word × Tag :=
  match m.gain with
  | none => x
  | some g => (scaleSample x.1 g 16, x.2 ||| 0b1000)

/-- A gated MUTE changes: a request that waits for a zero crossing, or the end of one whose ramp has not started. -/
def HitchRun.request (r : HitchRun) (gated : Bool) : HitchRun := { r with gate := !r.gate && gated, zc := false }

/-- A member of a braid writes or sends while its braid runs, from the tick it joins (R35, R37). -/
def State.hitchWrites (s : State) (h : Hitch) (r : HitchRun) : Bool :=
  !h.braided || (decide (2 ≤ s.rd (Reg.STR_BRD_STATUS.STATE h.braid)) && decide (r.join ≤ s.tick))

/-- An ingress hitch writes its slot in the current bank (R20): a write, which the policy HOLD keeps. -/
def State.writeCur (s : State) (slot : Nat) (v : Word) (t : Tag) : State :=
  (s.onStr fun q => { q with cur := sset {} slot ⟨v, t, true⟩ q.cur, last := sset {} slot ⟨v, t, true⟩ q.last,
                             missing := serase slot q.missing }).eccClear (.strand slot)

/-- A sample rounded to its first `w` bits by NEAREST and saturated, as a w-bit code (10 R206). -/
def roundTo (w : Nat) (v : Word) : Word :=
  BitVec.ofNat 32 ((code w (satBits w (roundNearest (sval v) (2 ^ (32 - w))))).toNat)

end Sys2Proof.Machine
end

