-- ==== Sys2Proof/Machine/Serial.lean ====
section
/-! DEFINITION. Serial audio ports, AES3, MADI and ASRC lanes (10 R202-R217, R225, R226). -/

namespace Sys2Proof.Machine

/-! ### Ports -/

/-- A receive direction's record: 0-23 SAP, 24-31 AES3, 32-33 MADI. -/
def State.rxPort (s : State) (i : Nat) : RxPort := sget {} i s.ser.rx

def State.setRx (s : State) (i : Nat) (x : RxPort) : State := s.onSer fun r => { r with rx := sset {} i x r.rx }

/-- A transmit direction's record, with the same numbers. -/
def State.txPort (s : State) (i : Nat) : TxPort := sget {} i s.ser.tx

def State.setTx (s : State) (i : Nat) (x : TxPort) : State := s.onSer fun r => { r with tx := sset {} i x r.tx }

/-- Interface type and port number of a direction's number. -/
def rxIf (i : Nat) : Nat × Nat := if i < 24 then (1, i) else if i < 32 then (2, i - 24) else (3, i - 32)

/-- The state field of a receive direction. -/
def rxStateField (i : Nat) : FieldRef :=
  if i < 24 then Reg.SAP_STATUS.RXSTATE i
  else if i < 32 then Reg.AES_RX_STATUS.STATE (i - 24) else Reg.MADI_STATUS.RXSTATE (i - 32)

/-- The fault source of a port (16 R359). -/
def portSource (i : Nat) : Nat := Src.SAP_00 + i

/-- Slots of a SAP frame (R225). -/
def sapSlots (c : Word) : Nat := 2 ^ (wfield c 4 3 + 1)

/-- Bits of a SAP slot and of a sample (R205). -/
def sapSlotW (c : Word) : Nat := if wfield c 7 1 = 1 then 32 else 16
def sapDw (c : Word) : Nat := match wfield c 8 2 with | 0 => 16 | 1 => 20 | 2 => 24 | _ => 32
def sapEn (c : Word) : Bool := c.getLsbD 0
def sapMaster (c : Word) : Bool := c.getLsbD 1

/-- Channels of a MADI mode (R215). -/
def madiChans (mode : Nat) : Nat := if mode = 0 then 56 else if mode = 1 then 64 else 32

/-- The channel count of a direction in force (02 R29). -/
def State.rxChans (s : State) (i : Nat) : Nat :=
  if i < 24 then sapSlots (s.rxPort i).cfg else if i < 32 then 2 else madiChans (wfield (s.rxPort i).cfg 2 2)

/-- ASYNC of a receive direction in force. -/
def State.rxAsync (s : State) (i : Nat) : Bool :=
  let c := (s.rxPort i).cfg
  if i < 24 then c.getLsbD 14 else if i < 32 then c.getLsbD 1 else c.getLsbD 4

/-- The register of a hitch's serial direction has ASYNC set (R216). -/
def State.asyncSet (s : State) (h : Hitch) : Bool :=
  match h.iftype with
  | 1 => (s.word ((fieldsAt (0xC0000 + h.port * 0x40)).getD [])).getLsbD 14
  | 2 => (s.word ((fieldsAt (0xD0000 + h.port * 0x40)).getD [])).getLsbD 1
  | 3 => (s.word ((fieldsAt (0xD0400 + h.port * 0x40)).getD [])).getLsbD 4
  | _ => false

/-- A receive direction delivers frames: RUN or RATEMIS of a SAP port, LOCK or RATEMIS of a receiver. -/
def State.rxRuns (s : State) (i : Nat) : Bool :=
  let st := s.rd (rxStateField i)
  if i < 24 then decide (st = 2 ∨ st = 4) else decide (st = 2 ∨ st = 3)

/-- RATEMIS of a receive direction (R209). -/
def State.rxRateMis (s : State) (i : Nat) : Bool := decide (s.rd (rxStateField i) = if i < 24 then 4 else 3)

/-- The port's fault condition shows in ACTIVE while either direction is in CLKLOST or RATEMIS, and each
entry raises its source (R209). -/
def State.portFault (s : State) (i : Nat) (entry : Bool) : State :=
  let bad := if i < 24 then decide (3 ≤ s.rd (Reg.SAP_STATUS.RXSTATE i) ∨ 3 ≤ s.rd (Reg.SAP_STATUS.TXSTATE i))
    else decide (s.rd (rxStateField i) = 3)
  let s := s.put (Reg.FLT_SRC.ACTIVE (portSource i)) bad
  if entry then s.raise (portSource i) else s

/-! ### Received frames (R207, R210) -/

/-- A tick without a frame is counted: SLIP of a SAP port, SUBST of a receiver. -/
def State.countTickSubst (s : State) (i : Nat) : State :=
  if i < 24 then s.bump (Reg.SAP_RXCNT.SLIP i) 1
  else if i < 32 then s.bump (Reg.AES_RX_CNT.SUBST (i - 24)) 1 else s.bump (Reg.MADI_CNT.SUBST (i - 32)) 1

/-- The frame's samples are offered to the hitches of the port. -/
def State.offerFrame (s : State) (i : Nat) (f : RxFrame) : State :=
  let (ift, port) := rxIf i
  (f.zip (List.range f.length)).foldl (fun s p => match p.1 with
    | some (v, t) => s.offer (chanKey ift port p.2) v t
    | none => s) s

/-- The frame of a port that qualifies at the boundary (R207): the newest waiting frame; an older one is
dropped; with none the tick is substituted. An ASYNC direction's frames have gone to its lanes. -/
def State.rxBoundary (s : State) (i : Nat) : State :=
  let x := s.rxPort i
  let (ift, port) := rxIf i
  if s.rd (rxStateField i) = 0 then s
  else if !s.rxRuns i then (s.countTickSubst i).setRx i { x with frames := [] }
  else if s.rxAsync i then s
  else
    match x.frames with
    | [] => s.countTickSubst i
    | [f] => (s.offerFrame i f).setRx i { x with frames := [] }
    | _ :: f :: _ =>
      let s := (if i < 24 then s.bump (Reg.SAP_RXCNT.SLIP i) 1 else s).dropFrame ift port
      (s.offerFrame i f).setRx i { x with frames := [] }

/-- Ticks of input that an ASRC lane keeps, around the 16 ticks of its delay (R151). -/
def asrcSpan : Nat := 32

/-- An ASYNC direction's frame, complete at an instant in ECLK, goes to the lanes of its hitches (R216). -/
def State.asrcTake (s : State) (i at0 : Nat) (f : RxFrame) : State :=
  let (ift, port) := rxIf i
  (s.portHitches false ift port).foldl (fun s p =>
    match p.2.asrcEn, f.getD p.2.chan none with
    | true, some (v, _) =>
      let old := (sget [] p.2.asrc s.ser.asrc).filter fun q : Nat × Word =>
        decide (at0 ≤ q.1 + asrcSpan * eclkPerTick s.mult)
      s.onSer fun r => { r with asrc := sset [] p.2.asrc ((at0, v) :: old) r.asrc }
    | _, _ => s) s

/-- Consecutive good frames that a receive direction needs: 2 (R210), 3 for an AES3 receiver's lock (R213). -/
def goodNeed (i : Nat) : Nat := if 24 ≤ i ∧ i < 32 then 3 else 2

/-- The instant in ECLK at which a frame completes: with a phase of at most 32, in the tick that comes (R207). -/
def State.doneAt (s : State) (phase : Nat) : Nat :=
  (s.tick + if phase ≤ 32 then 1 else 0) * eclkPerTick s.mult + phase

/-- A well-formed frame: it counts toward RUN or lock, or enters the two-frame buffer or its ASRC lanes. -/
def State.rxGood (s : State) (i phase : Nat) (f : RxFrame) : State :=
  let x := s.rxPort i
  let st := s.rd (rxStateField i)
  if st = 0 then s
  else if s.rxRuns i then
    if s.rxAsync i then (s.setRx i { x with bad := 0 }).asrcTake i (s.doneAt phase) f
    else if 2 ≤ x.frames.length then
      let (ift, port) := rxIf i
      ((if i < 24 then s.bump (Reg.SAP_RXCNT.SLIP i) 1 else s).dropFrame ift port).setRx i
        { x with frames := x.frames.drop 1 ++ [f], bad := 0 }
    else s.setRx i { x with frames := x.frames ++ [f], bad := 0 }
  else if x.good + 1 < goodNeed i then s.setRx i { x with good := x.good + 1, bad := 0 }
  else (((s.setRx i { x with good := 0, bad := 0, frames := [] }).wr (rxStateField i) 2)).portFault i false

/-- A malformed frame is discarded; it breaks a run of good frames and its rate window (R209). -/
def State.rxBad (s : State) (i : Nat) : State :=
  let x := s.rxPort i
  s.setRx i { x with good := 0, bad := x.bad + 1, rateBad := true }

/-! ### The line of a SAP direction (R203-R205) -/

/-- The level of FS after the edge that opens a frame: low for I²S, high else, with FSPOL 0. -/
def sapOpen (c : Word) : Bool := decide (wfield c 2 2 ≠ 0) != c.getLsbD 12

/-- The data delay after that edge, in BCK. -/
def sapDelay (c : Word) : Nat := match wfield c 2 2 with | 0 => 1 | 1 => 0 | _ => wfield c 10 1

/-- Bits of a frame. -/
def sapBits (c : Word) : Nat := sapSlots c * sapSlotW c

/-- FS and D where the direction samples them: at the rising edge of BCK, or with BCKPOL 1 the falling one. -/
def sapSamples (c : Word) (line : List SapBck) : List (Bool × Bool) :=
  line.map fun b => if c.getLsbD 13 then (b.fallFs, b.fallD) else (b.riseFs, b.riseD)

/-- The periods in which FS takes the level that opens a frame. -/
def sapOpenings (opened : Bool) (l : List Bool) : List Nat :=
  (List.range l.length).filter fun i => decide (1 ≤ i) && (l.getD (i - 1) opened != opened) && (l.getD i opened == opened)

/-- BCK edges between the two openings of a line, and how far the half-frame FS edge lies from mid-frame, in BCK. -/
def sapTiming (c : Word) (line : List SapBck) : Nat × Nat :=
  let fs := (sapSamples c line).map (·.1)
  match sapOpenings (sapOpen c) fs with
  | a :: b :: _ =>
    let half := ((fs.drop a).takeWhile fun x => x == sapOpen c).length
    (b - a, ((2 * half : Int) - sapBits c).natAbs / 2)
  | _ => (0, 0)

/-- The bits of the frame between the two openings of a line, after the data delay. -/
def sapData (c : Word) (line : List SapBck) : List Bool :=
  let l := sapSamples c line
  let a := (sapOpenings (sapOpen c) (l.map (·.1))).headD 0
  ((l.map (·.2)).drop (a + sapDelay c)).take (sapBits c)

/-- A number from bits, the most significant first. -/
def msbFirst (l : List Bool) : Nat := l.foldl (fun v b => 2 * v + b.toNat) 0

/-- The DW bits of slot j of a frame. -/
def sapSlot (c : Word) (bits : List Bool) (j : Nat) : Word :=
  BitVec.ofNat 32 (msbFirst ((bits.drop (j * sapSlotW c)).take (sapDw c)))

/-- The levels of FS that a master drives by BCK period from the frame reference edge on: I²S and left-justified half a
frame each way, TDM one BCK or half a frame (R203). -/
def sapFs (c : Word) : List Bool :=
  let n := sapBits c
  let w := if wfield c 2 2 = 2 ∧ c.getLsbD 11 = false then 1 else n / 2
  (List.range n).map fun i => if (i + sapDelay c) % n < w then sapOpen c else !sapOpen c

/-- A frame on D by BCK period from the frame reference edge on: the DW bits of each slot MSB first, then zeros; a slot
left undriven is none (R203, R206). -/
def sapLine (c : Word) (frame : List (Option Word)) : List (Option Bool) :=
  frame.flatMap fun x => match x with
    | none => List.replicate (sapSlotW c) none
    | some v => (List.range (sapSlotW c)).map fun i =>
      some (decide (i < sapDw c) && v.getLsbD (sapDw c - 1 - i))

/-- Whether a SAP frame is well formed (R209): its BCK edges, and for I²S and left-justified its half-frame
FS edge within 1 BCK of mid-frame. -/
def sapWellFormed (c : Word) (line : List SapBck) : Bool :=
  decide ((sapTiming c line).1 = sapBits c) && (decide (wfield c 2 2 = 2) || decide ((sapTiming c line).2 ≤ 1))

/-- A received slot's DW bits as a sample (R206). -/
def sapSample (dw : Nat) (raw : Word) : Word := raw <<< (32 - dw)

/-- A slave frame opened before the boundary that last restarted its direction (R210): with phase at most 32 it
completes in the tick that comes. -/
def State.straddles (s : State) (p : Nat) (master : Bool) (phase period : Nat) : Bool :=
  let x := s.rxPort p
  let n := eclkPerTick s.mult
  let ticks := s.tick - x.since + (if phase ≤ 32 then 1 else 0)
  !master && decide (ticks * n + phase < period)

/-- SAP_RX_FRAME (10 R207): a frame of `period` ECLK completes at phase `phase` of the tick; `line` is its input by BCK
period, from before the FS edge that opens it to the data delay after the next such edge. -/
def State.sapRxFrame (s : State) (p phase period : Nat) (line : List SapBck) : State :=
  let c := (s.rxPort p).cfg
  if s.rd (Reg.SAP_STATUS.RXSTATE p) = 0 then s
  else if s.straddles p (sapMaster c) phase period then s
  else if sapWellFormed c line then
    let bits := sapData c line
    let f := (List.range (sapSlots c)).map fun j => some (sapSample (sapDw c) (sapSlot c bits j), (0 : Tag))
    (s.wr (Reg.SAP_PHASE.RXPH p) phase).rxGood p phase f
  else ((s.put (Reg.SAP_STATUS.MALF p) true).bump (Reg.SAP_RXCNT.MALF p) 1).rxBad p

/-- SAP_RX_FRAME (10 R207): the BCK period before the FS edge that opens the frame, those of the frame, and those from the
next such edge to the data delay after it. -/
def execSapRxFrame (p : Fin 24) (phase : BitVec 15) (period : Nat) (before : SapBck) (frame next : List SapBck)
    (s : State) : Out :=
  clocked (fun s => s.sapRxFrame p.val phase.toNat period (before :: frame ++ next)) s

/-! ### AES3 and MADI frames (R213, R215) -/

/-- Even parity over bits 4-31 of a subframe. -/
def parityOk (w : Word) : Bool := decide (((List.range 28).filter fun i => w.getLsbD (4 + i)).length % 2 = 0)

/-- The 24-bit sample of a subframe placed by R206. -/
def subSample (w : Word) : Word := ((w >>> 4) &&& 0xFFFFFF#32) <<< 8

/-- One bit of the AES3 CRCC register, least significant bit of each byte first. PRESUMED from AES3:
generator x^8 + x^4 + x^3 + x^2 + 1, initial state all ones. -/
def crccBit (c : Nat) (b : Bool) : Nat :=
  let fb := (c % 2 + b.toNat) % 2
  Nat.xor (c / 2) (if fb = 1 then 0xB8 else 0)

/-- The bits of a byte, least significant first. -/
def byteBits (n : Nat) : List Bool := (List.range 8).map fun i => decide (n / 2 ^ i % 2 = 1)

/-- The CRCC of 23 channel-status bytes. -/
def crcc (bytes : List Nat) : Nat := ((bytes.take 23).flatMap byteBits).foldl crccBit 0xFF

/-- Bytes from bits, least significant first. -/
def bitsToBytes : Nat → List Bool → List Nat
  | 0, _ => []
  | n + 1, l => ((List.range 8).foldl (fun v i => v + (l.getD i false).toNat * 2 ^ i) 0) :: bitsToBytes n (l.drop 8)

/-- A channel-status block is published (R213). -/
def State.publishCs (s : State) (n : Nat) (bits : List Bool) : State :=
  let b := bitsToBytes 24 bits
  let s := (List.range 6).foldl (fun s k => s.wr (Reg.AES_RX_CS.CS n k)
    ((List.range 4).foldl (fun v i => v + b.getD (4 * k + i) 0 * 256 ^ i) 0)) s
  let bad := decide (b.getD 0 0 % 2 = 1) && decide (b.getD 23 0 ≠ crcc b)
  let s := s.put (Reg.AES_RX_STATUS.CS_NEW n) true
  if bad then s.put (Reg.AES_RX_STATUS.CRC_ERR n) true else s

/-- The C bit of a frame joins the open block; a Z preamble opens a block. -/
def State.csBit (s : State) (n : Nat) (z c : Bool) : State :=
  let x := s.rxPort (24 + n)
  let blk := if z then some [c] else x.block.map (c :: ·)
  match blk with
  | none => s
  | some l =>
    if l.length = 192 then (s.setRx (24 + n) { x with block := none }).publishCs n l.reverse
    else s.setRx (24 + n) { x with block := some l }

/-- The lanes fed by a direction re-enter ACQUIRE when its clock is lost (R216). -/
def State.lanesReacquire (s : State) (i : Nat) : State :=
  let (ift, port) := rxIf i
  (s.portHitches false ift port).foldl (fun s p =>
    if p.2.asrcEn then s.wr (Reg.SAP_ASRC_STATUS.STATE p.2.asrc) 1 else s) s

/-- A receive direction loses its clock or lock; the lanes that it feeds re-enter ACQUIRE (R216). -/
def State.rxLost (s : State) (i : Nat) : State :=
  let x := s.rxPort i
  let s := s.setRx i { x with good := 0, bad := 0, frames := [], rateGood := 0, block := none, rateBad := true }
  if i < 24 then
    (((s.wr (rxStateField i) 3).put (Reg.SAP_STATUS.RX_CLKLOST i) true).lanesReacquire i).portFault i true
  else if i < 32 then
    (((s.wr (rxStateField i) 1).put (Reg.AES_RX_STATUS.LOCKLOST (i - 24)) true).lanesReacquire i).portFault i true
  else
    (((s.wr (rxStateField i) 1).put (Reg.MADI_STATUS.LOCKLOST (i - 32)) true).lanesReacquire i).portFault i true

/-- A frame with a biphase violation or a bad preamble: the fourth in a row loses lock (R213). -/
def State.aesBad (s : State) (i : Nat) : State :=
  let s := s.rxBad i
  let s := s.setRx i { s.rxPort i with block := none }
  if 4 ≤ (s.rxPort i).bad ∧ 2 ≤ s.rd (rxStateField i) then s.rxLost i else s

/-- AES_RX_FRAME (10 R213): a frame of `period` ECLK completes at phase `phase` of the tick, its preambles and biphase
coding good or not; whether it opens a block; and its two subframes. -/
def State.aesRxFrame (s : State) (n phase period : Nat) (ok z : Bool) (a b : Word) : State :=
  let i := 24 + n
  if s.rd (Reg.AES_RX_STATUS.STATE n) = 0 then s
  else if s.straddles i false phase period then s
  else if !ok then s.aesBad i
  else
    let s := s.put (Reg.AES_RX_STATUS.VBIT n) (a.getLsbD 28 || b.getLsbD 28)
    let sel := if wfield (s.rxPort i).cfg 2 1 = 1 then b else a
    let s := s.csBit n z (sel.getLsbD 30)
    let f : RxFrame := [some (subSample a, 0), some (subSample b, 0)]
    if parityOk a && parityOk b then s.rxGood i phase f
    else
      let s := (s.put (Reg.AES_RX_STATUS.PARITY n) true).bump (Reg.AES_RX_CNT.PARITY n) 1
      if s.rxRuns i then s.setRx i { s.rxPort i with bad := 0 } else s.rxGood i phase f

/-- AES_RX_FRAME (10 R213). -/
def execAesRxFrame (n : Fin 8) (rx : FrameRx) (z : Bool) (a b : Word) (s : State) : Out :=
  clocked (fun s => s.aesRxFrame n.val rx.phase.toNat rx.period rx.ok z a b) s

/-- A channel of a MADI frame: inactive reads 0 with SUBSTITUTED, a parity error discards it. -/
def madiChan (w : Word) : Option (Word × Tag) :=
  if !(w.getLsbD 1) then some (0, 2) else if parityOk w then some (subSample w, 0) else none

/-- MADI_RX_FRAME (10 R215): a frame of `period` ECLK completes at phase `phase` of the tick, its sync symbols good or not. -/
def State.madiRxFrame (s : State) (m phase period : Nat) (ok : Bool) (subs : List Word) : State :=
  let i := 32 + m
  if s.rd (Reg.MADI_STATUS.RXSTATE m) = 0 then s
  else if s.straddles i false phase period then s
  else if !ok || !((subs.getD 0 0).getLsbD 0) then (s.put (Reg.MADI_STATUS.SYNCERR m) true).rxBad i
  else
    let f := (List.range (s.rxChans i)).map fun j => madiChan (subs.getD j 0)
    let lost := (f.filter fun c => c.isNone).length
    let s := if lost = 0 then s else (s.put (Reg.MADI_STATUS.PARITY m) true).bump (Reg.MADI_CNT.PARITY m) lost
    s.rxGood i phase f

/-- MADI_RX_FRAME (10 R215). -/
def execMadiRxFrame (m : Fin 2) (rx : FrameRx) (chans : List Word) (s : State) : Out :=
  clocked (fun s => s.madiRxFrame m.val rx.phase.toNat rx.period rx.ok chans) s

/-! ### Clock faults (R209) -/

/-- The receive direction's number. -/
def serialRx : SerialDir → Option Nat
  | .sapRx p => some p.val
  | .sapTx _ => none
  | .aesRx n => some (24 + n.val)
  | .madiRx m => some (32 + m.val)

/-- SAP_CLOCK_LOST (10 R209): a slave direction sees no edge for 2N ECLK. -/
def State.clockLost (s : State) (d : SerialDir) : State :=
  match d with
  | .sapTx p =>
    let x := s.txPort p.val
    let st := s.rd (Reg.SAP_STATUS.TXSTATE p.val)
    if sapMaster x.cfg ∨ st = 0 ∨ st = 3 then s
    else (((s.setTx p.val { x with good := 0, opened := false, rateGood := 0, rateBad := true, line := [] }).wr (Reg.SAP_STATUS.TXSTATE p.val) 3).put
      (Reg.SAP_STATUS.TX_CLKLOST p.val) true).portFault p.val true
  | .sapRx p =>
    let st := s.rd (Reg.SAP_STATUS.RXSTATE p.val)
    if sapMaster (s.rxPort p.val).cfg ∨ st = 0 ∨ st = 3 then s else s.rxLost p.val
  | .aesRx n => if s.rd (Reg.AES_RX_STATUS.STATE n.val) < 2 then s else s.rxLost (24 + n.val)
  | .madiRx m => if s.rd (Reg.MADI_STATUS.RXSTATE m.val) < 2 then s else s.rxLost (32 + m.val)

/-- SAP_CLOCK_LOST (10 R209). -/
def execSapClockLost (d : SerialDir) (s : State) : Out := clocked (fun s => s.clockLost d) s

/-- AES_LOCK_LOST (10 R213, R215): 4 frames missing or in violation; on a SAP direction nothing. -/
def execAesLockLost (d : SerialDir) (s : State) : Out :=
  clocked (fun s => match d with
    | .aesRx _ => s.clockLost d
    | .madiRx _ => s.clockLost d
    | .sapRx _ => s
    | .sapTx _ => s) s

/-- The rate offset of a window in units of 0.1 ppm, to the nearest, saturated to 16 bits. -/
def ratePpm (n64 eclk : Nat) : Int := satBits 16 (roundNearest (((n64 : Int) - eclk) * 10000000) (max eclk 1))

/-- A window beyond ±64N/1,000 (R209). -/
def rateOff (n64 eclk : Nat) : Bool := decide (n64 < ((n64 : Int) - eclk).natAbs * 1000)

/-- A rate window of a receive direction on its own clock. -/
def State.rxWindow (s : State) (i eclk : Nat) : State :=
  let x := s.rxPort i
  let n64 := 64 * eclkPerTick s.mult
  let s := if i < 24 then s.wrInt (Reg.SAP_PHASE.RXPPM i) (ratePpm n64 eclk) else s
  if x.rateBad then s.setRx i { x with rateBad := false }
  else if !(s.rxRuns i) then s
  else if rateOff n64 eclk then
    let s := s.setRx i { x with rateGood := 0 }
    if s.rxRateMis i then s
    else if i < 24 then ((s.wr (rxStateField i) 4).put (Reg.SAP_STATUS.RX_RATEMIS i) true).portFault i true
    else if i < 32 then ((s.wr (rxStateField i) 3).put (Reg.AES_RX_STATUS.RATEMIS (i - 24)) true).portFault i true
    else ((s.wr (rxStateField i) 3).put (Reg.MADI_STATUS.RATEMIS (i - 32)) true).portFault i true
  else if s.rxRateMis i then
    if 3 ≤ x.rateGood then ((s.setRx i { x with rateGood := 0 }).wr (rxStateField i) 2).portFault i false
    else s.setRx i { x with rateGood := x.rateGood + 1 }
  else s

/-- The input rate of a window of 64 frames in units of 0.1 Hz (R216). -/
def State.windowRate (s : State) (eclk : Nat) : Nat :=
  640 * eclkPerTick s.mult * s.rate / max eclk 1

/-- Input rate / output rate, unsigned 8.24, truncated. -/
def State.asrcRatio (s : State) (rate : Nat) : Nat := rate * 2 ^ 24 / (10 * s.rate)

/-- A lane's measured rate. -/
def State.laneRate (s : State) (l rate : Nat) : State :=
  (s.wr (Reg.SAP_ASRC_STATUS.INRATE l) rate).wr (Reg.SAP_ASRC_RATIO.RATIO l) (s.asrcRatio rate)

/-- An input outside 32-192 kHz puts its lane in FAULT (R216). -/
def State.laneRange (s : State) (l rate : Nat) : State :=
  if 320000 ≤ rate ∧ rate ≤ 1920000 then s
  else (((s.wr (Reg.SAP_ASRC_STATUS.STATE l) 3).put (Reg.SAP_ASRC_STATUS.RANGE l) true)).condition Src.ASRC_RANGE true

/-- A rate window of an ASYNC direction: each lane it feeds takes the rate; a step of more than 100 ppm sends
it to ACQUIRE, and one beyond its range to FAULT (R209, R216). -/
def State.asyncWindow (s : State) (i eclk : Nat) : State :=
  let (ift, port) := rxIf i
  let rate := s.windowRate eclk
  (s.portHitches false ift port).foldl (fun s p =>
    if p.2.asrcEn then
      let l := p.2.asrc
      let old := s.rd (Reg.SAP_ASRC_STATUS.INRATE l)
      let step := decide (old < ((rate : Int) - old).natAbs * 10000)
      let s := s.laneRate l rate
      if rate < 320000 ∨ 1920000 < rate then s.laneRange l rate
      else if s.rd (Reg.SAP_ASRC_STATUS.STATE l) = 3 then
        if 320000 ≤ rate ∧ rate ≤ 1920000 then
          (s.wr (Reg.SAP_ASRC_STATUS.STATE l) 1).condition Src.ASRC_RANGE false
        else s
      else if step then s.wr (Reg.SAP_ASRC_STATUS.STATE l) 1 else s
    else s) s

/-- A rate window of a slave transmit direction. -/
def State.txWindow (s : State) (p eclk : Nat) : State :=
  let x := s.txPort p
  let st := s.rd (Reg.SAP_STATUS.TXSTATE p)
  let f := Reg.SAP_STATUS.TXSTATE p
  if x.rateBad then s.setTx p { x with rateBad := false }
  else if sapMaster x.cfg ∨ (st ≠ 2 ∧ st ≠ 4) then s
  else if rateOff (64 * eclkPerTick s.mult) eclk then
    let s := s.setTx p { x with rateGood := 0 }
    if st = 4 then s else ((s.wr f 4).put (Reg.SAP_STATUS.TX_RATEMIS p) true).portFault p true
  else if st = 4 then
    if 3 ≤ x.rateGood then ((s.setTx p { x with rateGood := 0 }).wr f 2).portFault p false
    else s.setTx p { x with rateGood := x.rateGood + 1 }
  else s

/-- SAP_RATE_WINDOW (10 R209): the length of a completed 64-frame window in ECLK. -/
def execSapRateWindow (d : SerialDir) (eclk : Nat) (s : State) : Out :=
  clocked (fun s => match d, serialRx d with
    | .sapTx p, _ => s.txWindow p.val eclk
    | .sapRx p, some i => if sapMaster (s.rxPort p.val).cfg then s
        else if s.rxAsync i then s.asyncWindow i eclk else s.rxWindow i eclk
    | _, some i => if s.rxAsync i then s.asyncWindow i eclk else s.rxWindow i eclk
    | _, none => s) s

/-! ### ASRC lanes (R216) -/

/-- The input of a lane's hitch is present: its direction delivers frames. -/
def State.asrcInput (s : State) (h : Hitch) : Bool :=
  if h.iftype = 1 then s.rxRuns h.port else if h.iftype = 2 then s.rxRuns (24 + h.port)
  else if h.iftype = 3 then s.rxRuns (32 + h.port) else false

/-- The lane's output at a boundary, which stands for the instant 16 ticks before (R151, R216): a free function of its
rate estimate and its input around that instant (log 160), marked UNSETTLED until the lane is LOCKED. -/
def State.asrcOutput (s : State) (h : Hitch) : State :=
  let st := s.rd (Reg.SAP_ASRC_STATUS.STATE h.asrc)
  if s.asrcInput h && decide (st = 1 ∨ st = 2) then
    let at0 : Int := ((s.tick : Int) - 16) * eclkPerTick s.mult
    let l := (sget [] h.asrc s.ser.asrc).map fun q : Nat × Word => ((q.1 : Int) - at0, q.2)
    s.offer (chanKey asrcIf h.asrc 0) (Config.asrcOut (s.rd (Reg.SAP_ASRC_RATIO.RATIO h.asrc)) l) (if st = 1 then 1 else 0)
  else s

/-- Lanes named by a valid hitch run, the others are idle; each running lane gives its output. -/
def State.asrcBoundary (s : State) : State :=
  let hs := (s.hitches false).filter fun p => p.2.valid && p.2.asrcEn
  let s := (List.range 64).foldl (fun s l =>
    let used := hs.any fun p => decide (p.2.asrc = l)
    if used then (if s.rd (Reg.SAP_ASRC_STATUS.STATE l) = 0 then s.wr (Reg.SAP_ASRC_STATUS.STATE l) 1 else s)
    else (s.wr (Reg.SAP_ASRC_STATUS.STATE l) 0).onSer fun r => { r with asrc := serase l r.asrc }) s
  hs.foldl (fun s p => s.asrcOutput p.2) s

/-- ASRC_LOCKED (10 R216): the ratio estimate has settled at an input rate in units of 0.1 Hz. -/
def execAsrcLocked (l : Fin 64) (rate : Nat) (s : State) : Out :=
  clocked (fun s => if s.rd (Reg.SAP_ASRC_STATUS.STATE l.val) = 1 then
    (s.laneRate l.val rate).wr (Reg.SAP_ASRC_STATUS.STATE l.val) 2 else s) s

/-- ASRC_FAULT (10 R216): an input rate outside 32-192 kHz, in units of 0.1 Hz. -/
def execAsrcFault (l : Fin 64) (rate : Nat) (s : State) : Out :=
  clocked (fun s => if s.rd (Reg.SAP_ASRC_STATUS.STATE l.val) = 1 ∨ s.rd (Reg.SAP_ASRC_STATUS.STATE l.val) = 2 then
    (s.laneRate l.val rate).laneRange l.val rate else s) s

/-! ### Transmit (R206, R208, R210, R214) -/

/-- The frame of zeros of ACQUIRE and RATEMIS; a slot without a hitch follows HIZ. -/
def State.zeroFrame (s : State) (p : Nat) : List (Option Word) :=
  let c := (s.txPort p).cfg
  (List.range (sapSlots c)).map fun j =>
    if (s.portHitches true 1 p).any fun h => decide (h.2.chan = j) then some 0
    else if c.getLsbD 14 then none else some 0

/-- The frame that the egress stage loads for a SAP port, each sample rounded to DW bits. -/
def State.sapEgress (s : State) (p : Nat) : List (Option Word) :=
  let c := (s.txPort p).cfg
  (List.range (sapSlots c)).map fun j => match s.egressOf (chanKey 1 p j) with
    | some (v, _) => some (roundTo (sapDw c) v)
    | none => if c.getLsbD 14 then none else some 0

/-- The egress stage loads a SAP port (R208, R209): the frame becomes the one to send 32 ECLK before the
next boundary (R152). -/
def State.sapLoad (s : State) (p : Nat) : State :=
  let x := s.txPort p
  let st := s.rd (Reg.SAP_STATUS.TXSTATE p)
  if st = 0 then s
  else if st = 3 then s.bump (Reg.SAP_TXCNT.SKIP p) 1
  else s.setTx p { x with next := some (s.sapEgress p) }

/-- From 32 ECLK before the boundary of tick m + 1 the frame loaded in tick m is the one to send (R152); an
older one that was never sent is discarded and counted in SKIP (R208). -/
def State.sapPromote (s : State) (p : Nat) : State :=
  let x := s.txPort p
  match x.next with
  | none => s
  | some f =>
    let s := if x.fresh && !(sapMaster x.cfg) && decide (s.rd (Reg.SAP_STATUS.TXSTATE p) = 2)
      then s.bump (Reg.SAP_TXCNT.SKIP p) 1 else s
    s.setTx p { x with next := none, loaded := f, fresh := true }

/-- A frame goes on the pins of a SAP direction, with the levels of FS that a master drives. -/
def TxPort.send (x : TxPort) (f : List (Option Word)) : TxPort :=
  { x with sent := f, line := sapLine x.cfg f, fs := if sapMaster x.cfg then sapFs x.cfg else [] }

/-- At a boundary a master transmit direction sends the frame loaded in the tick before (R152), or its zeros
in ACQUIRE, of which it sends two (R210). -/
def State.sapMasterTx (s : State) (p : Nat) : State :=
  let s := s.sapPromote p
  let x := s.txPort p
  let st := s.rd (Reg.SAP_STATUS.TXSTATE p)
  if !(sapMaster x.cfg) || decide (st = 0) then s
  else if st = 1 then
    if 2 ≤ x.good then ((s.setTx p { x.send x.loaded with good := 0, fresh := false }).wr (Reg.SAP_STATUS.TXSTATE p) 2)
    else s.setTx p { x.send (s.zeroFrame p) with good := x.good + 1 }
  else s.setTx p { x.send x.loaded with fresh := false }

/-- A transmit direction in RUN begins an external frame: the loaded frame, or the previous one again. -/
def State.sapTxNext (s : State) (p : Nat) : State :=
  let x := s.txPort p
  if x.fresh then s.setTx p { x.send x.loaded with fresh := false } else s.bump (Reg.SAP_TXCNT.REPEAT p) 1

/-- A slave transmit frame begins `phase` ECLK after the last boundary, and with it ends the one before, well
formed or not (R208-R210). -/
def State.sapTxFrame (s : State) (p phase : Nat) (ok : Bool) : State :=
  let s := if eclkPerTick s.mult ≤ phase + 32 then s.sapPromote p else s
  let s := if ok then s else s.setTx p { s.txPort p with rateBad := true }
  let x := s.txPort p
  let st := s.rd (Reg.SAP_STATUS.TXSTATE p)
  if sapMaster x.cfg ∨ st = 0 then s
  else match st with
    | 2 => s.sapTxNext p
    | 4 => s.setTx p { x.send (s.zeroFrame p) with fresh := false }
    | _ =>
      if ok && x.opened && decide (1 ≤ x.good) then
        (((s.setTx p { x with good := 0 }).wr (Reg.SAP_STATUS.TXSTATE p) 2).portFault p false).sapTxNext p
      else s.setTx p { x.send (s.zeroFrame p) with opened := true, good := if ok && x.opened then x.good + 1 else 0 }

/-- SAP_TX_FRAME (10 R208): an external frame begins, well formed or not. -/
def execSapTxFrame (p : Fin 24) (phase : BitVec 15) (ok : Bool) (s : State) : Out :=
  clocked (fun s => s.sapTxFrame p.val phase.toNat ok) s

/-- The frame that the egress stage loads for an AES3 or MADI transmitter: 24-bit samples. -/
def State.aesEgress (s : State) (ift port count : Nat) : List (Option Word) :=
  (List.range count).map fun j => some (match s.egressOf (chanKey ift port j) with
    | some (v, _) => roundTo 24 v
    | none => 0)

/-- The bytes of AES_TX_n_CS_0-CS_5, with byte 23 computed where CRC_EN and byte 0 bit 0 say so (R214). -/
def State.txStatusBytes (s : State) (n : Nat) : List Nat :=
  let b := (List.range 24).map fun i => s.rd (Reg.AES_TX_CS.CS n (i / 4)) / 256 ^ (i % 4) % 256
  if s.on (Reg.AES_TX_CFG.CRC_EN n) && decide (b.getD 0 0 % 2 = 1) then b.take 23 ++ [crcc b] else b

/-- The channel status written last comes into force (R214). -/
def State.csApply (s : State) (n : Nat) : State :=
  if (sget {} n s.ser.cs).armed then
    s.onSer fun r => { r with cs := sset {} n ⟨s.txStatusBytes n, false⟩ r.cs }
  else s

/-- A subframe as sent: its four first bits, the 24 bits of the sample, V and U 0, C, and P for even parity (R214, R215). -/
def subframe (head : Nat) (v : Word) (c : Bool) : Word :=
  let w : Word := BitVec.ofNat 32 head ||| (v <<< 4) ||| (if c then (1 : Word) <<< 30 else 0)
  if parityOk w then w else w ||| (1 : Word) <<< 31

/-- The C bit of a frame of a block: bit k of the channel status. -/
def statusBit (bytes : List Nat) (k : Nat) : Bool := decide (bytes.getD (k / 8) 0 / 2 ^ (k % 8) % 2 = 1)

/-- Biphase mark coding from a level: a transition opens each bit, and one divides a 1. PRESUMED from AES3 (log 154). -/
def biphase (level : Bool) : List Bool → List Bool × Bool
  | [] => ([], level)
  | b :: r =>
    let first := !level
    let second := if b then !first else first
    let (l, e) := biphase second r
    (first :: second :: l, e)

/-- The eight cells of a preamble, X, Y or Z, after a line level of 0. PRESUMED from AES3 (log 154). -/
def preamble (z first : Bool) : List Bool :=
  if z && first then [true, true, true, false, true, false, false, false]
  else if first then [true, true, true, false, false, false, true, false]
  else [true, true, true, false, false, true, false, false]

/-- An AES3 frame's cells on the line from a level, with the level it ends at. -/
def aesCells (z : Bool) (level : Bool) : Bool → List Word → List Bool × Bool
  | _, [] => ([], level)
  | first, w :: r =>
    let p := (preamble z first).map fun b => b != level
    let (l, e) := biphase (p.getLastD level) ((List.range 28).map fun i => w.getLsbD (4 + i))
    let (q, e') := aesCells z e false r
    (p ++ l ++ q, e')

/-- The 4B5B symbol of four bits, the first bit sent most significant. PRESUMED from AES10 (log 154). -/
def symbol4b5b (n : Nat) : Nat :=
  [0b11110, 0b01001, 0b10100, 0b10101, 0b01010, 0b01011, 0b01110, 0b01111,
   0b10010, 0b10011, 0b10110, 0b10111, 0b11010, 0b11011, 0b11100, 0b11101].getD n 0

/-- The bits of a number, the most significant first. -/
def bitsMsb (n v : Nat) : List Bool := (List.range n).map fun i => decide (v / 2 ^ (n - 1 - i) % 2 = 1)

/-- The code bits of a MADI subframe: its bits from 0 on by fours. -/
def madiSymbols (w : Word) : List Bool :=
  (List.range 8).flatMap fun k => bitsMsb 5 (symbol4b5b (msbFirst ((List.range 4).map fun i => w.getLsbD (4 * k + i))))

/-- NRZI from a level: a 1 changes it. -/
def nrzi (level : Bool) : List Bool → List Bool × Bool
  | [] => ([], level)
  | b :: r =>
    let l := level != b
    let (q, e) := nrzi l r
    (l :: q, e)

/-- A MADI frame on the line: its subframes, then as many sync symbols as 125 Mbaud leave room for (R215). -/
def madiCells (rate : Nat) (level : Bool) (subs : List Word) : List Bool × Bool :=
  let sync := bitsMsb 10 0b1100010001
  let fill := (125000000 / rate - 40 * subs.length) / 10
  nrzi level (subs.flatMap madiSymbols ++ (List.replicate fill sync).flatten)

/-- An AES3 frame goes on the pins: two subframes with the C bits of its place in the block. -/
def State.aesSend (s : State) (i : Nat) (f : List (Option Word)) : State :=
  let s := if (s.txPort i).pos = 0 then s.csApply (i - 24) else s
  let x := s.txPort i
  let c := statusBit (sget {} (i - 24) s.ser.cs).bytes x.pos
  let subs := f.map fun v => subframe 0 (v.getD 0) c
  let (l, e) := aesCells (decide (x.pos = 0)) x.level true subs
  s.setTx i { x with sent := subs.map some, line := l.map some, level := e, pos := (x.pos + 1) % 192 }

/-- A MADI frame goes on the pins: frame start in channel 0, every channel of the mode active, A and B channels, block
start at the first frame of 192, C 0 (R215; log 154). -/
def State.madiSend (s : State) (i : Nat) (f : List (Option Word)) : State :=
  let x := s.txPort i
  let subs := (f.zip (List.range f.length)).map fun p =>
    subframe ((decide (p.2 = 0)).toNat + 2 + 4 * (p.2 % 2) + 8 * (decide (x.pos = 0)).toNat) (p.1.getD 0) false
  let (l, e) := madiCells s.rate x.level subs
  s.setTx i { x with sent := subs.map some, line := l.map some, level := e, pos := (x.pos + 1) % 192 }

/-- An AES3 or MADI transmitter is enabled. -/
def txEn (i : Nat) (c : Word) : Bool := if i < 32 then c.getLsbD 0 else c.getLsbD 1

/-- Channels of an AES3 or MADI transmitter. -/
def txCount (i : Nat) (c : Word) : Nat := if i < 32 then 2 else madiChans (wfield c 2 2)

/-- At a boundary an enabled AES3 or MADI transmitter sends the frame loaded in the tick before, after two frames of zeros
from its restart (R152, R210, R226). -/
def State.aesTx (s : State) (i : Nat) : State :=
  let x := s.txPort i
  if txEn i x.cfg then
    let f := if 2 ≤ x.good then x.loaded else List.replicate (txCount i x.cfg) (some 0)
    let s := s.setTx i { x with good := min 2 (x.good + 1) }
    if i < 32 then s.aesSend i f else s.madiSend i f
  else s.setTx i { x with sent := [], line := [] }

/-- The egress stage loads an AES3 or MADI transmitter. -/
def State.aesLoad (s : State) (i : Nat) : State :=
  let x := s.txPort i
  let (ift, port) := rxIf i
  s.setTx i { x with loaded := s.aesEgress ift port (txCount i x.cfg) }

/-- AES_TX_CS_APPLY (10 R214): the coming boundary begins a block after CS_5 was written. -/
def execAesTxCsApply (n : Fin 8) (s : State) : Out :=
  clocked (fun s => if (s.txPort (24 + n.val)).pos = 0 then s.csApply n.val else s) s

/-! ### Configuration (R210) -/

/-- A SAP configuration that R203, R205 and R210 admit at the live rate multiple. -/
def sapCfgLegal (mult : Nat) (tx : Bool) (c : Word) : Bool :=
  let fmt := wfield c 2 2
  let n := sapSlots c
  decide (fmt ≤ 2) && decide (wfield c 4 3 ≤ 4) && decide (n ≤ 32 / 2 ^ mult) && (decide (fmt = 2) || decide (n = 2)) &&
    decide (sapDw c ≤ sapSlotW c) && !(!tx && sapMaster c && c.getLsbD 14)

/-- A SAP configuration comes into force and restarts the direction. -/
def State.sapCfgApply (s : State) (p : Nat) (tx : Bool) : State :=
  if tx then
    if (s.txPort p).staged then
      let c := s.word ((fieldsAt (p * 0x40 + 0xC0004)).getD [])
      (((s.setTx p { cfg := c }).wr (Reg.SAP_STATUS.TXSTATE p) (sapEn c).toNat)).portFault p false
    else s
  else if (s.rxPort p).staged then
    let c := s.word ((fieldsAt (p * 0x40 + 0xC0000)).getD [])
    ((((s.setRx p { cfg := c, since := s.tick }).wr (Reg.SAP_STATUS.RXSTATE p) (sapEn c).toNat)).lanesReacquire p).portFault p false
  else s

/-- A write of SAP_pp_RXCFG or SAP_pp_TXCFG: checked, then staged for the next boundary if it changes the
register. -/
def State.writeSapCfg (s : State) (p : Nat) (tx : Bool) (v : Word) : State :=
  let a := 0xC0000 + p * 0x40 + 4 * tx.toNat
  let old := s.word ((fieldsAt a).getD [])
  let new := v &&& 0x7FFF#32
  if sapCfgLegal s.mult tx new && !(s.channelsBeyond tx 1 p (sapSlots new)) then
    s.guarded a v fun s =>
      if new = old then s
      else if tx then s.setTx p { s.txPort p with staged := true } else s.setRx p { s.rxPort p with staged := true }
  else s.refuseWrite a

/-- SAP_CFG_WRITE (10 R210). -/
def execSapCfgWrite (p : Fin 24) (tx : Bool) (v : Word) (s : State) : Out :=
  core (fun s => s.control (0xC0000 + p.val * 0x40 + 4 * tx.toNat) v fun s => s.writeSapCfg p.val tx v) s

/-- SAP_CFG_APPLY (10 R210). -/
def execSapCfgApply (p : Fin 24) (tx : Bool) (s : State) : Out := clocked (fun s => s.sapCfgApply p.val tx) s

/-- AES_RX_n_CFG follows R210: staged where it changes the register. -/
def State.writeAesRxCfg (s : State) (n : Nat) (v : Word) : State :=
  let a := 0xD0000 + n * 0x40
  let old := s.word ((fieldsAt a).getD [])
  s.guarded a v fun s =>
    if v &&& 7#32 = old then s else s.setRx (24 + n) { s.rxPort (24 + n) with staged := true }

/-- MADI_m_CFG: a MODE that does not match the live rate multiple, or that leaves a valid hitch beyond its
channels, is refused (R215, R210). -/
def State.writeMadiCfg (s : State) (m : Nat) (v : Word) : State :=
  let a := 0xD0400 + m * 0x40
  let mode := wfield v 2 2
  let fits := if mode = 2 then decide (s.mult = 1) else decide (s.mult = 0)
  let cnt := madiChans mode
  let old := s.word ((fieldsAt a).getD [])
  if mode = 3 ∨ fits = false ∨ s.channelsBeyond false 3 m cnt = true ∨ s.channelsBeyond true 3 m cnt = true then
    s.refuseWrite a
  else
    s.guarded a v fun s =>
      if v &&& 0x1F#32 = old then s
      else (s.setRx (32 + m) { s.rxPort (32 + m) with staged := true }).setTx (32 + m)
        { s.txPort (32 + m) with staged := true }

/-- AES_TX_n_CFG follows R210 (R226). -/
def State.writeAesTxCfg (s : State) (n : Nat) (v : Word) : State :=
  let a := 0xD0200 + n * 0x40
  let old := s.word ((fieldsAt a).getD [])
  s.guarded a v fun s =>
    if s.word ((fieldsAt a).getD []) = old then s else s.setTx (24 + n) { s.txPort (24 + n) with staged := true }

/-- AES3 and MADI configurations that wait for the boundary come into force. -/
def State.aesCfgApply (s : State) (i : Nat) : State :=
  let x := s.rxPort i
  let s := if x.staged then
      let c := s.word ((fieldsAt (if i < 32 then 0xD0000 + (i - 24) * 0x40 else 0xD0400 + (i - 32) * 0x40)).getD [])
      (((s.setRx i { cfg := c, since := s.tick }).wr (rxStateField i) (c.getLsbD 0).toNat).lanesReacquire i).portFault i false
    else s
  if (s.txPort i).staged then
    s.setTx i { cfg := s.word ((fieldsAt (if i < 32 then 0xD0200 + (i - 24) * 0x40 else 0xD0400 + (i - 32) * 0x40)).getD []) }
  else s

/-- AES_TX_n_CS_k: a write of CS_5 arms the new status (R214). -/
def State.writeAesTxCs (s : State) (n k : Nat) (v : Word) : State :=
  s.guarded (0xD0210 + n * 0x40 + 4 * k) v fun s =>
    if k = 5 then s.onSer fun r => { r with cs := sset {} n { sget {} n r.cs with armed := true } r.cs } else s

/-- Every interface configuration that is due at a boundary (02 R32 step 2). -/
def State.serialCfgTick (s : State) : State :=
  let s := (List.range 24).foldl (fun s p => (s.sapCfgApply p false).sapCfgApply p true) s
  (List.range 10).foldl (fun s i => s.aesCfgApply (24 + i)) s

/-- FS of a master receive direction in the tick that begins (R202, R204). -/
def State.rxPins (s : State) (p : Nat) : State :=
  let x := s.rxPort p
  s.setRx p { x with fs := if sapEn x.cfg && sapMaster x.cfg then sapFs x.cfg else [] }

/-- Every receive direction's frame at a boundary. -/
def State.serialIngress (s : State) : State :=
  let s := (List.range 34).foldl State.rxBoundary s
  let s := (List.range 24).foldl State.rxPins s
  s.asrcBoundary

/-- The boundary of every transmit direction clocked by the node. -/
def State.serialTxTick (s : State) : State :=
  (List.range 10).foldl (fun s i => s.aesTx (24 + i)) ((List.range 24).foldl State.sapMasterTx s)

/-- The egress stage's loads of the serial interfaces. -/
def State.serialLoad (s : State) : State :=
  (List.range 10).foldl (fun s i => s.aesLoad (24 + i)) ((List.range 24).foldl State.sapLoad s)

end Sys2Proof.Machine
end

