-- ==== Sys2Proof/Machine/Decim.lean ====
section
/-! DEFINITION. Decimation of 1-bit bitstreams (10 R218-R224, R227). -/

namespace Sys2Proof.Machine

/-- A decimation channel's record. -/
def State.decCh (s : State) (c : Nat) : DecCh := sget {} c s.ser.dec

def State.setDec (s : State) (c : Nat) (x : DecCh) : State := s.onSer fun r => { r with dec := sset {} c x r.dec }

/-- The configuration fields of a channel in force (R227). -/
def decEn (c : Word) : Bool := c.getLsbD 0
def decOrder (c : Word) : Nat := 3 + wfield c 1 2
def decMdd (c : Word) : Nat := 1 + wfield c 3 1
def decHb (c : Word) : Bool := c.getLsbD 4
def decSet (c : Word) : Nat := wfield c 5 3
def decInv (c : Word) : Bool := c.getLsbD 8

/-- The divider code of a channel's PDM clock in force. -/
def State.pdmDiv (s : State) (c : Nat) : Nat :=
  let w := s.ser.pdmHeld.getD (s.word ((fieldsAt 0xE1500).getD [])).toNat
  w / 4 ^ ((c - 64) / 8) % 4

/-- The bit period of a channel in ECLK; 0 where its clock is off (R218). -/
def State.bitPeriod (s : State) (c : Nat) : Nat :=
  if c < 64 then 100 else match s.pdmDiv c with | 0 => 0 | 1 => 100 | 2 => 200 | _ => 400

/-- Bits of a channel in one tick. -/
def State.bitsPerTick (s : State) (c : Nat) : Nat :=
  if s.bitPeriod c = 0 then 0 else eclkPerTick s.mult / s.bitPeriod c

/-- The CIC ratio (R219). -/
def cicRatio (bits : Nat) (hb : Bool) : Nat := if hb then bits / 2 else bits

/-- The exponent G of R220. -/
def cicGrowth (n m r : Nat) : Nat := n * Nat.log2 (r * m)

/-- An integer reduced to 46-bit two's complement (R220). -/
def wrap46 (x : Int) : Int := (code 46 x).toInt

/-- One bit through the integrators, each adding the sum of the one before. -/
def integrate (x : Int) : List Int → List Int
  | [] => []
  | a :: r => let y := wrap46 (a + x); y :: integrate y r

/-- The combs of delay M; each keeps its last M inputs, latest first. -/
def combStages (m : Nat) (x : Int) : List (List Int) → Int × List (List Int)
  | [] => (x, [])
  | d :: r =>
    let y := wrap46 (x - d.getD (m - 1) 0)
    let (z, ds) := combStages m y r
    (z, (x :: d).take m :: ds)

/-- A CIC result as s.31, and whether it saturated (R220). -/
def cicScale (g : Nat) (v : Int) : Int × Bool :=
  let x := if g ≤ 31 then v * 2 ^ (31 - g) else roundNearest v (2 ^ (g - 31))
  (satBits 32 x, decide (satBits 32 x ≠ x))

/-- The integrators over the bits of one group. -/
def groupBits (inv : Bool) (ints : List Int) (bits : List Bool) : List Int :=
  bits.foldl (fun l b => integrate (if b = inv then -1 else 1) l) ints

/-- The code of a coefficient as the bits of the tick that ended meet it (R221). -/
def State.coefAt (s : State) (key : Nat) (f : FieldRef) : Nat :=
  ((sfind key s.ser.coefPast).orElse fun _ => sfind key s.ser.coefHeld).getD (s.rd f)

/-- A coefficient in force: the value a write of this tick replaces stays until the boundary (R221). -/
def State.decCoef (s : State) (set t : Nat) : Int :=
  let f := Reg.DEC_COEF.COEF set t
  f.signed (s.coefAt (set * 32 + t) f)

/-- A half-band tap in force (R222). -/
def State.decTap (s : State) (i : Nat) : Int :=
  let f := Reg.DEC_HB.COEF i
  f.signed (s.coefAt (256 + i) f)

/-- The compensation FIR on its history (R221). -/
def State.decFir (s : State) (set : Nat) (h : List Int) : Int :=
  roundNearest (((List.range 32).map fun t => s.decCoef set t * h.getD t 0).sum) (2 ^ 28)

/-- The half-band stage on its history: 0.5 at the centre, the taps at odd offsets (R222). -/
def State.decHalf (s : State) (h : List Int) : Int :=
  let side := ((List.range 8).map fun i => s.decTap i * (h.getD (15 - (2 * i + 1)) 0 + h.getD (15 + (2 * i + 1)) 0)).sum
  roundNearest (h.getD 15 0 * 2 ^ 30 + side) (2 ^ 31)

/-- π as a fraction, to 34 decimal places. -/
def piNum : Nat := 31415926535897932384626433832795029
def piDen : Nat := 10000000000000000000000000000000000

/-- K of R223 in units of 2^-31, for a cutoff in 0.01 Hz and a tick rate. -/
def dcConstant (fc rate : Nat) : Nat :=
  (roundNearest ((2 ^ 32 * piNum * fc : Nat) : Int) (piDen * 100 * rate)).toNat

/-- The DC blocker (R223): output, new estimate, and whether the output saturated. -/
def dcBlock (k : Nat) (freeze : Bool) (m x : Int) : Int × Int × Bool :=
  let y := x - roundNearest m (2 ^ 16)
  let m' := if freeze then m else m + roundNearest ((k : Int) * (x * 2 ^ 16 - m)) (2 ^ 31)
  (satBits 32 y, m', decide (satBits 32 y ≠ y))

/-- A channel's progress through the groups of one tick. -/
structure DecRun where
  ch : DecCh
  last : Int
  sat : Bool

/-- One group of R bits: a CIC output and the FIR output it gives. -/
def State.decGroup (s : State) (bits : List Bool) (r : DecRun) : DecRun :=
  let c := r.ch.cfg
  let n := decOrder c
  let m := decMdd c
  let ints := groupBits (decInv c) (if r.ch.ints.isEmpty then List.replicate n 0 else r.ch.ints) bits
  let (v, combs) := combStages m (ints.getLastD 0) (if r.ch.combs.isEmpty then List.replicate n [] else r.ch.combs)
  let (x, s1) := cicScale (cicGrowth n m bits.length) v
  let fir := (x :: r.ch.fir).take 32
  let y := s.decFir (decSet c) fir
  let z := satBits 32 y
  ⟨{ r.ch with ints := ints, combs := combs, fir := fir, hb := if decHb c then (z :: r.ch.hb).take 31 else [] },
    z, r.sat || s1 || decide (z ≠ y)⟩

/-- A restart: CIC, FIR and half-band state is cleared, the DC estimate kept only with FREEZE (R224). -/
def State.decRestart (s : State) (c : Nat) : State :=
  let x := s.decCh c
  let cfg := s.word ((fieldsAt (0xE0000 + c * 0x10)).getD [])
  let s := s.setDec c { cfg := cfg, m := if s.on (Reg.DEC_CH_DC.FREEZE c) then x.m else 0,
                        k := dcConstant (s.rd (Reg.DEC_CH_DC.FC c)) s.rate }
  let n := if decEn cfg then decOrder cfg * decMdd cfg + 32 else 0
  (s.wr (Reg.DEC_CH_STATUS.SETTLE c) n).put (Reg.DEC_CH_STATUS.UNSETTLED c) (decide (n ≠ 0))

/-- The last UNSETTLED output of a channel is used up. -/
def State.decSettled (s : State) (c : Nat) : State :=
  if s.rd (Reg.DEC_CH_STATUS.SETTLE c) = 0 then s.put (Reg.DEC_CH_STATUS.UNSETTLED c) false else s

/-- A channel's output at a boundary from the bits of the tick that ended (R219-R224). -/
def State.decOutput (s : State) (c : Nat) (bits : List Bool) : State :=
  let x := s.decCh c
  let s := s.put (Reg.DEC_CH_STATUS.NOCLK c) (decide (s.bitPeriod c = 0))
  if !(decEn x.cfg) || decide (s.bitPeriod c = 0) then s
  else
    let n := s.bitsPerTick c
    let bits := (List.range n).map fun i => bits.getD i false
    let r := cicRatio n (decHb x.cfg)
    let s := s.wr (Reg.DEC_CH_STATUS.RATIO c) r
    let g := s.decGroup (bits.take r) ⟨x, 0, false⟩
    let g := if decHb x.cfg then s.decGroup (bits.drop r) g else g
    let h := s.decHalf g.ch.hb
    let v := if decHb x.cfg then satBits 32 h else g.last
    let byp := s.on (Reg.DEC_CH_DC.BYP c)
    let (y, m, s3) := if byp then (v, x.m, false) else dcBlock x.k (s.on (Reg.DEC_CH_DC.FREEZE c)) x.m v
    let sat := g.sat || (decHb x.cfg && decide (v ≠ h)) || s3
    let s := s.setDec c { g.ch with m := m }
    let s := if sat then (s.put (Reg.DEC_CH_STATUS.SAT c) true).raise Src.DEC_SAT else s
    let left := s.rd (Reg.DEC_CH_STATUS.SETTLE c)
    let s := s.onSer fun q => { q with decOut := sset 0 c (code 32 v) q.decOut }
    let s := s.offer (chanKey 4 c 0) (code 32 y) (if left = 0 then 0 else 1)
    (s.wr (Reg.DEC_CH_STATUS.SETTLE c) (left - 1)).decSettled c

/-- The outputs of all channels at a boundary, with the coefficients of the tick that ended. -/
def State.decTick (s : State) (bits : Nat → List Bool) : State :=
  ((List.range 96).foldl (fun s c => s.decOutput c (bits c)) s).onSer fun r => { r with coefPast := [] }

/-- Coefficients written in the tick before come into force: the bits of that tick still meet the old ones (R221). -/
def State.decCoefTick (s : State) : State := s.onSer fun r => { r with coefHeld := [], coefPast := r.coefHeld }

/-- Configurations of channels and dividers come into force (R224). -/
def State.decCfgTick (s : State) : State :=
  let s := s.onSer fun r => { r with pdmHeld := none }
  (List.range 96).foldl (fun s c => if (s.decCh c).restart then s.decRestart c else s) s

/-- DEC_CH_cc_CFG: a start or a switch at the next boundary (R224). -/
def State.writeDecCfg (s : State) (c : Nat) (v : Word) : State :=
  s.guarded (0xE0000 + c * 0x10) v fun s => s.setDec c { s.decCh c with restart := true }

/-- DEC_CH_cc_DC: K is computed anew; no switch (R223, R224). -/
def State.writeDecDc (s : State) (c : Nat) (v : Word) : State :=
  s.guarded (0xE0004 + c * 0x10) v fun s =>
    s.setDec c { s.decCh c with k := dcConstant (s.rd (Reg.DEC_CH_DC.FC c)) s.rate }

/-- DEC_COEF_s_tt and DEC_HB_i: the old value stays in force until the boundary. -/
def State.writeDecCoef (s : State) (a key : Nat) (f : FieldRef) (v : Word) : State :=
  let old := s.rd f
  let s := s.guarded a v id
  if (sfind key s.ser.coefHeld).isSome then s
  else s.onSer fun r => { r with coefHeld := sinsert key old r.coefHeld }

/-- DEC_PDMCLK: the channels of a divider that changes switch at the next boundary. -/
def State.writePdmClk (s : State) (v : Word) : State :=
  let old := (s.word ((fieldsAt 0xE1500).getD [])).toNat
  let s := s.guarded 0xE1500 v id
  let s := s.onSer fun r => { r with pdmHeld := some (r.pdmHeld.getD old) }
  (List.range 32).foldl (fun s j =>
    if old / 4 ^ (j / 8) % 4 = v.toNat / 4 ^ (j / 8) % 4 then s
    else s.setDec (64 + j) { s.decCh (64 + j) with restart := true }) s

/-- DEC_SWITCH (10 R224): the boundary of a start or a switch. -/
def execDecSwitch (c : Fin 96) (s : State) : Out :=
  clocked (fun s => if (s.decCh c.val).restart then s.decRestart c.val else s) s

/-- DEC_SETTLED (10 R224). -/
def execDecSettled (c : Fin 96) (s : State) : Out := clocked (fun s => s.decSettled c.val) s

end Sys2Proof.Machine
end

