-- ==== Sys2Proof/Machine/Amp.lean ====
section
/-! DEFINITION. Amplifier drive and loudspeaker protection (11 R228-R247). -/

namespace Sys2Proof.Machine

/-- A drive channel's record. -/
def State.ampCh (s : State) (n : Nat) : AmpCh := sget {} n s.amp.ch

def State.setAmp (s : State) (n : Nat) (x : AmpCh) : State := s.onAmp fun r => { r with ch := sset {} n x r.ch }

/-- The channel's state of R237. -/
def State.ampSt (s : State) (n : Nat) : Nat := s.rd (Reg.AMP_CH_STATUS.STATE n)

/-- N_T of R235: a time of T ms in ticks at the live rate. -/
def State.msTicks (s : State) (ms : Nat) : Nat := ceilDiv (ms * s.rate) 1000

/-- AMP_STATUS.NDIAG counts the channels in DIAG. -/
def State.countDiag (s : State) : State :=
  s.wr Reg.AMP_STATUS.NDIAG (((List.range 32).filter fun n => decide (s.ampSt n = 2)).length)

/-- A new state with its pins: the coming boundary begins its tick 0. -/
def State.ampGo (s : State) (n st : Nat) (drive : Drive) (pse rly : Bool) (part : Nat) : State :=
  let x := s.ampCh n
  let errs := if st = 0 then [] else x.errs
  let hist := if st = 0 then [] else x.hist
  let none := decide (st = 7) && x.noRetry
  let x := { x with drive := drive, pse := pse, rly := rly, t := 0, part := part, acted := true, errs := errs, hist := hist, noRetry := none }
  ((s.setAmp n x).wr (Reg.AMP_CH_STATUS.STATE n) st).countDiag

/-! ### Modulator (R229-R231) -/

/-- The edges of legs A and B in fine steps (R231): A rises and falls, B rises and falls. -/
def pwmEdges (j : Int) : Int × Int × Int × Int := (6400 - j, 19200 + j, 6400 + j, 19200 - j)

/-- h_i of AMP_NS_i, in units of 2^-27. -/
def State.noiseTap (s : State) (i : Nat) : Int := (Reg.AMP_NS.H i).signed (s.rd (Reg.AMP_NS.H i))

/-- An edge at a position in fine steps: RCLK cycle f >> 3 and f mod 8 fine steps (R231). -/
def edgeAt (f : Int) : Edge := ⟨f.toNat / 8, f.toNat % 8⟩

/-- The pulses of a carrier period with its j (R231). -/
def pulseOf (j : Int) : Pulse :=
  let (a, b, c, d) := pwmEdges j
  ⟨edgeAt a, edgeAt b, edgeAt c, edgeAt d⟩

/-- One carrier period of the modulator on an interpolated s.31 sample: j, the errors, latest first, and
whether it clamped (R229). -/
def State.modulate (s : State) (errs : List Int) (x : Word) : Int × List Int × Bool :=
  let u := sval x * (s.rd Reg.AMP_MOD.USCALE) * 2
  let v := u - (((List.range 5).map fun i => roundNearest (s.noiseTap i * errs.getD i 0) (2 ^ 27)).sum)
  let r := roundNearest v (2 ^ 32)
  let jmax : Int := s.rd Reg.AMP_MOD.JMAX
  let j := clampInt (-jmax) jmax r
  (j, ((v - r * 2 ^ 32) :: errs).take 5, decide (j ≠ r))

/-- The j of the carrier periods `l` of a tick of `periods`, from the interpolator of R228, a free function of the whipped
samples (log 180), with the errors after them and whether any clamped. -/
def State.modPeriods (s : State) (hist : List Word) (periods : Nat) : List Nat → List Int → List Int × List Int × Bool
  | [], errs => ([], errs, false)
  | k :: l, errs =>
    let (j, errs, c) := s.modulate errs (Config.ampInterp hist k periods)
    let (js, errs, c') := State.modPeriods s hist periods l errs
    (j :: js, errs, c || c')

/-- DC level of a diagnostic in the present tick of its ramp (R239). -/
def State.diagLevel (s : State) (t : Nat) : Int :=
  let j := s.rd Reg.AMP_DIAG.DIAGJ
  let a := s.msTicks 14
  let b := s.msTicks 24
  let c := s.msTicks 44
  let d := s.msTicks 54
  if t < a then 0 else if t < b then ((j * (t - a) / (b - a) : Nat) : Int)
  else if t < c then (j : Int) else if t < d then ((j * (d - t) / (d - c) : Nat) : Int) else 0

/-- The carrier periods of a tick of modulation. After the gap of R245 the carrier restarts with j = 0 (DEDUCED, log 181:
in its first period). -/
def State.ampModulate (s : State) (n periods : Nat) : State :=
  let x := s.ampCh n
  let l := if x.restart then (List.range periods).drop 1 else List.range periods
  let (js, errs, c) := s.modPeriods x.hist periods l x.errs
  let s := s.setAmp n { x with js := if x.restart then 0 :: js else js, errs := errs }
  if c then s.bump (Reg.AMP_CH_CNT.CLAMPS n) 1 else s

/-- The periods that the legs make in a tick: none while they are held. -/
def State.ampPeriods (s : State) (n periods : Nat) : State :=
  let x := s.ampCh n
  match x.drive with
  | .modulated => s.ampModulate n periods
  | .idle => s.setAmp n { x with js := List.replicate periods 0 }
  | .dc => s.setAmp n { x with js := List.replicate periods (s.diagLevel x.t) }
  | .low => s.setAmp n { x with js := [] }
  | .high => s.setAmp n { x with js := [] }

/-- The pulses of a tick, after the whipped sample of the tick has joined those of the interpolator (R228, R231). -/
def State.ampPulses (s : State) (n : Nat) : State :=
  let x := s.ampCh n
  let v := ((s.egressOf (chanKey 8 n 0)).map Prod.fst).getD 0
  let s := if s.ampSt n = 0 then s else s.setAmp n { x with hist := (v :: x.hist).take 9 }
  let s := s.ampPeriods n (eclkPerTick s.mult / 1600)
  let x := s.ampCh n
  s.setAmp n { x with pulses := x.js.map pulseOf, restart := false }

/-! ### Estimates and the power limit (R232-R236) -/

/-- An exponential mean's step by R235: toward x with the constant k in 2^-31. -/
def meanStep (m x : Int) (k : Nat) : Int := m + roundNearest ((x - m) * k) (2 ^ 31)

/-- k_T of R235. -/
def State.gainConst (s : State) (ms : Nat) : Nat := (roundNearest (2 ^ 31) (max 1 (s.msTicks ms))).toNat

/-- The square root of a fraction to the nearest integer, a tie to the even one. -/
def sqrtNearest (bits num den : Nat) : Nat :=
  let r := isqrt bits (num / den)
  let a := (2 * r + 1) * (2 * r + 1) * den
  if a < 4 * num then r + 1 else if a = 4 * num ∧ r % 2 = 1 then r + 1 else r

/-- A sense channel carries UNSETTLED: it has not settled, the sample of the tick is tagged so, or it has none (R232). -/
def State.chanUnsettled (s : State) (c : Nat) : Bool :=
  s.on (Reg.DEC_CH_STATUS.UNSETTLED c) || ((sfind (chanKey 4 c 0) s.str.inp).map fun x => x.tag.getLsbD 0).getD true

/-- Either sense channel carries UNSETTLED (R232). -/
def State.senseUnsettled (s : State) (n : Nat) : Bool := s.chanUnsettled n || s.chanUnsettled (32 + n)

/-- The sense samples of the tick. -/
def State.senseV (s : State) (n : Nat) : Int := sval (sget 0 n s.ser.decOut)
def State.senseI (s : State) (n : Nat) : Int := sval (sget 0 (32 + n) s.ser.decOut)

/-- The average power in watts is P × 10^-5 × 2^-62 here: the unit in which v × i × VFS × IFS is an integer. -/
def State.instPower (s : State) (n : Nat) : Int :=
  s.senseV n * s.senseI n * (s.rd (Reg.AMP_CH_SCALE.VFS n)) * (s.rd (Reg.AMP_CH_SCALE.IFS n))

/-- 0.1 W in units of P. -/
def tenthWatt : Nat := 10000 * 2 ^ 62

/-- The target gain of R235: exact, then rounded. -/
def State.gainTarget (s : State) (n : Nat) (g p : Int) : Int :=
  let lim := s.rd (Reg.AMP_CH_PLIM.PLIM n) * tenthWatt
  if s.on (Reg.AMP_CH_CTRL.PLIM_EN n) && decide ((lim : Int) < p) then
    sqrtNearest 32 (g.toNat * g.toNat * lim) p.toNat
  else 2147483647

/-- The impedance estimate of R234. -/
def State.impedance (s : State) (n : Nat) (mv mi : Int) : State :=
  let vfs := s.rd (Reg.AMP_CH_SCALE.VFS n)
  let ifs := s.rd (Reg.AMP_CH_SCALE.IFS n)
  if mi * ifs * ifs < 2500 * 2 ^ 62 then s.put (Reg.AMP_CH_STATUS.LOWSIG n) true
  else
    let z := sqrtNearest 40 (mv.toNat * vfs * vfs * 1000000) (mi.toNat * ifs * ifs)
    (s.put (Reg.AMP_CH_STATUS.LOWSIG n) false).wr (Reg.AMP_CH_Z.ZEST n) (min z 65535)

/-- The power gain moves toward a target by step 3 of R235. -/
def State.moveGain (s : State) (n : Nat) (target : Int) : State :=
  let g := (s.ampCh n).g
  let ms := if target < g then s.rd (Reg.AMP_CH_TIME.ATTACK n) else s.rd (Reg.AMP_CH_TIME.RELEASE n)
  let g' := g + roundNearest ((target - g) * (s.gainConst ms)) (2 ^ 31)
  (s.setAmp n { s.ampCh n with g := g' }).wr (Reg.AMP_CH_PWR.GR n) ((code 32 g').toNat / 65536)

/-- The gain by the power limit, with its reports (R235, R236, R246). -/
def State.limitGain (s : State) (n : Nat) : State :=
  let x := s.ampCh n
  let target := s.gainTarget n x.g x.p
  let lim := decide (target < 2147483647)
  let was := s.on (Reg.AMP_CH_STATUS.PLIM_ACT n)
  let s := (s.moveGain n target).put (Reg.AMP_CH_STATUS.PLIM_ACT n) lim
  if lim && !was then s.raise Src.AMP_PLIM else s

/-- The estimates of a tick: P, the means of R234 and the impedance. -/
def State.ampEstimate (s : State) (n : Nat) : State :=
  let x := s.ampCh n
  if s.senseUnsettled n || s.on (Reg.AMP_CH_STATUS.SENSE_LOST n) then s
  else
    let k1 := (roundNearest (2 ^ 31) s.rate).toNat
    let p := meanStep x.p (s.instPower n) (s.gainConst (s.rd (Reg.AMP_CH_TIME.WINDOW n)))
    let mv := meanStep x.mv (s.senseV n * s.senseV n) k1
    let mi := meanStep x.mi (s.senseI n * s.senseI n) k1
    let s := s.setAmp n { x with p := p, mv := mv, mi := mi }
    (s.impedance n mv mi).wr (Reg.AMP_CH_PWR.P n) (clampInt 0 65535 (roundNearest p tenthWatt)).toNat

/-- From a latch-off to the end of the retry that follows, g keeps its value (R242). -/
def State.gainHeld (s : State) (n : Nat) : Bool :=
  let x := s.ampCh n
  match s.ampSt n with
  | 1 => x.retry
  | 2 => x.retry
  | 6 => decide (x.after ≠ .off)
  | 7 => true
  | _ => false

/-- The power gain of a tick (R232, R233, R235). -/
def State.powerGain (s : State) (n : Nat) : State :=
  if s.senseUnsettled n || s.gainHeld n then s
  else if s.on (Reg.AMP_CH_STATUS.SENSE_LOST n) then
    let loss : Int := sval (BitVec.ofNat 32 (s.rd (Reg.AMP_CH_PLIM.PLOSS n) * 2 ^ 24 + 0xFFFFFF))
    if loss < (s.ampCh n).g then s.moveGain n loss else s
  else s.limitGain n

/-! ### Loss of a sense bitstream (R233) -/

/-- A bit of a sense bitstream. -/
def SenseBits.step (x : SenseBits) (b : Bool) : SenseBits :=
  let still := if b = x.last then x.still + 1 else 1
  { last := b, still := min still 256, good := if 256 ≤ still then 0 else min (x.good + 1) 1024 }

/-- A bitstream of a channel is lost. -/
def State.senseLost (s : State) (n : Nat) : State :=
  if s.on (Reg.AMP_CH_STATUS.SENSE_LOST n) then s
  else
    let s := s.setAmp n { s.ampCh n with senseBad := true }
    let z := fun (c : Nat) (m : SMap SenseBits) => sset {} c { sget {} c m with good := 0 } m
    let s := s.onAmp fun r => { r with sense := z n (z (32 + n) r.sense) }
    (s.put (Reg.AMP_CH_STATUS.SENSE_LOST n) true).raise Src.AMP_SENSE

/-- Both bitstreams have shown transitions for 1,024 bits and both sense channels have settled. -/
def State.senseBack (s : State) (n : Nat) : Bool :=
  let good := fun c => decide ((sget {} c s.amp.sense).good = 1024)
  good n && good (32 + n) && !s.senseUnsettled n

/-- The bits of the tick that ended through the sense bitstreams whose decimation channels run. -/
def State.senseTick (s : State) (bits : Nat → List Bool) : State :=
  let s := (List.range 64).foldl (fun s c =>
    if decEn (s.decCh c).cfg then
      let x := ((bits c).take (s.bitsPerTick c)).foldl SenseBits.step (sget {} c s.amp.sense)
      let s := s.onAmp fun r => { r with sense := sset {} c x r.sense }
      if x.still = 256 then s.senseLost (c % 32) else s
    else s) s
  (List.range 32).foldl (fun s n =>
    if s.on (Reg.AMP_CH_STATUS.SENSE_LOST n) && s.senseBack n then s.put (Reg.AMP_CH_STATUS.SENSE_LOST n) false else s) s

/-- The sequencing gain d of a tick (R237). -/
def State.seqGain (s : State) (n : Nat) : Nat × Nat :=
  let x := s.ampCh n
  match s.ampSt n with
  | 4 => (min (x.t + 1) (s.msTicks 20), s.msTicks 20)
  | 5 => (1, 1)
  | 6 => if x.part = 0 then (s.msTicks 10 - (x.t + 1), s.msTicks 10) else (0, 1)
  | _ => (0, 1)

/-- The gains that act in the whipping of the tick that begins: those computed two ticks before it, the second of the list
until the tick's own join it (R236). -/
def State.ampActing (s : State) (n : Nat) : AmpGain := (s.ampCh n).gains.getD 1 {}

/-! ### Starting, stopping and diagnostics (R237-R239) -/

/-- The phase of a diagnostic at a tick of it, 1-7 (R239). -/
def State.diagPhase (s : State) (t : Nat) : Nat :=
  if t < s.msTicks 2 then 1 else if t < s.msTicks 4 then 2 else if t < s.msTicks 14 then 3
  else if t < s.msTicks 24 then 4 else if t < s.msTicks 44 then 5 else if t < s.msTicks 54 then 6 else 7

/-- The pins of a diagnostic's phase. -/
def State.diagPins (s : State) (n : Nat) (phase : Nat) : State :=
  let x := s.ampCh n
  s.setAmp n { x with
    pse := true, rly := decide (3 ≤ phase)
    drive := if phase = 1 then .low else if phase = 2 then .high
             else if phase = 4 ∨ phase = 5 ∨ phase = 6 then .dc else .idle }

/-- A diagnostic begins. -/
def State.diagEnter (s : State) (n : Nat) : State :=
  let x := s.ampCh n
  ((s.setAmp n { x with vsum := 0, isum := 0, cnt := 0, senseBad := s.on (Reg.AMP_CH_STATUS.SENSE_LOST n) }).ampGo
    n 2 .low true false 0).onAmp fun r => { r with entered := true }

/-- The lowest channel in DIAG_WAIT. -/
def State.diagNext (s : State) : Option Nat := (List.range 32).find? fun n => decide (s.ampSt n = 1)

/-- A place is free and no channel has entered for the coming boundary. -/
def State.diagPlace (s : State) : Bool := decide (s.rd Reg.AMP_STATUS.NDIAG < 8) && !s.amp.entered

/-- The stop path with no ramp: the bridge idles, the relay opens, and PSE falls RLYT later (R238). -/
def State.stopPath (s : State) (n : Nat) (after : StopTo) : State :=
  (s.setAmp n { s.ampCh n with after := after }).ampGo n 6 .idle true false 1

/-- A diagnostic ends with a result (R239, R241). -/
def State.diagEnd (s : State) (n res : Nat) : State :=
  let x := s.ampCh n
  let s := (s.wr (Reg.AMP_CH_STATUS.DIAG_RES n) res).put (Reg.AMP_CH_CTRL.RUNDIAG n) false
  if res = 1 then
    if x.once then s.stopPath n .off
    else (s.wr (Reg.AMP_CH_STATUS.RETRIES n) (if x.retry then 0 else s.rd (Reg.AMP_CH_STATUS.RETRIES n))).ampGo n 4
      .modulated true true 0
  else if x.retry then
    let r := s.rd (Reg.AMP_CH_STATUS.RETRIES n) + 1
    (s.wr (Reg.AMP_CH_STATUS.RETRIES n) (min r 3)).stopPath n (if 3 ≤ r then .locked else .latched)
  else (s.raise Src.AMP_DIAG).stopPath n .off

/-- The evaluation of phase 7 (R239). Of means that are both 0 it states no quotient: a free value (log 184). -/
def State.diagEvaluate (s : State) (n : Nat) : State :=
  let x := s.ampCh n
  let v := x.vsum.natAbs * s.rd (Reg.AMP_CH_SCALE.VFS n)
  let i := x.isum.natAbs * s.rd (Reg.AMP_CH_SCALE.IFS n)
  let (f, s) := if v = 0 ∧ i = 0 then s.nextFree else (0, s)
  let z := if v = 0 ∧ i = 0 then (Config.freeWord f).toNat % 65536
           else if i = 0 then 65535 else (roundNearest ((v * 1000 : Nat) : Int) i).toNat
  let s := s.wr (Reg.AMP_CH_Z.ZDIAG n) (min z 65535)
  let short := decide (v * 1000 < s.rd Reg.AMP_DIAG.ZSHORT * i)
  let open_ := s.on (Reg.AMP_CH_CTRL.OPEN_EN n) &&
    (decide (10000 * i < v * 1000) || decide (i < 5 * max 1 x.cnt * 2 ^ 31))
  s.diagEnd n (if short then 4 else if open_ then 5 else if x.senseBad then 6 else 1)

/-- A tick of phase 5 adds the sense samples (R239). -/
def State.diagSample (s : State) (n : Nat) : State :=
  let x := s.ampCh n
  if s.ampSt n = 2 ∧ s.diagPhase x.t = 5 ∧ s.senseUnsettled n = false then
    s.setAmp n { x with vsum := x.vsum + s.senseV n, isum := x.isum + s.senseI n, cnt := x.cnt + 1 }
  else s

/-- A channel starts from OFF, with its diagnostic or without (R238). -/
def State.ampBegin (s : State) (n : Nat) (diag : Bool) : State :=
  let s := s.setAmp n { s.ampCh n with once := false, retry := false }
  if diag then s.ampGo n 1 .low false false 0 else s.ampGo n 3 .idle true false 0

/-- A write of EN = 0 stops a channel (R238). A RUNDIAG that it stops gives no result, and its bit clears (DEDUCED, log 185). -/
def State.ampStop (s : State) (n : Nat) : State :=
  let x := s.ampCh n
  let s := s.put (Reg.AMP_CH_CTRL.RUNDIAG n) false
  match s.ampSt n with
  | 1 => s.ampGo n 0 .low false false 0
  | 2 => s.stopPath n .off
  | 3 => s.stopPath n .off
  | 4 => (s.setAmp n { x with after := .off }).ampGo n 6 .modulated true true 0
  | 5 => (s.setAmp n { x with after := .off }).ampGo n 6 .modulated true true 0
  | 6 => s.setAmp n { x with after := .off }
  | 7 => if x.part = 1 then s.ampGo n 0 .low false false 0 else s.setAmp n { x with after := .off }
  | _ => s

/-- A write of RUNDIAG to a channel in OFF (R239). -/
def State.ampRunDiag (s : State) (n : Nat) : State :=
  ((s.setAmp n { s.ampCh n with once := true, retry := false }).put (Reg.AMP_CH_CTRL.RUNDIAG n) true).ampGo n 1
    .low false false 0

/-- CTRL.CLR moves LOCKED_OFF to OFF (R241). -/
def State.ampClear (s : State) (n : Nat) : State :=
  (s.ampGo n 0 .low false false 0).wr (Reg.AMP_CH_STATUS.RETRIES n) 0

/-- What a standby keeps of a write of AMP_CH_nn_CTRL: the ACTIVE chip's state machine governs, and what a state received
from it does not tell is taken from the write (R243; DEDUCED, log 187). -/
def State.ampNote (s : State) (n : Nat) (v : Word) : State :=
  let x := s.ampCh n
  let s := if v.getLsbD 4 && decide (s.ampSt n = 8) then s.wr (Reg.AMP_CH_STATUS.RETRIES n) 0 else s
  if v.getLsbD 0 then (if s.ampSt n = 0 then s.setAmp n { x with once := false, retry := false } else s)
  else if s.ampSt n = 0 then
    (if v.getLsbD 5 then
      (s.setAmp n { x with once := true, retry := false }).put (Reg.AMP_CH_CTRL.RUNDIAG n) true
    else s)
  else (s.setAmp n { x with after := .off }).put (Reg.AMP_CH_CTRL.RUNDIAG n) false

/-- A write of AMP_CH_nn_CTRL (R238, R239, R241). -/
def State.writeAmpCtrl (s : State) (n : Nat) (v : Word) : State :=
  let a := 0xF0100 + n * 0x20
  let en := v.getLsbD 0
  if en && (decide (s.rd (Reg.AMP_CH_SCALE.VFS n) = 0) || decide (s.rd (Reg.AMP_CH_SCALE.IFS n) = 0)) then s.refuseWrite a
  else
    s.guarded a v fun s =>
      if s.isStandby then s.ampNote n v
      else
        let s := if v.getLsbD 4 && decide (s.ampSt n = 8) then s.ampClear n else s
        if en then
          if s.ampSt n = 0 then s.ampBegin n (s.on (Reg.AMP_CH_CTRL.DIAG_EN n)) else s
        else if s.ampSt n = 0 then (if v.getLsbD 5 then s.ampRunDiag n else s)
        else s.ampStop n

/-! ### Timed events (R238-R241) -/

/-- A channel's timed events. -/
inductive AmpEvent where
  | relayClose | unmute | run | relayOpen | pseOff | phaseEnd | latchRelay | retry | retryReset
deriving DecidableEq, Repr

/-- The event due when a channel has been `t` ticks in its present step. -/
def State.ampDue (s : State) (n t : Nat) : Option AmpEvent :=
  let x := s.ampCh n
  let rlyt := s.msTicks (s.rd Reg.AMP_DIAG.RLYT)
  match s.ampSt n with
  | 2 => if s.diagPhase t ≠ s.diagPhase (t - 1) ∨ s.msTicks 60 ≤ t then some .phaseEnd else none
  | 3 => if x.part = 0 then (if s.msTicks 1 ≤ t then some .relayClose else none)
         else if rlyt ≤ t then some .unmute else none
  | 4 => if s.msTicks 20 ≤ t then some .run else none
  | 5 => if s.msTicks 10000 ≤ t ∧ x.part = 0 then some .retryReset else none
  | 6 => if x.part = 0 then (if s.msTicks 10 + 6 ≤ t then some .relayOpen else none)
         else if rlyt ≤ t then some .pseOff else none
  | 7 => if x.part = 0 then (if s.msTicks 2 ≤ t then some .latchRelay else none)
         else if s.msTicks 1000 ≤ t ∧ x.noRetry = false then some .retry else none
  | _ => none

/-- A timed event takes place when the channel has been `t` ticks in its step. -/
def State.ampEvent (s : State) (n t : Nat) (e : AmpEvent) : State :=
  let x := s.ampCh n
  match e with
  | .relayClose => s.ampGo n 3 .idle true true 1
  | .unmute => s.ampGo n 4 .modulated true true 0
  | .run => s.ampGo n 5 .modulated true true 0
  | .relayOpen => s.ampGo n 6 .idle true false 1
  | .pseOff =>
    match x.after with
    | .off => s.ampGo n 0 .low false false 0
    | .latched => s.ampGo n 7 .low false false 1
    | .locked => (s.ampGo n 8 .low false false 0).raise Src.AMP_LOCKOUT
  | .phaseEnd =>
    if s.msTicks 60 ≤ t then s.diagEvaluate n
    else (s.setAmp n { x with t := t }).diagPins n (s.diagPhase t)
  | .latchRelay =>
    if x.after = .off then s.ampGo n 0 .low false false 0
    else s.setAmp n { x with rly := false, part := 1, t := t }
  | .retry => (s.setAmp n { x with retry := true, once := false }).ampGo n 1 .low false false 0
  | .retryReset => (s.setAmp n { x with part := 1, t := t }).wr (Reg.AMP_CH_STATUS.RETRIES n) 0

/-- What has begun since the last boundary has its tick 0 in the tick that begins. -/
def State.ampFirst (s : State) (n : Nat) : State := s.setAmp n { s.ampCh n with acted := false }

/-- A channel at a tick boundary: its timer runs, and the event due takes place. -/
def State.ampAdvance (s : State) (n : Nat) : State :=
  let x := s.ampCh n
  if x.acted then s.ampFirst n
  else
    match s.ampDue n (x.t + 1) with
    | some e => (s.ampEvent n (x.t + 1) e).ampFirst n
    | none => s.setAmp n { x with t := x.t + 1 }

/-- The command of a timed event: it takes place when it is due at the coming boundary. -/
def State.ampCommand (s : State) (n : Nat) (p : AmpEvent → Bool) : State :=
  let x := s.ampCh n
  if x.acted || s.isStandby then s
  else match s.ampDue n (x.t + 1) with
    | some e =>
      if p e then
        let s := s.ampEvent n (x.t + 1) e
        s.setAmp n { s.ampCh n with acted := true }
      else s
    | none => s

/-- AMP_DIAG_ENTER: the lowest waiting channel takes a place. -/
def State.diagPromote (s : State) : State :=
  let s := if s.diagPlace then (match s.diagNext with | some n => (s.diagEnter n).ampFirst n | none => s) else s
  s.onAmp fun r => { r with entered := false }

/-- A channel's gains of the tick join the delay of R236. -/
def State.ampShift (s : State) (n : Nat) : State :=
  let x := s.ampCh n
  let (num, den) := s.seqGain n
  s.setAmp n { x with gains := (⟨x.g, num, den⟩ :: x.gains).take 2 }

/-- Both legs and PSE fall, and the channel is LATCHED (R241). -/
def State.ampLatch (s : State) (n : Nat) : State :=
  let x := s.ampCh n
  let s := (s.setAmp n { x with after := .latched, ocRun := 0, lastOc := none, latchDue := false }).ampGo n 7 .low false x.rly
    (if x.rly then 0 else 1)
  (((s.put (Reg.AMP_CH_STATUS.LATCH_EV n) true).bump (Reg.AMP_CH_CNT.LATCHES n) 1)).raise Src.AMP_LATCH

/-- The latch-off of a channel whose carrier boundary is the boundary of the tick. -/
def State.ampLatchDue (s : State) (n : Nat) : State := if (s.ampCh n).latchDue then s.ampLatch n else s

/-- The channels' tick where this chip governs. -/
def State.ampGovern (s : State) : State :=
  let s := (List.range 32).foldl (fun s n => (s.ampLatchDue n).ampAdvance n) s
  (List.range 32).foldl (fun s n => (((s.diagSample n).ampEstimate n).powerGain n).ampShift n) s.diagPromote

/-- The AMP block at a tick boundary. On a standby the received state and gains govern, and its estimates act on nothing
until a takeover (R243, R244). -/
def State.ampTick (s : State) : State :=
  let s := if s.isStandby then (List.range 32).foldl State.ampEstimate s else s.ampGovern
  (List.range 32).foldl State.ampPulses s

/-! ### Short circuit (R240, R241) -/

/-- The failure of a diagnostic's phase on overcurrent; phases 5 and 7 have none (R239). -/
def diagOcResult (phase : Nat) : Option Nat :=
  match phase with
  | 1 => some 2
  | 2 => some 3
  | 3 => some 4
  | 4 => some 4
  | 6 => some 4
  | _ => none

/-- The next carrier boundary latches the channel off: at once where it lies in the present tick, else at the tick's
boundary (DEDUCED, log 188). -/
def State.ampLatchNext (s : State) (n k periods : Nat) : State :=
  if k + 1 < periods then
    let s := s.ampLatch n
    let x := s.ampCh n
    s.setAmp n { x with js := x.js.take (k + 1), pulses := x.pulses.take (k + 1) }
  else s.setAmp n { s.ampCh n with latchDue := true }

/-- A period of the present tick that contains a filtered assertion, the legs low in it from an RCLK cycle: it counts, and
the sixteenth in a row latches the channel off, unless a diagnostic's phase fails with it (R239-R241). -/
def State.ocPeriod (s : State) (n k cycle periods : Nat) : State :=
  let x := s.ampCh n
  let now := s.tick * periods + k
  if x.lastOc = some now then s
  else
    let run := if x.lastOc = some (now - 1) ∧ 0 < now then x.ocRun + 1 else 1
    let s := (s.setAmp n { x with lastOc := some now, ocRun := run, lowIn := some (now, cycle) }).bump (Reg.AMP_CH_CNT.OCPER n) 1
    if s.isStandby then s
    else match (if s.ampSt n = 2 then diagOcResult (s.diagPhase x.t) else none) with
      | some r => s.diagEnd n r
      | none => if 16 ≤ run then s.ampLatchNext n k periods else s

/-- OC_nn asserts at the ball in RCLK cycle c of carrier period k of the tick and outlasts the filter: the assertion is
filtered after 2 + OCFILT cycles, and the legs are low 2 cycles later (R240). In the gap of R175 it latches the channel off
(R245). -/
def State.overcurrent (s : State) (n k c : Nat) : State :=
  let st := s.ampSt n
  let filt := c + 2 + s.rd Reg.AMP_CTRL.OCFILT
  if 2 ≤ st ∧ st ≤ 6 then
    if !s.rclk then (if s.isStandby then s else s.ampLatch n)
    else s.ocPeriod n (k + filt / 3200) (filt % 3200 + 2) (eclkPerTick s.mult / 1600)
  else s

/-! ### The commands -/

/-- AMP_ENABLE (11 R238): a write of AMP_CH_nn_CTRL with EN = 1. -/
def execAmpEnable (n : Fin 32) (v : Word) (s : State) : Out :=
  core (fun s => s.control (0xF0100 + n.val * 0x20) (v ||| 1) fun s => s.writeAmpCtrl n.val (v ||| 1)) s

/-- AMP_DISABLE (11 R238): a write of AMP_CH_nn_CTRL with EN = 0. -/
def execAmpDisable (n : Fin 32) (v : Word) (s : State) : Out :=
  core (fun s => s.control (0xF0100 + n.val * 0x20) (v &&& ~~~1) fun s => s.writeAmpCtrl n.val (v &&& ~~~1)) s

/-- RUNDIAG (11 R239): a write of AMP_CH_nn_CTRL with RUNDIAG = 1. -/
def execRundiag (n : Fin 32) (v : Word) (s : State) : Out :=
  core (fun s => s.control (0xF0100 + n.val * 0x20) (v ||| 0x20) fun s => s.writeAmpCtrl n.val (v ||| 0x20)) s

/-- AMP_CLR (11 R241): a write of AMP_CH_nn_CTRL with CLR = 1. -/
def execAmpClr (n : Fin 32) (v : Word) (s : State) : Out :=
  core (fun s => s.control (0xF0100 + n.val * 0x20) (v ||| 0x10) fun s => s.writeAmpCtrl n.val (v ||| 0x10)) s

/-- AMP_RELAY_CLOSE (11 R238). -/
def execAmpRelayClose (n : Fin 32) (s : State) : Out := clocked (fun s => s.ampCommand n.val (· = .relayClose)) s

/-- AMP_UNMUTE_START (11 R238): after RLYT, or after a diagnostic's PASS. -/
def execAmpUnmuteStart (n : Fin 32) (s : State) : Out :=
  clocked (fun s => s.ampCommand n.val fun e =>
    e = .unmute || (e = .phaseEnd && decide (s.msTicks 60 ≤ (s.ampCh n.val).t + 1))) s

/-- AMP_RUN_ENTRY (11 R238). -/
def execAmpRunEntry (n : Fin 32) (s : State) : Out := clocked (fun s => s.ampCommand n.val (· = .run)) s

/-- AMP_STOP_RAMP_END (11 R238). -/
def execAmpStopRampEnd (n : Fin 32) (s : State) : Out := clocked (fun s => s.ampCommand n.val (· = .relayOpen)) s

/-- AMP_PSE_OFF (11 R238). -/
def execAmpPseOff (n : Fin 32) (s : State) : Out := clocked (fun s => s.ampCommand n.val (· = .pseOff)) s

/-- AMP_DIAG_ENTER (11 R239). -/
def execAmpDiagEnter (n : Fin 32) (s : State) : Out :=
  clocked (fun s => if s.diagPlace && decide (s.diagNext = some n.val) && !s.isStandby then s.diagEnter n.val else s) s

/-- AMP_DIAG_PHASE_END (11 R239). -/
def execAmpDiagPhaseEnd (n : Fin 32) (s : State) : Out := clocked (fun s => s.ampCommand n.val (· = .phaseEnd)) s

/-- AMP_LATCH_RELAY_OPEN (11 R241). -/
def execAmpLatchRelayOpen (n : Fin 32) (s : State) : Out := clocked (fun s => s.ampCommand n.val (· = .latchRelay)) s

/-- AMP_RETRY (11 R241). -/
def execAmpRetry (n : Fin 32) (s : State) : Out := clocked (fun s => s.ampCommand n.val (· = .retry)) s

/-- AMP_RETRY_RESET (11 R241). -/
def execAmpRetryReset (n : Fin 32) (s : State) : Out := clocked (fun s => s.ampCommand n.val (· = .retryReset)) s

/-- OC_ASSERT (11 R240), in an RCLK cycle of carrier period k of the tick. It acts in the gap of R175 too (R245). -/
def execOcAssert (n : Fin 32) (instant : OcInstant) (s : State) : Out :=
  core (fun s => s.overcurrent n.val instant.period.val instant.cycle.toNat) s

/-- SENSE_LOST (11 R233): the 256th bit with no transition. -/
def execSenseLost (n : Fin 32) (s : State) : Out := clocked (fun s => s.senseLost n.val) s

/-- SENSE_RESTORED (11 R233). -/
def execSenseRestored (n : Fin 32) (s : State) : Out :=
  clocked (fun s => if s.senseBack n.val then s.put (Reg.AMP_CH_STATUS.SENSE_LOST n.val) false else s) s

/-- Σ|h_i| in units of 2^-27 with one register replaced. -/
def State.tapSum (s : State) (i : Nat) (v : Word) : Nat :=
  ((List.range 5).map fun j => if j = i then (sval v).natAbs else (s.noiseTap j).natAbs).sum

/-- A write of AMP_MOD (0) or AMP_NS_0-AMP_NS_4 (1-5), refused by the bound of R230 or while a channel is not
OFF. -/
def State.writeAmpMod (s : State) (r : Nat) (v : Word) : State :=
  let a := if r = 0 then 0xF0008 else 0xF0010 + 4 * (r - 1)
  let uscale := if r = 0 then Reg.AMP_MOD.USCALE.part v else s.rd Reg.AMP_MOD.USCALE
  let jmax := if r = 0 then Reg.AMP_MOD.JMAX.part v else s.rd Reg.AMP_MOD.JMAX
  let taps := if r = 0 then s.tapSum 5 0 else s.tapSum (r - 1) v
  let busy := (List.range 32).any fun n => decide (s.ampSt n ≠ 0)
  if busy || decide (jmax < uscale + ceilDiv taps (2 ^ 28)) then s.refuseWrite a else s.guarded a v id

/-- AMP_MOD_WRITE (11 R230). -/
def execAmpModWrite (r : Fin 6) (v : Word) (s : State) : Out :=
  core (fun s => s.control (if r.val = 0 then 0xF0008 else 0xF0010 + 4 * (r.val - 1)) v fun s => s.writeAmpMod r.val v) s

end Sys2Proof.Machine
end

