-- ==== Sys2Proof/Machine/FabCore.lean ====
section
/-! DEFINITION. The fabric's transaction table and lock, and the working RAM with its check bits (15 R329-R342,
16 R365). -/

namespace Sys2Proof.Machine

/-- Changing the part `fab`. -/
def State.onFab (s : State) (f : FabState → FabState) : State := { s with fab := f s.fab }

/-! ### Working RAM (15 R330, 16 R365): codewords of 64 bits -/

/-- The error marks of the codewords that `n` bytes from an address on touch. -/
def State.ramMarks (s : State) (a n : Nat) : List EccMark :=
  (List.range ((a + n - 1) / 8 - a / 8 + 1)).filterMap fun i => s.eccMark (.ram (a / 8 + i))

/-- A single-bit error that a read meets is corrected and written back. -/
def State.ramFix (s : State) (a n : Nat) : State :=
  (List.range ((a + n - 1) / 8 - a / 8 + 1)).foldl (fun s i => s.eccClear (.ram (a / 8 + i))) s

/-- A read of working RAM: none at a double-bit error, which raises SUP_RAM. -/
def State.ramRead (s : State) (a n : Nat) : Option Nat × State :=
  let m := s.ramMarks a n
  if m.isEmpty then (some (s.load a n), s)
  else if m.any EccMark.double then (none, s.raise Src.SUP_RAM)
  else (some (s.load a n), s.ramFix a n)

/-- A codeword that a write covers whole is stored anew. -/
def State.ramCover (s : State) (a n : Nat) : State :=
  let lo := (a + 7) / 8
  let hi := (a + n) / 8
  if hi ≤ lo then s else s.eccClearRange (EccKey.ram lo).num (EccKey.ram hi).num

/-- A codeword that a write covers in part, and that is damaged beyond correction. -/
def State.ramTorn (s : State) (a n : Nat) : Bool :=
  let torn := fun w : Nat => (match s.eccMark (.ram w) with | some m => m.double | none => false) &&
    (decide (8 * w < a) || decide (a + n < 8 * w + 8))
  torn (a / 8) || torn ((a + n - 1) / 8)

/-- A write of working RAM: false where it would merge with a codeword that has a double-bit error. -/
def State.ramWrite (s : State) (a n v : Nat) : Bool × State :=
  if s.ramTorn a n then (false, s.raise Src.SUP_RAM)
  else (true, ((s.ramCover a n).ramFix a n).store a n v)

/-! ### Transactions (R335) -/

/-- The transactions of a master that have no response yet, those its outstanding limit still holds back included. -/
def FabState.outstanding (f : FabState) (m : Nat) : Nat :=
  (f.waiting.filter fun r => decide (r.master = m)).length +
    (f.served.filter fun p => decide (p.2.req.master = m) && !p.2.retired).length

/-- FAB_M_m_STATUS shows the transactions that are outstanding and those that drain. -/
def State.fabShow (s : State) : State :=
  (List.range 6).foldl (fun s m =>
    (s.wr (Reg.FAB_M_STATUS.OUTSTANDING m) (min (s.fab.outstanding m) (s.rd (Reg.FAB_M_CFG.OUTST m)))).put (Reg.FAB_M_STATUS.RETIRING m)
      (s.fab.served.any fun p => decide (p.2.req.master = m) && p.2.retired)) s

/-- FAB_STATUS shows the lock. -/
def State.lockShow (s : State) : State :=
  match s.fab.lock with
  | none => ((s.put Reg.FAB_STATUS.LOCKED false).wr Reg.FAB_STATUS.LOCK_MASTER 0).wr Reg.FAB_STATUS.LOCK_TARGET 0
  | some l => ((s.put Reg.FAB_STATUS.LOCKED true).wr Reg.FAB_STATUS.LOCK_MASTER l.master).wr
      Reg.FAB_STATUS.LOCK_TARGET l.target

/-- A later access of a port is still on its way. -/
def FabState.portBusy (f : FabState) (port : Nat) : Bool :=
  (f.waiting.any fun r => decide (r.port = port)) || f.served.any fun p => decide (p.2.req.port = port) && !p.2.retired

/-- The answer that a port of the host holds: that of its last access (17 R396, R398). -/
def State.portAnswer (s : State) (port data : Nat) (err : Bool) : State :=
  if port = 0 then s
  else
    let s := if port = 1 ∧ err = true then s.put Reg.HOST_STATUS.SPI_ERR true else s
    if s.fab.portBusy port then s
    else s.onFab fun f => { f with answers := sinsert port ⟨data, err, 3, 0⟩ f.answers }

/-- A transaction that is not performed completes with an error response. -/
def State.fabFail (s : State) (r : FabReq) (kind : Nat) : State :=
  ((s.fabError r.master r.id (fabTarget r.addr) kind r.addr r.write).portAnswer r.port 0 true)

/-- A reset of a master (R342): its requests and transactions are retired with error and drain, with no beats left
to deliver; its lock is released, and what it retires raises FAB_RETIRE. -/
def State.retireMaster (s : State) (m : Nat) : State :=
  let mine := (s.fab.served.filter fun p => decide (p.2.req.master = m) && !p.2.retired).map (fun p => p.2.req) ++
    s.fab.waiting.filter fun r => decide (r.master = m)
  let any := decide (0 < s.fab.outstanding m)
  let s := s.onFab fun f => { f with
    waiting := f.waiting.filter fun r => decide (r.master ≠ m)
    served := f.served.map fun p : Nat × FabGrant => (p.1, if p.2.req.master = m then
      { p.2 with retired := true, req := { p.2.req with size := 0 } } else p.2)
    lock := match f.lock with
      | some l => if l.master = m then none else some l
      | none => none }
  let s := mine.foldl (fun s r => s.portAnswer r.port 0 true) s
  let s := s.lockShow.fabShow
  if any then (s.put Reg.FAB_STATUS.RETIRED true).raise Src.FAB_RETIRE else s

end Sys2Proof.Machine
end

