-- ==== Sys2Proof/Machine/NetFrame.lean ====
section
/-! DEFINITION. Ethernet, IPv4, UDP and RTP frames as the MACs and the stream engine read and form them, and
the stamps of PTP event frames (12 R250-R257, 09 R189-R192). Lengths count from the destination address to
the FCS. -/

namespace Sys2Proof.Machine

/-- A byte of a frame; 0 past its end. -/
def fb (l : List Byte) (i : Nat) : Nat := (l.getD i 0).toNat

/-- A big-endian number of n bytes. -/
def be (l : List Byte) (i : Nat) : Nat → Nat
  | 0 => 0
  | n + 1 => be l i n * 256 + fb l (i + n)

/-- n big-endian bytes of a number. -/
def beBytes (n v : Nat) : List Byte := (List.range n).map fun i => BitVec.ofNat 8 (v / 256 ^ (n - 1 - i) % 256)

/-- One byte of a reflected CRC-32. -/
def crc32Step (c : Nat) : Nat → Nat
  | 0 => c
  | n + 1 => crc32Step (if c % 2 = 1 then Nat.xor (c / 2) 0xEDB88320 else c / 2) n

/-- The CRC-32 of IEEE 802.3 (13 R281). -/
def crc32 (l : List Byte) : Nat :=
  Nat.xor (l.foldl (fun c b => crc32Step (Nat.xor c b.toNat) 8) 0xFFFFFFFF) 0xFFFFFFFF

/-- One bit of the CRC-16 of R255. -/
def crc16Step (c : Nat) : Nat → Nat
  | 0 => c
  | n + 1 => crc16Step (if 0x8000 ≤ c then Nat.xor (c * 2 % 0x10000) 0x1021 else c * 2) n

/-- The CRC-16 of R255. -/
def crc16 (l : List Byte) : Nat := l.foldl (fun c b => crc16Step (Nat.xor c (b.toNat * 256)) 8) 0xFFFF

/-- The FCS of a frame's bytes as sent, least significant byte first. -/
def fcsBytes (l : List Byte) : List Byte := (beBytes 4 (crc32 l)).reverse

/-- The last four bytes are the FCS of the bytes before them. -/
def fcsOk (l : List Byte) : Bool := decide (fcsBytes (l.take (l.length - 4)) = l.drop (l.length - 4))

/-- Ones' complement sum of 16-bit words, an odd last byte padded with 0. -/
def onesSum : List Byte → Nat
  | [] => 0
  | [a] => a.toNat * 256
  | a :: b :: r => a.toNat * 256 + b.toNat + onesSum r

/-- Folding the carries of a ones' complement sum. -/
def foldSum (n : Nat) : Nat :=
  let n := n % 65536 + n / 65536
  let n := n % 65536 + n / 65536
  n % 65536 + n / 65536

/-- The Internet checksum of bytes and a partial sum. -/
def inetSum (part : Nat) (l : List Byte) : Nat := 65535 - foldSum (part + onesSum l)

/-- The frame carries a VLAN tag. -/
def tagged (l : List Byte) : Bool := decide (be l 12 2 = 0x8100)

/-- Where the EtherType stands, past at most one tag (R254). -/
def etherAt (l : List Byte) : Nat := if tagged l then 16 else 12

/-- Where the IPv4 header stands. -/
def ipAt (l : List Byte) : Nat := etherAt l + 2

/-- An IPv4 header without options, of no fragment, with UDP, that the frame holds whole (R254). -/
def isUdp (l : List Byte) : Bool :=
  let p := ipAt l
  decide (be l (etherAt l) 2 = 0x0800) && decide (fb l p = 0x45) && decide (be l (p + 6) 2 % 16384 = 0) &&
    decide (fb l (p + 9) = 17) && decide (p + 28 ≤ l.length)

/-- Destination and source addresses and destination port of a UDP frame. -/
def dstIp (l : List Byte) : Nat := be l (ipAt l + 16) 4
def srcIp (l : List Byte) : Nat := be l (ipAt l + 12) 4
def udpPort (l : List Byte) : Nat := be l (ipAt l + 22) 2

/-- The destination MAC address as a number. -/
def dstMac (l : List Byte) : Nat := be l 0 6

/-- The station address of a MAC (R272). -/
def State.station (s : State) (i : Nat) : Nat :=
  let lo := s.rd (Reg.MAC_ADDR_LO.ADDR i)
  let hi := s.rd (Reg.MAC_ADDR_HI.ADDR i)
  (List.range 4).foldl (fun n k => n * 256 + lo / 256 ^ k % 256) 0 * 65536 + hi % 256 * 256 + hi / 256 % 256

/-- The multicast MAC address of an IPv4 group. PRESUMED from RFC 1112. -/
def groupMac (ip : Nat) : Nat := 0x01005E000000 + ip % 0x800000

/-! ### Streams as their live descriptors describe them (R267) -/

/-- A word of a live descriptor: direction 0 ingress, 1 egress. -/
def State.descWord (s : State) (dir i w : Nat) : Word := sget 0 ((dir * 512 + i) * 16 + w) s.net.live

/-- The streams of a direction with a VALID descriptor, in order. -/
def State.validStreams (s : State) (dir : Nat) : List Nat :=
  (s.net.live.filter fun p => decide (p.1 % 16 = 0) && decide (p.1 / 8192 = dir) && p.2.getLsbD 0).map
    fun p => p.1 / 16 % 512

/-- Samples per channel and packet (R261). -/
def packetTicks (mult ptime : Nat) : Nat :=
  (match ptime with | 0 => 6 | 1 => 12 | 2 => 16 | 3 => 48 | _ => 192) * 2 ^ mult

/-- P of a stream. -/
def State.streamP (s : State) (dir i : Nat) : Nat := packetTicks s.mult (wfield (s.descWord dir i 0) 12 3)

/-- NCH of a stream; 0 without a VALID descriptor (02 R29). -/
def State.streamChans (s : State) (dir i : Nat) : Nat :=
  let w := s.descWord dir i 0
  if w.getLsbD 0 then wfield w 5 7 else 0

/-- Bytes of a sample: L16, L24, AM824 (R264). -/
def sampleBytes (fmt : Nat) : Nat := fmt + 2

/-- The MAC of a path of a stream: path 0 is A. -/
def pathMac (w0 : Word) (path : Nat) : Nat := 2 * wfield w0 2 1 + path

/-- The path of a stream that a MAC serves, if any. -/
def pathOf (w0 : Word) (mac : Nat) : Option Nat :=
  if mac = pathMac w0 0 then some 0 else if mac = pathMac w0 1 ∧ w0.getLsbD 1 then some 1 else none

/-- The ingress stream that takes a frame on a MAC (R254): destination address and port. -/
def State.mediaStream (s : State) (mac : Nat) (l : List Byte) : Option Nat :=
  if mac < 4 ∧ isUdp l then
    (s.validStreams 0).find? fun i =>
      match pathOf (s.descWord 0 i 0) mac with
      | none => false
      | some p => decide ((s.descWord 0 i (2 + p)).toNat = dstIp l) && decide (wfield (s.descWord 0 i 4) (16 * p) 16 = udpPort l)
  else none

/-- The destination is one the MAC accepts (R253). -/
def State.accepts (s : State) (mac : Nat) (l : List Byte) : Bool :=
  let d := dstMac l
  decide (d = s.station mac) || decide (d = 0xFFFFFFFFFFFF) || decide (d = 0x01005E000181) ||
    decide (d = 0x01005E000182) || (decide (fb l 0 % 2 = 1) && s.on (Reg.MAC_CTRL.MCALL mac)) ||
    (s.validStreams 0).any fun i => match pathOf (s.descWord 0 i 0) mac with
      | none => false
      | some p => decide ((s.descWord 0 i (2 + p)).toNat / 2 ^ 28 = 14) && decide (d = groupMac (s.descWord 0 i (2 + p)).toNat)

/-! ### Wake patterns (R255) -/

/-- The bytes that a pattern's mask selects, and the position past the last of them. -/
def State.wakeBytes (s : State) (k : Nat) (l : List Byte) : List Byte × Nat :=
  let sel := (List.range 128).filter fun b => (s.rd (Reg.MAC_WP_MASK.MASK k (b / 32))).testBit (b % 32)
  (sel.map fun b => l.getD b 0, match sel.getLast? with | some b => b + 1 | none => 0)

/-- Whether a pattern matches an error-free frame. -/
def State.wakeMatch (s : State) (mac k : Nat) (l : List Byte) : Bool :=
  let (b, n) := s.wakeBytes k l
  (s.rd (Reg.MAC_WP_CTRL.PORTS k)).testBit mac && decide (n ≤ l.length) && decide (crc16 b = s.rd (Reg.MAC_WP_CTRL.CRC k))

/-! ### PTP stamps (09 R189-R192) -/

/-- The latencies of a port in units of 1e-4 ns: receive and transmit (R190). -/
def State.portLat (s : State) (i : Nat) : Nat × Nat :=
  let r := s.rd (Reg.MAC_CTRL.RATE i)
  let b := s.rd (Reg.LANE_STATUS.SLIP i)
  if i < 4 then
    if r = 1 then (381250 + 388 * b, 293750) else (751875 + 970 * b, 585625)
  else if r = 2 then (80000, 120000) else if r = 1 then (800000, 1200000) else (8000000, 12000000)

/-- TIME_PORT_p_LAT shows the live figures in units of 2^-4 ns, rounded to nearest. -/
def State.showLat (s : State) (i : Nat) : State :=
  let (rx, tx) := s.portLat i
  (s.wr (Reg.TIME_PORT_LAT.RX i) ((rx * 16 + 5000) / 10000)).wr (Reg.TIME_PORT_LAT.TX i) ((tx * 16 + 5000) / 10000)

/-- The domain that a PTP event frame names on a port. -/
def State.ptpDomain (s : State) (port : Nat) (l : List Byte) : Option Nat :=
  if isUdp l ∧ udpPort l = 319 then
    (List.range 4).find? fun d => s.on (Reg.TIME_CTRL.EN d) &&
      decide (s.rd (Reg.TIME_CTRL.PAIR d) = if port = 4 then 2 else port / 2) &&
      decide (s.rd (Reg.TIME_CTRL.DOMNUM d) = fb l (ipAt l + 32))
  else none

/-- The stamp of a frame at a cycle and sixteenth of the tick `o` ticks from the present one, `scBack` cycles of SC ago, as
the 16 bytes of R192. The instant is computed exactly and rounded once. -/
def State.stamp (s : State) (port : Nat) (egress : Bool) (o : Int) (c f scBack : Nat) (l : List Byte) : List Word :=
  let (rx, tx) := s.portLat port
  let asym := s.rdInt (Reg.TIME_PORT_ASYM.ASYM port)
  let lat : Int := if egress then tx else -(rx : Int)
  let den : Int := if s.rclk then 16 * eclkPerTick s.mult else 1
  let ago : Int := scBack * s.scInc
  let (t, info) := match s.ptpDomain port l with
    | none => ((roundTime ((s.time.sc : Int) - ago) : Int), 8)
    | some d =>
      let base : Int := if s.onStep d then (s.domTime d - ago) * den
        else (((s.domain d).d : Int) + o * s.inc d) * den + (16 * c + f) * s.inc d
      let num := base * 10000 + lat * 2 ^ 32 * den - asym * 2 ^ 16 * den * 10000
      let q := den * 10000 * 2 ^ 16
      ((2 * num + q) / (2 * q), d + 4 + 8 * (s.onStep d).toNat)
  let (w0, w1, w2) := timeWords t.toNat
  [w0, w1, w2, BitVec.ofNat 32 (info + 256 * egress.toNat + 65536 * port)]

/-! ### Interrupt vectors (17 R397) -/

/-- A cause of a host vector. -/
def State.vector (s : State) (v : Nat) : State :=
  let f := Reg.HOST_IRQ_PEND.PEND (v / 32)
  s.wr f (s.rd f ||| 2 ^ (v % 32))

/-- A cause is cleared in its owning block. -/
def State.vectorClear (s : State) (v : Nat) : State :=
  let f := Reg.HOST_IRQ_PEND.PEND (v / 32)
  s.wr f (s.rd f - (s.rd f &&& 2 ^ (v % 32)))

end Sys2Proof.Machine
end

