-- ==== Sys2Proof/Machine/Dma.lean ====
section
/-! DEFINITION. The DMA channels: states, descriptors, link words, boundaries and the channel registers
(15 R343-R353, R356). -/

namespace Sys2Proof.Machine

/-- A channel's record. -/
def State.dmaCh (s : State) (c : Nat) : DmaCh := sget {} c s.dma

/-- Replacing a channel's record. -/
def State.setDma (s : State) (c : Nat) (x : DmaCh) : State := { s with dma := sset {} c x s.dma }

/-- A channel's state (R343): 0 IDLE, 1 RUN, 2 PARKED, 3 STOPPED, 4 ERROR. -/
def State.dmaState (s : State) (c : Nat) : Nat := s.rd (Reg.DMA_CH_STATUS.STATE c)

/-- A channel changes state; DMA_STATUS counts those in RUN or PARKED. -/
def State.dmaTo (s : State) (c st : Nat) : State :=
  let s := s.wr (Reg.DMA_CH_STATUS.STATE c) st
  s.wr Reg.DMA_STATUS.RUNNING
    ((List.range 64).filter fun k => decide (s.dmaState k = 1) || decide (s.dmaState k = 2)).length

/-- A channel's DMA_IRQ bit, and the vector of its pair of channels (17 R397). -/
def State.dmaIrq (s : State) (c : Nat) : State :=
  let f := Reg.DMA_IRQ.CH (c / 32)
  let n := s.rd f
  (if n / 2 ^ (c % 32) % 2 = 1 then s else s.wr f (n + 2 ^ (c % 32))).vector (32 + c / 2)

/-- A channel enters ERROR (R347): CAUSE 1 DESC, 2 ALIGN, 3 BUS. -/
def State.dmaFault (s : State) (c cause : Nat) : State :=
  let s := (s.dmaTo c 4).wr (Reg.DMA_CH_STATUS.CAUSE c) cause
  let s := if s.on (Reg.DMA_CH_CFG_LIVE.ERRIRQ c) then s.dmaIrq c else s
  s.raise Src.DMA_ERR

/-- An error response to the channel: the address is recorded. -/
def State.dmaBus (s : State) (c a : Nat) : State := (s.wr (Reg.DMA_CH_ERRADDR.ADDR c) a).dmaFault c 3

/-! ### Descriptors (R344, R345) -/

/-- The address of a descriptor. -/
def descAddr (n : Nat) : Nat := ramBase + n * 32

def DmaCh.srcField (x : DmaCh) : Nat := x.w0 % 2 ^ 32
def DmaCh.dstField (x : DmaCh) : Nat := x.w0 / 2 ^ 32
def DmaCh.count0 (x : DmaCh) : Nat := x.w1 % 2 ^ 16
def DmaCh.count1 (x : DmaCh) : Nat := x.w1 / 2 ^ 16 % 2 ^ 16
def DmaCh.count2 (x : DmaCh) : Nat := x.w2 / 2 ^ 48
def DmaCh.step0 (x : DmaCh) : Nat := x.w1 / 2 ^ 32 % 2 ^ 24
def DmaCh.op (x : DmaCh) : Nat := x.w1 / 2 ^ 56 % 4
def DmaCh.ackWait (x : DmaCh) : Bool := x.w1.testBit 58
def DmaCh.irq (x : DmaCh) : Bool := x.w1.testBit 59
def DmaCh.stopMis (x : DmaCh) : Bool := x.w1.testBit 60
def DmaCh.reserved (x : DmaCh) : Nat := x.w1 / 2 ^ 61
def DmaCh.sstep1 (x : DmaCh) : Nat := x.w2 % 2 ^ 24
def DmaCh.dstep1 (x : DmaCh) : Nat := x.w2 / 2 ^ 24 % 2 ^ 24
def DmaCh.sstep2 (x : DmaCh) : Nat := x.w3 % 2 ^ 24
def DmaCh.dstep2 (x : DmaCh) : Nat := x.w3 / 2 ^ 24 % 2 ^ 24

/-- An address stepped by a signed 24-bit count of elements, modulo 2^32. -/
def dmaStep (a step : Nat) : Nat :=
  (((a : Int) + 4 * (BitVec.ofNat 24 step).toInt) % 2 ^ 32).toNat

/-- The loop after an element (R345). -/
def DmaCh.next (x : DmaCh) : DmaCh :=
  let x := { x with src := dmaStep x.src x.step0, dst := dmaStep x.dst x.step0, i0 := x.i0 + 1 }
  if x.i0 < x.count0 then x
  else
    let x := { x with i0 := 0, i1 := x.i1 + 1, src := dmaStep x.src x.sstep1, dst := dmaStep x.dst x.dstep1 }
    if x.i1 < x.count1 then x
    else
      let x := { x with i1 := 0, i2 := x.i2 + 1, src := dmaStep x.src x.sstep2, dst := dmaStep x.dst x.dstep2 }
      if x.i2 < x.count2 then x else { x with issued := true }

/-- SRC or DST is not a multiple of 4 where the operation uses it as an address. -/
def DmaCh.misaligned (x : DmaCh) : Bool :=
  decide (x.dstField % 4 ≠ 0) || (decide (x.op = 0 ∨ x.op = 2) && decide (x.srcField % 4 ≠ 0))

/-- The engine reads a descriptor whole and begins it. -/
def State.dmaBegin (s : State) (c n : Nat) : State :=
  let s := (s.dmaTo c 1).wr (Reg.DMA_CH_STATUS.CUR c) n
  let (r, s) := s.ramRead (descAddr n) 32
  match r with
  | none => (s.fabError 1 (c % 16) 0 5 (descAddr n) false).dmaBus c (descAddr n)
  | some v =>
    let old := s.dmaCh c
    let x : DmaCh := { old with
      w0 := v % 2 ^ 64, w1 := v / 2 ^ 64 % 2 ^ 64, w2 := v / 2 ^ 128 % 2 ^ 64, w3 := v / 2 ^ 192
      i0 := 0, i1 := 0, i2 := 0, src := v % 2 ^ 32, dst := v / 2 ^ 32 % 2 ^ 32
      issued := false, mis := false, lastRd := 1, lastWr := 1 }
    let empty := decide (x.count0 = 0 ∨ x.count1 = 0 ∨ x.count2 = 0)
    let s := s.setDma c { x with issued := empty }
    if x.reserved ≠ 0 then s.dmaFault c 1
    else if x.misaligned then s.dmaFault c 2
    else s

/-- The engine reads the link word again, in one 64-bit read, and follows it (R345, R351). -/
def State.dmaLink (s : State) (c : Nat) : State :=
  let s := s.put (Reg.DMA_CH_STATUS.DBPEND c) false
  let a := descAddr (s.rd (Reg.DMA_CH_STATUS.CUR c)) + 24
  let (r, s) := s.ramRead a 8
  match r with
  | none => (s.fabError 1 (c % 16) 0 5 a false).dmaBus c a
  | some v => if v.testBit 48 then s.dmaTo c 2 else s.dmaBegin c (v / 2 ^ 49)

/-! ### Registers -/

/-- SHADOW_DIRTY: the shadow and live CFG banks differ (R353). -/
def State.dmaDirty (s : State) (c : Nat) : State :=
  s.put (Reg.DMA_CH_STATUS.SHADOW_DIRTY c)
    (decide (s.rd (Reg.DMA_CH_CFG.PRIO c) ≠ s.rd (Reg.DMA_CH_CFG_LIVE.PRIO c)) ||
     decide (s.rd (Reg.DMA_CH_CFG.RATE c) ≠ s.rd (Reg.DMA_CH_CFG_LIVE.RATE c)) ||
     decide (s.rd (Reg.DMA_CH_CFG.ERRIRQ c) ≠ s.rd (Reg.DMA_CH_CFG_LIVE.ERRIRQ c)))

/-- A write of DMA_CH_cc_CFG, the shadow bank. -/
def State.writeDmaCfg (s : State) (c : Nat) (v : Word) : State :=
  s.guarded (0x7010C + c * 0x40) v fun s => s.dmaDirty c

/-- The copy of the shadow bank into the live bank. -/
def State.dmaCopyCfg (s : State) (c : Nat) : State :=
  let s := (s.wr (Reg.DMA_CH_CFG_LIVE.PRIO c) (s.rd (Reg.DMA_CH_CFG.PRIO c))).wr
    (Reg.DMA_CH_CFG_LIVE.RATE c) (s.rd (Reg.DMA_CH_CFG.RATE c))
  let s := s.wr (Reg.DMA_CH_CFG_LIVE.ERRIRQ c) (s.rd (Reg.DMA_CH_CFG.ERRIRQ c))
  (s.put (Reg.DMA_CH_CTRL.COMMIT c) false).dmaDirty c

/-- STOP: at once in PARKED, pending in RUN, ignored elsewhere (R350). -/
def State.dmaStopReq (s : State) (c : Nat) : State :=
  if s.dmaState c = 2 then (s.dmaTo c 3).put (Reg.DMA_CH_CTRL.STOP c) false
  else if s.dmaState c = 1 then s.put (Reg.DMA_CH_CTRL.STOP c) true
  else s

/-- DOORBELL: latched in RUN, a reread of the link word in PARKED, ignored elsewhere (R351). -/
def State.dmaBell (s : State) (c : Nat) : State :=
  if s.dmaState c = 2 then s.dmaLink c
  else if s.dmaState c = 1 then s.put (Reg.DMA_CH_STATUS.DBPEND c) true
  else s

/-- START: in IDLE, STOPPED and ERROR (R343). -/
def State.dmaStartReq (s : State) (c : Nat) : State :=
  if s.dmaState c = 1 ∨ s.dmaState c = 2 then s
  else s.dmaBegin c (s.rd (Reg.DMA_CH_DESC.FIRST c))

/-- A write of DMA_CH_cc_CTRL. Bits written together act in the order COMMIT, START, STOP, DOORBELL, so a STOP
with a DOORBELL leaves a PARKED channel STOPPED (R350). -/
def State.writeDmaChCtrl (s : State) (c : Nat) (v : Word) : State :=
  let s := if v.getLsbD 3 then s.put (Reg.DMA_CH_CTRL.COMMIT c) true else s
  let s := if v.getLsbD 0 then s.dmaStartReq c else s
  let s := if v.getLsbD 1 then s.dmaStopReq c else s
  if v.getLsbD 2 then s.dmaBell c else s

/-- The DMA block is reset (R347, R356): M1 and M2 are reset and every channel is IDLE with CAUSE RESET. -/
def State.dmaReset (s : State) : State :=
  let s := (s.retireMaster 1).retireMaster 2
  let s := (List.range 64).foldl (fun s c =>
    let s := (s.wr (Reg.DMA_CH_STATUS.STATE c) 0).wr (Reg.DMA_CH_STATUS.CAUSE c) 4
    let s := ((s.put (Reg.DMA_CH_CTRL.START c) false).put (Reg.DMA_CH_CTRL.STOP c) false).put
      (Reg.DMA_CH_STATUS.DBPEND c) false
    s.setDma c {}) s
  s.wr Reg.DMA_STATUS.RUNNING 0

/-- A write of DMA_CTRL. -/
def State.writeDmaCtrl (s : State) (v : Word) : State := if v.getLsbD 0 then s.dmaReset else s

/-- A write of DMA_IRQ_i clears the bits written as 1; a vector whose two channels are clear ends (17 R397). -/
def State.writeDmaIrq (s : State) (i : Nat) (v : Word) : State :=
  let s := s.guarded (0x70008 + 4 * i) v id
  let n := s.rd (Reg.DMA_IRQ.CH i)
  (List.range 16).foldl (fun s k => if n / 4 ^ k % 4 = 0 then s.vectorClear (32 + 16 * i + k) else s) s

/-! ### The descriptor boundary (R349, R350) -/

/-- What a channel does at a boundary: an armed copy, a pending STOP, a stop on a mismatch, or the link word. -/
def State.dmaBoundary (s : State) (c : Nat) : State :=
  let s := if s.on (Reg.DMA_CH_CTRL.COMMIT c) then s.dmaCopyCfg c else s
  if s.on (Reg.DMA_CH_CTRL.STOP c) then (s.dmaTo c 3).put (Reg.DMA_CH_CTRL.STOP c) false
  else if (s.dmaCh c).mis then s.dmaTo c 3
  else s.dmaLink c

/-- A descriptor whose last element is issued completes: DONE, the IRQ bit, and the boundary. -/
def State.dmaComplete (s : State) (c : Nat) : State :=
  let x := s.dmaCh c
  if s.dmaState c = 1 ∧ (x.issued = true ∨ x.mis = true) then
    let s := s.bump (Reg.DMA_CH_CNT.DONE c) 1
    (if x.irq then s.dmaIrq c else s).dmaBoundary c
  else s

/-! ### The commands -/

/-- DMA_START (15 R343). -/
def execDmaStart (c : Fin 64) (s : State) : Out := core (fun s => s.control (0x70100 + c.val * 0x40) 1 fun s => s.writeDmaChCtrl c.val 1) s

/-- DMA_STOP (15 R350). -/
def execDmaStop (c : Fin 64) (s : State) : Out := core (fun s => s.control (0x70100 + c.val * 0x40) 2 fun s => s.writeDmaChCtrl c.val 2) s

/-- DMA_DOORBELL (15 R351). -/
def execDmaDoorbell (c : Fin 64) (s : State) : Out := core (fun s => s.control (0x70100 + c.val * 0x40) 4 fun s => s.writeDmaChCtrl c.val 4) s

/-- DMA_CFG_COMMIT (15 R353). -/
def execDmaCfgCommit (c : Fin 64) (s : State) : Out := core (fun s => s.control (0x70100 + c.val * 0x40) 8 fun s => s.writeDmaChCtrl c.val 8) s

/-- DMA_RESET (15 R356). -/
def execDmaReset (v : Word) (s : State) : Out := core (fun s => s.control 0x70000 v fun s => s.writeDmaCtrl v) s

/-- DMA_DESC_COMPLETE (15 R349): the last write of the descriptor has left M2, or has landed with ACKWAIT, or its
last read has returned. -/
def execDmaDescComplete (c : Fin 64) (s : State) : Out := clocked (fun s => s.dmaComplete c.val) s

end Sys2Proof.Machine
end

