-- ==== Sys2Proof/Machine/SineTable.lean ====
section
/-! DEFINITION. The table of EQUAL_POWER splices (06 R135): T[i] = round(sin(π × i / 1,024) × 2^31). -/

namespace Sys2Proof.Machine

/-- T[0] to T[63]. -/
def sineTable0 : List Nat := [
  0, 6588387, 13176712, 19764913, 26352928, 32940695, 39528151, 46115236,
  52701887, 59288042, 65873638, 72458615, 79042909, 85626460, 92209205, 98791081,
  105372028, 111951983, 118530885, 125108670, 131685278, 138260647, 144834714, 151407418,
  157978697, 164548489, 171116733, 177683365, 184248325, 190811551, 197372981, 203932553,
  210490206, 217045878, 223599506, 230151030, 236700388, 243247518, 249792358, 256334847,
  262874923, 269412525, 275947592, 282480061, 289009871, 295536961, 302061269, 308582734,
  315101295, 321616889, 328129457, 334638936, 341145265, 347648383, 354148230, 360644742,
  367137861, 373627523, 380113669, 386596237, 393075166, 399550396, 406021865, 412489512]

/-- T[64] to T[127]. -/
def sineTable1 : List Nat := [
  418953276, 425413098, 431868915, 438320667, 444768294, 451211734, 457650927, 464085813,
  470516330, 476942419, 483364019, 489781069, 496193509, 502601279, 509004318, 515402566,
  521795963, 528184449, 534567963, 540946445, 547319836, 553688076, 560051104, 566408860,
  572761285, 579108320, 585449903, 591785976, 598116479, 604441352, 610760536, 617073971,
  623381598, 629683357, 635979190, 642269036, 648552838, 654830535, 661102068, 667367379,
  673626408, 679879097, 686125387, 692365218, 698598533, 704825272, 711045377, 717258790,
  723465451, 729665303, 735858287, 742044345, 748223418, 754395449, 760560380, 766718151,
  772868706, 779011986, 785147934, 791276492, 797397602, 803511207, 809617249, 815715670]

/-- T[128] to T[191]. -/
def sineTable2 : List Nat := [
  821806413, 827889422, 833964638, 840032004, 846091463, 852142959, 858186435, 864221832,
  870249095, 876268167, 882278992, 888281512, 894275671, 900261413, 906238681, 912207419,
  918167572, 924119082, 930061894, 935995952, 941921200, 947837582, 953745043, 959643527,
  965532978, 971413342, 977284562, 983146583, 988999351, 994842810, 1000676905, 1006501581,
  1012316784, 1018122458, 1023918550, 1029705004, 1035481766, 1041248781, 1047005996, 1052753357,
  1058490808, 1064218296, 1069935768, 1075643169, 1081340445, 1087027544, 1092704411, 1098370993,
  1104027237, 1109673089, 1115308496, 1120933406, 1126547765, 1132151521, 1137744621, 1143327011,
  1148898640, 1154459456, 1160009405, 1165548435, 1171076495, 1176593533, 1182099496, 1187594332]

/-- T[192] to T[255]. -/
def sineTable3 : List Nat := [
  1193077991, 1198550419, 1204011567, 1209461382, 1214899813, 1220326809, 1225742318, 1231146291,
  1236538675, 1241919421, 1247288478, 1252645794, 1257991320, 1263325005, 1268646800, 1273956653,
  1279254516, 1284540337, 1289814068, 1295075659, 1300325060, 1305562222, 1310787095, 1315999631,
  1321199781, 1326387494, 1331562723, 1336725419, 1341875533, 1347013017, 1352137822, 1357249901,
  1362349204, 1367435685, 1372509294, 1377569986, 1382617710, 1387652422, 1392674072, 1397682613,
  1402678000, 1407660183, 1412629117, 1417584755, 1422527051, 1427455956, 1432371426, 1437273414,
  1442161874, 1447036760, 1451898025, 1456745625, 1461579514, 1466399645, 1471205974, 1475998456,
  1480777044, 1485541696, 1490292364, 1495029006, 1499751576, 1504460029, 1509154322, 1513834411]

/-- T[256] to T[319]. -/
def sineTable4 : List Nat := [
  1518500250, 1523151797, 1527789007, 1532411837, 1537020244, 1541614183, 1546193612, 1550758488,
  1555308768, 1559844408, 1564365367, 1568871601, 1573363068, 1577839726, 1582301533, 1586748447,
  1591180426, 1595597428, 1599999411, 1604386335, 1608758157, 1613114838, 1617456335, 1621782608,
  1626093616, 1630389319, 1634669676, 1638934646, 1643184191, 1647418269, 1651636841, 1655839867,
  1660027308, 1664199124, 1668355276, 1672495725, 1676620432, 1680729357, 1684822463, 1688899711,
  1692961062, 1697006479, 1701035922, 1705049355, 1709046739, 1713028037, 1716993211, 1720942225,
  1724875040, 1728791620, 1732691928, 1736575927, 1740443581, 1744294853, 1748129707, 1751948107,
  1755750017, 1759535401, 1763304224, 1767056450, 1770792044, 1774510970, 1778213194, 1781898681]

/-- T[320] to T[383]. -/
def sineTable5 : List Nat := [
  1785567396, 1789219305, 1792854372, 1796472565, 1800073849, 1803658189, 1807225553, 1810775906,
  1814309216, 1817825449, 1821324572, 1824806552, 1828271356, 1831718951, 1835149306, 1838562388,
  1841958164, 1845336604, 1848697674, 1852041343, 1855367581, 1858676355, 1861967634, 1865241388,
  1868497586, 1871736196, 1874957189, 1878160535, 1881346202, 1884514161, 1887664383, 1890796837,
  1893911494, 1897008325, 1900087301, 1903148392, 1906191570, 1909216806, 1912224073, 1915213340,
  1918184581, 1921137767, 1924072871, 1926989864, 1929888720, 1932769411, 1935631910, 1938476190,
  1941302225, 1944109987, 1946899451, 1949670589, 1952423377, 1955157788, 1957873796, 1960571375,
  1963250501, 1965911148, 1968553292, 1971176906, 1973781967, 1976368450, 1978936331, 1981485585]

/-- T[384] to T[447]. -/
def sineTable6 : List Nat := [
  1984016189, 1986528118, 1989021350, 1991495860, 1993951625, 1996388622, 1998806829, 2001206222,
  2003586779, 2005948478, 2008291295, 2010615210, 2012920201, 2015206245, 2017473321, 2019721407,
  2021950484, 2024160529, 2026351522, 2028523442, 2030676269, 2032809982, 2034924562, 2037019988,
  2039096241, 2041153301, 2043191150, 2045209767, 2047209133, 2049189231, 2051150040, 2053091544,
  2055013723, 2056916560, 2058800036, 2060664133, 2062508835, 2064334124, 2066139983, 2067926394,
  2069693342, 2071440808, 2073168777, 2074877233, 2076566160, 2078235540, 2079885360, 2081515603,
  2083126254, 2084717298, 2086288720, 2087840505, 2089372638, 2090885105, 2092377892, 2093850985,
  2095304370, 2096738032, 2098151960, 2099546139, 2100920556, 2102275199, 2103610054, 2104925109]

/-- T[448] to T[511]. -/
def sineTable7 : List Nat := [
  2106220352, 2107495770, 2108751352, 2109987085, 2111202959, 2112398960, 2113575080, 2114731305,
  2115867626, 2116984031, 2118080511, 2119157054, 2120213651, 2121250292, 2122266967, 2123263666,
  2124240380, 2125197100, 2126133817, 2127050522, 2127947206, 2128823862, 2129680480, 2130517052,
  2131333572, 2132130030, 2132906420, 2133662734, 2134398966, 2135115107, 2135811153, 2136487095,
  2137142927, 2137778644, 2138394240, 2138989708, 2139565043, 2140120240, 2140655293, 2141170197,
  2141664948, 2142139541, 2142593971, 2143028234, 2143442326, 2143836244, 2144209982, 2144563539,
  2144896910, 2145210092, 2145503083, 2145775880, 2146028480, 2146260881, 2146473080, 2146665076,
  2146836866, 2146988450, 2147119825, 2147230991, 2147321946, 2147392690, 2147443222, 2147473542]

/-- T[i], i from 0 to 512; T[512] is 0x7FFF_FFFF. -/
def sineAt (i : Nat) : Nat :=
  if 512 ≤ i then 0x7FFFFFFF
  else ((match i / 64 with
    | 0 => sineTable0
    | 1 => sineTable1
    | 2 => sineTable2
    | 3 => sineTable3
    | 4 => sineTable4
    | 5 => sineTable5
    | 6 => sineTable6
    | _ => sineTable7)[i % 64]?).getD 0

end Sys2Proof.Machine
end

