-- ==== Sys2Proof/Machine/Mac.lean ====
section
/-! DEFINITION. The MACs: links, frame reception and classification, control queues and transmission (12
R248-R259, R271-R273). -/

namespace Sys2Proof.Machine

/-! ### Links (R249) -/

/-- Link up: enabled, no fault, and the lane holds block lock. The loss of a link raises NET_LINK. A media MAC that sees a
local fault, or whose lane has lost block lock, sends remote-fault sequences (PRESUMED, log 200). -/
def State.setLink (s : State) (i : Nat) (lf rf lock : Bool) : State :=
  let was := s.on (Reg.MAC_STATUS.LINK i)
  let en := s.on (Reg.MAC_CTRL.EN i)
  let up := en && !lf && !rf && lock
  let s := ((s.put (Reg.MAC_STATUS.LFAULT i) lf).put (Reg.MAC_STATUS.RFAULT i) rf).put (Reg.MAC_STATUS.LINK i) up
  let s := s.put (Reg.FLT_SRC.ACTIVE Src.NET_LINK) ((List.range 5).any fun j =>
    s.on (Reg.MAC_CTRL.EN j) && !s.on (Reg.MAC_STATUS.LINK j))
  let s := s.onNet fun r => { r with faultOut := sset 0 i (decide (i < 4) && en && (lf || !lock)).toNat r.faultOut }
  if was && !up then s.raise Src.NET_LINK else s

/-- Whether a media MAC's lane holds block lock. -/
def State.laneLocked (s : State) (i : Nat) : Bool := decide ((sget {} i s.lane).lock = 3)

/-- MAC_LINK_FAULT (12 R249): what the link of a MAC shows, its local and remote fault and, of MAC_M, whether its RGMII
link is up; the block lock of a media MAC is its lane's. -/
def execMacLinkFault (i : Fin 5) (lf rf lock : Bool) (s : State) : Out :=
  core (fun s => s.setLink i.val lf rf (if i.val < 4 then s.laneLocked i.val else lock)) s

/-! ### Counts -/

/-- A count of MAC_i_CNT_j, saturating (R272). -/
def State.macCount (s : State) (i j : Nat) : State := s.bump (Reg.MAC_CNT.COUNT i j) 1

/-- RX_NOBUF counts and raises NET_RXOVF (R271). -/
def State.noBuffer (s : State) (i : Nat) : State := (s.macCount i 9).raise Src.NET_RXOVF

/-! ### Control queues (R258, R259) -/

/-- The ring of a queue: base, size, head and tail. -/
structure Ring where
  base : Nat
  size : Nat
  head : Nat
  tail : Nat
deriving DecidableEq, Repr

/-- A receive ring. -/
def State.rxRing (s : State) (q : Nat) : Ring :=
  ⟨ramAddr (s.rd (Reg.NET_RXQ_BASE.BASE q)), s.rd (Reg.NET_RXQ_CTRL.SIZE q), s.rd (Reg.NET_RXQ_PTR.HEAD q), s.rd (Reg.NET_RXQ_PTR.TAIL q)⟩

/-- A transmit ring. -/
def State.txRing (s : State) (i : Nat) : Ring :=
  ⟨ramAddr (s.rd (Reg.NET_TXQ_BASE.BASE i)), s.rd (Reg.NET_TXQ_CTRL.SIZE i), s.rd (Reg.NET_TXQ_PTR.HEAD i), s.rd (Reg.NET_TXQ_PTR.TAIL i)⟩

/-- The address of the head descriptor. -/
def Ring.at (r : Ring) : Nat := r.base + 32 * r.head

/-- The device owns the head descriptor: the tail has handed it over and OWN is 1. -/
def State.owned (s : State) (r : Ring) : Bool :=
  decide (r.size ≠ 0) && decide (r.head ≠ r.tail) && decide (s.load (r.at + 4) 4 / 2 ^ 31 = 1)

/-- The head after a completed descriptor. -/
def Ring.advance (r : Ring) : Nat := if r.head + 1 < r.size then r.head + 1 else 0

/-- What a stored frame is. -/
structure RxInfo where
  port : Nat
  fcsErr : Bool := false
  runt : Bool := false
  oversize : Bool := false
  pcsErr : Bool := false
  tag : Option Nat := none
  pattern : Nat := 0
  stamp : Option (List Word) := none
deriving DecidableEq, Repr

/-- Words 1 and 2 of a receive descriptor, OWN clear. -/
def RxInfo.words (x : RxInfo) (length : Nat) : Nat × Nat :=
  (length + x.fcsErr.toNat * 2 ^ 16 + x.runt.toNat * 2 ^ 17 + x.oversize.toNat * 2 ^ 18 + x.pcsErr.toNat * 2 ^ 19 +
    x.tag.isSome.toNat * 2 ^ 20 + x.stamp.isSome.toNat * 2 ^ 21 + x.port * 2 ^ 22 + x.pattern * 2 ^ 25,
   match x.tag with | some t => t % 0x1000 + t / 0x2000 % 8 * 2 ^ 12 + t / 0x1000 % 2 * 2 ^ 15 | none => 0)

/-- A list of words stored from an address on. -/
def State.storeWordsAt (s : State) (a : Nat) : List Word → State
  | [] => s
  | w :: r => State.storeWordsAt (s.store a 4 w.toNat) (a + 4) r

/-- Four words that the manual does not state. -/
def State.freeWords (s : State) : List Word × State :=
  ((List.range 4).map fun k => Config.freeWord (s.free + k), { s with free := s.free + 4 })

/-- A frame is delivered to a control queue, or dropped for want of a descriptor (R258). Bytes 16-31 are written without a
stamp too: the manual does not say with what (log 201). -/
def State.deliverFrame (s : State) (q : Nat) (x : RxInfo) (l : List Byte) : State :=
  let r := s.rxRing q
  if s.owned r then
    let s := s.storeBytes (s.load r.at 4) l
    let (w1, w2) := x.words l.length
    let s := ((s.store (r.at + 4) 4 w1).store (r.at + 8) 4 w2).store (r.at + 12) 4 0
    let (free, s) := if x.stamp.isNone then s.freeWords else ([], s)
    let s := s.storeWordsAt (r.at + 16) (x.stamp.getD free)
    let s := s.wr (Reg.NET_RXQ_PTR.HEAD q) r.advance
    if s.on (Reg.NET_RXQ_CTRL.IRQ_EN q) then s.vector (2 + q) else s
  else s.noBuffer x.port

/-! ### Reception (R250-R256) -/

/-- The pattern that acts on a frame: the lowest that matches (R255). -/
def State.framePattern (s : State) (mac : Nat) (l : List Byte) : Option Nat :=
  (List.range 8).find? fun k => s.wakeMatch mac k l

/-- It wakes. -/
def State.wakePattern (s : State) (mac : Nat) (l : List Byte) : Option Nat :=
  (s.framePattern mac l).filter fun k => s.on (Reg.MAC_WP_CTRL.WAKE k)

/-- It classifies (R254). -/
def State.classPattern (s : State) (mac : Nat) (l : List Byte) : Option Nat :=
  (s.framePattern mac l).filter fun k => s.on (Reg.MAC_WP_CTRL.CLASS k)

/-- A MAC is named in a pattern with WAKE set. -/
def State.wakeMac (s : State) (mac : Nat) : Bool :=
  (List.range 8).any fun k => s.on (Reg.MAC_WP_CTRL.WAKE k) && (s.rd (Reg.MAC_WP_CTRL.PORTS k)).testBit mac

/-- The control queue of a frame by rows 3-6 of R254. -/
def State.controlQueue (s : State) (mac : Nat) (l : List Byte) : Nat :=
  if isUdp l then
    if udpPort l = 319 then 0 else if udpPort l = 320 then 1
    else if udpPort l = s.rd Reg.NET_CTRL.PELOND_PORT ∧ dstMac l = s.station mac then 2 else 3
  else 3

/-- VLAN handling of a control frame (R256): the bytes to store and the stripped tag, or none where the frame
is dropped. -/
def State.vlanStrip (s : State) (mac : Nat) (l : List Byte) : Option (List Byte × Option Nat) :=
  if s.on (Reg.MAC_CTRL.CTLVLAN_EN mac) then
    if tagged l then
      let t := be l 14 2
      if t % 4096 = s.rd (Reg.MAC_VLAN.VID mac) ∨ t % 4096 = 0 then some (l.take 12 ++ l.drop 16, some t) else none
    else none
  else some (l, none)

/-- The kinds of error that are counted: RX_FCS 1, RX_RUNT 2, RX_OVERSIZE 4, RX_PCS 5. -/
def State.countErrors (s : State) (mac : Nat) (x : RxInfo) : State :=
  let s := if x.fcsErr then s.macCount mac 1 else s
  let s := if x.runt then s.macCount mac 2 else s
  let s := if x.oversize then s.macCount mac 4 else s
  if x.pcsErr then s.macCount mac 5 else s

/-- When a frame came: ECLK at which it completed, in the coming tick where it is at most 32 (07 R154, log 202); its
timestamp point: ticks before the tick of its completion, cycle and sixteenth in that tick, and SC cycles before its
completion. -/
structure RxInstant where
  done : Nat
  back : Nat
  eclk : Nat
  sixteenth : Nat
  scBack : Nat
deriving DecidableEq, Repr

/-- The completion lies in the coming tick. -/
def RxInstant.next (x : RxInstant) : Bool := decide (x.done ≤ 32)

/-- The tick of the timestamp point, from the present tick. -/
def RxInstant.ofs (x : RxInstant) : Int := (x.next.toNat : Int) - x.back

/-- A frame of the control class, errored or not, without a stamp. -/
def State.controlFrame (s : State) (mac q : Nat) (x : RxInfo) (l : List Byte) : State :=
  match s.vlanStrip mac l with
  | none => s.macCount mac 8
  | some (b, t) => s.deliverFrame q { x with tag := t } b

/-- A frame that rows 3 to 6 of R254 classify: a PTP event frame is stamped. -/
def State.classedFrame (s : State) (mac : Nat) (x : RxInfo) (at' : RxInstant) (l : List Byte) : State :=
  let q := s.controlQueue mac l
  let st := if q = 0 then some (s.stamp mac false at'.ofs at'.eclk at'.sixteenth at'.scBack l) else none
  s.controlFrame mac q { x with stamp := st } l

/-- An errored frame of another class than media (R251). -/
def State.erroredFrame (s : State) (mac : Nat) (x : RxInfo) (at' : RxInstant) (l : List Byte) : State :=
  let s := s.countErrors mac x
  if s.on (Reg.MAC_CTRL.COMPAT mac) then s.macCount mac 6
  else if s.on (Reg.MAC_CTRL.DELIVER_ERRORED mac) then s.classedFrame mac x at' l
  else s

/-- The node is dormant (17 R388). -/
def State.dormant (s : State) : Bool := decide (s.rd Reg.CHIP_STATE.STATE = 7)

/-- A wake event (R255). -/
def State.wakeEvent (s : State) (k : Nat) : State := (s.wr Reg.MAC_WAKE.PATTERN k).put Reg.MAC_WAKE.WOKE true

/-- The standby's watch sees a packet of one of its own egress streams, by SSRC (R269). -/
def State.watchFrame (s : State) (mac : Nat) (l : List Byte) : State :=
  if s.isStandby && s.on Reg.NET_CTRL.WATCH_EN && decide (mac < 4) && isUdp l &&
      (s.validStreams 1).any fun i => decide ((s.descWord 1 i 2).toNat = be l (ipAt l + 36) 4) then
    (s.onNet fun r => { r with quiet := 0 }).put Reg.NET_STATUS.PARTNER_ABSENT false
  else s

/-- An accepted frame goes where its class has it (R254): the pattern's action, the stream engine, or a control queue. -/
def State.classify (s : State) (mac : Nat) (l : List Byte) (x : RxInfo) (bad short : Bool) (at' : RxInstant) : State :=
  match (if bad then none else s.classPattern mac l) with
  | some k =>
    if s.on (Reg.MAC_WP_CTRL.ACT k) then s.bump Reg.MAC_WAKE.PATDROP 1
    else (s.macCount mac 0).controlFrame mac (s.rd (Reg.MAC_WP_CTRL.QSEL k)) x l
  | none =>
    match (if short then none else s.mediaStream mac l) with
    | some i =>
      if bad then s.macCount mac 7
      else (s.macCount mac 0).onNet fun r => { r with rxq := r.rxq ++ [⟨mac, i, l, s.tick, s.tick + at'.next.toNat, at'.done⟩] }
    | none =>
      if bad then s.erroredFrame mac x at' (l.take (s.rd (Reg.MAC_MAXLEN.MAXLEN mac)))
      else (s.macCount mac 0).classedFrame mac x at' l

/-- A frame is received (R250-R256): its case by length, the filter, the class and where it goes. In the dormant mode only
a MAC that a pattern with WAKE names receives, and it delivers nothing. -/
def State.macReceive (s : State) (mac : Nat) (l : List Byte) (pcsErr : Bool) (at' : RxInstant) : State :=
  let n := l.length
  let maxlen := s.rd (Reg.MAC_MAXLEN.MAXLEN mac)
  if s.on (Reg.MAC_CTRL.EN mac) = false ∨ n = 0 ∨ (s.dormant = true ∧ s.wakeMac mac = false) then s
  else if n ≤ 13 then s.macCount mac 3
  else
    let runt := decide (n < 64)
    let long := decide (maxlen < n)
    let fcsErr := if n < 18 then true else if long then false else !fcsOk l
    let bad := fcsErr || runt || long || pcsErr
    let pattern := if bad then none else s.framePattern mac l
    let x : RxInfo := { port := mac, fcsErr := fcsErr, runt := runt, oversize := long, pcsErr := pcsErr,
                        pattern := (pattern.map (· + 1)).getD 0 }
    if be l (etherAt l) 2 = 0x8808 then s.macCount mac 10
    else
      let s := if bad then s else s.watchFrame mac l
      if s.accepts mac l = false then s
      else
        let s := match (if bad then none else s.wakePattern mac l) with
          | some k => s.wakeEvent k
          | none => s
        if s.dormant then s else s.classify mac l x bad (runt || long) at'

/-! ### Transmission (R252, R259) -/

/-- The frame that a MAC sends for a control descriptor's bytes: tag, padding and FCS. -/
def State.controlBytes (s : State) (i : Nat) (notag : Bool) (l : List Byte) : List Byte :=
  let l := if s.on (Reg.MAC_CTRL.CTLVLAN_EN i) && !notag then
      l.take 12 ++ [0x81, 0x00] ++ beBytes 2 (s.rd (Reg.MAC_VLAN.PCP i) * 0x2000 +
        s.rd (Reg.MAC_VLAN.DEI i) * 0x1000 + s.rd (Reg.MAC_VLAN.VID i)) ++ l.drop 12
    else l
  let l := l ++ List.replicate (60 - l.length) 0
  l ++ fcsBytes l

/-- The MAC sends the frame of its ring's head descriptor, or refuses it (R252). -/
def State.macTransmit (s : State) (i c f : Nat) : State :=
  let r := s.txRing i
  if s.on (Reg.MAC_STATUS.LINK i) && s.owned r then
    let w := s.load (r.at + 4) 4
    let length := w % 2 ^ 14
    let frame := s.controlBytes i (w.testBit 17) (s.loadBytes (s.load r.at 4) length)
    let ltx := length + 4 + (if s.on (Reg.MAC_CTRL.CTLVLAN_EN i) && !w.testBit 17 then 4 else 0)
    let s := s.wr (Reg.NET_TXQ_PTR.HEAD i) r.advance
    let s := if s.rd (Reg.MAC_MAXLEN.MAXLEN i) < ltx then
        (s.store (r.at + 4) 4 (w % 2 ^ 31 - w / 2 ^ 18 % 2 * 2 ^ 18 + 2 ^ 18)).macCount i 12
      else
        let s := if w.testBit 16 then s.storeWordsAt (r.at + 16) (s.stamp i true 0 c f 0 frame) else s
        ((s.store (r.at + 4) 4 (w % 2 ^ 31)).macCount i 11).onNet fun q => { q with lastTx := sset [] i frame q.lastTx }
    if s.on (Reg.NET_TXQ_CTRL.IRQ_EN i) then s.vector (6 + i) else s
  else s

/-! ### Register writes (R248, R272, R273) -/

/-- MAC_i_CTRL: EN without the Ethernet role, or with a rate that the table does not list, is refused, and so
are CTLVLAN_EN without a VID of 1-4,094 and RATE 3. -/
def State.writeMacCtrl (s : State) (i : Nat) (v : Word) : State :=
  let a := 0x100000 + i * 0x100
  let rate := (Reg.MAC_CTRL.RATE i).part v
  let role := decide (i = 4) || decide (s.rd (Reg.LANE_CFG.ROLE i) = 1)
  let vid := s.rd (Reg.MAC_VLAN.VID i)
  if rate = 3 ∨ (i < 4 ∧ 2 ≤ rate) ∨ (v.getLsbD 0 = true ∧ role = false) ∨
      (v.getLsbD 5 = true ∧ (vid = 0 ∨ vid = 4095)) then s.refuseWrite a
  else s.guarded a v fun s => (s.setLink i (s.on (Reg.MAC_STATUS.LFAULT i)) (s.on (Reg.MAC_STATUS.RFAULT i))
    (if i < 4 then s.laneLocked i else s.on (Reg.MAC_STATUS.LINK i))).showLat i

/-- MAC_i_VLAN: the VID of a MAC with CTLVLAN_EN is 1-4,094. -/
def State.writeMacVlan (s : State) (i : Nat) (v : Word) : State :=
  let a := 0x10000C + i * 0x100
  let vid := (Reg.MAC_VLAN.VID i).part v
  if s.on (Reg.MAC_CTRL.CTLVLAN_EN i) && decide (vid = 0 ∨ vid = 4095) then s.refuseWrite a else s.guarded a v id

/-- NET_RXQ_q_CTRL: a buffer below the MAXLEN of an enabled MAC is refused. -/
def State.writeRxqCtrl (s : State) (q : Nat) (v : Word) : State :=
  let a := 0x110204 + q * 0x10
  let small := (List.range 5).any fun i => s.on (Reg.MAC_CTRL.EN i) &&
    decide ((Reg.NET_RXQ_CTRL.BUFSZ q).part v * 256 < s.rd (Reg.MAC_MAXLEN.MAXLEN i))
  if small then s.refuseWrite a else s.guarded a v id

/-- A write of a receive ring's pointers: TAIL hands descriptors over and clears the ring's vector. -/
def State.writeRxqPtr (s : State) (q : Nat) (v : Word) : State :=
  s.guarded (0x110208 + q * 0x10) v fun s => s.vectorClear (2 + q)

/-- A write of a transmit ring's pointers. -/
def State.writeTxqPtr (s : State) (i : Nat) (v : Word) : State :=
  s.guarded (0x110308 + i * 0x10) v fun s => s.vectorClear (6 + i)

/-- RXQ_TAIL_WRITE (12 R273). -/
def execRxqTailWrite (q : Fin 4) (v : Word) (s : State) : Out :=
  core (fun s => s.control (0x110208 + q.val * 0x10) v fun s => s.writeRxqPtr q.val v) s

/-- TXQ_TAIL_WRITE (12 R273). -/
def execTxqTailWrite (i : Fin 5) (v : Word) (s : State) : Out :=
  core (fun s => s.control (0x110308 + i.val * 0x10) v fun s => s.writeTxqPtr i.val v) s

end Sys2Proof.Machine
end

