-- ==== Sys2Proof/Machine/Net.lean ====
section
/-! DEFINITION. The stream engine: descriptors and start groups, egress packets, jitter buffers and the two
paths of a stream (12 R260-R270). Interface type 5 is a media stream (02 R29). -/

namespace Sys2Proof.Machine

/-! ### Media time (R262) -/

/-- MC_d of the present tick: D_d × f_s, rounded to nearest, modulo 2^32. -/
def State.mediaCount (s : State) (d : Nat) : Nat :=
  (roundNearest ((((s.domain d).d * s.rate : Nat)) : Int) oneSecond % 2 ^ 32).toNat

/-! ### Descriptors (R267) -/

/-- The bits of a descriptor's word that are not reserved (00 R7); the words that the tables do not show have none. -/
def descMask (dir w : Nat) : Word :=
  if dir = 0 then
    (match w with | 0 => 0x01FFFFFF#32 | 9 => 0x3FFF#32 | n => if n < 9 then 0xFFFFFFFF#32 else 0)
  else match w with | 0 => 0x0FFFFFFF#32 | 1 => 0xFFFFFFFF#32 | 2 => 0xFFFFFFFF#32 | 3 => 0xFFFF#32 | 4 => 0x03FF03FF#32 | _ => 0

/-- The words of the staged descriptor, as a stream of a direction takes them. -/
def State.stagedDesc (s : State) (dir : Nat) : List Word :=
  (List.range 16).map fun w => sget 0 w s.net.staged &&& descMask dir w

/-- A write of NET_DATA. -/
def State.writeNetData (s : State) (v : Word) : State :=
  s.onNet fun r => { r with staged := sset 0 (s.rd Reg.NET_SEL.WORD) v r.staged }

/-- The state of a stream as NET_STRM_STAT shows it: 0 IDLE, 1 ARMED, 2 RUN. -/
def State.streamState (s : State) (dir i : Nat) : Nat :=
  if dir = 0 then (if (sget {} i s.net.ins).run then 2 else 0)
  else if (sget {} i s.net.outs).run then 2
  else
    let w := s.descWord 1 i 0
    if w.getLsbD 0 && (sfind (wfield w 24 4) s.net.grp).isSome then 1 else 0

/-- Bytes of a media frame, FCS included. -/
def mediaFrameLen (tag : Bool) (nch p fmt : Nat) : Nat := 14 + (if tag then 4 else 0) + 40 + nch * p * sampleBytes fmt + 4

/-- A template's address and its TAGGED bit (R263). -/
def State.tmplAt (s : State) (x : Nat) : Nat := ramAddr (s.rd Reg.NET_TMPL_BASE.BASE) + x * 128
def State.tmplTagged (s : State) (x : Nat) : Bool := (s.byte (s.tmplAt x + 46)).getLsbD 0

/-- The template index of a path in egress word 4. -/
def tmplIndex (w4 : Word) (path : Nat) : Nat := wfield w4 (16 * path) 10

/-- Frame bytes of a descriptor on a path. An ingress frame is sized with the one tag it may carry. -/
def State.descFrameLen (s : State) (dir : Nat) (d : List Word) (path : Nat) : Nat :=
  let w := d.getD 0 0
  mediaFrameLen (if dir = 0 then true else s.tmplTagged (tmplIndex (d.getD 4 0) path)) (wfield w 5 7)
    (packetTicks s.mult (wfield w 12 3)) (wfield w 3 2)

/-- The paths that a descriptor uses. -/
def descPaths (w0 : Word) : List Nat := if w0.getLsbD 1 then [0, 1] else [0]

/-- PT of a descriptor. -/
def descPt (dir : Nat) (w0 : Word) : Nat := if dir = 0 then wfield w0 18 7 else wfield w0 17 7

/-- The coils of a jitter buffer: first and count (R265). -/
def descCoils (d : List Word) : Nat × Nat :=
  (wfield (d.getD 9 0) 0 14, (wfield (d.getD 0 0) 5 7 * wfield (d.getD 1 0) 16 16 * 4 + 4095) / 4096)

/-- Two runs of coils overlap. -/
def coilsMeet (a b : Nat × Nat) : Bool := decide (a.1 < b.1 + b.2) && decide (b.1 < a.1 + a.2)

/-- The live descriptor's words. -/
def State.liveDesc (s : State) (dir i : Nat) : List Word := (List.range 16).map fun w => s.descWord dir i w

/-- Coils in use: by other ingress streams, the reserved copy, and the coil slots of the live plan. -/
def State.coilsInUse (s : State) (i : Nat) : List (Nat × Nat) :=
  ((s.validStreams 0).filter (· ≠ i)).map (fun j => descCoils (s.liveDesc 0 j)) ++
    [(s.rd Reg.ENG_RES.BASE, s.rd Reg.ENG_RES.COUNT)] ++
    s.livePlan.engines.flatMap fun p => p.2.csd.map fun c =>
      (c.2.base / 256, (c.2.base + c.2.len + 255) / 256 - c.2.base / 256)

/-- A hitch of the stream belongs to a braid: its number. -/
def State.streamBraids (s : State) (dir i : Nat) : List Nat :=
  ((s.portHitches (decide (dir = 1)) 5 i).filter fun p => p.2.braided).map fun p => p.2.braid

/-- The line rate of a media MAC in bit/s (R248). -/
def State.lineRate (s : State) (mac : Nat) : Nat :=
  if s.rd (Reg.MAC_CTRL.RATE mac) = 1 then 25000000000 else 10000000000

/-- The media load of a MAC in units of 1/768 tick's bits per second, with a staged descriptor for stream i. -/
def State.mediaLoad (s : State) (mac i : Nat) (d : List Word) : Nat :=
  let one := fun (d : List Word) =>
    match pathOf (d.getD 0 0) mac with
    | none => 0
    | some p => (s.descFrameLen 1 d p + 20) * 8 * s.rate * (768 / packetTicks s.mult (wfield (d.getD 0 0) 12 3))
  (((s.validStreams 1).filter (· ≠ i)).map fun j => one (s.liveDesc 1 j)).sum + one d

/-- The reason of R267 for which a commit is refused, lowest first; 0 where it is accepted. -/
def State.descReason (s : State) (dir i : Nat) (d : List Word) : Nat :=
  let w := d.getD 0 0
  let nch := wfield w 5 7
  let fmt := wfield w 3 2
  let p := packetTicks s.mult (wfield w 12 3)
  let pt := descPt dir w
  let lo := wfield (d.getD 1 0) 0 16
  let depth := wfield (d.getD 1 0) 16 16
  let braids := s.streamBraids dir i
  let badBraid := fun b => decide (s.rd (Reg.STR_BRD_STATUS.STATE b) ≠ 0 ∧ s.rd (Reg.STR_BRD_CTRL.BFRAME b) % p ≠ 0)
  let coils := descCoils d
  let total := (((s.validStreams dir).filter (· ≠ i)).map fun j => s.streamChans dir j).sum
  if s.streamState dir i ≠ 0 then 1
  else if fmt = 3 ∨ nch = 0 ∨ 64 < nch ∨ (fmt = 2 ∧ nch % 2 = 1) ∨ 4 < wfield w 12 3 ∨ pt < 96 ∨
      (384 < p ∧ braids ≠ []) ∨ braids.any badBraid = true ∨ s.channelsBeyond (decide (dir = 1)) 5 i nch = true ∨
      (dir = 0 ∧ 16384 < coils.1 + coils.2) then 2
  else if (descPaths w).any fun q => decide (s.rd (Reg.LANE_CFG.ROLE (pathMac w q)) ≠ 1) then 3
  else if (descPaths w).any fun q => decide (s.rd (Reg.MAC_MAXLEN.MAXLEN (pathMac w q)) < s.descFrameLen dir d q) then 4
  else if dir = 0 ∧ (lo < p + 1 ∨ depth % 4 ≠ 0 ∨ depth < lo + p ∨ 16384 < depth) then 5
  else if 2304 < total + nch then 6
  else if dir = 0 ∧ (s.coilsInUse i).any (coilsMeet coils) = true then 7
  else if dir = 1 ∧ (descPaths w).any (fun q => decide
      (768 * 95 * s.lineRate (pathMac w q) < 100 * s.mediaLoad (pathMac w q) i d)) = true then 8
  else 0

/-- The live words of a stream. -/
def State.setDesc (s : State) (dir i : Nat) (d : List Word) : State :=
  s.onNet fun r => { r with live := (d.zip (List.range 16)).foldl (fun m p => sset 0 ((dir * 512 + i) * 16 + p.2) p.1 m) r.live }

/-- A stream stops: it forgets its packets and samples. -/
def State.streamStop (s : State) (dir i : Nat) : State :=
  s.onNet fun r =>
    let r := { r with go := r.go.filter fun p => decide (p.1 ≠ dir * 512 + i) }
    if dir = 1 then { r with outs := serase i r.outs }
    else { r with ins := serase i r.ins, play := r.play.filter fun p => decide (p.1 / 1024 ≠ i) }

/-- The streams as the commits that wait for the boundary leave them. -/
def State.withGo (s : State) : State := s.net.go.foldl (fun s p => s.setDesc (p.1 / 512) (p.1 % 512) p.2) s

/-- A write of NET_DESC_GO: VALID = 0 stops the stream at once; any other commit is checked and waits for the
next boundary. -/
def State.writeDescGo (s : State) (v : Word) : State :=
  if v.getLsbD 0 = false then s
  else
    let dir := s.rd Reg.NET_SEL.DIR
    let i := s.rd Reg.NET_SEL.INDEX
    let d := s.stagedDesc dir
    if (d.getD 0 0).getLsbD 0 = false then
      (((s.streamStop dir i).setDesc dir i d).put Reg.NET_DESC_LAST.REFUSED false).wr Reg.NET_DESC_LAST.REASON 0
    else
      let why := s.withGo.descReason dir i d
      if why = 0 then
        (((s.onNet fun r => { r with go := r.go.filter (fun p => decide (p.1 ≠ dir * 512 + i)) ++ [(dir * 512 + i, d)] }).put
          Reg.NET_DESC_GO.GO true).put Reg.NET_DESC_LAST.REFUSED false).wr Reg.NET_DESC_LAST.REASON 0
      else ((s.put Reg.NET_DESC_LAST.REFUSED true).wr Reg.NET_DESC_LAST.REASON why).refuseWrite 0x110028

/-- STREAM_DESC_COMMIT (12 R267): a write of NET_DESC_GO. -/
def execStreamDescCommit (v : Word) (s : State) : Out :=
  core (fun s => s.control 0x110028 v fun s => s.writeDescGo v) s

/-- Accepted descriptors take effect; an ingress stream accepts packets from tick t on (R268). -/
def State.descApply (s : State) (t : Nat) : State :=
  let s' := s.net.go.foldl (fun s p =>
    let dir := p.1 / 512
    let i := p.1 % 512
    let s := (s.streamStop dir i).setDesc dir i p.2
    if dir = 0 then
      let one : InStream := { run := true, first := t, a := { up := true }, b := { up := (p.2.getD 0 0).getLsbD 1 } }
      s.onNet fun r => { r with ins := sset {} i one r.ins }
    else s) s
  (s'.onNet fun r => { r with go := [] }).put Reg.NET_DESC_GO.GO false

/-- STREAM_DESC_APPLY (12 R267). -/
def execStreamDescApply (s : State) : Out := clocked (fun s => s.descApply (s.tick + 1)) s

/-! ### Start groups (R268) -/

/-- A write of NET_GRP_g_CTRL. -/
def State.writeGroup (s : State) (g : Nat) (v : Word) : State :=
  let a := 0x110100 + g * 0x10
  let arm := (Reg.NET_GRP_CTRL.ARM g).part v
  if (Reg.NET_GRP_CTRL.TRIGSRC g).part v = 1 then s.refuseWrite a
  else if arm = 1 ∧ s.on (Reg.NET_GRP_CTRL.ARM g) = true then s.refuseWrite a
  else s.guarded a v fun s =>
    if arm = 1 then
      let r := match s.rd (Reg.NET_GRP_CTRL.TRIGSRC g) with
        | 0 => Arming.wait (.tick (s.tick + 2))
        | 2 => s.armTick (s.rd (Reg.NET_GRP_TRIG_1.TRIG g) * 2 ^ 32 + s.rd (Reg.NET_GRP_TRIG_0.TRIG g))
        | _ => s.armPtp (s.rd (Reg.NET_GRP_CTRL.DOMAIN g))
            (s.rd (Reg.NET_GRP_TRIG_2.TRIG g) % 65536 * 2 ^ 32 + s.rd (Reg.NET_GRP_TRIG_1.TRIG g))
            (s.rd (Reg.NET_GRP_TRIG_0.TRIG g))
      match r with
      | .wait t => (s.onNet fun r => { r with grp := sinsert g t r.grp }).put (Reg.NET_GRP_CTRL.ARM g) true
      | .late => s.put (Reg.NET_GRP_CTRL.LATE g) true
      | .bad => (s.put (Reg.NET_GRP_CTRL.BAD_TRIG g) true).refused
    else s

/-- GROUP_ARM (12 R268): a write of NET_GRP_g_CTRL. -/
def execGroupArm (g : Fin 16) (v : Word) (s : State) : Out :=
  core (fun s => s.control (0x110100 + g.val * 0x10) v fun s => s.writeGroup g.val v) s

/-- A group stays IDLE: its trigger was found late. -/
def State.groupLate (s : State) (g : Nat) : State :=
  ((s.onNet fun r => { r with grp := serase g r.grp }).put (Reg.NET_GRP_CTRL.ARM g) false).put (Reg.NET_GRP_CTRL.LATE g) true

/-- At m0 every VALID IDLE stream of the group starts (R268): it reads its templates (R263). -/
def State.groupStart (s : State) (g m0 : Nat) : State :=
  let s := (s.onNet fun r => { r with grp := serase g r.grp }).put (Reg.NET_GRP_CTRL.ARM g) false
  (s.validStreams 1).foldl (fun s i =>
    if wfield (s.descWord 1 i 0) 24 4 = g ∧ (sget {} i s.net.outs).run = false then
      let w := s.descWord 1 i 4
      let one : OutStream := {
        run := true, m0 := m0, seq := wfield (s.descWord 1 i 3) 0 16
        tmplA := s.loadBytes (s.tmplAt (tmplIndex w 0)) 128, tmplB := s.loadBytes (s.tmplAt (tmplIndex w 1)) 128 }
      s.onNet fun r => { r with outs := sset {} i one r.outs }
    else s) s

/-- The groups whose start tick is t. -/
def State.groupsDue (s : State) (t : Nat) : List Nat :=
  (s.net.grp.filter fun p => decide (p.2 = .tick t)).map fun p => p.1

/-- GROUP_START (12 R268). -/
def execGroupStart (g : Fin 16) (s : State) : Out :=
  clocked (fun s => if (s.groupsDue (s.tick + 1)).contains g.val then s.groupStart g.val (s.tick + 1) else s) s

/-! ### Egress (R263) -/

/-- The egress stage gives each running stream the tick's samples; a channel without a hitch carries 0. -/
def State.netEgress (s : State) : State :=
  (s.validStreams 1).foldl (fun s i =>
    let x := sget {} i s.net.outs
    if x.run ∧ x.m0 ≤ s.tick then
      let l := (List.range (s.streamChans 1 i)).map fun c =>
        match s.egressOf (chanKey 5 i c) with | some (v, _) => v | none => 0
      let mc := s.mediaCount (wfield (s.descWord 1 i 0) 15 2)
      s.onNet fun r => { r with outs := sset {} i { x with buf := x.buf ++ [(mc, l)] } r.outs }
    else s) s

/-- An even number of ones makes bit 0. -/
def parityBit (n : Nat) (v : Nat) : Nat := ((List.range n).filter fun i => v.testBit i).length % 2

/-- An AM824 subframe: label 0 0 B F P C U V above the 24 audio bits. PRESUMED from SMPTE ST 2110-31 for the
places of the label's bits. -/
def am824 (b f c : Bool) (audio : Nat) : Nat :=
  let body := c.toNat * 4
  let p := parityBit 32 (body * 2 ^ 24 + audio)
  (b.toNat * 32 + f.toNat * 16 + p * 8 + body) * 2 ^ 24 + audio

/-- The payload bytes of one sample of a packet: format, channel, frame of the channel-status block and the
status bytes. -/
def sampleOut (fmt ch block : Nat) (status : List Byte) (v : Word) : List Byte :=
  if fmt = 0 then beBytes 2 (roundTo 16 v).toNat
  else if fmt = 1 then beBytes 3 (roundTo 24 v).toNat
  else beBytes 4 (am824 (decide (block = 0)) (decide (ch % 2 = 0))
    ((status.getD (block / 8) 0).getLsbD (block % 8)) (roundTo 24 v).toNat)

/-- A media frame from a template and a UDP payload: lengths, identification and checksums are computed over
the frame as sent (R257), and the FCS is appended. -/
def mediaFrame (t payload : List Byte) : List Byte :=
  let tag := (t.getD 46 0).getLsbD 0
  let ip := (t.drop 18).take 20
  let udp := (t.drop 38).take 4
  let ulen := 8 + payload.length
  let ip0 := ip.take 2 ++ beBytes 2 (20 + ulen) ++ [0, 0] ++ (ip.drop 6).take 4
  let addr := ip.drop 12
  let ipsum := inetSum 0 (ip0 ++ addr)
  let sum := inetSum (17 + ulen) (addr ++ udp ++ beBytes 2 ulen ++ payload)
  let sum := if sum = 0 then 65535 else sum
  let l := t.take 12 ++ (if tag then (t.drop 12).take 4 else []) ++ (t.drop 16).take 2 ++ ip0 ++ beBytes 2 ipsum ++ addr ++
    udp ++ beBytes 2 ulen ++ beBytes 2 sum ++ payload
  l ++ fcsBytes l

/-- The RTP packet of a stream's first P buffered ticks. -/
def rtpPacket (x : OutStream) (pt ts ssrc fmt p : Nat) (tmpl : List Byte) : List Byte :=
  let status := (tmpl.drop 48).take 24
  let rows := x.buf.take p
  [0x80, BitVec.ofNat 8 pt] ++ beBytes 2 x.seq ++ beBytes 4 ts ++ beBytes 4 ssrc ++
    (rows.zip (List.range p)).flatMap fun r =>
      (r.1.2.zip (List.range r.1.2.length)).flatMap fun v => sampleOut fmt v.2 ((x.n * p + r.2) % 192) status v.1

/-- A media frame leaves a MAC; a standby discards it there (R269), and a MAC without a link sends nothing
(R249). -/
def State.sendMedia (s : State) (mac : Nat) (l : List Byte) : State :=
  if s.isStandby || !s.on (Reg.MAC_STATUS.LINK mac) then s
  else (s.macCount mac 11).onNet fun r => { r with lastTx := sset [] mac l r.lastTx }

/-- A stream's next packet is built and queued on its paths. -/
def State.streamPacket (s : State) (i : Nat) : State :=
  let x := sget {} i s.net.outs
  let w := s.descWord 1 i 0
  let p := s.streamP 1 i
  let ts := ((x.buf.head?.map Prod.fst).getD 0 + (s.descWord 1 i 1).toNat) % 2 ^ 32
  let pkt := rtpPacket x (descPt 1 w) ts (s.descWord 1 i 2).toNat (wfield w 3 2) p
  let out := (pathMac w 0, mediaFrame x.tmplA (pkt x.tmplA)) ::
    (if w.getLsbD 1 then [(pathMac w 1, mediaFrame x.tmplB (pkt x.tmplA))] else [])
  let s := out.foldl (fun s f => s.sendMedia f.1 f.2) s
  let x := { x with buf := x.buf.drop p, n := x.n + 1, seq := (x.seq + 1) % 65536, last := out, lastTick := s.tick }
  s.onNet fun r => { r with outs := sset {} i x r.outs }

/-- A packet whose P ticks were all read, and whose queue instant has come, is queued. -/
def State.streamSend (s : State) (i : Nat) : State :=
  let x := sget {} i s.net.outs
  let p := s.streamP 1 i
  if x.run ∧ p ≤ x.buf.length ∧ x.m0 + (x.n + 1) * p ≤ s.tick then s.streamPacket i else s

/-- Before the gap of a change of family every packet whose ticks were all read is sent (R270). -/
def State.netFlush (s : State) : State :=
  (s.validStreams 1).foldl (fun s i =>
    let x := sget {} i s.net.outs
    if x.run ∧ s.streamP 1 i ≤ x.buf.length then s.streamPacket i else s) s

/-- STREAM_TX_QUEUE (12 R263). -/
def execStreamTxQueue (i : Fin 512) (s : State) : Out := clocked (fun s => s.streamSend i.val) s

/-- Every stream's packet that is due in the tick, in ascending stream number. -/
def State.netSendAll (s : State) : State := (s.validStreams 1).foldl State.streamSend s

/-- MAC_TX_CONTROL (12 R259): the MAC reaches its ring's head, at a cycle and sixteenth of the present tick. Media frames
queued by then, those of ECLK 256, go before it. -/
def execMacTxControl (i : Fin 5) (eclk : BitVec 15) (sixteenth : BitVec 4) (sc : Nat) (s : State) : Out :=
  core (fun s =>
    if s.dormant then s
    else
      let s := s.runSc sc
      (if s.rclk && decide (256 ≤ eclk.toNat) then s.netSendAll else s).macTransmit i.val eclk.toNat sixteenth.toNat) s

/-! ### Ingress (R264-R266) -/

/-- The place of a channel's sample in the playout window. -/
def playKey (i c u : Nat) : Nat := (i * 64 + c) * 16 + u % 16

/-- The fabric address of a jitter-buffer word (R265). -/
def State.jitterAddr (s : State) (i c t : Nat) : Nat :=
  let depth := wfield (s.descWord 0 i 1) 16 16
  coilBase + 4096 * wfield (s.descWord 0 i 9) 0 14 + 4 * (c * depth + t % depth)

/-- A sample into the playout window. -/
def State.setPlay (s : State) (i c u : Nat) (v : Word) : State :=
  s.onNet fun r => { r with play := sinsert (playKey i c u) ⟨v, 0, true⟩ r.play }

/-- A sample due at tick u: into the playout window within 8 ticks, into the coils beyond (R265). `t` is its
stamp tick. -/
def State.placeSample (s : State) (i c u t : Nat) (v : Word) : State :=
  if u ≤ s.tick + 8 then s.setPlay i c u v
  else (s.store (s.jitterAddr i c t) 4 v.toNat).eccClear (.coil ((s.jitterAddr i c t - coilBase) / 16))

/-- A payload sample: none where an AM824 subframe fails its parity. -/
def sampleIn (fmt : Nat) (l : List Byte) (a : Nat) : Option Word :=
  if fmt = 0 then some (BitVec.ofNat 32 (be l a 2 * 65536))
  else if fmt = 1 then some (BitVec.ofNat 32 (be l a 3 * 256))
  else
    let w := be l a 4
    if parityBit 32 (w % 2 ^ 24 + w / 2 ^ 24 % 16 * 2 ^ 24) = 0 then some (BitVec.ofNat 32 (w % 2 ^ 24 * 256)) else none

/-- The samples of a packet, channel by channel. -/
def State.placePacket (s : State) (i u t p nch fmt : Nat) (l : List Byte) (a : Nat) : State :=
  (List.range p).foldl (fun s k => (List.range nch).foldl (fun s c =>
    match sampleIn fmt l (a + (k * nch + c) * sampleBytes fmt) with
    | some v => s.placeSample i c (u + k) (t + k) v
    | none => s) s) s

/-- The samples of a packet that failed their parity. -/
def badSamples (p nch fmt : Nat) (l : List Byte) (a : Nat) : List Nat :=
  ((List.range p).flatMap fun k => (List.range nch).map fun c => (c * p + k, k * nch + c)).filterMap fun x =>
    if sampleIn fmt l (a + x.2 * sampleBytes fmt) = none then some x.1 else none

/-- A change of an ingress stream's record. -/
def State.onIn (s : State) (i : Nat) (f : InStream → InStream) : State :=
  s.onNet fun r => { r with ins := sset {} i (f (sget {} i r.ins)) r.ins }

/-- A copy counts as accepted on its path. -/
def NetPkt.got (k : NetPkt) (path : Nat) : NetPkt := if path = 0 then { k with gotA := true } else { k with gotB := true }

/-- The checks of R257 and R264 that do not depend on the tick: the offset of the RTP header, or none. -/
def State.mediaOk (s : State) (r : NetRx) (path : Nat) : Bool :=
  let l := r.bytes
  let w := s.descWord 0 r.stream 0
  let a := ipAt l + 28
  let src := (s.descWord 0 r.stream (5 + path)).toNat
  decide (fb l a / 64 = 2) && decide (fb l (a + 1) % 128 = descPt 0 w) &&
    (!w.getLsbD 17 || decide (be l (a + 8) 4 = (s.descWord 0 r.stream 8).toNat)) &&
    (decide (src = 0) || decide (src = srcIp l)) &&
    decide (be l (ipAt l + 24) 2 = 20 + wfield w 5 7 * s.streamP 0 r.stream * sampleBytes (wfield w 3 2)) &&
    decide (a + 12 + wfield w 5 7 * s.streamP 0 r.stream * sampleBytes (wfield w 3 2) + 4 ≤ l.length)

/-- The checksums of R257. -/
def sumsOk (l : List Byte) : Bool :=
  let p := ipAt l
  let ulen := be l (p + 24) 2
  decide (foldSum (onesSum ((l.drop p).take 20)) = 65535) &&
    (decide (be l (p + 26) 2 = 0) ||
      decide (foldSum (17 + ulen + onesSum ((l.drop (p + 12)).take 8) + onesSum ((l.drop (p + 20)).take ulen)) = 65535))

/-- A path's sequence numbers count its losses (R266): a packet ahead of the one expected shows that those between were
lost. No register shows the count. -/
def NetPath.sequence (a : NetPath) (n : Nat) : NetPath :=
  let gap := match a.seq with | some m => (n + 65535 - m) % 65536 | none => 0
  if gap < 32768 then { a with seq := some n, gaps := min (a.gaps + gap) 65535 } else a

/-- An accepted copy shows its sequence number on its path. -/
def InStream.sequence (x : InStream) (path n : Nat) : InStream :=
  if path = 0 then { x with a := x.a.sequence n } else { x with b := x.b.sequence n }

/-- A packet that passed R264, with its stamp tick: a copy of one already written, early, late, or written (R265, R266).
Only the deadlines of ticks past make it late. -/
def State.takePacket (s : State) (r : NetRx) (path : Nat) (t : Int) : State :=
  let i := r.stream
  let x := sget {} i s.net.ins
  let w := s.descWord 0 i 0
  let p := s.streamP 0 i
  let lo := wfield (s.descWord 0 i 1) 0 16
  let depth := wfield (s.descWord 0 i 1) 16 16
  let u := t + lo
  let s := s.onIn i fun x => x.sequence path (be r.bytes (ipAt r.bytes + 30) 2)
  if x.pkts.any fun k => decide ((k.due : Int) = u) then
    s.onIn i fun x => { x with
      dup := min (x.dup + 1) 65535
      pkts := x.pkts.map fun k => if (k.due : Int) = u then k.got path else k }
  else if (r.now : Int) + depth - p < u then (s.onIn i fun x => { x with early := min (x.early + 1) 65535 }).dropLate 5 i true
  else if u ≤ r.tick ∨ t < 0 then (s.onIn i fun x => { x with late := min (x.late + 1) 65535 }).dropLate 5 i false
  else
    let u := u.toNat
    let t := t.toNat
    let a := ipAt r.bytes + 40
    let nch := wfield w 5 7
    let fmt := wfield w 3 2
    let bad := badSamples p nch fmt r.bytes a
    let k : NetPkt := { due := u, gotA := false, gotB := false, bad := bad }
    (s.placePacket i u t p nch fmt r.bytes a).onIn i fun x => { x with
      phase := some (x.phase.getD t), parity := min (x.parity + bad.length) 65535, pkts := x.pkts ++ [k.got path] }

/-- A packet that R264 drops is counted; no field of NET_STRM_CNT names it (log 203). -/
def State.refusePacket (s : State) (i : Nat) : State := s.onIn i fun x => { x with refused := min (x.refused + 1) 65535 }

/-- The packet at the front of the stream engine's queue is checked and placed. -/
def State.rxPacket (s : State) : State :=
  match s.net.rxq with
  | [] => s
  | r :: rest =>
    let s := s.onNet fun n => { n with rxq := rest }
    let x := sget {} r.stream s.net.ins
    let w := s.descWord 0 r.stream 0
    match pathOf w r.mac with
    | none => s
    | some path =>
      if sumsOk r.bytes = false then s.macCount r.mac 7
      else if x.run = false ∨ r.now < x.first then s
      else if s.mediaOk r path = false then s.refusePacket r.stream
      else
        let ts := be r.bytes (ipAt r.bytes + 32) 4
        let d : Int := (ts : Int) - (s.descWord 0 r.stream 7).toNat - s.mediaCount (wfield w 15 2)
        let d := d % 2 ^ 32
        let d := if d < 2 ^ 31 then d else d - 2 ^ 32
        let t := (r.tick : Int) + d
        match x.phase with
        | some ph => if (t - ph) % s.streamP 0 r.stream = 0 then s.takePacket r path t else s.refusePacket r.stream
        | none => s.takePacket r path t

/-- STREAM_RX_PACKET (12 R265). -/
def execStreamRxPacket (s : State) : Out := clocked State.rxPacket s

/-- A path at a deadline, with whether a copy came by it: DOWN after PLOSS MISSING packets, UP after 4 in time
(R266). -/
def NetPath.deadline (ploss : Nat) (got : Bool) (a : NetPath) : NetPath :=
  if got then { a with miss := 0, good := min (a.good + 1) 4, up := a.up || decide (3 ≤ a.good) }
  else { a with good := 0, miss := min (a.miss + 1) 15, count := min (a.count + 1) 65535,
                up := a.up && decide (a.miss + 1 < ploss) }

/-- The deadline of the present tick for a stream, once (R266). -/
def State.packetDeadline (s : State) (i : Nat) : State :=
  let x := sget {} i s.net.ins
  let p := s.streamP 0 i
  let lo := wfield (s.descWord 0 i 1) 0 16
  match x.phase with
  | none => s
  | some ph =>
    if x.run ∧ x.deadline ≠ some s.tick ∧ (ph + lo ≤ s.tick) ∧ (s.tick - ph - lo) % p = 0 then
      let dual := (s.descWord 0 i 0).getLsbD 1
      let k := x.pkts.find? fun k => decide (k.due = s.tick)
      let gotA := (k.map fun k => k.gotA).getD false
      let gotB := (k.map fun k => k.gotB).getD false
      let ploss := s.rd Reg.NET_CTRL.PLOSS
      let a := x.a.deadline ploss gotA
      let b := if dual then x.b.deadline ploss gotB else x.b
      let down := dual && ((x.a.up && !a.up) || (x.b.up && !b.up))
      let lost := k.isNone
      let s := s.onIn i fun x => { x with
        a := a, b := b, deadline := some s.tick
        lost := if lost then min (x.lost + 1) 65535 else x.lost }
      let s := if down then s.raise Src.NET_PATH else s
      if lost then s.raise Src.NET_LOSS else s
    else s

/-- STREAM_PACKET_DEADLINE (12 R266): tick u, ECLK 32 of a stream. -/
def execStreamPacketDeadline (i : Fin 512) (s : State) : Out := clocked (fun s => s.packetDeadline i.val) s

/-- What is left of the tick for the stream engine: its queue and its deadlines. -/
def State.netEndTick (s : State) : State :=
  let s := s.net.rxq.foldl (fun s _ => s.rxPacket) s
  (s.validStreams 0).foldl State.packetDeadline s

/-- The move of the samples due 8 ticks after the present one from the coils to the playout window (R265). A packet
written is known as such for DEPTH ticks (log 204); a damaged quad leaves its samples missing (log 212). -/
def State.netMove (s : State) (i : Nat) : State :=
  let p := s.streamP 0 i
  let lo := wfield (s.descWord 0 i 1) 0 16
  let u := s.tick + 8
  let depth := wfield (s.descWord 0 i 1) 16 16
  let s := s.onIn i fun x => { x with pkts := x.pkts.filter fun k => decide (s.tick < k.due + max p depth) }
  match (sget {} i s.net.ins).pkts.find? fun k => decide (k.due ≤ u ∧ u < k.due + p) with
  | none => s
  | some k => (List.range (s.streamChans 0 i)).foldl (fun s c =>
      if k.bad.contains (c * p + (u - k.due)) then s
      else
        let a := s.jitterAddr i c (u - lo)
        match s.eccMark (.coil ((a - coilBase) / 16)) with
        | some m => if m.double then s else s.setPlay i c u (BitVec.ofNat 32 (s.load a 4))
        | none => s.setPlay i c u (BitVec.ofNat 32 (s.load a 4))) s

/-- The stream engine at the boundary of the present tick: moves into the playout window, and the samples due
now offered to their hitches. -/
def State.netIngress (s : State) : State :=
  let s := (s.validStreams 0).foldl State.netMove s
  let now := s.net.play.filter fun p => decide (p.1 % 16 = s.tick % 16)
  let s := now.foldl (fun s p => s.offer (chanKey 5 (p.1 / 1024) (p.1 / 16 % 64)) p.2.sample 0) s
  s.onNet fun r => { r with play := r.play.filter fun p => decide (p.1 % 16 ≠ s.tick % 16) }

/-! ### The partner's packets (R269) -/

/-- P of the shortest running egress stream. -/
def State.shortestP (s : State) : Option Nat :=
  (((s.validStreams 1).filter fun i => (sget {} i s.net.outs).run).map fun i => s.streamP 1 i).min?

/-- No packet of the partner for 2 packet times of the shortest stream. -/
def State.partnerAbsent (s : State) : State :=
  match s.shortestP with
  | some p =>
    if s.isStandby && s.on Reg.NET_CTRL.WATCH_EN && decide (2 * p ≤ s.net.quiet) then s.put Reg.NET_STATUS.PARTNER_ABSENT true
    else s
  | none => s

/-- PARTNER_ABSENT (12 R269). -/
def execPartnerAbsent (s : State) : Out := clocked State.partnerAbsent s

/-- The watch at a tick boundary. -/
def State.watchTick (s : State) : State :=
  if s.isStandby && s.on Reg.NET_CTRL.WATCH_EN then (s.onNet fun r => { r with quiet := r.quiet + 1 }).partnerAbsent
  else (s.onNet fun r => { r with quiet := 0 }).put Reg.NET_STATUS.PARTNER_ABSENT false

/-! ### Change of rate family (R270) -/

/-- From the first new-rate tick t: egress restarts at m0 = t with its sequence numbers going on, ingress
forgets its packets and phase. -/
def State.netRestart (s : State) (t : Nat) : State :=
  s.onNet fun r => { r with
    outs := r.outs.map (fun p => (p.1, { p.2 with m0 := t, n := 0, buf := [] }))
    ins := r.ins.map (fun p => (p.1, { p.2 with phase := none, pkts := [], first := t, deadline := none }))
    play := [], rxq := [] }

/-! ### Register windows (R273) -/

/-- NET_STRM_STAT of the selected stream. -/
def State.streamStat (s : State) : Nat :=
  let dir := s.rd Reg.NET_SEL.DIR
  let i := s.rd Reg.NET_SEL.INDEX
  let x := sget {} i s.net.ins
  s.streamState dir i + (if dir = 0 then x.a.up.toNat * 4 + x.b.up.toNat * 8 else 0)

/-- NET_STRM_CNT_k of the selected ingress stream, which the read clears. -/
def State.streamCounts (s : State) (k : Nat) : Nat × State :=
  let i := s.rd Reg.NET_SEL.INDEX
  if s.rd Reg.NET_SEL.DIR = 1 then (0, s)
  else
    let x := sget {} i s.net.ins
    match k with
    | 0 => (x.late + 65536 * x.early, s.onIn i fun x => { x with late := 0, early := 0 })
    | 1 => (x.lost + 65536 * x.dup, s.onIn i fun x => { x with lost := 0, dup := 0 })
    | _ => (x.a.count + 65536 * x.b.count,
        s.onIn i fun x => { x with a := { x.a with count := 0 }, b := { x.b with count := 0 } })

end Sys2Proof.Machine
end

