-- ==== Sys2Proof/Machine/Lane.lean ====
section
/-! DEFINITION. SerDes lanes: roles, detectors, block lock and margin scans (13 R274-R277, R285, R292, R295,
R297). -/

namespace Sys2Proof.Machine

/-- A lane's record. -/
def State.laneRec (s : State) (n : Nat) : FlxLane := sget {} n s.lane

/-- Changing a lane's record. -/
def State.onLane (s : State) (n : Nat) (f : FlxLane → FlxLane) : State :=
  { s with lane := sset {} n (f (s.laneRec n)) s.lane }

/-- A lane's role (R274). -/
def State.role (s : State) (n : Nat) : Nat := s.rd (Reg.LANE_CFG.ROLE n)

/-- The lane carries Flitex frames: FLX2, FLX1 or TETHER. -/
def State.isFlx (s : State) (n : Nat) : Bool := decide (2 ≤ s.role n ∧ s.role n ≤ 4)

/-- The roles a lane permits (R274). PCIE on LANE_15 is the second lane of x2. -/
def rolePermitted (n role : Nat) : Bool :=
  match role with
  | 0 => true
  | 1 => decide (n ≤ 3)
  | 2 => decide (n ≤ 11 ∨ n = 14 ∨ n = 15)
  | 3 => decide (n ≤ 11 ∨ n = 14 ∨ n = 15)
  | 4 => decide (n = 12 ∨ n = 13)
  | 5 => decide (n = 14 ∨ n = 15)
  | 6 => true
  | _ => false

/-- A receiver that may acquire: no LOS or LOL, calibrated, and receiving. -/
def State.mayAcquire (s : State) (n : Nat) : Bool :=
  !s.on (Reg.LANE_STATUS.LOS n) && !s.on (Reg.LANE_STATUS.LOL n) && s.on (Reg.LANE_STATUS.CAL_DONE n) &&
    (decide (s.role n = 1) || decide (s.role n = 4) || (s.isFlx n && s.on (Reg.FLX_CFG.RXEN n)))

/-- The tether is up while both lanes are LOCKED (R293). The ACTIVE of a pair raises PAIR_PEER where it loses
the tether (14 R327). -/
def State.tetherState (s : State) : State :=
  let up := decide (s.role 12 = 4) && decide (s.role 13 = 4) && decide ((s.laneRec 12).lock = 3) && decide ((s.laneRec 13).lock = 3)
  if s.on Reg.TTH_STATUS.TETHER_UP && !up then
    let s := (s.put Reg.TTH_STATUS.TETHER_UP false).onTth fun r => { r with checked := false, frames := [] }
    let s := s.wr Reg.TTH_STATUS.PEER_STATE 6
    if s.rd Reg.TTH_STATUS.STATE = 1 then s.raise Src.PAIR_PEER else s
  else s

/-- The lock state of a lane, shown in FLX_nn_STATUS for a Flitex lane and in the MAC's link for an ETH lane. -/
def State.setLock (s : State) (n st : Nat) : State :=
  let s := s.onLane n fun x => { x with lock := st }
  let s := if s.isFlx n then s.wr (Reg.FLX_STATUS.STATE n) st else s.wr (Reg.FLX_STATUS.STATE n) 0
  if s.role n = 1 then
    (s.setLink n (s.on (Reg.MAC_STATUS.LFAULT n)) (s.on (Reg.MAC_STATUS.RFAULT n)) (decide (st = 3))).showLat n
  else if n = 12 ∨ n = 13 then s.tetherState else s

/-- A lane leaves LOCKED (R285): LOCKLOST and FLX_LOCK on a Flitex lane, and a reference slot on it loses
activity (08 R162). -/
def State.leaveLocked (s : State) (n : Nat) : State :=
  if s.isFlx n && decide ((s.laneRec n).lock = 3) then
    let s := (s.put (Reg.FLX_STATUS.LOCKLOST n) true).raise Src.FLX_LOCK
    ((List.range 16).filter fun k => decide (s.rd (Reg.REFS_CFG.SRC k) = 0x10 + n)).foldl State.slotLost s
  else s

/-- The receiver forgets its markers and its buffer, and the control channel its counts (R285, R289). -/
def FlxLane.restart (x : FlxLane) : FlxLane :=
  { x with
    seq := none, opened := false, valid := 0, cs := [], miss := 0, frames := [], sent := 0, credit := 0, freed := 0
    cells := [], txPos := 0, prbsIn := [] }

/-- AVAIL shows the credits (R289). -/
def State.showCredit (s : State) (n : Nat) : State :=
  let x := s.laneRec n
  s.wr (Reg.FLX_CC_CRED.AVAIL n) (512 - (x.sent + 65536 - x.credit) % 65536)

/-- The lane loses lock: HUNT, with the slip position kept (R285). -/
def State.dropLock (s : State) (n : Nat) : State :=
  let s := s.leaveLocked n
  let s := s.onLane n FlxLane.restart
  if (s.laneRec n).lock = 0 then s else (s.setLock n 1).showCredit n

/-- The lane begins acquisition, or stays off. -/
def State.acquire (s : State) (n : Nat) : State :=
  let s := s.leaveLocked n
  let s := s.onLane n fun x => { x.restart with prbsGen := [], prbsOut := [] }
  (s.setLock n (if s.role n = 1 ∨ s.role n = 4 ∨ (s.isFlx n = true ∧ s.on (Reg.FLX_CFG.RXEN n) = true) then 1 else 0)).showCredit n

/-! ### PRBS (R295) -/

/-- The taps of PRBS7, PRBS15 and PRBS31: a bit is the sum of the bits that many bit times ago. -/
def prbsTaps (pattern : Nat) : Nat × Nat :=
  match pattern with
  | 0 => (7, 6)
  | 1 => (15, 14)
  | _ => (31, 28)

/-- The next bit of a pattern after bits listed latest first; a generator begins with ones. -/
def prbsNext (pattern : Nat) (h : List Bool) : Bool :=
  Bool.xor (h.getD ((prbsTaps pattern).1 - 1) true) (h.getD ((prbsTaps pattern).2 - 1) true)

/-- Bits of a pattern, the first first, and the history after them. -/
def prbsSend (pattern : Nat) : Nat → List Bool → List Bool × List Bool
  | 0, h => ([], h)
  | n + 1, h =>
    let b := prbsNext pattern h
    let r := prbsSend pattern n ((b :: h).take 31)
    (b :: r.1, r.2)

/-- The errors of received bits and the history after them. The checker takes its history from what it receives, and
judges a bit once it holds as many as the pattern looks back. -/
def prbsCheck (pattern : Nat) : List Bool → List Bool → Nat × List Bool
  | [], h => (0, h)
  | b :: l, h =>
    let bad := decide ((prbsTaps pattern).1 ≤ h.length) && (b != prbsNext pattern h)
    let r := prbsCheck pattern l ((b :: h).take 31)
    (r.1 + bad.toNat, r.2)

/-- A tick of a lane in the PRBS role: it sends its pattern, and counts the errors of what it receives while its CDR has
lock. A lane of another role, or one that is not calibrated, does neither. -/
def State.prbsTick (s : State) (x : PrbsIn) : State :=
  let n := x.lane.val
  if s.role n ≠ 6 ∨ s.on (Reg.LANE_STATUS.CAL_DONE n) = false then s
  else
    let pat := s.rd (Reg.LANE_CFG.PATTERN n)
    let r := s.laneRec n
    let out := prbsSend pat x.sent r.prbsGen
    let got := if s.on (Reg.LANE_STATUS.LOS n) || s.on (Reg.LANE_STATUS.LOL n) then (0, [])
      else prbsCheck pat (x.bits.map fun b => b != s.on (Reg.LANE_CFG.RXPOL n)) r.prbsIn
    (s.onLane n fun r => { r with
      prbsIn := got.2, prbsGen := out.2
      prbsOut := out.1.map fun b => b != s.on (Reg.LANE_CFG.TXPOL n) }).wr (Reg.LANE_PRBSCNT.ERR n)
      (min (2 ^ 32 - 1) (s.rd (Reg.LANE_PRBSCNT.ERR n) + got.1))

/-! ### Configuration (R274, R277, R297) -/

/-- The rate a lane runs at, as far as its own register gives it. -/
def laneRates (v : Word) : Nat × Nat × Nat × Nat := (wfield v 0 3, wfield v 3 1, wfield v 4 1, wfield v 8 10)

/-- A write of LANE_nn_CFG: it restarts the lane at once, and recalibrates it where its rate changes. -/
def State.writeLaneCfg (s : State) (n : Nat) (v : Word) : State :=
  let a := 0x120000 + n * 0x40
  if rolePermitted n (wfield v 0 3) = false ∨ (s.boot.badLanes.getLsbD n = true ∧ wfield v 0 3 ≠ 0) then s.refuseWrite a
  else
    let old := s.word ((fieldsAt a).getD [])
    s.guarded a v fun s =>
      let s := if laneRates old = laneRates v then s else s.put (Reg.LANE_STATUS.CAL_DONE n) false
      let s := s.acquire n
      if n < 4 ∧ wfield old 0 3 = 1 ∧ wfield v 0 3 ≠ 1 then s.setLink n false false false else s

/-- LANE_CFG_WRITE (13 R277). -/
def execLaneCfgWrite (n : Fin 16) (v : Word) (s : State) : Out :=
  core (fun s => s.control (0x120000 + n.val * 0x40) v fun s => s.writeLaneCfg n.val v) s

/-- LANE_CAL_DONE (13 R277): acquisition begins. -/
def execLaneCalDone (n : Fin 16) (s : State) : Out :=
  core (fun s => if s.on (Reg.LANE_STATUS.CAL_DONE n.val) then s
    else (s.put (Reg.LANE_STATUS.CAL_DONE n.val) true).acquire n.val) s

/-- The equaliser registers restart the lane (the caution of R297); PRE + MAIN + POST is at most 127. -/
def State.writeLaneTxeq (s : State) (n : Nat) (v : Word) : State :=
  let a := 0x120008 + n * 0x40
  if 127 < wfield v 0 5 + wfield v 8 5 + wfield v 16 7 then s.refuseWrite a else s.guarded a v fun s => s.acquire n

/-- LANE_nn_RXEQ. -/
def State.writeLaneRxeq (s : State) (n : Nat) (v : Word) : State := s.guarded (0x12000C + n * 0x40) v fun s => s.acquire n

/-! ### LOS, LOL and the references (R275, R276) -/

/-- An assertion on an enabled lane raises LANE_LOS. -/
def State.losSource (s : State) (n : Nat) : State := if s.role n = 0 then s else s.raise Src.LANE_LOS

/-- LANE_LOS is active while an enabled lane shows LOS or LOL. -/
def State.losActive (s : State) : State :=
  s.put (Reg.FLT_SRC.ACTIVE Src.LANE_LOS) ((List.range 16).any fun n =>
    decide (s.role n ≠ 0) && (s.on (Reg.LANE_STATUS.LOS n) || s.on (Reg.LANE_STATUS.LOL n)))

/-- LOL asserts. -/
def State.lolAssert (s : State) (n : Nat) : State :=
  if s.on (Reg.LANE_STATUS.LOL n) then s
  else ((((s.put (Reg.LANE_STATUS.LOL n) true).put (Reg.LANE_STATUS.LOL_EV n) true).dropLock n).losSource n).losActive

/-- LOS_ASSERT (13 R276). -/
def execLosAssert (n : Fin 16) (s : State) : Out :=
  core (fun s => if s.on (Reg.LANE_STATUS.LOS n.val) then s
    else ((((s.put (Reg.LANE_STATUS.LOS n.val) true).put (Reg.LANE_STATUS.LOS_EV n.val) true).dropLock n.val).losSource n.val).losActive) s

/-- LOS_CLEAR (13 R276). -/
def execLosClear (n : Fin 16) (s : State) : Out := core (fun s => (s.put (Reg.LANE_STATUS.LOS n.val) false).losActive) s

/-- LOL_ASSERT (13 R276). -/
def execLolAssert (n : Fin 16) (s : State) : Out := core (fun s => s.lolAssert n.val) s

/-- LOL_CLEAR (13 R276): the CDR has lock again, which it cannot have without its reference (R275). -/
def execLolClear (n : Fin 16) (s : State) : Out :=
  core (fun s =>
    let ok := if n.val < 8 then s.on Reg.LANE_GSTATUS.REFCLK0_OK else s.on Reg.LANE_GSTATUS.REFCLK1_OK
    if ok then (s.put (Reg.LANE_STATUS.LOL n.val) false).losActive else s) s

/-- REFCLK_SD_LOSS (13 R275): a lane reference goes or returns. -/
def execRefclkSdLoss (half : Fin 2) (ok : Bool) (s : State) : Out :=
  core (fun s =>
    let s := s.put (if half.val = 0 then Reg.LANE_GSTATUS.REFCLK0_OK else Reg.LANE_GSTATUS.REFCLK1_OK) ok
    if ok then s else (List.range 8).foldl (fun s j => s.lolAssert (8 * half.val + j)) s) s

/-! ### Block lock (R285, R292) -/

/-- 128 valid sync headers at slip position b: LOCKED on an ETH lane, WAIT_MARKER on a Flitex-2 lane; a
Flitex-1 receiver aligns to the comma and awaits its markers. -/
def State.blockLock (s : State) (n b : Nat) : State :=
  let x := s.laneRec n
  if x.lock = 1 ∧ s.mayAcquire n = true then
    let s := s.wr (Reg.LANE_STATUS.SLIP n) b
    s.setLock n (if s.role n = 1 then 3 else 2)
  else s

/-- BLOCK_LOCK (13 R285). -/
def execBlockLock (n : Fin 16) (b : Fin 66) (s : State) : Out := core (fun s => s.blockLock n.val b.val) s

/-- BLOCK_LOCK_LOSS (13 R285): 16 invalid headers in 64, or in WAIT_MARKER an invalid header; on a Flitex-1
lane 16 violations in 64 characters (R292). -/
def execBlockLockLoss (n : Fin 16) (s : State) : Out :=
  core (fun s => if 2 ≤ (s.laneRec n.val).lock then s.dropLock n.val else s) s

/-! ### Margin scans (R295) -/

/-- A write of LANE_nn_MARGIN. -/
def State.writeMargin (s : State) (n : Nat) (v : Word) : State :=
  s.guarded (0x120014 + n * 0x40) v fun s => if v.getLsbD 0 then s.put (Reg.LANE_MARGIN.START n) true else s

/-- MARGIN_START (13 R295). -/
def execMarginStart (n : Fin 16) (v : Word) (s : State) : Out :=
  core (fun s => s.control (0x120014 + n.val * 0x40) v fun s => s.writeMargin n.val v) s

/-- MARGIN_DONE (13 R295): the scan reports its openings. -/
def execMarginDone (n : Fin 16) (h_ w : BitVec 8) (s : State) : Out :=
  core (fun s => if s.on (Reg.LANE_MARGIN.START n.val) then
    let least := fun (o : Option Nat) (v : Nat) => some (min (o.getD v) v)
    let health := fun (h : Health) => { h with hopen := least h.hopen h_.toNat, vopen := least h.vopen w.toNat }
    let s := s.onTth fun r => { r with health := health r.health }
    ((s.put (Reg.LANE_MARGIN.START n.val) false).wr (Reg.LANE_MARGIN.HOPEN n.val) h_.toNat).wr (Reg.LANE_MARGIN.VOPEN n.val) w.toNat
    else s) s

end Sys2Proof.Machine
end

