-- ==== Sys2Proof/Machine/Flitex.lean ====
section
/-! DEFINITION. Flitex links: frames, markers, the elastic buffer and the control channel (13 R278-R293, R298).
Interface type 6 is a Flitex lane, 7 the tether exchange (02 R29). -/

namespace Sys2Proof.Machine

/-! ### Blocks (R278-R283) -/

/-- A block: sync header and payload. -/
abbrev Block := BitVec 2 × BitVec 64

/-- A block's payload as 8 bytes, byte 0 from bits [7:0]. -/
def payloadBytes (b : BitVec 64) : List Byte := (List.range 8).map fun i => b.extractLsb' (8 * i) 8

/-- FCRC of the data blocks of a frame (R281). -/
def blocksCrc (l : List Block) : Nat := crc32 (l.flatMap fun b => payloadBytes b.2)

/-- The number of control cells per tick (R284). -/
def cellCount (fast : Bool) (mult : Nat) : Nat :=
  if fast then (match mult with | 0 => 50 | 1 => 25 | _ => 12) else (match mult with | 0 => 20 | 1 => 10 | _ => 5)

/-- A strand or tag block is a data block. -/
def dataBlock (v : BitVec 64) : Block := (0b01, v)

/-- The idle block. -/
def idleBlock : Block := (0b10, 0x1E)

/-- The tick marker of R281. -/
def markerBlock (seq phase fcrc : Nat) : Block :=
  (0b10, BitVec.ofNat 64 (0xD2 + seq % 256 * 2 ^ 8 + phase % 4096 * 2 ^ 16 + fcrc * 2 ^ 32))

/-- The 8 strand blocks and the tag block of a group of 16 words (R280). -/
def groupBlocks (l : List (Word × Tag)) : List Block :=
  let w := fun i => (l.getD i (0, 0)).1
  let t := fun i => (l.getD i (0, 0)).2.toNat
  ((List.range 8).map fun k => dataBlock (w (2 * k + 1) ++ w (2 * k))) ++
    [dataBlock (BitVec.ofNat 64 ((List.range 16).foldl (fun n i => n + t i * 16 ^ i) 0))]

/-- The words of a group's 9 blocks. -/
def groupWords (l : List Block) : List (Word × Tag) :=
  let tags := ((l.getD 8 (0, 0)).2)
  (List.range 16).map fun i =>
    (((l.getD (i / 2) (0, 0)).2).extractLsb' (32 * (i % 2)) 32, tags.extractLsb' (4 * i) 4)

/-- The words of a frame of g groups. -/
def frameWords (g : Nat) (l : List Block) : List (Word × Tag) :=
  (List.range g).flatMap fun k => groupWords ((l.drop (9 * k)).take 9)

/-- The LINK block that a lane sends (R283). -/
def State.linkBlock (s : State) (n : Nat) : Block :=
  let x := s.laneRec n
  dataBlock (BitVec.ofNat 64 (s.rd (Reg.FLX_CFG.TXGRP n) + s.mult * 2 ^ 9 + s.rd Reg.CLK_STATUS.FAMILY * 2 ^ 11 +
    (decide (s.rd Reg.REF_STATUS.DPLL = 4)).toNat * 2 ^ 12 + (decide (x.lock = 3)).toNat * 2 ^ 13 + x.freed % 65536 * 2 ^ 16))

/-! ### On the line (R278, R291) -/

/-- One bit through the scrambler x^58 + x^39 + 1 of R278. -/
def scrambleBit (st : BitVec 58) (b : Bool) : BitVec 58 × Bool :=
  let o := b != (st.getLsbD 38 != st.getLsbD 57)
  (st <<< 1 ||| (BitVec.ofBool o).zeroExtend 58, o)

/-- A payload through the scrambler, bit 0 first. -/
def scramblePayload (st : BitVec 58) (v : BitVec 64) : BitVec 58 × BitVec 64 :=
  (List.range 64).foldl (fun r i =>
    let (st, o) := scrambleBit r.1 (v.getLsbD i)
    (st, if o then r.2 ||| BitVec.twoPow 64 i else r.2)) (st, 0)

/-- Blocks as they leave the lane: the sync header is not scrambled. -/
def scrambleBlocks : BitVec 58 → List Block → BitVec 58 × List Block
  | st, [] => (st, [])
  | st, b :: r =>
    let (st, v) := scramblePayload st b.2
    let (st, l) := scrambleBlocks st r
    (st, (b.1, v) :: l)

/-- The 6-bit codes abcdei of the 5-bit values at negative disparity, a the highest bit. PRESUMED (log 221). -/
def sixCodes : List Nat :=
  [0b100111, 0b011101, 0b101101, 0b110001, 0b110101, 0b101001, 0b011001, 0b111000,
   0b111001, 0b100101, 0b010101, 0b110100, 0b001101, 0b101100, 0b011100, 0b010111,
   0b011011, 0b100011, 0b010011, 0b110010, 0b001011, 0b101010, 0b011010, 0b111010,
   0b110011, 0b100110, 0b010110, 0b110110, 0b001110, 0b101110, 0b011110, 0b101011]

/-- The 4-bit codes fghj of the 3-bit values at negative disparity, and the alternate code of 7. PRESUMED (log 221). -/
def fourCodes : List Nat := [0b1011, 0b1001, 0b0101, 0b1100, 0b1101, 0b1010, 0b0110, 0b1110, 0b0111]

/-- Ones among the low n bits. -/
def onesOf (n v : Nat) : Nat := ((List.range n).filter fun i => v.testBit i).length

/-- A code of n bits at a running disparity: complemented at + where it is not balanced, or is the balanced code that has
two forms. -/
def atDisparity (n : Nat) (rd : Bool) (twoForms : Bool) (c : Nat) : Nat :=
  if rd && (decide (2 * onesOf n c ≠ n) || twoForms) then 2 ^ n - 1 - c else c

/-- A data character at a running disparity, and the disparity after it. -/
def encode8b10b (rd : Bool) (v : Byte) : BitVec 10 × Bool :=
  let x := v.toNat % 32
  let y := v.toNat / 32
  let c6 := atDisparity 6 rd (decide (x = 7)) (sixCodes.getD x 0)
  let rd1 := rd != decide (onesOf 6 c6 ≠ 3)
  let alt := decide (y = 7) && (if rd1 then [11, 13, 14].contains x else [17, 18, 20].contains x)
  let c4 := atDisparity 4 rd1 (decide (y = 3)) (fourCodes.getD (if alt then 8 else y) 0)
  (BitVec.ofNat 10 (c6 * 16 + c4), rd1 != decide (onesOf 4 c4 ≠ 2))

/-- K28.5 and K28.3 at a running disparity, which each of them changes. -/
def comma (rd : Bool) : BitVec 10 × Bool := (if rd then 0b1100000101 else 0b0011111010, !rd)
def idle1 (rd : Bool) : BitVec 10 × Bool := (if rd then 0b1100001100 else 0b0011110011, !rd)

/-- Data characters in order. -/
def encodeBytes : Bool → List Byte → List (BitVec 10) × Bool
  | rd, [] => ([], rd)
  | rd, v :: r =>
    let (c, rd) := encode8b10b rd v
    let (l, rd) := encodeBytes rd r
    (c :: l, rd)

/-- Idle characters. -/
def encodeIdle : Bool → Nat → List (BitVec 10) × Bool
  | rd, 0 => ([], rd)
  | rd, n + 1 =>
    let (c, rd) := idle1 rd
    let (l, rd) := encodeIdle rd n
    (c :: l, rd)

/-- Blocks leave a Flitex-2 lane after `idle` idle blocks. -/
def FlxLane.sendBlocks (x : FlxLane) (idle : Nat) (l : List Block) : FlxLane :=
  let (st, w) := scrambleBlocks x.scr (List.replicate idle idleBlock ++ l)
  { x with out := l, wire := w, scr := st }

/-- A Flitex-1 frame's characters after K28.5 leave the lane after `idle` idle characters. -/
def FlxLane.sendChars (x : FlxLane) (idle : Nat) (l : List Byte) : FlxLane :=
  let (i, rd) := encodeIdle x.rd idle
  let (k, rd) := comma rd
  let (c, rd) := encodeBytes rd l
  { x with outBytes := l, codes := i ++ k :: c, rd := rd }

/-! ### Group limits and FLX_nn_CFG (R280, R284, R291) -/

/-- The group limit of a lane's direction. -/
def State.groupLimit (s : State) (n : Nat) (tx : Bool) : Nat :=
  if s.role n = 3 then (match s.mult with | 0 => 32 | 1 => 16 | _ => 8)
  else
    let fast := decide (s.role n = 4) || (if tx then s.on (Reg.LANE_CFG.TXRATE n) else s.on (Reg.LANE_CFG.RXRATE n))
    if fast then (if s.mult = 2 then 128 else 256) else (if s.mult = 2 then 64 else 128)

/-- A write of FLX_nn_CFG: group limits, and the channels of valid hitches (R280). A receiver enabled or
disabled starts or ends its acquisition. -/
def State.writeFlxCfg (s : State) (n : Nat) (v : Word) : State :=
  let a := 0x130000 + n * 0x40
  let tx := wfield v 0 9
  let rx := wfield v 9 9
  if s.groupLimit n true < tx ∨ s.groupLimit n false < rx ∨ s.channelsBeyond true 6 n (16 * tx) = true ∨
      s.channelsBeyond false 6 n (16 * rx) = true then s.refuseWrite a
  else
    let old := s.on (Reg.FLX_CFG.RXEN n)
    s.guarded a v fun s => if s.on (Reg.FLX_CFG.RXEN n) = old then s else s.acquire n

/-! ### Transmission (R279, R289-R291) -/

/-- The words that the egress stage left for the channels of a lane's frame. -/
def State.egressWords (s : State) (ift port count : Nat) : List (Word × Tag) :=
  (List.range count).map fun c => (s.egressOf (chanKey ift port c)).getD (0, 0)

/-- A cell's 64 bytes from its first 62. -/
def sealCell (l : List Byte) : List Byte := l ++ beBytes 2 (crc16 l)

/-- An empty cell (R288). -/
def emptyCell : List Byte := sealCell (List.replicate 62 0)

/-- A ring of 16-byte descriptors: base, size, head, tail. -/
def State.ccTx (s : State) (n : Nat) : Ring :=
  ⟨ramAddr (s.rd (Reg.FLX_CC_TXRING.BASE n)), s.rd (Reg.FLX_CC_CTRL.TXSIZE n), s.rd (Reg.FLX_CC_CRED.TXHEAD n), s.rd (Reg.FLX_CC_PTR.TXTAIL n)⟩

/-- The receive ring. -/
def State.ccRx (s : State) (n : Nat) : Ring :=
  ⟨ramAddr (s.rd (Reg.FLX_CC_RXRING.BASE n)), s.rd (Reg.FLX_CC_CTRL.RXSIZE n), (s.laneRec n).rxHead, s.rd (Reg.FLX_CC_PTR.RXTAIL n)⟩

/-- The device owns the head descriptor of a 16-byte ring, at this address. -/
def State.ccOwned (s : State) (r : Ring) : Option Nat :=
  let a := r.base + 16 * r.head
  if r.size ≠ 0 ∧ r.head ≠ r.tail ∧ s.load (a + 4) 4 / 2 ^ 31 = 1 then some a else none

/-- A transmit descriptor is complete. -/
def State.ccTxDone (s : State) (n a : Nat) (err : Bool) : State :=
  let w := s.load (a + 4) 4 % 2 ^ 30
  let s := s.store (a + 4) 4 (w + err.toNat * 2 ^ 30)
  let s := (s.wr (Reg.FLX_CC_CRED.TXHEAD n) (s.ccTx n).advance).onLane n fun x => { x with txPos := 0 }
  if s.on (Reg.FLX_CC_CTRL.IRQ_EN n) then s.vector (16 + n) else s

/-- The control channel may carry data (R289). -/
def State.ccOpen (s : State) (n : Nat) : Bool :=
  decide (s.role n = 2) && s.on (Reg.FLX_CC_CTRL.EN n) && decide ((s.laneRec n).lock = 3) && s.on (Reg.FLX_STATUS.FAR_RXLOCK n)

/-- Descriptors whose LENGTH the device cannot send are written back (R290), at most one ring of them. -/
def State.ccSkip (s : State) (n : Nat) : Nat → State
  | 0 => s
  | k + 1 => match s.ccOwned (s.ccTx n) with
    | none => s
    | some a =>
      let len := s.load (a + 4) 4 % 4096
      if len = 0 ∨ 4060 < len then State.ccSkip (s.ccTxDone n a true) n k else s

/-- The next cell of a lane, and the state with the cell sent. -/
def State.nextCell (s : State) (n : Nat) : List Byte × State :=
  let s := if s.ccOpen n then s.ccSkip n 4096 else s
  let x := s.laneRec n
  if s.ccOpen n = false ∨ (x.sent + 65536 - x.credit) % 65536 ≥ 512 then (emptyCell, s)
  else match s.ccOwned (s.ccTx n) with
    | none => (emptyCell, s)
    | some a =>
      let len := s.load (a + 4) 4 % 4096
      let k := min 58 (len - x.txPos)
      let last := decide (len ≤ x.txPos + 58)
      let data := s.loadBytes (s.load a 4 + x.txPos) k
      let cell := sealCell ([1, BitVec.ofNat 8 ((decide (x.txPos = 0)).toNat + 2 * last.toNat), BitVec.ofNat 8 k,
        BitVec.ofNat 8 x.cellSeq] ++ data ++ List.replicate (58 - k) 0)
      let s := s.onLane n fun x => { x with
        sent := (x.sent + 1) % 65536
        cellSeq := (x.cellSeq + 1) % 256
        txPos := x.txPos + 58 }
      (cell, (if last then s.ccTxDone n a false else s).showCredit n)

/-- k cells of a lane. -/
def State.sendCells (s : State) (n : Nat) : Nat → List (List Byte) × State
  | 0 => ([], s)
  | k + 1 =>
    let (c, s) := s.nextCell n
    let (r, s) := State.sendCells s n k
    (c :: r, s)

/-- A cell as 8 data blocks. -/
def cellBlocks (l : List Byte) : List Block :=
  (List.range 8).map fun k => dataBlock (BitVec.ofNat 64 ((List.range 8).foldl (fun v i => v + fb l (8 * k + i) * 256 ^ i) 0))

/-- The words of a tether lane's frame; the tether engine forms them (14 R305). -/
def State.flxWords (s : State) (n : Nat) (tether : List (Word × Tag)) : List (Word × Tag) :=
  if s.role n = 4 then tether else s.egressWords 6 n (16 * s.rd (Reg.FLX_CFG.TXGRP n))

/-- A Flitex-2 frame of the present tick leaves the lane with its departure delay (R279, R281): the words and
the control cells of a tether lane are the tether engine's. -/
def State.flx2Send (s : State) (n phase idle : Nat) (tether : List (Word × Tag)) (held : List (List Byte)) : State :=
  let words := s.flxWords n tether
  let g := words.length / 16
  let groups := (List.range g).flatMap fun k => groupBlocks ((words.drop (16 * k)).take 16)
  let k := cellCount (decide (s.role n = 4) || s.on (Reg.LANE_CFG.TXRATE n)) s.mult
  let (cells, s) := if s.role n = 4 then ((held ++ List.replicate k emptyCell).take k, s) else s.sendCells n k
  let body := groups ++ [s.linkBlock n]
  let marker := markerBlock (s.tick % 256) phase (s.laneRec n).fcrc
  s.onLane n fun x => { x.sendBlocks idle (marker :: body ++ cells.flatMap cellBlocks) with fcrc := blocksCrc body }

/-- The bytes of a Flitex-1 group (R291). -/
def group1Bytes (l : List (Word × Tag)) : List Byte :=
  ((List.range 16).flatMap fun i => (beBytes 4 (l.getD i (0, 0)).1.toNat).reverse) ++
    (List.range 8).map fun i => BitVec.ofNat 8 ((l.getD (2 * i) (0, 0)).2.toNat + 16 * (l.getD (2 * i + 1) (0, 0)).2.toNat)

/-- A Flitex-1 frame leaves the lane: the marker's characters after K28.5, then the group bytes. -/
def State.flx1Send (s : State) (n phase idle : Nat) : State :=
  let g := s.rd (Reg.FLX_CFG.TXGRP n)
  let words := s.egressWords 6 n (16 * g)
  let body := (List.range g).flatMap fun k => group1Bytes ((words.drop (16 * k)).take 16)
  let link := s.mult + 4 * s.rd Reg.CLK_STATUS.FAMILY + 8 * (decide (s.rd Reg.REF_STATUS.DPLL = 4)).toNat
  let marker := [BitVec.ofNat 8 (s.tick % 256), BitVec.ofNat 8 phase] ++ (beBytes 4 (s.laneRec n).fcrc).reverse ++
    [BitVec.ofNat 8 link]
  s.onLane n fun x => { x.sendChars idle (marker ++ body) with fcrc := crc32 body }

/-! ### The control channel's receiver (R288-R290) -/

/-- A data cell whose CRC, TYPE and LEN are right. -/
def cellOk (c : List Byte) : Bool :=
  decide (beBytes 2 (crc16 (c.take 62)) = c.drop 62) && decide (fb c 0 = 1) && decide (1 ≤ fb c 2 ∧ fb c 2 ≤ 58) &&
    decide (fb c 1 < 4)

def cellFirst (c : List Byte) : Bool := (c.getD 1 0).getLsbD 0
def cellLast (c : List Byte) : Bool := (c.getD 1 0).getLsbD 1

/-- The cells of the message at the front: up to its LAST cell, or up to the next FIRST cell. None while the
message may still go on. -/
def messageEnd : List (List Byte) → Nat → Option Nat
  | [], _ => none
  | c :: r, k => if k ≠ 0 ∧ cellFirst c = true then some k else if cellLast c then some (k + 1) else messageEnd r (k + 1)

/-- A message's cells are legal: FIRST and LAST where they belong, SEQ in order, every cell right. -/
def messageOk (l : List (List Byte)) : Bool :=
  l.all cellOk && (l.head?.map cellFirst).getD false && (l.getLast?.map cellLast).getD false &&
    (l.zip (l.drop 1)).all fun p => decide ((fb p.1 3 + 1) % 256 = fb p.2 3)

/-- Cells are freed (R289). -/
def State.freeCells (s : State) (n k : Nat) : State :=
  s.onLane n fun x => { x with cells := x.cells.drop k, freed := (x.freed + k) % 65536 }

/-- The message at the front of a lane's receive buffer is written, discarded, or waits for a descriptor. -/
def State.ccDeliver (s : State) (n : Nat) : Nat → State
  | 0 => s
  | fuel + 1 =>
    let x := s.laneRec n
    match messageEnd x.cells 0 with
    | none => s
    | some k =>
      let m := x.cells.take k
      if messageOk m = false then State.ccDeliver ((s.bump (Reg.FLX_CNT_1.CELLERR n) 1).freeCells n k) n fuel
      else match s.ccOwned (s.ccRx n) with
        | none => s
        | some a =>
          let data := m.flatMap fun c => (c.drop 4).take (fb c 2)
          let s := (s.storeBytes (s.load a 4) data).store (a + 4) 4 data.length
          let s := (s.onLane n fun x => { x with rxHead := (s.ccRx n).advance }).freeCells n k
          let s := if s.on (Reg.FLX_CC_CTRL.IRQ_EN n) then s.vector (16 + n) else s
          State.ccDeliver s n fuel

/-- A control cell of a Flitex lane. -/
def State.cellRx (s : State) (n : Nat) (c : List Byte) : State :=
  if s.role n = 2 ∧ (s.laneRec n).lock = 3 ∧ s.on (Reg.FLX_CC_CTRL.EN n) = true ∧ fb c 0 ≠ 0 ∧
      s.on (Reg.FLX_STATUS.FAR_RXLOCK n) = true ∧ (s.laneRec n).cells.length < 512 then
    (s.onLane n fun x => { x with cells := x.cells ++ [c] }).ccDeliver n 513
  else s

/-- A write of FLX_nn_CC_PTR. -/
def State.writeCcPtr (s : State) (n : Nat) (v : Word) : State :=
  s.guarded (0x130020 + n * 0x40) v fun s => ((s.vectorClear (16 + n)).ccDeliver n 513).ccSkip n 4096

/-- FLX_CC_TX_TAIL (13 R290): a write of FLX_nn_CC_PTR. -/
def execFlxCcTxTail (n : Fin 16) (v : Word) (s : State) : Out :=
  core (fun s => s.control (0x130020 + n.val * 0x40) v fun s => s.writeCcPtr n.val v) s

/-! ### Reception (R282, R283, R286, R291, R292) -/

/-- One tick in sixteenths of ECLK. -/
def State.tickLen (s : State) : Nat := 16 * eclkPerTick s.mult

/-- C lies within ±8 ECLK of the line through the last valid markers. -/
def projected (cs : List Nat) (c : Nat) : Bool :=
  match cs, cs.getLast? with
  | a :: _, some b =>
    let k := cs.length - 1
    if k = 0 then true
    else decide (((c : Int) - a) * k - ((a : Int) - b) ≤ 128 * k) && decide (((a : Int) - b) - ((c : Int) - a) * k ≤ 128 * k)
  | _, _ => true

/-- The frame is written into the lane's buffer (R286). FLX_nn_PHASE
shows where C falls. -/
def State.takeFrame (s : State) (n : Nat) (f : FlxFrame) : State :=
  let ph := f.c % s.tickLen
  let s := (s.wr (Reg.FLX_PHASE.RXPH n) (ph / 16)).wr (Reg.FLX_PHASE.SIXTEENTH n) (ph % 16)
  let x := s.laneRec n
  if 2 ≤ x.frames.length then
    let s := if s.role n = 4 then s else ((s.bump (Reg.FLX_CNT_0.SLIP n) 1).raise Src.FLX_SLIP).dropFrame 6 n
    s.onLane n fun x => { x with frames := x.frames.drop 1 ++ [f] }
  else s.onLane n fun x => { x with frames := x.frames ++ [f] }

/-- A frame that is not admitted (R282). Its tick is no slip. -/
def State.rejectFrame (s : State) (n : Nat) : State :=
  ((s.bump (Reg.FLX_CNT_0.FCRC n) 1).raise Src.FLX_CRC).onLane n fun x => { x with took := false }

/-- A missing or invalid marker: after two in a row, MARKER_LOSS. -/
def State.badMarker (s : State) (n : Nat) : State :=
  let s := s.bump (Reg.FLX_CNT_1.MARKER n) 1
  let x := s.laneRec n
  let s := s.onLane n fun x => { x with miss := x.miss + 1 }
  if 2 ≤ x.miss + 1 ∧ x.lock = 3 then (s.leaveLocked n).setLock n 4 else s

/-- Far-end status (R283): LOCKED, MULT, FAMILY and RXLOCK. -/
def State.farStatus (s : State) (n mult fam locked rxlock : Nat) : State :=
  (((s.wr (Reg.FLX_STATUS.FAR_MULT n) mult).wr (Reg.FLX_STATUS.FAR_FAMILY n) fam).wr (Reg.FLX_STATUS.FAR_LOCKED n) locked).wr
    (Reg.FLX_STATUS.FAR_RXLOCK n) rxlock

/-- MISMATCH, which raises FLX_CFG on entry. -/
def State.setMismatch (s : State) (n : Nat) (bad : Bool) : State :=
  let was := s.on (Reg.FLX_STATUS.MISMATCH n)
  let s := s.put (Reg.FLX_STATUS.MISMATCH n) bad
  if bad && !was then s.raise Src.FLX_CFG else s

/-- A LINK block: far-end status, credits and the mismatch check. A far receiver without lock starts the control channel
anew in both directions (R289). -/
def State.linkRx (s : State) (n : Nat) (v : BitVec 64) : State :=
  let w := v.toNat
  let s := s.farStatus n (w / 2 ^ 9 % 4) (w / 2 ^ 11 % 2) (w / 2 ^ 12 % 2) (w / 2 ^ 13 % 2)
  let s := s.onLane n fun x => { x with credit := w / 2 ^ 16 % 65536 }
  let s := if w / 2 ^ 13 % 2 = 0 then s.onLane n fun x => { x with sent := 0, credit := 0, freed := 0, cells := [], txPos := 0 } else s
  (s.setMismatch n (decide (w % 512 ≠ s.rd (Reg.FLX_CFG.RXGRP n) ∧ s.role n ≠ 4) || decide (w / 2 ^ 9 % 4 ≠ s.mult))).showCredit n

/-- The groups that a tether lane's frame holds (14 R305). -/
def State.tetherGroups (s : State) (n : Nat) : Nat :=
  let l := if s.mult = 2 then 128 else 256
  if s.rd Reg.TTH_STATUS.STATE = 5 then l / 2 else if n = 12 then 32 else l

/-- The groups a receiver expects. -/
def State.rxGroups (s : State) (n : Nat) : Nat := if s.role n = 4 then s.tetherGroups n else s.rd (Reg.FLX_CFG.RXGRP n)

/-- Every block after the LINK block has a legal header and type for its position: cells, then idle. -/
def tailLegal (l : List Block) (k : Nat) : Bool :=
  ((l.take (8 * k)).all fun b => decide (b.1 = 0b01)) && ((l.drop (8 * k)).all fun b => decide (b = idleBlock))

/-- The frame closed by a valid marker: admitted, held back by a mismatch, or rejected (R282, R283). -/
def State.closeFrame (s : State) (n c seq fcrc : Nat) (l : List Block) : State :=
  let g := s.rxGroups n
  let k := cellCount (decide (s.role n = 4) || s.on (Reg.LANE_CFG.RXRATE n)) s.mult
  let whole := fun g => ((l.take (9 * g + 1)).all fun b => decide (b.1 = 0b01)) && decide (9 * g + 1 ≤ l.length) &&
    decide (blocksCrc (l.take (9 * g + 1)) = fcrc)
  if whole g && tailLegal (l.drop (9 * g + 1)) k then
    let s := s.linkRx n ((l.getD (9 * g) (0, 0)).2)
    if s.on (Reg.FLX_STATUS.MISMATCH n) then s.onLane n fun x => { x with took := false }
    else s.takeFrame n ⟨seq, c, frameWords g l⟩
  else match (List.range 257).find? whole with
    | some g' => (s.linkRx n ((l.getD (9 * g') (0, 0)).2)).rejectFrame n
    | none => s.rejectFrame n

/-- The marker's fields and instant enter the record. -/
def FlxLane.mark (x : FlxLane) (seq c : Nat) : FlxLane :=
  { x with seq := some seq, opened := true, valid := min (x.valid + 1) 16, cs := (c :: x.cs).take 16, miss := 0 }

/-- The completion instant C of R282 in sixteenths, of a marker at a cycle and sixteenth; `lead` is the completion offset, 10
ECLK for Flitex-2 and 316 for Flitex-1. A C of at most ECLK 32 lies in the coming tick (log 222). -/
def State.completion (s : State) (eclk sixteenth lead phase : Nat) : Nat :=
  let a := 16 * eclk + sixteenth + 16 * lead
  (s.tick + (decide (a ≤ 512 + phase)).toNat) * s.tickLen + a - phase

/-- Two markers one tick apart (R292). -/
def State.tickApart (s : State) (a c : Nat) : Bool := decide (a + s.tickLen ≤ c + 128 ∧ c ≤ a + s.tickLen + 128)

/-- A marker reaches a receiver (R282); `close` closes the frame before it. -/
def State.marker (s : State) (n eclk sixteenth lead seq phase : Nat) (typeOk : Bool) (close : State → Nat → Nat → State) : State :=
  let x := s.laneRec n
  let c := s.completion eclk sixteenth lead phase
  if x.lock = 2 then
    if !typeOk then s
    else if s.role n = 3 then
      -- Flitex-1 enters LOCKED after two valid markers one tick apart (R292)
      if x.seq = some ((seq + 255) % 256) ∧ s.tickApart (x.cs.headD 0) c = true then (s.onLane n fun x => x.mark seq c).setLock n 3
      else s.onLane n fun x => { x with seq := some seq, cs := [c], valid := 1 }
    else (s.onLane n fun x => { x with seq := some seq, opened := true, valid := 1, cs := [c], miss := 0 }).setLock n 3
  else if x.lock = 3 ∨ x.lock = 4 then
    let ok := typeOk && (match x.seq with | some q => decide ((q + 1) % 256 = seq) | none => true) &&
      (decide (x.valid < 2) || projected x.cs c)
    if ok then
      let opened := x.opened
      let s := s.onLane n fun x => x.mark seq c
      let s := if x.lock = 4 then s.setLock n 3 else s
      if opened then close s c ((seq + 255) % 256) else s
    else
      let s := s.onLane n fun x => { x with seq := if typeOk then some seq else x.seq, opened := typeOk }
      (s.rejectFrame n).badMarker n
  else s

/-- FLX_MARKER (13 R282): a marker's first bit reaches the balls at a cycle and sixteenth of the present tick,
after the blocks since the marker before it. -/
def execFlxMarker (n : Fin 16) (eclk : BitVec 15) (sixteenth : BitVec 4) (marker : BitVec 64)
    (blocks : List (BitVec 2 × BitVec 64)) (s : State) : Out :=
  core (fun s =>
    if s.isFlx n.val = false ∨ s.role n.val = 3 then s
    else
      let w := marker.toNat
      s.marker n.val eclk.toNat sixteenth.toNat 10 (w / 2 ^ 8 % 256) (w / 2 ^ 16 % 4096)
        (decide (w % 256 = 0xD2)) fun s c seq => s.closeFrame n.val c seq (w / 2 ^ 32) blocks) s

/-- The words of a Flitex-1 group's 72 bytes. -/
def group1Words (l : List Byte) : List (Word × Tag) :=
  (List.range 16).map fun i =>
    (BitVec.ofNat 32 ((List.range 4).foldl (fun v k => v + fb l (4 * i + k) * 256 ^ k) 0),
      BitVec.ofNat 4 (fb l (64 + i / 2) / 16 ^ (i % 2) % 16))

/-- The Flitex-1 frame closed by a valid marker. -/
def State.close1 (s : State) (n c seq fcrc link : Nat) (l : List Byte) : State :=
  let g := s.rd (Reg.FLX_CFG.RXGRP n)
  let s := s.farStatus n (link % 4) (link / 4 % 2) (link / 8 % 2) 0
  let s := s.setMismatch n (decide (link % 4 ≠ s.mult))
  if crc32 l = fcrc ∧ l.length = 72 * g then
    if s.on (Reg.FLX_STATUS.MISMATCH n) then s.onLane n fun x => { x with took := false }
    else s.takeFrame n ⟨seq, c, (List.range g).flatMap fun k => group1Words (l.drop (72 * k))⟩
  else s.rejectFrame n

/-- FLX1_MARKER (13 R291): TICKSEQ, PHASE, FCRC and the LINK byte of a Flitex-1 marker, and the group bytes
since the marker before it. -/
def execFlx1Marker (n : Fin 16) (eclk : BitVec 15) (sixteenth : BitVec 4) (seq phase : BitVec 8) (fcrc : Word)
    (link : BitVec 8) (bytes : List Byte) (s : State) : Out :=
  core (fun s => if s.role n.val = 3 then
      s.marker n.val eclk.toNat sixteenth.toNat 316 seq.toNat phase.toNat (decide (phase.toNat ≤ 62)) fun s c q =>
        s.close1 n.val c q fcrc.toNat link.toNat bytes
    else s) s

/-- MARKER_LOSS (13 R282): the instant of an expected marker passes without one. -/
def execMarkerLoss (n : Fin 16) (s : State) : Out :=
  core (fun s => if (s.laneRec n.val).lock = 3 ∨ (s.laneRec n.val).lock = 4 then
    (s.onLane n.val fun x => { x with opened := false }).badMarker n.val else s) s

/-! ### The elastic buffer at a boundary (R286) -/

/-- The frame of a Flitex lane that the boundary of the present tick writes: the most recent that is complete by ECLK 32
after it (07 R150); an older one is dropped, and one that is not complete waits. -/
def State.flxBoundary (s : State) (n : Nat) : State :=
  let x := s.laneRec n
  let slip := fun (s : State) => (s.bump (Reg.FLX_CNT_0.SLIP n) 1).raise Src.FLX_SLIP
  let (due, wait) := x.frames.partition fun f => decide (f.c ≤ s.tick * s.tickLen + 512)
  if s.isFlx n = false ∨ s.role n = 4 ∨ x.lock = 0 then s
  else if x.lock ≠ 3 then s.onLane n fun x => { x with took := false, frames := [] }
  else match due with
    | [] => (if x.took then slip s else s).onLane n fun x => { x with took := false }
    | f :: r =>
      let s := if r.isEmpty then s else (slip s).dropFrame 6 n
      let f := (r.getLast?).getD f
      let s := s.onLane n fun x => { x with frames := wait, took := true }
      (f.words.zip (List.range f.words.length)).foldl (fun s p => s.offer (chanKey 6 n p.2) p.1.1 p.1.2) s

/-- Every Flitex lane at a boundary. -/
def State.flxIngress (s : State) : State := (List.range 16).foldl State.flxBoundary s

end Sys2Proof.Machine
end

