-- ==== Sys2Proof/Machine/Str.lean ====
section
/-! DEFINITION. The strand store and its window, hitch changes, braids, and the ingress of a tick (02 R20-R42). -/

namespace Sys2Proof.Machine

/-! ### The window (R23, R24) -/

/-- A read of the window: the sample (part 0), the tag word (1), or both in one 64-bit read (2). -/
def State.windowRead (s : State) (slot part : Nat) : State :=
  let (x, s) := s.readSlot slot
  let tag := x.tag.toNat + 16 * x.written.toNat
  s.answer (match part with | 0 => x.sample.toNat | 1 => tag | _ => x.sample.toNat + 2 ^ 32 * tag)

/-- STRAND_WINDOW_READ (02 R23). -/
def execStrandWindowRead (slot : Fin 8192) (part : Fin 3) (s : State) : Out :=
  core (fun s => s.windowRead slot.val part.val) s

/-- A HOST slot is set in the next bank; a half that no write sets keeps the current bank's value, and that of a word
with a double-bit error as a read gives it (DEDUCED, log 25). -/
def State.hostSet (s : State) (w : HostWrite) : State :=
  let kept := match s.eccMark (.strand w.slot) with
    | some m => if m.double then (⟨0, 0b0010, false⟩ : Slot) else sget {} w.slot s.str.cur
    | none => sget {} w.slot s.str.cur
  s.onStr fun q =>
    let old := if q.hostFresh.contains w.slot then sget {} w.slot q.nxt else kept
    let new : Slot := ⟨w.sample.getD old.sample, w.tag.getD old.tag, old.written || w.sample.isSome⟩
    { q with nxt := sset {} w.slot new q.nxt
             hostFresh := if q.hostFresh.contains w.slot then q.hostFresh else w.slot :: q.hostFresh }

/-- An accepted write of a HOST slot: one served in the exchange window lands in the bank of the tick after
next (R24). -/
def State.hostWrite (s : State) (w : HostWrite) : State :=
  if s.inWindow then s.onStr fun q => { q with late := q.late ++ [w] } else s.hostSet w

/-- The window accepts writes of a slot: of class HOST, with HOSTWR_EN. -/
def State.hostOpen (s : State) (slot : Nat) : Bool := s.on Reg.STR_CTRL.HOSTWR_EN && decide ((s.slotDef slot).cls = .host)

/-- A window write: refused unless the slot is of class HOST and HOSTWR_EN is 1. -/
def State.windowWrite (s : State) (slot : Nat) (sample : Option Word) (tag : Option Tag) : State :=
  if s.hostOpen slot = true ∧ (sample.isSome = true ∨ tag.isSome = true) then
    s.hostWrite ⟨slot, sample, tag⟩
  else (s.put Reg.STR_STATUS.HOSTWR_ERR true).busError (0x31000000 + slot * 8)

/-- A window write where it acts: in PAIRED mode a write of a HOST slot is a control change (14 R309), a record of
each half. -/
def State.strandWrite (s : State) (slot : Nat) (sample tag : Option Word) : State :=
  let addr := 0x31000000 + slot * 8
  let halves := (sample.toList.map fun v => (addr, 4, v.toNat)) ++ (tag.toList.map fun t => (addr + 4, 4, t.toNat))
  if s.paired && s.hostOpen slot && !halves.isEmpty then s.logAll addr halves
  else s.windowWrite slot sample (tag.map fun t => t.setWidth 4)

/-- STRAND_WINDOW_WRITE (02 R24): an aligned 32-bit write of the sample or of the tag word, an aligned 64-bit
write of both, or (neither) any other write. -/
def execStrandWindowWrite (slot : Fin 8192) (sample tag : Option Word) (s : State) : Out :=
  core (fun s => s.strandWrite slot.val sample tag) s

/-! ### Substitution (R22) -/

/-- The substitute in the missing tick `run` of a run, after the last word the producer wrote. -/
def State.subWord (s : State) (hold : Bool) (run : Nat) (last : Word × Tag) : Word × Tag :=
  if hold && decide (run ≤ s.rd Reg.STR_CTRL.HOLDMAX) then (last.1, last.2 ||| 0b0010) else (0, 0b0010)

/-- The substitute of a slot in a missing tick. -/
def State.substitute (s : State) (slot : Nat) (hold : Bool) : Slot × State :=
  let run := sget 0 slot s.str.missing + 1
  let last := sget {} slot s.str.last
  let w := s.subWord hold run (last.sample, last.tag)
  (⟨w.1, w.2, false⟩, s.onStr fun q => { q with missing := sset 0 slot run q.missing, substNow := q.substNow + 1 })

/-- A slot of the current bank holds a word that its hitch did not write. -/
def State.setCur (s : State) (slot : Nat) (x : Slot) : State :=
  (s.onStr fun q => { q with cur := sset {} slot x q.cur }).eccClear (.strand slot)

/-- HOLD_LIMIT_REACHED (02 R22): past HOLDMAX missing ticks the substitute is 0. -/
def execHoldLimitReached (slot : Fin 8192) (s : State) : Out :=
  clocked (fun s =>
    let x := s.curSlot slot.val
    if s.rd Reg.STR_CTRL.HOLDMAX < sget 0 slot.val s.str.missing ∧ x.written = false then
      s.setCur slot.val { x with sample := 0 } else s) s

/-! ### Hitch changes (R28-R32) -/

/-- The channel count of a port in a direction (R29). -/
def State.chanCount (s : State) (egress : Bool) (ift port : Nat) : Nat :=
  match ift with
  | 1 => if port < 24 then sapSlots (s.word ((fieldsAt (0xC0000 + port * 0x40 + 4 * egress.toNat)).getD [])) else 0
  | 2 => if port < 8 then 2 else 0
  | 3 => if port < 2 then madiChans (s.rd (Reg.MADI_CFG.MODE port)) else 0
  | 4 => if port < 96 ∧ egress = false then 1 else 0
  | 5 => s.streamChans egress.toNat port
  | 6 => if port < 16 then 16 * (if egress then s.rd (Reg.FLX_CFG.TXGRP port) else s.rd (Reg.FLX_CFG.RXGRP port)) else 0
  | 7 => if port = 0 ∧ s.livePlan.pair = .twin then 16 * (if s.mult = 2 then 128 else 256) else 0
  | 8 => if port < 32 ∧ egress = true then 1 else 0
  | _ => 0

/-- Interface types whose egress is whipped (R30). -/
def whipped (ift : Nat) : Bool := decide (ift = 1 ∨ ift = 2 ∨ ift = 3 ∨ ift = 5 ∨ ift = 8)

/-- Both tables with the entries in use. -/
abbrev HitchTables := SMap Hitch × SMap Hitch

/-- A table of the pair. -/
def HitchTables.get (t : HitchTables) (egress : Bool) : SMap Hitch := if egress then t.2 else t.1

/-- An egress entry at its reset value: WHIP reads 0xFFF (R42). -/
def egressNone : Hitch := ⟨0, 0xFFF00000⟩

/-- The tables with a change made. -/
def HitchTables.change (t : HitchTables) (c : HitChange) : HitchTables :=
  if c.egress then (t.1, sset egressNone c.index ⟨c.w0, c.w1⟩ t.2) else (sset {} c.index ⟨c.w0, c.w1⟩ t.1, t.2)

/-- Members of a braid in a table. -/
def braidCount (m : SMap Hitch) (b : Nat) : Nat := (m.filter fun p => p.2.valid && p.2.braided && decide (p.2.braid = b)).length

/-- The rule that an entry breaks in the tables that a commit would leave, by QSTAT.REASON; 0 none. -/
def State.hitchReason (s : State) (t : HitchTables) (egress : Bool) (h : Hitch) : Nat :=
  if h.valid = false then 0
  else if egress = false ∧ (s.slotDef h.slot).cls ≠ .hitch then 1
  else if egress = false ∧ 1 < (t.1.filter fun p => p.2.valid && decide (p.2.slot = h.slot)).length then 2
  else if s.chanCount egress h.iftype h.port ≤ h.chan ∨ (egress = false ∧ h.asrcEn ≠ s.asyncSet h) ∨
      (egress = false ∧ h.asrcEn = true ∧ 1 < (t.1.filter fun p => p.2.valid && p.2.asrcEn && decide (p.2.asrc = h.asrc)).length) then 3
  else if egress = true ∧ whipped h.iftype = true ∧ (2304 ≤ h.whip ∨
      (t.2.any fun p => p.2.valid && whipped p.2.iftype && decide (p.2.whip = h.whip) && decide (p.2.slot ≠ h.slot)) = true) then 4
  else if egress = false ∧ h.tether = true ∧ 512 < (t.1.filter fun p => p.2.valid && p.2.tether).length then 5
  else if h.braided = true ∧ (256 < braidCount (t.get egress) h.braid ∨ braidCount (t.get (!egress)) h.braid ≠ 0) then 6
  else 0

/-- The number of members that STATUS shows for every braid. -/
def State.countMembers (s : State) : State :=
  (List.range 64).foldl (fun s b =>
    s.wr (Reg.STR_BRD_STATUS.MEMBERS b) (braidCount s.str.ingress b + braidCount s.str.egress b)) s

/-- The first braid frame boundary at or after a tick (R37). -/
def State.joinTick (s : State) (b t : Nat) : Nat :=
  let start := (sget {} b s.str.braid).start
  let f := max 1 (s.rd (Reg.STR_BRD_CTRL.BFRAME b))
  start + (t - start + f - 1) / f * f

/-- A hitch's record after a change of its entry at the boundary to tick t: a new hitch starts steady; MUTE
that changes on a gated SAP hitch waits for a zero crossing (10 R212); a hitch that joins a running braid
joins it at a braid frame boundary, muted where the braid is; one that leaves goes on by itself (R37). -/
def State.hitchChanged (s : State) (egress : Bool) (i t : Nat) (old new : Hitch) : State :=
  let mute := new.mute egress
  if new.valid = false then s.setRun egress i {}
  else
    let r : HitchRun := if old.valid then s.hitchRun egress i else { mute := if mute then .muted else .full }
    let r := if old.valid && decide (old.mute egress ≠ mute) then
        r.request (!egress && new.zcGate && decide (new.iftype = 1)) else r
    let ob := if old.valid && old.braided then some old.braid else none
    let nb := if new.braided then some new.braid else none
    let r := if ob = nb then r
      else match nb with
        | some b =>
          let st := s.rd (Reg.STR_BRD_STATUS.STATE b)
          { r with join := if 2 ≤ st then s.joinTick b t else 0
                   lockMute := decide (st = 3) || (decide (st = 2) && (sget {} b s.str.braid).stopAt.isSome) }
        | none => { r with lockMute := false }
    s.setRun egress i r

/-- The queued changes that the boundary to tick t applies, together or not at all (R31). DESIGN CHOICE (log 20): the
changes of a refused commit leave the queue. -/
def State.hitApply (s : State) (t : Nat) : State :=
  let take := s.str.queue.filter fun c => !c.late
  let s := s.onStr fun q => { q with queue := q.queue.filter fun c => c.late }
  let s := (s.onStr fun q => { q with armed := q.armed2, armed2 := none }).wr Reg.STR_HIT_QSTAT.DEPTH s.str.queue.length
  let s := s.put Reg.STR_HIT_COMMIT.COMMIT s.str.armed.isSome
  let now : HitchTables := (s.str.ingress, s.str.egress)
  let new := take.foldl HitchTables.change now
  let changed := (take.map fun c => (c.egress, c.index)).eraseDups
  let why := (changed.map fun k => s.hitchReason new k.1 (sget {} k.2 (new.get k.1))).filter (· ≠ 0)
  match why with
  | r :: _ =>
    (((s.wr Reg.STR_HIT_QSTAT.REFUSED (min why.length 255)).wr Reg.STR_HIT_QSTAT.REASON r).put
      Reg.STR_STATUS.HIT_REFUSED true).refused
  | [] =>
    let s := changed.foldl (fun s k => s.hitchChanged k.1 k.2 t (sget {} k.2 (now.get k.1)) (sget {} k.2 (new.get k.1))) s
    (s.onStr fun q => { q with ingress := new.1, egress := new.2 }).countMembers

/-- The changes due at the boundary to tick t; afterwards every queued change is open to the next commit. -/
def State.hitBoundary (s : State) (t : Nat) : State :=
  let s := if s.str.armed = some t then s.hitApply t else s
  s.onStr fun q => { q with queue := q.queue.map fun c => { c with late := false } }

/-- HIT_APPLY (02 R31). -/
def execHitApply (s : State) : Out :=
  clocked (fun s => if s.str.armed = some (s.tick + 1) then s.hitApply (s.tick + 1) else s) s

/-- A write of STR_HIT_W1 queues the staged entry. -/
def State.hitQueue (s : State) (v : Word) : State :=
  if 256 ≤ s.str.queue.length then s.put Reg.STR_HIT_QSTAT.OVF true
  else
    let eg := s.on Reg.STR_HIT_SEL.TABLE
    let c : HitChange := {
      egress := eg, index := s.rd Reg.STR_HIT_SEL.INDEX, w0 := s.str.stagedW0
      w1 := if eg then v else v &&& 0x3FFFFFFF#32
      late := s.inWindow }
    let s := s.onStr fun q => { q with queue := q.queue ++ [c] }
    s.wr Reg.STR_HIT_QSTAT.DEPTH s.str.queue.length

/-- HIT_W1_QUEUE (02 R31): a write of STR_HIT_W1. -/
def execHitW1Queue (v : Word) (s : State) : Out := core (fun s => s.control 0x80018 v fun s => s.hitQueue v) s

/-- A write of STR_HIT_W0 is staged. -/
def State.writeHitW0 (s : State) (v : Word) : State := s.onStr fun q => { q with stagedW0 := v &&& 0x9FFF1FFF#32 }

/-- A write of STR_HIT_COMMIT: COMMIT arms the next boundary, or the one after it from the exchange window;
DISCARD empties the queue unless a commit is pending. DESIGN CHOICE (log 22): with both bits 1 it commits, and DISCARD
meets a pending commit. -/
def State.writeHitCommit (s : State) (v : Word) : State :=
  if v.getLsbD 0 then
    let due := s.tick + (if s.inWindow then 2 else 1)
    let s := s.put Reg.STR_HIT_COMMIT.COMMIT true
    match s.str.armed with
    | none => s.onStr fun q => { q with armed := some due }
    | some d => if d < due then s.onStr fun q => { q with armed2 := some due } else s
  else if v.getLsbD 1 && s.str.armed.isNone then
    (s.onStr fun q => { q with queue := [] }).wr Reg.STR_HIT_QSTAT.DEPTH 0
  else s

/-- HIT_COMMIT (02 R31): a write of STR_HIT_COMMIT. -/
def execHitCommit (v : Word) (s : State) : Out := core (fun s => s.control 0x80024 v fun s => s.writeHitCommit v) s

/-- HIT_DISCARD (02 R42): a write of STR_HIT_COMMIT. -/
def execHitDiscard (v : Word) (s : State) : Out := core (fun s => s.control 0x80024 v fun s => s.writeHitCommit v) s

/-- HITCH_RAMP_DONE (02 R33): a ramp in its last tick ends. -/
def execHitchRampDone (egress : Bool) (h : Fin 8192) (s : State) : Out :=
  clocked (fun s =>
    let r := s.hitchRun egress h.val
    match r.mute with
    | .down 15 => s.setRun egress h.val { r with mute := .muted }
    | .up 15 => s.setRun egress h.val { r with mute := .full }
    | _ => s) s

/-! ### Zero-crossing gates (10 R212) -/

/-- A zero crossing between two samples in a row. -/
def crossing (thr : Nat) (prev v : Word) : Bool := (prev.msb != v.msb) || decide ((sval v).natAbs ≤ thr * 256)

/-- The hitch waits for a zero crossing. -/
def HitchRun.waits (r : HitchRun) : Bool := r.mute.waits

/-- HITCH_ZC_CROSSING (10 R212): a waiting hitch whose present sample is a zero crossing, after a previous
sample. -/
def execHitchZcCrossing (h : Fin 8192) (prev : Word) (s : State) : Out :=
  clocked (fun s =>
    let r := s.hitchRun false h.val
    let e := sget {} h.val s.str.ingress
    if r.waits && crossing (s.rd (Reg.SAP_ZC.THR e.port)) prev r.lastIn then s.setRun false h.val { r with zc := true } else s) s

/-- HITCH_ZC_TIMEOUT (10 R212): the wait of a hitch ends at the coming boundary. -/
def execHitchZcTimeout (h : Fin 8192) (s : State) : Out :=
  clocked (fun s =>
    let r := s.hitchRun false h.val
    let e := sget {} h.val s.str.ingress
    if r.waits && decide (s.rd (Reg.SAP_ZC.TIMEOUT e.port) ≤ r.mute.waited) then s.setRun false h.val { r with zc := true } else s) s

/-! ### Braids (R35-R39) -/

/-- A braid's record. -/
def State.braid (s : State) (b : Nat) : Braid := sget {} b s.str.braid

/-- Changing a braid's record. -/
def State.onBraid (s : State) (b : Nat) (f : Braid → Braid) : State :=
  s.onStr fun q => { q with braid := sset {} b (f (sget {} b q.braid)) q.braid }

/-- A braid's state: 0 IDLE, 1 ARMED, 2 RUNNING, 3 MUTED. -/
def State.braidState (s : State) (b : Nat) : Nat := s.rd (Reg.STR_BRD_STATUS.STATE b)

/-- The members of a braid: table, entry and words. -/
def State.members (s : State) (b : Nat) : List (Bool × Nat × Hitch) :=
  [false, true].flatMap fun eg =>
    ((s.hitches eg).filter fun p => p.2.valid && p.2.braided && decide (p.2.braid = b)).map fun p => (eg, p.1, p.2)

/-- A member's frame in ticks; none for a stream without a VALID descriptor (R36). -/
def State.memberFrame (s : State) (eg : Bool) (h : Hitch) : Option Nat :=
  if h.iftype = 5 then
    if (s.descWord eg.toNat h.port 0).getLsbD 0 then some (s.streamP eg.toNat h.port) else none
  else some 1

/-- Every member's mute by its braid. -/
def State.muteMembers (s : State) (b : Nat) (on : Bool) : State :=
  (s.members b).foldl (fun s m => s.setRun m.1 m.2.1 { s.hitchRun m.1 m.2.1 with lockMute := on }) s

/-- A braid goes to IDLE. -/
def State.braidIdle (s : State) (b : Nat) : State :=
  ((s.onBraid b fun x => { x with armed := none, stopAt := none, rejoin := none }).put (Reg.STR_BRD_CTRL.ARM b) false).wr
    (Reg.STR_BRD_STATUS.STATE b) 0

/-- A trigger found past: IDLE with LATE. -/
def State.braidLate (s : State) (b : Nat) : State := (s.put (Reg.STR_BRD_STATUS.LATE b) true).braidIdle b

/-- ARM of a braid (R35, R36). -/
def State.braidArm (s : State) (b : Nat) : State :=
  if s.braidState b ≠ 0 then s
  else
    let f := s.rd (Reg.STR_BRD_CTRL.BFRAME b)
    let bad := (s.members b).any fun m => match s.memberFrame m.1 m.2.2 with
      | none => true
      | some p => decide (f % p ≠ 0)
    if bad then (s.put (Reg.STR_BRD_STATUS.BAD_FRAME b) true).refused
    else
      let t0 := s.rd (Reg.STR_BRD_TRIG_0.TRIG b)
      let t1 := s.rd (Reg.STR_BRD_TRIG_1.TRIG b)
      let r := match s.rd (Reg.STR_BRD_CTRL.TRIGSRC b) with
        | 0 => Arming.wait (.tick (s.tick + 2))
        | 1 => Arming.wait .edge
        | 2 => s.armTick (t1 * 2 ^ 32 + t0)
        | _ => s.armPtp (s.rd (Reg.STR_BRD_CTRL.DOMAIN b)) (s.rd (Reg.STR_BRD_TRIG_2.TRIG b) % 65536 * 2 ^ 32 + t1) t0
      match r with
      | .wait t => ((s.onBraid b fun x => { x with armed := some t }).put (Reg.STR_BRD_CTRL.ARM b) true).wr
          (Reg.STR_BRD_STATUS.STATE b) 1
      | .late => s.braidLate b
      | .bad => (s.put (Reg.STR_BRD_STATUS.BAD_TRIG b) true).refused

/-- STOP of a braid (R37). A RUNNING braid's members ramp down from the next boundary, after a ramp-in that
still runs. -/
def State.braidStop (s : State) (b : Nat) : State :=
  match s.braidState b with
  | 0 => s
  | 2 => if (s.braid b).stopAt.isSome then s
    else s.onBraid b fun x => { x with stopAt := some (s.tick + 1), stopDone := max (s.tick + 1) x.rampEnd + 16 }
  | _ => s.braidIdle b

/-- A write of STR_BRD_bb_CTRL. DESIGN CHOICE (log 21): with ARM and STOP both 1, ARM acts first. -/
def State.writeBraid (s : State) (b : Nat) (v : Word) : State :=
  s.guarded (0x81000 + b * 0x20) v fun s =>
    let s := if v.getLsbD 7 then s.braidArm b else s
    if v.getLsbD 8 then s.braidStop b else s

/-- BRAID_ARM (02 R35): a write of STR_BRD_bb_CTRL. -/
def execBraidArm (b : Fin 64) (v : Word) (s : State) : Out :=
  core (fun s => s.control (0x81000 + b.val * 0x20) v fun s => s.writeBraid b.val v) s

/-- BRAID_STOP (02 R37): a write of STR_BRD_bb_CTRL. -/
def execBraidStop (b : Fin 64) (v : Word) (s : State) : Out :=
  core (fun s => s.control (0x81000 + b.val * 0x20) v fun s => s.writeBraid b.val v) s

/-- START_IN_EDGE (02 R35, R37): a filtered edge, rising or falling. One that is detected in the exchange
window belongs to the tick that follows. -/
def execStartInEdge (falling : Bool) (s : State) : Out :=
  clocked (fun s => (List.range 64).foldl (fun s b =>
    if s.braidState b = 1 ∧ (s.braid b).armed = some .edge ∧ s.on (Reg.STR_BRD_CTRL.EDGE b) = falling then
      s.onBraid b fun x => { x with armed := some (.tick (s.tick + (if s.inWindow then 3 else 2))) }
    else s) s) s

/-- The start of a braid at tick t (R35): counters at 0, full gain but for a member whose own MUTE is set. -/
def State.braidStart (s : State) (b t : Nat) : State :=
  let s := s.onBraid b fun _ => { start := t, rampEnd := t }
  let s := ((s.put (Reg.STR_BRD_CTRL.ARM b) false).wr (Reg.STR_BRD_STATUS.STATE b) 2)
  let s := (s.wr (Reg.STR_BRD_START_LO.START b) t).wr (Reg.STR_BRD_START_HI.START b) (t / 2 ^ 32)
  (s.members b).foldl (fun s m =>
    let r := s.hitchRun m.1 m.2.1
    let s := if m.1 = false ∧ m.2.2.iftype = 4 then s.decRestart m.2.2.chan else s
    s.setRun m.1 m.2.1 { r with
      mute := if m.2.2.mute m.1 then .muted else .full
      lockMute := false, frame := 0, join := t, gate := false }) s

/-- BRAID_START (02 R35). -/
def execBraidStart (b : Fin 64) (s : State) : Out :=
  clocked (fun s => if s.braidState b.val = 1 ∧ (s.braid b.val).armed = some (.tick (s.tick + 1)) then
    s.braidStart b.val (s.tick + 1) else s) s

/-- A MUTED braid returns to RUNNING at tick t and its members ramp in together (R39). -/
def State.braidRejoin (s : State) (b t : Nat) : State :=
  ((s.onBraid b fun x => { x with rejoin := none, rampEnd := t + 16 }).muteMembers b false).wr (Reg.STR_BRD_STATUS.STATE b) 2

/-- BRAID_REJOIN (02 R39). -/
def execBraidRejoin (b : Fin 64) (s : State) : Out :=
  clocked (fun s => if s.braidState b.val = 3 ∧ (s.braid b.val).rejoin = some (s.tick + 1) then
    s.braidRejoin b.val (s.tick + 1) else s) s

/-- What is due for a braid at the boundary of the present tick (R32). -/
def State.braidBoundary (s : State) (b : Nat) : State :=
  let x := s.braid b
  let t := s.tick
  match s.braidState b with
  | 0 => s
  | 1 => if x.armed = some (.tick t) then s.braidStart b t else s
  | 2 =>
    if x.stopAt = some t then s.muteMembers b true
    else if x.stopAt.isSome && decide (x.stopDone ≤ t) then s.braidIdle b else s
  | _ => if x.rejoin = some t then s.braidRejoin b t else s

/-- Every braid at a boundary. -/
def State.braidsBoundary (s : State) : State := (List.range 64).foldl State.braidBoundary s

/-- The end of a tick for a MUTED braid: whole braid frames without a faulty member count toward a rejoin
(R39). -/
def State.braidEnd (s : State) (b : Nat) : State :=
  let x := s.braid b
  if s.braidState b ≠ 3 then s
  else
    let spoiled := x.spoiled || s.on (Reg.STR_BRD_STATUS.FAULTY b)
    let f := max 1 (s.rd (Reg.STR_BRD_CTRL.BFRAME b))
    if (s.tick - x.start + 1) % f ≠ 0 then s.onBraid b fun x => { x with spoiled := spoiled }
    else
      let clean := if spoiled then 0 else x.clean + 1
      let enough := decide (s.rd (Reg.STR_BRD_CTRL.REJOIN_FRAMES b) ≤ clean)
      s.onBraid b fun x => { x with
        spoiled := false
        clean := if enough then 0 else clean
        rejoin := if enough then some (s.tick + 1) else x.rejoin }

/-- Every braid at the end of a tick. -/
def State.braidsEnd (s : State) : State := (List.range 64).foldl State.braidEnd s

/-! ### Ingress (R20, R22, R33, R38-R41) -/

/-- What a hitch's interface offers for the present tick. -/
def State.hitchSource (s : State) (h : Hitch) : Option (Word × Tag) :=
  let k := if h.asrcEn then chanKey asrcIf h.asrc 0 else chanKey h.iftype h.port h.chan
  (sfind k s.str.inp).map fun x => (x.sample, x.tag)

/-- The valid TETHER hitches in ascending entry order (14 R305). -/
def State.tethers (s : State) : List (Nat × Hitch) := s.str.ingress.filter fun p => p.2.valid && p.2.tether

/-- The tethered word of an entry for the present tick, from the frame of two ticks before. -/
def State.tetherWord (s : State) (i : Nat) : Option (Word × Tag) :=
  match s.tth.frames.find? fun f => decide (f.seq = (s.tick + 254) % 256) with
  | none => none
  | some f => f.w12[(s.tethers.findIdx fun p => decide (p.1 = i))]?

/-- A TETHER hitch of a PAIRED chip writes 2 ticks late (R40). -/
def State.writesLate (s : State) (h : Hitch) : Bool := h.tether && s.paired

/-- After a takeover the strand of an ASRC hitch is UNSETTLED up to a tick (R41). -/
def HitchRun.unsettle (r : HitchRun) (h : Hitch) (t : Nat) (x : Word × Tag) : Word × Tag :=
  (x.1, if h.asrcEn && decide (t < r.unsettledTo) then x.2 ||| 0b0001 else x.2)

/-- What a late hitch writes, and the mute that acts on it: on a standby the tethered word as it came, otherwise what the
hitch took 2 ticks ago (R40). -/
def State.lateWord (s : State) (i : Nat) (h : Hitch) : Option (Word × Tag) × Mute :=
  let r := s.hitchRun false i
  let e := r.delay.getD 1 (none, .full)
  if s.isStandby then match s.tetherWord i with
    | some x => (some x, .full)
    | none => (none, e.2)
  else (e.1.map (r.unsettle h s.tick), e.2)

/-- One tick of a late hitch ahead of its writing: the word, the run of missing ticks and the last word written. -/
def State.lateStep (s : State) (h : Hitch) (r : HitchRun) (t : Nat) (e : Option (Word × Tag) × Mute)
    (p : (Word × Tag) × Nat × (Word × Tag)) : (Word × Tag) × Nat × (Word × Tag) :=
  match e.1 with
  | some x => let w := e.2.apply (r.unsettle h t x); (w, 0, w)
  | none => (e.2.apply (s.subWord h.hold (p.2.1 + 1) p.2.2), p.2.1 + 1, p.2.2)

/-- The word that a TETHER hitch of the ACTIVE writes in the tick after next: what its frame carries (R40, 14 R305). -/
def State.tetherSends (s : State) (i : Nat) (h : Hitch) : Word × Tag :=
  let r := s.hitchRun false i
  let last := sget {} h.slot s.str.last
  let p := ((0, 0), sget 0 h.slot s.str.missing, (last.sample, last.tag))
  let p := s.lateStep h r (s.tick + 1) (r.delay.getD 1 (none, .full)) p
  (s.lateStep h r (s.tick + 2) (r.delay.getD 0 (none, .full)) p).1

/-- What a hitch writes before its mute. -/
def State.hitchValue (s : State) (i : Nat) (h : Hitch) : Option (Word × Tag) :=
  if s.writesLate h then (s.lateWord i h).1 else s.hitchSource h

/-- The hitch's port is in RATEMIS (10 R209). -/
def State.hitchRateMis (s : State) (h : Hitch) : Bool :=
  match h.iftype with
  | 1 => s.rxRateMis h.port
  | 2 => s.rxRateMis (24 + h.port)
  | 3 => s.rxRateMis (32 + h.port)
  | _ => false

/-- The present tick is a frame boundary of the hitch's braid, or the hitch is in no running braid. -/
def State.atBraidFrame (s : State) (h : Hitch) : Bool :=
  if h.braided && decide (2 ≤ s.braidState h.braid) then
    decide ((s.tick - (s.braid h.braid).start) % max 1 (s.rd (Reg.STR_BRD_CTRL.BFRAME h.braid)) = 0)
  else true

/-- A hitch meets its interface's frame: whether its port's rate fault mutes it, and whether it is faulty. The word that a
late hitch writes tells by its SUBSTITUTED tag that it was faulty when it was taken, on both chips alike (log 26).
DESIGN CHOICE (log 23): a member whose frame a slip drops is faulty in that tick. -/
def State.hitchMeet (s : State) (p : Nat × Hitch) : State :=
  let (i, h) := p
  let r := s.hitchRun false i
  if s.hitchWrites h r = false then s.setRun false i { r with stat := 0, faulty := false, dropped := false }
  else
    let mis := s.hitchRateMis h && !h.asrcEn
    let dev := mis || (r.devMute && !s.atBraidFrame h)
    let val := s.hitchValue i h
    let absent := val.isNone
    let wrong := if s.writesLate h then (match val with | some x => x.2.getLsbD 1 | none => true)
      else absent || r.dropped || mis
    let frame := match s.memberFrame false h with
      | some f => if h.braided then (s.tick - (s.braid h.braid).start) / max 1 f % 65536 else r.frame
      | none => r.frame
    s.setRun false i { r with
      devMute := dev, faulty := wrong, frame := frame
      stat := if absent then 2 else if r.dropped then 3 else 1
      dropped := false }

/-- An egress hitch and its port (R39, 10 R209): a transmit direction of a serial port that has lost its clock or is in
RATEMIS makes the member faulty, and RATEMIS mutes it. -/
def State.hitchMeetEgress (s : State) (p : Nat × Hitch) : State :=
  let (i, h) := p
  let r := s.hitchRun true i
  if s.hitchWrites h r = false then s.setRun true i { r with faulty := false }
  else
    let st := if h.iftype = 1 then s.rd (Reg.SAP_STATUS.TXSTATE h.port) else 0
    let mis := decide (st = 4)
    s.setRun true i { r with devMute := mis || (r.devMute && !s.atBraidFrame h), faulty := mis || decide (st = 3) }

/-- FAULTY of every braid, and the mute of a LOCKSTEP braid with a faulty member, in this tick (R39). -/
def State.settleBraid (s : State) (b : Nat) : State :=
  let ms := s.members b
  let bad := ms.any fun m => (s.hitchRun m.1 m.2.1).faulty
  let s := s.put (Reg.STR_BRD_STATUS.FAULTY b) bad
  if bad && s.on (Reg.STR_BRD_CTRL.LOCKSTEP b) && decide (s.braidState b = 2) && (s.braid b).stopAt.isNone then
    ((s.onBraid b fun x => { x with spoiled := true, clean := 0, rejoin := none }).muteMembers b true).wr
      (Reg.STR_BRD_STATUS.STATE b) 3
  else s

/-- What a hitch takes from its interface in this tick; the strand of a RATEMIS member is SUBSTITUTED (R39). -/
def State.hitchTakes (s : State) (h : Hitch) : Option (Word × Tag) :=
  (s.hitchSource h).map fun x => if s.hitchRateMis h && !h.asrcEn then (x.1, x.2 ||| 0b0010) else x

/-- Whether a missing tick of a slot begins a missing frame of its hitch: a media member's frame is a packet's (R38). -/
def State.missesFrame (s : State) (h : Hitch) : Bool :=
  decide ((sget 0 h.slot s.str.missing - 1) % max 1 ((s.memberFrame false h).getD 1) = 0)

/-- A hitch writes its slot, or the store substitutes it; the mute applies to either (R22, R33). A late hitch takes and
mutes in this tick what it writes 2 ticks later (R40, log 26). -/
def State.hitchIngress (s : State) (p : Nat × Hitch) : State :=
  let (i, h) := p
  let r0 := s.hitchRun false i
  let live := s.hitchWrites h r0
  let late := s.writesLate h
  let src := if live then s.hitchTakes h else none
  let r := if live then r0.stepMute (h.mute false) (s.rd (Reg.SAP_ZC.TIMEOUT h.port)) else r0
  let (val, m) := if late then s.lateWord i h else (src, r.mute)
  let r := { r with delay := if h.tether then ((src, r.mute) :: r.delay).take 2 else [] }
  if live = false ∧ late = false then
    let (x, s) := s.substitute h.slot h.hold
    (s.setCur h.slot x).setRun false i r
  else
    let (x, s) := match val with
      | some (v, t) => ((⟨v, t, true⟩ : Slot), s)
      | none => s.substitute h.slot h.hold
    let watched := if late then ((src.map Prod.fst).getD r.lastIn) else x.sample
    let z := r.waits && crossing (s.rd (Reg.SAP_ZC.THR h.port)) r.lastIn watched
    let (v, t) := m.apply (x.sample, x.tag)
    let muted := decide (r.mute = .muted)
    let r := { r with
      lastIn := watched, zc := z
      stat := if muted || (r.waits && r.mute.gain.isSome) then (if r.lockMute then 5 else 4) else r.stat }
    match val with
    | some _ => (s.writeCur h.slot v t).setRun false i { r with subst := false }
    | none => (s.setCur h.slot ⟨v, t, false⟩).setRun false i { (if s.missesFrame h then r.countSubst else r) with subst := true }

/-- Slots of class HITCH that no valid hitch writes are substituted by the slot map's policy (R21, R22). -/
def State.bareSlots (s : State) : State :=
  let used := (s.str.ingress.filter fun p => p.2.valid).map fun p => p.2.slot
  (s.livePlan.slots.filter fun d => decide (d.2.cls = .hitch) && !used.contains d.1).foldl (fun s d =>
    let (x, s) := s.substitute d.1 d.2.hold
    s.setCur d.1 x) s

/-- The ingress of the present tick, in ECLK 0-95 (R20). -/
def State.ingress (s : State) : State :=
  let hs := s.str.ingress.filter fun p => p.2.valid
  let s := hs.foldl State.hitchMeet s
  let s := (s.str.egress.filter fun p => p.2.valid).foldl State.hitchMeetEgress s
  let s := (List.range 64).foldl State.settleBraid s
  (hs.foldl State.hitchIngress s).bareSlots

/-- TETHER_UNSETTLED_END (02 R41): the 64 ticks after a takeover are past. -/
def execTetherUnsettledEnd (h : Fin 8192) (s : State) : Out :=
  clocked (fun s =>
    let r := s.hitchRun false h.val
    if r.unsettledTo ≤ s.tick + 1 then s.setRun false h.val { r with unsettledTo := 0 } else s) s

/-! ### Egress (R33, R35) -/

/-- An egress hitch's word after its mute; none where its braid does not run. -/
def State.hitchEgress (s : State) (i : Nat) (h : Hitch) (x : Word × Tag) : State :=
  let r := s.hitchRun true i
  if s.hitchWrites h r = false then s.setRun true i { r with stat := 0 }
  else
    let r := r.stepMute (h.mute true) 0
    let (v, t) := r.mute.apply x
    let frame := match s.memberFrame true h with
      | some f => if h.braided then (s.tick - (s.braid h.braid).start) / max 1 f % 65536 else r.frame
      | none => r.frame
    let s := s.setRun true i { r with stat := if r.mute = .muted then (if r.lockMute then 5 else 4) else 1, frame := frame }
    s.onStr fun q => { q with out := sinsert (chanKey h.iftype h.port h.chan) ⟨v, t, true⟩ q.out }

/-! ### Register windows (R42) -/

/-- The selected entry. -/
def State.selHitch (s : State) : Bool × Nat := (s.on Reg.STR_HIT_SEL.TABLE, s.rd Reg.STR_HIT_SEL.INDEX)

/-- A word of the selected live entry. The WHIP field of an egress entry that was never set reads 0xFFF. -/
def State.hitWord (s : State) (w1 : Bool) : Word :=
  let (eg, i) := s.selHitch
  match sfind i (s.hitches eg) with
  | some h => if w1 then h.w1 else h.w0
  | none => if w1 && eg then 0xFFF00000 else 0

/-- STR_HIT_STAT of the selected entry. -/
def State.hitStat (s : State) : Nat :=
  let (eg, i) := s.selHitch
  let r := s.hitchRun eg i
  if (sget {} i (s.hitches eg)).valid then r.stat + 8 * r.faulty.toNat + 65536 * r.frame else 0

/-- STR_HIT_CNT of the selected entry, which the read clears. -/
def State.hitCounts (s : State) : Nat × State :=
  let (eg, i) := s.selHitch
  let r := s.hitchRun eg i
  (r.substFr + 65536 * r.dropFr, s.setRun eg i { r with substFr := 0, dropFr := 0 })

end Sys2Proof.Machine
end

