-- ==== Sys2Proof/Machine/Matrix.lean ====
section
/-! DEFINITION. The mixing matrix: rows, columns, change lists, commits, splices and cuts, NOM gains and
gain-memory errors (06 R123-R147, 05 R119). -/

namespace Sys2Proof.Machine

/-! ### Rows, columns and lists (R123-R128) -/

/-- A row. -/
def State.row (s : State) (r : Nat) : Row := sget {} r s.mtx.rows

/-- Replacing a row. -/
def State.setRow (s : State) (r : Nat) (x : Row) : State := s.onMtx fun m => { m with rows := sset {} r x m.rows }

/-- A column. -/
def State.col (s : State) (c : Nat) : Col := sget {} c s.mtx.cols

/-- Replacing a column. -/
def State.setCol (s : State) (c : Nat) (x : Col) : State := s.onMtx fun m => { m with cols := sset {} c x m.cols }

/-- Unity gain as an s4.27 code. -/
def unity : Word := 0x08000000

/-- A column's list has no slot: the column is OFF. -/
def ColList.isOff : ColList → Bool
  | .off => true
  | _ => false

/-- The crosspoints of a list with their gains; a PATCH row counts at unity. -/
def ColList.items : ColList → List (Nat × Int)
  | .off => []
  | .patch r => [(r, 134217728)]
  | .mix g => g.map fun p => (p.1, sval p.2)

/-- A row stands in a list. -/
def ColList.holds (l : ColList) (r : Nat) : Bool := l.items.any fun p => decide (p.1 = r)

/-- The gain of a row in a list as MTX_XQ shows it. -/
def ColList.gain (l : ColList) (r : Nat) : Word :=
  match l with
  | .off => 0
  | .patch p => if p = r then unity else 0
  | .mix g => sget 0 r g

/-- Entries of a list while it splices or waits (R130). -/
def ColList.count (l : ColList) : Nat := l.items.length

/-- Entries as NLIVE and NNEW show them: a PATCH list in force shows its row. -/
def ColList.shown : ColList → Nat
  | .off => 0
  | .patch r => r
  | .mix g => g.length

/-- The row is bound to a slot of class HITCH. -/
def State.hitchRow (s : State) (r : Nat) : Bool :=
  (s.row r).live.valid && decide ((s.slotDef (s.row r).live.slot).cls = .hitch)

/-- The live lay plan makes a column OFF (R124, R132). -/
def State.planOff (s : State) (n : Nat) : Bool :=
  match sfind n s.livePlan.cols with
  | some c => c.list.isOff
  | none => true

/-! ### Gain memory (R128) -/

/-- The crosspoints of a column that have an entry of gain memory: of a MIX list, and of a PATCH list while the column
changes. -/
def Col.stored (c : Col) (l : ColList) : List (Nat × Word) :=
  match l with
  | .off => []
  | .patch r => if c.change.isSome then [(r, unity)] else []
  | .mix g => g

/-- Every crosspoint that is to have an entry: column, row and gain word. -/
def MtxState.wanted (m : MtxState) : List (Nat × Nat × Word) :=
  m.cols.flatMap fun p =>
    (p.2.stored p.2.live ++ ((p.2.change.map fun h => p.2.stored h.new).getD [])).map fun x => (p.1, x.1, x.2)

/-- The lowest entry from `k` on that a sorted list does not name. -/
def lowFree : Nat → SMap (Nat × Nat) → Nat
  | k, [] => k
  | k, p :: r => if p.1 = k then lowFree (k + 1) r else k

/-- Entries of crosspoints that still stand are kept, entries of others are freed, and new ones get the lowest free
entries. R128 leaves the place of an entry to the commit unit: DESIGN CHOICE (log 91). A freed entry keeps its word. -/
def State.placeGains (s : State) : State :=
  let m := s.mtx
  let k := m.gown.foldl (fun (a : SMap (Nat × Nat) × List (Nat × Nat × Word)) p =>
    let w := (p.2.1, p.2.2, sget 0 p.1 m.gmem)
    if a.2.contains w then (sinsert p.1 p.2 a.1, a.2.erase w) else a) ([], m.wanted)
  k.2.foldl (fun s w =>
    let i := lowFree 0 s.mtx.gown
    (s.onMtx fun m => { m with gown := sinsert i (w.1, w.2.1) m.gown, gmem := sset 0 i w.2.2 m.gmem }).eccClear (.gain i))
    (s.onMtx fun m => { m with gown := k.1 })

/-! ### Row bindings (R126, R140) -/

/-- A row is in use: in a list in force, in a splice or in a wait. -/
def State.rowBusy (s : State) (r : Nat) : Bool :=
  s.mtx.cols.any fun p => p.2.live.holds r || (match p.2.change with
    | some h => h.new.holds r
    | none => false)

/-- The settings that the selected row shows: those written last. -/
def Row.shown (x : Row) : RowSet := x.staged.getD x.live

/-- A write of MTX_ROW_W0 stages a binding, or is refused. -/
def State.writeRowW0 (s : State) (v : Word) : State :=
  let r := s.rd Reg.MTX_ROW_SEL.INDEX
  if s.rowBusy r then (s.put Reg.MTX_STATUS.ROW_BUSY true).busError 0x400A0024
  else
    let x := s.row r
    s.setRow r { x with staged := some { x.shown with slot := wfield v 0 13, valid := v.getLsbD 31 } }

/-- A write of MTX_ROW_W1; OPEN below CLOSE is refused. -/
def State.writeRowW1 (s : State) (v : Word) : State :=
  let r := s.rd Reg.MTX_ROW_SEL.INDEX
  if wfield v 0 16 < wfield v 16 16 then s.refused
  else
    let x := s.row r
    s.setRow r { x with staged := some { x.shown with openThr := wfield v 0 16, closeThr := wfield v 16 16 } }

/-- A write of MTX_ROW_W2. -/
def State.writeRowW2 (s : State) (v : Word) : State :=
  let r := s.rd Reg.MTX_ROW_SEL.INDEX
  let x := s.row r
  s.setRow r { x with staged := some { x.shown with hold := wfield v 0 16 } }

/-- Staged settings take effect; a new binding starts with its gate closed. -/
def Row.apply (x : Row) : Row :=
  match x.staged with
  | none => x
  | some n =>
    if n.slot = x.live.slot ∧ n.valid = x.live.valid then { x with live := n, staged := none }
    else { live := n }

/-- A gate that has been below CLOSE for HOLD ticks closes. -/
def Row.close (x : Row) : Row :=
  if x.gateNext && decide (max 1 x.live.hold ≤ x.quiet) then { x with gateNext := false } else x

/-- The gate after the sample of a tick (R140). -/
def Row.listen (x : Row) (v : Word) : Row :=
  let a := (sval v).natAbs
  if x.live.openThr * 2048 ≤ a then { x with gateNext := true, quiet := 0 }
  else if a < x.live.closeThr * 2048 then { x with quiet := x.quiet + 1 }
  else { x with quiet := 0 }

/-! ### Costs (R129, R130) -/

/-- Budget and HITCH limit at a rate multiple. -/
def mtxBudget (m : Nat) : Nat × Nat := if m = 2 then (786432, 782336) else (1048576, 1048576)

/-- A list's entries, and those of them on HITCH-bound rows. -/
def State.listCost (s : State) (l : ColList) : Nat × Nat :=
  (l.count, (l.items.filter fun p => s.hitchRow p.1).length)

/-- The cost of a list in force. -/
def State.liveCost (s : State) (l : ColList) : Nat × Nat :=
  match l with
  | .mix _ => s.listCost l
  | _ => (0, 0)

/-- Sum and maximum of two costs. -/
def addCost (a b : Nat × Nat) : Nat × Nat := (a.1 + b.1, a.2 + b.2)
def maxCost (a b : Nat × Nat) : Nat × Nat := (max a.1 b.1, max a.2 b.2)

/-- A column's cost. A change with ZC costs as its splice from the commit's start on (R137); a splice of length 0 costs
as a cut (R136). -/
def State.colCost (s : State) (c : Col) : Nat × Nat :=
  match c.change with
  | none => s.liveCost c.live
  | some h =>
    let splice := if h.len = 0 then maxCost (s.listCost c.live) (s.listCost h.new)
      else addCost (s.listCost c.live) (s.listCost h.new)
    match h.phase with
    | .start => if h.zc then splice else s.liveCost c.live
    | .waitZc => splice
    | .splice => splice
    | .waitCut => maxCost (s.listCost c.live) (s.listCost h.new)
    | .dip => maxCost (s.listCost c.live) (s.listCost h.new)

/-- The sum of all costs, as MTX_INUSE shows it. -/
def State.mtxUse (s : State) : Nat × Nat := s.mtx.cols.foldl (fun a p => addCost a (s.colCost p.2)) (0, 0)

/-! ### Change lists and commits (R131-R134) -/

def ChangeEntry.row (e : ChangeEntry) : Nat := wfield e.w1 0 12
def ChangeEntry.column (e : ChangeEntry) : Nat := wfield e.w1 12 12
def ChangeEntry.op (e : ChangeEntry) : Nat := wfield e.w1 24 3

/-- The effect of one entry on a list (R131). -/
def ColList.change (l : ColList) (e : ChangeEntry) : ColList :=
  match e.op with
  | 0 => match l with
    | .patch p => .mix (sset 0 e.row e.gain [(p, unity)])
    | .mix g => .mix (sset 0 e.row e.gain g)
    | .off => .mix (sset 0 e.row e.gain [])
  | 1 => .patch e.row
  | _ => .mix []

/-- A write of MTX_CL_W1 appends an entry. -/
def State.appendEntry (s : State) (v : Word) : State :=
  if 4096 ≤ s.mtx.openList.length then s.put Reg.MTX_STATUS.CL_OVF true
  else
    let s := s.onMtx fun m => { m with openList := m.openList ++ [⟨m.clW0, v⟩] }
    s.wr Reg.MTX_CL_COUNT.COUNT s.mtx.openList.length

/-- The open list is emptied. -/
def State.emptyList (s : State) : State := (s.onMtx fun m => { m with openList := [] }).wr Reg.MTX_CL_COUNT.COUNT 0

/-- The columns of a commit in ascending order. -/
def Commit.columns (c : Commit) : List Nat := ascending (c.entries.map ChangeEntry.column).eraseDups

/-- The trigger of the settings that stand in MTX_CM_CTRL and MTX_CM_TRIG. -/
def State.commitTrigger (s : State) : Arming :=
  let t0 := s.rd Reg.MTX_CM_TRIG_0.TRIG
  let t1 := s.rd Reg.MTX_CM_TRIG_1.TRIG
  match s.rd Reg.MTX_CM_CTRL.START with
  | 0 => .wait (.tick (s.tick + 2))
  | 1 => s.armTick (t1 * 2 ^ 32 + t0)
  | 2 => s.armPtp (s.rd Reg.MTX_CM_CTRL.DOMAIN) (s.rd Reg.MTX_CM_TRIG_2.TRIG % 65536 * 2 ^ 32 + t1) t0
  | _ => .bad

/-- Why the open list is refused, by MTX_CM_LAST.REASON; 0 not at all (R132). -/
def State.commitReason (s : State) : Nat :=
  let l := s.mtx.openList
  if l.isEmpty then 1
  else if (l.any fun e => decide (2303 < e.row ∨ 2303 < e.column ∨ 2 < e.op)) = true then 2
  else if (l.any fun e => s.planOff e.column) = true then 3
  else if (l.any fun e => decide (e.op = 1) && (s.col e.column).nom) = true then 4
  else if s.commitTrigger = .bad ∨ (s.on Reg.MTX_CM_CTRL.ZC = true ∧ s.rd Reg.MTX_CM_ZC.TIMEOUT = 0) then 5
  else if s.commitTrigger = .late then 6
  else if 8 ≤ (s.mtx.commits.filter fun p => decide (p.2.state = 1)).length then 7
  else 0

/-- COMMIT: the open list becomes a pending commit, or is refused. -/
def State.commitList (s : State) : State :=
  let why := s.commitReason
  match why, s.commitTrigger with
  | 0, .wait t =>
    let n := s.mtx.nextSeq
    let c : Commit := {
      entries := s.mtx.openList, len := s.rd Reg.MTX_CM_CTRL.LEN, equalPower := s.on Reg.MTX_CM_CTRL.LAW
      preempt := s.on Reg.MTX_CM_CTRL.PREEMPT, zc := s.on Reg.MTX_CM_CTRL.ZC
      timeout := s.rd Reg.MTX_CM_ZC.TIMEOUT, thr := s.rd Reg.MTX_CM_ZC.THR, trig := t, accepted := s.tick }
    let s := s.onMtx fun m => { m with commits := sinsert n c m.commits, nextSeq := n + 1 }
    ((s.emptyList.wr Reg.MTX_CM_LAST.ID (n % 16)).wr Reg.MTX_CM_LAST.REFUSED 0).wr Reg.MTX_CM_LAST.REASON 0
  | _, _ =>
    (((s.wr Reg.MTX_CM_LAST.REFUSED 1).wr Reg.MTX_CM_LAST.REASON why).put Reg.MTX_STATUS.CM_REFUSED true).refused

/-- A write of MTX_CM_GO. -/
def State.writeCmGo (s : State) (v : Word) : State :=
  let s := if v.getLsbD 0 then s.commitList else s
  if v.getLsbD 1 then s.emptyList else s

/-- Changing a commit. -/
def State.onCommit (s : State) (n : Nat) (f : Commit → Commit) : State :=
  match sfind n s.mtx.commits with
  | some c => s.onMtx fun m => { m with commits := sinsert n (f c) m.commits }
  | none => s

/-! ### Splice laws (R135) -/

/-- F_in of the phase code q. -/
def spliceLaw (equalPower : Bool) (q : Nat) : Nat :=
  if equalPower then
    let i := q / 2 ^ 22
    sineAt i + (sineAt (i + 1) - sineAt i) * (q % 2 ^ 22) / 2 ^ 22
  else q

/-- F_in(k) of a splice of length `len`. -/
def faderIn (equalPower : Bool) (len k : Nat) : Nat := spliceLaw equalPower ((2 * k + 1) * 2 ^ 30 / len)

/-- F_out(k). -/
def faderOut (equalPower : Bool) (len k : Nat) : Nat := faderIn equalPower len (len - 1 - k)

/-- A gain under a fader, as an s4.27 code (R127 step 1). -/
def faded (g : Int) : Option Nat → Int
  | none => g
  | some f => roundNearest (g * f) (2 ^ 31)

/-- The lists that a column reads in tick t, each with its fader, and the sixteenths of a dip (R127, R139). -/
def Col.reads (c : Col) (t : Nat) : List (ColList × Option Nat) × Option Int :=
  match c.change with
  | none => ([(c.live, none)], none)
  | some h =>
    let k := t - h.t0
    match h.phase with
    | .splice => ([(c.live, some (faderOut h.equalPower h.len k)), (h.new, some (faderIn h.equalPower h.len k))], none)
    | .dip => if k < 16 then ([(c.live, none)], some (15 - k)) else ([(h.new, none)], some ((k : Int) - 15))
    | _ => ([(c.live, none)], none)

/-! ### Freezing a change (R134) -/

/-- One row's gain added to a frozen list. A sum outside the s4.27 range is not stated: a free value. -/
def State.addFrozen (s : State) (g : SMap Word) (r : Nat) (v : Int) : SMap Word × State :=
  let n := sval (sget 0 r g) + v
  if satBits 32 n = n then (sset 0 r (code 32 n) g, s)
  else
    let (k, s) := s.nextFree
    (sset 0 r (Config.freeWord k) g, s)

/-- The rows of a list under a fader added to a frozen list. -/
def State.addFaded (s : State) (g : SMap Word) (f : Nat) : List (Nat × Int) → SMap Word × State
  | [] => (g, s)
  | (r, v) :: l =>
    let (g, s) := s.addFrozen g r (faded v (some f))
    State.addFaded s g f l

/-- The set in force at tick t of a change that is completed there: the frozen list of a splice, the list read
last of a dip, else the live list. -/
def State.frozenList (s : State) (c : Col) (h : ColChange) (t : Nat) : ColList × State :=
  let d := t - 1 - h.t0
  match h.phase with
  | .splice =>
    if h.t0 < t then
      let (g, s) := s.addFaded [] (faderOut h.equalPower h.len d) c.live.items
      let (g, s) := s.addFaded g (faderIn h.equalPower h.len d) h.new.items
      (.mix g, s)
    else (c.live, s)
  | .dip => (if 16 ≤ d ∧ h.t0 < t then h.new else c.live, s)
  | _ => (c.live, s)

/-- The change of a column is completed at tick t by a later one; the list it was moving to. -/
def State.freeze (s : State) (n t : Nat) : ColList × State :=
  let c := s.col n
  match c.change with
  | none => (c.live, s)
  | some h =>
    let (l, s) := s.frozenList c h t
    let s := s.setCol n { c with live := l, change := none, result := 5 }
    (h.new, match h.commit with
      | some q => s.onCommit q fun x => { x with refused := x.refused + 1 }
      | none => s)

/-! ### A column at a boundary (R135-R139) -/

/-- A column's change ends: its new list is in force. -/
def State.finishCol (s : State) (n result : Nat) (cut : Bool) : State :=
  let c := s.col n
  match c.change with
  | none => s
  | some h =>
    if h.toOff then s.setCol n { commitId := c.commitId, result := result }
    else s.setCol n { c with live := h.new, change := none, result := result, cutTick := cut }

/-- A column's change begins a phase at tick t. -/
def State.phaseCol (s : State) (n t : Nat) (p : ColPhase) : State :=
  let c := s.col n
  match c.change with
  | none => s
  | some h => s.setCol n { c with change := some { h with phase := p, t0 := t, cross := false } }

/-- The items that the phase of a column's change makes due at a boundary. -/
inductive ColEvent where
  | zcStart | zcTimeout | spliceEnd | cutZc | dipStart | dipEnd
deriving DecidableEq, Repr

/-- What is due for a column at the boundary to tick t. -/
def Col.due (c : Col) (t : Nat) : Option ColEvent :=
  match c.change with
  | none => none
  | some h => match h.phase with
    | .start => none
    | .waitZc => if h.cross then some .zcStart else if h.t0 + h.timeout ≤ t then some .zcTimeout else none
    | .splice => if h.t0 + h.len ≤ t then some .spliceEnd else none
    | .waitCut => if h.cross then some .cutZc else if h.t0 + h.timeout ≤ t then some .dipStart else none
    | .dip => if h.t0 + 32 ≤ t then some .dipEnd else none

/-- An item of a column at the boundary to tick t. -/
def State.colEvent (s : State) (n t : Nat) : ColEvent → State
  | .zcStart => s.phaseCol n t .start
  | .zcTimeout => s.phaseCol n t .start
  | .spliceEnd => s.finishCol n 1 false
  | .cutZc => s.finishCol n 2 true
  | .dipStart => s.phaseCol n t .dip
  | .dipEnd => s.finishCol n 3 false

/-- A column at the boundary to tick t. A change on a column with a double-bit error ends there (R146). -/
def State.colStep (s : State) (t n : Nat) : State :=
  let c := s.col n
  if c.damaged || c.faulted then s.setCol n { c with damaged := false, faulted := true, change := none }
  else match c.due t with
    | some e => s.colEvent n t e
    | none => s

/-- Every column. -/
def State.colsStep (s : State) (t : Nat) : State :=
  (s.mtx.cols.map (·.1)).foldl (fun s n => s.colStep t n) s

/-- Any column is FAULTED. -/
def State.anyFaulted (s : State) : Bool := s.mtx.cols.any fun p => p.2.faulted || p.2.damaged

/-- A FAULTED column whose change has put a new list in force is FAULTED no longer (R146). -/
def State.healCol (s : State) (n : Nat) : State := s.setCol n { s.col n with faulted := false, damaged := false }

/-- The start-tick decision for a column (R138). -/
def State.decideCol (s : State) (t n : Nat) : State :=
  let c := s.col n
  match c.change with
  | none => s
  | some h =>
    if h.phase ≠ .start then s
    else
      let use := s.mtxUse
      let cur := s.colCost c
      let fits := fun x : Nat × Nat =>
        decide (use.1 - cur.1 + x.1 ≤ (mtxBudget s.mult).1) && decide (use.2 - cur.2 + x.2 ≤ (mtxBudget s.mult).2)
      let cut := maxCost (s.listCost c.live) (s.listCost h.new)
      let splice := if h.len = 0 then cut else addCost (s.listCost c.live) (s.listCost h.new)
      let count := fun (s : State) (f : Commit → Commit) => match h.commit with
        | some q => s.onCommit q f
        | none => s
      let s := count s fun x => { x with started := if x.started.isNone then some t else x.started }
      if fits splice then
        if h.len = 0 then (s.finishCol n 1 true).healCol n
        else (s.setCol n { c with result := 1 }).phaseCol n t .splice
      else if fits cut then
        (count s fun x => { x with fallback := x.fallback + 1 }).phaseCol n t (if h.timeout = 0 then .dip else .waitCut)
      else (count s fun x => { x with refused := x.refused + 1 }).setCol n { c with change := none, result := 4 }

/-- The columns whose change starts, bank splice first, then commit by commit, in ascending order. -/
def State.starting (s : State) (commit : Option Nat) : List Nat :=
  (s.mtx.cols.filter fun p => match p.2.change with
    | some h => decide (h.phase = .start) && decide (h.commit = commit)
    | none => false).map (·.1)

/-- Every start-tick decision at tick t. -/
def State.decideAll (s : State) (t : Nat) : State :=
  let order := s.starting none ++ (s.mtx.commits.map fun p => s.starting (some p.1)).flatten
  order.foldl (fun s n => s.decideCol t n) s

/-! ### Commits at a boundary (R133, R134) -/

/-- An earlier commit that is pending touches one of a commit's columns. -/
def State.outrun (s : State) (n : Nat) (c : Commit) : Bool :=
  s.mtx.commits.any fun p => decide (p.1 < n) && decide (p.2.state = 1) && p.2.columns.any c.columns.contains

/-- A commit may start at tick t: its base tick is reached and no earlier change holds its columns, or it
preempts them. -/
def State.mayStart (s : State) (n t : Nat) (c : Commit) : Bool :=
  decide (c.state = 1) && (match c.trig with
    | .tick b => decide (b ≤ t)
    | _ => false) && !s.outrun n c &&
    (c.preempt || c.columns.all fun k => (s.col k).change.isNone)

/-- One column of a commit at its start. A column that the live plan makes OFF is skipped, and so is one that the plan has
made NOM since, where the entries would make it a PATCH (R124): DESIGN CHOICE (log 92). A FAULTED column takes a change
that replaces its whole list, as one of length 0 without ZC: it writes 0 until then (R146; log 93). -/
def State.startCol (s : State) (n t : Nat) (c : Commit) (k : Nat) : State :=
  let mine := c.entries.filter fun e => decide (e.column = k)
  let (base, s) := s.freeze k t
  let x := { s.col k with commitId := n % 16 }
  let new := mine.foldl ColList.change base
  let skip := (s.setCol k { x with result := 6 }).onCommit n fun c => { c with refused := c.refused + 1 }
  if s.planOff k || (x.nom && mine.any fun e => decide (e.op = 1)) || (x.faulted && mine.all fun e => decide (e.op = 0)) then skip
  else
    let zc := c.zc && !x.faulted
    s.setCol k { x with change := some {
      new := new, phase := if zc then .waitZc else .start, t0 := t, len := if x.faulted then 0 else c.len
      equalPower := c.equalPower, thr := c.thr, timeout := c.timeout, zc := zc, commit := some n } }

/-- A commit starts at tick t. -/
def State.startCommit (s : State) (n t : Nat) (c : Commit) : State :=
  let late := match c.trig with
    | .tick b => decide (b < t)
    | _ => false
  let s := s.onCommit n fun c => { c with
    state := 2, delayed := late, started := if c.zc then c.started else some t }
  c.columns.foldl (fun s k => s.startCol n t c k) s

/-- A commit at the boundary to tick t. -/
def State.tryCommit (s : State) (t n : Nat) : State :=
  match sfind n s.mtx.commits with
  | some c => if s.mayStart n t c then s.startCommit n t c else s
  | none => s

/-- A RUNNING commit none of whose columns is still changing is DONE. -/
def State.commitsDone (s : State) : State :=
  (s.mtx.commits.map (·.1)).foldl (fun s n => s.onCommit n fun c =>
    if c.state = 2 ∧ (c.columns.any fun k => match (s.col k).change with
        | some h => decide (h.commit = some n)
        | none => false) = false then { c with state := 3 } else c) s

/-- A commit gives its ID up to a later one with the same ID. -/
def State.commitsPrune (s : State) : State :=
  s.onMtx fun m => { m with commits := m.commits.filter fun p =>
    !(decide (p.2.state = 3) && m.commits.any fun q => decide (p.1 < q.1) && decide (p.1 % 16 = q.1 % 16)) }

/-- Staged row settings and gates at a boundary. -/
def State.rowsBoundary (s : State) : State :=
  s.onMtx fun m => { m with rows := m.rows.map fun p =>
    let x := p.2.close.apply
    (p.1, { x with gate := x.gateNext }) }

/-- The end of a NOM ramp (R142). -/
def State.nomRampEnd (s : State) (u : Nat) : State :=
  let x := sget {} u s.mtx.nom
  if x.ramping && decide (s.rd (Reg.MTX_NOM_CTRL.RAMP u) ≤ x.j) then
    s.onMtx fun m => { m with nom := sset {} u { x with ramping := false, g := x.target } m.nom }
  else s

/-- What the registers show of the tick that ends, and the items before the commits. -/
def State.mtxShow (s : State) : State :=
  let s := s.wr Reg.MTX_STATUS.CLIPCOLS (min s.mtx.clips 4095)
  let s := s.mtx.nom.foldl (fun s p => (s.wr (Reg.MTX_NOM_STATUS.N p.1) p.2.openRows).nomRampEnd p.1) s
  s.rowsBoundary

/-- The columns and commits at the boundary to tick t (R32 item 5), after a lay-plan switch. -/
def State.mtxBoundary (s : State) (t : Nat) : State :=
  let s := s.colsStep t
  let s := (s.mtx.commits.map (·.1)).foldl (fun s n => s.tryCommit t n) s
  let s := (s.decideAll t).commitsDone.commitsPrune.placeGains
  s.put (Reg.FLT_SRC.ACTIVE Src.MTX_ECC) s.anyFaulted

/-! ### The bank splice of a lay-plan switch (05 R119) -/

/-- A column of a plan's matrix program; an absent one is OFF. -/
def LayPlan.col (p : LayPlan) (c : Nat) : ColPlan := sget { slot := 0, list := .off } c p.cols

/-- A column that differs between the banks, or one that was changing, takes part in the bank splice. Its fallback cut
watches with the reset values of MTX_CM_ZC: DESIGN CHOICE (log 94). -/
def State.bankCol (s : State) (t len : Nat) (old new : LayPlan) (n : Nat) : State :=
  let held := (s.col n).change.isSome
  let (goal, s) := s.freeze n t
  let c := s.col n
  let differs := decide (old.col n ≠ new.col n)
  if !held && !differs then s
  else
    let b := new.col n
    let c := if c.live.isOff then { c with live := .mix [], y := 0 } else c
    let c := if differs && !b.list.isOff then { c with slot := b.slot, nom := b.nom, unit := b.unit } else c
    let target := if differs then (if b.list.isOff then .mix [] else b.list) else goal
    s.setCol n { c with change := some {
      new := target, phase := .start, t0 := t, len := if c.faulted then 0 else len, equalPower := true, thr := 256
      timeout := 480, toOff := differs && b.list.isOff, commit := none } }

/-- The matrix differences between two banks at tick t: row bindings, NOM settings and columns. -/
def State.bankSplice (s : State) (t len : Nat) (old new : LayPlan) : State :=
  let s := s.colsStep t
  let rows := ((old.rows ++ new.rows).map (·.1)).eraseDups.filter fun r => decide (sfind r old.rows ≠ sfind r new.rows)
  let s := rows.foldl (fun s r => s.setRow r (match sfind r new.rows with
    | some b => { live := ⟨b.slot, true, b.openThr, b.closeThr, b.hold⟩ }
    | none => {})) s
  let noms := new.noms.filter fun p => decide (sfind p.1 old.noms ≠ some p.2)
  let s := noms.foldl (fun s p =>
    let s := (s.wr (Reg.MTX_NOM_CTRL.LAW p.1) p.2.law).wr (Reg.MTX_NOM_CTRL.RAMP p.1) p.2.ramp
    (List.range 16).foldl (fun s i => s.wr (Reg.MTX_NOM_TABLE.GAIN p.1 i) (sget unity i p.2.table).toNat) s) s
  let cols := ascending ((s.mtx.cols ++ (old.cols ++ new.cols).map fun p => (p.1, ({} : Col))).map (·.1)).eraseDups
  cols.foldl (fun s n => s.bankCol t len old new n) s

/-- A plan with the matrix program as it stands: bound rows, columns with their lists, and NOM settings (05 R111). -/
def State.matrixProgram (s : State) (p : LayPlan) : LayPlan :=
  { p with
    rows := s.mtx.rows.filterMap fun x =>
      if x.2.live.valid then some (x.1, ⟨x.2.live.slot, x.2.live.openThr, x.2.live.closeThr, x.2.live.hold⟩) else none
    cols := s.mtx.cols.filterMap fun x =>
      if x.2.live.isOff then none else some (x.1, ⟨x.2.slot, x.2.nom, x.2.unit, x.2.live⟩)
    noms := (List.range 256).filterMap fun u =>
      let n : NomPlan := { law := s.rd (Reg.MTX_NOM_CTRL.LAW u), ramp := s.rd (Reg.MTX_NOM_CTRL.RAMP u)
                           table := (List.range 16).foldl (fun m i =>
                             sset unity i (BitVec.ofNat 32 (s.rd (Reg.MTX_NOM_TABLE.GAIN u i))) m) [] }
      if n = {} then none else some (u, n) }

/-- The matrix as a plan's program starts it: no change in progress (05 R111, 17 R376). -/
def State.loadMatrix (s : State) (p : LayPlan) : State :=
  let s := { s with mtx := { nextSeq := s.mtx.nextSeq } }
  ((s.bankSplice 0 0 {} p).onMtx fun m => { m with cols := m.cols.map fun c =>
    (c.1, match c.2.change with
      | some h => { c.2 with live := h.new, change := none }
      | none => c.2) }).placeGains

/-- Every splice, cut and dip in progress completes at once on its new list (08 R175). -/
def State.mtxComplete (s : State) : State :=
  ((s.mtx.cols.map (·.1)).foldl (fun s n => s.finishCol n 1 false) s).commitsDone.placeGains

/-! ### The pass of a tick (R123-R127, R136, R139-R142, R146) -/

/-- The bound rows read from the current bank. -/
def State.readRows : List (Nat × Row) → State → SMap (Word × Tag) × State
  | [], s => ([], s)
  | (r, x) :: l, s =>
    if x.live.valid then
      let (v, s) := s.readSlot x.live.slot
      let (m, s) := State.readRows l s
      ((r, (v.sample, v.tag)) :: m, s)
    else State.readRows l s

/-- Σ e_j × x_j over a list, in units of 2^-58 (R127 step 2). -/
def listSum (reads : SMap (Word × Tag)) (l : ColList) (f : Option Nat) : Int :=
  (l.items.map fun p => faded p.2 f * sval (sget (0, 0) p.1 reads).1).sum

/-- The OR of the tags of a list's rows (02 R27). -/
def listTag (reads : SMap (Word × Tag)) (l : ColList) : Tag :=
  l.items.foldl (fun t p => t ||| (sget (0, 0) p.1 reads).2) 0

/-- G* of a unit with n open rows (R141). -/
def State.nomTarget (s : State) (u n : Nat) : Int :=
  let m := max n 1
  match s.rd (Reg.MTX_NOM_CTRL.LAW u) with
  | 0 => roundNearest (2 ^ 27) m
  | 1 =>
    let q := isqrt 28 (2 ^ 54 / m)
    if (2 * q + 1) * (2 * q + 1) * m ≤ 2 ^ 56 then (q + 1 : Nat) else q
  | _ => (Reg.MTX_NOM_TABLE.GAIN u (min m 16 - 1)).signed (s.rd (Reg.MTX_NOM_TABLE.GAIN u (min m 16 - 1)))

/-- A unit in a tick: a new target starts a ramp from the present gain; with RAMP 0 it applies in the next tick, after
`State.nomRampEnd` (R142). -/
def NomUnit.step (x : NomUnit) (target : Int) (ramp n : Nat) : NomUnit :=
  if x.live = false then { live := true, g := target, g0 := target, target := target, openRows := n }
  else
    let x := { x with openRows := n }
    let x := if target ≠ x.target then { x with target := target, g0 := x.g, j := 0, ramping := true } else x
    if x.ramping then
      let j := x.j + 1
      { x with j := j, g := if ramp = 0 then x.g else if ramp ≤ j then target else x.g0 + roundNearest ((target - x.g0) * j) ramp }
    else x

/-- The rows with an open gate among those of a column's lists. -/
def State.openCount (s : State) (ls : List (ColList × Option Nat)) : Nat :=
  ((ls.flatMap fun l => l.1.items.map (·.1)).eraseDups.filter fun r => (s.row r).gate).length

/-- A sum rounded and saturated as a column's sample. -/
def State.mixOut (s : State) (reads : SMap (Word × Tag)) (c : Col) (ls : List (ColList × Option Nat)) : Word × Tag × Bool × State :=
  let a := (ls.map fun l => listSum reads l.1 l.2).sum
  let t := ls.foldl (fun t l => t ||| listTag reads l.1) (0 : Tag)
  if c.nom then
    let n := s.openCount ls
    let x := (sget {} c.unit s.mtx.nom).step (s.nomTarget c.unit n) (s.rd (Reg.MTX_NOM_CTRL.RAMP c.unit)) n
    let s := s.onMtx fun m => { m with nom := sset {} c.unit x m.nom }
    (s31 (a * x.g) (2 ^ 54), t, s31Sat (a * x.g) (2 ^ 54), s)
  else (s31 a (2 ^ 27), t, s31Sat a (2 ^ 27), s)

/-- What a column writes in a tick before a dip and the MUTING of a splice or cut. -/
def State.colOut (s : State) (reads : SMap (Word × Tag)) (c : Col) (ls : List (ColList × Option Nat)) : Word × Tag × Bool × State :=
  match ls with
  | [(.patch r, none)] =>
    let x := sget (0, 0) r reads
    (x.1, x.2, false, s)
  | _ => s.mixOut reads c ls

/-- The entry of gain memory that an error mark names. -/
def gainOfKey (k : Nat) : Option Nat :=
  if (EccKey.gain 0).num ≤ k ∧ k < (EccKey.gain 2097152).num then some (k - (EccKey.gain 0).num) else none

/-- An error of an entry is found: a single-bit error is corrected and counted, a double-bit error in a column's list
makes the column FAULTED (R146). -/
def State.gainError (s : State) (p : Nat × EccMark) : State :=
  let i := p.1 - (EccKey.gain 0).num
  let s := { s.healthError p.2.double with ecc := serase p.1 s.ecc }
  if p.2.double then
    let s := s.bump Reg.MTX_ECC.DBE 1
    match sfind i s.mtx.gown with
    | some o => (((s.setCol o.1 { s.col o.1 with damaged := true }).put Reg.MTX_STATUS.ECC_DBE true).put
        (Reg.FLT_SRC.ACTIVE Src.MTX_ECC) true).raise Src.MTX_ECC
    | none => s
  else s.bump Reg.MTX_ECC.SBE 1

/-- The pass meets the errors of the entries that it reads for a column. -/
def State.meetGain (s : State) (n : Nat) : State :=
  let rows := ((s.col n).reads s.tick).1.flatMap fun l => l.1.items.map (·.1)
  (s.ecc.filter fun p => match (gainOfKey p.1).bind fun i => sfind i s.mtx.gown with
    | some o => decide (o.1 = n) && rows.contains o.2
    | none => false).foldl State.gainError s

/-- A sample lands in the next bank. -/
def State.landNext (s : State) (slot : Nat) (v : Word) (t : Tag) : State :=
  s.onStr fun q => { q with nxt := sset {} slot ⟨v, t, true⟩ q.nxt }

/-- One column in the pass of the present tick. -/
def State.passCol (s : State) (reads : SMap (Word × Tag)) (n : Nat) : State :=
  if (s.col n).live.isOff then s
  else
    let s := s.meetGain n
    let c := s.col n
    if c.faulted || c.damaged then (s.landNext c.slot 0 0b0010).setCol n { c with y := 0, cutTick := false }
    else
      let (ls, dip) := c.reads s.tick
      let (v, t, sat, s) := s.colOut reads c ls
      let v := match dip with
        | some k => scaleSample v k 16
        | none => v
      let t := if sat then t ||| 0b0100 else t
      let t := if c.cutTick || decide (1 < ls.length) || dip.isSome then t ||| 0b1000 else t
      let s := if sat then s.onMtx fun m => { m with clips := m.clips + 1 } else s
      let change := c.change.map fun h =>
        if decide (h.phase = .waitZc ∨ h.phase = .waitCut) && crossing h.thr c.y v then { h with cross := true } else h
      (s.landNext c.slot v t).setCol n { c with y := v, change := change, cutTick := false }

/-- The scrubber reads 32 entries in each tick (R146). -/
def State.mtxScrub (s : State) : State :=
  if s.on Reg.MTX_CTRL.SCRUB_EN then
    let lo := s.mtx.scrub
    let hit := s.ecc.filter fun p => decide ((EccKey.gain lo).num ≤ p.1 ∧ p.1 < (EccKey.gain (lo + 32)).num)
    let s := hit.foldl State.gainError s
    s.onMtx fun m => { m with scrub := (lo + 32) % 2097152 }
  else s

/-- The matrix pass of the present tick: rows are read, columns written, gates computed; a row that is not bound reads
0 (R126). -/
def State.mtxPass (s : State) : State :=
  let (reads, s) := State.readRows s.mtx.rows s
  let s := s.onMtx fun m => { m with clips := 0 }
  let s := (s.mtx.cols.map (·.1)).foldl (fun s n => s.passCol reads n) s
  (s.onMtx fun m => { m with rows := m.rows.map fun p =>
    (p.1, p.2.listen (sget (0, 0) p.1 reads).1) }).mtxScrub

/-! ### Register windows (R147) -/

/-- Code of a column's KIND. -/
def ColList.kind : ColList → Nat
  | .off => 0
  | .patch _ => 1
  | .mix _ => 2

/-- MTX_COL_W0-W2 of the selected column (word 0-2). -/
def State.colWord (s : State) (w : Nat) : Nat :=
  let c := s.col (s.rd Reg.MTX_COL_SEL.INDEX)
  match w with
  | 0 => c.slot + 2 ^ 13 * c.live.kind + 2 ^ 15 * c.nom.toNat + 2 ^ 16 * c.unit
  | 1 =>
    let state := if c.faulted then 5 else match c.change with
      | none => 0
      | some h => match h.phase with
        | .start => 0
        | .waitZc => 1
        | .splice => 2
        | .waitCut => 3
        | .dip => 4
    c.live.shown % 4096 + 2 ^ 12 * ((c.change.map fun h => h.new.count).getD 0 % 4096) + 2 ^ 24 * state
  | _ =>
    let k := (c.change.map fun h => min (s.tick - h.t0) 4095).getD 0
    k + 2 ^ 12 * c.commitId + 2 ^ 16 * c.result

/-- MTX_XQ_LIVE and MTX_XQ_NEW. -/
def State.xqWord (s : State) (new : Bool) : Nat :=
  let c := s.col (s.rd Reg.MTX_XQ_SEL.COLUMN)
  let r := s.rd Reg.MTX_XQ_SEL.ROW
  if new then ((c.change.map fun h => (h.new.gain r).toNat).getD 0) else (c.live.gain r).toNat

/-- The latest commit with the selected ID that stood at the last boundary. -/
def State.selCommit (s : State) : Option Commit :=
  ((s.mtx.commits.filter fun p =>
    decide (p.1 % 16 = s.rd Reg.MTX_CS_SEL.ID) && decide (p.2.accepted < s.tick)).getLast?).map (·.2)

/-- MTX_CS_STAT (0), MTX_CS_START_LO (1) and MTX_CS_START_HI (2). -/
def State.csWord (s : State) (w : Nat) : Nat :=
  match s.selCommit with
  | none => 0
  | some c => match w with
    | 0 => c.state + 8 * c.delayed.toNat + 16 * min c.fallback 4095 + 65536 * min c.refused 4095
    | 1 => c.started.getD 0 % 2 ^ 32
    | _ => c.started.getD 0 / 2 ^ 32 % 2 ^ 32

/-- MTX_ROW_W0-W2 of the selected row. -/
def State.rowWord (s : State) (w : Nat) : Nat :=
  let x := s.row (s.rd Reg.MTX_ROW_SEL.INDEX)
  let v := x.shown
  match w with
  | 0 => v.slot + 2 ^ 31 * v.valid.toNat
  | 1 => v.openThr + 65536 * v.closeThr
  | _ => v.hold + 65536 * x.gate.toNat

/-! ### The commands -/

/-- ROW_BIND_WRITE (06 R126): a write of MTX_ROW_W0. -/
def execRowBindWrite (v : Word) (s : State) : Out := core (fun s => s.control 0xA0024 v fun s => s.writeRowW0 v) s

/-- CL_APPEND (06 R131): a write of MTX_CL_W1. -/
def execClAppend (v : Word) (s : State) : Out := core (fun s => s.control 0xA0054 v fun s => s.appendEntry v) s

/-- CL_DISCARD (06 R147): a write of MTX_CM_GO. -/
def execClDiscard (v : Word) (s : State) : Out := core (fun s => s.control 0xA0074 v fun s => s.writeCmGo v) s

/-- MTX_COMMIT (06 R132): a write of MTX_CM_GO. -/
def execMtxCommit (v : Word) (s : State) : Out := core (fun s => s.control 0xA0074 v fun s => s.writeCmGo v) s

/-- An item of the coming boundary, once the pass of the present tick is over. -/
def atWindow (f : State → State) (s : State) : Out := clocked (fun s => if s.inWindow then f s else s) s

/-- ROW_BIND_APPLY (06 R126, R140). -/
def execRowBindApply (r : Fin 2304) (s : State) : Out :=
  atWindow (fun s => s.setRow r.val (s.row r.val).apply) s

/-- COMMIT_START (06 R133, R134): the commit with this ID starts at the coming boundary if it is due. -/
def execCommitStart (id : Fin 16) (s : State) : Out :=
  atWindow (fun s =>
    let s := s.colsStep (s.tick + 1)
    ((s.mtx.commits.filter fun p => decide (p.1 % 16 = id.val)).map (·.1)).foldl (fun s n => s.tryCommit (s.tick + 1) n) s) s

/-- An item of one column, where it is due at the coming boundary. -/
def State.colCommand (s : State) (n : Nat) (e : ColEvent) : State :=
  if (s.col n).due (s.tick + 1) = some e ∧ (s.col n).damaged = false then s.colEvent n (s.tick + 1) e else s

/-- SPLICE_ZC_START (06 R137). -/
def execSpliceZcStart (c : Fin 2304) (s : State) : Out := atWindow (fun s => s.colCommand c.val .zcStart) s

/-- SPLICE_ZC_TIMEOUT (06 R137). -/
def execSpliceZcTimeout (c : Fin 2304) (s : State) : Out := atWindow (fun s => s.colCommand c.val .zcTimeout) s

/-- SPLICE_END (06 R135). -/
def execSpliceEnd (c : Fin 2304) (s : State) : Out := atWindow (fun s => s.colCommand c.val .spliceEnd) s

/-- CUT_ZC (06 R139). -/
def execCutZc (c : Fin 2304) (s : State) : Out := atWindow (fun s => s.colCommand c.val .cutZc) s

/-- CUT_DIP_START (06 R139). -/
def execCutDipStart (c : Fin 2304) (s : State) : Out := atWindow (fun s => s.colCommand c.val .dipStart) s

/-- DIP_END (06 R139). -/
def execDipEnd (c : Fin 2304) (s : State) : Out := atWindow (fun s => s.colCommand c.val .dipEnd) s

/-- NOM_GATE_CLOSE (06 R140). -/
def execNomGateClose (r : Fin 2304) (s : State) : Out :=
  atWindow (fun s => s.setRow r.val (s.row r.val).close) s

/-- NOM_RAMP_END (06 R142). -/
def execNomRampEnd (u : Fin 256) (s : State) : Out := atWindow (fun s => s.nomRampEnd u.val) s

end Sys2Proof.Machine
end

