-- ==== Sys2Proof/Machine/Egress.lean ====
section
/-! DEFINITION. The egress stage: whipping, side-tone mixers and the words that leave by the egress hitches
(06 R143-R145, R148; 02 R30; 08 R175; 15 R353). -/

namespace Sys2Proof.Machine

/-- A whipping stage. -/
def State.whip (s : State) (i : Nat) : Whip := sget {} i s.egr.whip

/-- Replacing a whipping stage. -/
def State.setWhip (s : State) (i : Nat) (x : Whip) : State := s.onEgr fun e => { e with whip := sset {} i x e.whip }

/-! ### Staged settings (R148, 15 R353) -/

/-- The shadow settings of the selected stage. -/
def Whip.shadow (x : Whip) : WhipCfg := x.staged.getD x.live

/-- A change of the selected stage's shadow settings. -/
def State.stageWhip (s : State) (f : WhipCfg → WhipCfg) : State :=
  let i := s.rd Reg.EGR_WSEL.INST
  s.setWhip i { s.whip i with staged := some (f (s.whip i).shadow) }

/-- A write of EGR_WGAIN (0), EGR_WCTRL (1), EGR_WLIM (2) or EGR_WDC (3); a ZCTO of 0 is refused. -/
def State.writeWhip (s : State) (r : Nat) (v : Word) : State :=
  match r with
  | 0 => s.stageWhip fun c => { c with gain := v }
  | 1 =>
    if wfield v 16 16 = 0 then s.refused
    else s.stageWhip fun c => { c with
      mute := v.getLsbD 0, limEn := v.getLsbD 1, dcEn := v.getLsbD 2, dcMute := v.getLsbD 3, zcto := wfield v 16 16 }
  | 2 => s.stageWhip fun c => { c with zcthr := wfield v 0 16, rshift := wfield v 16 5, thr := wfield v 24 8 }
  | _ => s.stageWhip fun c => { c with dcthr := wfield v 0 16, dcshift := wfield v 16 5, dctime := wfield v 21 11 }

/-- A write of EGR_WCOMMIT. -/
def State.writeWcommit (s : State) (v : Word) : State :=
  if v.getLsbD 0 then s.put Reg.EGR_WCOMMIT.COMMIT true else s

/-- The copy cycle: the shadow settings of every stage become live. A DC mute ends with them. -/
def State.copyWhips (s : State) : State :=
  if s.on Reg.EGR_WCOMMIT.COMMIT then
    (s.onEgr fun e => { e with whip := e.whip.map fun p => (p.1, match p.2.staged with
      | some c => { p.2 with live := c, staged := none, dcWant := false }
      | none => p.2) }).put Reg.EGR_WCOMMIT.COMMIT false
  else s

/-! ### A whipping stage in a tick (R143, R144) -/

/-- The start of a tick: a found crossing applies the change, a timeout starts its ramp, a ramp that is over
ends, and new settings start a wait. -/
def Whip.begin (x : Whip) : Whip :=
  let rest := fun x : Whip =>
    if x.live.gain = x.curGain ∧ x.live.mute = x.curMute then { x with phase := .rest }
    else { x with phase := .waitZc 0 false, toGain := x.live.gain, toMute := x.live.mute }
  let done := fun x : Whip => rest { x with curGain := x.toGain, curMute := x.toMute }
  match x.phase with
  | .rest => rest x
  | .waitZc n found =>
    if found then done x
    else if x.toGain ≠ x.live.gain ∨ x.toMute ≠ x.live.mute then rest x
    else if x.live.zcto ≤ n then { x with phase := .ramp 0 }
    else x
  | .ramp k => if 16 ≤ k then done x else x

/-- The gain of a tick as an s4.27 code. -/
def Whip.gain (x : Whip) : Int :=
  match x.phase with
  | .ramp k => sval x.curGain + roundNearest ((sval x.toGain - sval x.curGain) * (k + 1)) 16
  | _ => sval x.curGain

/-- The sixteenths of the mute of a tick. -/
def Whip.sixteenths (x : Whip) : Int :=
  match x.phase with
  | .ramp k => if x.curMute = x.toMute then (if x.curMute then 0 else 16) else if x.toMute then 15 - k else k + 1
  | _ => if x.curMute then 0 else 16

/-- The phase after the tick's output of step 1. -/
def Whip.watch (x : Whip) (a : Word) : Whip :=
  let x := match x.phase with
    | .rest => x
    | .waitZc n _ => { x with phase := .waitZc (n + 1) (crossing x.live.zcthr x.lastA a) }
    | .ramp k => { x with phase := .ramp (k + 1) }
  { x with lastA := a }

/-- The limiter's state for a target t. -/
def Whip.limit (x : Whip) (t : Nat) : Whip :=
  let r := if t < x.r then t else x.r + (2147483647 - x.r) / 2 ^ x.live.rshift
  { x with r := r }

/-- The limiter's target; a THR code whose value is negative gives a threshold that the manual does not
state, and the target is a free value. -/
def State.limitTarget (s : State) (c : WhipCfg) (a : Word) : Nat × State :=
  let thr := c.thr * 2 ^ 24 + 0xFFFFFF
  let m := (sval a).natAbs
  if 128 ≤ c.thr then
    let (n, s) := s.nextFree
    ((Config.freeWord n).toNat % 2 ^ 31, s)
  else (if thr < m then thr * 2 ^ 31 / m else 2147483647, s)

/-- A sample times a gain of 2^-31; 0x7FFFFFFF leaves it as it is. -/
def scaleFull (a : Word) (g : Int) : Word := if g = 2147483647 then a else scaleSample a g (2 ^ 31)

/-- The DC detector on the output. -/
def Whip.detect (x : Whip) (y : Word) : Whip :=
  if x.live.dcEn then
    let m := x.m + shiftFloor (sval y - x.m) (-(x.live.dcshift : Int))
    if x.live.dcthr * 2048 < m.natAbs then { x with m := m, dcRun := x.dcRun + 1 }
    else { x with m := m, dcRun := 0, dc := false }
  else { x with dcRun := 0, dc := false }

/-- The sixteenths of a mute. -/
def muteNum (m : Mute) : Int := m.gain.getD 16

/-- The drive channel whose egress strand an egress hitch carries. -/
def Hitch.ampOf (h : Hitch) : Option Nat := if h.iftype = 8 then some h.port else none

/-- The gains of an amplifier channel in this tick (11 R236): g, and d as a fraction, 0 once latched. -/
def State.ampGains (s : State) : Option Nat → AmpGain
  | none => { num := 1 }
  | some n => if s.ampSt n = 7 then { s.ampActing n with num := 0 } else s.ampActing n

/-- What a stage does to a word in one tick: its gain, its limiter state where the limiter is enabled, the 4096ths of its
mutes, and MUTING. -/
structure WhipPass where
  gain : Int
  lim : Option Nat
  num : Int
  muting : Bool
deriving DecidableEq, Repr

/-- Step 1 of R143. -/
def WhipPass.first (p : WhipPass) (v : Word) : Word := scaleSample v p.gain (2 ^ 27)

/-- Steps 1 to 4 of R143, with the gains of an amplifier channel. -/
def WhipPass.out (p : WhipPass) (ag : AmpGain) (v : Word) (t : Tag) : Word × Tag :=
  let a := p.first v
  let b := match p.lim with
    | some r => scaleFull a r
    | none => a
  (scaleSample (scaleFull b ag.g) (p.num * ag.num) (4096 * ag.den),
    if p.muting || decide (ag.num ≠ ag.den) then t ||| 0b1000 else t)

/-- A whipping stage goes through the present tick with the word of its first egress hitch. -/
def State.passWhip (s : State) (i : Nat) (amp : Option Nat) (v : Word) : WhipPass × State :=
  let x := (s.whip i).begin
  let g := x.gain
  let a := scaleSample v g (2 ^ 27)
  let x := if s31Sat (sval v * g) (2 ^ 27) then { x with clip := min (x.clip + 1) 65535 } else x
  let num := x.sixteenths
  let ramping := match x.phase with
    | .ramp _ => true
    | _ => false
  let (tgt, s) := if x.live.limEn then s.limitTarget x.live a else (0, s)
  let x := if x.live.limEn then x.limit tgt else x
  let ag := s.ampGains amp
  let reduced := (x.live.limEn && decide (x.r < 2147483647)) || decide (ag.g < 2147483647)
  let x := if reduced then { x with lim := min (x.lim + 1) 65535 } else x
  let dcm := x.dcForced.step x.dcWant x.dcWant false false
  let p : WhipPass := {
    gain := g, lim := if x.live.limEn then some x.r else none, num := num * muteNum dcm * muteNum s.egr.out
    muting := decide (num ≠ 16) || ramping || decide (dcm ≠ .full) || decide (s.egr.out ≠ .full) }
  let x := { x with dcForced := dcm, muting := p.muting || decide (ag.num ≠ ag.den) }
  (p, s.setWhip i ((x.watch a).detect (p.out ag v 0).1))

/-- A whipping stage makes its output of the present tick from a strand word. -/
def State.runWhip (s : State) (i : Nat) (amp : Option Nat) (v : Word) (t : Tag) : Word × Tag × State :=
  let (p, u) := s.passWhip i amp v
  let w := p.out (s.ampGains amp) v t
  (w.1, w.2, u)

/-- After DCTIME ticks of DC the detector fires (R143). -/
def State.whipDc (s : State) (i : Nat) : State :=
  let x := s.whip i
  if x.live.dcEn && decide (max 1 x.live.dctime ≤ x.dcRun) && !x.dc then
    ((s.setWhip i { x with dc := true, dcWant := x.dcWant || x.live.dcMute }).put
      (Reg.FLT_SRC.ACTIVE Src.EGR_DC) true).raise Src.EGR_DC
  else s

/-- Every detector in a tick. -/
def State.whipsDc (s : State) : State :=
  let s := (s.egr.whip.map (·.1)).foldl State.whipDc s
  s.put (Reg.FLT_SRC.ACTIVE Src.EGR_DC) (s.egr.whip.any fun p => p.2.dc)

/-! ### Side-tone mixers (R145) -/

/-- The gain of a source at a boundary: a new GAIN starts a ramp of 16 ticks from the present one. -/
def StGain.step (x : StGain) (goal : Int) : StGain :=
  let x := if goal ≠ x.goal then { x with base := x.cur, goal := goal, k := 0 } else x
  if x.k < 16 then { x with k := x.k + 1, cur := x.base + roundNearest ((x.goal - x.base) * (x.k + 1)) 16 } else x

/-- A source's gain register as a signed code. -/
def State.stReg (s : State) (m i : Nat) : Int :=
  (Reg.EGR_ST_GAIN.GAIN m i).signed (s.rd (Reg.EGR_ST_GAIN.GAIN m i))

/-- Every gain at a boundary. -/
def State.stTick (s : State) : State :=
  (List.range 256).foldl (fun s k =>
    let x := sget {} k s.egr.st
    let y := x.step (s.stReg (k / 4) (k % 4))
    if x = y then s else s.onEgr fun e => { e with st := sset {} k y e.st }) s

/-- The mixer that serves an egress hitch. -/
def State.mixerOf (s : State) (i : Nat) (h : Hitch) : Option Nat :=
  if h.iftype = 1 ∨ h.iftype = 2 ∨ h.iftype = 3 ∨ h.iftype = 8 then
    (List.range 64).find? fun m => s.on (Reg.EGR_ST_CTRL.EN m) && decide (s.rd (Reg.EGR_ST_CTRL.TARGET m) = i)
  else none

/-- A source's sample: what its ingress hitch, or the store in its place, wrote. -/
def State.stSource (s : State) (m i : Nat) : Int :=
  if s.on (Reg.EGR_ST_SRC.VALID m i) then
    let h := sget {} (s.rd (Reg.EGR_ST_SRC.HITCH m i)) s.str.ingress
    if h.valid && decide (1 ≤ h.iftype ∧ h.iftype ≤ 4) && !h.tether then
      (sget {} (m * 4 + i) s.egr.st).cur * sval (s.curSlot h.slot).sample
    else 0
  else 0

/-- A mixer's output. -/
def State.mixer (s : State) (m : Nat) (x : Word) : Word :=
  let a := ((List.range 4).map fun i => s.stSource m i).sum
  s31 (if s.on (Reg.EGR_ST_CTRL.MODE m) then a + sval x * 2 ^ 27 else a) (2 ^ 27)

/-! ### The egress of a tick -/

/-- The sixteenths that scale Flitex and tether egress with the other outputs (08 R175). -/
def State.linkScale (s : State) (x : Word × Tag) : Word × Tag :=
  if s.rd Reg.CHIP_STATE.STATE = 2 then x else s.egr.out.apply x

/-- An egress hitch in the present tick; `done` lists the whipping stages that have run. Hitches that name one stage read
one slot (02 R30): the stage goes through the tick once, with the word of the first, and does to the words of the others,
which a side-tone mixer may make different, the same: DESIGN CHOICE (log 95). -/
def State.egressOne (s : State) (done : SMap WhipPass) (i : Nat) (h : Hitch) : SMap WhipPass × State :=
  if s.hitchWrites h (s.hitchRun true i) = false then (done, s.hitchEgress i h (0, 0))
  else
    let (x, s) := s.readSlot h.slot
    let v := match s.mixerOf i h with
      | some m => s.mixer m x.sample
      | none => x.sample
    let send := fun (s : State) (w : Word × Tag) =>
      (s.onEgr fun e => { e with words := sinsert i ⟨w.1, w.2, true⟩ e.words }).hitchEgress i h w
    if whipped h.iftype then
      match sfind h.whip done with
      | some p => (done, send s (p.out (s.ampGains h.ampOf) v x.tag))
      | none =>
        let ag := s.ampGains h.ampOf
        let (p, s) := s.passWhip h.whip h.ampOf v
        (sinsert h.whip p done, send s (p.out ag v x.tag))
    else if h.iftype = 6 ∨ h.iftype = 7 then (done, send s (s.linkScale (v, x.tag)))
    else (done, send s (v, x.tag))

/-- The egress hitches in ascending order. -/
def State.egressAll : List (Nat × Hitch) → SMap WhipPass → State → State
  | [], _, s => s
  | (i, h) :: l, done, s =>
    let (done, s) := s.egressOne done i h
    State.egressAll l done s

/-- The egress stage of the present tick. -/
def State.egressStage (s : State) : State :=
  let s := (s.onEgr fun e => { e with
    out := e.out.step e.outWant e.outWant false false, words := [] })
  let s := s.onStr fun q => { q with out := [] }
  State.egressAll (s.str.egress.filter fun p => p.2.valid) [] s

/-- EGR_WSTAT of the selected stage. -/
def State.whipStat (s : State) : Nat :=
  let x := s.whip (s.rd Reg.EGR_WSEL.INST)
  let ramps := fun m : Mute => match m with
    | .down _ => true
    | .up _ => true
    | _ => false
  let waits := match x.phase with
    | .waitZc _ _ => true
    | _ => false
  let ramping := match x.phase with
    | .ramp _ => true
    | _ => ramps x.dcForced || ramps s.egr.out
  let st := if ramping then 2
    else if x.curMute || decide (x.dcForced = .muted) || decide (s.egr.out = .muted) then 3
    else if waits then 1 else 0
  st + 8 * x.dc.toNat + 65536 * (x.r / 65536)

/-- EGR_WCNT of the selected stage, which the read clears. -/
def State.whipCounts (s : State) : Nat × State :=
  let i := s.rd Reg.EGR_WSEL.INST
  let x := s.whip i
  (x.clip + 65536 * x.lim, s.setWhip i { x with clip := 0, lim := 0 })

/-- The shadow settings of the selected stage as registers 0-3 show them. -/
def State.whipWord (s : State) (r : Nat) : Nat :=
  let c := (s.whip (s.rd Reg.EGR_WSEL.INST)).shadow
  match r with
  | 0 => c.gain.toNat
  | 1 => c.mute.toNat + 2 * c.limEn.toNat + 4 * c.dcEn.toNat + 8 * c.dcMute.toNat + 65536 * c.zcto
  | 2 => c.zcthr + 65536 * c.rshift + 2 ^ 24 * c.thr
  | _ => c.dcthr + 65536 * c.dcshift + 2 ^ 21 * c.dctime

/-! ### The commands -/

/-- WHIP_COMMIT (06 R148): a write of EGR_WCOMMIT. -/
def execWhipCommit (v : Word) (s : State) : Out := core (fun s => s.control 0xB0014 v fun s => s.writeWcommit v) s

/-- WHIP_APPLY (15 R353): the copy cycle of the coming boundary. -/
def execWhipApply (s : State) : Out := clocked (fun s => if s.inWindow then s else s.copyWhips) s

/-- WHIP_ZC_CHANGE (06 R144): a change whose zero crossing is found applies for the next tick. -/
def execWhipZcChange (i : Fin 2304) (s : State) : Out :=
  clocked (fun s =>
    let x := s.whip i.val
    match x.phase with
    | .waitZc _ true => s.setWhip i.val { x with phase := .rest, curGain := x.toGain, curMute := x.toMute }
    | _ => s) s

/-- WHIP_ZC_TIMEOUT (06 R144). -/
def execWhipZcTimeout (i : Fin 2304) (s : State) : Out :=
  clocked (fun s =>
    let x := s.whip i.val
    match x.phase with
    | .waitZc n false => if x.live.zcto ≤ n then s.setWhip i.val { x with phase := .ramp 0 } else s
    | _ => s) s

/-- WHIP_RAMP_END (06 R144). -/
def execWhipRampEnd (i : Fin 2304) (s : State) : Out :=
  clocked (fun s =>
    let x := s.whip i.val
    match x.phase with
    | .ramp k => if 16 ≤ k then s.setWhip i.val { x with phase := .rest, curGain := x.toGain, curMute := x.toMute } else s
    | _ => s) s

/-- WHIP_DC_FAULT (06 R143). -/
def execWhipDcFault (i : Fin 2304) (s : State) : Out := clocked (fun s => s.whipDc i.val) s

/-- SIDETONE_GAIN_RAMP_END (06 R145): the last step of a ramp. -/
def execSidetoneGainRampEnd (m : Fin 64) (i : Fin 4) (s : State) : Out :=
  clocked (fun s =>
    let k := m.val * 4 + i.val
    let x := sget {} k s.egr.st
    if x.k = 15 then s.onEgr fun e => { e with st := sset {} k { x with cur := x.goal, k := 16 } e.st } else s) s

end Sys2Proof.Machine
end

