-- ==== Sys2Proof/Machine/EngineOps.lean ====
section
/-! DEFINITION. What each engine instruction does in its issue cycle, and the issue of one instruction
(03 R47-R71, 04 R78-R100). -/

namespace Sys2Proof.Machine

/-! ### Operand buses and multipliers (03 R47-R50) -/

/-- A pointer update of the post-modify forms, readable from t + 1 (R81). -/
def State.pointerUpdate (s : State) (e n : Nat) : Option Nat → State
  | none => s
  | some v => s.fly e 1 (.agu n (BitVec.ofNat 32 v))

/-- The words of an operand bus (R47). -/
def State.bus4 (s : State) (e : Nat) (y : Bool) : BusSrc → Quad × State
  | .quad q => ((s.engine e).dquad q.toNat, s)
  | .mem a =>
    let x := s.engine e
    let (addr, upd) := x.access a true
    let (ws, s) := s.readWords e y (x.quadAddrs a.ptr.toNat addr)
    (quadOf ws, s.pointerUpdate e a.ptr.toNat upd)

/-- The aligned product of R48, in units of 2^-62. -/
def product (cf : Bool) (x y : Word) : Int := sval x * sval y * (if cf then 8 else 1)

/-- The values the sharing mode sends to the accumulators (R49). -/
def macTerms (a : MacArgs) (x y : Quad) : List (Nat × Int) :=
  let p (i j : Nat) := product a.cf (quadWord x i) (quadWord y j)
  match a.mode with
  | .quad => (List.range 4).map fun i => (i, p i i)
  | .bcastx => (List.range 4).map fun i => (i, p 0 i)
  | .bcasty => (List.range 4).map fun i => (i, p i 0)
  | .cplx =>
    let k := a.k.toNat / 2 * 2
    [(k, p 0 0 - p 1 1), (k + 1, p 0 1 + p 1 0)]
  | .sum => [(a.k.toNat, p 0 0 + p 1 1 + p 2 2 + p 3 3)]

/-- The accumulate mode of R50. -/
def macUpdate (m : AccMode) (v : Int) : AccFn :=
  match m with | .acc => .plus v | .sub => .minus v | .set => .load v

/-- MAC (04 R85). -/
def effMac (e : Nat) (a : MacArgs) (s : State) : State :=
  let (x, s) := s.bus4 e false a.x
  let (y, s) := s.bus4 e true a.y
  s.fly e 3 (.acc ((macTerms a x y).map fun t => ⟨t.1, macUpdate a.amode t.2⟩))

/-! ### Moves (03 R51-R55, 04 R86) -/

/-- One move of R51 with its dither: the word, whether it saturated, and the generator's next state. -/
def moveOne (v scale : Int) (w rnd : BitVec 2) (g : Word) : Word × Bool × Word :=
  if rnd = 2 then
    let s1 := ditherStep g
    let s2 := ditherStep s1
    let (r, sat) := moveAcc v scale (moveWidth w) 0 (ditherValue s1 s2)
    (r, sat, s2)
  else
    let (r, sat) := moveAcc v scale (moveWidth w) rnd.toNat 0
    (r, sat, g)

/-- MVA. The stepped generator of a DITHER move is readable from t + 1: DESIGN CHOICE (log 62). -/
def effMva (e : Nat) (a : MvaArgs) (s : State) : State :=
  let x := s.engine e
  let g := a.dgs.toNat
  let (r, sat, dg) := moveOne (x.accVal a.k.toNat) (x.scale a.scs.toNat) a.w a.rnd (x.dither g)
  let s := if a.rnd = 2 then s.fly e 1 (.agu (0x24 + g) dg) else s
  let s := ((s.fly e 2 (.dreg a.d.toNat r 0)).fly e 2 (.zn (decide (r = 0)) r.msb)).fly e 2 (.sat sat)
  if sat then s.fly e 2 (.stickySet true false) else s

/-- The words MVAQ writes, in the order 0 to 3. -/
def moveFour (x : Engine) (a : MvaqArgs) : Nat → Nat → Word → List (Nat × Word) × Bool × Word
  | 0, _, g => ([], false, g)
  | n + 1, i, g =>
    let (r, sat, g) := moveOne (x.accVal i) (x.scale a.scs.toNat) a.w a.rnd g
    let (rs, sats, g) := moveFour x a n (i + 1) g
    ((4 * a.q.toNat + i, r) :: rs, sat || sats, g)

/-- MVAQ. SAT is the OR of what the four moves give: DESIGN CHOICE (log 60). -/
def effMvaq (e : Nat) (a : MvaqArgs) (s : State) : State :=
  let x := s.engine e
  let g := a.dgs.toNat
  let (rs, sat, dg) := moveFour x a 4 0 (x.dither g)
  let s := if a.rnd = 2 then s.fly e 1 (.agu (0x24 + g) dg) else s
  let s := rs.foldl (fun s p => s.fly e 2 (.dreg p.1 p.2 0)) s
  let s := s.fly e 2 (.sat sat)
  if sat then s.fly e 2 (.stickySet true false) else s

/-! ### Accumulator operations (04 R87) -/

/-- One accumulator update, in the accumulate stage (R79). -/
def effAcc (e : Nat) (k : Nat) (f : AccFn) (s : State) : State := s.fly e 3 (.acc [⟨k, f⟩])

/-- NORM's count: the register as a signed integer, clamped (03 R57). -/
def normCount (v : Int) : Int := clampInt (-64) 64 v

/-- EXPA. -/
def effExpa (e k d : Nat) (s : State) : State :=
  let v := (s.engine e).accVal k
  (s.fly e 2 (.dreg d (code 32 (exponent 62 v)) 0)).fly e 2 (.zn (decide (v = 0)) (decide (v < 0)))

/-- ATST. -/
def effAtst (e k : Nat) (s : State) : State :=
  let v := (s.engine e).accVal k
  s.fly e 1 (.zn (decide (v = 0)) (decide (v < 0)))

/-! ### Loads and stores (04 R88) -/

/-- The memory a pointer addresses: P0-P3 X, P4-P7 Y (R84). -/
def pointsY (a : AddrSpec) : Bool := decide (4 ≤ a.ptr.toNat)

/-- A load of one word from an address. -/
def State.loadWord (s : State) (e d : Nat) (y : Bool) (addr : Nat) : State :=
  let (w, s) := s.readXY e y addr
  s.fly e 2 (.dreg d w 0)

/-- A load of a quad from four addresses. -/
def State.loadQuad (s : State) (e q : Nat) (y : Bool) (addrs : List Nat) : State :=
  let (ws, s) := s.readWords e y addrs
  (List.range 4).foldl (fun s i => s.fly e 2 (.dreg (4 * q + i) (ws.getD i 0) 0)) s

/-- The four addresses of an absolute quad. -/
def absQuad (a : Nat) : List Nat := (List.range 4).map fun i => (a + i) % 65536

/-- The words of a D quad at four addresses. -/
def quadStores (x : Engine) (q : Nat) (addrs : List Nat) : List (Nat × Word) :=
  addrs.zip ((List.range 4).map fun i => (x.dreg (4 * q + i)).val)

/-- LDW. -/
def effLdw (e d : Nat) (a : AddrSpec) (s : State) : State :=
  let (addr, upd) := (s.engine e).access a false
  (s.loadWord e d (pointsY a) addr).pointerUpdate e a.ptr.toNat upd

/-- LDQ. -/
def effLdq (e q : Nat) (a : AddrSpec) (s : State) : State :=
  let x := s.engine e
  let (addr, upd) := x.access a true
  (s.loadQuad e q (pointsY a) (x.quadAddrs a.ptr.toNat addr)).pointerUpdate e a.ptr.toNat upd

/-- STW. -/
def effStw (e d : Nat) (a : AddrSpec) (s : State) : State :=
  let x := s.engine e
  let (addr, upd) := x.access a false
  (s.storeWords e (pointsY a) [(addr, (x.dreg d).val)]).pointerUpdate e a.ptr.toNat upd

/-- STQ. -/
def effStq (e q : Nat) (a : AddrSpec) (s : State) : State :=
  let x := s.engine e
  let (addr, upd) := x.access a true
  (s.storeWords e (pointsY a) (quadStores x q (x.quadAddrs a.ptr.toNat addr))).pointerUpdate e a.ptr.toNat upd

/-! ### ALU (04 R89) -/

/-- An ALU result: the word, and for the operations marked SAT whether it saturated. -/
structure AluResult where
  val : Word
  sat : Option Bool := none

/-- An exact value saturated to s.31. -/
def aluSat (v : Int) : AluResult := ⟨code 32 (satBits 32 v), some (decide (satBits 32 v ≠ v))⟩

/-- The shift count of ASH and LSH: b clamped to −32 to +31. -/
def shiftCount (b : Word) : Int := clampInt (-32) 31 (sval b)

/-- ASH: saturated to the left, discarded toward minus infinity to the right. -/
def ashResult (a b : Word) : AluResult := aluSat (shiftFloor (sval a) (shiftCount b))

/-- LSH. -/
def lshResult (a b : Word) : AluResult :=
  let n := shiftCount b
  if 0 ≤ n then ⟨a <<< n.toNat, none⟩ else ⟨a >>> (-n).toNat, none⟩

/-- The second operand (R89). -/
def Engine.aluB (x : Engine) : AluB → Word
  | .reg d => (x.dreg d.toNat).val
  | .imm v => v

/-- An ALU operation that writes Dd with a tag and the flags Z and N of its result. -/
def State.aluWrite (s : State) (e d : Nat) (r : AluResult) (tag : Tag) : State :=
  let s := (s.fly e 1 (.dreg d r.val tag)).fly e 1 (.zn (decide (r.val = 0)) r.val.msb)
  match r.sat with
  | none => s
  | some b =>
    let s := s.fly e 1 (.sat b)
    if b then s.fly e 1 (.stickySet true false) else s

/-- An ALU operation given by its result on a and b; tag 0 (R89, 03 R46). -/
def effAlu (e : Nat) (f : Word → Word → AluResult) (a : AluArgs) (s : State) : State :=
  let x := s.engine e
  s.aluWrite e a.d.toNat (f (x.dreg a.a.toNat).val (x.aluB a.b)) 0

/-- CMP: flags from the exact difference. -/
def effCmp (e : Nat) (a : AluArgs) (s : State) : State :=
  let x := s.engine e
  let v := sval (x.dreg a.a.toNat).val - sval (x.aluB a.b)
  s.fly e 1 (.zn (decide (v = 0)) (decide (v < 0)))

/-- MOV: the tag is that of Db, or 0 for an immediate. -/
def effMov (e : Nat) (a : AluArgs) (s : State) : State :=
  let x := s.engine e
  let t : Tag := match a.b with | .reg d => (x.dreg d.toNat).tag | .imm _ => 0
  s.aluWrite e a.d.toNat ⟨x.aluB a.b, none⟩ t

/-- EXPD: exponent of b; Z for b = 0, N the sign of b (03 R56). -/
def effExpd (e : Nat) (a : AluArgs) (s : State) : State :=
  let v := sval ((s.engine e).aluB a.b)
  (s.fly e 1 (.dreg a.d.toNat (code 32 (exponent 31 v)) 0)).fly e 1 (.zn (decide (v = 0)) (decide (v < 0)))

/-! ### AGU registers (04 R90) -/

/-- The value GETR returns for a register code. LC1 is the outermost active level. -/
def Engine.aguRead (x : Engine) (c : Nat) : Word :=
  if c < 0x08 then x.aguWord c
  else if c < 0x10 then ((x.aguWord c).setWidth 16).signExtend 32
  else if c < 0x20 then x.aguWord c
  else if c < 0x24 then ((x.aguWord c).setWidth 5).signExtend 32
  else if c < 0x26 then x.dither (c - 0x24)
  else if c = 0x26 then flagsWord x.flags
  else match x.loops.reverse[c - 0x27]? with
    | some l => BitVec.ofNat 32 l.remaining
    | none => 0

/-- Writing an AGU register or FLAGS, readable from t + 1. -/
def State.aguWrite (s : State) (e c : Nat) (v : Word) : State :=
  if c = 0x26 then
    let b := v.getLsbD
    ((((s.fly e 1 (.zn (b 0) (b 1))).fly e 1 (.sat (b 2))).fly e 1 (.aov (b 3))).fly e 1
      (.stickyClear (!b 4) (!b 5))).fly e 1 (.stickySet (b 4) (b 5))
  else s.fly e 1 (.agu c v)

/-- MODP: the pointer update alone. -/
def effModp (e : Nat) (a : AddrSpec) (s : State) : State :=
  s.pointerUpdate e a.ptr.toNat ((s.engine e).access a false).2

/-! ### Strands and coils (04 R91, R92) -/

/-- The slot a strand instruction names (03 R66). -/
def Engine.slotOf (x : Engine) : SlotSrc → Nat
  | .imm n => n.toNat
  | .reg d => (x.dreg d.toNat).val.toNat % 8192

/-- SRD: readable from t + 4. -/
def effSrd (e d : Nat) (src : SlotSrc) (s : State) : State :=
  let (w, s) := s.readSlot ((s.engine e).slotOf src)
  s.fly e 4 (.dreg d w.sample w.tag)

/-- SWR: into the write queue, or lost to a full one (R67). -/
def effSwr (e d : Nat) (src : SlotSrc) (s : State) : State :=
  let x := s.engine e
  if 4 ≤ x.queue.length then s.put (Reg.ENG_STATUS.STRQ_OVF e) true
  else s.setEngine e { x with queue := x.queue ++ [⟨x.slotOf src, (x.dreg d).val, (x.dreg d).tag⟩] }

/-- The index of a coil access, and the pointer update of the AS form (R92). -/
def State.coilIndex (s : State) (e : Nat) : CoilIdx → Nat × State
  | .imm i => (i.toNat, s)
  | .spec a =>
    let (addr, upd) := (s.engine e).access a false
    (addr, s.pointerUpdate e a.ptr.toNat upd)

/-- A coil read. -/
def effCoilRead (e csd : Nat) (i : CoilIdx) (dest : CoilDest) (s : State) : State :=
  let (idx, s) := s.coilIndex e i
  s.issueCoil e csd idx (.read dest)

/-- CWRD: the D quad as it stands at issue. -/
def effCwrd (e csd : Nat) (i : CoilIdx) (q : Nat) (s : State) : State :=
  let (idx, s) := s.coilIndex e i
  s.issueCoil e csd idx (.write ((s.engine e).dquad q))

/-- CWRM: the X or Y quad as it stands at issue, taken linearly. -/
def effCwrm (e csd : Nat) (i : CoilIdx) (y : Bool) (addr : Nat) (s : State) : State :=
  let (idx, s) := s.coilIndex e i
  let (ws, s) := s.readWords e y (absQuad addr)
  s.issueCoil e csd idx (.write (quadOf ws))

/-! ### Tags (04 R93) -/

/-- TCLIP. -/
def effTclip (e d : Nat) (sel : BitVec 2) (s : State) : State :=
  let x := s.engine e
  let hit := (sel.getLsbD 0 && x.flags.ssat) || (sel.getLsbD 1 && x.flags.saov)
  let t := (x.dreg d).tag ||| (if hit then 0b0100 else 0)
  (s.fly e 1 (.dtag d t)).fly e 1 (.stickyClear (sel.getLsbD 0) (sel.getLsbD 1))

/-- A tag computed from the tags of Dd and Da at issue. -/
def effTag (e d a : Nat) (f : Tag → Tag → Tag) (s : State) : State :=
  let x := s.engine e
  s.fly e 1 (.dtag d (f (x.dreg d).tag (x.dreg a).tag))

/-- TTST. -/
def effTtst (e d : Nat) (mask : Tag) (s : State) : State :=
  s.fly e 1 (.z (decide (((s.engine e).dreg d).tag &&& mask = 0)))

/-- What an instruction does in its issue cycle, apart from program flow. -/
def effect (e : Nat) (o : EngOp) (s : State) : State :=
  match o with
  | .mac a => effMac e a s
  | .mva a => effMva e a s
  | .mvaq a => effMvaq e a s
  | .aclr k => effAcc e k.toNat .clear s
  | .acpy k j => effAcc e k.toNat (.copy j.toNat) s
  | .aadd k j => effAcc e k.toNat (.addAcc j.toNat) s
  | .asub k j => effAcc e k.toNat (.subAcc j.toNat) s
  | .aneg k => effAcc e k.toNat .neg s
  | .aabs k => effAcc e k.toNat .abs s
  | .norm k d => effAcc e k.toNat (.shift (normCount (sval ((s.engine e).dreg d.toNat).val))) s
  | .ashi k v => effAcc e k.toNat (.shift (normCount v.toInt)) s
  | .dtoa k d c => effAcc e k.toNat (.load (dScaled ((s.engine e).dreg d.toNat).val ((s.engine e).scale c.toNat))) s
  | .dadd k d c => effAcc e k.toNat (.plus (dScaled ((s.engine e).dreg d.toNat).val ((s.engine e).scale c.toNat))) s
  | .expa k d => effExpa e k.toNat d.toNat s
  | .atst k => effAtst e k.toNat s
  | .ldw d a => effLdw e d.toNat a s
  | .ldq q a => effLdq e q.toNat a s
  | .stw d a => effStw e d.toNat a s
  | .stq q a => effStq e q.toNat a s
  | .ldwa d y a => s.loadWord e d.toNat y a.toNat
  | .ldqa q y a => s.loadQuad e q.toNat y (absQuad a.toNat)
  | .stwa d y a => s.storeWords e y [(a.toNat, ((s.engine e).dreg d.toNat).val)]
  | .stqa q y a => s.storeWords e y (quadStores (s.engine e) q.toNat (absQuad a.toNat))
  | .add a => effAlu e (fun x y => ⟨x + y, none⟩) a s
  | .sub a => effAlu e (fun x y => ⟨x - y, none⟩) a s
  | .adds a => effAlu e (fun x y => aluSat (sval x + sval y)) a s
  | .subs a => effAlu e (fun x y => aluSat (sval x - sval y)) a s
  | .and a => effAlu e (fun x y => ⟨x &&& y, none⟩) a s
  | .or a => effAlu e (fun x y => ⟨x ||| y, none⟩) a s
  | .xor a => effAlu e (fun x y => ⟨x ^^^ y, none⟩) a s
  | .ash a => effAlu e ashResult a s
  | .lsh a => effAlu e lshResult a s
  | .min a => effAlu e (fun x y => ⟨if sval x ≤ sval y then x else y, none⟩) a s
  | .max a => effAlu e (fun x y => ⟨if sval x ≤ sval y then y else x, none⟩) a s
  | .abs a => effAlu e (fun _ y => aluSat (if sval y < 0 then -(sval y) else sval y)) a s
  | .neg a => effAlu e (fun _ y => aluSat (-(sval y))) a s
  | .cmp a => effCmp e a s
  | .mov a => effMov e a s
  | .expd a => effExpd e a s
  | .setr r v => s.aguWrite e r.toNat v
  | .movr r d => s.aguWrite e r.toNat ((s.engine e).dreg d.toNat).val
  | .getr r d => s.fly e 1 (.dreg d.toNat ((s.engine e).aguRead r.toNat) 0)
  | .modp a => effModp e a s
  | .srd d src => effSrd e d.toNat src s
  | .swr d src => effSwr e d.toNat src s
  | .crdd c i q => effCoilRead e c.toNat i (.dquad q.toNat) s
  | .crdm c i y a => effCoilRead e c.toNat i (.mem y a.toNat) s
  | .cwrd c i q => effCwrd e c.toNat i q.toNat s
  | .cwrm c i y a => effCwrm e c.toNat i y a.toNat s
  | .tclip d sel => effTclip e d.toNat sel s
  | .tor d a m => effTag e d.toNat a.toNat (fun t u => t ||| (u &&& m)) s
  | .tset d v m => effTag e d.toNat d.toNat (fun t _ => (t &&& ~~~m) ||| (v &&& m)) s
  | .tcpy d a => effTag e d.toNat a.toNat (fun _ u => u) s
  | .ttst d m => effTtst e d.toNat m s
  | .fclr sel => s.fly e 1 (.stickyClear (sel.getLsbD 0) (sel.getLsbD 1))
  | .nop => s
  | .wait => s
  | .bra _ => s
  | .bcc _ _ => s
  | .loop _ _ => s
  | .loopr _ _ => s
  | .brk => s

/-! ### Issue -/

/-- An engine may issue: in RUN, its program not ended, before the deadline of its tick (R98-R100). -/
def State.mayIssue (s : State) (e : Nat) : Bool :=
  !s.inWindow && s.engRuns e && (s.engine e).issuing && decide ((s.engine e).cyc < windowStart s.mult)

/-- The drains of the cycles that an empty loop leaves without issue (R67, R97). -/
def State.skippedDrains (s : State) (e t : Nat) : State :=
  let x := s.engine e
  if x.cyc = t + 3 then
    let s := ((s.setEngine e { x with cyc := t + 1 }).drainCycle e)
    let s := (s.setEngine e { s.engine e with cyc := t + 2 }).drainCycle e
    s.setEngine e { s.engine e with cyc := t + 3 }
  else s

/-- An instruction issues: its effect, the flow of control, and the writes that complete by the end of
the cycle. A program error met on the way leaves the engine in its reload (R72). -/
def State.issueOp (s : State) (e : Nat) (o : EngOp) : State :=
  let t := (s.engine e).cyc
  let s := effect e o s
  if s.engRuns e then
    let s := s.setEngine e ((s.engine e).next o)
    (s.settle e ((s.engine e).cyc - 1)).skippedDrains e t
  else s.setEngine e (resetEngine (s.engine e) (s.enginePlan e))

/-- The illegal instruction of R77: it executes as NOP and is recorded if ILL was clear. -/
def State.issueIllegal (s : State) (e cause : Nat) : State :=
  let x := s.engine e
  let s := if s.on (Reg.ENG_EXC.ILL e) then s
    else (s.wr (Reg.ENG_EXC.CAUSE e) cause).wr (Reg.ENG_EXC.ILL_PC e) x.pc
  ((s.put (Reg.ENG_EXC.ILL e) true).raise Src.ENG_ILL).issueOp e .nop

/-- What an engine meets at its program counter: the decoded word and the state after the fetch; none
when the word is uncorrectable. Accesses and drains due by this cycle come first. -/
def State.meet (s : State) (e : Nat) : Option EngDecoded × State :=
  let s := (s.coilCatchUp e).drainCycle e
  let (w, s) := s.fetch e (s.engine e).pc
  (w.map (s.engine e).decode, s)

/-- The issue of one named instruction: it happens when the engine may issue and its live program holds
that instruction at the program counter. -/
def State.engineIssue (s : State) (e : Nat) (o : EngOp) : State :=
  if s.mayIssue e then
    match s.meet e with
    | (none, s') => s'
    | (some d, s') => if d = .op o then s'.issueOp e o else s
  else s

/-- The issue of an illegal instruction. -/
def State.engineIllegal (s : State) (e : Nat) : State :=
  if s.mayIssue e then
    match s.meet e with
    | (none, s') => s'
    | (some (.illegal c), s') => s'.issueIllegal e c
    | (some (.op _), _) => s
  else s

/-- The issue of whatever stands at the program counter. -/
def State.engineStep (s : State) (e : Nat) : State :=
  if s.mayIssue e then
    match s.meet e with
    | (none, s') => s'
    | (some (.illegal c), s') => s'.issueIllegal e c
    | (some (.op o), s') => s'.issueOp e o
  else s

/-- A loop level whose last pass ends at the present address (R96). -/
def Engine.closing (x : Engine) : Bool :=
  x.loops.any fun l => decide (l.last = x.pc) && decide (l.remaining ≤ 1)

/-- An overrun (R100): issue stops, the event is counted, and the next address is recorded. -/
def State.overrun (s : State) (e : Nat) : State :=
  let x := s.engine e
  let s := s.setEngine e { x with issuing := false, ovr := true, loops := [], slots := none }
  let s := (s.wr (Reg.ENG_OVR_PC.PC e) x.pc).wr (Reg.ENG_OVR_PC.BANK e) s.liveBank
  (((s.bump (Reg.ENG_OVRCNT.COUNT e) 1).put (Reg.ENG_STATUS.OVERRUN e) true)).raise Src.ENG_OVR

end Sys2Proof.Machine
end

