-- ==== Sys2Proof/Machine/Engine.lean ====
section
/-! DEFINITION. The engine rows: the meaning of each instruction is its issue by engine e (04 R85-R97),
and the engine events of 03 and 04. -/

namespace Sys2Proof.Machine

/-- MAC (04 R85): Multiply-accumulate on the operand buses in the selected sharing and accumulate modes -/
def execMac (e : Fin 192) (a : MacArgs) (s : State) : Out :=
  clocked (fun s => s.engineIssue e.val (.mac a)) s

/-- MVA (04 R86): Move one accumulator to a D register with scale, rounding and saturation -/
def execMva (e : Fin 192) (a : MvaArgs) (s : State) : Out :=
  clocked (fun s => s.engineIssue e.val (.mva a)) s

/-- MVAQ (04 R86): Move all four accumulators to a D quad -/
def execMvaq (e : Fin 192) (a : MvaqArgs) (s : State) : Out :=
  clocked (fun s => s.engineIssue e.val (.mvaq a)) s

/-- ACLR (04 R87): Clear an accumulator -/
def execAclr (e : Fin 192) (k : BitVec 2) (s : State) : Out :=
  clocked (fun s => s.engineIssue e.val (.aclr k)) s

/-- ACPY (04 R87): Copy one accumulator to another -/
def execAcpy (e : Fin 192) (k j : BitVec 2) (s : State) : Out :=
  clocked (fun s => s.engineIssue e.val (.acpy k j)) s

/-- AADD (04 R87): Add two accumulators with saturation -/
def execAadd (e : Fin 192) (k j : BitVec 2) (s : State) : Out :=
  clocked (fun s => s.engineIssue e.val (.aadd k j)) s

/-- ASUB (04 R87): Subtract two accumulators with saturation -/
def execAsub (e : Fin 192) (k j : BitVec 2) (s : State) : Out :=
  clocked (fun s => s.engineIssue e.val (.asub k j)) s

/-- ANEG (04 R87): Negate an accumulator with saturation -/
def execAneg (e : Fin 192) (k : BitVec 2) (s : State) : Out :=
  clocked (fun s => s.engineIssue e.val (.aneg k)) s

/-- AABS (04 R87): Take the absolute value of an accumulator with saturation -/
def execAabs (e : Fin 192) (k : BitVec 2) (s : State) : Out :=
  clocked (fun s => s.engineIssue e.val (.aabs k)) s

/-- NORM (04 R57): Shift an accumulator by a D-register count -/
def execNorm (e : Fin 192) (k : BitVec 2) (d : BitVec 4) (s : State) : Out :=
  clocked (fun s => s.engineIssue e.val (.norm k d)) s

/-- ASHI (04 R87): Shift an accumulator by an immediate count -/
def execAshi (e : Fin 192) (k : BitVec 2) (imm : BitVec 8) (s : State) : Out :=
  clocked (fun s => s.engineIssue e.val (.ashi k imm)) s

/-- DTOA (04 R52): Load an accumulator from a scaled D register -/
def execDtoa (e : Fin 192) (k : BitVec 2) (d : BitVec 4) (scs : BitVec 2) (s : State) : Out :=
  clocked (fun s => s.engineIssue e.val (.dtoa k d scs)) s

/-- DADD (04 R87): Add a scaled D register to an accumulator -/
def execDadd (e : Fin 192) (k : BitVec 2) (d : BitVec 4) (scs : BitVec 2) (s : State) : Out :=
  clocked (fun s => s.engineIssue e.val (.dadd k d scs)) s

/-- EXPA (04 R56): Extract the exponent of an accumulator into a D register -/
def execExpa (e : Fin 192) (k : BitVec 2) (d : BitVec 4) (s : State) : Out :=
  clocked (fun s => s.engineIssue e.val (.expa k d)) s

/-- ATST (04 R87): Set Z and N from an accumulator -/
def execAtst (e : Fin 192) (k : BitVec 2) (s : State) : Out :=
  clocked (fun s => s.engineIssue e.val (.atst k)) s

/-- LDW (04 R88): Load one word from X or Y memory through a pointer -/
def execLdw (e : Fin 192) (d : BitVec 4) (a : AddrSpec) (s : State) : Out :=
  clocked (fun s => s.engineIssue e.val (.ldw d a)) s

/-- LDQ (04 R88): Load one quad from X or Y memory through a pointer -/
def execLdq (e : Fin 192) (q : BitVec 2) (a : AddrSpec) (s : State) : Out :=
  clocked (fun s => s.engineIssue e.val (.ldq q a)) s

/-- STW (04 R88): Store one word to X or Y memory through a pointer -/
def execStw (e : Fin 192) (d : BitVec 4) (a : AddrSpec) (s : State) : Out :=
  clocked (fun s => s.engineIssue e.val (.stw d a)) s

/-- STQ (04 R88): Store one quad to X or Y memory through a pointer -/
def execStq (e : Fin 192) (q : BitVec 2) (a : AddrSpec) (s : State) : Out :=
  clocked (fun s => s.engineIssue e.val (.stq q a)) s

/-- LDWA (04 R88): Load one word from an absolute address -/
def execLdwa (e : Fin 192) (d : BitVec 4) (ms : Bool) (addr : BitVec 16) (s : State) : Out :=
  clocked (fun s => s.engineIssue e.val (.ldwa d ms addr)) s

/-- LDQA (04 R88): Load one quad from an absolute address -/
def execLdqa (e : Fin 192) (q : BitVec 2) (ms : Bool) (addr : BitVec 16) (s : State) : Out :=
  clocked (fun s => s.engineIssue e.val (.ldqa q ms addr)) s

/-- STWA (04 R88): Store one word to an absolute address -/
def execStwa (e : Fin 192) (d : BitVec 4) (ms : Bool) (addr : BitVec 16) (s : State) : Out :=
  clocked (fun s => s.engineIssue e.val (.stwa d ms addr)) s

/-- STQA (04 R88): Store one quad to an absolute address -/
def execStqa (e : Fin 192) (q : BitVec 2) (ms : Bool) (addr : BitVec 16) (s : State) : Out :=
  clocked (fun s => s.engineIssue e.val (.stqa q ms addr)) s

/-- ADD (04 R89): Integer add modulo 2^32 -/
def execAdd (e : Fin 192) (a : AluArgs) (s : State) : Out :=
  clocked (fun s => s.engineIssue e.val (.add a)) s

/-- SUB (04 R89): Integer subtract modulo 2^32 -/
def execSub (e : Fin 192) (a : AluArgs) (s : State) : Out :=
  clocked (fun s => s.engineIssue e.val (.sub a)) s

/-- ADDS (04 R89): Add with saturation to s.31 -/
def execAdds (e : Fin 192) (a : AluArgs) (s : State) : Out :=
  clocked (fun s => s.engineIssue e.val (.adds a)) s

/-- SUBS (04 R89): Subtract with saturation to s.31 -/
def execSubs (e : Fin 192) (a : AluArgs) (s : State) : Out :=
  clocked (fun s => s.engineIssue e.val (.subs a)) s

/-- AND (04 R89): Bitwise AND -/
def execAnd (e : Fin 192) (a : AluArgs) (s : State) : Out :=
  clocked (fun s => s.engineIssue e.val (.and a)) s

/-- OR (04 R89): Bitwise OR -/
def execOr (e : Fin 192) (a : AluArgs) (s : State) : Out :=
  clocked (fun s => s.engineIssue e.val (.or a)) s

/-- XOR (04 R89): Bitwise XOR -/
def execXor (e : Fin 192) (a : AluArgs) (s : State) : Out :=
  clocked (fun s => s.engineIssue e.val (.xor a)) s

/-- ASH (04 R89): Arithmetic shift with saturation -/
def execAsh (e : Fin 192) (a : AluArgs) (s : State) : Out :=
  clocked (fun s => s.engineIssue e.val (.ash a)) s

/-- LSH (04 R89): Logical shift -/
def execLsh (e : Fin 192) (a : AluArgs) (s : State) : Out :=
  clocked (fun s => s.engineIssue e.val (.lsh a)) s

/-- MIN (04 R89): Signed minimum -/
def execMin (e : Fin 192) (a : AluArgs) (s : State) : Out :=
  clocked (fun s => s.engineIssue e.val (.min a)) s

/-- MAX (04 R89): Signed maximum -/
def execMax (e : Fin 192) (a : AluArgs) (s : State) : Out :=
  clocked (fun s => s.engineIssue e.val (.max a)) s

/-- ABS (04 R89): Absolute value with saturation -/
def execAbs (e : Fin 192) (a : AluArgs) (s : State) : Out :=
  clocked (fun s => s.engineIssue e.val (.abs a)) s

/-- NEG (04 R89): Negation with saturation -/
def execNeg (e : Fin 192) (a : AluArgs) (s : State) : Out :=
  clocked (fun s => s.engineIssue e.val (.neg a)) s

/-- CMP (04 R89): Set flags from a − b without writing a register -/
def execCmp (e : Fin 192) (a : AluArgs) (s : State) : Out :=
  clocked (fun s => s.engineIssue e.val (.cmp a)) s

/-- MOV (04 R89): Move a register with its tag, or load an immediate (LDI) -/
def execMov (e : Fin 192) (a : AluArgs) (s : State) : Out :=
  clocked (fun s => s.engineIssue e.val (.mov a)) s

/-- EXPD (04 R56): Extract the exponent of a D register -/
def execExpd (e : Fin 192) (a : AluArgs) (s : State) : Out :=
  clocked (fun s => s.engineIssue e.val (.expd a)) s

/-- SETR (04 R90): Write an AGU register from an immediate -/
def execSetr (e : Fin 192) (reg : BitVec 6) (imm : BitVec 32) (s : State) : Out :=
  clocked (fun s => s.engineIssue e.val (.setr reg imm)) s

/-- MOVR (04 R90): Write an AGU register from a D register -/
def execMovr (e : Fin 192) (reg : BitVec 6) (d : BitVec 4) (s : State) : Out :=
  clocked (fun s => s.engineIssue e.val (.movr reg d)) s

/-- GETR (04 R90): Read an AGU register into a D register -/
def execGetr (e : Fin 192) (reg : BitVec 6) (d : BitVec 4) (s : State) : Out :=
  clocked (fun s => s.engineIssue e.val (.getr reg d)) s

/-- MODP (04 R90): Update a pointer by an address specifier with no memory access -/
def execModp (e : Fin 192) (a : AddrSpec) (s : State) : Out :=
  clocked (fun s => s.engineIssue e.val (.modp a)) s

/-- SRD (04 R66): Read a strand's sample and tag from the current bank into a D register -/
def execSrd (e : Fin 192) (d : BitVec 4) (slot : SlotSrc) (s : State) : Out :=
  clocked (fun s => s.engineIssue e.val (.srd d slot)) s

/-- SWR (04 R67): Place a strand write to the next bank in the engine's write queue -/
def execSwr (e : Fin 192) (d : BitVec 4) (slot : SlotSrc) (s : State) : Out :=
  clocked (fun s => s.engineIssue e.val (.swr d slot)) s

/-- CRDD (04 R92): Issue a coil read into a D quad -/
def execCrdd (e : Fin 192) (csd : BitVec 6) (idx : CoilIdx) (q : BitVec 2) (s : State) : Out :=
  clocked (fun s => s.engineIssue e.val (.crdd csd idx q)) s

/-- CRDM (04 R92): Issue a coil read into an X or Y quad -/
def execCrdm (e : Fin 192) (csd : BitVec 6) (idx : CoilIdx) (ms : Bool) (addr : BitVec 16) (s : State) : Out :=
  clocked (fun s => s.engineIssue e.val (.crdm csd idx ms addr)) s

/-- CWRD (04 R92): Issue a coil write from a D quad -/
def execCwrd (e : Fin 192) (csd : BitVec 6) (idx : CoilIdx) (q : BitVec 2) (s : State) : Out :=
  clocked (fun s => s.engineIssue e.val (.cwrd csd idx q)) s

/-- CWRM (04 R92): Issue a coil write from an X or Y quad -/
def execCwrm (e : Fin 192) (csd : BitVec 6) (idx : CoilIdx) (ms : Bool) (addr : BitVec 16) (s : State) : Out :=
  clocked (fun s => s.engineIssue e.val (.cwrm csd idx ms addr)) s

/-- TCLIP (04 R93): Copy the selected sticky flags into CLIPPED and clear them -/
def execTclip (e : Fin 192) (d : BitVec 4) (sel : BitVec 2) (s : State) : Out :=
  clocked (fun s => s.engineIssue e.val (.tclip d sel)) s

/-- TOR (04 R93): OR masked tag bits of one register into another register's tag -/
def execTor (e : Fin 192) (d a mask : BitVec 4) (s : State) : Out :=
  clocked (fun s => s.engineIssue e.val (.tor d a mask)) s

/-- TSET (04 R93): Set masked tag bits -/
def execTset (e : Fin 192) (d val mask : BitVec 4) (s : State) : Out :=
  clocked (fun s => s.engineIssue e.val (.tset d val mask)) s

/-- TCPY (04 R93): Copy a tag -/
def execTcpy (e : Fin 192) (d a : BitVec 4) (s : State) : Out :=
  clocked (fun s => s.engineIssue e.val (.tcpy d a)) s

/-- TTST (04 R93): Test masked tag bits into Z -/
def execTtst (e : Fin 192) (d mask : BitVec 4) (s : State) : Out :=
  clocked (fun s => s.engineIssue e.val (.ttst d mask)) s

/-- FCLR (04 R93): Clear the selected sticky flags -/
def execFclr (e : Fin 192) (sel : BitVec 2) (s : State) : Out :=
  clocked (fun s => s.engineIssue e.val (.fclr sel)) s

/-- NOP (04 R94): Do nothing for one cycle -/
def execNop (e : Fin 192) (s : State) : Out :=
  clocked (fun s => s.engineIssue e.val .nop) s

/-- WAIT (04 R99): End the tick's program and close every loop level -/
def execWait (e : Fin 192) (s : State) : Out :=
  clocked (fun s => s.engineIssue e.val .wait) s

/-- BRA (04 R95): Branch unconditionally after two delay slots -/
def execBra (e : Fin 192) (tgt : BitVec 12) (s : State) : Out :=
  clocked (fun s => s.engineIssue e.val (.bra tgt)) s

/-- BCC (04 R95): Branch on a condition after two delay slots -/
def execBcc (e : Fin 192) (cond : BitVec 4) (tgt : BitVec 12) (s : State) : Out :=
  clocked (fun s => s.engineIssue e.val (.bcc cond tgt)) s

/-- LOOP (04 R96): Open a loop level with an immediate count -/
def execLoop (e : Fin 192) (last : BitVec 12) (count : BitVec 16) (s : State) : Out :=
  clocked (fun s => s.engineIssue e.val (.loop last count)) s

/-- LOOPR (04 R96): Open a loop level with a count taken from a register -/
def execLoopr (e : Fin 192) (last : BitVec 12) (d : BitVec 4) (s : State) : Out :=
  clocked (fun s => s.engineIssue e.val (.loopr last d)) s

/-- BRK (04 R97): Close the innermost active loop level -/
def execBrk (e : Fin 192) (s : State) : Out :=
  clocked (fun s => s.engineIssue e.val .brk) s

/-- ILLEGAL_INSTRUCTION (04 R77): the instruction at the program counter is illegal; it executes as NOP. -/
def execIllegalInstruction (e : Fin 192) (s : State) : Out :=
  clocked (fun s => s.engineIllegal e.val) s

/-- LOOP_CLOSE (04 R96): the instruction at the END of a level in its last pass issues, and the level closes. -/
def execLoopClose (e : Fin 192) (s : State) : Out :=
  clocked (fun s => if (s.engine e.val).closing then s.engineStep e.val else s) s

/-- STRAND_QUEUE_DRAIN (03 R67): the drain of the engine's drain cycle, or of the exchange window. -/
def execStrandQueueDrain (e : Fin 192) (s : State) : Out :=
  clocked (fun s => if s.inWindow then s.drain e.val else s.drainCycle e.val) s

/-- The oldest access of an engine that still has to reach its bank, once its cycle t + 24 has come (03 R70). -/
def State.nextBank (s : State) (e : Nat) : Option CoilAccess :=
  (s.coilOf e fun c => decide (c.data = none) &&
    (decide (c.issued + 24 ≤ (s.engine e).cyc) || !(s.engine e).issuing)).head?

/-- The oldest read of an engine that is ready for delivery at the end of t + 47 (03 R70). -/
def State.nextDelivery (s : State) (e : Nat) : Option CoilAccess :=
  (s.coilOf e fun c => c.data.isSome &&
    (decide (c.issued + 48 ≤ (s.engine e).cyc) || !(s.engine e).issuing)).head?

/-- COIL_BANK_ACCESS (03 R70): the engine's oldest access reaches its bank, after every access of an earlier bank
cycle. -/
def execCoilBankAccess (e : Fin 192) (s : State) : Out :=
  clocked (fun s => match s.nextBank e.val with | some c => s.banks fun d => !coilBefore c d | none => s) s

/-- COIL_READ_DELIVERY (03 R70): the engine's oldest read is delivered, after the writes that complete before it. -/
def execCoilReadDelivery (e : Fin 192) (s : State) : Out :=
  clocked (fun s => match s.nextDelivery e.val with | some c => s.settle e.val (c.issued + 47) | none => s) s

/-- ENGINE_OVERRUN (04 R100): the deadline comes with the program still issuing. -/
def execEngineOverrun (e : Fin 192) (s : State) : Out :=
  clocked (fun s =>
    if s.engRuns e.val && (s.engine e.val).issuing && decide (windowStart s.mult ≤ (s.engine e.val).cyc)
    then s.overrun e.val else s) s

end Sys2Proof.Machine
end

