-- ==== Sys2Proof/Machine/Lp.lean ====
section
/-! DEFINITION. Parameter pages, lay-plan loads and switches, engine reloads (03 R61-R63, 05 R104-R122). -/

namespace Sys2Proof.Machine

/-! ### Memories of an engine as the load unit and the fabric write them (R62, R63, R116) -/

/-- A word of X or Y memory written from outside the engine. X words 0-511 are the shadow page's. -/
def State.outerWord (s : State) (e : Nat) (y : Bool) (a : Nat) (v : Word) : State :=
  let s := s.store (xyAddr e y a) 4 v.toNat
  if !y && decide (a < 512) then s else s.eccClear (.xy e y a)

/-- A region zeroed. -/
def State.zeroRegion (s : State) (e : Nat) (r : Region) : State :=
  match r.mem with
  | .x => (s.zeroBytes (xyAddr e false r.lo) (xyAddr e false (r.hi + 1))).eccClearRange
      (EccKey.xy e false r.lo).num (EccKey.xy e false (r.hi + 1)).num
  | .y => (s.zeroBytes (xyAddr e true r.lo) (xyAddr e true (r.hi + 1))).eccClearRange
      (EccKey.xy e true r.lo).num (EccKey.xy e true (r.hi + 1)).num
  | .coil => (s.zeroBytes (coilBase + 16 * r.lo) (coilBase + 16 * (r.hi + 1))).eccClearRange
      (EccKey.coil r.lo).num (EccKey.coil (r.hi + 1)).num
  | .prog => s

/-- The state regions and coils of a knot zeroed. A composite has no engine of its own: its children hold its state. -/
def State.zeroKnot (s : State) (k : Knot) : State :=
  if k.engine < 192 then k.state.foldl (fun s r => s.zeroRegion k.engine r) s else s

/-- Words written into a constant region from its first address; coils take four words to a quad. -/
def State.putWords (s : State) (e : Nat) (r : Region) : Nat → List Word → State
  | _, [] => s
  | i, w :: l =>
    let s := match r.mem with
      | .x => s.outerWord e false (r.lo + i) w
      | .y => s.outerWord e true (r.lo + i) w
      | .coil => (s.store (coilBase + 16 * r.lo + 4 * i) 4 w.toNat).eccClear (.coil (r.lo + i / 4))
      | .prog => s
    State.putWords s e r (i + 1) l

/-- The constants of a region, of the set of the root's family (R112). -/
def State.putConst (s : State) (e : Nat) (c : ConstData) : State :=
  let l := if s.rd Reg.CLK_STATUS.FAMILY = 1 ∧ c.words44 ≠ [] then c.words44 else c.words48
  s.putWords e c.region 0 l

/-- A program bank written from a plan: addresses not listed hold the all-zero word. -/
def State.putProgram (s : State) (e bank : Nat) (p : EnginePlan) : State :=
  let s := (s.zeroBytes (progAddr e bank 0) (progAddr e bank 4096)).eccClearRange
    (EccKey.prog e bank 0).num (EccKey.prog e bank 4096).num
  let s := p.program.foldl (fun s q => s.store (progAddr e bank q.1) 8 q.2.toNat) s
  s.wr (if bank = 0 then Reg.ENG_ENTRY.ENTRY0 e else Reg.ENG_ENTRY.ENTRY1 e) p.entry.toNat

/-- An engine with its initial registers and dither seeds (03 R45, R54). -/
def loadRegs (x : Engine) (p : EnginePlan) : Engine :=
  { resetEngine x p with
    d := p.initD.foldl (fun m q => sset {} q.1 ⟨q.2, 0⟩ m) []
    acc := p.initA.foldl (fun m q => sset 0 q.1 q.2 m) []
    agu := p.initAgu.foldl (fun m q => sset 0 q.1 (aguStored q.1 q.2) m) (resetEngine x p).agu }

/-! ### Parameter pages (03 R61, 05 R104, R108) -/

/-- The knots whose BYPASS parameter changes in a copy of an engine's page start a crossfade of 64 ticks. -/
def State.bypassChange (s : State) (e : Nat) : State :=
  s.livePlan.knots.foldl (fun s k =>
    match k.bypass with
    | some (b, w) =>
      let old := decide (s.xyWord e false w ≠ 0)
      let new := decide (s.shadowWord e w ≠ 0)
      if b = e ∧ old ≠ new then s.onLp fun l => { l with xfade := sinsert k.kid ⟨65, new⟩ l.xfade } else s
    | none => s) s

/-- The shadow page copied into the live page. -/
def State.copyPage (s : State) (e : Nat) : State :=
  let s := s.bypassChange e
  let s := (List.range 512).foldl (fun s w =>
    { s with livePage := sset 0 (e * 512 + w) (s.shadowWord e w) s.livePage }) s
  let s := s.eccClearRange (EccKey.xy e false 0).num (EccKey.xy e false 512).num
  (s.setEngine e { s.engine e with pcommit := false, copying := false }).put (Reg.ENG_CTRL.PCOMMIT e) false

/-- A copy is armed for an engine. -/
def State.copyArmed (s : State) (e : Nat) : Bool := (s.engine e).pcommit || (s.engine e).copying

/-- The copies of an exchange window: those armed, and every engine's in the last tick before a switch (R118). -/
def State.copyPages (s : State) : State :=
  let all := decide (s.lp.armed = some (.tick (s.tick + 1)))
  let s := (List.range 192).foldl (fun s e => if all || s.copyArmed e then s.copyPage e else s) s
  s.put Reg.ENG_PCM_GO.GO false

/-- PDIRTY: the pages of an engine differ. -/
def State.pageDirty (s : State) (e : Nat) : Bool :=
  (List.range 512).any fun w => decide (s.xyWord e false w ≠ s.shadowWord e w)

/-- A write of ENG_PCM_GO. -/
def State.writePcmGo (s : State) (v : Word) : State :=
  if v.getLsbD 0 && !s.on Reg.ENG_PCM_GO.GO then
    let s := s.put Reg.ENG_PCM_GO.GO true
    (List.range 192).foldl (fun s e =>
      if s.rd (Reg.ENG_PCM.MASK (e / 32)) / 2 ^ (e % 32) % 2 = 1 then
        s.setEngine e { s.engine e with copying := true } else s) s
  else s

/-- A write of ENG_eee_CTRL. RELOAD of an EMPTY engine has no effect; in RELOAD the bit reads 1 until the reload
completes (03 R75, R121). -/
def State.writeEngCtrl (s : State) (e : Nat) (v : Word) : State :=
  let s := if v.getLsbD 0 then
      (s.setEngine e { s.engine e with pcommit := true }).put (Reg.ENG_CTRL.PCOMMIT e) true else s
  if v.getLsbD 1 then
    match s.rd (Reg.ENG_STATUS.STATE e) with
    | 0 => (s.startReload e).put (Reg.ENG_CTRL.RELOAD e) true
    | 1 => s.put (Reg.ENG_CTRL.RELOAD e) true
    | _ => s
  else s

/-- Bytes written into an engine's window from the fabric (R61-R63). A write of part of a damaged X or Y word, or of
half of a damaged instruction, leaves the whole word free of error: DESIGN CHOICE (log 41). -/
def State.engineWrite (s : State) (e off n v : Nat) : State :=
  let put := s.store (engineBase e + off) n v
  if off < 0x800 then put
  else if off < 0x30000 ∨ (0x40000 ≤ off ∧ off < 0x70000) then
    if s.paired then s.busError (engineBase e + off)
    else
      let y := decide (0x40000 ≤ off)
      let a := off % 0x40000 / 4
      put.eccClearRange (EccKey.xy e y a).num (EccKey.xy e y ((off % 0x40000 + n + 3) / 4)).num
  else if 0x80000 ≤ off ∧ off < 0x90000 then
    let bank := (off - 0x80000) / 0x8000
    if bank = s.liveBank ∧ s.engRuns e = true then s.busError (engineBase e + off)
    else put.eccClearRange (EccKey.prog e bank (off % 0x8000 / 8)).num (EccKey.prog e bank ((off % 0x8000 + n + 7) / 8)).num
  else s

/-- A 32-bit write of an engine's window where it acts: the shadow page is a control change (14 R309). -/
def State.windowWord (s : State) (e off : Nat) (v : Word) : State :=
  if off < 0x800 then s.controlMem (engineBase e + off) 4 v.toNat fun s => s.engineWrite e off 4 v.toNat
  else s.engineWrite e off 4 v.toNat

/-! ### Loading (R115, R116) -/

/-- The bank that is not live. -/
def State.otherBank (s : State) : Nat := 1 - s.liveBank

/-- Replacing the plan of a bank. -/
def State.setPlan (s : State) (bank : Nat) (p : LayPlan) : State :=
  s.onLp fun l => if bank = 0 then { l with plan0 := p } else { l with plan1 := p }

/-- The same knot stands in a plan: KID and FPRINT are equal. -/
def LayPlan.same (p : LayPlan) (k : Knot) : Bool := p.knots.any fun j => decide (j.kid = k.kid) && decide (j.fprint = k.fprint)

/-- The knots of a plan that are changed or new against another. -/
def changedKnots (old new : LayPlan) : List Knot := new.knots.filter fun k => !old.same k

/-- A ramp of R118 runs in the present tick or has begun. -/
def State.rampRuns (s : State) (t : Nat) : Bool :=
  s.lp.ramps.any fun p => p.2.any fun r => decide (r.first ≤ t ∧ t < r.first + r.len)

/-- LOAD: the load units start on the other bank. -/
def State.startLoad (s : State) : State :=
  let s := (s.onLp fun l => { l with loading := true, refresh := false, incoming := l.staged }).put Reg.ENG_LP_CTRL.LOAD true
  let s := s.setPlan s.otherBank {}
  ((s.wr Reg.ENG_LP_STATUS.OTHER 1).wr Reg.ENG_LP_STATUS.LOADPCT 0).wr (Reg.ENG_LP_ID.ID s.otherBank) 0

/-- What a load has written when it ends well. -/
def State.loadBank (s : State) (new : LayPlan) : State :=
  let bank := s.otherBank
  let old := s.livePlan
  let changed := changedKnots old new
  let s := (List.range 192).foldl (fun s e =>
    let p := sget {} e new.engines
    let s := (s.putProgram e bank p).put (Reg.ENG_STATUS.OTHER_BAD e) false
    let mine := changed.filter fun k => decide (k.engine = e)
    let s := (p.consts.filter fun c => mine.any fun k => k.consts.contains c.region).foldl (fun s c => s.putConst e c) s
    let used := old.knots.flatMap fun k => k.params.flatMap fun r =>
      (r.targets.filter fun t => decide (t.1 = e)).flatMap fun t => (List.range r.words).map fun i => t.2 + i
    (p.params.filter fun w => !used.contains w.1).foldl (fun s w => s.outerWord e false w.1 w.2) s) s
  changed.foldl State.zeroKnot s

/-- A load ends: READY, or BAD after a failed check or an uncorrectable word. -/
def State.loadDone (s : State) (ok : Bool) : State :=
  if s.lp.loading = false then s
  else
    let s := (s.onLp fun l => { l with loading := false }).put Reg.ENG_LP_CTRL.LOAD false
    match ok, s.lp.incoming with
    | true, some new =>
      let s := (s.loadBank new).setPlan s.otherBank new
      ((s.wr Reg.ENG_LP_STATUS.OTHER 2).wr Reg.ENG_LP_STATUS.LOADPCT 100).wr (Reg.ENG_LP_ID.ID s.otherBank) new.ident.toNat
    | _, _ => s.wr Reg.ENG_LP_STATUS.OTHER 3

/-! ### Arming (R117, R118) -/

/-- Why a switch is refused, by ENG_LP_STATUS.REASON; 0 not at all. A bank marked bad (03 R72) gives 2, a bank whose
load failed its check gives 1: DEDUCED (log 75). -/
def State.lpReason (s : State) (late : Bool) : Nat :=
  let new := s.planOf s.otherBank
  let live := s.livePlan
  let other := s.rd Reg.ENG_LP_STATUS.OTHER
  if other < 2 then 1
  else if ((List.range 192).any fun e => s.on (Reg.ENG_STATUS.OTHER_BAD e)) = true then 2
  else if other ≠ 2 then 1
  else if late then 3
  else if new.mult ≠ live.mult ∨ new.pair ≠ live.pair then 4
  else if (s.str.ingress.any fun p => p.2.valid && decide ((sget {} p.2.slot new.slots).cls ≠ .hitch)) = true then 5
  else 0

/-- A ramp added to a slot. -/
def State.addRamp (s : State) (slot : Nat) (r : SlotRamp) : State :=
  s.onLp fun l => { l with ramps := sset [] slot (r :: sget [] slot l.ramps) l.ramps }

/-- The slots whose producer in the live plan is a changed or removed knot: the primitive knot that writes them. -/
def State.outSlots (s : State) : List Nat :=
  (((changedKnots (s.planOf s.otherBank) s.livePlan).filter fun k => decide (k.engine < 192)).flatMap Knot.outputs).eraseDups

/-- The ramp-out before a switch whose tick is known: from S - L, or at once. -/
def State.rampOut (s : State) (at_ : Nat) : State :=
  if s.lp.len = 0 then s
  else
    let first := max (at_ - s.lp.len) s.lp.armTick
    s.outSlots.foldl (fun s n => s.addRamp n ⟨false, first, at_ - first⟩) s

/-- RAMPING shows whether a ramp runs. -/
def State.showRamps (s : State) : State := s.put Reg.ENG_LP_STATUS.RAMPING (s.rampRuns s.tick)

/-- The slots ramped out for the armed switch ramp in again from tick t; ramps not begun are dropped (R119). -/
def State.rampBack (s : State) (t : Nat) : State :=
  let turn := fun r : SlotRamp => !r.up && decide (t < r.first + r.len ∨ r.first + r.len = t)
  let back := fun (len : Nat) (l : List SlotRamp) => match l with
    | r :: rest => if turn r then (if r.first < t ∧ 0 < len then ⟨true, t, len⟩ :: r :: rest else rest) else r :: rest
    | [] => []
  s.onLp fun l =>
    let m := l.ramps.map fun p => (p.1, back l.len p.2)
    { l with ramps := m.filter fun p => decide (p.2 ≠ []) }

/-- No switch is armed any longer. -/
def State.lpUnarm (s : State) : State :=
  ((s.onLp fun l => { l with armed := none }).put Reg.ENG_LP_CTRL.ARM false).put Reg.ENG_LP_STATUS.ARMED false

/-- The switch is refused. -/
def State.lpRefuse (s : State) (reason : Nat) : State :=
  let s := (s.lpUnarm.put Reg.ENG_LP_STATUS.REFUSED true).wr Reg.ENG_LP_STATUS.REASON reason
  if reason = 3 then s.put Reg.ENG_LP_STATUS.LATE true else s

/-- A trigger in the past sets LATE beside the first reason that holds (R117). -/
def State.lpLate (s : State) : State := (s.lpRefuse (s.lpReason true)).put Reg.ENG_LP_STATUS.LATE true

/-- The trigger of the settings in ENG_LP_CTRL and ENG_LP_TRIG. -/
def State.lpTrigger (s : State) : Arming :=
  let t0 := s.rd Reg.ENG_LP_TRIG_0.TRIG
  let t1 := s.rd Reg.ENG_LP_TRIG_1.TRIG
  match s.rd Reg.ENG_LP_CTRL.TRIGSRC with
  | 0 => .wait (.tick (s.tick + 2))
  | 1 => s.armTick (t1 * 2 ^ 32 + t0)
  | _ => s.armPtp (s.rd Reg.ENG_LP_CTRL.DOMAIN) (s.rd Reg.ENG_LP_TRIG_2.TRIG % 65536 * 2 ^ 32 + t1) t0

/-- ARM: a switch is armed or refused. L of R118 is the live plan's LP_SPLICE as ARM finds it, for the ramps out, the
ramps in and the matrix splice alike: DESIGN CHOICE (log 70). -/
def State.lpArm (s : State) : State :=
  if s.lp.armed.isSome then s
  else
    match s.lpTrigger with
    | .bad => (s.lpRefuse 6).refused
    | .late => s.lpLate.refused
    | .wait t =>
      let why := s.lpReason false
      if why ≠ 0 then (s.lpRefuse why).refused
      else
        let s := s.onLp fun l => { l with armed := some t, armTick := s.tick, len := s.rd Reg.ENG_LP_SPLICE.LEN }
        let s := (s.put Reg.ENG_LP_CTRL.ARM true).put Reg.ENG_LP_STATUS.ARMED true
        match t with
        | .tick n => (s.rampOut n).showRamps
        | _ => s

/-- DISARM. The ramp-in begins in the tick in which it lands, as R118 has a late ramp-out begin at once. -/
def State.lpDisarm (s : State) : State :=
  if s.lp.armed.isSome then (s.lpUnarm.rampBack (if s.inWindow then s.tick + 1 else s.tick)).showRamps else s

/-- A write of ENG_LP_CTRL. LOAD while a load, an armed switch or a ramp stands is refused whole (R116). -/
def State.writeLpCtrl (s : State) (v : Word) : State :=
  if v.getLsbD 0 && (s.lp.loading || s.lp.armed.isSome || s.rampRuns s.tick) then s.refuseWrite 0x94000
  else s.guarded 0x94000 v fun s =>
    let s := if v.getLsbD 2 then s.lpDisarm else s
    let s := if v.getLsbD 0 then s.startLoad else s
    if v.getLsbD 1 then s.lpArm else s

/-! ### The switch (R118, R119) -/

/-- The live plan's settings as the registers show them. -/
def State.showPlan (s : State) (p : LayPlan) : State :=
  ((s.wr Reg.ENG_LP_SPLICE.LEN p.lpSplice).wr Reg.ENG_RES.BASE p.resBase).wr Reg.ENG_RES.COUNT p.resCount

/-- The slots that an engine produces in a plan. -/
def LayPlan.engineSlots (p : LayPlan) (e : Nat) : List Nat :=
  (p.slots.filter fun d => decide (d.2.cls = .engine) && decide (d.2.engine = e)).map (·.1)

/-- Ramps in from tick t over L ticks. -/
def State.rampIn (s : State) (slots : List Nat) (t len : Nat) : State :=
  if len = 0 then s else slots.eraseDups.foldl (fun s n => s.addRamp n ⟨true, t, len⟩) s

/-- The initial registers and seeds in which a plan differs from another (R118): what the new plan gives. -/
def changedRegs (x : Engine) (old new : EnginePlan) : Engine :=
  let agu := (List.range 0x24).foldl (fun m c =>
    if sget 0 c new.initAgu = sget 0 c old.initAgu then m else sset 0 c (aguStored c (sget 0 c new.initAgu)) m) x.agu
  let agu := if new.seed0 = old.seed0 then agu else sset 0 0x24 (aguStored 0x24 new.seed0) agu
  { x with
    d := (List.range 16).foldl (fun m r =>
      if sget 0 r new.initD = sget 0 r old.initD then m else sset {} r ⟨sget 0 r new.initD, 0⟩ m) x.d
    acc := (List.range 4).foldl (fun m k =>
      if sget 0 k new.initA = sget 0 k old.initA then m else sset 0 k (sget 0 k new.initA) m) x.acc
    agu := if new.seed1 = old.seed1 then agu else sset 0 0x25 (aguStored 0x25 new.seed1) agu }

/-- An engine at the switch: EMPTY without a program; a reload is abandoned. An engine that was not in RUN, or that
keeps no knot of the old plan, starts from its initial registers; one that keeps a knot beside a changed or new one
keeps its registers, but for the initial values that the new plan changes: DEDUCED (log 72). -/
def State.switchEngine (s : State) (old new : LayPlan) (e : Nat) : State :=
  let was := s.rd (Reg.ENG_STATUS.STATE e)
  let s := (s.wr (Reg.ENG_STATUS.BANK e) s.liveBank).put (Reg.ENG_CTRL.RELOAD e) false
  match sfind e new.engines with
  | none => (s.setEngine e (resetEngine (s.engine e) {})).wr (Reg.ENG_STATUS.STATE e) 2
  | some p =>
    let mine := new.knots.filter fun k => decide (k.engine = e)
    let s := if was ≠ 0 ∨ (mine.any old.same) = false ∧ mine ≠ [] then s.setEngine e (loadRegs (s.engine e) p)
      else if (mine.all old.same) = true then s
      else s.setEngine e (changedRegs (s.engine e) (sget {} e old.engines) p)
    let s := s.wr (Reg.ENG_STATUS.STATE e) 0
    if was = 1 then
      let s := p.consts.foldl (fun s c => s.putConst e c) s
      (new.knots.filter fun k => decide (k.engine = e)).foldl State.zeroKnot s
    else s

/-- The switch at boundary t. -/
def State.lpSwitch (s : State) (t : Nat) : State :=
  let why := s.lpReason false
  if why ≠ 0 then (s.lpRefuse why).rampBack t
  else
    let old := s.livePlan
    let new := s.planOf s.otherBank
    let len := s.lp.len
    let abandoned := (List.range 192).filter fun e => decide (s.rd (Reg.ENG_STATUS.STATE e) = 1)
    let s := (s.wr Reg.ENG_LP_STATUS.LIVE s.otherBank).lpUnarm
    let s := (List.range 192).foldl (fun s e => s.switchEngine old new e) s
    let s := (changedKnots old new).foldl State.zeroKnot s
    let keep := fun p : Nat × Xfade => new.knots.any fun k => decide (k.kid = p.1) && old.same k
    let s := s.onLp fun l => { l with refresh := true, reloaded := [], xfade := l.xfade.filter keep }
    let s := ((s.showPlan new).wr Reg.ENG_LP_LAST_LO.TICK t).wr Reg.ENG_LP_LAST_HI.TICK (t / 2 ^ 32)
    let s := s.wr Reg.ENG_LP_STATUS.OTHER 1
    let marked := (new.slots.filter fun d => d.2.ramp).map (·.1)
    let s := s.rampIn (marked ++ abandoned.flatMap new.engineSlots) t len
    s.bankSplice t len old new

/-- The refresh of the outgoing bank ends. -/
def State.refreshDone (s : State) : State :=
  if s.lp.refresh then
    let s := (changedKnots s.livePlan (s.planOf s.otherBank)).foldl State.zeroKnot s
    (s.onLp fun l => { l with refresh := false }).wr Reg.ENG_LP_STATUS.OTHER 2
  else s

/-! ### Reload (R121) -/

/-- The engine whose region record of the reserved copy holds the byte at an address, in a walk of the records' headers from
`a` on: the engine in byte 0, the data's length in bytes 8-11, the data padded to 16 bytes (05 R120, 17 R383). -/
def State.copyOwner (s : State) (byte : Nat) : Nat → Nat → Option Nat
  | 0, _ => none
  | n + 1, a =>
    let next := a + 16 + (s.load (a + 8) 4 + 15) / 16 * 16
    if byte < next then some (s.load a 1) else State.copyOwner s byte n next

/-- The double-bit errors in the region records of an engine in the reserved copy (16 R365). -/
def State.copyBad (s : State) (e : Nat) : List (Nat × EccMark) :=
  let base := s.rd Reg.ENG_RES.BASE
  let count := s.rd Reg.ENG_RES.COUNT
  let lo := (EccKey.coil (256 * base)).num
  s.ecc.filter fun p => p.2.double && decide (lo ≤ p.1 ∧ p.1 < lo + 256 * count) &&
    decide (s.copyOwner (coilBase + 4096 * base + 16 * (p.1 - lo)) (256 * count) (coilBase + 4096 * base) = some e)

/-- The records that a held reload has found bad are marked, and the source is raised (16 R365). -/
def State.copyFound (s : State) (e : Nat) : State :=
  ((s.copyBad e).filter fun p => !p.2.seen).foldl (fun s p =>
    { s.healthError true with ecc := sinsert p.1 { p.2 with seen := true } s.ecc }.raise Src.COIL_RESDBE) s

/-- A reload whose rewriting is complete ends at the boundary to tick t. -/
def State.reloadEnd (s : State) (t e : Nat) : State :=
  if s.rd (Reg.ENG_STATUS.STATE e) ≠ 1 then s
  else
    let p := s.enginePlan e
    let s := s.putProgram e s.liveBank p
    let s := p.consts.foldl (fun s c => s.putConst e c) s
    let s := (s.livePlan.knots.filter fun k => decide (k.engine = e)).foldl State.zeroKnot s
    let s := s.eccClearRange (EccKey.xy e false 0).num (EccKey.xy e false 512).num
    let s := (s.setEngine e (loadRegs (s.engine e) p)).wr (Reg.ENG_STATUS.STATE e) 0
    (s.put (Reg.ENG_CTRL.RELOAD e) false).rampIn (s.livePlan.engineSlots e) t (s.rd Reg.ENG_LP_SPLICE.LEN)

/-- Ramps that are over at tick t are dropped. -/
def State.pruneRamps (s : State) (t : Nat) : State :=
  s.onLp fun l =>
    let m := l.ramps.map fun p => (p.1, p.2.filter fun r => decide (t < r.first + r.len))
    { l with ramps := m.filter fun p => decide (p.2 ≠ []) }

/-- The lay plan at the boundary to tick t. A reload that needs a bad region of the reserved copy waits until firmware has
staged the region again, by writes that cover it (16 R365). -/
def State.lpBoundary (s : State) (t : Nat) : State :=
  let (ready, waits) := s.lp.reloaded.partition fun e => (s.copyBad e).isEmpty
  let s := ready.foldl (fun s e => s.reloadEnd t e) (waits.foldl State.copyFound s)
  let s := s.onLp fun l =>
    let m := l.xfade.map fun p => (p.1, { p.2 with left := p.2.left - 1 })
    { l with reloaded := waits, xfade := m.filter fun p => decide (p.2.left ≠ 0) }
  let s := if s.lp.armed = some (.tick t) then s.lpSwitch t else s
  let s := s.pruneRamps t
  s.put Reg.ENG_LP_STATUS.RAMPING (s.rampRuns t)

/-! ### The commands -/

/-- SHADOW_PAGE_WRITE (03 R61): in PAIRED mode a control change (14 R309). -/
def execShadowPageWrite (e : Fin 192) (w : Fin 512) (v : Word) (s : State) : Out :=
  core (fun s => s.controlMem (xyAddr e.val false w.val) 4 v.toNat fun s => s.outerWord e.val false w.val v) s

/-- ENGINE_WINDOW_WRITE (03 R62, R63): a 32-bit write at word `w` of an engine's window. -/
def execEngineWindowWrite (e : Fin 192) (w : Fin 262144) (v : Word) (s : State) : Out :=
  core (fun s => s.windowWord e.val (4 * w.val) v) s

/-- PCOMMIT (03 R61): a write of ENG_eee_CTRL. -/
def execPcommit (e : Fin 192) (v : Word) (s : State) : Out :=
  core (fun s => s.control (0x90000 + e.val * 0x40) v fun s => s.writeEngCtrl e.val v) s

/-- PARAM_COPY (03 R61): the armed copy of an engine whose program of the tick has ended. -/
def execParamCopy (e : Fin 192) (s : State) : Out :=
  clocked (fun s => if s.copyArmed e.val && !s.inWindow && !(s.engine e.val).issuing then s.copyPage e.val else s) s

/-- PCM_GO (05 R108): a write of ENG_PCM_GO. -/
def execPcmGo (v : Word) (s : State) : Out := core (fun s => s.control 0x94048 v fun s => s.writePcmGo v) s

/-- ENGINE_RELOAD (05 R121): a write of ENG_eee_CTRL. -/
def execEngineReload (e : Fin 192) (v : Word) (s : State) : Out :=
  core (fun s => s.control (0x90000 + e.val * 0x40) v fun s => s.writeEngCtrl e.val v) s

/-- RELOAD_DONE (05 R121): the load unit has rewritten the engine, which runs from the next boundary. -/
def execReloadDone (e : Fin 192) (s : State) : Out :=
  clocked (fun s =>
    if s.rd (Reg.ENG_STATUS.STATE e.val) = 1 ∧ e.val ∉ s.lp.reloaded then
      s.onLp fun l => { l with reloaded := l.reloaded ++ [e.val] } else s) s

/-- BYPASS_XFADE_END (05 R104): the crossfade of a knot is in its last tick. -/
def execBypassXfadeEnd (kid : Nat) (s : State) : Out :=
  atWindow (fun s => match sfind kid s.lp.xfade with
    | some x => if x.left ≤ 1 then s.onLp fun l => { l with xfade := serase kid l.xfade } else s
    | none => s) s

/-- LP_LOAD (05 R116): a write of ENG_LP_CTRL, with the plan whose reserved copy firmware has staged: the load that it
starts takes it, and a LOAD that is refused leaves the load in progress as it is. -/
def execLpLoad (v : Word) (plan : LayPlan) (s : State) : Out :=
  core (fun s => (s.onLp fun l => { l with staged := some plan }).control 0x94000 v fun s => s.writeLpCtrl v) s

/-- LP_LOAD_DONE (05 R116): the load ends, with the outcome of its checks. -/
def execLpLoadDone (ok : Bool) (s : State) : Out := clocked (fun s => s.loadDone ok) s

/-- LP_ARM (05 R117): a write of ENG_LP_CTRL. -/
def execLpArm (v : Word) (s : State) : Out := core (fun s => s.control 0x94000 v fun s => s.writeLpCtrl v) s

/-- LP_DISARM (05 R119): a write of ENG_LP_CTRL. -/
def execLpDisarm (v : Word) (s : State) : Out := core (fun s => s.control 0x94000 v fun s => s.writeLpCtrl v) s

/-- LP_RAMP_OUT_START (05 R118): a ramp of the armed switch begins at the coming boundary. -/
def execLpRampOutStart (s : State) : Out :=
  atWindow (fun s => if s.rampRuns (s.tick + 1) then s.put Reg.ENG_LP_STATUS.RAMPING true else s) s

/-- LP_SWITCH (05 R118, R119): the armed switch is due at the coming boundary. -/
def execLpSwitch (s : State) : Out :=
  atWindow (fun s => if s.lp.armed = some (.tick (s.tick + 1)) then s.lpSwitch (s.tick + 1) else s) s

/-- LP_RAMP_IN_END (05 R118): ramps that are over at the coming boundary end. -/
def execLpRampInEnd (s : State) : Out :=
  atWindow (fun s => (s.pruneRamps (s.tick + 1)).put Reg.ENG_LP_STATUS.RAMPING (s.rampRuns (s.tick + 1))) s

/-- LP_REFRESH_DONE (05 R118). -/
def execLpRefreshDone (s : State) : Out := clocked (fun s => s.refreshDone) s

end Sys2Proof.Machine
end

