-- ==== Sys2Proof/Machine/Progress.lean ====
section
/-! DEFINITION. CHIP_PROGRESS: the operations that run and what the registers show of them (17 R389). -/

namespace Sys2Proof.Machine

/-- Changing the part `ctl`. -/
def State.onCtl (s : State) (f : CtlState → CtlState) : State := { s with ctl := f s.ctl }

/-- The registers show an operation. -/
def State.opShow (s : State) (r : OpRun) : State :=
  ((s.wr Reg.CHIP_PROGRESS.OP r.op).wr Reg.CHIP_PROGRESS.PERCENT r.pct).wr Reg.CHIP_PROGRESS_POS.POSITION r.pos

/-- An operation starts, and is shown as the one started most recently. -/
def State.opStart (s : State) (op : Nat) : State :=
  (s.onCtl fun c => { c with ops := ⟨op, 0, 0⟩ :: c.ops.filter fun r => decide (r.op ≠ op) }).opShow ⟨op, 0, 0⟩

/-- The percentage of a count: floor(100 × done / total). -/
def percentOf (done total : Nat) : Nat := if total = 0 then 100 else min 100 (100 * done / total)

/-- An operation that runs moves on to a position. -/
def State.opMove (s : State) (op pct pos : Nat) : State :=
  let s := s.onCtl fun c => { c with ops := c.ops.map fun r => if r.op = op then ⟨op, pct, pos⟩ else r }
  if s.rd Reg.CHIP_PROGRESS.OP = op then s.opShow ⟨op, pct, pos⟩ else s

/-- An operation ends: DONE, LASTOP and vector 1; OP shows the earliest-started one that still runs. -/
def State.opEnd (s : State) (op : Nat) : State :=
  if s.ctl.ops.any fun r => decide (r.op = op) then
    let shown := decide (s.rd Reg.CHIP_PROGRESS.OP = op)
    let s := s.onCtl fun c => { c with ops := c.ops.filter fun r => decide (r.op ≠ op) }
    let s := if shown then s.opShow (s.ctl.ops.getLast?.getD ⟨0, 0, 0⟩) else s
    ((s.put Reg.CHIP_PROGRESS.DONE true).wr Reg.CHIP_PROGRESS.LASTOP op).vector 1
  else s

end Sys2Proof.Machine
end

