-- ==== Sys2Proof/Machine/Sha.lean ====
section
/-! DEFINITION. SHA-256, which 14 R302, R313 and 17 R383-R385 use by name. PRESUMED from FIPS 180-4: the
manual names the function and does not restate it. -/

namespace Sys2Proof.Machine

/-- The round constants: the first 32 rounds. -/
def shaKLow : List Word := [
  0x428A2F98, 0x71374491, 0xB5C0FBCF, 0xE9B5DBA5, 0x3956C25B, 0x59F111F1,
  0x923F82A4, 0xAB1C5ED5, 0xD807AA98, 0x12835B01, 0x243185BE, 0x550C7DC3,
  0x72BE5D74, 0x80DEB1FE, 0x9BDC06A7, 0xC19BF174, 0xE49B69C1, 0xEFBE4786,
  0x0FC19DC6, 0x240CA1CC, 0x2DE92C6F, 0x4A7484AA, 0x5CB0A9DC, 0x76F988DA,
  0x983E5152, 0xA831C66D, 0xB00327C8, 0xBF597FC7, 0xC6E00BF3, 0xD5A79147,
  0x06CA6351, 0x14292967]

/-- The round constants: the last 32 rounds. -/
def shaKHigh : List Word := [
  0x27B70A85, 0x2E1B2138, 0x4D2C6DFC, 0x53380D13, 0x650A7354, 0x766A0ABB,
  0x81C2C92E, 0x92722C85, 0xA2BFE8A1, 0xA81A664B, 0xC24B8B70, 0xC76C51A3,
  0xD192E819, 0xD6990624, 0xF40E3585, 0x106AA070, 0x19A4C116, 0x1E376C08,
  0x2748774C, 0x34B0BCB5, 0x391C0CB3, 0x4ED8AA4A, 0x5B9CCA4F, 0x682E6FF3,
  0x748F82EE, 0x78A5636F, 0x84C87814, 0x8CC70208, 0x90BEFFFA, 0xA4506CEB,
  0xBEF9A3F7, 0xC67178F2]

/-- The initial hash value. -/
def shaInit : List Word := [
  0x6A09E667, 0xBB67AE85, 0x3C6EF372, 0xA54FF53A, 0x510E527F, 0x9B05688C,
  0x1F83D9AB, 0x5BE0CD19]

/-- The message schedule, latest word first, extended by n words. -/
def shaExtend : Nat → List Word → List Word
  | 0, l => l
  | n + 1, l =>
    let a := l.getD 1 0
    let b := l.getD 14 0
    let s1 := a.rotateRight 17 ^^^ a.rotateRight 19 ^^^ a >>> 10
    let s0 := b.rotateRight 7 ^^^ b.rotateRight 18 ^^^ b >>> 3
    shaExtend n ((s1 + l.getD 6 0 + s0 + l.getD 15 0) :: l)

/-- One round on the eight working words. -/
def shaRound (h : List Word) (kw : Word × Word) : List Word :=
  match h with
  | [a, b, c, d, e, f, g, x] =>
    let s1 := e.rotateRight 6 ^^^ e.rotateRight 11 ^^^ e.rotateRight 25
    let t1 := x + s1 + ((e &&& f) ^^^ (~~~e &&& g)) + kw.1 + kw.2
    let s0 := a.rotateRight 2 ^^^ a.rotateRight 13 ^^^ a.rotateRight 22
    let t2 := s0 + ((a &&& b) ^^^ (a &&& c) ^^^ (b &&& c))
    [t1 + t2, a, b, c, d + t1, e, f, g]
  | _ => h

/-- Four bytes as a word, most significant first. -/
def shaWord (l : List Byte) (i : Nat) : Word :=
  l.getD (4 * i) 0 ++ l.getD (4 * i + 1) 0 ++ l.getD (4 * i + 2) 0 ++ l.getD (4 * i + 3) 0

/-- One block of 64 bytes. -/
def shaBlock (h : List Word) (l : List Byte) : List Word :=
  let w := (shaExtend 48 (((List.range 16).map (shaWord l)).reverse)).reverse
  let r := ((shaKLow ++ shaKHigh).zip w).foldl shaRound h
  (h.zip r).map fun p => p.1 + p.2

/-- n blocks of a padded message. -/
def shaBlocks : Nat → List Word → List Byte → List Word
  | 0, h, _ => h
  | n + 1, h, l => shaBlocks n (shaBlock h (l.take 64)) (l.drop 64)

/-- The hash of a message, as a number whose first byte is the most significant. -/
def sha256 (l : List Byte) : Nat :=
  let n := l.length
  let pad := (119 - n % 64) % 64
  let m := l ++ [0x80] ++ List.replicate pad 0 ++ (List.range 8).map fun i => BitVec.ofNat 8 (8 * n / 256 ^ (7 - i))
  (shaBlocks (m.length / 64) shaInit m).foldl (fun a w => a * 2 ^ 32 + w.toNat) 0

end Sys2Proof.Machine
end

