-- ==== Sys2Proof/Machine/Pair.lean ====
section
/-! DEFINITION. The redundant pair: tether frames, pair words and cells, the pair states, the digest and the
sweep, the change log, the mirror cycle and the resync (14 R299-R327, 13 R293, 11 R243). -/

namespace Sys2Proof.Machine

/-- The pair state, TTH_STATUS.STATE: 0 SOLO, 1 ACTIVE, 2 STANDBY_CONVERGING, 3 STANDBY_READY, 4
STANDBY_FAULTY, 5 TWIN (R301). -/
def State.pairSt (s : State) : Nat := s.rd Reg.TTH_STATUS.STATE

/-- The ACTIVE pin: high in state ACTIVE and low in every other (R299). It rises at T, ECLK 8, of a takeover (R318). -/
def State.activePin (s : State) : Bool := decide (s.pairSt = 1)

/-- The partner's state as its pair words give it, 6 unknown. -/
def State.peerSt (s : State) : Nat := s.rd Reg.TTH_STATUS.PEER_STATE

/-- The tether is up. -/
def State.tetherUp (s : State) : Bool := s.on Reg.TTH_STATUS.TETHER_UP

/-- The chip runs the resync steps or is READY: a standby that follows its partner. -/
def State.followsPeer (s : State) : Bool := decide (s.pairSt = 2 ∨ s.pairSt = 3)

/-- The tether frame of a tick. -/
def State.tetherFrame (s : State) (m : Nat) : Option TetherRx := s.tth.frames.find? fun f => decide (f.seq = m % 256)

/-- A word of a list of tether words. -/
def twWord (l : List (Word × Tag)) (i : Nat) : Nat := (l.getD i (0, 0)).1.toNat

/-! ### CRC-64 (R314, R315) -/

/-- Eight bits of the CRC-64 of ECMA-182. -/
def crc64Step (c : Nat) : Nat → Nat
  | 0 => c
  | n + 1 => crc64Step (if 2 ^ 63 ≤ c then Nat.xor (2 * c % 2 ^ 64) 0x42F0E1EBA9EA3693 else 2 * c) n

/-- The CRC-64 of a byte string: initial value 0, no reflection, no final XOR. -/
def crc64 (l : List Byte) : Nat := l.foldl (fun c b => crc64Step (Nat.xor c (b.toNat * 2 ^ 56)) 8) 0

/-- A word's bytes, least significant first. -/
def leBytes (n v : Nat) : List Byte := (beBytes n v).reverse

/-- The digest of the present tick's egress words, in ascending hitch entry (R314). -/
def State.digest (s : State) : Nat :=
  crc64 (s.egr.words.flatMap fun p => leBytes 4 p.2.1.toNat ++ [p.2.2.zeroExtend 8])

/-- The copy words of the rotation's present step (R322). -/
def State.copyWords (s : State) : List (Nat × Bool × Nat) := (s.livePlan.resync).getD (s.tth.since % 192) []

/-- The sweep CRC-64 of the present step's copy words (R315). -/
def State.sweep (s : State) : Nat :=
  crc64 (s.copyWords.flatMap fun w => leBytes 4 (s.xyWord w.1 w.2.1 w.2.2).toNat)

/-! ### What this chip sends (R305-R307) -/

/-- The pair words of the present tick (R306). -/
def State.pairWord (s : State) (w : Nat) : Nat :=
  let st := s.pairSt
  let prev := fun (m : SMap Nat) => sget 1 ((s.tick + 255) % 256) m - 1
  match w with
  | 0 => s.tick % 65536 + st * 2 ^ 16 + (decide (st = 1)).toNat * 2 ^ 19 + s.rd Reg.TTH_STATUS.SIDE * 2 ^ 20 +
      s.tth.prearm.toNat * 2 ^ 21
  | 1 => min s.tth.age (2 ^ 32 - 1)
  | 2 => prev s.tth.own % 2 ^ 32
  | 3 => prev s.tth.own / 2 ^ 32
  | 4 => prev s.tth.sweepOwn % 2 ^ 32
  | 5 => prev s.tth.sweepOwn / 2 ^ 32
  | 6 => if s.tth.rot && (sfind ((s.tick + 255) % 256) s.tth.sweepOwn).isSome then (s.tth.since + 191) % 192 + 256 else 0
  | 7 =>
    if st = 1 then
      match s.tth.apply with
      | some (q, b) => q + (decide (b ≤ s.tick + 4 ∧ s.tick < b)).toNat * 2 ^ 16
      | none => 0
    else if s.isStandby then (s.tth.nextSeq + 65535) % 65536 else 0
  | 8 => if st = 1 then ((s.tth.apply.map Prod.snd).getD 0) % 2 ^ 32 else 0
  | _ =>
    let c := (w - 16) / 3
    if w < 16 ∨ 112 ≤ w then 0
    else
      let g := (s.ampCh c).gains.headD {}
      match (w - 16) % 3 with
      | 0 => (code 32 g.g).toNat
      | 1 => (Config.seqGainWord g.num g.den).toNat
      | _ => s.ampSt c + s.tick % 256 * 16

/-- The words of a tether lane's frame (R305). Copy words are taken as the engines hold them now. -/
def State.tetherWords (s : State) (n : Nat) : List (Word × Tag) :=
  if s.pairSt = 5 then
    let count := 8 * (if s.mult = 2 then 128 else 256)
    let all := s.egressWords 7 0 (2 * count)
    if n = 12 then all.take count else all.drop count
  else if n = 12 then
    if s.pairSt = 1 then
      let l := s.tethers.map fun (p : Nat × Hitch) => s.tetherSends p.1 p.2
      (l ++ List.replicate 512 (0, 0)).take 512
    else List.replicate 512 (0, 0)
  else
    let words := (List.range 256).map fun w => (BitVec.ofNat 32 (s.pairWord w), (0 : Tag))
    let copy := if s.pairSt = 1 ∧ s.tth.rot = true then s.copyWords.map fun w => (s.xyWord w.1 w.2.1 w.2.2, (0 : Tag)) else []
    let fill := 16 * (s.tetherGroups 13) - 1280
    words ++ List.replicate fill (0, 0) ++ (copy ++ List.replicate 1024 (0, 0)).take 1024

/-- A tether cell: TYPE, flags FIRST and LAST, LEN, SEQ and payload (R288, R307). -/
def tetherCell (ty seq : Nat) (first last : Bool) (data : List Byte) : List Byte :=
  sealCell ([BitVec.ofNat 8 ty, BitVec.ofNat 8 (first.toNat + 2 * last.toNat), BitVec.ofNat 8 data.length,
    BitVec.ofNat 8 seq] ++ data ++ List.replicate (58 - data.length) 0)

/-- The records of the log that the partner has not acknowledged. -/
def State.unacked (s : State) : List LogRec :=
  match s.tth.acked with
  | none => s.tth.log
  | some q => match s.tth.log.findIdx? fun r => decide (r.seq = q) with
    | some i => s.tth.log.drop (i + 1)
    | none => s.tth.log

/-- CHANGE cells of records in order, 7 records to a cell; the data of a coil write travels in BULK cells. -/
def changeCells : Nat → List LogRec → List (List Byte)
  | 0, _ => []
  | _, [] => []
  | n + 1, l =>
    let part := l.take 7
    let body := part.flatMap fun r => leBytes 4 (fabricAddr r.addr) ++ leBytes 4 (if coilBase ≤ r.addr ∧ r.addr < 0x20000000 then r.size else r.data)
    tetherCell 2 0 true true (leBytes 2 ((part.head?.map LogRec.seq).getD 0) ++ body) :: changeCells n (l.drop 7)

/-- The HEALTH record of a standby (R316), laid out as the two words of TTH_HEALTH_0 and TTH_HEALTH_1: PRESUMED
(log 243). An opening or a voltage that nothing has measured is sent as 0. -/
def State.healthCell (s : State) : List Byte :=
  let h := s.tth.health
  let w0 := h.sbe + h.dbe * 2 ^ 16 + h.patfail.toNat * 2 ^ 24
  let w1 := h.hopen.getD 0 + h.vopen.getD 0 * 2 ^ 8 + h.vmin.getD 0 * 2 ^ 16
  tetherCell 4 0 true true (leBytes 4 w0 ++ leBytes 4 w1)

/-- A 4 KB block as the logged writes will leave it. -/
def State.bulkBlock (s : State) (a : Nat) : List Byte :=
  (s.tth.log.foldl (fun s r => if a ≤ r.addr ∧ r.addr < a + 4096 then s.store r.addr r.size r.data else s) s).loadBytes a 4096

/-- The 4 KB blocks that hold the bytes from `lo` to `hi`. -/
def blocksOf (lo hi : Nat) : List Nat :=
  (List.range (hi / 4096 + 1 - lo / 4096)).map fun k => (lo / 4096 + k) * 4096

/-- The 4 KB blocks of an engine's region. -/
def regionBlocks (e : Nat) (r : Region) : List Nat :=
  match r.mem with
  | .x => blocksOf (xyAddr e false r.lo) (xyAddr e false r.hi + 3)
  | .y => blocksOf (xyAddr e true r.lo) (xyAddr e true r.hi + 3)
  | .coil => blocksOf (coilBase + 16 * r.lo) (coilBase + 16 * r.hi + 15)
  | .prog => []

/-- The blocks of resync step 1 that have a fabric address (R321): the reserved copy, then, of the live plan and of a staged
one, the parameter pages and the constant regions of every engine, coils among them. Their order is the model's: DESIGN
CHOICE (log 241). -/
def State.bulkBlocks (s : State) : List Nat :=
  let base := coilBase + 4096 * s.rd Reg.ENG_RES.BASE
  let reserved := (List.range (s.rd Reg.ENG_RES.COUNT)).map fun k => base + 4096 * k
  let plans := s.livePlan :: s.lp.staged.toList
  (reserved ++ plans.flatMap fun p => p.engines.flatMap fun e =>
    engineBase e.1 :: e.2.consts.flatMap fun c => regionBlocks e.1 c.region).eraseDups

/-- The block that is sent next: that of the first logged coil write whose BULK copy is not acknowledged, else, while the
partner runs step 1, the next of that step; with whether it is one of step 1. -/
def State.bulkNext (s : State) : Option (Nat × Bool) :=
  match s.tth.log.find? fun r => s.tth.bulkWait.contains r.seq with
  | some r => some (r.addr / 4096 * 4096, false)
  | none => if s.peerSt = 2 ∧ s.tth.rot = false then s.bulkBlocks[s.tth.bulkPos]?.map fun a => (a, true) else none

/-- A block to send is read, whole and at once, unless one is being sent (R321). -/
def State.bulkRead (s : State) : State :=
  if s.tth.bulkOut.isSome then s
  else match s.bulkNext with
    | none => s
    | some (a, step1) => s.onTth fun r => { r with
        bulkOut := some (a, 0)
        bulkData := leBytes 4 a ++ s.bulkBlock a
        bulkPos := r.bulkPos + step1.toNat }

/-- The BULK cells that a frame has room for (R307). BULK pauses under PREARM (R316). -/
def State.bulkCells (s : State) (room : Nat) : List (List Byte) × State :=
  if s.on Reg.TTH_STATUS.PREARM then ([], s)
  else
    let s := s.bulkRead
    match s.tth.bulkOut with
    | none => ([], s)
    | some (a, i) =>
      let k := min room (71 - i)
      let cells := (List.range k).map fun j =>
        tetherCell 5 (i + j) (decide (i + j = 0)) (decide (i + j = 70)) ((s.tth.bulkData.drop (58 * (i + j))).take 58)
      (cells, s.onTth fun r => { r with bulkOut := if 71 ≤ i + k then none else some (a, i + k) })

/-- A standby's acknowledgements of BULK blocks: a cell with the block's address alone. PRESUMED (log 242). -/
def State.ackCells (s : State) (room : Nat) : List (List Byte) × State :=
  if s.on Reg.TTH_STATUS.PREARM then ([], s)
  else ((s.tth.acks.take room).map fun a => tetherCell 5 0 true true (leBytes 4 a),
    s.onTth fun r => { r with acks := r.acks.drop room })

/-- The cells of a tether lane's frame, in the priority order of R307: CHANGE, HEALTH, BULK. LANE_12 takes the
first unacknowledged records and the HEALTH record, LANE_13 the records that follow and the BULK cells: DESIGN CHOICE
(log 241). -/
def State.tetherCells (s : State) (n : Nat) : List (List Byte) × State :=
  let k := cellCount true s.mult
  if s.pairSt = 5 ∨ s.tetherUp = false then ([], s)
  else if s.pairSt = 1 then
    let change := changeCells k (if n = 12 then s.unacked else s.unacked.drop (7 * k))
    if n = 13 then
      let (b, t) := s.bulkCells (k - change.length)
      (change ++ b, t)
    else (change, s)
  else if n = 13 then s.ackCells k
  else if s.isStandby ∧ s.tick % max 1 (s.rd Reg.TTH_CTRL.MIRROR) = 0 then
    ([s.healthCell], s.onTth fun r => { r with health := { r.health with vmin := none } })
  else ([], s)

/-! ### APPLY_SEQ (R310) -/

/-- The ACTIVE fixes APPLY_SEQ of the next mirror boundary, 4 ticks ahead: the highest acknowledged record that
follows no coil write whose BULK copy is unacknowledged; with no partner in reach, the highest logged one. -/
def State.fixApply (s : State) : State :=
  let b := s.tick + 4
  let m := max 1 (s.rd Reg.TTH_CTRL.MIRROR)
  if s.pairSt ≠ 1 ∨ b % m ≠ 0 ∨ (s.tth.apply.map Prod.snd) = some b then s
  else
    let reach := s.tetherUp && decide (2 ≤ s.peerSt ∧ s.peerSt ≤ 4)
    let held := if reach then s.tth.log.take (s.tth.log.length - s.unacked.length) else s.tth.log
    let free := if reach then held.takeWhile fun r => !s.tth.bulkWait.contains r.seq else held
    let q := match free.getLast? with
      | some r => r.seq
      | none => ((s.tth.log.head?.map LogRec.seq).getD s.tth.nextSeq + 65535) % 65536
    s.onTth fun r => { r with apply := some (q, b) }

/-- The records that an APPLY_SEQ covers, and the rest of the log. -/
def State.applySplit (s : State) (q : Nat) : List LogRec × List LogRec :=
  match s.tth.log.findIdx? fun r => decide (r.seq = q) with
  | some i => (s.tth.log.take (i + 1), s.tth.log.drop (i + 1))
  | none => ([], s.tth.log)

/-! ### DPLL of a pair (08 R173) -/

/-- HOLDOVER at the mean of the TETHER frequency, by the rule of R171. -/
def State.tetherHoldover (s : State) : State :=
  let last := if s.dpll = 6 then some s.ref.y else s.ref.lastTether
  s.deselect.holdAt (s.meanOutput 6 last)

/-- A new ACTIVE selects by R166 and enters SLEWING, or enters HOLDOVER. -/
def State.leaveTether (s : State) : State :=
  if s.rd Reg.REF_STATUS.DPLL ≠ 6 then s.review
  else if s.rd Reg.REF_CTRL.MODE = 0 then
    match s.choose ((List.range 16).filter s.slotQualified) with
    | some n => s.selectSlot n
    | none => s.tetherHoldover
  else s.review

/-- The chip follows the tether: a standby, or a TWIN chip that TTH_CTRL has follow. -/
def State.followsTether (s : State) : Bool :=
  s.isStandby || (decide (s.pairSt = 5) && s.on Reg.TTH_CTRL.TWIN_FOLLOW)

/-- A standby's DPLL: TETHER with a tether, and HOLDOVER once it is lost. -/
def State.standbyDpll (s : State) : State :=
  if !s.followsTether ∨ s.dpll = 7 then s
  else if s.tetherUp then (if s.dpll = 6 then s else ((s.deselect).condition Src.REF_HOLDOVER false).setDpll 6)
  else if s.dpll = 6 then s.tetherHoldover else s

/-! ### Entries to pair states (R301) -/

/-- The resync stops (R324). -/
def State.resyncStop (s : State) : State :=
  let s := if s.rd Reg.TTH_RESYNC.STEP ≠ 0 then s.opEnd 3 else s
  (s.wr Reg.TTH_RESYNC.STEP 0).onTth fun r => { r with rot := false, heard := [] }

/-- STANDBY_FAULTY with its reason. -/
def State.toFaulty (s : State) (reason : Nat) : State :=
  let s := (s.resyncStop.wr Reg.TTH_STATUS.STATE 4).wr Reg.TTH_STATUS.REASON reason
  ((s.onTth fun r => { r with age := 0, clean := 0, swapAt := none }).put Reg.TTH_CTRL.SWAP false
    |>.raise Src.PAIR_STBY).standbyDpll

/-- ACTIVE, by whatever way. The rotation of a READY standby goes on: after a swap it is the check of R315. -/
def State.toActive (s : State) : State :=
  let s := if s.isStandby then s.ownSc else s
  let s := if s.pairSt = 3 then s else s.resyncStop
  let s := (s.wr Reg.TTH_STATUS.STATE 1).onTth fun r => { r with
    everActive := true, age := 0, both := 0, swapAt := none, clean := 0 }
  let s := (List.range 32).foldl (fun s n => s.setAmp n { s.ampCh n with ocRun := 0 }) s
  s.leaveTether

/-- Flitex control channels restart as after a lock loss (R318 step 6, 13 R289). -/
def State.ccRestart (s : State) : State :=
  ((List.range 16).filter fun n => decide (s.role n = 2)).foldl (fun s n =>
    (s.onLane n fun x => { x with sent := 0, credit := 0, freed := 0, cells := [], txPos := 0 }).showCredit n) s

/-- Packets whose queue instant fell in tick T − 2 or T − 1 are sent again (R318 step 4). -/
def State.resend (s : State) (t : Nat) : State :=
  if s.on Reg.TTH_CTRL.RESEND then
    s.net.outs.foldl (fun s p =>
      if p.2.run && !p.2.last.isEmpty && decide (p.2.lastTick + 2 = t ∨ p.2.lastTick + 1 = t) then
        p.2.last.foldl (fun s f => s.sendMedia f.1 f.2) s
      else s) s
  else s

/-- Records beyond the last marker received are discarded and counted (R318 step 5). -/
def State.dropRecords (s : State) : State :=
  let (keep, lost) := match s.tth.apply with
    | some (q, b) => if s.tick < b then s.applySplit q else ([], s.tth.log)
    | none => ([], s.tth.log)
  let s := (s.bump Reg.TTH_LOG.LOST lost.length).onTth fun r => { r with log := keep, acked := none, bulkWait := [] }
  s.wr Reg.TTH_LOG.FREE (8192 - keep.length)

/-- The takeover at tick T (R317, R318); a swap sends nothing again and discards nothing (R320). -/
def State.takeOver (s : State) (t : Nat) (swap : Bool) : State :=
  let ready := decide (s.pairSt = 3)
  let s := s.toActive
  let s := (s.tethers.filter fun p => p.2.asrcEn).foldl (fun s p =>
    s.setRun false p.1 { s.hitchRun false p.1 with unsettledTo := t + 64 }) s
  let s := (if swap then s else (s.resend t).dropRecords).ccRestart
  let s := ((s.wr Reg.TTH_TAKE_LO.TICK (t % 2 ^ 32)).wr Reg.TTH_TAKE_HI.TICK (t / 2 ^ 32)).bump Reg.TTH_CNT.TAKEOVERS 1
  let s := s.raise Src.PAIR_TAKEOVER
  if ready then s else s.raise Src.PAIR_DEGRADED

/-- A chip may become ACTIVE: its own FAULT_N is high, and it is not in factory test mode (16 R364). -/
def State.mayLead (s : State) : Bool := !s.flt.faultLow && !s.on Reg.FLT_TEST.TESTMODE

/-- A takeover trigger on a standby (R317). -/
def State.takeTrigger (s : State) : Bool :=
  s.isStandby && s.mayLead && (decide (s.pairSt = 3) || s.on Reg.TTH_CTRL.DEGRADED_EN) &&
    (s.on Reg.TTH_STATUS.PEER_FAIL || (decide (3 ≤ s.tth.noBeat) && s.on Reg.NET_STATUS.PARTNER_ABSENT))

/-- The ACTIVE yields (R301, R319). -/
def State.yields (s : State) : Bool :=
  let peerAge := (sget 0 1 s.tth.peer).toNat
  let peerClaims := (sget 0 0 s.tth.peer).getLsbD 19
  let side1 := s.on Reg.TTH_STATUS.SIDE
  decide (s.pairSt = 1) &&
    ((s.flt.faultLow && s.on Reg.TTH_STATUS.PEER_ACTIVE) ||
     (s.tetherUp && peerClaims &&
       (decide (min s.tth.age (2 ^ 32 - 1) < peerAge) || (decide (min s.tth.age (2 ^ 32 - 1) = peerAge) && side1))) ||
     (!s.tetherUp && decide (16 ≤ s.tth.both) && side1))

/-- Both chips claim ACTIVE (R319): the event is counted once and raised. -/
def State.splitWatch (s : State) : State :=
  let now := decide (s.pairSt = 1) &&
    ((s.tetherUp && (sget 0 0 s.tth.peer).getLsbD 19) || (!s.tetherUp && decide (16 ≤ s.tth.both)))
  let s := if now && !s.tth.split then (s.bump Reg.TTH_CNT.SPLITS 1).raise Src.PAIR_SPLIT else s
  s.onTth fun r => { r with split := now }

/-- Another tick count: the instants of Flitex frames and markers move with it, egress streams keep their places, and
ingress streams begin anew (02 R41, R321: their buffers fill from the standby's own inputs; DEDUCED, log 224). -/
def State.adoptTick (s : State) (ofs : Int) : State :=
  let move := fun (k n : Nat) => ((n : Int) + ofs * k).toNat
  let s := { s with tick := move 1 s.tick }
  let t := s.tick
  let c := move s.tickLen
  let frame := fun f : FlxFrame => { f with c := c f.c }
  let s := { s with lane := s.lane.map fun p : Nat × FlxLane =>
               (p.1, { p.2 with cs := p.2.cs.map c, frames := p.2.frames.map frame }) }
  s.onNet fun r => { r with
    outs := r.outs.map fun p : Nat × OutStream => (p.1, { p.2 with m0 := move 1 p.2.m0, lastTick := move 1 p.2.lastTick })
    ins := r.ins.map fun p : Nat × InStream => (p.1, { p.2 with phase := none, pkts := [], first := t, deadline := none })
    play := [], rxq := [] }

/-- STANDBY_CONVERGING: the standby takes the ACTIVE's tick count (02 R41) and a resync starts at step 1. -/
def State.converge (s : State) : State :=
  let s := s.adoptTick s.tth.tickOfs
  let s := s.onTth fun r => { r with tickOfs := 0, log := [], acked := none, apply := none, staged := [], bulkIn := [], clean := 0 }
  let s := ((s.wr Reg.TTH_STATUS.STATE 2).wr Reg.TTH_RESYNC.STEP 1).wr Reg.TTH_RESYNC.PERCENT 0
  let s := ((s.wr Reg.TTH_RESYNC_POS.POSITION 0).wr Reg.TTH_DIGEST.RUN 0).bump Reg.TTH_CNT.RESYNCS 1
  (s.wr Reg.TTH_LOG.FREE 8192).opStart 3 |>.standbyDpll

/-- The swap at B on the ACTIVE: the writer becomes STANDBY_READY with its DPLL in TETHER, if the partner is
still READY (R320). -/
def State.swapOut (s : State) : State :=
  let s := (s.put Reg.TTH_CTRL.SWAP false).onTth fun r => { r with swapAt := none }
  if s.peerSt = 3 then
    ((s.wr Reg.TTH_STATUS.STATE 3).wr Reg.TTH_DIGEST.RUN 0).onTth (fun r => { r with age := 0, noBeat := 0 })
      |>.standbyDpll
  else s.put Reg.TTH_STATUS.SWAP_REF true

/-- The pair state at the boundary to tick t: the first row of R301 whose condition holds. -/
def State.pairMove (s : State) (t : Nat) : State :=
  let st := s.pairSt
  if s.takeTrigger then s.takeOver t false
  else if s.yields then s.toFaulty 6
  else if st = 1 ∧ s.tth.swapAt = some t then s.swapOut
  else if st = 4 ∧ s.tetherUp = true ∧ s.tth.checked = true ∧ s.peerSt = 1 then s.converge
  else if st = 4 ∧ s.tetherUp = true ∧ s.tth.checked = true ∧ s.peerSt ≠ 6 ∧ s.on Reg.TTH_STATUS.SIDE = false ∧
      s.mayLead = true then s.toActive
  else if s.followsPeer ∧ 3 ≤ s.tth.noTether then s.toFaulty 3
  else s

/-! ### Heartbeat, age and progress at a boundary -/

/-- A run of 3 ticks without heartbeat is counted once (R328). -/
def State.countBeat (s : State) : State :=
  if s.tth.beat then s.onTth fun r => { r with beat := false, noBeat := 0 }
  else
    let n := s.tth.noBeat + 1
    let s := s.onTth fun r => { r with noBeat := n }
    if n = 3 then s.bump Reg.TTH_CNT.HBLOSS 1 else s

/-- CONVERGE follows ROTATE after 192 ticks, DIGEST 256 ticks after W (R321). Ticks are counted from the start of
step 2. -/
def State.resyncStep (s : State) (since : Nat) : State :=
  let w := s.rd Reg.TTH_CONV.W
  let st := s.rd Reg.TTH_RESYNC.STEP
  if s.pairSt ≠ 2 then s
  else if st = 2 ∧ 192 ≤ since ∧ since < w + 256 then s.wr Reg.TTH_RESYNC.STEP 3
  else if (st = 2 ∨ st = 3) ∧ w + 256 ≤ since then
    (((s.wr Reg.TTH_RESYNC.STEP 4).wr Reg.TTH_DIGEST.RUN 0).wr Reg.TTH_RESYNC_POS.POSITION 0).onTth fun r => { r with
      clean := 0, heard := [] }
  else s

/-- 1,000 clean ticks make the standby READY (R321). -/
def State.resyncReady (s : State) : State :=
  if s.pairSt = 2 ∧ s.rd Reg.TTH_RESYNC.STEP = 4 ∧ 1000 ≤ s.tth.clean then
    ((((s.wr Reg.TTH_STATUS.STATE 3).wr Reg.TTH_RESYNC.STEP 0).wr Reg.TTH_RESYNC.PERCENT 100).wr Reg.TTH_DIGEST.RUN 0).opEnd 3
  else s

/-- What TTH_RESYNC, TTH_RESYNC_POS and CHIP_PROGRESS show in steps 2 to 4 (R324, 17 R389). -/
def State.resyncShow (s : State) : State :=
  let st := s.rd Reg.TTH_RESYNC.STEP
  if st < 2 then s
  else
    let pos := if st = 4 then s.tth.clean else s.tth.since
    let total := if st = 4 then 1000 else if st = 2 then 192 else s.rd Reg.TTH_CONV.W + 256
    ((s.wr Reg.TTH_RESYNC_POS.POSITION pos).wr Reg.TTH_RESYNC.PERCENT (percentOf pos total)).opMove 3 (percentOf pos total) pos

/-- The rotation counts its ticks; recording for a replay begins where W is reached (R321-R323). -/
def State.rotate (s : State) : State :=
  if s.tth.rot then
    let n := s.tth.since + 1
    let w := s.rd Reg.TTH_CONV.W
    let fresh := decide (n = w ∨ n = w + 224)
    let s := s.onTth fun r => { r with since := n, heard := if fresh then [] else r.heard }
    let s := if s.pairSt = 1 ∧ (s.peerSt = 4 ∨ s.peerSt = 6) then s.onTth fun r => { r with rot := false } else s
    (s.resyncStep n).resyncReady.resyncShow
  else s

/-- The pins and counts of the pair at a boundary, then its state (R301, R312, R317). -/
def State.pairBoundary (s : State) (t : Nat) (peerActive : Bool) : State :=
  let s := s.put Reg.TTH_STATUS.PEER_ACTIVE peerActive
  if s.pairSt = 0 then s
  else if s.pairSt = 5 then s.standbyDpll
  else
    let s := s.countBeat
    let s := s.onTth fun r => { r with
      noTether := if s.tetherUp then 0 else r.noTether + 1
      age := if s.pairSt = 1 then r.age + 1 else 0
      both := if s.pairSt = 1 ∧ peerActive = true then r.both + 1 else 0 }
    let s := s.rotate
    let s := s.splitWatch
    let s := (s.pairMove t).standbyDpll
    s.put Reg.TTH_STATUS.PREARM (s.tth.prearm || (s.isStandby && (sget 0 0 s.tth.peer).getLsbD 21))

/-! ### Reception (13 R293, R306) -/

/-- The markers and the sweep of a received frame of tick m. -/
def State.judgeSweep (s : State) (m : Nat) : State :=
  let p := fun i => (sget 0 i s.tth.peer).toNat
  match sfind ((m + 255) % 256) s.tth.sweepOwn with
  | some v =>
    if s.pairSt = 3 ∧ p 6 / 256 % 2 = 1 ∧ p 4 + p 5 * 2 ^ 32 + 1 ≠ v then
      (s.bump Reg.TTH_DIGEST.SWEEP 1).toFaulty 2
    else s
  | none => s

/-- The pair words of an admitted tether frame of tick m: heartbeat, state, digest, ACK_SEQ or marker. -/
def State.pairRx (s : State) (m : Nat) (words : List (Word × Tag)) : State :=
  let p := fun i => twWord words i
  let peer : SMap Word := (List.range 128).foldl (fun q i => sset 0 i (words.getD i (0, 0)).1 q) []
  let s := s.onTth fun r => { r with
    peer := peer, beat := true, theirs := sset 0 ((m + 255) % 256) (p 2 + p 3 * 2 ^ 32 + 1) r.theirs }
  let st := p 0 / 2 ^ 16 % 8
  let s := if st = 2 ∧ s.peerSt ≠ 2 then s.onTth fun r => { r with bulkPos := 0, bulkOut := none } else s
  let s := s.wr Reg.TTH_STATUS.PEER_STATE st
  let s := if s.pairSt = 1 then s.onTth fun r => { r with acked := some (p 7 % 65536) }
    else if s.isStandby && decide (p 7 / 65536 % 2 = 1) then s.onTth fun r => { r with apply := some (p 7 % 65536, p 8) }
    else s
  s.judgeSweep m

/-- The lanes' frames of one tick, equal in TICKSEQ and within 1,024 ECLK, form a tether frame. -/
def State.tetherPair (s : State) : Option (FlxFrame × FlxFrame) :=
  (s.laneRec 12).frames.findSome? fun a =>
    ((s.laneRec 13).frames.find? fun b => decide (a.seq = b.seq ∧ a.c ≤ b.c + 16384 ∧ b.c ≤ a.c + 16384)).map fun b => (a, b)

/-- A tether frame is admitted. -/
def State.admitTether (s : State) : State :=
  match s.tetherUp, s.tetherPair with
  | true, some (a, b) =>
    let s := (s.onLane 12 fun x => { x with frames := x.frames.filter fun f => decide (f.seq ≠ a.seq) }).onLane 13 fun x =>
      { x with frames := x.frames.filter fun f => decide (f.seq ≠ a.seq) }
    let s := s.onTth fun r => { r with frames := (⟨a.seq, max a.c b.c, a.words, b.words⟩ :: r.frames).take 8 }
    if s.paired then s.pairRx a.seq b.words else s
  | _, _ => s

/-- The tether exchange of a TWIN chip at a boundary (R305, R325): the frames admitted since the last boundary
go by the rule of 13 R286, a frame no sooner than the first boundary b ≥ C − 32 ECLK (07 R150). -/
def State.tetherExchange (s : State) : State :=
  if s.pairSt ≠ 5 then s
  else
    let slip := fun (s : State) => ((s.bump (Reg.FLX_CNT_0.SLIP 12) 1).bump (Reg.FLX_CNT_0.SLIP 13) 1).raise Src.FLX_SLIP
    let had := (s.laneRec 12).took
    let (due, wait) := s.tth.frames.partition fun f => decide (f.c ≤ s.tick * s.tickLen + 512)
    match due with
    | [] => (if had && s.tetherUp then slip s else s).onLane 12 fun x => { x with took := false }
    | f :: r =>
      let s := if r.isEmpty then s else slip s
      let s := (s.onTth fun x => { x with frames := wait }).onLane 12 fun x => { x with took := true }
      let l := f.w12 ++ f.w13
      (l.zip (List.range l.length)).foldl (fun s p => s.offer (chanKey 7 0 p.2) p.1.1 p.1.2) s

/-! ### Tether cells received (R307, R310, R316) -/

/-- A record from its address and data in a CHANGE cell. A coil write, whose data travels in BULK cells, carries its byte
count in place of the data: PRESUMED (log 242). -/
def cellRecord (q addr data : Nat) : LogRec :=
  if coilBase ≤ addr ∧ addr < 0x20000000 then ⟨q, addr, data, 0⟩
  else ⟨q, if 0x40000000 ≤ addr then addr - 0x40000000 else addr, 4, data⟩

/-- A CHANGE cell's records join a standby's log where they follow it. -/
def State.changeRx (s : State) (c : List Byte) : State :=
  let word := fun i => (List.range 4).foldl (fun v k => v + fb c (4 + i + k) * 256 ^ k) 0
  let seq := fb c 4 + 256 * fb c 5
  (List.range ((fb c 2 - 2) / 8)).foldl (fun s k =>
    let q := (seq + k) % 65536
    if s.tth.acked = none ∨ q = s.tth.nextSeq then
      s.onTth fun r => { r with
        log := r.log ++ [cellRecord q (word (2 + 8 * k)) (word (6 + 8 * k))]
        nextSeq := (q + 1) % 65536
        acked := some q }
    else s) s |> fun s => s.wr Reg.TTH_LOG.FREE (8192 - s.tth.log.length)

/-- A BULK cell. On a standby the cells of a block gather, and the whole block is acknowledged: a block that a logged coil
write names waits for its record, another of resync step 1 is stored. On the ACTIVE a cell acknowledges the block at its
address. -/
def State.bulkRx (s : State) (c : List Byte) : State :=
  let data := (c.drop 4).take (fb c 2)
  let got := if cellFirst c then data else s.tth.bulkIn ++ data
  let addr := (List.range 4).foldl (fun v k => v + fb got k * 256 ^ k) 0
  if s.pairSt = 1 then
    s.onTth fun r => { r with bulkWait := r.bulkWait.filter fun q =>
      !(r.log.any fun x => decide (x.seq = q ∧ x.addr / 4096 = addr / 4096)) }
  else if cellLast c then
    let s := s.onTth fun r => { r with bulkIn := [], acks := r.acks ++ [addr] }
    let body := (got.drop 4).take 4096
    let logged := s.tth.log.any fun x => decide (x.addr / 4096 = addr / 4096)
    if s.pairSt = 2 ∧ s.rd Reg.TTH_RESYNC.STEP = 1 ∧ logged = false then
      let n := s.rd Reg.TTH_RESYNC_POS.POSITION + 1
      ((s.storeBytes addr body).wr Reg.TTH_RESYNC_POS.POSITION n).opMove 3 (s.rd Reg.CHIP_PROGRESS.PERCENT) n
    else s.onTth fun r => { r with staged := (addr, body) :: r.staged.filter fun b => decide (b.1 ≠ addr) }
  else s.onTth fun r => { r with bulkIn := got }

/-- A HEALTH cell on the ACTIVE shows in TTH_HEALTH_0 and TTH_HEALTH_1 (R316; log 243). -/
def State.healthRx (s : State) (c : List Byte) : State :=
  let word := fun i => BitVec.ofNat 32 ((List.range 4).foldl (fun v k => v + fb c (4 + i + k) * 256 ^ k) 0)
  let set := fun (s : State) (a : Nat) (v : Word) =>
    ((fieldsAt a).getD []).foldl (fun s f => s.wr f.ref (f.ref.part v)) s
  set (set s 0x140020 (word 0)) 0x140024 (word 4)

/-- A control cell of a lane: a Flitex lane's joins its buffer, a tether lane's goes to the tether engine. -/
def State.anyCell (s : State) (n : Nat) (c : List Byte) : State :=
  if s.role n = 4 then
    if s.tetherUp = false ∨ beBytes 2 (crc16 (c.take 62)) ≠ c.drop 62 then s
    else match fb c 0 with
      | 2 => if s.isStandby then s.changeRx c else s
      | 4 => if s.pairSt = 1 then s.healthRx c else s
      | 5 => if s.paired then s.bulkRx c else s
      | _ => s
  else s.cellRx n c

/-! ### The end of a tick (R314, R315, R322, R323) -/

/-- The standby writes the step's copy words, from the frame of the present tick. -/
def State.copyRx (s : State) : State :=
  if s.pairSt = 2 ∧ s.tth.rot = true then
    match s.tetherFrame s.tick with
    | none => s
    | some f =>
      let copy := f.w13.drop (f.w13.length - 1024)
      (s.copyWords.zip copy).foldl (fun s p => s.setXyWord p.1.1 p.1.2.1 p.1.2.2 p.2.1) s
  else s

/-- The digests of tick t − 3 are judged in the exchange window of tick t. -/
def State.judgeDigest (s : State) : State :=
  let k := (s.tick + 253) % 256
  let step4 := decide (s.pairSt = 2 ∧ s.rd Reg.TTH_RESYNC.STEP = 4)
  if s.tick < 3 ∨ ¬ (s.pairSt = 1 ∨ s.pairSt = 3 ∨ step4 = true) then s
  else match sfind k s.tth.own, sfind k s.tth.theirs with
    | some a, some b =>
      if a = b then
        (s.wr Reg.TTH_DIGEST.RUN 0).onTth fun r => { r with clean := if step4 then r.clean + 1 else r.clean }
      else
        let s := (s.bump Reg.TTH_DIGEST.MISMATCH 1).wr Reg.TTH_DIGEST.RUN (min 4 (s.rd Reg.TTH_DIGEST.RUN + 1))
        let s := s.onTth fun r => { r with clean := 0 }
        if 4 ≤ s.rd Reg.TTH_DIGEST.RUN ∧ s.pairSt ≠ 1 then s.toFaulty 1 else s
    | _, _ => s.onTth fun r => { r with clean := 0 }

/-- Compared mirror items (R313), as this chip holds them. -/
def State.mirrorCompared (s : State) : List Nat :=
  let cols := s.mtx.cols.flatMap fun p =>
    let c := p.2
    [p.1, c.live.kind] ++ (match c.change with
      | none => [0]
      | some x => [match x.phase with | .start => 1 | .waitZc => 2 | .splice => 3 | .waitCut => 4 | .dip => 5, s.tick - x.t0])
  let commits := s.mtx.commits.flatMap fun p => [p.1, p.2.state]
  let pages := sha256 ((List.range 192).flatMap fun e => (List.range 512).flatMap fun w => leBytes 4 (s.xyWord e false w).toNat)
  let open_ := sha256 (s.mtx.openList.flatMap fun x => leBytes 4 x.gain.toNat ++ leBytes 4 x.w1.toNat)
  let hitches := (s.str.runIn ++ s.str.runEg).flatMap fun p => [p.1, p.2.stat, p.2.frame]
  let braids := (List.range 64).flatMap fun b => [s.braidState b, (s.braid b).start]
  let streams := (s.net.ins.flatMap fun p => [p.1, p.2.run.toNat, p.2.first]) ++
    s.net.outs.flatMap fun p => [p.1, p.2.run.toNat, p.2.m0, p.2.n, p.2.seq]
  cols ++ commits ++ [pages, open_] ++ hitches ++ braids ++ streams

/-- The mirror items are taken at the end of tick B − 8. -/
def State.mirrorTake (s : State) : State :=
  if (s.pairSt = 1 ∨ s.followsPeer = true) ∧ (s.tick + 8) % max 1 (s.rd Reg.TTH_CTRL.MIRROR) = 0 then
    s.onTth fun r => { r with mirror := s.mirrorCompared }
  else s

/-- The tick's strands are recorded while a replay copy is open. -/
def State.record (s : State) : State :=
  let w := s.rd Reg.TTH_CONV.W
  let n := s.tth.since
  if s.pairSt = 2 ∧ s.tth.rot = true ∧ ((w ≤ n ∧ n < w + 32) ∨ (w + 224 ≤ n ∧ n < w + 256)) then
    s.onTth fun r => { r with heard := (r.heard ++ [s.str.cur]).drop (r.heard.length - 31) }
  else s

/-- A self-test that fails sends a standby to STANDBY_FAULTY; pattern checks pause under PREARM (R316). -/
def State.selfTest (s : State) (bad : Bool) : State :=
  if bad && s.isStandby && !s.on Reg.TTH_STATUS.PREARM then
    let s := s.onTth fun r => { r with health := { r.health with patfail := true } }
    if s.followsPeer then s.toFaulty 7 else s
  else s

/-- The pair in the exchange window and at the end of a tick. -/
def State.pairWindow (s : State) : State :=
  if s.paired then
    let s := s.fixApply
    let s := s.copyRx
    let s := s.judgeDigest
    let s := s.onTth fun r => { r with own := sset 0 (s.tick % 256) (s.digest + 1) r.own }
    let s := if s.tth.rot then s.onTth fun r => { r with sweepOwn := sset 0 (s.tick % 256) (s.sweep + 1) r.sweepOwn } else s
    let old := (s.tick + 128) % 256
    let s := s.onTth fun r => { r with own := serase old r.own, theirs := serase old r.theirs, sweepOwn := serase old r.sweepOwn }
    (s.mirrorTake).record
  else s

/-! ### Drive channels of a standby (R306, 11 R243) -/

/-- What the end of a diagnostic tells a standby: RETRIES of the retry it was, and what follows it (R241, R243; DEDUCED,
log 187). -/
def State.ampOutcome (s : State) (n st : Nat) : State :=
  let x := s.ampCh n
  let s := s.put (Reg.AMP_CH_CTRL.RUNDIAG n) false
  if st = 4 then
    let s := s.wr (Reg.AMP_CH_STATUS.DIAG_RES n) 1
    if x.retry then s.wr (Reg.AMP_CH_STATUS.RETRIES n) 0 else s
  else if x.retry ∧ s.on (Reg.AMP_CH_CTRL.EN n) = true then
    let r := s.rd (Reg.AMP_CH_STATUS.RETRIES n) + 1
    (s.wr (Reg.AMP_CH_STATUS.RETRIES n) (min r 3)).setAmp n { x with after := if 3 ≤ r then .locked else .latched }
  else s.setAmp n { x with after := .off }

/-- A standby's channel enters the state it received, with the pins of 11 R237. A stop has a ramp only from UNMUTE or RUN. -/
def State.ampEnter (s : State) (n st : Nat) : State :=
  let was := s.ampSt n
  let x := s.ampCh n
  let s := if was = 2 then s.ampOutcome n st else s
  let again := decide (was = 7)
  match st with
  | 1 => (s.setAmp n { x with retry := again, once := x.once && !again }).ampGo n 1 .low false false 0
  | 2 => s.ampGo n 2 .low true false 0
  | 3 => s.ampGo n 3 .idle true false 0
  | 4 => s.ampGo n 4 .modulated true true 0
  | 5 => s.ampGo n 5 .modulated true true 0
  | 6 => if was = 4 ∨ was = 5 then s.ampGo n 6 .modulated true true 0 else s.ampGo n 6 .idle true false 1
  | 7 => s.ampGo n 7 .low false x.rly (if x.rly then 0 else 1)
  | _ => s.ampGo n st .low false false 0

/-- A standby's channel in a tick: it follows the state it received, and the pins that move within a state keep its time. -/
def State.ampFollow (s : State) (n st : Nat) : State :=
  let x := s.ampCh n
  if st = s.ampSt n then
    let x := { x with t := x.t + 1 }
    let s := s.setAmp n x
    match s.ampDue n x.t with
    | some .relayClose => s.setAmp n { x with rly := true, part := 1, t := 0 }
    | some .relayOpen => s.setAmp n { x with rly := false, drive := .idle, part := 1, t := 0 }
    | some .latchRelay => s.setAmp n { x with rly := false, part := 1 }
    | some .phaseEnd => if s.diagPhase x.t ≤ 7 then s.diagPins n (s.diagPhase x.t) else s
    | some .retryReset => (s.setAmp n { x with part := 1 }).wr (Reg.AMP_CH_STATUS.RETRIES n) 0
    | _ => s
  else (s.ampEnter n st).ampFirst n

/-- The values d can have: in UNMUTE, in STOP, and at rest (11 R237). -/
def State.seqGains (s : State) : List (Nat × Nat) :=
  let up := s.msTicks 20
  let down := s.msTicks 10
  [(0, 1), (1, 1)] ++ (List.range up).map (fun k => (k + 1, up)) ++ (List.range down).map fun k => (down - (k + 1), down)

/-- The d that a received code stands for (log 186): the one that is sent so. -/
def State.seqGainOf (s : State) (w : Word) : Nat × Nat :=
  (s.seqGains.find? fun d => Config.seqGainWord d.1 d.2 = w).getD (0, 1)

/-- The drive words of a frame: g and d of a channel. -/
def State.gainOfFrame (s : State) (f : TetherRx) (n : Nat) : AmpGain :=
  let (num, den) := s.seqGainOf (f.w13.getD (17 + 3 * n) (0, 0)).1
  { g := sval (f.w13.getD (16 + 3 * n) (0, 0)).1, num := num, den := den }

/-- The received states and gains govern on a standby, two ticks after they were computed (11 R243): the state in the tick
that begins, the gains in the whipping of the next. With no frame the values last received stay. -/
def State.ampPeer (s : State) : State :=
  if s.isStandby then
    let f2 := s.tetherFrame (s.tick + 254)
    let f1 := s.tetherFrame (s.tick + 255)
    (List.range 32).foldl (fun s n =>
      let st := match f2 with
        | some f => twWord f.w13 (18 + 3 * n) % 16
        | none => s.ampSt n
      let s := s.ampFollow n st
      let x := s.ampCh n
      let g := (f1.map fun f => s.gainOfFrame f n).getD (x.gains.headD {})
      (s.setAmp n { x with g := g.g, gains := [g, g] }).wr (Reg.AMP_CH_PWR.GR n) ((code 32 g.g).toNat / 65536)) s
  else s

/-! ### The commands -/

/-- FLX_FRAME_TX (13 R279): at the marker instant a Flitex or tether lane sends the frame of the present tick, after as many
idle blocks or characters as have gone since the frame before. A lane whose TXEN is 0 sends none. -/
def execFlxFrameTx (n : Fin 16) (send : FlxSend) (s : State) : Out :=
  clocked (fun s =>
    if (s.role n.val = 2 ∨ s.role n.val = 3) ∧ s.on (Reg.FLX_CFG.TXEN n.val) = false then s
    else if s.role n.val = 2 then s.flx2Send n.val send.phase.toNat send.idle.toNat [] []
    else if s.role n.val = 3 then s.flx1Send n.val send.phase.toNat send.idle.toNat
    else if s.role n.val = 4 ∧ s.pairSt ≠ 0 then
      let s := s.fixApply
      let (cells, s) := s.tetherCells n.val
      s.flx2Send n.val send.phase.toNat send.idle.toNat (s.tetherWords n.val) cells
    else s) s

/-- CELL_RX (13 R288). -/
def execCellRx (n : Fin 16) (cell : List Byte) (s : State) : Out := core (fun s => s.anyCell n.val cell) s

/-- TETHER_FRAME (13 R293): the frames of the two lanes are deskewed and admitted. -/
def execTetherFrame (s : State) : Out := core (fun s => s.admitTether) s

/-- PEER_FAIL_EDGE (14 R317): the filtered PEER_FAIL_N falls or rises. A standby takes over at the next boundary.
Factory test mode ignores the pin (16 R364). -/
def execPeerFailEdge (low : Bool) (s : State) : Out :=
  core (fun s => if s.on Reg.FLT_TEST.TESTMODE then s else
    let was := s.on Reg.TTH_STATUS.PEER_FAIL
    let s := s.put Reg.TTH_STATUS.PEER_FAIL low
    if low && !was && decide (s.pairSt = 1) then s.raise Src.PAIR_PEER else s) s

/-- HEARTBEAT_LOSS (14 R317): the third tick without a heartbeat ends. -/
def execHeartbeatLoss (s : State) : Out :=
  clocked (fun s => if s.paired ∧ s.tth.beat = false ∧ s.tth.noBeat = 2 then s.countBeat else s) s

/-- TAKEOVER (14 R318): a standby with a trigger becomes ACTIVE at the coming boundary. -/
def execTakeover (s : State) : Out := clocked (fun s => if s.takeTrigger then s.takeOver (s.tick + 1) false else s) s

/-- PAIR_WAIT_EXPIRY (14 R301): PAIR_WAIT, or twice it on side 1, has passed since the start. -/
def execPairWaitExpiry (s : State) : Out :=
  core (fun s =>
    if s.pairSt = 4 ∧ s.tth.everTether = false ∧ s.tth.everActive = false ∧ s.on Reg.TTH_STATUS.PEER_ACTIVE = false ∧
      s.mayLead = true then s.toActive else s) s

/-- The pairing checks of R302; a failure on a chip that is not ACTIVE holds it in STANDBY_FAULTY. -/
def State.pairingChecks (s : State) (p : PeerInfo) : State :=
  let ok := decide (p.image = s.ctl.imageSha) && decide (p.part.toNat = s.rd Reg.CHIP_ID.PART) &&
    decide (p.rev.toNat = s.rd Reg.CHIP_REV.REV) && decide (p.side.toNat ≠ s.rd Reg.TTH_STATUS.SIDE) &&
    p.paired && decide (p.fam441.toNat = s.rd Reg.CLK_STATUS.FAMILY) && decide (p.mult.toNat = s.mult)
  let s := s.onTth fun r => { r with
    checked := ok, tickOfs := (p.tick : Int) - s.tick, health := if ok then {} else r.health }
  if ok then s
  else
    let s := (s.put Reg.TTH_STATUS.MISMATCH true).raise Src.PAIR_CHECK
    if s.pairSt = 1 then s
    else if s.pairSt = 4 then s.wr Reg.TTH_STATUS.REASON 5
    else s.toFaulty 5

/-- TETHER_UP (14 R302): both lanes are LOCKED, and a PAIRED chip runs the checks. -/
def execTetherUp (peer : PeerInfo) (delay : BitVec 10) (s : State) : Out :=
  core (fun s =>
    if s.pairSt = 0 ∨ s.tetherUp = true ∨ s.role 12 ≠ 4 ∨ s.role 13 ≠ 4 ∨ (s.laneRec 12).lock ≠ 3 ∨ (s.laneRec 13).lock ≠ 3 then s
    else
      let s := ((s.put Reg.TTH_STATUS.TETHER_UP true).wr Reg.TTH_DELAY.DELAY delay.toNat).onTth fun r => { r with
        everTether := true, frames := [], noTether := 0 }
      if s.paired then s.pairingChecks peer else s) s

/-- SPLIT_BRAIN_YIELD (14 R319): the ACTIVE that must yield does so. -/
def execSplitBrainYield (s : State) : Out :=
  clocked (fun s => let s := s.splitWatch; if s.yields then s.toFaulty 6 else s) s

/-- A write of TTH_CTRL (R320, R328). -/
def State.writeTthCtrl (s : State) (v : Word) : State :=
  s.guarded 0x140000 v fun s =>
    if v.getLsbD 0 then
      if s.pairSt = 1 ∧ s.peerSt = 3 then
        let m := max 1 (s.rd Reg.TTH_CTRL.MIRROR)
        (s.put Reg.TTH_CTRL.SWAP true).onTth fun r => { r with swapAt := some ((s.tick + 5 + m - 1) / m * m) }
      else ((s.put Reg.TTH_CTRL.SWAP false).put Reg.TTH_STATUS.SWAP_REF true).refused
    else s

/-- SWAP_REQUEST (14 R320): a write of TTH_CTRL. -/
def execSwapRequest (v : Word) (s : State) : Out :=
  core (fun s => s.control 0x140000 v fun s => s.writeTthCtrl v) s

/-- SWAP (14 R320): at mirror boundary B the writer becomes STANDBY_READY, and its READY partner ACTIVE. -/
def execSwap (s : State) : Out :=
  clocked (fun s =>
    if s.pairSt = 1 ∧ s.tth.swapAt = some (s.tick + 1) then s.swapOut
    else if s.pairSt = 3 ∧ s.mayLead = true ∧ (s.tick + 1) % max 1 (s.rd Reg.TTH_CTRL.MIRROR) = 0 then
      s.takeOver (s.tick + 1) true
    else s) s

/-- APPLY_SEQ_FIX (14 R310): the frame of tick B − 4 departs. -/
def execApplySeqFix (s : State) : Out := clocked (fun s => s.fixApply) s

/-- MIRROR_SNAPSHOT (14 R313): the end of tick B − 8. -/
def execMirrorSnapshot (s : State) : Out := clocked (fun s => s.mirrorTake) s

/-- A register word of an audio block loaded in place of the standby's own: its counts and status fields. -/
def State.loadStatus (s : State) (a : Nat) (v : Word) : State :=
  if 8 ≤ a / 65536 ∧ a / 65536 ≤ 17 then
    ((fieldsAt a).getD []).foldl (fun s f => match f.acc with
      | .ro => s.wr f.ref (f.ref.part v)
      | .rc => s.wr f.ref (f.ref.part v)
      | .w1c => s.wr f.ref (f.ref.part v)
      | _ => s) s
  else s

/-- A plan with the initial registers of an engine taken from another record of it. -/
def LayPlan.withInit (p : LayPlan) (e : Nat) (q : EnginePlan) : LayPlan :=
  { p with engines := p.engines.map fun x : Nat × EnginePlan =>
      if x.1 = e then (x.1, { x.2 with initD := q.initD, initA := q.initA, initAgu := q.initAgu, seed0 := q.seed0, seed1 := q.seed1 })
      else x }

/-- What step 1 copied that has no fabric address of its own (R321): register words load without the action of a write. -/
def State.bulkLoad (s : State) (x : BulkItems) : State :=
  let s := x.hitches.foldl (fun s h => s.onStr fun r =>
    let put := fun t => sset {} h.2.1 ⟨h.2.2.1, h.2.2.2⟩ t
    if h.1 then { r with egress := put r.egress } else { r with ingress := put r.ingress }) s
  let s := s.onMtx fun m =>
    let rows := x.rows.foldl (fun q p => sset {} p.1 { sget {} p.1 q with live := p.2 } q) m.rows
    let cols := x.lists.foldl (fun q p => sset {} p.1 { sget {} p.1 q with live := p.2 } q) m.cols
    { m with rows := rows, cols := cols }
  let s := x.inits.foldl (fun s p => s.setPlan s.liveBank (s.livePlan.withInit p.1 p.2)) s.placeGains
  let s := { s with livePage := x.pages.foldl (fun q p => sset 0 p.1 p.2 q) s.livePage }
  (x.regs.filter fun p => !actsLocally p.1).foldl (fun s p =>
    ((fieldsAt p.1).getD []).foldl (fun s f => match f.acc with
      | .rw => s.wr f.ref (f.ref.part p.2)
      | _ => s) s) s

/-- The items of a mirror boundary on a standby (R313, 09 R188), and in step 1 of a resync those that step copies without an
address of their own (R321; log 244). -/
def State.mirrorLoad (s : State) (x : MirrorItems) : State :=
  let s := (x.domains.zip (List.range 4)).foldl (fun s p =>
    let d := p.1
    ((s.setInc p.2 d.inc).setDomain p.2 { s.domain p.2 with d := d.d, ofs := d.ofs }).put (Reg.TIME_STATUS.SOURCE p.2) d.step) s
  let s := x.templates.foldl (fun s t => s.storeBytes t.1 t.2) s
  let s := x.counters.foldl (fun s c => s.loadStatus c.1 c.2) s
  let s := if s.pairSt = 2 ∧ s.rd Reg.TTH_RESYNC.STEP = 1 then s.bulkLoad x.bulk else s
  if x.compared = s.tth.mirror then s else s.toFaulty 8

/-- MIRROR_LOAD (14 R313): at mirror boundary B, the first instant of the present tick. -/
def execMirrorLoad (items : MirrorItems) (s : State) : Out :=
  clocked (fun s =>
    if s.followsPeer ∧ s.tick % max 1 (s.rd Reg.TTH_CTRL.MIRROR) = 0 then s.mirrorLoad items else s) s

/-- The lane after the one tested last, among the enabled lanes. -/
def State.nextMarginLane (s : State) : Option Nat :=
  let l := (List.range 16).map fun k => (s.tth.marginLane + k) % 16
  l.find? fun n => decide (s.role n ≠ 0)

/-- STBY_MARGIN_ROTATION (14 R316): every 10 s, unless PREARM pauses it. -/
def execStbyMarginRotation (s : State) : Out :=
  core (fun s =>
    if s.isStandby && !s.on Reg.TTH_STATUS.PREARM then
      match s.nextMarginLane with
      | some n => (s.put (Reg.LANE_MARGIN.START n) true).onTth fun r => { r with marginLane := (n + 1) % 16 }
      | none => s
    else s) s

/-- PREARM_END (14 R316): 1 s after SUPPLY_WARN. -/
def execPrearmEnd (s : State) : Out :=
  core (fun s => if s.tth.prearm then
    (s.put Reg.TTH_STATUS.PREARM (s.isStandby && (sget 0 0 s.tth.peer).getLsbD 21)).onTth fun r => { r with prearm := false }
    else s) s

/-- RESYNC_BULK_DONE (14 R321): every block is acknowledged, and the rotation starts on both chips. -/
def execResyncBulkDone (s : State) : Out :=
  clocked (fun s =>
    if s.pairSt = 2 ∧ s.rd Reg.TTH_RESYNC.STEP = 1 then
      ((s.wr Reg.TTH_RESYNC.STEP 2).onTth fun r => { r with rot := true, since := 0, heard := [] }).resyncShow
    else if s.pairSt = 1 ∧ s.peerSt = 2 then s.onTth fun r => { r with rot := true, since := 0 }
    else s) s

/-- RESYNC_ROTATE_DONE (14 R321). -/
def execResyncRotateDone (s : State) : Out :=
  clocked (fun s => if s.tth.rot ∧ s.rd Reg.TTH_RESYNC.STEP = 2 ∧ 192 ≤ s.tth.since + 1 then s.resyncStep (s.tth.since + 1) else s) s

/-- RESYNC_W_REACHED (14 R321): the replay copies begin. -/
def execResyncWReached (s : State) : Out :=
  clocked (fun s => if s.pairSt = 2 ∧ s.tth.rot = true ∧ s.tth.since + 1 = s.rd Reg.TTH_CONV.W then
    s.onTth fun r => { r with heard := [] } else s) s

/-- The blocks of the first replay copy run again over the recorded strands. -/
def State.replayMatrix (s : State) (x : ReplayItems) : State :=
  let put := fun (m : MtxState) => { m with
    rows := x.rows.foldl (fun q p => sset {} p.1 p.2 q) m.rows
    nom := x.noms.foldl (fun q p => sset {} p.1 p.2 q) m.nom
    cols := x.waits.foldl (fun q p => let c := sget {} p.1 q
      sset {} p.1 { c with change := c.change.map fun h => { h with cross := p.2 } } q) m.cols }
  let run := s.tth.heard.foldl (fun r bank => ({ r with str := { r.str with cur := bank } }.rowsBoundary).mtxPass) (s.onMtx put)
  s.onMtx fun m => { m with
    rows := run.mtx.rows
    nom := run.mtx.nom
    cols := run.mtx.cols.foldl (fun q p => let c := sget {} p.1 q
      sset {} p.1 { c with change := c.change.map fun h =>
        { h with cross := ((p.2.change.map ColChange.cross).getD h.cross) } } q) m.cols }

/-- The whipping stages of the second replay copy. -/
def State.replayWhips (s : State) (x : ReplayItems) : State :=
  let start := s.onEgr fun e => { e with whip := x.whips.foldl (fun q p => sset {} p.1 p.2 q) e.whip }
  let run := s.tth.heard.foldl (fun r bank => { r with str := { r.str with cur := bank } }.stTick.egressStage) start
  s.onEgr fun e => { e with whip := run.egr.whip }

/-- REPLAY_APPLY (14 R323): at the end of tick E + 32 the standby applies the state of E and replays. -/
def execReplayApply (items : ReplayItems) (s : State) : Out :=
  clocked (fun s =>
    let w := s.rd Reg.TTH_CONV.W
    if s.pairSt ≠ 2 ∨ s.tth.rot = false then s
    else if s.tth.since = w + 31 then s.record.replayMatrix items
    else if s.tth.since = w + 255 then s.record.replayWhips items
    else s) s

/-- RESYNC_CONVERGE_DONE (14 R321). -/
def execResyncConvergeDone (s : State) : Out :=
  clocked (fun s => if s.tth.rot ∧ s.rd Reg.TTH_CONV.W + 256 ≤ s.tth.since + 1 then s.resyncStep (s.tth.since + 1) else s) s

/-- RESYNC_READY (14 R321). -/
def execResyncReady (s : State) : Out := clocked (fun s => s.resyncReady) s

end Sys2Proof.Machine
end

