-- ==== Sys2Proof/Machine/Window.lean ====
section
/-! DEFINITION. The exchange window of a tick as the engines, the store, the coil pool and the matrix go
through it, and the start of the engines' programs (02 R21, R22; 03 R70-R74; 04 R98-R100; 05 R113; 16 R365). -/

namespace Sys2Proof.Machine

/-! ### The deadline and what is still in flight (R99, R100) -/

/-- Engines still issuing at the deadline overrun. -/
def State.overruns (s : State) : State :=
  (List.range 192).foldl (fun s e =>
    if s.engRuns e && (s.engine e).issuing then s.overrun e else s) s

/-- An engine's writes in flight and its coil deliveries complete: none is due later than 47 cycles after the
engine's last. -/
def State.flushEngine (s : State) (e : Nat) : State := s.settle e ((s.engine e).cyc + 47)

/-- What remains in an engine's write queue drains. -/
def State.drainAll (s : State) (e : Nat) : State :=
  (List.range (s.engine e).queue.length).foldl (fun s _ => s.drain e) s

/-- An engine at the end of its program: what is in flight completes and the write queue drains (R67, R100). -/
def State.engineEnd (s : State) (e : Nat) : State := (s.flushEngine e).drainAll e

/-- WAITCYC of an engine whose program ended in the completed tick, by WAIT or by an overrun (R101). -/
def State.noteWait (s : State) (e : Nat) : State :=
  let x := s.engine e
  match if x.ovr then some 0xFFFF else x.waitCyc with
  | some last =>
    ((s.wr (Reg.ENG_WAITCYC.LAST e) last).wr (Reg.ENG_WAITCYC.PEAK e)
      (max last (s.rd (Reg.ENG_WAITCYC.PEAK e)))).setEngine e { x with ovr := false, waitCyc := none }
  | none => s

/-! ### The store (02 R21, R22) -/

/-- An ENGINE slot: written by its engine in this tick, or substituted. -/
def State.engineSlot (s : State) (n : Nat) (d : SlotDef) : State :=
  let x := s.engine d.engine
  let ok := decide (sget 0 n s.str.fresh = d.engine + 1) && s.engRuns d.engine && !x.derr && !x.ovr
  if ok then
    s.onStr fun q => { q with last := sset {} n (sget {} n q.nxt) q.last, missing := serase n q.missing }
  else
    let (v, s) := s.substitute n d.hold
    s.onStr fun q => { q with nxt := sset {} n v q.nxt }

/-- A HOST slot keeps its value unless it was written. A HITCH slot is kept for a lay plan that makes it one. -/
def State.hostSlot (s : State) (n : Nat) : State :=
  if s.str.hostFresh.contains n then s
  else s.onStr fun q => { q with nxt := sset {} n (sget {} n q.cur) q.nxt }

/-- The next bank is completed. -/
def State.fillNext (s : State) : State :=
  s.livePlan.slots.foldl (fun s p => match p.2.cls with
    | .engine => s.engineSlot p.1 p.2
    | .host => s.hostSlot p.1
    | .hitch => s.hostSlot p.1
    | _ => s) s

/-! ### Error handling in the window (03 R72-R74, 16 R365) -/

/-- The word of X or Y memory, or the instruction, that a key of the error marks names. -/
def xyOfKey (k : Nat) : Nat × Bool × Nat := ((k - 2 ^ 32) / 131072, decide ((k - 2 ^ 32) / 65536 % 2 = 1), (k - 2 ^ 32) % 65536)
def progOfKey (k : Nat) : Nat × Nat × Nat := ((k - 2 * 2 ^ 32) / 8192, (k - 2 * 2 ^ 32) / 4096 % 2, (k - 2 * 2 ^ 32) % 4096)

/-- The memory a key belongs to. -/
def keyMem (k : Nat) : Nat := k / 2 ^ 32

/-- A word found in error in this tick is rewritten: corrected after a single-bit error in X, Y or the live program
bank, as 0 after a double-bit error in a region not marked constant. A word of the other bank is corrected at each
read (R72). -/
def State.rewriteMark (s : State) (p : Nat × EccMark) : State :=
  if p.2.seen = false then s
  else match keyMem p.1 with
    | 1 =>
      let (e, y, a) := xyOfKey p.1
      if p.2.double then
        if s.isConst e y a then s else (s.setXyWord e y a 0).eccClear (.xy e y a)
      else s.eccClear (.xy e y a)
    | 2 => if p.2.double || decide ((progOfKey p.1).2.1 ≠ s.liveBank) then s else { s with ecc := serase p.1 s.ecc }
    | _ => s

/-- The quads that an engine scrubber reads in one tick, by position: does it read the word of this key. -/
def scrubHits (pos : Nat) (k : Nat) : Bool :=
  let hit := fun q => decide (q = pos ∨ q = (pos + 1) % 28672)
  match keyMem k with
  | 1 => let (_, y, a) := xyOfKey k; hit ((if y then 12288 else 0) + a / 4)
  | 2 => let (_, b, i) := progOfKey k; hit (24576 + b * 2048 + i / 2)
  | _ => false

/-- An error in an instruction is found by a read other than an issue: handled as R72 gives for its bank. A bank that
is being loaded still shows LOADING (05 R122). -/
def State.progFound (s : State) (e b i : Nat) : State :=
  if b = s.liveBank then (s.fetch e i).2
  else
    match s.eccMark (.prog e b i) with
    | none => s
    | some m =>
      if m.seen then s
      else
        let s := s.eccSee (.prog e b i) m
        if m.double then
          let s := (s.noteDbe e (b * 4096 + i) 2 false).put (Reg.ENG_STATUS.OTHER_BAD e) true
          if s.rd Reg.ENG_LP_STATUS.OTHER = 1 then s else s.wr Reg.ENG_LP_STATUS.OTHER 3
        else s.bump (Reg.ENG_ECC.SBE e) 1

/-- The engine scrubber finds an error (R74): handled as R72 gives for its memory. -/
def State.scrubMark (s : State) (p : Nat × EccMark) : State :=
  if scrubHits s.lp.scrub p.1 && !p.2.seen then
    match keyMem p.1 with
    | 1 =>
      let (e, y, a) := xyOfKey p.1
      (s.readXY e y a).2
    | _ =>
      let (e, b, i) := progOfKey p.1
      s.progFound e b i
  else s

/-- The quad of each bank that the coil scrubber reads in a tick. -/
def coilScrubHits (pos q : Nat) : Bool := decide (q / 128 = pos / 16 ∧ q % 16 = pos % 16)

/-- The coil scrubber finds an error (16 R365). -/
def State.coilScrubMark (s : State) (p : Nat × EccMark) : State :=
  let q := p.1 - 3 * 2 ^ 32
  if keyMem p.1 = 3 ∧ coilScrubHits s.coil.scrub q = true then
    if p.2.double = false then (s.healthError false).eccClear (.coil q)
    else if s.quadReserved q then
      if p.2.seen then s else (s.eccSee (.coil q) p.2).raise Src.COIL_RESDBE
    else if s.coilConst q then
      (s.eccSee (.coil q) p.2).raise Src.COIL_DBE |>.onCoil fun c => { c with restore := c.restore ++ [q] }
    else (((s.healthError true).setQuad q 0).eccClear (.coil q)).raise Src.COIL_DBE
  else s

/-- The engines whose live plan marks a coil quad constant. -/
def State.constEngines (s : State) (q : Nat) : List Nat :=
  (s.livePlan.engines.filter fun p => p.2.consts.any fun c =>
    decide (c.region.mem = .coil ∧ c.region.lo ≤ q ∧ q ≤ c.region.hi)).map Prod.fst

/-- The quads of constant regions found by the coil scrubber before are restored from the reserved copy, once it is sound. -/
def State.coilRestore (s : State) : State :=
  let (ready, waits) := s.coil.restore.partition fun q => (s.constEngines q).all fun e => (s.copyBad e).isEmpty
  (ready.foldl (fun s q => s.eccClear (.coil q)) s).onCoil fun c => { c with restore := waits }

/-- The scrubs of a window. -/
def State.scrubs (s : State) : State :=
  let s := s.ecc.foldl State.scrubMark s
  let s := s.ecc.foldl State.rewriteMark s
  let s := s.coilRestore
  let s := s.ecc.foldl State.coilScrubMark s
  let s := s.onLp fun l => { l with scrub := (l.scrub + 2) % 28672 }
  s.onCoil fun c => { c with scrub := (c.scrub + 1) % 524288, served := [] }

/-! ### The window (R113) -/

/-- The exchange window up to the bank exchange. -/
def State.engineWindow (s : State) : State :=
  let s := s.overruns
  let s := (List.range 192).foldl State.engineEnd (s.banks fun _ => true)
  let s := s.mtxPass
  let s := s.copyPages
  let s := s.scrubs.fillNext
  (s.copyWhips).whipsDc

/-! ### The bank exchange and the start of a tick (R20, R98) -/

/-- The slots whose word the exchange keeps, with its error: HOST slots that no write of the tick sets (02 R21, R22). -/
def State.keptHosts (s : State) : List Nat :=
  (s.livePlan.slots.filter fun p => decide (p.2.cls = .host) && !s.str.hostFresh.contains p.1).map Prod.fst

/-- The bypass inputs of the live plan, each with the number of earlier ticks that its bypass reaches back (05 R104). -/
def State.bypassInputs (s : State) : List (Nat × Nat) :=
  s.livePlan.knots.flatMap fun k =>
    if k.bypass.isSome then k.bypIn.filterMap fun i => k.inputs[i]?.map fun n => (n, k.hops + k.delay - 1) else []

/-- The samples of the tick that ends join those of the ticks before, for the bypasses that need them. -/
def State.keepPast (s : State) : State :=
  let m := s.bypassInputs.foldl (fun (m : SMap (List Slot)) p =>
    sset [] p.1 ((s.peekSlot p.1 :: sget [] p.1 s.lp.past).take (max p.2 (sget [] p.1 m).length)) m) []
  s.onLp fun l => { l with past := m }

/-- The banks exchange roles at the boundary to tick t. -/
def State.exchange (s : State) (t : Nat) : State :=
  let late := s.str.late
  let kept := s.keptHosts
  let s := ((List.range 192).foldl State.noteWait s).keepPast
  let s := { s with tick := t, inWindow := false }
  let s := s.onStr fun q => { q with cur := q.nxt, nxt := [], fresh := [], hostFresh := [], late := [] }
  let s := { s with ecc := s.ecc.filter fun p => decide (2 ^ 32 ≤ p.1 ∨ kept.contains p.1) }
  let s := (s.wr Reg.STR_STATUS.SUBST_SLOTS (min s.str.substNow 8191)).onStr fun q => { q with substNow := 0 }
  let s := { s with ecc := s.ecc.map fun p => (p.1, { p.2 with seen := false }) }
  late.foldl State.hostSet s

/-- An engine in RUN starts its program at ECLK 0. -/
def State.startEngine (s : State) (e : Nat) : State :=
  if s.engRuns e then
    let x := s.engine e
    s.setEngine e { x with
      pc := (s.enginePlan e).entry.toNat, cyc := 0, issuing := true, loops := [], slots := none, fly := []
      lastDrain := none, derr := false, ovr := false, waitCyc := none }
  else s

/-- Every engine at the start of a tick. -/
def State.startEngines (s : State) : State := (List.range 192).foldl State.startEngine s

end Sys2Proof.Machine
end

