-- ==== Sys2Proof/Machine/Family.lean ====
section
/-! DEFINITION. A change of rate family and the relocking of the root (08 R165, R174, R175, R179; 09 R183, R186;
11 R245; 12 R270). -/

namespace Sys2Proof.Machine

/-- The family change is in a phase and its event is due at the coming boundary. -/
def State.familyDue (s : State) (phase ofs : Nat) : Bool :=
  match s.ref.family with
  | some f => decide (f.phase = phase) && decide (s.tick + 1 = f.tick + ofs)
  | none => false

/-- The family change enters a phase. -/
def State.familyPhase (s : State) (phase : Nat) : State :=
  s.onRef fun r => { r with family := r.family.map fun f => { f with phase := phase } }

/-- Ticks of hold at gain 0 after the gap, H (R175). -/
def State.holdTicks (s : State) : Nat := s.rd Reg.REF_ACQ.HOLD_TICKS

/-- Tick F: every output starts its ramp, and CLK_STATUS shows the change. -/
def State.familyBegin (s : State) : State := (s.familyPhase 1).put Reg.CLK_STATUS.RELOCK true

/-- Tick F + 16, the last at the old rate: every splice, cut and dip completes on its new list. -/
def State.familyLast (s : State) : State := (s.familyPhase 2).mtxComplete

/-- Tick F + 33 + H: the change is complete. -/
def State.familyEnd (s : State) : State :=
  ((s.put Reg.CLK_STATUS.RELOCK false).put Reg.REF_CTRL.FAMREQ false).onRef fun r => { r with family := none }

/-- What of R175 falls on the boundary to tick t. -/
def State.familyBoundary (s : State) (t : Nat) : State :=
  match s.ref.family with
  | none => s
  | some f =>
    let h := s.holdTicks
    if f.phase = 0 ∧ f.tick ≤ t then s.familyBegin
    else if f.phase ≤ 2 ∧ t = f.tick + 16 then s.familyLast
    else if f.phase = 5 ∧ t = f.tick + 17 + h then s.familyPhase 6
    else if (f.phase = 5 ∨ f.phase = 6) ∧ f.tick + 33 + h ≤ t then s.familyEnd
    else s

/-- A slot at a change of the live family (R165). -/
def State.slotFamily (s : State) (n : Nat) : State :=
  let st := s.slotState n
  if servesBoth (s.rd (Reg.REFS_CFG.SRC n)) then s
  else
    let other := decide (s.rd (Reg.REFS_STATUS.FAMILY n) ≠ s.rd Reg.CLK_STATUS.FAMILY)
    let t := s.rd (Reg.REFS_STATUS.QTIME n)
    if (st = 2 ∨ st = 3 ∨ st = 4) ∧ other = true then s.setSlotState n 6 t
    else if st = 6 ∧ other = false then s.setSlotState n (if s.acceptTime ≤ t then 3 else 2) t
    else s

/-- The clocks derived from RCLK stop, the clock outputs, the lines clocked by the node and the drive legs (11 R245) are low, and the root has no lock. Flitex lanes send idle. -/
def State.stopClocks (s : State) : State :=
  let s := { s with rclk := false, clkOut := [] }.put Reg.CLK_STATUS.ROOT_LOCK false
  let s := s.onSer fun r => { r with
    rx := r.rx.map fun p : Nat × RxPort => (p.1, { p.2 with fs := [] })
    tx := r.tx.map fun p : Nat × TxPort => (p.1, { p.2 with fs := [], line := [] }) }
  let s := s.onAmp fun a => { a with ch := a.ch.map fun p => (p.1, { p.2 with js := [], pulses := [] }) }
  (List.range 16).foldl (fun s n => if s.isFlx n then s.onLane n fun x => { x with out := [], outBytes := [], wire := [], codes := [] } else s) s

/-- Every domain on ROOT goes to STEP at an instant inside the present tick, after SC has run (09 R184, R186). -/
def State.stepAt (s : State) (eclk sixteenth sc : Nat) : State :=
  let s := s.runSc sc
  (List.range 4).foldl (fun s d =>
    if s.onStep d then s
    else
      let n := 16 * eclkPerTick s.mult
      let x := s.domain d
      (s.setDomain d { x with d := x.d + (16 * eclk + sixteenth) * s.inc d / n }).toStep d) s

/-- The start of RELOCK, at the last old-rate boundary: the live family changes, the slots follow, and the
domains go on in STEP (R165, R175, 09 R186). -/
def State.relock (s : State) (sc : Nat) : State :=
  let s := (s.netFlush.familyPhase 3).wr Reg.CLK_STATUS.FAMILY (1 - s.rd Reg.CLK_STATUS.FAMILY)
  let s := ((s.deselect).setDpll 7).stopClocks
  let s := (List.range 16).foldl State.slotFamily s
  s.timeTick sc

/-- The root has lock again (R161, R175): a chip that follows the tether is in TETHER; else the selector acts as MODE has
it (R166), a selected slot being acquired, or the root runs at nominal. -/
def State.rootAcquire (s : State) : State :=
  let s := ((s.put Reg.CLK_STATUS.ROOT_LOCK true).deselect.setDpll 0).condition Src.REF_HOLDOVER false
  let s := (s.onRef fun r => { r with acquiring := true, fromHoldover := false }).setOutput 0
  let s := if s.followsTether then s.standbyDpll else s.applyMode
  if s.dpll = 1 then s else s.onRef fun r => { r with acquiring := false }

/-- The warm restart of the live plan: state regions and state coils zeroed, initial registers loaded, constants
of the live family written (R175, 05 R112). Parameter pages and matrix lists stay. -/
def State.planRestart (s : State) : State :=
  let p := s.livePlan
  let s := p.knots.foldl State.zeroKnot s
  p.engines.foldl (fun s q =>
    let s := q.2.consts.foldl (fun s c => s.putConst q.1 c) s
    if s.engRuns q.1 then s.setEngine q.1 (loadRegs (s.engine q.1) q.2) else s) s

/-- ASRC lanes and decimation channels begin again at a new rate (10 R216, R224). -/
def State.convertersRestart (s : State) : State :=
  let s := (List.range 64).foldl (fun s l =>
    if s.rd (Reg.SAP_ASRC_STATUS.STATE l) = 0 then s else s.wr (Reg.SAP_ASRC_STATUS.STATE l) 1) s
  let s := s.onSer fun r => { r with asrc := [] }
  (List.range 96).foldl (fun s c => s.setDec c { s.decCh c with restart := true }) s

/-- What the first new-rate tick t finds: clocks run, INC_d is rescaled, streams and converters restart, noise
shapers are cleared (R175, 09 R183, 11 R245, 12 R270). -/
def State.newRate (s : State) (t : Nat) : State :=
  let fam := s.rd Reg.CLK_STATUS.FAMILY
  let s := { s with rclk := true }.familyPhase 5
  let s := s.rescaleInc (tickRate (1 - fam) s.mult) (tickRate fam s.mult)
  let s := (s.netRestart t).convertersRestart
  s.onAmp fun a => { a with ch := a.ch.map fun p => (p.1, { p.2 with errs := [], restart := true }) }

/-! ### The commands -/

/-- FAMILY_RAMP_OUT_START (08 R175): the coming boundary begins tick F. -/
def execFamilyRampOutStart (s : State) : Out := clocked (fun s => if s.familyDue 0 0 then s.familyBegin else s) s

/-- FAMILY_LAST_OLD_TICK (08 R175): the coming boundary begins tick F + 16. -/
def execFamilyLastOldTick (s : State) : Out :=
  clocked (fun s => if s.inWindow && s.familyDue 1 16 then s.familyLast else s) s

/-- FAMILY_HOLD_END (08 R175): the coming boundary begins tick F + 17 + H. -/
def execFamilyHoldEnd (s : State) : Out :=
  clocked (fun s => if s.familyDue 5 (17 + s.holdTicks) then s.familyPhase 6 else s) s

/-- FAMILY_RAMP_IN_END (08 R175): the coming boundary begins tick F + 33 + H. -/
def execFamilyRampInEnd (s : State) : Out :=
  clocked (fun s => if s.familyDue 6 (33 + s.holdTicks) then s.familyEnd else s) s

/-- Drive pins in their reset state: legs, PSE and relays off. -/
def State.pinsOff (s : State) : State :=
  s.onAmp fun a => { a with ch := a.ch.map fun p => (p.1, { p.2 with drive := .low, pse := false, rly := false }) }

/-- Every drive channel but one LOCKED_OFF is in OFF. -/
def State.ampAllOff (s : State) : State :=
  (List.range 32).foldl (fun s n => if s.ampSt n = 0 ∨ s.ampSt n = 8 then s else s.ampGo n 0 .low false false 0) s

/-- The enabled channels begin from OFF once the root has lock again (11 R238, R245; DEDUCED, log 189). -/
def State.ampRestart (s : State) : State :=
  (List.range 32).foldl (fun s n =>
    if s.on (Reg.AMP_CH_CTRL.EN n) = true ∧ s.ampSt n = 0 ∧ s.isStandby = false then
      s.ampBegin n (s.on (Reg.AMP_CH_CTRL.DIAG_EN n))
    else s) s

/-- A write of CLK_ROOT, at an instant of the present tick: FORCE_RELOCK stops the outputs until the root has
lock again (R179). -/
def State.writeClkRoot (s : State) (v : Word) (eclk sixteenth sc : Nat) : State :=
  s.guarded 0x10008 v fun s =>
    if Reg.CLK_ROOT.FORCE_RELOCK.part v = 1 ∧ s.rclk = true then
      ((((s.put Reg.CLK_ROOT.FORCE_RELOCK true).deselect).setDpll 7).stepAt eclk sixteenth sc).stopClocks.pinsOff.ampAllOff
    else s

/-- FORCE_RELOCK (08 R179): a write of CLK_ROOT. -/
def execForceRelock (v : Word) (eclk : BitVec 15) (sixteenth : BitVec 4) (sc : Nat) (s : State) : Out :=
  core (fun s => s.control 0x10008 v fun s => s.writeClkRoot v eclk.toNat sixteenth.toNat sc) s

/-- ROOT_RELOCKED (08 R175): the root locks; in a change of family the lay plan restarts warm. After
FORCE_RELOCK the clocks run again. -/
def execRootRelocked (s : State) : Out :=
  core (fun s =>
    if (s.ref.family.map FamilyStep.phase) = some 3 then (s.familyPhase 4).rootAcquire.planRestart
    else if s.on Reg.CLK_ROOT.FORCE_RELOCK then
      { (s.put Reg.CLK_ROOT.FORCE_RELOCK false).rootAcquire.ampRestart with rclk := true }
    else s) s

end Sys2Proof.Machine
end

