-- ==== Sys2Proof/Machine/Reset.lean ====
section
/-! DEFINITION. What holds the node in reset, what a cold and a warm start leave of its state, and the no-image
state (16 R358, R369, R371; 17 R374-R379, R387). -/

namespace Sys2Proof.Machine

/-- Changing the part `boot`. -/
def State.onBoot (s : State) (f : BootState → BootState) : State := { s with boot := f s.boot }

/-! ### CHIP_STATE (17 R401) -/

/-- CHIP_STATE.STATE: 1 HALT, 2 START, 3 HELD, 4 HOSTWAIT, 5 RUN, 6 NOIMAGE, 7 DORMANT. -/
def State.chipState (s : State) : Nat := s.rd Reg.CHIP_STATE.STATE

/-- The step of a start that runs, 0 while none does. -/
def State.startStep (s : State) : Nat := if s.chipState = 2 then s.rd Reg.CHIP_STATE.STEP else 0

/-- A change of CHIP_STATE, which is a cause of vector 1 (R397). -/
def State.setChip (s : State) (st : Nat) : State :=
  if s.chipState = st then s else (s.wr Reg.CHIP_STATE.STATE st).vector 1

/-- The node serves as in the no-image state: NOIMAGE, and HOSTWAIT, which R381 makes the same. -/
def State.noImageState (s : State) : Bool := decide (s.chipState = 6) || decide (s.chipState = 4)

/-! ### FAULT_N (14 R299, 16 R358, R363) -/

/-- PEND of a source. -/
def State.isPend (s : State) (n : Nat) : Bool := (s.rd (Reg.FLT_PEND.PEND (n / 32))).testBit (n % 32)

/-- A source with PIN = 1 has PEND set, and its reaction has come. -/
def State.pinPending (s : State) : Bool :=
  (List.range 111).any fun n => s.isPend n && s.on (Reg.FLT_SRC.PIN n) &&
    !(s.flt.reacting.any fun l => l.any fun r => decide (r.src = n))

/-- The chip is held in reset as far as FAULT_N shows it: a reason to hold, HALT, the no-image state, and a start
up to the root's lock. -/
def State.resetLow (s : State) : Bool :=
  s.held || decide (s.chipState = 1) || s.noImageState || decide (1 ≤ s.startStep ∧ s.startStep ≤ 4)

/-- FAULT_N falls when it must, and then stays low for 128 ECLK at least. -/
def State.showFaultN (s : State) : State :=
  let low := s.pinPending || s.resetLow || s.flt.stuckLow
  s.onFlt fun f =>
    if low then { f with faultLow := true, holding := f.holding || !f.faultLow }
    else if f.holding then f else { f with faultLow := false }

/-- FAULT_N falls, or stays low, for 128 ECLK at least. -/
def State.dropFaultN (s : State) : State := s.onFlt fun f => { f with faultLow := true, holding := true }

/-! ### What a start keeps (17 R379, R401; 03 R60, 08, 09, 11, 13, 14, 16) -/

/-- A register field, by its key and value, that a warm start keeps. -/
def warmKeeps (k v : Nat) : Bool :=
  let a := k / 32
  let lo := k % 32
  let off := a % 65536
  match a / 65536 with
  | 1 => true
  | 2 => true
  | 18 => true
  | 3 => !decide (0x10 ≤ off ∧ off < 0x50)
  | 4 => decide (off = 4 ∨ off = 8 ∨ off = 0xC ∨ off = 0x2C) || (decide (0x1000 ≤ off) && decide (lo = 6))
  | 5 => decide (off = 0x100) || decide (k = Reg.PWR_TEMP.SHUT_EV.key)
  | 9 => decide (k = Reg.ENG_LP_STATUS.LIVE.key)
  | 15 => decide (0x100 ≤ off) && decide (off % 0x20 = 0x10) && (decide (lo = 10) || (decide (lo = 0) && decide (v = 8)))
  | 20 => decide (k = Reg.TTH_STATUS.SIDE.key) || decide (k = Reg.TTH_STATUS.PEER_ACTIVE.key) || decide (k = Reg.TTH_STATUS.PEER_FAIL.key)
  | 21 => decide (0x20 ≤ off) || decide (k = Reg.BOOT_CTRL.WARMBIST.key) || decide (k = Reg.BOOT_STATUS.WARMFAIL.key)
  | _ => false

/-- The state with the register fields that `keep` names and every other field at its reset value; memories, time,
references, clocks and the always-on controller's records stay. -/
def State.cleared (s : State) (keep : Nat → Nat → Bool) : State :=
  { regs := s.regs.filter fun p : Nat × Nat => keep p.1 p.2
    mem := s.mem, livePage := s.livePage, ecc := s.ecc, free := s.free, held := s.held, rclk := s.rclk, clkOut := s.clkOut
    bus := s.bus, time := s.time, ref := s.ref, boot := s.boot, pending := s.pending
    tap := s.tap
    flt := { faultLow := s.flt.faultLow, holding := s.flt.holding, stuckLow := s.flt.stuckLow } }

/-- Some source is RAILBAD: FLT_RAIL stays pending (16 R363). -/
def State.railBadAny (s : State) : Bool := (List.range 256).any fun n => s.on (Reg.FLT_SRC.RAILBAD n)

/-- A warm start clears every PEND but that of FLT_RAIL while a source is RAILBAD (16 R361, R363; DEDUCED, log 309). -/
def State.keepRail (s : State) : State :=
  if s.railBadAny then
    let s := (s.wr (Reg.FLT_PEND.PEND 0) 1).wr Reg.FLT_CLASS.PENDING (2 ^ faultClass 0)
    { s with flt := { s.flt with applied := [(0, 1)] } }
  else s

/-- The state that a warm start begins with (R379): the time bases run on with what is pending on them (09 R186, R201). A change of rate family that was under way is over. -/
def State.warmClear (s : State) : State :=
  let s := (s.cleared warmKeeps).keepRail
  let s := { s with time := { s.time with snap := [] } }
  let s := s.onRef fun r => { r with family := none }
  (s.put Reg.CLK_STATUS.RELOCK false).put Reg.REF_CTRL.FAMREQ false

/-- The fields held in the always-on domain (18 R406): PWR_LAST, PWR_TEMP.SHUT_EV, BOOT_HASH_i and FLT_LAST_0-1. -/
def alwaysOn (k : Nat) : Bool :=
  let a := k / 32
  decide (a = 0x50100) || decide (k = Reg.PWR_TEMP.SHUT_EV.key) || decide (0x150020 ≤ a ∧ a < 0x150040) ||
    decide (a = 0x40004) || decide (a = 0x40008)

/-- The pins that the partner drives, as TTH_STATUS shows them. -/
def partnerPin (k : Nat) : Bool := decide (k = Reg.TTH_STATUS.PEER_ACTIVE.key) || decide (k = Reg.TTH_STATUS.PEER_FAIL.key)

/-- The state that a cold start begins with: only the flash and the always-on domain outlast it; where that domain
lost its supply too, only the record of the brown-out. -/
def State.coldClear (s : State) (aon : Bool) : State :=
  let s := s.cleared fun k _ => (if aon then alwaysOn k else decide (k / 32 = 0x50100)) || partnerPin k
  { s with
    time := {}, ref := {}, rclk := false, clkOut := [], held := false
    boot := { straps := s.boot.straps, flash := s.boot.flash, flashSize := s.boot.flashSize, notices := s.boot.notices }
    flt := { faultLow := s.flt.faultLow, holding := s.flt.holding } }

/-- A register field that outlasts a failed slot: the blocks that only a start resets, the state of boot, clocks,
references, time and supplies, and the fault records; the settings of the fault sources do not. -/
def slotKeeps (k v : Nat) : Bool :=
  let a := k / 32
  match a / 65536 with
  | 0 => true
  | 4 => decide (a % 65536 < 0x1000) || decide (4 ≤ k % 32)
  | 5 => true
  | 6 => true
  | 7 => true
  | 21 => true
  | 22 => true
  | _ => warmKeeps k v

/-- A slot has failed: what its sections wrote is gone (17 R384, R386). -/
def State.slotClear (s : State) : State :=
  let old := s
  { s.cleared slotKeeps with flt := old.flt, fab := old.fab, dma := old.dma, ctl := { ops := old.ctl.ops } }

/-! ### Starts (R375, R376, R378) -/

/-- A start begins. -/
def State.beginStart (s : State) (warm : Bool) (step : Nat) : State :=
  let s := ((s.wr Reg.CHIP_STATE.STATE 2).wr Reg.CHIP_STATE.STEP step).put Reg.CHIP_STATE.WARM warm
  (s.onBoot fun b => { b with tries := 0, retries := 0, acqOver := false, cold := false, keys := [] }).dropFaultN

/-- A cold start from step 1. -/
def State.coldStart (s : State) (aon : Bool) : State := (s.coldClear aon).beginStart false 1

/-- The no-image state (R387), or HOSTWAIT (R381): engines EMPTY, outputs in reset, the root in FREERUN in the
48 kHz family, MAC_M at MGMT_RATE with the OTP station address, FAULT_N and ACTIVE low. -/
def State.enterNoImage (s : State) (st reason : Nat) : State :=
  let s := (s.slotClear.wr Reg.BOOT_STATUS.NOIMG reason).opEnd 1
  let s := ((s.wr Reg.CLK_STATUS.FAMILY 0).setDpll 0).setOutput 0
  let s := (s.put (Reg.MAC_CTRL.EN 4) true).wr (Reg.MAC_CTRL.RATE 4) s.boot.otp.mgmtRate.toNat
  let s := (s.wr (Reg.MAC_ADDR_LO.ADDR 4) s.boot.otp.macAddr.toNat).wr (Reg.MAC_ADDR_HI.ADDR 4)
    (s.boot.otp.macAddr.toNat / 2 ^ 32)
  (s.setChip st).showFaultN

/-- HALT: every pin in reset, FAULT_N low, and only a cold start leaves it (R376). -/
def State.halt (s : State) : State := ({ s with held := true }.setChip 1).showFaultN

/-- A cold start that a warm cause meets before step 10 runs again from step 3: fuses and straps stand as read. -/
def fusesKeep (k : Nat) : Bool :=
  let a := k / 32
  decide (a < 0x14) || decide (a = Reg.HOST_PCI_ID.VENDOR.addr) || decide (k = Reg.TTH_STATUS.SIDE.key) ||
    decide (k = Reg.BOOT_STATUS.SEL.key) || decide (k = Reg.BOOT_STATUS.STRAP_BAD.key) || alwaysOn k || partnerPin k

/-- A cause of a warm start (R375): nothing leaves HALT or a reset that is held; the fourth attempt in a row that
follows three without step 10 enters the no-image state. -/
def State.warmStart (s : State) : State :=
  if s.held then s
  else if s.chipState = 2 ∧ s.on Reg.CHIP_STATE.WARM = false then
    if s.startStep < 3 then s
    else
      let s := { s.cleared (fun k _ => fusesKeep k) with time := {}, ref := {}, rclk := false, clkOut := [] }
      s.beginStart false 3
  else
    let n := s.rd Reg.BOOT_STATUS.WARMFAIL
    let s := { s.warmClear with rclk := s.on Reg.CLK_STATUS.XO_OK && s.on Reg.CLK_STATUS.ROOT_LOCK }
    if n = 3 then ((s.put Reg.CHIP_STATE.WARM true).dropFaultN).enterNoImage 6 14
    else (s.wr Reg.BOOT_STATUS.WARMFAIL (n + 1)).beginStart true 2

/-! ### Holding in reset (08 R161, 16 R369, R371) -/

/-- A reason to hold the core in reset arises: clocks derived from RCLK stop, pins go to their reset states, FAULT_N
is low. -/
def State.hold (s : State) (f : BootState → BootState) : State :=
  let s := (s.onBoot f).stopClocks.pinsOff
  ({ s with held := true }).dropFaultN

/-- A reason to hold ends. With none left the node starts, cold where any of them calls for it; but a warm start
does not leave HALT. -/
def State.release (s : State) (f : BootState → BootState) : State :=
  let cold := s.boot.cold
  let was := s.boot.pwr
  let s := s.onBoot f
  let b := s.boot
  if b.rst || b.clk || b.pwr || b.temp then s
  else if cold then s.coldStart (!(s.on Reg.PWR_LAST.AONLOST && was))
  else if s.chipState = 1 then s
  else { s with held := false }.warmStart

/-! ### The clock monitor (08 R161) -/

/-- FLT_LAST takes an event (16 R372). -/
def State.setLast (s : State) (src level tick : Nat) (escalated nobr : Bool) : State :=
  let s := ((s.wr Reg.FLT_LAST_0.SRC src).wr Reg.FLT_LAST_0.LEVEL level).put Reg.FLT_LAST_0.ESCALATED escalated
  ((s.put Reg.FLT_LAST_0.NOBR nobr).wr Reg.FLT_LAST_0.CLASS (faultClass src)).wr Reg.FLT_LAST_1.TICK tick

/-- XO loss or root unlock at an instant of the present tick: the source is recorded, and the core is held. A second
declaration while the core is held for the first sets its flag only (DESIGN CHOICE, log 129). -/
def State.clockLoss (s : State) (flag : FieldRef) (src eclk sixteenth sc : Nat) : State :=
  let s := s.put flag true
  if s.boot.clk then s
  else
    let s := if s.rclk then s.stepAt eclk sixteenth sc else s
    ((s.setLast src 4 s.tick false false).deselect.setDpll 7).hold fun b => { b with clk := true }

/-- XO_LOSS (08 R161). -/
def execXoLoss (eclk : BitVec 15) (sixteenth : BitVec 4) (sc : Nat) (s : State) : Out :=
  .next ((s.put Reg.CLK_STATUS.XO_OK false).clockLoss Reg.CLK_STATUS.XO_LOST Src.CLK_XO eclk.toNat sixteenth.toNat sc)

/-- ROOT_UNLOCK (08 R161). -/
def execRootUnlock (eclk : BitVec 15) (sixteenth : BitVec 4) (sc : Nat) (s : State) : Out :=
  .next (s.clockLoss Reg.CLK_STATUS.ROOT_UNLOCK Src.CLK_ROOT eclk.toNat sixteenth.toNat sc)

/-- XO_RECOVERY (08 R161): XO_IN has been good for 10 ms; the root relocks and the node performs a warm start. -/
def execXoRecovery (s : State) : Out :=
  .next (if s.boot.clk then
    let s := { s.put Reg.CLK_STATUS.XO_OK true with rclk := true }
    s.rootAcquire.release fun b => { b with clk := false }
  else s)

/-- ACQ_TIMEOUT (08 R174): ACQ_TMO has passed since the start of step 8. With no slot selected the node goes on in
FREERUN, and later slots qualify under ACCEPT_TIME. -/
def execAcqTimeout (s : State) : Out :=
  core (fun s => if s.ref.acquiring || decide (s.startStep = 8 ∨ s.startStep = 9) then
    (s.onRef fun r => { r with acquiring := decide (s.rd Reg.REF_STATUS.DPLL = 1) }).onBoot fun b => { b with acqOver := true }
  else s) s

/-! ### Reset pins and power (17 R375, R376) -/

/-- POWER_ON (17 R375): the supplies come up on a node that held no state. -/
def execPowerOn (s : State) : Out :=
  .next ({ State.cleared { s with tap := {}, mem := [], livePage := [], ecc := [], boot := { flash := s.boot.flash, flashSize := s.boot.flashSize } }
    (fun _ _ => false) with flt := {} }.coldStart false)

/-- RST_N_ASSERT (17 R375): the filtered falling edge of RST_N. -/
def execRstNAssert (s : State) : Out := .next (s.hold fun b => { b with rst := true, cold := true })

/-- RST_N_RELEASE (17 R375): the rising edge of RST_N. -/
def execRstNRelease (s : State) : Out :=
  .next (if s.boot.rst then s.release fun b => { b with rst := false } else s)

/-- WARM_N_FALL (17 R375): the filtered falling edge of WARM_N. -/
def execWarmNFall (s : State) : Out := .next s.warmStart

/-- WARM_START (17 R378): a warm cause. -/
def execWarmStart (s : State) : Out := .next s.warmStart

end Sys2Proof.Machine
end

