-- ==== Sys2Proof/Machine/Fault.lean ====
section
/-! DEFINITION. The fault collector: events, escalation, reactions, acknowledgement, rails, the watchdog and the
factory test mode (16 R357-R364). -/

namespace Sys2Proof.Machine

/-! ### Pending state (R361) -/

/-- PEND of a source set or cleared. -/
def State.setPend (s : State) (n : Nat) (b : Bool) : State :=
  let f := Reg.FLT_PEND.PEND (n / 32)
  let v := s.rd f
  let rest := v - (if v.testBit (n % 32) then 2 ^ (n % 32) else 0)
  s.wr f (rest + (if b then 2 ^ (n % 32) else 0))

/-- A class is pending: a source of the class has PEND set with an applied level of 1 or more. -/
def State.classPending (s : State) (c : Nat) : Bool :=
  s.flt.applied.any fun p => decide (faultClass p.1 = c) && decide (1 ≤ p.2)

/-- FLT_CLASS, the interrupt lines and vector 0 follow the pending sources (R357, 17 R397). -/
def State.showClasses (s : State) : State :=
  let bit := fun c : Nat => if s.classPending c then 2 ^ c else 0
  let s := s.wr Reg.FLT_CLASS.PENDING (bit 0 + bit 1 + bit 2 + bit 3)
  let some1 := s.flt.applied.any fun p => decide (1 ≤ p.2)
  let some2 := s.flt.applied.any fun p => decide (2 ≤ p.2)
  let s := s.onFlt fun f => { f with irq := f.irq && some1, nmi := f.nmi && some2 }
  if some1 then s else s.vectorClear 0

/-! ### Events (R358, R361) -/

/-- The sources whose block R360 resets. -/
def hasBlock (n : Nat) : Bool :=
  decide ((17 ≤ n ∧ n ≤ 20) ∨ (32 ≤ n ∧ n ≤ 65) ∨ (80 ≤ n ∧ n ≤ 108))

/-- One event of a cycle: its applied level is the source's, plus one where its class is pending and the source is
not fixed; PEND is set and the event counted. -/
def State.oneEvent (s : State) (pending : Bool) (n : Nat) : State × Reaction :=
  let own := if faultFixed n = 1 then faultDefaultLevel n else s.rd (Reg.FLT_SRC.LEVEL n)
  let esc := pending && decide (faultFixed n = 0) && decide (own < 4)
  let level := if esc then own + 1 else own
  let nobr := decide (level = 3) && !hasBlock n
  let acted := if nobr then 2 else level
  let s := (s.setPend n true).bump (Reg.FLT_SRC.COUNT n) 1
  let s := s.onFlt fun f => { f with applied := sset 0 n (max (sget 0 n f.applied) level) f.applied }
  let pin := if faultFixed n = 1 then faultDefaultPin n else s.rd (Reg.FLT_SRC.PIN n)
  (s, ⟨n, acted, esc, nobr, decide (pin = 1), s.tick⟩)

/-- The events of one FCLK cycle, in the order of their numbers; `c` lists the classes that are pending. -/
def State.decideAllEvents : List Nat → List Nat → State → State × List Reaction
  | [], _, s => (s, [])
  | n :: l, c, s =>
    let (s, r) := s.oneEvent (c.contains (faultClass n)) n
    let c := if r.level = 0 then c else faultClass n :: c
    let (s, rs) := State.decideAllEvents l c s
    (s, r :: rs)

/-- The first `k` events that have arrived are those of one cycle; a source that is RAILBAD takes no part. -/
def State.faultEvents (s : State) (k : Nat) : State :=
  let now := (s.flt.arriving.take k).filter fun n => !s.on (Reg.FLT_SRC.RAILBAD n)
  let s := s.onFlt fun f => { f with arriving := f.arriving.drop k }
  let c := (List.range 4).filter s.classPending
  let (s, rs) := State.decideAllEvents (ascending now) c s
  let s := if rs.isEmpty then s else s.onFlt fun f => { f with reacting := f.reacting ++ [rs] }
  s.showClasses

/-! ### Reactions (R357, R358, R360) -/

/-- The engines that a source's status flags. -/
def State.flaggedEngine (s : State) (n e : Nat) : Bool :=
  match n with
  | 17 => s.on (Reg.ENG_EXC.ILL e)
  | 18 => s.on (Reg.ENG_STATUS.OVERRUN e)
  | 19 => s.on (Reg.ENG_STATUS.DERR e)
  | _ => s.on (Reg.ENG_STATUS.PERR e)

/-- The drive channels that a source's status flags. -/
def State.flaggedAmp (s : State) (n k : Nat) : Bool :=
  match n with
  | 80 => s.on (Reg.AMP_CH_STATUS.LATCH_EV k)
  | 81 => decide (s.ampSt k = 8)
  | 82 => decide (2 ≤ s.rd (Reg.AMP_CH_STATUS.DIAG_RES k) ∧ s.rd (Reg.AMP_CH_STATUS.DIAG_RES k) ≤ 5)
  | 83 => s.on (Reg.AMP_CH_STATUS.SENSE_LOST k)
  | 84 => s.on (Reg.AMP_CH_STATUS.PLIM_ACT k)
  | _ => s.on (Reg.AMP_CH_STATUS.CFG_REFUSED k)

/-- The lanes that a source's status flags. -/
def State.flaggedLane (s : State) (n k : Nat) : Bool :=
  match n with
  | 91 => s.on (Reg.LANE_STATUS.LOS_EV k) || s.on (Reg.LANE_STATUS.LOL_EV k)
  | 92 => s.on (Reg.FLX_STATUS.LOCKLOST k)
  | 93 => decide (0 < (s.rd (Reg.FLX_CNT_0.SLIP k)))
  | 94 => decide (0 < (s.rd (Reg.FLX_CNT_0.FCRC k)))
  | _ => s.on (Reg.LANE_STATUS.CFG_REFUSED k) || s.on (Reg.FLX_STATUS.CFG_REFUSED k)

/-- A channel latches off by steps 1 to 4 of R241, with no retry. -/
def State.ampLatchOff (s : State) (k : Nat) : State :=
  let s := if 2 ≤ s.ampSt k ∧ s.ampSt k ≤ 6 then s.ampLatch k else s
  if s.ampSt k = 7 then s.setAmp k { s.ampCh k with noRetry := true } else s

/-- A lane restarts, as a write of LANE_nn_CFG makes it. -/
def State.laneRestart (s : State) (k : Nat) : State := s.acquire k

/-- A receive or transmit direction restarts in ACQUIRE at the next boundary (10 R210). -/
def State.portRestart (s : State) (i : Nat) : State :=
  let s := s.setRx i { s.rxPort i with staged := true }
  if i < 24 ∨ 32 ≤ i then s.setTx i { s.txPort i with staged := true } else s

/-- M5 is reset and the control queues restart (R360, 15 R342). -/
def State.queuesRestart (s : State) : State :=
  let s := s.retireMaster 5
  let s := (List.range 4).foldl (fun s q =>
    ((s.wr (Reg.NET_RXQ_PTR.HEAD q) 0).wr (Reg.NET_RXQ_PTR.TAIL q) 0).vectorClear (2 + q)) s
  (List.range 5).foldl (fun s i =>
    ((s.wr (Reg.NET_TXQ_PTR.HEAD i) 0).wr (Reg.NET_TXQ_PTR.TAIL i) 0).vectorClear (6 + i)) s

/-- The tether restarts; a STANDBY chip enters STANDBY_FAULTY (R360). -/
def State.tetherRestart (s : State) : State :=
  let s := ((s.retireMaster 4).laneRestart 12).laneRestart 13
  if s.isStandby then s.toFaulty 3 else s

/-- BLOCK_RESET of the block that owns a source (R360). -/
def State.blockReset (s : State) (n : Nat) : State :=
  if n ≤ 20 then
    ((List.range 192).filter (s.flaggedEngine n)).foldl (fun s e => (s.startReload e).put (Reg.ENG_CTRL.RELOAD e) true) s
  else if n ≤ 65 then s.portRestart (n - 32)
  else if n ≤ 85 then ((List.range 32).filter (s.flaggedAmp n)).foldl State.ampLatchOff s
  else if n ≤ 90 then s.queuesRestart
  else if n ≤ 95 then ((List.range 16).filter (s.flaggedLane n)).foldl State.laneRestart s
  else if n ≤ 102 then s.tetherRestart
  else s.dmaReset

/-- A reaction takes effect. -/
def State.react (s : State) (r : Reaction) : State :=
  if r.level = 0 then s
  else
    let s := (s.setLast r.src r.level (r.tick % 2 ^ 32) r.escalated r.nobr)
    let s := (s.onFlt fun f => { f with irq := true, nmi := f.nmi || decide (2 ≤ r.level) }).vector 0
    if r.level = 3 then s.blockReset r.src else s

/-- The reactions of one cycle take effect together; several CHIP_RESETs cause one warm start, and FLT_LAST holds the
first of them. -/
def State.reactions (s : State) : State :=
  match s.flt.reacting with
  | [] => s
  | rs :: rest =>
    let s := s.onFlt fun f => { f with reacting := rest }
    let s := rs.foldl State.react s
    match rs.find? fun r => decide (r.level = 4) with
    | some r => (s.react r).warmStart
    | none => (if rs.any fun r => r.pin && !s.flt.faultLow then s.dropFaultN else s).showFaultN

/-! ### Acknowledgement and settings (R361, R372) -/

/-- A write of FLT_PEND_n acknowledges the sources written as 1. -/
def State.writePend (s : State) (i : Nat) (v : Word) : State :=
  let s := (List.range 32).foldl (fun s j =>
    let n := 32 * i + j
    if v.getLsbD j && !(decide (n = 0) && s.railBadAny) then
      (s.setPend n false).onFlt fun f => { f with applied := serase n f.applied }
    else s) s
  s.showClasses.showFaultN

/-- A write of FLT_SRC_sss: ignored where LEVEL and PIN are fixed or the number is reserved. -/
def State.writeSrc (s : State) (n : Nat) (v : Word) : State :=
  if faultListed n = false ∨ faultFixed n = 1 then s
  else s.guarded (0x41000 + 4 * n) v State.showFaultN

/-! ### Rails and the test mode (R363, R364) -/

/-- A rail fault of a source. -/
def State.railFault (s : State) (n : Nat) : State :=
  if faultListed n then
    let s := if s.on Reg.FLT_RAIL_INFO.VALID then s
      else (s.wr Reg.FLT_RAIL_INFO.SRC n).put Reg.FLT_RAIL_INFO.VALID true
    let s := s.put (Reg.FLT_SRC.RAILBAD n) true
    let s := s.onFlt fun f => { f with arriving := f.arriving.filter fun m => !decide (m = n) }
    if n = 0 then (s.onFlt fun f => { f with stuckLow := true }).showFaultN else s.raise Src.FLT_RAIL
  else s

/-- A write of FLT_UNLOCK at a PCLK cycle: the three words in order, within 1,000 cycles, where the straps permit. -/
def State.writeUnlock (s : State) (v : Word) (pclk : Nat) : State :=
  let want := [0x0000C1BA#32, 0x00007E57#32, 0x0000FA17#32]
  let k := s.flt.unlock
  let start := if k = 0 then pclk else s.flt.unlockStart
  if want.getD k 0 = v ∧ pclk ≤ start + 1000 then
    if k = 2 then
      let s := s.onFlt fun f => { f with unlock := 0 }
      if s.boot.straps.test = 2 then s.put Reg.FLT_TEST.TESTMODE true else s
    else s.onFlt fun f => { f with unlock := k + 1, unlockStart := start }
  else s.onFlt fun f => { f with unlock := 0 }

/-- A write of FLT_INJ, which acts only in test mode. -/
def State.writeInj (s : State) (v : Word) : State :=
  if s.on Reg.FLT_TEST.TESTMODE then
    s.guarded 0x40028 v fun s =>
      if v.getLsbD 10 then
        let n := Reg.FLT_INJ.SRC.part v
        if Reg.FLT_INJ.MODE.part v = 0 then s.raise n else s.railFault n
      else s
  else s

/-! ### The commands -/

/-- FAULT_EVENT (16 R358): the first `k` events that have reached the collector are those of one FCLK cycle. -/
def execFaultEvent (k : Nat) (s : State) : Out := core (fun s => s.faultEvents k) s

/-- FAULT_REACTION (16 R358): 8 FCLK cycles after the earliest cycle whose reactions are due; FAULT_N follows. -/
def execFaultReaction (s : State) : Out := core State.reactions s

/-- FAULT_N_HOLD_END (16 R358): FAULT_N has been low for 128 ECLK. -/
def execFaultNHoldEnd (s : State) : Out := .next (s.onFlt fun f => { f with holding := false }).showFaultN

/-- FAULT_ACK (16 R361): a write of FLT_PEND_n. -/
def execFaultAck (n : Fin 8) (v : Word) (s : State) : Out := core (fun s => s.control (0x40040 + 4 * n.val) v fun s => s.writePend n.val v) s

/-- RAIL_FAULT (16 R363): a source's rails read equal for 2 cycles. -/
def execRailFault (n : Fin 256) (s : State) : Out := core (fun s => s.railFault n.val) s

/-- WDT_WRITE (16 R362): a write of FLT_WDT. -/
def execWdtWrite (v : Word) (s : State) : Out := core (fun s => s.control 0x40010 v fun s => s.guarded 0x40010 v id) s

/-- WDT_EXPIRY (16 R362): no write of FLT_WDT has come within WDT_MS. A WDT_MS of 0 stops the watchdog. -/
def execWdtExpiry (s : State) : Out :=
  core (fun s => if s.rd Reg.FLT_WDT.WDT_MS = 0 then s else s.raise Src.SUP_WDT) s

/-- FLT_UNLOCK_WRITE (16 R364): at a PCLK cycle. -/
def execFltUnlockWrite (v : Word) (pclk : Nat) (s : State) : Out := core (fun s => s.control 0x40024 v fun s => s.writeUnlock v pclk) s

/-- FAULT_INJECT (16 R364): a write of FLT_INJ. -/
def execFaultInject (v : Word) (s : State) : Out := core (fun s => s.control 0x40028 v fun s => s.writeInj v) s

end Sys2Proof.Machine
end

