-- ==== Sys2Proof/Machine/Power.lean ====
section
/-! DEFINITION. Supplies and temperature (16 R368-R371, R373). -/

namespace Sys2Proof.Machine

/-! ### Supplies (R368, R369) -/

/-- PWR_WARN is active while any rail is below its warning level. -/
def State.warnActive (s : State) : State :=
  s.put (Reg.FLT_SRC.ACTIVE Src.PWR_WARN) ((List.range 6).any fun r => s.on (Reg.PWR_RAIL_STATUS.WARN r))

/-- A rail dips below its warning level, to `mv` so far: the record of the dip begins and PREARM is set. -/
def State.supplyWarn (s : State) (r mv : Nat) : State :=
  let s := (s.put (Reg.PWR_RAIL_STATUS.WARN r) true).put (Reg.PWR_RAIL_STATUS.WARN_EV r) true
  let s := (s.wr (Reg.PWR_RAIL_DIP.MINV r) mv).wr (Reg.PWR_RAIL_DIP.DUR r) 0
  let s := (s.onTth fun t => { t with prearm := true }).put Reg.TTH_STATUS.PREARM true
  (s.raise Src.PWR_WARN).warnActive

/-- The rail returns above the level plus hysteresis: the dip's minimum and duration stand. -/
def State.supplyBack (s : State) (r mv us : Nat) : State :=
  if s.on (Reg.PWR_RAIL_STATUS.WARN r) then
    let s := (s.put (Reg.PWR_RAIL_STATUS.WARN r) false).wr (Reg.PWR_RAIL_DIP.MINV r) (min mv (s.rd (Reg.PWR_RAIL_DIP.MINV r)))
    (s.wr (Reg.PWR_RAIL_DIP.DUR r) (min us (2 ^ 20 - 1))).warnActive
  else s

/-- PWR_LAST takes a brown-out of a rail with its lowest voltage. -/
def State.recordDip (s : State) (r mv : Nat) : State :=
  ((s.wr Reg.PWR_LAST.RAIL r).wr Reg.PWR_LAST.MINV mv).put Reg.PWR_LAST.VALID true

/-- A rail below its reset level (R369): VDD_AON takes the always-on state with it. -/
def State.brownOut (s : State) (r mv eclk sixteenth sc : Nat) : State :=
  let s := if s.rclk then s.stepAt eclk sixteenth sc else s
  let s := (s.recordDip r mv).put Reg.PWR_LAST.AONLOST (s.boot.pwr && s.on Reg.PWR_LAST.AONLOST || decide (r = 2))
  s.hold fun b => { b with pwr := true, cold := b.cold || decide (r = 2) }

/-- A dip of a SerDes rail: every lane loses lock and recalibrates. -/
def State.serdesDip (s : State) : State :=
  (List.range 16).foldl (fun s n => ((s.lolAssert n).put (Reg.LANE_STATUS.CAL_DONE n) false).acquire n) s

/-! ### Temperature (R370, R371) -/

/-- A reading of the sensors, highest first found, and of the rails. -/
def State.sample (s : State) (t : BitVec 8) (mv : List (BitVec 12)) : State :=
  let s := ((List.range 6).zip mv).foldl (fun s p => s.wr (Reg.PWR_RAIL_STATUS.VNOW p.1) p.2.toNat) s
  let low := fun (h : Health) => match mv.head? with
    | some v => { h with vmin := some (min (h.vmin.getD v.toNat) v.toNat) }
    | none => h
  let s := s.onTth fun r => { r with health := low r.health }
  let v := t.toInt
  let s := s.wr Reg.PWR_TEMP.TNOW t.toNat
  let peak := Reg.PWR_TEMP.TPEAK.signed (s.rd Reg.PWR_TEMP.TPEAK)
  let s := if peak < v then s.wr Reg.PWR_TEMP.TPEAK t.toNat else s
  let lim : Int := s.rd Reg.PWR_TEMP_CFG.TWARN
  let hyst : Int := s.rd Reg.PWR_TEMP_CFG.THYST
  let show_ := fun (s : State) (b : Bool) => (s.put Reg.PWR_TEMP.WARN b).put (Reg.FLT_SRC.ACTIVE Src.TEMP_WARN) b
  if s.on Reg.PWR_TEMP.WARN then (if v < lim - hyst then show_ s false else s)
  else if lim ≤ v then (show_ s true).raise Src.TEMP_WARN
  else s

/-! ### The commands -/

/-- SUPPLY_WARN (16 R368): a rail below its warning level, beyond the filter. -/
def execSupplyWarn (r : Fin 6) (mv : BitVec 12) (s : State) : Out := core (fun s => s.supplyWarn r.val mv.toNat) s

/-- RAIL_WARN_RECOVERY (16 R368): the lowest voltage and the duration of the dip in µs. -/
def execRailWarnRecovery (r : Fin 6) (mv : BitVec 12) (us : Nat) (s : State) : Out :=
  core (fun s => s.supplyBack r.val mv.toNat us) s

/-- BROWN_OUT (16 R369) of rail 0, 1, 2 or 5, at an instant of the present tick. -/
def execBrownOut (r : Fin 6) (mv : BitVec 12) (eclk : BitVec 15) (sixteenth : BitVec 4) (sc : Nat) (s : State) : Out :=
  .next (if r.val = 3 ∨ r.val = 4 then s else s.brownOut r.val mv.toNat eclk.toNat sixteenth.toNat sc)

/-- BROWNOUT_RELEASE (16 R369): the rails have been good for 2 ms; the lowest voltage of the dip stands. -/
def execBrownoutRelease (mv : BitVec 12) (s : State) : Out :=
  .next (if s.boot.pwr then
    let s := s.wr Reg.PWR_LAST.MINV (min mv.toNat (s.rd Reg.PWR_LAST.MINV))
    let s := s.onBoot fun b => { b with notices := b.notices ++ [Src.PWR_BROWNOUT] }
    s.release fun b => { b with pwr := false }
  else s)

/-- SERDES_RAIL_DIP (16 R369): VDDA_SD or VDDH_SD below its reset level. -/
def execSerdesRailDip (s : State) : Out := core State.serdesDip s

/-- TEMP_SAMPLE (16 R370): the highest junction reading in °C, and the rail voltages in mV by rail. -/
def execTempSample (t : BitVec 8) (mv : List (BitVec 12)) (s : State) : Out := core (fun s => s.sample t mv) s

/-- THERMAL_SHUTDOWN (16 R371): a reading at or above 120 °C for 1 ms, at an instant of the present tick. -/
def execThermalShutdown (eclk : BitVec 15) (sixteenth : BitVec 4) (sc : Nat) (s : State) : Out :=
  .next (
    let s := if s.rclk then s.stepAt eclk.toNat sixteenth.toNat sc else s
    (s.put Reg.PWR_TEMP.SHUT_EV true).hold fun b => { b with temp := true })

/-- THERMAL_RESTART (16 R371): every reading has stayed below 95 °C for 10 s. -/
def execThermalRestart (s : State) : Out :=
  .next (if s.boot.temp then
    let s := s.onBoot fun b => { b with notices := b.notices ++ [Src.TEMP_SHUT] }
    s.release fun b => { b with temp := false }
  else s)

end Sys2Proof.Machine
end

