-- ==== Sys2Proof/Machine/Chip.lean ====
section
/-! DEFINITION. CHIP_CTRL and BOOT_CTRL: warm starts, the dormant state, coil clears, HELD and the host's image
(17 R381, R388, R389, R401). -/

namespace Sys2Proof.Machine

/-! ### Coil clear (R389, R401) -/

/-- The coils that regions of the live plan's knots take. -/
def Knot.coils (k : Knot) : List (Nat × Nat) :=
  (k.state ++ k.consts).filterMap fun r => match r.mem with
    | .coil => some (r.lo / 256, r.hi / 256 + 1 - r.lo / 256)
    | _ => none

/-- Every coil that the live plan, the reserved copy or a jitter buffer uses, as first coil and count. -/
def State.usedCoils (s : State) : List (Nat × Nat) := s.coilsInUse 512 ++ s.livePlan.knots.flatMap Knot.coils

/-- A coil lies in one of the runs. -/
def coilIn (l : List (Nat × Nat)) (k : Nat) : Bool := l.any fun c => decide (c.1 ≤ k ∧ k < c.1 + c.2)

/-- The unused coils are zeroed. -/
def State.clearCoils (s : State) : State :=
  let used := s.usedCoils
  let freeByte := fun a : Nat => decide (coilBase ≤ a ∧ a < 0x14000000) && !coilIn used ((a - coilBase) / 4096)
  let freeMark := fun k : Nat => decide (k / 2 ^ 32 = 3) && !coilIn used (k % 2 ^ 32 / 256)
  { s with
    mem := s.mem.filter fun p : Nat × Byte => !freeByte p.1
    ecc := s.ecc.filter fun p : Nat × EccMark => !freeMark p.1 }

/-- COILCLR: the coils are zeroed under OP 5. -/
def State.coilClear (s : State) : State :=
  if s.on Reg.CHIP_CTRL.COILCLR then s else (s.clearCoils.put Reg.CHIP_CTRL.COILCLR true).opStart 5

/-- The clear ends: POSITION has counted the coils. -/
def State.coilClearDone (s : State) : State :=
  if s.on Reg.CHIP_CTRL.COILCLR then
    let n := 16384 - ((List.range 16384).filter (coilIn s.usedCoils)).length
    ((s.opMove 5 100 n).opEnd 5).put Reg.CHIP_CTRL.COILCLR false
  else s

/-! ### The dormant state (R388) -/

/-- DORMANT in RUN: outputs begin their ramp out, and drive channels stop. -/
def State.dormantAsk (s : State) : State :=
  if s.chipState = 5 ∧ s.ctl.dormantReq = false then
    let s := (s.onEgr fun e => { e with outWant := true }).onCtl fun c => { c with dormantReq := true }
    (List.range 32).foldl (fun s n =>
      s.writeAmpCtrl n (s.word ((fieldsAt (0xF0100 + n * 0x20)).getD []) &&& ~~~1#32)) s
  else s

/-- Once every output is silent and every channel stopped, lanes stop, core clocks are gated and domains go on in
STEP. -/
def State.dormantEnter (s : State) : State :=
  let still := (List.range 32).all fun n => decide (s.ampSt n = 0 ∨ 7 ≤ s.ampSt n)
  if s.ctl.dormantReq && decide (s.egr.out = .muted) && still then
    let s := s.onCtl fun c => { c with dormantReq := false }
    let s := (List.range 16).foldl (fun s n =>
      if decide (n < 4) && decide (s.role n = 1) && s.wakeMac n then s else (s.leaveLocked n).setLock n 0) s
    let s := (List.range 4).foldl State.toStep s
    { s with rclk := false, clkOut := [] }.setChip 7
  else s

/-- A frame reaches a MAC. One that matches a wake pattern ends the dormant state with a warm start, and MAC_WAKE holds
its record. -/
def State.macArrive (s : State) (mac : Nat) (l : List Byte) (pcsErr : Bool) (at' : RxInstant) : State :=
  let woke := s.on Reg.MAC_WAKE.WOKE
  let t := (s.put Reg.MAC_WAKE.WOKE false).macReceive mac l pcsErr at'
  if t.on Reg.MAC_WAKE.WOKE then
    if s.dormant then t.warmStart.wakeEvent (t.rd Reg.MAC_WAKE.PATTERN) else t
  else t.put Reg.MAC_WAKE.WOKE woke

/-! ### CHIP_CTRL and BOOT_CTRL -/

/-- DORMANT and COILCLR of a write of CHIP_CTRL. -/
def State.writeChipLogged (s : State) (v : Word) : State :=
  let s := if v.getLsbD 1 then s.dormantAsk else s
  if v.getLsbD 2 then s.coilClear else s

/-- A write of CHIP_CTRL: WARM acts locally in a pair, DORMANT and COILCLR are control changes (R401). -/
def State.writeChipCtrl (s : State) (v : Word) : State :=
  let s := if v.getLsbD 1 || v.getLsbD 2 then
      s.controlMem 0x100 4 (v &&& 6#32).toNat fun s => s.writeChipLogged v else s
  if v.getLsbD 0 then s.warmStart else s

/-- A write of BOOT_CTRL (R381): RUN leaves HELD for step 9; HOSTGO in HOSTWAIT begins the check of the host's image. -/
def State.writeBootCtrl (s : State) (v : Word) : State :=
  s.guarded 0x150004 v fun s =>
    let s := if v.getLsbD 0 && decide (s.chipState = 3) then
        ((s.wr Reg.CHIP_STATE.STEP 9).onBoot fun b => { b with acqOver := false }).setChip 2 else s
    if v.getLsbD 1 && decide (s.chipState = 4) then
      ((((s.put Reg.BOOT_CTRL.HOSTGO true).wr Reg.CHIP_STATE.STEP 7).onBoot fun b => { b with source := 2 }).setChip 2).opStart 1
    else s

/-- A write of BOOT_HOSTIMG: at most 33,554,432 bytes. -/
def State.writeHostImg (s : State) (v : Word) : State :=
  if 33554432 < Reg.BOOT_HOSTIMG.LEN.part v then s.refuseWrite 0x150008 else s.guarded 0x150008 v id

/-- A write of BOOT_CTRL that keeps WARMBIST. -/
def State.bootWrite (s : State) (bit : Word) : State :=
  let v := s.word ((fieldsAt 0x150004).getD []) &&& 4#32 ||| bit
  s.control 0x150004 v fun s => s.writeBootCtrl v

/-! ### The commands -/

/-- MAC_RX_FRAME (12 R250): the frame's bytes up to its FCS, whether it carried a PCS coding error, the ECLK at which it
completes, its timestamp point (09 R189), and the SC cycles until its completion. -/
def execMacRxFrame (i : Fin 5) (bytes : List Byte) (pcsErr : Bool) (done : BitVec 15) (sfd : SfdPoint) (sc : Nat)
    (s : State) : Out :=
  core (fun s => (s.runSc sc).macArrive i.val bytes pcsErr
    ⟨done.toNat, sfd.back, sfd.eclk.toNat, sfd.sixteenth.toNat, sfd.sc⟩) s

/-- CHIP_WARM (17 R401): a write of CHIP_CTRL with WARM. -/
def execChipWarm (s : State) : Out := core (fun s => s.writeChipCtrl 1) s

/-- DORMANT (17 R388): a write of CHIP_CTRL with DORMANT. -/
def execDormant (s : State) : Out := core (fun s => s.writeChipCtrl 2) s

/-- COILCLR (17 R401): a write of CHIP_CTRL with COILCLR. -/
def execCoilclr (s : State) : Out := core (fun s => s.writeChipCtrl 4) s

/-- COILCLR_DONE (17 R389). -/
def execCoilclrDone (s : State) : Out := core State.coilClearDone s

/-- BOOT_RUN (17 R381): a write of BOOT_CTRL with RUN. -/
def execBootRun (s : State) : Out := core (fun s => s.bootWrite 1) s

/-- HOSTGO (17 R381): a write of BOOT_CTRL with HOSTGO. -/
def execHostgo (s : State) : Out := core (fun s => s.bootWrite 2) s

end Sys2Proof.Machine
end

