-- ==== Sys2Proof/Machine/Trigger.lean ====
section
/-! DEFINITION. The resolution of time triggers by their owners: braids, lay-plan switches, commits and start groups
(09 R197-R199). -/

namespace Sys2Proof.Machine

/-- A time trigger's own S and whether it is late, if it resolves; nothing for other triggers. -/
def Trig.timed (f : Nat → Nat → Nat → Option (Nat × Bool)) : Trig → Option (Nat × Bool)
  | .ptp d sec ns => f d sec ns
  | _ => none

/-- A braid's trigger resolves. -/
def State.resolveBraid (s : State) (f : Trig → Option (Nat × Bool)) (b : Nat) : State :=
  match (s.braid b).armed.bind f with
  | some (_, true) => s.braidLate b
  | some (k, false) => s.onBraid b fun x => { x with armed := some (.tick k) }
  | none => s

/-- The lay-plan switch's trigger resolves, and its ramp-out is placed. -/
def State.resolvePlan (s : State) (f : Trig → Option (Nat × Bool)) : State :=
  match s.lp.armed.bind f with
  | some (_, true) => s.lpLate
  | some (k, false) => ((s.onLp fun l => { l with armed := some (.tick k) }).rampOut k).showRamps
  | none => s

/-- A pending commit's trigger resolves; a late one starts nothing. -/
def State.resolveCommit (s : State) (f : Trig → Option (Nat × Bool)) (n : Nat) : State :=
  match (sfind n s.mtx.commits).bind fun c => if c.state = 1 then f c.trig else none with
  | some (_, true) => (s.onCommit n fun c => { c with state := 3, refused := c.columns.length }).put Reg.MTX_STATUS.CM_REFUSED true
  | some (k, false) => s.onCommit n fun c => { c with trig := .tick k }
  | none => s

/-- A start group's trigger resolves. -/
def State.resolveGroup (s : State) (f : Trig → Option (Nat × Bool)) (g : Nat) : State :=
  match (sfind g s.net.grp).bind f with
  | some (_, true) => s.groupLate g
  | some (k, false) => s.onNet fun r => { r with grp := sinsert g (.tick k) r.grp }
  | none => s

/-- The pending trigger of an owner, by the owner's code: braids 0-63, the lay-plan switch 64, commit IDs 80-95, start
groups 96-111. -/
def State.ownerTrig (s : State) (o : Nat) : Option Trig :=
  if o < 64 then (s.braid o).armed
  else if o = 64 then s.lp.armed
  else if o < 96 then (s.mtx.commits.find? fun p => decide (p.1 % 16 = o - 80 ∧ p.2.state = 1)).map fun p => p.2.trig
  else sfind (o - 96) s.net.grp

/-- The trigger of an owner resolves by f. -/
def State.resolveWith (s : State) (f : Trig → Option (Nat × Bool)) (o : Nat) : State :=
  if o < 64 then s.resolveBraid f o
  else if o = 64 then s.resolvePlan f
  else if o < 96 then
    (s.mtx.commits.map (·.1)).foldl (fun s n => if n % 16 = o - 80 then s.resolveCommit f n else s) s
  else s.resolveGroup f (o - 96)

/-- The owners of triggers, in the order of their units. -/
def trigOwners : List Nat := List.range 65 ++ (List.range 32).map (· + 80)

/-- Ticks ahead of S within which a record of the change log that carries S may come too late for the standby: the log's
delay (14 R310) and a margin. -/
def resolveMargin : Nat := 64

/-- The address, outside every memory and block, under which the change log carries an owner's S. -/
def trigAddr (o : Nat) : Nat := 0x170000 + o

/-- The ACTIVE chip's S for an owner joins the change log, where there is room (R199; DESIGN CHOICE, log 144). -/
def State.sendTrig (s : State) (o k : Nat) : State :=
  if s.pairSt = 1 ∧ s.tth.log.length < 8192 then s.logRecord (trigAddr o) 4 (k % 2 ^ 32) else s

/-- An owner's trigger resolves at boundary k0 where its time comes within reach, with the domains as `u` has them (R197,
R198). The ACTIVE chip sends S to its standby, and a standby waits for it; but an S too near for that each chip
finds itself, from times that R188 keeps equal (R199). -/
def State.resolveOne (s u : State) (k0 o : Nat) : State :=
  let far := fun r : Nat × Bool => decide (k0 + resolveMargin < r.1)
  match (s.ownerTrig o).bind (Trig.timed (u.resolve k0)) with
  | none => s
  | some r =>
    if s.isStandby && far r then s
    else
      let s := s.resolveWith (Trig.timed (u.resolve k0)) o
      if far r then s.sendTrig o r.1 else s

/-- Every trigger that resolves at the boundary of the present tick. -/
def State.resolveAll (s : State) : State := trigOwners.foldl (fun s o => s.resolveOne s s.tick o) s

/-- The S that a record of the change log carries for an owner: a standby whose trigger is not resolved takes it as a
tick-count trigger (R199). -/
def State.adoptTrig (s : State) (o data : Nat) : State :=
  let k := s.tick + (data + 2 ^ 32 - s.tick % 2 ^ 32) % 2 ^ 32
  if s.isStandby then s.resolveWith (Trig.timed fun _ _ _ => some (k, false)) o else s

end Sys2Proof.Machine
end

