-- ==== Sys2Proof/Machine/Bus.lean ====
section
/-! DEFINITION. What an access of a fabric master reads and writes: the register bus, the memories, the change
log's records at their apply tick, and the register audit (00 R5-R8, R435; 14 R309-R311; 15 R330-R332, R339;
16 R365-R367; 18 R403). -/

namespace Sys2Proof.Machine

/-! ### Register writes, where they act -/

/-- MAC_i_ADDR_LO is held, and takes effect with the next write of MAC_i_ADDR_HI (17 R400). -/
def State.writeMacAddr (s : State) (i : Nat) (hi : Bool) (v : Word) : State :=
  if hi then
    let s := s.guarded (0x100014 + i * 0x100) v id
    match sfind i s.net.addrLo with
    | some lo => (s.wr (Reg.MAC_ADDR_LO.ADDR i) lo).onNet fun r => { r with addrLo := serase i r.addrLo }
    | none => s
  else s.onNet fun r => { r with addrLo := sinsert i v.toNat r.addrLo }

/-- CHIP and CLK registers. -/
def State.writeChipClk (s : State) (a : Nat) (v : Word) : State :=
  if a = 0x108 then s.guarded a v fun s => if v.getLsbD 11 then s.vectorClear 1 else s
  else if a = 0x10000 then s.writeClkCtrl v
  else if a = 0x10008 then s.writeClkRoot v 0 0 0
  else s.guarded a v id

/-- REF registers. -/
def State.writeRef (s : State) (a : Nat) (v : Word) : State :=
  let off := a - 0x20000
  if off = 0 then s.writeRefCtrl v
  else if off = 8 then s.writeRefLim 0 v
  else if off = 0xC then s.writeRefLim 1 v
  else if 0x40 ≤ off ∧ off < 0x50 ∧ off % 4 = 0 then s.writePtpErr ((off - 0x40) / 4) v 0
  else if 0x100 ≤ off ∧ off < 0x200 ∧ off % 16 = 0 then s.writeRefsCfg ((off - 0x100) / 16) v
  else s.guarded a v id

/-- TIME registers. -/
def State.writeTime (s : State) (a : Nat) (v : Word) : State :=
  let off := a - 0x30000
  if off = 0 then s.writeScInc false v
  else if off = 4 then s.writeScInc true v
  else if off = 0x10 then s.writeSnap 0 v
  else if off = 0x30 then s.writeSnap 1 v
  else if 0x100 ≤ off ∧ off < 0x200 then
    let d := (off - 0x100) / 0x40
    match off % 0x40 with
    | 0 => s.writeTimeCtrl d v
    | 8 => s.writeInc d false v
    | 12 => s.writeInc d true v
    | 28 => s.writeAdjGo d v
    | _ => s.guarded a v id
  else s.guarded a v id

/-- FLT registers. A write of FLT_UNLOCK through the fabric lands at the latest FCLK cycle seen, four to a PCLK. -/
def State.writeFlt (s : State) (a : Nat) (v : Word) : State :=
  let off := a - 0x40000
  if off = 0x24 then s.writeUnlock v (s.fab.now / 4)
  else if off = 0x28 then s.writeInj v
  else if 0x40 ≤ off ∧ off < 0x60 ∧ off % 4 = 0 then s.writePend ((off - 0x40) / 4) v
  else if 0x1000 ≤ off ∧ off < 0x1400 ∧ off % 4 = 0 then s.writeSrc ((off - 0x1000) / 4) v
  else s.guarded a v id

/-- DMA registers. -/
def State.writeDma (s : State) (a : Nat) (v : Word) : State :=
  let off := a - 0x70000
  if off = 0 then s.writeDmaCtrl v
  else if off = 8 then s.writeDmaIrq 0 v
  else if off = 0xC then s.writeDmaIrq 1 v
  else if 0x100 ≤ off ∧ off < 0x1100 then
    match off % 0x40 with
    | 0 => s.writeDmaChCtrl ((off - 0x100) / 0x40) v
    | 12 => s.writeDmaCfg ((off - 0x100) / 0x40) v
    | _ => s.guarded a v id
  else s.guarded a v id

/-- STR and ENG registers. -/
def State.writeStrEng (s : State) (a : Nat) (v : Word) : State :=
  if a = 0x80014 then s.writeHitW0 v
  else if a = 0x80018 then s.hitQueue v
  else if a = 0x80024 then s.writeHitCommit v
  else if 0x81000 ≤ a ∧ a < 0x81800 ∧ a % 32 = 0 then s.writeBraid ((a - 0x81000) / 32) v
  else if 0x90000 ≤ a ∧ a < 0x93000 ∧ a % 64 = 0 then s.writeEngCtrl ((a - 0x90000) / 64) v
  else if a = 0x94000 then s.writeLpCtrl v
  else if a = 0x94048 then s.writePcmGo v
  else s.guarded a v id

/-- MTX and EGR registers. -/
def State.writeMtxEgr (s : State) (a : Nat) (v : Word) : State :=
  if a = 0xA0024 then s.writeRowW0 v
  else if a = 0xA0028 then s.writeRowW1 v
  else if a = 0xA002C then s.writeRowW2 v
  else if a = 0xA0050 then s.onMtx fun m => { m with clW0 := v }
  else if a = 0xA0054 then s.appendEntry v
  else if a = 0xA0074 then s.writeCmGo v
  else if 0xB0004 ≤ a ∧ a < 0xB0014 ∧ a % 4 = 0 then s.writeWhip ((a - 0xB0004) / 4) v
  else if a = 0xB0014 then s.writeWcommit v
  else s.guarded a v id

/-- SAP, AES and DEC registers. -/
def State.writeSerial (s : State) (a : Nat) (v : Word) : State :=
  if 0xC0000 ≤ a ∧ a < 0xC0600 ∧ a % 64 = 0 then s.writeSapCfg ((a - 0xC0000) / 64) false v
  else if 0xC0000 ≤ a ∧ a < 0xC0600 ∧ a % 64 = 4 then s.writeSapCfg ((a - 0xC0000) / 64) true v
  else if 0xD0000 ≤ a ∧ a < 0xD0200 ∧ a % 64 = 0 then s.writeAesRxCfg ((a - 0xD0000) / 64) v
  else if 0xD0200 ≤ a ∧ a < 0xD0400 ∧ 0x10 ≤ a % 64 ∧ a % 64 < 0x28 ∧ a % 4 = 0 then
    s.writeAesTxCs ((a - 0xD0200) / 64) ((a % 64 - 0x10) / 4) v
  else if 0xD0200 ≤ a ∧ a < 0xD0400 ∧ a % 64 = 0 then s.writeAesTxCfg ((a - 0xD0200) / 64) v
  else if a = 0xD0400 ∨ a = 0xD0440 then s.writeMadiCfg ((a - 0xD0400) / 64) v
  else if 0xE0000 ≤ a ∧ a < 0xE0600 ∧ a % 16 = 0 then s.writeDecCfg ((a - 0xE0000) / 16) v
  else if 0xE0000 ≤ a ∧ a < 0xE0600 ∧ a % 16 = 4 then s.writeDecDc ((a - 0xE0000) / 16) v
  else if 0xE1000 ≤ a ∧ a < 0xE1400 ∧ a % 4 = 0 then
    let k := (a - 0xE1000) / 4
    s.writeDecCoef a k (Reg.DEC_COEF.COEF (k / 32) (k % 32)) v
  else if 0xE1400 ≤ a ∧ a < 0xE1420 ∧ a % 4 = 0 then
    let i := (a - 0xE1400) / 4
    s.writeDecCoef a (256 + i) (Reg.DEC_HB.COEF i) v
  else if a = 0xE1500 then s.writePdmClk v
  else s.guarded a v id

/-- AMP registers. -/
def State.writeAmp (s : State) (a : Nat) (v : Word) : State :=
  if a = 0xF0008 then s.writeAmpMod 0 v
  else if 0xF0010 ≤ a ∧ a < 0xF0024 ∧ a % 4 = 0 then s.writeAmpMod ((a - 0xF0010) / 4 + 1) v
  else if 0xF0100 ≤ a ∧ a < 0xF0500 ∧ a % 32 = 0 then s.writeAmpCtrl ((a - 0xF0100) / 32) v
  else s.guarded a v id

/-- MAC and NET registers. -/
def State.writeMacNet (s : State) (a : Nat) (v : Word) : State :=
  if 0x100000 ≤ a ∧ a < 0x100500 then
    let i := (a - 0x100000) / 0x100
    match a % 0x100 with
    | 0 => s.writeMacCtrl i v
    | 12 => s.writeMacVlan i v
    | 16 => s.writeMacAddr i false v
    | 20 => s.writeMacAddr i true v
    | _ => s.guarded a v id
  else if a = 0x110024 then s.writeNetData v
  else if a = 0x110028 then s.writeDescGo v
  else if 0x110100 ≤ a ∧ a < 0x110200 ∧ a % 16 = 0 then s.writeGroup ((a - 0x110100) / 16) v
  else if 0x110200 ≤ a ∧ a < 0x110240 ∧ a % 16 = 4 then s.writeRxqCtrl ((a - 0x110200) / 16) v
  else if 0x110200 ≤ a ∧ a < 0x110240 ∧ a % 16 = 8 then s.writeRxqPtr ((a - 0x110200) / 16) v
  else if 0x110300 ≤ a ∧ a < 0x110350 ∧ a % 16 = 8 then s.writeTxqPtr ((a - 0x110300) / 16) v
  else s.guarded a v id

/-- LANE and FLX registers. -/
def State.writeLaneFlx (s : State) (a : Nat) (v : Word) : State :=
  let n := a % 65536 / 64
  if n < 16 then
    if a < 0x130000 then
      match a % 64 with
      | 0 => s.writeLaneCfg n v
      | 8 => s.writeLaneTxeq n v
      | 12 => s.writeLaneRxeq n v
      | 20 => s.writeMargin n v
      | _ => s.guarded a v id
    else
      match a % 64 with
      | 0 => s.writeFlxCfg n v
      | 32 => s.writeCcPtr n v
      | _ => s.guarded a v id
  else s.guarded a v id

/-- TTH, BOOT and HOST registers. -/
def State.writeControl (s : State) (a : Nat) (v : Word) : State :=
  if a = 0x140000 then s.writeTthCtrl v
  else if a = 0x150004 then s.writeBootCtrl v
  else if a = 0x150008 then s.writeHostImg v
  else s.guarded a v id

/-- A write of a register where it acts. -/
def State.localWrite (s : State) (a : Nat) (v : Word) : State :=
  match a / 65536 with
  | 0 => s.writeChipClk a v
  | 1 => s.writeChipClk a v
  | 2 => s.writeRef a v
  | 3 => s.writeTime a v
  | 4 => s.writeFlt a v
  | 7 => s.writeDma a v
  | 8 => s.writeStrEng a v
  | 9 => s.writeStrEng a v
  | 10 => s.writeMtxEgr a v
  | 11 => s.writeMtxEgr a v
  | 12 => s.writeSerial a v
  | 13 => s.writeSerial a v
  | 14 => s.writeSerial a v
  | 15 => s.writeAmp a v
  | 16 => s.writeMacNet a v
  | 17 => s.writeMacNet a v
  | 18 => s.writeLaneFlx a v
  | 19 => s.writeLaneFlx a v
  | 20 => s.writeControl a v
  | 21 => s.writeControl a v
  | _ => s.guarded a v id

/-- A write of a register: CHIP_CTRL finds its own way in a pair (17 R401). -/
def State.regWrite (s : State) (a : Nat) (v : Word) : State :=
  if a = 0x100 then s.writeChipCtrl v else s.control a v fun s => s.localWrite a v

/-! ### Register reads -/

/-- The registers that show a selected entry or a computed value: their word, and what the read changes. -/
def State.windowReg (s : State) (a : Nat) : Option (Nat × State) :=
  let fix := fun n : Nat => some (n, s)
  match a / 65536 with
  | 3 =>
    if a = 0x3001C then let t := s.readTs2 0; some (t.bus.data, t)
    else if a = 0x3003C then let t := s.readTs2 1; some (t.bus.data, t)
    else none
  | 4 => if a = 0x40028 ∧ s.on Reg.FLT_TEST.TESTMODE = false then fix 0 else none
  | 8 =>
    if a = 0x80008 then fix (s.tick % 2 ^ 32)
    else if a = 0x8000C then fix (s.tick / 2 ^ 32 % 2 ^ 32)
    else if a = 0x80014 then fix (s.hitWord false).toNat
    else if a = 0x80018 then fix (s.hitWord true).toNat
    else if a = 0x8001C then fix s.hitStat
    else if a = 0x80020 then some s.hitCounts
    else none
  | 10 =>
    if a = 0xA0008 then fix (mtxBudget s.mult).1
    else if a = 0xA000C then fix (s.mtxUse.1 % 2 ^ 21)
    else if 0xA0024 ≤ a ∧ a < 0xA0030 then fix (s.rowWord ((a - 0xA0024) / 4))
    else if 0xA0034 ≤ a ∧ a < 0xA0040 then fix (s.colWord ((a - 0xA0034) / 4))
    else if a = 0xA0044 then fix (s.xqWord false)
    else if a = 0xA0048 then fix (s.xqWord true)
    else if 0xA0084 ≤ a ∧ a < 0xA0090 then fix (s.csWord ((a - 0xA0084) / 4))
    else none
  | 11 =>
    if 0xB0004 ≤ a ∧ a < 0xB0014 then fix (s.whipWord ((a - 0xB0004) / 4))
    else if a = 0xB0018 then fix s.whipStat
    else if a = 0xB001C then some s.whipCounts
    else none
  | 17 =>
    if a = 0x110024 then fix (s.descWord (s.rd Reg.NET_SEL.DIR) (s.rd Reg.NET_SEL.INDEX) (s.rd Reg.NET_SEL.WORD)).toNat
    else if a = 0x110030 then fix s.streamStat
    else if 0x110034 ≤ a ∧ a < 0x110040 then some (s.streamCounts ((a - 0x110034) / 4))
    else none
  | _ => none

/-- Bits of a register that are computed: ENG_eee_STATUS.PDIRTY (03 R61), FLT_SRC_sss.PEND (16 R361). -/
def State.shownBit (s : State) (a : Nat) : Option FieldRef :=
  if 0x90000 ≤ a ∧ a < 0x93000 ∧ a % 64 = 4 then
    let e := (a - 0x90000) / 64
    if s.pageDirty e then some (Reg.ENG_STATUS.PDIRTY e) else none
  else if 0x41000 ≤ a ∧ a < 0x41400 then
    let n := (a - 0x41000) / 4
    if s.isPend n then some (Reg.FLT_SRC.PEND n) else none
  else none

/-- A read clears the RC fields of a register. -/
def State.readClear (s : State) (fs : List FieldSpec) : State :=
  fs.foldl (fun s f => match f.acc with
    | .rc => s.wr f.ref 0
    | _ => s) s

/-- A read of a register (R6, R403). -/
def State.regRead (s : State) (a : Nat) : Nat × State :=
  match s.windowReg a with
  | some r => r
  | none => match fieldsAt a with
    | none => (0, s)
    | some fs =>
      let t := match s.shownBit a with | some f => s.put f true | none => s
      ((t.word fs).toNat, s.readClear fs)

/-! ### Memories -/

/-- What an address reaches (R331, R332). -/
inductive Place where
  | none
  | rom (off : Nat)
  | ram (a : Nat)
  | coil (a : Nat)
  | engine (e off : Nat)
  | strand (off : Nat)
  | gain (off : Nat)
  | reg (off : Nat)
deriving DecidableEq, Repr

/-- The decoding of an address; `rom`: the boot region holds the ROM. -/
def placeOf (rom : Bool) (a : Nat) : Place :=
  if a < 0x100000 then
    if rom then (if a < 0x40000 then .rom a else .none) else .ram (ramBase + a)
  else if a < 0x140000 then .rom (a - 0x100000)
  else if 0x200000 ≤ a ∧ a < 0x300000 then .ram a
  else match fabTarget a with
    | 1 => .coil a
    | 2 => if a < 0x30000000 then .engine ((a - 0x20000000) / 0x100000) (a % 0x100000) else .strand (a - 0x31000000)
    | 3 => .gain (a - 0x30000000)
    | 4 => .reg (a - 0x40000000)
    | _ => .none

/-- Bytes of the boot ROM, the first least significant. -/
def romLoad (off : Nat) : Nat → Nat
  | 0 => 0
  | n + 1 => (Config.bootRom off).toNat + 256 * romLoad (off + 1) n

/-- The error marks of the 64-bit codewords of the coil pool that an access touches, with their addresses. -/
def State.coilMarks (s : State) (a n : Nat) : List (Nat × EccMark) :=
  (List.range ((a + n - 1) / 8 - a / 8 + 1)).filterMap fun i =>
    let w := a / 8 + i
    match s.eccMark (.coil ((8 * w - coilBase) / 16)) with
    | some m => if m.high = decide (w % 2 = 1) then some (8 * w, m) else none
    | none => none

/-- A fabric read of the coil pool (R365). -/
def State.coilLoad (s : State) (a n : Nat) : Option Nat × State :=
  if (s.coilMarks a n).any fun p => p.2.double then (none, s.raise Src.COIL_DBE) else (some (s.load a n), s)

/-- A fabric write of the coil pool where it acts: merged with what it does not cover, unless that is damaged beyond
correction (R365). -/
def State.coilStore (s : State) (a n v : Nat) : State :=
  let marks := s.coilMarks a n
  if marks.any fun p => p.2.double && (decide (p.1 < a) || decide (a + n < p.1 + 8)) then
    (s.raise Src.COIL_DBE).busError a
  else (marks.foldl (fun s p => s.eccClear (.coil ((p.1 - coilBase) / 16))) s).store a n v

/-- A coil that the live lay plan reads (R309). -/
def State.planReads (s : State) (a : Nat) : Bool := coilIn (s.livePlan.knots.flatMap Knot.coils) ((a - coilBase) / 4096)

/-- One 32-bit word of an engine's window as the fabric reads it (03 R61, R63, R72). -/
def State.engineWord (s : State) (e off : Nat) : Nat × State :=
  if off < 0x800 then (s.load (engineBase e + off) 4, s)
  else if off < 0x30000 ∨ (0x40000 ≤ off ∧ off < 0x70000) then
    let (w, s) := s.readXY e (decide (0x40000 ≤ off)) (off % 0x40000 / 4)
    (w.toNat, s)
  else if 0x80000 ≤ off ∧ off < 0x90000 then
    (s.load (engineBase e + off) 4, s.progFound e ((off - 0x80000) / 0x8000) (off % 0x8000 / 8))
  else (0, s)

/-- Consecutive words from a reader of one word. -/
def gather (f : State → Nat → Nat × State) (width : Nat) : Nat → Nat → State → Nat × State
  | 0, _, s => (0, s)
  | n + 1, i, s =>
    let (w, s) := f s i
    let (r, s) := gather f width n (i + 1) s
    (w + width * r, s)

/-- Bytes out of the words that an access touches, `k` bytes to a word. -/
def State.gatherBytes (s : State) (k : Nat) (f : State → Nat → Nat × State) (off n : Nat) : Nat × State :=
  let (v, s) := gather f (256 ^ k) ((off + n - 1) / k - off / k + 1) (off / k) s
  (v / 256 ^ (off % k) % 256 ^ n, s)

/-- One slot of the strand window, as its 64-bit word (02 R23). -/
def State.strandWord (s : State) (slot : Nat) : Nat × State :=
  let (x, s) := s.readSlot slot
  (x.sample.toNat + 2 ^ 32 * (x.tag.toNat + 16 * x.written.toNat), s)

/-- A fabric write of the strand window: every aligned 64-bit slot it covers as one write, other aligned words as
writes of a half (02 R24). -/
def State.strandStore (s : State) : Nat → Nat → Nat → Nat → State
  | 0, _, _, _ => s
  | fuel + 1, off, n, v =>
    let w := fun k => BitVec.ofNat 32 (v / 2 ^ (32 * k))
    if n = 0 then s
    else if off % 8 = 0 ∧ 8 ≤ n then
      (s.strandWrite (off / 8) (some (w 0)) (some (w 1))).strandStore fuel (off + 8) (n - 8) (v / 2 ^ 64)
    else
      let s := if off % 8 = 0 then s.strandWrite (off / 8) (some (w 0)) none else s.strandWrite (off / 8) none (some (w 0))
      s.strandStore fuel (off + 4) (n - 4) (v / 2 ^ 32)

/-- A word of a shadow page as the logged writes will leave it. -/
def State.loggedWord (s : State) (a : Nat) : Nat :=
  match (s.tth.log.filter fun r => decide (r.addr = a)).getLast? with
  | some r => r.data
  | none => s.load a 4

/-- `n` bytes of `v` put over a word at byte `k`. -/
def mergeWord (old k n v : Nat) : Nat :=
  old - old / 256 ^ k % 256 ^ n * 256 ^ k + v % 256 ^ n * 256 ^ k

/-- The records of a write of a shadow page: whole words, a narrower write merged. -/
def State.pageRecords (s : State) : Nat → Nat → Nat → Nat → List (Nat × Nat × Nat)
  | 0, _, _, _ => []
  | fuel + 1, a, n, v =>
    if n = 0 then []
    else
      let k := a % 4
      let m := min n (4 - k)
      (a - k, 4, mergeWord (s.loggedWord (a - k)) k m v) :: s.pageRecords fuel (a + m) (n - m) (v / 256 ^ m)

/-! ### Accesses -/

/-- An access by a master: the bus record names it until the access ends. -/
def State.busAs (s : State) (m id : Nat) : State := { s with bus := ⟨0, false, m, id⟩ }

/-- The end of an access: rows of the table that name a register count as accesses of M3. -/
def State.busEnd (s : State) (data : Nat) : State := { s with bus := ⟨data, s.bus.err, 3, 0⟩ }

/-- The error response of R339 for an access. -/
def State.busFail (s : State) (kind a : Nat) (write : Bool) : State :=
  let s := s.fabError s.bus.master s.bus.id (fabTarget a) kind a write
  { s with bus := { s.bus with err := true } }

/-- A read of `n` bytes by a master; none: an error response. -/
def State.readAt (s : State) (rom : Bool) (a n : Nat) : Option Nat × State :=
  match placeOf rom a with
  | .none => (none, s.busFail 1 a false)
  | .rom off => (some (romLoad off n), s)
  | .ram x => match s.ramRead x n with
    | (some v, s) => (some v, s)
    | (none, s) => (none, s.busFail 5 a false)
  | .coil x => match s.coilLoad x n with
    | (some v, s) => (some v, s)
    | (none, s) => (none, s.busFail 5 a false)
  | .engine e off => let (v, s) := s.gatherBytes 4 (fun s i => s.engineWord e (4 * i)) off n; (some v, s)
  | .strand off => let (v, s) := s.gatherBytes 8 (fun s i => s.strandWord i) off n; (some v, s)
  | .gain off => let (v, s) := s.gatherBytes 4 (fun s i => ((sget 0 i s.mtx.gmem).toNat, s)) off n; (some v, s)
  | .reg off => if n = 4 ∧ off % 4 = 0 then let (v, s) := s.regRead off; (some v, s) else (none, s.busFail 3 a false)

/-- A write of `n` bytes by a master. -/
def State.writeAt (s : State) (rom : Bool) (a n v : Nat) : State :=
  match placeOf rom a with
  | .none => s.busFail 1 a true
  | .rom _ => s.busFail 2 a true
  | .ram x => match s.ramWrite x n v with
    | (true, s) => s
    | (false, s) => s.busFail 5 a true
  | .coil x =>
    if s.paired then (if s.planReads x then s.busFail 5 a true else s.logAll x [(x, n, v)]) else s.coilStore x n v
  | .engine e off =>
    if s.paired && decide (off < 0x800) then s.logAll a (s.pageRecords n a n v) else s.engineWrite e off n v
  | .strand off =>
    if (off % 4 = 0 ∧ n = 4) ∨ (off % 8 = 0 ∧ n % 8 = 0) then s.strandStore n off n v
    else s.windowWrite (off / 8) none none
  | .gain _ => s.busFail 2 a true
  | .reg off => if n = 4 ∧ off % 4 = 0 then s.regWrite off (BitVec.ofNat 32 v) else s.busFail 3 a true

/-- M0 decodes the boot region by REMAP (R332). -/
def State.romFor (s : State) (m : Nat) : Bool := decide (m = 0) && !s.on Reg.FAB_REMAP.REMAP

/-- A read by a master with an ID, performed. -/
def State.busRead (s : State) (m id a n : Nat) : Option Nat × State :=
  let (r, s) := (s.busAs m id).readAt (s.romFor m) a n
  (r, s.busEnd (r.getD 0))

/-- A write by a master with an ID, performed; false: an error response. -/
def State.busWrite (s : State) (m id a n v : Nat) : Bool × State :=
  let s := ((s.busAs m id).writeAt (s.romFor m) a n v).busEnd 0
  (!s.bus.err, s)

/-! ### The apply tick (14 R310) -/

/-- The data of a record: a coil write's travels in BULK cells, and stands with the partner's block on a standby. -/
def State.recordData (s : State) (r : LogRec) : Nat :=
  if coilBase ≤ r.addr ∧ r.addr < 0x20000000 ∧ s.pairSt ≠ 1 then
    match s.tth.staged.find? fun b => decide (b.1 = r.addr / 4096 * 4096) with
    | some b => (((b.2.drop (r.addr % 4096)).take r.size).foldr (fun x n => x.toNat + 256 * n) 0)
    | none => s.load r.addr r.size
  else r.data

/-- A record takes effect as a write that lands. -/
def State.applyRecord (s : State) (r : LogRec) : State :=
  let d := s.recordData r
  if r.addr = 0x100 then s.journal (s.writeChipLogged (BitVec.ofNat 32 d)) r.addr (BitVec.ofNat 32 d)
  else if r.addr < 0x170000 then
    s.journal (s.localWrite r.addr (BitVec.ofNat 32 d)) r.addr (BitVec.ofNat 32 d)
  else if r.addr < trigAddr 112 then s.adoptTrig (r.addr - trigAddr 0) d
  else match placeOf false r.addr with
    | .coil a => s.coilStore a r.size d
    | .engine e off => s.engineWrite e off r.size d
    | .strand off =>
      let t := BitVec.ofNat 4 d
      if off % 8 = 0 then s.windowWrite (off / 8) (some (BitVec.ofNat 32 d)) none else s.windowWrite (off / 8) none (some t)
    | _ => s

/-- The records up to APPLY_SEQ are performed on both chips at the first instant of the present tick, a mirror
boundary; a standby that received no marker of it performs nothing and becomes FAULTY. -/
def State.applyTick (s : State) : State :=
  if s.paired && decide (s.tick % max 1 (s.rd Reg.TTH_CTRL.MIRROR) = 0) then
    match s.tth.apply with
    | some (q, b) =>
      if b = s.tick then
        let (now, later) := s.applySplit q
        let s := s.onTth fun r => { r with log := later }
        let s := now.foldl State.applyRecord s
        let s := s.onTth fun r => { r with
          bulkWait := r.bulkWait.filter fun q => later.any fun x => decide (x.seq = q)
          staged := r.staged.filter fun b => later.any fun x => decide (x.addr / 4096 * 4096 = b.1) }
        s.wr Reg.TTH_LOG.FREE (8192 - s.tth.log.length)
      else if s.followsPeer then s.toFaulty 4 else s
    | none => if s.followsPeer then s.toFaulty 4 else s
  else s

/-! ### The register audit (16 R366, R367) -/

/-- The bits of a register's RW fields. -/
def rwMask (fs : List FieldSpec) : Word :=
  fs.foldl (fun v f => match f.acc with
    | .rw => v ||| BitVec.ofNat 32 ((2 ^ f.ref.width - 1) * 2 ^ f.ref.lo)
    | _ => v) 0

/-- The value of a register's RW fields as firmware reads them. -/
def State.auditValue (s : State) (a : Nat) : Word :=
  (BitVec.ofNat 32 (s.regRead a).1) &&& rwMask ((fieldsAt a).getD [])

/-- Firmware's copy of the listed registers as they stand. -/
def State.auditTake (s : State) : State :=
  s.onFlt fun f => { f with auditCopy := f.auditList.foldl (fun m a => sset 0 a (s.auditValue a) m) [] }

/-- Firmware applies the journal's entries up to HEAD to its copy, and writes TAIL. -/
def State.auditJournal : Nat → State → State
  | 0, s => s
  | n + 1, s =>
    let t := s.rd Reg.FLT_AUD_JPTR.TAIL
    if t = s.rd Reg.FLT_AUD_JPTR.HEAD then s
    else
      let (r, s) := s.ramRead (ramAddr (s.rd Reg.FLT_AUD_JBASE.BASE) + 8 * t) 8
      let s := match r with
        | some v =>
          let a := v % 2 ^ 32 - 0x40000000
          let w := BitVec.ofNat 32 (v / 2 ^ 32) &&& rwMask ((fieldsAt a).getD [])
          if s.flt.auditList.contains a then s.onFlt fun f => { f with auditCopy := sset 0 a w f.auditCopy } else s
        | none => s
      State.auditJournal n (s.wr Reg.FLT_AUD_JPTR.TAIL (t + 1))

/-- One pass of the audit. -/
def State.auditPass (s : State) : State :=
  if s.on Reg.FLT_AUD_JPTR.OVF then
    let s := (s.put Reg.FLT_AUD_JPTR.OVF false).wr Reg.FLT_AUD_JPTR.TAIL (s.rd Reg.FLT_AUD_JPTR.HEAD)
    s.auditTake.raise Src.CFG_AUDIT
  else
    let s := s.auditJournal 1024
    let bad := s.flt.auditList.filter fun a => decide (s.auditValue a ≠ sget 0 a s.flt.auditCopy)
    match bad with
    | [] => s
    | first :: _ =>
      let s := ((s.bump Reg.FLT_AUD.DIFFS bad.length).wr Reg.FLT_AUD_ADDR.ADDR (fabricAddr first)).raise Src.CFG_AUDIT
      if s.on Reg.FLT_AUD.REPAIR && !s.isStandby then
        bad.foldl (fun s a => ((s.busAs 0 0).regWrite a (sget 0 a s.flt.auditCopy)).busEnd 0) s
      else s

/-! ### The commands -/

/-- REG_WRITE (00 R435): a 32-bit write at a byte offset of register space. -/
def execRegWrite (a : Nat) (v : Word) (s : State) : Out :=
  core (fun s => (s.busWrite 3 0 (0x40000000 + a) 4 v.toNat).2) s

/-- RC_READ (00 R6): a 32-bit read at a byte offset of register space. -/
def execRcRead (a : Nat) (s : State) : Out := core (fun s => (s.busRead 3 0 (0x40000000 + a) 4).2) s

/-- CONTROL_CHANGE_LOG (14 R310): a control change arrives at a chip in PAIRED mode. -/
def execControlChangeLog (a : Nat) (v : Word) (s : State) : Out :=
  core (fun s => if s.paired && !actsLocally a && decide (a < 0x170000) then s.regWrite a v else s) s

/-- APPLY_TICK (14 R310): the first instant of the present tick. -/
def execApplyTick (s : State) : Out := clocked State.applyTick s

/-- AUDIT_PASS (16 R366). -/
def execAuditPass (s : State) : Out := core (fun s => if s.on Reg.FLT_AUD.EN then s.auditPass else s) s

end Sys2Proof.Machine
end

