-- ==== Sys2Proof/Machine/Fabric.lean ====
section
/-! DEFINITION. The fabric's arbitration, locks, timeouts and master resets, and the transfers of the DMA channels
(15 R332-R342, R345-R348). -/

namespace Sys2Proof.Machine

/-! ### Issue (R335, R339, R340) -/

/-- The FCLK cycle that a command names, once the fabric has seen it. -/
def State.fabNow (s : State) (cycle : Nat) : State := s.onFab fun f => { f with now := max f.now cycle }

/-- A request is issued. One that no target serves completes at once with an error response. -/
def State.issue (s : State) (r : FabReq) : State :=
  let t := fabTarget r.addr
  if placeOf r.rom r.addr = .none then s.fabFail r 1
  else if r.lock && decide (2 ≤ t) then s.fabFail r 4
  else (s.onFab fun f => { f with
    waiting := f.waiting ++ [{ r with at_ := f.now }]
    answers := if r.port = 0 then f.answers else serase r.port f.answers }).fabShow

/-! ### Arbitration (R333, R334, R336) -/

/-- Retired entries of a master still drain. -/
def FabState.retiring (f : FabState) (m : Nat) : Bool :=
  f.served.any fun p => decide (p.2.req.master = m) && p.2.retired

/-- M1 and M2 count as one master for the order of reads behind writes (R337). -/
def sameAgent (m n : Nat) : Bool := decide (m = n) || decide ((m = 1 ∨ m = 2) ∧ (n = 1 ∨ n = 2))

/-- A request whose turn among its master's requests has come: it is within the outstanding limit; no earlier one of
the same ID waits, or is outstanding at another target; a read waits for its master's earlier writes to the target;
the lock allows it; and its master does not drain. -/
def FabState.ready (f : FabState) (outst : Nat) (before : List FabReq) (r : FabReq) : Bool :=
  let t := fabTarget r.addr
  let room := decide ((before.filter fun x => decide (x.master = r.master)).length +
    (f.served.filter fun p => decide (p.2.req.master = r.master) && !p.2.retired).length < outst)
  let behind := !r.write && before.any fun x => x.write && sameAgent x.master r.master && decide (fabTarget x.addr = t)
  let same := fun x : FabReq => decide (x.master = r.master ∧ x.id = r.id)
  let locked := match f.lock with
    | none => false
    | some l => r.lock || (if l.master = r.master then decide (l.target ≠ t) else decide (l.target = t))
  room && !behind && !before.any same && !(f.served.any fun p => same p.2.req && !p.2.retired && decide (p.1 ≠ t)) && !locked && !f.retiring r.master

/-- The requests that a target may grant in a cycle: a parked master's at once, another's one cycle after it came. -/
def State.grantable (s : State) (t cycle : Nat) : List FabReq :=
  let park := s.rd (Reg.FAB_T_ARB.PARK t)
  ((List.range s.fab.waiting.length).filterMap fun i =>
    match s.fab.waiting[i]? with
    | some r =>
      if decide (fabTarget r.addr = t) && s.fab.ready (s.rd (Reg.FAB_M_CFG.OUTST r.master)) (s.fab.waiting.take i) r &&
          decide (r.at_ + (if r.master = park then 0 else 1) ≤ cycle) then some r else none
    | none => none)

/-- A master's priority at a target. -/
def State.priority (s : State) (t m : Nat) : Nat :=
  match m with
  | 0 => s.rd (Reg.FAB_T_ARB.P0 t)
  | 1 => s.rd (Reg.FAB_T_ARB.P1 t)
  | 2 => s.rd (Reg.FAB_T_ARB.P2 t)
  | 3 => s.rd (Reg.FAB_T_ARB.P3 t)
  | 4 => s.rd (Reg.FAB_T_ARB.P4 t)
  | _ => s.rd (Reg.FAB_T_ARB.P5 t)

/-- The place of a master in the round after the one granted last. -/
def roundPlace (last m : Nat) : Nat := (m + 5 - last) % 6

/-- The element that comes first by a measure; the earliest among equals. -/
def firstBy {α : Type} (f : α → Nat) : List α → Option α
  | [] => none
  | x :: r => match firstBy f r with
    | none => some x
    | some y => some (if f x ≤ f y then x else y)

/-- The request that a target grants: the oldest beyond AGE, else the highest priority, else round robin. -/
def State.grantee (s : State) (t cycle : Nat) : Option FabReq :=
  let l := s.grantable t cycle
  let age := s.rd Reg.FAB_ARB.AGE
  match firstBy (fun r : FabReq => r.at_) (l.filter fun r => decide (age ≠ 0 ∧ r.at_ + age < cycle)) with
  | some r => some r
  | none => firstBy (fun r : FabReq => (15 - s.priority t r.master) * 6 + roundPlace (sget 5 t s.fab.last) r.master) l

/-- A target that is free grants one request. A LOCK read begins the lock. -/
def State.grant (s : State) (t cycle : Nat) : State :=
  let s := s.fabNow cycle
  if (sfind t s.fab.served).isSome then s
  else match s.grantee t cycle with
    | none => s
    | some r =>
      let s := s.onFab fun f => { f with
        waiting := f.waiting.erase r
        served := sinsert t ⟨r, cycle, false⟩ f.served
        last := sset 5 t r.master f.last
        lock := if r.lock then some ⟨r.master, t, cycle⟩ else f.lock }
      s.lockShow.fabShow

/-! ### Responses (R335, R338) -/

/-- A request is performed, and its answer reaches its port. -/
def State.perform (s : State) (r : FabReq) : State :=
  let s := s.busAs r.master r.id
  if r.write then
    let s := (s.writeAt r.rom r.addr r.size r.data).busEnd 0
    s.portAnswer r.port 0 s.bus.err
  else
    let (v, s) := s.readAt r.rom r.addr r.size
    let s := s.busEnd (v.getD 0)
    s.portAnswer r.port (v.getD 0) s.bus.err

/-- A target's response: the transaction is performed. A retired one has no response left to give, though a write
that timed out still lands. The holder's UNLOCK ends the lock. -/
def State.respond (s : State) (t : Nat) : State :=
  match sfind t s.fab.served with
  | none => s
  | some g =>
    let s := s.onFab fun f => { f with served := serase t f.served }
    let s := if g.retired then (if g.req.write && decide (0 < g.req.size) then s.perform { g.req with port := 0 } else s)
      else s.perform g.req
    let s := s.onFab fun f => { f with lock := match f.lock with
      | some l => if g.req.unlock = true ∧ l.master = g.req.master ∧ l.target = t then none else some l
      | none => none }
    s.lockShow.fabShow

/-- A transaction without a response for CYCLES is retired. -/
def State.timeOut (s : State) (t cycle : Nat) : State :=
  let s := s.fabNow cycle
  match sfind t s.fab.served with
  | none => s
  | some g =>
    if g.retired = false ∧ g.since + s.rd Reg.FAB_TMO.CYCLES ≤ cycle then
      let s := s.onFab fun f => { f with served := sinsert t { g with retired := true } f.served }
      let s := ((s.fabFail g.req 6).bump Reg.FAB_CNT.TMO 1).put Reg.FAB_STATUS.TIMEOUT true
      (s.raise Src.FAB_TMO).fabShow
    else s

/-! ### Locks (R340, R341) -/

/-- A lock 64 cycles after its grant is broken: what the holder has not had performed at the target is not. -/
def State.breakLock (s : State) (cycle : Nat) : State :=
  let s := s.fabNow cycle
  match s.fab.lock with
  | none => s
  | some l =>
    if cycle < l.since + 64 then s
    else
      let mine := fun r : FabReq => decide (r.master = l.master ∧ fabTarget r.addr = l.target)
      let served := (s.fab.served.filter fun p => mine p.2.req && !p.2.retired).map fun p => p.2.req
      let lost := served ++ s.fab.waiting.filter mine
      let s := s.onFab fun f => { f with
        lock := none
        waiting := f.waiting.filter fun r => !mine r
        served := f.served.filter fun p => !mine p.2.req || p.2.retired }
      let s := lost.foldl (fun s r => s.fabFail r 7) s
      let s := ((s.put Reg.FAB_STATUS.LOCK_BROKEN true).bump Reg.FAB_CNT.LOCKBRK 1).raise Src.FAB_LOCK
      s.lockShow.fabShow

/-! ### Master resets (R342) -/

/-- The beats of 32 bytes of a master's write bursts that were accepted land with their own strobes. -/
def State.landBeats (s : State) (m beats : Nat) : State :=
  s.fab.served.foldl (fun s p =>
    let r := p.2.req
    let n := min r.size (32 * beats - min (32 * beats) (r.addr % 32))
    if decide (r.master = m) && r.write && !p.2.retired && decide (0 < n) then
      s.perform { r with size := n, data := r.data % 256 ^ n, port := 0 }
    else s) s

/-- A master is reset when `beats` beats of its write bursts were accepted. -/
def State.resetMaster (s : State) (m beats : Nat) : State := (s.landBeats m beats).retireMaster m

/-- What a master's reset retired has drained: writes that timed out have landed. -/
def State.drained (s : State) (m : Nat) : State :=
  (s.fab.served.filter fun p => decide (p.2.req.master = m) && p.2.retired).foldl (fun s p => s.respond p.1) s

/-! ### DMA transfers (R345, R346, R348) -/

/-- Does an element at an address go on with the burst that ended there (R333). -/
def joins (last a : Nat) : Bool := decide (last = a ∧ a % 256 ≠ 0)

/-- The bursts that an element begins. -/
def DmaCh.newBursts (x : DmaCh) : Nat :=
  let rd := fun a => if joins x.lastRd a then 0 else 1
  let wr := if joins x.lastWr x.dst then 0 else 1
  match x.op with
  | 0 => rd x.src + wr
  | 1 => wr
  | 2 => if joins x.lastRd x.src then 1 else 2
  | _ => rd x.dst

/-- A lock or a draining reset holds back the channels' requests to an address (R336, R342). -/
def State.dmaHeld (s : State) (a : Nat) : Bool :=
  s.fab.retiring 1 || s.fab.retiring 2 || (match s.fab.lock with
    | some l => decide (l.target = fabTarget a)
    | none => false)

/-- The addresses that an element accesses. -/
def DmaCh.reaches (x : DmaCh) : List Nat :=
  match x.op with
  | 0 => [x.src, x.dst]
  | 2 => [x.src, x.dst]
  | _ => [x.dst]

/-- The channel may issue an element: it is in RUN within a descriptor, its bursts of the tick allow it, and nothing holds
its requests back. -/
def State.dmaMay (s : State) (c : Nat) : Bool :=
  let x := s.dmaCh c
  let rate := s.rd (Reg.DMA_CH_CFG_LIVE.RATE c)
  decide (s.dmaState c = 1) && !x.issued && !x.mis && (decide (rate = 0) || decide (x.bursts + x.newBursts ≤ 16 * rate)) &&
    !x.reaches.any s.dmaHeld

/-- The channel that the engine serves at a burst boundary: the highest PRIO first, round robin among equals (R348). -/
def State.dmaTurn (s : State) : Option Nat :=
  firstBy (fun c => (3 - s.rd (Reg.DMA_CH_CFG_LIVE.PRIO c)) * 64 + (c + 63 - s.fab.dmaLast) % 64)
    ((List.range 64).filter s.dmaMay)

/-- A compare finds a pair of words: a mismatch is counted, and the first one recorded. -/
def State.dmaCompare (s : State) (c : Nat) (a b : Nat) : State :=
  if a = b then s
  else
    let x := s.dmaCh c
    let s := s.bump (Reg.DMA_CH_CNT.MISCNT c) 1
    let s := if s.on (Reg.DMA_CH_STATUS.MISMATCH c) then s
      else (((s.wr (Reg.DMA_CH_MISS_S.ADDR c) x.src).wr (Reg.DMA_CH_MISS_D.ADDR c) x.dst).put
        (Reg.DMA_CH_STATUS.MISMATCH c) true).raise Src.DMA_MISMATCH
    if x.stopMis then s.setDma c { x with mis := true } else s

/-- One read through M1: an error response ends the channel. -/
def State.dmaRead (s : State) (c a : Nat) : Option Nat × State :=
  match s.busRead 1 (c % 16) a 4 with
  | (some v, s) => (some v, s)
  | (none, s) => (none, s.dmaBus c a)

/-- One write through M2. -/
def State.dmaWrite (s : State) (c a v : Nat) : State :=
  match s.busWrite 2 (c % 16) a 4 v with
  | (true, s) => s
  | (false, s) => s.dmaBus c a

/-- The operation of an element. -/
def State.dmaOp (s : State) (c : Nat) (x : DmaCh) : State :=
  match x.op with
  | 0 => match s.dmaRead c x.src with
    | (some v, s) => s.dmaWrite c x.dst v
    | (none, s) => s
  | 1 => s.dmaWrite c x.dst x.srcField
  | 2 => match s.dmaRead c x.src with
    | (some v, s) => match s.dmaRead c x.dst with
      | (some w, s) => s.dmaCompare c v w
      | (none, s) => s
    | (none, s) => s
  | _ => match s.dmaRead c x.dst with
    | (some w, s) => s.dmaCompare c x.srcField w
    | (none, s) => s

/-- One element, and the step of the loops. -/
def State.dmaElement (s : State) (c : Nat) : State :=
  let x := s.dmaCh c
  let lastRd := match x.op with
    | 0 => x.src + 4
    | 1 => x.lastRd
    | 2 => x.src + 4
    | _ => x.dst + 4
  let lastWr := if x.op < 2 then x.dst + 4 else x.lastWr
  let s := s.setDma c { x with bursts := x.bursts + x.newBursts, lastRd := lastRd, lastWr := lastWr }
  let s := s.dmaOp c x
  if s.dmaState c = 1 then s.setDma c (s.dmaCh c).next else s

/-- Up to `n` elements of the descriptor that runs, where it has the operation named. At a burst boundary the channel goes
on only in its turn. -/
def State.dmaMove (c op : Nat) : Nat → State → State
  | 0, s => s
  | n + 1, s =>
    if s.dmaMay c && decide ((s.dmaCh c).op = op) && (decide ((s.dmaCh c).newBursts = 0) || decide (s.dmaTurn = some c)) then
      State.dmaMove c op n ((s.onFab fun f => { f with dmaLast := c }).dmaElement c)
    else s

/-! ### The commands -/

/-- FABRIC_GRANT (15 R333): target t in an FCLK cycle. -/
def execFabricGrant (t : Fin 5) (cycle : Nat) (s : State) : Out := core (fun s => s.grant t.val cycle) s

/-- FABRIC_RESPONSE (15 R335): target t. -/
def execFabricResponse (t : Fin 5) (s : State) : Out := core (fun s => s.respond t.val) s

/-- FAB_TIMEOUT (15 R338): target t in an FCLK cycle. -/
def execFabTimeout (t : Fin 5) (cycle : Nat) (s : State) : Out := core (fun s => s.timeOut t.val cycle) s

/-- LOCK_READ (15 R340): a read marked LOCK by M0 or M3, of 4 or 8 bytes. -/
def execLockRead (host wide : Bool) (addr : Word) (s : State) : Out :=
  let m := if host then 3 else 0
  core (fun s => s.issue {
    master := m, id := 0, write := false, addr := addr.toNat, size := if wide then 8 else 4
    lock := true, rom := s.romFor m }) s

/-- UNLOCK (15 R340): a transaction marked UNLOCK by M0 or M3. -/
def execUnlock (host write wide : Bool) (addr : Word) (data : BitVec 64) (s : State) : Out :=
  let m := if host then 3 else 0
  let n := if wide then 8 else 4
  core (fun s => s.issue {
    master := m, id := 0, write := write, addr := addr.toNat, size := n, data := data.toNat % 256 ^ n
    unlock := true, rom := s.romFor m }) s

/-- LOCK_BREAK (15 R341): an FCLK cycle. -/
def execLockBreak (cycle : Nat) (s : State) : Out := core (fun s => s.breakLock cycle) s

/-- MASTER_RESET (15 R342): a master with `beats` beats of its write bursts accepted. M0 is reset with the chip only. -/
def execMasterReset (m : Fin 6) (beats : Nat) (s : State) : Out :=
  core (fun s => if m.val = 0 then s else s.resetMaster m.val beats) s

/-- RETIRE_DRAINED (15 R342). -/
def execRetireDrained (m : Fin 6) (s : State) : Out := core (fun s => s.drained m.val) s

/-- REMAP_WRITE (15 R332): a write of FAB_REMAP. -/
def execRemapWrite (v : Word) (s : State) : Out := core (fun s => s.regWrite 0x60000 v) s

/-- DMA_COPY (15 R346). -/
def execDmaCopy (c : Fin 64) (n : Nat) (s : State) : Out := clocked (fun s => s.dmaMove c.val 0 n) s

/-- DMA_FILL (15 R346). -/
def execDmaFill (c : Fin 64) (n : Nat) (s : State) : Out := clocked (fun s => s.dmaMove c.val 1 n) s

/-- DMA_CMP (15 R346). -/
def execDmaCmp (c : Fin 64) (n : Nat) (s : State) : Out := clocked (fun s => s.dmaMove c.val 2 n) s

/-- DMA_CMPC (15 R346). -/
def execDmaCmpc (c : Fin 64) (n : Nat) (s : State) : Out := clocked (fun s => s.dmaMove c.val 3 n) s

end Sys2Proof.Machine
end

