-- ==== Sys2Proof/Machine/Host.lean ====
section
/-! DEFINITION. The host's ports: PCIe, SPI and I²C (15 R329, 17 R396-R399). -/

namespace Sys2Proof.Machine

/-- Changing the part `host`. -/
def State.onHost (s : State) (f : HostState → HostState) : State := { s with host := f s.host }

/-- A list of bytes as a number, the first least significant. -/
def leNat (l : List Byte) : Nat := l.foldr (fun b n => b.toNat + 256 * n) 0

/-! ### PCIe (R396) -/

/-- A TLP shows that the link is up, at the width that PCIE_MODE gives; its speed is the link partner's choice. -/
def State.linkShow (s : State) : State :=
  if s.on Reg.HOST_STATUS.LINKUP then s
  else
    let (n, s) := s.nextFree
    ((s.put Reg.HOST_STATUS.LINKUP true).wr Reg.HOST_STATUS.WIDTH s.boot.otp.pcieMode.toNat).wr Reg.HOST_STATUS.SPEED
      ((Config.freeWord n).toNat % 3 + 1)

/-- A completion with its tag, its data, and whether it is a Completer Abort. -/
def State.sendCompletion (s : State) (tag data : Nat) (abort : Bool) : State :=
  s.onHost fun h => { h with completions := (tag, data, abort) :: h.completions }

/-- The MSI-X table and the pending bits, which the endpoint itself holds. PRESUMED from the PCI Local Bus
Specification: 64 entries of four words, whose last word's bit 0 masks the vector and is 1 until it is written; a
pending bit is set while a masked vector is pending. -/
def State.msixWord (s : State) (i : Nat) : Word := sget (if i % 4 = 3 then 1 else 0) i s.host.msix

/-- A word of the pending bit array. -/
def State.pbaWord (s : State) (i : Nat) : Word :=
  BitVec.ofNat 32 (((List.range 32).filter fun j =>
    (s.rd (Reg.HOST_IRQ_PEND.PEND i)).testBit j && (s.msixWord (4 * (32 * i + j) + 3)).getLsbD 0).foldl (fun n j => n + 2 ^ j) 0)

/-- A one-DW access of the MSI-X table or the pending bits. -/
def State.msixAccess (s : State) (off tag : Nat) (data : Option (List Byte)) : State :=
  let i := (off - 0xFFF0000) / 4
  let table := decide (off < 0xFFF0400)
  match data with
  | some l =>
    if table then
      let old := (s.msixWord i).toNat
      let new := BitVec.ofNat 32 (mergeWord old (off % 4) l.length (leNat l))
      s.onHost fun h => { h with msix := sset (if i % 4 = 3 then 1 else 0) i new h.msix }
    else s
  | none =>
    let v := if table then s.msixWord i
      else if 0xFFF8000 ≤ off ∧ off < 0xFFF8008 then s.pbaWord ((off - 0xFFF8000) / 4) else 0
    s.sendCompletion tag v.toNat false

/-- The pieces of an access at the 256-byte boundaries that bursts do not cross (15 R333): address and bytes. -/
def burstPieces (a n : Nat) : List (Nat × Nat) :=
  let k := 256 - a % 256
  if n ≤ k then [(a, n)] else [(a, k), (a + k, n - k)]

/-- A TLP's fabric transactions. The answers of a read's two pieces stand under 2 × tag + 2 and 2 × tag + 3. -/
def State.tlpIssue (s : State) (a n tag : Nat) (data : Option (List Byte)) : State :=
  let l := burstPieces a n
  (l.zip (List.range l.length)).foldl (fun s p =>
    let (x, m) := p.1
    match data with
    | some d => s.issue { master := 3, id := 0, write := true, addr := x, size := m, data := leNat ((d.drop (x - a)).take m) }
    | none => s.issue { master := 3, id := 0, port := 2 * tag + 2 + p.2, write := false, addr := x, size := m }) s

/-- A request to BAR0: only TLPs of one DW reach registers. -/
def State.bar0 (s : State) (off n tag : Nat) (data : Option (List Byte)) : State :=
  if off / 4 ≠ (off + n - 1) / 4 then
    let s := s.put Reg.HOST_STATUS.WIDTH_ERR true
    if data.isSome then s else s.sendCompletion tag 0 true
  else if 0xFFF0000 ≤ off then s.msixAccess off tag data
  else s.tlpIssue (0x40000000 + off) n tag data

/-- PCIE_TLP (17 R396): a read of `len` bytes, or a write of the bytes given, at an offset of BAR0 or BAR2; the bytes
enabled stand together. A request of no byte reaches nothing. -/
def execPcieTlp (bar2 : Bool) (off : BitVec 29) (tag : Fin 256) (len : Fin 257) (data : Option (List Byte)) (s : State) : Out :=
  core (fun s =>
    let s := s.linkShow
    let n := match data with | some l => l.length | none => len.val
    if n = 0 ∨ 256 < n then s
    else if bar2 then s.tlpIssue (0x20000000 * s.rd Reg.HOST_WIN.SEL + off.toNat) n tag.val data
    else s.bar0 (off.toNat % 2 ^ 28) n tag.val data) s

/-- PCIE_HOT_RESET (15 R329): a hot reset, or the link goes down, with `beats` beats of M3's write bursts accepted. -/
def execPcieHotReset (down : Bool) (beats : Nat) (s : State) : Out :=
  core (fun s =>
    let s := (s.resetMaster 3 beats).onHost fun h => { h with msix := [] }
    if down then ((s.put Reg.HOST_STATUS.LINKUP false).wr Reg.HOST_STATUS.WIDTH 0).wr Reg.HOST_STATUS.SPEED 0 else s) s

/-! ### IRQ_N (R397) -/

/-- IRQ_N is held low while a vector that HOST_IRQ_EN enables is pending. -/
def State.irqLow (s : State) : Bool :=
  (List.range 2).any fun i => decide (s.rd (Reg.HOST_IRQ_PEND.PEND i) &&& s.rd (Reg.HOST_IRQ_EN.EN i) ≠ 0)

/-! ### SPI (R398) -/

/-- The status and data of the port's last access, as a frame returns them. -/
def State.spiFrame (s : State) : State :=
  match sfind 1 s.fab.answers with
  | some r => s.onHost fun h => { h with spiStatus := if r.err then 0x5A else 0xA5, spiData := if r.err then 0 else r.data }
  | none => s.onHost fun h => { h with spiStatus := 0, spiData := 0 }

/-- SPI_WRITE (17 R398): the write issues after the frame's last bit. -/
def execSpiWrite (addr data : Word) (s : State) : Out :=
  core (fun s => s.issue { master := 3, id := 0, port := 1, write := true, addr := addr.toNat, size := 4, data := data.toNat }) s

/-- SPI_READ (17 R398): the read issues within the frame. Its status shows what the fabric has answered by then: an
access that no target serves is done, any other is not complete, and FETCH collects it. -/
def execSpiRead (addr : Word) (s : State) : Out :=
  core (fun s => (s.issue { master := 3, id := 0, port := 1, write := false, addr := addr.toNat, size := 4 }).spiFrame) s

/-- SPI_FETCH (17 R398). -/
def execSpiFetch (s : State) : Out := core State.spiFrame s

/-! ### I²C (R399) -/

/-- The target serves in every state except reset, HALT included. -/
def State.i2cServes (s : State) (dev : BitVec 7) : Bool :=
  !(s.boot.rst || s.boot.clk || s.boot.pwr || s.boot.temp) &&
    decide (dev.toNat = 0x34 + s.rd Reg.TTH_STATUS.SIDE)

/-- The blocks that reads reach: CHIP, BOOT, CLK, PWR, FLT and TTH. -/
def i2cReaches (a : Nat) : Bool :=
  decide (0x40000000 ≤ a) && [0, 1, 4, 5, 20, 21].contains ((a - 0x40000000) / 65536)

/-- I2C_READ (17 R399): a register address, a repeated start, and four bytes read. A word that the access answers with
an error response has no value stated. -/
def execI2cRead (dev : BitVec 7) (addr : Word) (s : State) : Out :=
  .next (if s.i2cServes dev then
    let s := s.onHost fun h => { h with i2cAddr := addr.toNat, i2cOut := none }
    if i2cReaches addr.toNat then
      match s.busRead 3 0 addr.toNat 4 with
      | (some v, s) => s.onHost fun h => { h with i2cOut := some v }
      | (none, s) =>
        let (n, s) := s.nextFree
        s.onHost fun h => { h with i2cOut := some (Config.freeWord n).toNat }
    else s
  else s)

/-- I2C_WRITE (17 R399): it reaches CHIP_CTRL only; any other is NACKed at its first data byte. -/
def execI2cWrite (dev : BitVec 7) (addr v : Word) (s : State) : Out :=
  .next (if s.i2cServes dev then
    let s := s.onHost fun h => { h with i2cAddr := addr.toNat, i2cOut := none }
    if addr = 0x40000100#32 then
      let s := if s.held then s else (s.busWrite 3 0 0x40000100 4 v.toNat).2
      s.onHost fun h => { h with i2cOut := some v.toNat }
    else s
  else s)

/-- I2C_BUS_TIMEOUT (17 R399): SCL has been low for 25 ms; the target releases the bus and resets its state. -/
def execI2cBusTimeout (s : State) : Out := .next (s.onHost fun h => { h with i2cAddr := 0, i2cOut := none })

end Sys2Proof.Machine
end

