-- ==== Sys2Proof/Machine/P256.lean ====
section
/-! DEFINITION. ECDSA over P-256, which 17 R382 uses by name. PRESUMED from FIPS 186-5 and SP 800-186: the manual
names the algorithm and does not restate it. -/

namespace Sys2Proof.Machine

/-- The field prime of P-256. -/
def p256P : Nat := 0xFFFFFFFF00000001000000000000000000000000FFFFFFFFFFFFFFFFFFFFFFFF

/-- The order of the base point. -/
def p256N : Nat := 0xFFFFFFFF00000000FFFFFFFFFFFFFFFFBCE6FAADA7179E84F3B9CAC2FC632551

/-- The coefficient b; a is -3. -/
def p256B : Nat := 0x5AC635D8AA3A93E7B3EBBD55769886BC651D06B0CC53B0F63BCE3C3E27D2604B

/-- The base point. -/
def p256G : Nat × Nat :=
  (0x6B17D1F2E12C4247F8BCE6E563A440F277037D812DEB33A0F4A13945D898C296,
   0x4FE342E2FE1A7F9B8EE7EB4A7C0F9E162BCE33576B315ECECBB6406837BF51F5)

/-- x to the power of an exponent of `fuel` bits, modulo m. -/
def powMod (m x : Nat) : Nat → Nat → Nat
  | 0, _ => 1 % m
  | fuel + 1, e =>
    let h := powMod m x fuel (e / 2)
    if e % 2 = 1 then h * h % m * x % m else h * h % m

/-- The inverse modulo a prime below 2^256. -/
def invMod (m x : Nat) : Nat := powMod m (x % m) 256 (m - 2)

/-- A point of the curve; none: the point at infinity. -/
abbrev P256Point := Option (Nat × Nat)

/-- x minus y in the field. -/
def subP (x y : Nat) : Nat := (x + p256P - y % p256P) % p256P

/-- The third point on the line of slope l through (x1, y1) and a point at x2. -/
def lineThrough (l x1 y1 x2 : Nat) : P256Point :=
  let x := subP (subP (l * l % p256P) x1) x2
  some (x, subP (l * subP x1 x % p256P) y1)

/-- The sum of two points. -/
def pointAdd (a b : P256Point) : P256Point :=
  match a, b with
  | none, b => b
  | a, none => a
  | some (x1, y1), some (x2, y2) =>
    if x1 = x2 then
      if y1 = y2 ∧ y1 ≠ 0 then
        lineThrough (subP (3 * x1 * x1) 3 * invMod p256P (2 * y1) % p256P) x1 y1 x2
      else none
    else lineThrough (subP y2 y1 * invMod p256P (subP x2 x1) % p256P) x1 y1 x2

/-- A multiple of a point, its factor of `fuel` bits. -/
def pointMul (q : P256Point) : Nat → Nat → P256Point
  | 0, _ => none
  | fuel + 1, k =>
    let h := pointMul q fuel (k / 2)
    let d := pointAdd h h
    if k % 2 = 1 then pointAdd d q else d

/-- A public key that lies on the curve. -/
def onCurve (x y : Nat) : Bool :=
  decide (x < p256P ∧ y < p256P ∧ y * y % p256P = subP (x * x * x + p256B) (3 * x))

/-- The signature (r, s) verifies a digest under the key (x, y). -/
def ecdsaVerify (x y digest r s : Nat) : Bool :=
  if onCurve x y && decide (1 ≤ r ∧ r < p256N ∧ 1 ≤ s ∧ s < p256N) then
    let w := invMod p256N s
    match pointAdd (pointMul (some p256G) 256 (digest * w % p256N)) (pointMul (some (x, y)) 256 (r * w % p256N)) with
    | some (px, _) => decide (px % p256N = r)
    | none => false
  else false

end Sys2Proof.Machine
end

