-- ==== Sys2Proof/Machine/Image.lean ====
section
/-! DEFINITION. The Daurune image: its checks, its sections, and the lay plan that it holds (05 R106, R107; 17 R382,
R383, R385). -/

namespace Sys2Proof.Machine

/-! ### Fields -/

/-- A little-endian field of `n` bytes at an offset. -/
def field (l : List Byte) (i n : Nat) : Nat := leNat ((l.drop i).take n)

/-- A big-endian field of `n` bytes at an offset. -/
def fieldBe (l : List Byte) (i n : Nat) : Nat := ((l.drop i).take n).foldl (fun v b => v * 256 + b.toNat) 0

/-- A section of the table. -/
structure Section where
  ty : Nat
  off : Nat
  len : Nat
  crc : Nat
deriving DecidableEq, Repr

/-- The sections of an image. -/
def imageSections (l : List Byte) : List Section :=
  let t := field l 28 4
  (List.range (field l 24 2)).map fun i =>
    ⟨field l (t + 32 * i) 4, field l (t + 32 * i + 4) 4, field l (t + 32 * i + 8) 4, field l (t + 32 * i + 12) 4⟩

/-- The bytes of a section. -/
def Section.bytes (x : Section) (l : List Byte) : List Byte := (l.drop x.off).take x.len

/-- The bytes of the section of a type; none where the image has no such section. -/
def sectionOf (l : List Byte) (ty : Nat) : Option (List Byte) :=
  ((imageSections l).find? fun x => decide (x.ty = ty)).map fun x => x.bytes l

/-! ### Checks 1 to 4 (R385) -/

/-- The header: REASON 2, or 3. -/
def headerReason (l : List Byte) (rev : Nat) : Nat :=
  if crc32 (l.take 252) ≠ field l 252 4 ∨ field l 0 4 ≠ 0x494E5244 ∨ field l 4 2 ≠ 1 ∨ field l 6 2 ≠ 256 ∨
      field l 8 4 ≠ 0x2304 then 2
  else if rev < field l 12 1 then 3
  else 0

/-- No two sections share a byte, and no type appears twice. -/
def sectionsApart : List Section → Bool
  | [] => true
  | x :: r => (r.all fun y => decide (x.ty ≠ y.ty) &&
      (decide (x.off + x.len ≤ y.off) || decide (y.off + y.len ≤ x.off) || decide (x.len = 0) || decide (y.len = 0))) &&
    sectionsApart r

/-- A type that the table lists, or one of the image author's own. -/
def sectionListed (ty : Nat) : Bool := decide (1 ≤ ty ∧ ty ≤ 13) || decide (0x80 ≤ ty ∧ ty ≤ 0xFF)

/-- The ranges, types and required sections of the table. -/
def tableOk (l : List Byte) : Bool :=
  let len := field l 16 4
  let n := field l 24 2
  let signed := field l 26 2 % 2
  let xs := imageSections l
  decide (1 ≤ n ∧ n ≤ 32 ∧ field l 28 4 + 32 * n ≤ len ∧ len + 128 * signed ≤ l.length) &&
    decide (field l 32 4 = len * signed) &&
    (xs.all fun x => decide (x.off % 4096 = 0 ∧ x.off + x.len ≤ len) && sectionListed x.ty) && sectionsApart xs &&
    ([0x0D, 0x01, 0x02].all fun t => xs.any fun x => decide (x.ty = t))

/-- The image with its SHA256 field taken as 0. -/
def hashedBytes (l : List Byte) : List Byte :=
  (l.take 40) ++ List.replicate 32 0 ++ (l.take (field l 16 4)).drop 72

/-- The signature check: REASON 9, 8 or 7. -/
def signReason (l : List Byte) (otp : Otp) : Nat :=
  let sig := l.drop (field l 16 4)
  if field l 26 2 % 2 = 0 then (if otp.requireSig then 9 else 0)
  else if otp.keyHash = 0 then 0
  else if sha256 (sig.take 64) ≠ otp.keyHash then 8
  else if ecdsaVerify (fieldBe sig 0 32) (fieldBe sig 32 32) (fieldBe l 40 32) (fieldBe sig 64 32) (fieldBe sig 96 32) then 0
  else 7

/-- The first check that fails, up to check 4; 0 where all pass. `skip`: the signature check is skipped. -/
def imageReason (l : List Byte) (otp : Otp) (rev : Nat) (skip : Bool) : Nat :=
  if headerReason l rev ≠ 0 then headerReason l rev
  else if !tableOk l then 4
  else if (imageSections l).any fun x => decide (crc32 (x.bytes l) ≠ x.crc) then 5
  else if sha256 (hashedBytes l) ≠ fieldBe l 40 32 then 6
  else if skip then 0
  else signReason l otp

/-! ### Register records (R384) -/

/-- The records of a section, as address and value. -/
def recordsOf (l : List Byte) : List (Nat × Nat) :=
  (List.range (l.length / 8)).map fun i => (field l (8 * i) 4, field l (8 * i + 4) 4)

/-! ### The lay plan (R106, R107, R383) -/

/-- The class that the low three bits of a slot record name. -/
def slotClassOf (v : Nat) : SlotClass :=
  match v % 8 with
  | 1 => .hitch
  | 2 => .engine
  | 3 => .matrix
  | 4 => .host
  | _ => .none

/-- The slot map. -/
def planSlots (l : List Byte) : SMap SlotDef :=
  ((List.range 8192).filter fun i => decide (slotClassOf (field l (64 + 2 * i) 2) ≠ SlotClass.none)).map fun i =>
    let v := field l (64 + 2 * i) 2
    (i, ⟨slotClassOf v, v / 32 % 256, decide (v / 8 % 2 = 1), decide (v / 16 % 2 = 1)⟩)

/-- A region from its entry in the list area. -/
def regionOf (r : Nat × Nat × Nat × Bool) : Region :=
  { mem := match r.1 with | 0 => .x | 1 => .y | _ => .coil, lo := r.2.1, hi := r.2.2.1, resync := r.2.2.2 }

/-- A parameter record at an offset of the list area. -/
def paramOf (area : List Byte) (o : Nat) : ParamRec :=
  let t := field area (o + 12) 4
  { number := field area o 1, ty := field area (o + 1) 1, words := field area (o + 2) 1
    targets := (List.range (field area (o + 3) 1)).map fun i => (field area (t + 4 * i) 1, field area (t + 4 * i + 2) 2)
    min := BitVec.ofNat 32 (field area (o + 4) 4), max := BitVec.ofNat 32 (field area (o + 8) 4) }

/-- A knot record at an offset of the section. DEDUCED: its BYPASS parameter is its first one of type BOOL, where
FLAGS names a bypass. -/
def knotOf (l area : List Byte) (o : Nat) : Knot :=
  let io := field l (o + 20) 4
  let nin := field l (o + 16) 2
  let nout := field l (o + 18) 2
  let slot := fun i => field area (io + 2 * i) 2
  let params := (List.range (field l (o + 32) 2)).map fun i => paramOf area (field l (o + 36) 4 + 16 * i)
  let flags := field l (o + 13) 1
  { kid := field l o 2, parent := field l (o + 2) 2, ordinal := field l (o + 4) 2, depth := field l (o + 6) 1
    kind := field l (o + 7) 1, firstChild := field l (o + 8) 2, nchild := field l (o + 10) 2
    engine := field l (o + 12) 1, lib := field l (o + 14) 2, twoset := decide (flags / 2 % 2 = 1)
    bypass := if flags / 4 % 2 = 1 then (params.find? fun p => decide (p.ty = 5)).bind fun p => p.targets.head? else none
    fprint := BitVec.ofNat 32 (field l (o + 48) 4)
    inputs := (List.range nin).map slot
    outputs := (List.range nout).map fun i => slot (nin + i)
    bypIn := if flags / 4 % 2 = 1 then (List.range nout).map fun i => slot (nin + nout + i) else []
    fused := decide (flags % 2 = 1), hops := field l (o + 24) 2, delay := field l (o + 28) 4
    coilCount := field l (o + 52) 4, name := (l.drop (o + 56)).take 8
    params := params
    state := (Config.regionList (area.drop (field l (o + 40) 4))).map regionOf
    consts := (Config.regionList (area.drop (field l (o + 44) 4))).map fun r => { regionOf r with resync := false } }

/-- A region record of ENGPROG. -/
structure RegionRec where
  engine : Nat
  kind : Nat
  family : Nat
  addr : Nat
  data : List Byte
deriving DecidableEq, Repr

/-- The region records of a section; its data is padded to a multiple of 16 bytes. -/
def regionRecs : Nat → List Byte → List RegionRec
  | 0, _ => []
  | n + 1, l =>
    if l.length < 16 then []
    else
      let len := field l 8 4
      ⟨field l 0 1, field l 1 1, field l 2 1, field l 4 4, (l.drop 16).take len⟩ :: regionRecs n (l.drop (16 + (len + 15) / 16 * 16))

/-- The words of a record's data. -/
def RegionRec.words (r : RegionRec) : List Word :=
  (List.range ((r.data.length + 3) / 4)).map fun i => BitVec.ofNat 32 (field r.data (4 * i) 4)

/-- A record that a load accepts: an engine and a kind that exist, and no constant in the parameter page. -/
def RegionRec.ok (r : RegionRec) : Bool :=
  decide (r.engine < 192 ∧ r.kind ≤ 6 ∧ r.family ≤ 2) && !(decide (r.kind = 4) && decide (r.addr < 512))

/-- Constants join those of the other family for the same region. -/
def addConst (l : List ConstData) (reg : Region) (family : Nat) (w : List Word) : List ConstData :=
  let put := fun c : ConstData => if family = 2 then { c with words44 := w } else { c with words48 := w }
  if l.any fun c => decide (c.region = reg) then l.map fun c => if c.region = reg then put c else c
  else l ++ [put ⟨reg, [], []⟩]

/-- An engine's plan with a record added. DEDUCED: a record's address counts instructions in kind 0, words in kinds 4
and 5, quads in kind 6; the entry address of kind 1 is its data's first word. -/
def EnginePlan.record (p : EnginePlan) (r : RegionRec) : EnginePlan :=
  match r.kind with
  | 0 => { p with program := ((List.range ((r.data.length + 7) / 8)).foldl (fun m i =>
      sset 0 (r.addr + i) (BitVec.ofNat 64 (field r.data (8 * i) 8)) m) p.program) }
  | 1 => { p with entry := BitVec.ofNat 12 (field r.data 0 4) }
  | 2 => (Config.initialRegs r.data).foldl (fun p x =>
      if x.1 < 16 then { p with initD := sset 0 x.1 (BitVec.ofNat 32 x.2) p.initD }
      else if x.1 < 20 then { p with initA := sset 0 (x.1 - 16) (BitVec.ofNat 80 x.2) p.initA }
      else if x.1 < 70 then { p with initAgu := sinsert (x.1 - 32) (BitVec.ofNat 32 x.2) p.initAgu }
      else if x.1 = 128 then { p with seed0 := BitVec.ofNat 32 x.2 } else { p with seed1 := BitVec.ofNat 32 x.2 }) p
  | 3 => (Config.coilDescs r.data).foldl (fun p x =>
      let d : CoilSlot := ⟨x.2.1, x.2.2.1, x.2.2.2.1, BitVec.ofNat 4 x.2.2.2.2⟩
      { p with csd := sinsert x.1 d p.csd }) p
  | k =>
    let w := r.words
    let mem : MemKind := if k = 4 then .x else if k = 5 then .y else .coil
    let n := if k = 6 then (w.length + 3) / 4 else w.length
    if n = 0 then p
    else { p with consts := addConst p.consts { mem := mem, lo := r.addr, hi := r.addr + n - 1 } r.family w }

/-- The engines' plans from ENGPROG and PARAM. A value of 0 in PARAM is a value that a load writes (05 R116). -/
def planEngines (ep param : List Byte) : SMap EnginePlan :=
  let m := (regionRecs ep.length ep).foldl (fun (m : SMap EnginePlan) r =>
    sset ({} : EnginePlan) r.engine ((sget ({} : EnginePlan) r.engine m).record r) m) []
  m.map fun p => (p.1, { p.2 with params := (List.range 512).foldl (fun q w =>
    if 2048 * p.1 < param.length then sinsert w (BitVec.ofNat 32 (field param (2048 * p.1 + 4 * w) 4)) q else q) [] })

/-- The lay plan that LAYPLAN, ENGPROG and PARAM hold. -/
def planOfImage (lp ep param : List Byte) : LayPlan :=
  let area := lp.drop (field lp 20 4)
  let flags := field lp 24 1
  { ident := BitVec.ofNat 32 (field lp 0 4), sha := fieldBe lp 32 32, mult := field lp 4 1
    pair := match field lp 5 1 with | 0 => .solo | 1 => .paired | _ => .twin
    lpSplice := field lp 6 2, resBase := Config.reservedBase (lp ++ ep), resCount := field lp 8 2, mirror := field lp 10 2
    pairWait := if field lp 26 2 = 0 then 2000 else field lp 26 2
    degradedEn := decide (flags % 2 = 1), resend := decide (flags / 2 % 2 = 1), twinFollow := decide (flags / 4 % 2 = 1)
    convergeW := Config.convergeTicks (lp ++ ep), resync := Config.resyncSteps (lp ++ ep)
    slots := planSlots lp, engines := planEngines ep param
    cols := (Config.matrixCols (lp ++ ep)).foldl (fun (m : SMap ColPlan) c =>
      sinsert c.1 ⟨c.2.1, c.2.2.1, c.2.2.2, .mix []⟩ m) []
    knots := (List.range (field lp 12 2)).map fun i => knotOf lp area (field lp 16 4 + 64 * i) }

/-- The checks of a load (05 R116, 17 R383): the plan's SHA-256, its codes, and its region records. -/
def planOk (lp ep : List Byte) : Bool :=
  decide (sha256 (lp.drop 64 ++ ep) = fieldBe lp 32 32) && decide (field lp 4 1 ≤ 2 ∧ field lp 5 1 ≤ 2) &&
    (regionRecs ep.length ep).all RegionRec.ok

end Sys2Proof.Machine
end

