-- ==== Sys2Proof/Machine/Boot.lean ====
section
/-! DEFINITION. The steps of a start, and the load of the image (17 R374-R381, R384-R386). -/

namespace Sys2Proof.Machine

/-! ### Going from step to step (R376, R378) -/

/-- The start reaches a step. -/
def State.toBootStep (s : State) (n : Nat) : State := (s.wr Reg.CHIP_STATE.STEP n).showFaultN

/-- The start that runs is a warm one. -/
def State.bootWarm (s : State) : Bool := s.on Reg.CHIP_STATE.WARM

/-- Step 7, or HOSTWAIT for a host download (R381). -/
def State.toImageStep (s : State) : State :=
  let sel := s.rd Reg.BOOT_STATUS.SEL
  if sel = 2 then s.enterNoImage 4 0
  else ((s.onBoot fun b => { b with source := if sel = 3 then 1 else 0, retries := 0 }).toBootStep 7).opStart 1

/-- Step 5, which a warm start takes only where WARMBIST is 1, as it never takes step 6. -/
def State.toBist (s : State) : State :=
  if s.bootWarm && !s.on Reg.BOOT_CTRL.WARMBIST then s.toImageStep else (s.toBootStep 5).opStart 2

/-- Step 2 ends: fuses and straps are known (R374). A warm start keeps PAIR_SIDE and the test mode, and skips steps 3
and 4 while the clocks stand. -/
def State.fusesRead (s : State) (o : Otp) (st : Straps) : State :=
  let warm := s.bootWarm
  let test : BitVec 2 := if st.test = 2 then 2 else 0
  let bad := st.bad || decide (st.test ≠ test)
  let st := if warm then { st with side := s.boot.straps.side, test := s.boot.straps.test } else { st with test := test }
  let s := s.onBoot fun b => { b with otp := o, straps := st }
  let s := ((s.put Reg.CHIP_OTP.VALID true).put Reg.CHIP_OTP.REQUIRE_SIG o.requireSig).put Reg.CHIP_OTP.KEYHASH_SET
    (decide (o.keyHash ≠ 0))
  let s := ((s.put Reg.CHIP_OTP.PELKEY_SET (decide (o.pelKey ≠ 0))).wr Reg.CHIP_OTP.PCIE_MODE o.pcieMode.toNat).wr
    Reg.CHIP_OTP.MGMT_RATE o.mgmtRate.toNat
  let s := ((s.wr Reg.CHIP_REV.GRADE o.grade.toNat).wr Reg.CHIP_SERIAL_LO.SERIAL (o.serial.toNat % 2 ^ 32)).wr
    Reg.CHIP_SERIAL_HI.SERIAL (o.serial.toNat / 2 ^ 32)
  let s := (s.wr Reg.HOST_PCI_ID.VENDOR o.vendor.toNat).put Reg.TTH_STATUS.SIDE st.side
  let s := (s.wr Reg.BOOT_STATUS.SEL st.bootSel.toNat).put Reg.BOOT_STATUS.STRAP_BAD bad
  if warm && s.on Reg.CLK_STATUS.XO_OK && s.on Reg.CLK_STATUS.ROOT_LOCK then s.toBist else s.toBootStep 3

/-- Step 4 ends: the root has lock. At a cold start it locks in the 48 kHz family, DPLL in FREERUN, SC at 0. -/
def State.rootLocked (s : State) : State :=
  let s := { s with rclk := true }
  if s.bootWarm then s.rootAcquire.toBist
  else
    let s := ((s.put Reg.CLK_STATUS.ROOT_LOCK true).wr Reg.CLK_STATUS.FAMILY 0).setDpll 0
    let s := (s.onTime fun t => { t with sc := 0 }).onRef fun r => { r with acquiring := true }
    s.toBist

/-- Step 5 ends: every memory holds zeros and valid check bits. -/
def State.bistDone (s : State) : State :=
  let s := ({ s with mem := [], livePage := [], ecc := [] }.onMtx fun m => { m with gmem := [], gown := [] }).opEnd 2
  if s.bootWarm then s.toImageStep else s.toBootStep 6

/-- Step 5 finds a memory that fails. -/
def State.bistFail (s : State) (mem : Nat) (fatal : Bool) : State :=
  let s := ((s.wr Reg.BOOT_BIST.MEMID mem).put Reg.BOOT_BIST.VALID true).opEnd 2
  if fatal then s.halt else s.enterNoImage 6 12

/-- Step 6 ends: lanes are calibrated but for those that failed, and LANE_14-15 have the PCIe role of PCIE_MODE. -/
def State.lanesDone (s : State) (failed : BitVec 16) : State :=
  let s := s.onBoot fun b => { b with badLanes := failed }
  let s := (List.range 16).foldl (fun s n => s.put (Reg.LANE_STATUS.CAL_DONE n) (!failed.getLsbD n)) s
  let width := s.boot.otp.pcieMode.toNat
  let pcie := (List.range 2).filter fun k => decide (width = 1 ∧ k = 0) || decide (width = 2)
  let s := pcie.foldl (fun s k => if failed.getLsbD (14 + k) then s else s.wr (Reg.LANE_CFG.ROLE (14 + k)) 5) s
  if (pcie.any fun k => failed.getLsbD (14 + k)) && decide (s.rd Reg.BOOT_STATUS.SEL = 2) then s.enterNoImage 6 13
  else s.toImageStep

/-! ### Reading a slot (R380, R382) -/

/-- Bytes of the flash. -/
def State.flashBytes (s : State) (a n : Nat) : List Byte := (List.range n).map fun i => sget 0xFF (a + i) s.boot.flash

/-- A slot's image, with its signature block: at most half of the device. -/
def State.slotBytes (s : State) (slot : Nat) : List Byte :=
  let half := s.boot.flashSize / 2
  let n := field (s.flashBytes (slot * half) 256) 16 4
  s.flashBytes (slot * half) (max 256 (min half (n + 128)))

/-- The image that the start reads. -/
def State.imageBytes (s : State) : List Byte :=
  if s.boot.source = 2 then s.loadBytes coilBase (s.rd Reg.BOOT_HOSTIMG.LEN) else s.slotBytes s.boot.source

/-- BOOT_HASH_i equals the image's SHA256 field; word i holds bytes 4i to 4i + 3, the first one lowest. -/
def State.hashKept (s : State) (l : List Byte) : Bool :=
  (List.range 8).all fun i => decide (s.rd (Reg.BOOT_HASH.HASH i) = field l (40 + 4 * i) 4)

/-- BOOT_HASH takes the image's SHA256 field. -/
def State.keepHash (s : State) (l : List Byte) : State :=
  (List.range 8).foldl (fun s i => s.wr (Reg.BOOT_HASH.HASH i) (field l (40 + 4 * i) 4)) s

/-! ### A source that fails (R381, R386) -/

/-- No source remains. -/
def State.lastFailed (s : State) (reason : Nat) : State :=
  if s.boot.source = 2 then (s.put Reg.BOOT_CTRL.HOSTGO false).enterNoImage 4 13 else s.enterNoImage 6 reason

/-- The slot being tried fails with a reason; slot B follows slot A but for BOOT_SEL 0b11. -/
def State.slotFailed (s : State) (reason : Nat) : State :=
  if s.boot.source = 0 then
    let s := (s.slotClear.wr Reg.BOOT_STATUS.REASON_A reason).onBoot fun b => { b with source := 1, retries := 0, keys := [], arms := [] }
    (s.toBootStep 7).opMove 1 0 0
  else if s.boot.source = 1 then (s.wr Reg.BOOT_STATUS.REASON_B reason).lastFailed reason
  else s.lastFailed reason

/-- A device size outside 256 Mbit to 2 Gbit: both slots fail. -/
def State.sizeFailed (s : State) : State :=
  ((s.wr Reg.BOOT_STATUS.REASON_A 11).wr Reg.BOOT_STATUS.REASON_B 11).enterNoImage 6 11

/-! ### Step 7 (R385) -/

/-- The image is read and checked up to check 4. -/
def State.checkImage (s : State) : State :=
  let l := s.imageBytes
  let skip := s.bootWarm && decide (s.boot.source < 2) && s.hashKept l
  let why := imageReason l s.boot.otp (s.rd Reg.CHIP_REV.REV) skip
  if why ≠ 0 then s.slotFailed why
  else
    let blocks := (field l 16 4 + 4095) / 4096
    let s := (s.put Reg.BOOT_STATUS.HASH_MATCH skip).put Reg.BOOT_STATUS.UNSIGNED (decide (field l 26 2 % 2 = 0))
    (s.toBootStep 8).opMove 1 100 blocks

/-- A flash read command has not completed within 1 ms: the third retry's failure fails the slot. -/
def State.flashTimeout (s : State) : State :=
  if s.startStep = 7 ∧ s.boot.source < 2 then
    if s.boot.retries < 3 then s.onBoot fun b => { b with retries := b.retries + 1 } else s.slotFailed 1
  else s

/-! ### Step 8 (R383, R384) -/

/-- What stages takes its effect: boundaries pass while the loader waits for a commit. -/
def State.settleLoad (s : State) : State :=
  let t := s.tick + 1
  let s := if s.str.armed.isSome then s.hitApply t else s
  let s := ((s.serialCfgTick.descApply t).mtxShow).mtxBoundary t
  ((s.mtxBoundary (t + 1)).mtxComplete).copyWhips

/-- The commit registers of the staged changes. -/
def stagedCommit (off : Nat) : Bool := decide (off = 0x80024 ∨ off = 0x110028 ∨ off = 0xA0074 ∨ off = 0xB0014)

/-- A record in register space. ARM of a braid and EN of a drive channel wait for step 10. -/
def State.registerRecord (s : State) (off v : Nat) : State :=
  let w := BitVec.ofNat 32 v
  let n := (off - 0xF0100) / 0x20
  if 0x81000 ≤ off ∧ off < 0x81800 ∧ off % 0x20 = 0 ∧ w.getLsbD 7 = true then
    let b := (off - 0x81000) / 0x20
    (s.onBoot fun x => { x with arms := sset 0 b w x.arms }).regWrite off (w &&& ~~~0x80#32)
  else if 0xF0100 ≤ off ∧ off < 0xF0500 ∧ off % 0x20 = 0 ∧ w.getLsbD 0 = true then
    if s.rd (Reg.AMP_CH_SCALE.VFS n) = 0 ∨ s.rd (Reg.AMP_CH_SCALE.IFS n) = 0 then s.refuseWrite off
    else s.guarded off w id
  else
    let s := s.regWrite off w
    if stagedCommit off then s.settleLoad else s

/-- A register whose fields keep their values through a warm start: step 8 of a warm start applies no record to it
(18 R406). -/
def keptRegister (off : Nat) : Bool := ((fieldsAt off).getD []).all fun f => warmKeeps f.ref.key 0

/-- A record of a section as a write by M0; false: it was refused, it ended in an error response, or its address is
neither register space nor working RAM. -/
def State.record8 (s : State) (r : Nat × Nat) : Bool × State :=
  let old := s.refusals
  let a := r.1
  if s.bootWarm ∧ 0x40000000 ≤ a ∧ a < 0x40170000 ∧ a % 4 = 0 ∧ (fieldsAt (a - 0x40000000)).isSome ∧
      keptRegister (a - 0x40000000) = true then (true, s)
  else if 0x40000000 ≤ a ∧ a < 0x40170000 ∧ a % 4 = 0 then
    let t := ((s.busAs 0 0).registerRecord (a - 0x40000000) r.2).busEnd 0
    (!t.bus.err && decide (t.refusals = old), t)
  else if 0x200000 ≤ a ∧ a < 0x300000 ∧ a % 4 = 0 then s.busWrite 0 0 a 4 r.2
  else if a % 4 ≠ 0 then (false, (((s.busAs 0 0).busFail 3 a true).busEnd 0))
  else if fabTarget a = 7 then (false, (((s.busAs 0 0).busFail 1 a true).busEnd 0))
  else (false, s.refused)

/-- The records of a section in order, up to the first that fails. -/
def State.records8 : List (Nat × Nat) → State → Bool × State
  | [], s => (true, s)
  | r :: l, s => match s.record8 r with
    | (true, s) => State.records8 l s
    | (false, s) => (false, s)

/-- A section of register records; an absent one changes nothing. -/
def State.sectionRecords (s : State) (l : List Byte) (ty : Nat) : Bool × State :=
  match sectionOf l ty with
  | none => (true, s)
  | some x =>
    let old := s.refusals
    let (ok, s) := s.records8 (recordsOf x)
    let s := s.settleLoad
    (ok && decide (s.refusals = old), s)

/-- FIRMWARE: copied to working RAM, then REMAP = 1. -/
def State.loadFirmware (s : State) (l : List Byte) : Bool × State :=
  let x := (sectionOf l 0x0D).getD []
  let n := ramBase / 8
  let s := ((s.storeBytes ramBase x).eccClearRange (EccKey.ram n).num (EccKey.ram (n + (x.length + 7) / 8)).num)
  (decide (x.length ≤ 0x100000), s.put Reg.FAB_REMAP.REMAP true)

/-- SECURITY: at most eight keys. -/
def State.loadKeys (s : State) (l : List Byte) : Bool × State :=
  match sectionOf l 0x09 with
  | none => (true, s)
  | some x =>
    let n := field x 0 4
    let ids := (List.range n).map fun i => (field x (4 + 36 * i) 2, fieldBe x (8 + 36 * i) 32)
    if n ≤ 8 ∧ (ids.all fun k => decide (1 ≤ k.1 ∧ k.1 ≤ 8)) = true then
      (true, s.onBoot fun b => { b with keys := ids.foldl (fun m k => sinsert k.1 k.2 m) [] })
    else (false, s)

/-- The family that an image's REF section names, 0 where it names none. -/
def imageFamily (l : List Byte) : Nat :=
  ((recordsOf ((sectionOf l 0x06).getD [])).filter fun r => decide (r.1 = 0x40020000)).getLast?.elim 0 fun r => r.2 / 128 % 2

/-- The root runs in the family that the REF section names (08 R174). -/
def State.bootFamily (s : State) (fam : Nat) : State :=
  let old := s.rd Reg.CLK_STATUS.FAMILY
  if fam = old then s
  else
    let s := (List.range 16).foldl State.slotFamily (s.deselect.wr Reg.CLK_STATUS.FAMILY fam)
    let s := s.rescaleInc (tickRate old s.mult) (tickRate fam s.mult)
    if s.bootWarm then s.rootAcquire else s

/-- The reserved copy of the plan, the region records of ENGPROG, in the coils that ENG_RES names (05 R120, 17 R383). -/
def State.putCopy (s : State) (p : LayPlan) (ep : List Byte) : State :=
  let q := 256 * p.resBase
  let ep := ep.take (4096 * p.resCount)
  (s.storeBytes (coilBase + 16 * q) ep).eccClearRange (EccKey.coil q).num (EccKey.coil (q + (ep.length + 15) / 16)).num

/-- The matrix program of the live bank as the MATRIX section's records leave it (05 R111, 17 R383). -/
def State.keepMatrix (s : State) : State := s.setPlan s.liveBank (s.matrixProgram s.livePlan)

/-- What a plan made live puts into the memories: the reserved copy, every engine from its initial registers, state
regions and coils zeroed, constants of the root's family, the parameter pages, and the matrix (05 R111, R112, R120). -/
def State.plantPlan (s : State) (p : LayPlan) (ep param : List Byte) : State :=
  let bank := s.liveBank
  let s := ((s.setPlan bank p).wr (Reg.ENG_LP_ID.ID bank) p.ident.toNat).wr Reg.CLK_STATUS.MULT p.mult
  let s := s.putCopy p ep
  let s := p.knots.foldl State.zeroKnot s
  let s := (List.range 192).foldl (fun s e =>
    let s := { s.zeroBytes (xyAddr e false 0) (xyAddr e false 512) with livePage := s.livePage.filter fun q : Nat × Word => decide (q.1 / 512 ≠ e) }
    let s := s.wr (Reg.ENG_STATUS.BANK e) bank
    match sfind e p.engines with
    | none => s.putProgram e bank {}
    | some q =>
      let s := ((s.putProgram e bank q).setEngine e (loadRegs (s.engine e) q)).wr (Reg.ENG_STATUS.STATE e) 0
      q.consts.foldl (fun s c => s.putConst e c) s) s
  let s := (List.range (param.length / 4)).foldl (fun s i =>
    let v := BitVec.ofNat 32 (field param (4 * i) 4)
    { s.store (xyAddr (i / 512) false (i % 512)) 4 v.toNat with livePage := sset 0 i v s.livePage }) s
  s.loadMatrix p

/-- A plan made live in the bank that LIVE names, and the registers that show its fields (17 R376). -/
def State.bootPlan (s : State) (p : LayPlan) (ep param : List Byte) : State :=
  let s := ((s.plantPlan p ep param).showPlan p).put Reg.TTH_CTRL.DEGRADED_EN p.degradedEn
  let s := ((s.put Reg.TTH_CTRL.RESEND p.resend).put Reg.TTH_CTRL.TWIN_FOLLOW p.twinFollow).wr Reg.TTH_CTRL.PAIR_WAIT p.pairWait
  (s.wr Reg.TTH_CTRL.MIRROR p.mirror).wr Reg.TTH_CONV.W p.convergeW

/-- LAYPLAN, ENGPROG and PARAM. -/
def State.loadPlan (s : State) (l : List Byte) : Bool × State :=
  let lp := (sectionOf l 1).getD []
  let ep := (sectionOf l 2).getD []
  let param := (sectionOf l 3).getD []
  if planOk lp ep && decide (param.length ≤ 192 * 2048) then (true, s.bootPlan (planOfImage lp ep param) ep param)
  else (false, s)

/-- AUDIT: the audit list, and the copy of its registers (16 R366). -/
def State.loadAudit (s : State) (l : List Byte) : State :=
  match sectionOf l 0x0C with
  | none => s
  | some x =>
    let a := (List.range (x.length / 4)).map fun i => field x (4 * i) 4 - 0x40000000
    (s.onFlt fun f => { f with auditList := a }).auditTake

/-- Parts of a load one after another, up to the first that fails. -/
def loadParts : List (State → Bool × State) → State → Bool × State
  | [], s => (true, s)
  | f :: l, s => match f s with
    | (true, s) => loadParts l s
    | (false, s) => (false, s)

/-- The sections in the order of R383. -/
def State.loadSections (s : State) (l : List Byte) : Bool × State :=
  let rec8 := fun (ty : Nat) (s : State) => s.sectionRecords l ty
  loadParts [fun s => s.loadFirmware l, rec8 0x0B, fun s => s.loadKeys l, rec8 0x06, fun s => (true, s.bootFamily (imageFamily l)), rec8 0x07,
    fun s => s.loadPlan l, rec8 0x04, fun s => (true, s.keepMatrix), rec8 0x05, rec8 0x0A, rec8 0x08] s

/-- The sources that wait for firmware are raised (R386, 16 R369, R371). -/
def State.raiseNotices (s : State) : State :=
  (s.boot.notices.foldl State.raise s).onBoot fun b => { b with notices := [] }

/-! ### Step 10 (R376, 02 R35, 11 R238, R239, 14 R301) -/

/-- A drive channel with EN set starts; a warm start runs its diagnostic only where WARMDIAG is 1. -/
def State.ampStart (s : State) (n : Nat) : State :=
  if s.on (Reg.AMP_CH_CTRL.EN n) = true ∧ s.ampSt n = 0 then
    let diag := s.on (Reg.AMP_CH_CTRL.DIAG_EN n) && (!s.bootWarm || s.on Reg.AMP_CTRL.WARMDIAG)
    s.ampBegin n diag
  else s

/-- The pair state that the plan gives. -/
def State.pairStart (s : State) : State :=
  match s.livePlan.pair with
  | .solo => s.wr Reg.TTH_STATUS.STATE 0
  | .paired => ((s.wr Reg.TTH_STATUS.STATE 4).wr Reg.TTH_STATUS.REASON 0).raise Src.PAIR_STBY
  | .twin => s.wr Reg.TTH_STATUS.STATE 5

/-- Step 10 begins. -/
def State.unmute (s : State) : State :=
  let s := ((s.wr Reg.BOOT_STATUS.WARMFAIL 0).toBootStep 10).onEgr fun e => { e with outWant := false }
  let s := s.boot.arms.foldl (fun s p => s.writeBraid p.1 p.2) s
  let s := s.onBoot fun b => { b with arms := [] }
  ((List.range 32).foldl State.ampStart s).pairStart

/-- The load ends well. -/
def State.loaded (s : State) (l : List Byte) : State :=
  let slot := s.boot.source
  let s := ((s.onCtl fun c => { c with imageSha := fieldBe l 40 32 }).keepHash l).wr Reg.BOOT_VER.VERSION (field l 20 4)
  let fell := decide (slot = 1 ∧ s.rd Reg.BOOT_STATUS.REASON_A ≠ 0)
  let s := (s.put Reg.BOOT_STATUS.SLOT (decide (slot = 1))).put Reg.BOOT_STATUS.FALLBACK fell
  let s := if fell then s.raise Src.BOOT_FALLBACK else s
  let s := ((s.loadAudit l).put Reg.BOOT_CTRL.HOSTGO false).opEnd 1
  let s := s.raiseNotices
  if s.rd Reg.BOOT_STATUS.SEL = 1 then s.setChip 3 else if s.bootWarm then s.unmute else s.toBootStep 9

/-- Step 8: a refused record or a failed load check fails the source with REASON 10. -/
def State.loadImage (s : State) : State :=
  let l := s.imageBytes
  match s.loadSections l with
  | (true, t) => t.loaded l
  | (false, t) => t.slotFailed 10

/-! ### The commands -/

/-- A step of the start ends. -/
def State.stepDone (s : State) (ev : StepEvent) : State :=
  match s.startStep, ev with
  | 1, .done => if [0, 1, 2, 5].any fun r => s.on (Reg.PWR_RAIL_STATUS.WARN r) then s else s.toBootStep 2
  | 2, .fuses none _ => s.halt
  | 2, .fuses (some o) st => s.fusesRead o st
  | 3, .done => (s.put Reg.CLK_STATUS.XO_OK true).toBootStep 4
  | 4, .done => s.rootLocked
  | 4, .rootFail =>
    let s := s.onBoot fun b => { b with tries := b.tries + 1 }
    if s.boot.tries < 3 then s else s.halt
  | 5, .done => s.bistDone
  | 5, .bist mem fatal => s.bistFail mem.toNat fatal
  | 6, .lanes failed => s.lanesDone failed
  | 7, .flash size oneS =>
    if s.boot.source = 2 then s
    else
      let s := (s.onBoot fun b => { b with flashSize := size }).put Reg.BOOT_STATUS.FLASH_1S oneS
      if size < 33554432 ∨ 268435456 < size then s.sizeFailed else s.checkImage
  | 7, .done => if s.boot.source = 2 then s.checkImage else s
  | 8, .done => s.loadImage
  | 9, .done => if s.rd Reg.REF_STATUS.DPLL = 4 ∨ s.boot.acqOver = true ∨ s.bootWarm = true then s.unmute else s
  | 10, .done => s.setChip 5
  | _, _ => s

/-- START_STEP_DONE (17 R376): the step that runs ends as the event says. -/
def execStartStepDone (ev : StepEvent) (s : State) : Out := core (fun s => s.stepDone ev) s

/-- FLASH_READ_TIMEOUT (17 R380). -/
def execFlashReadTimeout (s : State) : Out := core State.flashTimeout s

end Sys2Proof.Machine
end

