-- ==== Sys2Proof/Machine/Pelond.lean ====
section
/-! DEFINITION. The Pelond service (17 R391-R395). -/

namespace Sys2Proof.Machine

/-- Changing the part `pel`. -/
def State.onPel (s : State) (f : PelState → PelState) : State := { s with pel := f s.pel }

/-! ### Authentication (R391, R392) -/

/-- HMAC-SHA-256 with a 32-byte key. PRESUMED from RFC 2104 and FIPS 180-4. -/
def hmac (key : Nat) (l : List Byte) : Nat :=
  let k := beBytes 32 key ++ List.replicate 32 (0 : Byte)
  let inner := sha256 ((k.map fun b => b ^^^ 0x36#8) ++ l)
  sha256 ((k.map fun b => b ^^^ 0x5C#8) ++ beBytes 32 inner)

/-- The MAC of a message: the first 16 bytes. -/
def pelMac (key : Nat) (l : List Byte) : List Byte := (beBytes 32 (hmac key l)).take 16

/-- The key of a KEYID: that of OTP, or one of the SECURITY section's. The no-image state accepts only KEYID 0. -/
def State.pelKey (s : State) (id : Nat) : Option Nat :=
  if id = 0 then (if s.boot.otp.pelKey = 0 then none else some s.boot.otp.pelKey)
  else if s.noImageState then none
  else sfind id s.boot.keys

/-- A message whose length, MAGIC, VERSION, KEYID and MAC are correct: its key. -/
def State.pelAuth (s : State) (l : List Byte) : Option Nat :=
  let len := field l 8 2
  if l.length = 32 + len ∧ len ≤ 1440 ∧ field l 0 2 = 0x4C50 ∧ field l 2 1 = 1 then
    match s.pelKey (field l 10 1) with
    | some k => if pelMac k (l.take (16 + len)) = l.drop (16 + len) then some k else none
    | none => none
  else none

/-- A datagram that the node sends. -/
def pelMessage (key op id flags status : Nat) (seq payload : List Byte) : List Byte :=
  let l := leBytes 2 0x4C50 ++ leBytes 1 1 ++ leBytes 1 op ++ seq ++ leBytes 2 payload.length ++ leBytes 1 id ++
    leBytes 1 flags ++ leBytes 2 status ++ [0, 0] ++ payload
  l ++ pelMac key l

/-- A datagram leaves for a receiver. -/
def State.pelSend (s : State) (p : PelPeer) (l : List Byte) : State := s.onPel fun r => { r with sent := (p, l) :: r.sent }

/-- A message that fails authentication, or whose SEQ is replayed, gets no response. -/
def State.pelDrop (s : State) (f : FieldRef) : State := (s.bump f 1).refused

/-! ### The replay table (R392) -/

/-- A source and its response go to the front of the table; where it is full the last entry goes, and its SEQ raises
the floor of its KEYID. -/
def PelState.remember (r : PelState) (x : PelSource) : PelState :=
  let l := x :: r.sources.filter fun y => decide (y.peer ≠ x.peer)
  match l.drop 64 with
  | [] => { r with sources := l }
  | y :: _ => { r with sources := l.take 64, floors := sinsert y.peer.key (max y.seq (sget 0 y.peer.key r.floors)) r.floors }

/-- A new source is accepted above the floor of its KEYID; while no entry of the KEYID has been evicted there is none. -/
def PelState.aboveFloor (r : PelState) (key seq : Nat) : Bool :=
  match sfind key r.floors with
  | some f => decide (f < seq)
  | none => true

/-! ### A request (R393, R394) -/

/-- What an operation works on: its sender, the FLAGS of its header, and its payload. -/
structure PelRequest where
  peer : PelPeer
  flags : Nat
  body : List Byte
deriving DecidableEq, Repr

/-- What an operation answers: STATUS and payload. -/
abbrev PelAnswer := Nat × List Byte

/-- Runs of an operation: what it answers and what it changes. -/
abbrev PelOp := PelRequest → State → PelAnswer × State

/-- The service answers in RUN, HELD, HOSTWAIT and NOIMAGE. -/
def State.pelServes (s : State) : Bool := decide (s.chipState = 3 ∨ s.chipState = 4 ∨ s.chipState = 5 ∨ s.chipState = 6)

/-- The operations that are control changes of a PAIRED node. -/
def pelControl (op : Nat) : Bool := decide (2 ≤ op ∧ op ≤ 5)

/-- The tick B at which a change that lands now applies, with an idle tether: the first mirror boundary 7 ticks or more
away; 0 outside PAIRED mode. -/
def State.pelTick (s : State) : Nat :=
  let m := max 1 (s.rd Reg.TTH_CTRL.MIRROR)
  if s.paired then (s.tick + 7 + m - 1) / m * m else 0

/-- An operation run, with the STATUS codes that do not depend on it. -/
def State.pelRun (s : State) (op : Nat) (q : PelRequest) (f : PelOp) : PelAnswer × State :=
  if s.noImageState ∧ ¬ (op = 1 ∨ op = 2 ∨ op = 7 ∨ op = 8) then ((7, []), s)
  else if pelControl op ∧ s.isStandby = true then ((4, []), s)
  else if pelControl op then
    let b := s.pelTick
    let ((st, l), s) := f q s
    ((st, leBytes 4 (b % 2 ^ 32) ++ l), s)
  else f q s

/-- An accepted message is executed and answered. A refused one raises CTL_REFUSED, once at least. -/
def State.pelServe (s : State) (peer : PelPeer) (key op seq : Nat) (l body : List Byte) (f : PelOp) : State :=
  let old := s.refusals
  let ((st, out), s) := s.pelRun op ⟨peer, field l 11 1, body⟩ f
  let s := if st ≠ 0 ∧ s.refusals = old then s.refused else s
  let msg := pelMessage key op peer.key 1 st ((l.drop 4).take 4) out
  (s.onPel fun r => r.remember ⟨peer, seq, msg⟩).pelSend peer msg

/-- A message received at the Pelond port: `mine` says whether its operation is the one this command serves. -/
def State.pelReceive (s : State) (ip : BitVec 32) (port : BitVec 16) (l : List Byte) (mine : Nat → List Byte → Bool) (f : PelOp) :
    State :=
  if s.pelServes = false then s
  else match s.pelAuth l with
    | none => s.pelDrop Reg.HOST_PEL_CNT.AUTH
    | some key =>
      let op := field l 3 1
      let body := (l.drop 16).take (field l 8 2)
      if mine op body = false then s
      else
        let peer : PelPeer := ⟨ip, port, field l 10 1⟩
        let seq := field l 4 4
        let known := s.pel.sources.find? fun x => decide (x.peer = peer)
        match known with
        | some x =>
          if x.seq < seq then s.pelServe peer key op seq l body f
          else if x.seq = seq then (s.onPel fun r => r.remember x).pelSend peer x.response
          else s.pelDrop Reg.HOST_PEL_CNT.REPLAY
        | none => if s.pel.aboveFloor peer.key seq then s.pelServe peer key op seq l body f else s.pelDrop Reg.HOST_PEL_CNT.REPLAY

/-! ### READ and WRITE -/

/-- Words read by M0 from an address on, up to the first error response. -/
def State.pelWords (s : State) (a : Nat) : Nat → List Byte × Bool × State
  | 0 => ([], true, s)
  | n + 1 => match s.busRead 0 0 a 4 with
    | (none, s) => ([], false, s)
    | (some v, s) =>
      let (l, ok, s) := State.pelWords s (a + 4) n
      (leBytes 4 v ++ l, ok, s)

/-- READ. -/
def pelRead : PelOp := fun q s =>
  let n := field q.body 4 2
  if q.body.length ≠ 8 ∨ n = 0 ∨ 360 < n then ((1, []), s)
  else match s.pelWords (field q.body 0 4) n with
    | (l, true, s) => ((0, l), s)
    | (_, false, s) => ((1, []), s)

/-- A word written by M0; false: it was refused, or it ended in an error response. -/
def State.pelPut (s : State) (a v : Nat) : Bool × State :=
  let old := s.refusals
  let (ok, s) := s.busWrite 0 0 a 4 v
  (ok && decide (s.refusals = old), s)

/-- Words written by M0 at consecutive addresses, up to the first that is refused: its index. -/
def State.pelPuts (s : State) (a i : Nat) : List Nat → Option Nat × State
  | [] => (none, s)
  | v :: l => match s.pelPut (a + 4 * i) v with
    | (true, s) => State.pelPuts s a (i + 1) l
    | (false, s) => (some i, s)

/-- WRITE. -/
def pelWrite : PelOp := fun q s =>
  let n := field q.body 4 2
  if n = 0 ∨ 358 < n ∨ q.body.length ≠ 8 + 4 * n then ((1, []), s)
  else match s.pelPuts (field q.body 0 4) 0 ((List.range n).map fun i => field q.body (8 + 4 * i) 4) with
    | (none, s) => ((0, []), s)
    | (some i, s) => ((2, leBytes 2 i), s)

/-! ### PARAM (05 R105, R107, R108) -/

/-- The knot that a path of 34 bytes names in a plan. A path whose reserved byte 1 is not 0 names none: DESIGN CHOICE
(log 71). -/
def LayPlan.atPath (p : LayPlan) (l : List Byte) : Option Knot :=
  let depth := field l 0 1
  let ords := (List.range 16).map fun i => field l (2 + 2 * i) 2
  if 16 < depth ∨ field l 1 1 ≠ 0 ∨ ((ords.drop depth).any fun o => decide (o ≠ 0xFFFF)) = true then none
  else (ords.take depth).foldl (fun k o => k.bind fun k => p.knots.find? fun j => decide (j.parent = k.kid ∧ j.ordinal = o ∧ j.kind ≠ 2))
    (p.knots.find? fun j => decide (j.kind = 2))

/-- A value lies in MIN to MAX, in the parameter's own type. -/
def ParamRec.admits (r : ParamRec) (v : Word) : Bool :=
  if r.ty ≤ 3 then decide (r.min.toInt ≤ v.toInt ∧ v.toInt ≤ r.max.toInt) else decide (r.min.toNat ≤ v.toNat ∧ v.toNat ≤ r.max.toNat)

/-- Writes by M0, up to the first that is refused. -/
def State.pelAll (s : State) : List (Nat × Nat) → Bool × State
  | [] => (true, s)
  | p :: l => match s.pelPut p.1 p.2 with
    | (true, s) => State.pelAll s l
    | (false, s) => (false, s)

/-- The writes of a parameter: every target's shadow page, then the group commit of the engines named. -/
def paramWrites (r : ParamRec) (l : List Word) : List (Nat × Nat) :=
  let pages := r.targets.flatMap fun t => (l.zip (List.range l.length)).map fun p => (xyAddr t.1 false (t.2 + p.2), p.1.toNat)
  let mask := fun i => ((List.range 32).filter fun b => r.targets.any fun t => decide (t.1 = 32 * i + b)).foldl (fun m b => m + 2 ^ b) 0
  pages ++ ((List.range 6).map fun i => (0x40094030 + 4 * i, mask i)) ++ [(0x40094048, 1)]

/-- PARAM: the whole message is applied or refused; BUSY while another group commit waits. -/
def pelParam : PelOp := fun q s =>
  let n := field q.body 35 1
  let l := (List.range n).map fun i => BitVec.ofNat 32 (field q.body (38 + 4 * i) 4)
  let rec_ := if q.body.length ≠ 38 + 4 * n then none
    else (s.livePlan.atPath q.body).bind fun k => k.params.find? fun r => decide (r.number = field q.body 34 1)
  match rec_ with
  | none => ((1, []), s)
  | some r =>
    if n = 0 ∨ n ≠ r.words ∨ (l.all r.admits) = false then ((1, []), s)
    else if s.on Reg.ENG_PCM_GO.GO then ((3, []), s)
    else match s.pelAll (paramWrites r l) with
      | (true, s) => ((0, []), s)
      | (false, s) => ((2, []), s)

/-! ### SPLICE -/

/-- The settings and the commit that end a list. -/
def spliceEnd (l : List Byte) : List (Nat × Nat) :=
  [(0x400A0060, field l 0 4), (0x400A0064, field l 4 4), (0x400A0068, field l 8 4), (0x400A006C, field l 12 4),
    (0x400A0070, field l 16 4), (0x400A0074, 1)]

/-- MTX_CM_LAST. -/
def State.cmLast (s : State) : Nat := (s.word ((fieldsAt 0xA0078).getD [])).toNat

/-- SPLICE: entries join the open list, which belongs to the source that opens it; without MORE it is committed, and a
commit that is refused leaves the list open. A commit refused as past answers LATE, entries lost to a full list REFUSED. -/
def pelSplice : PelOp := fun q s =>
  let n := field q.body 20 2
  if n = 0 ∨ 177 < n ∨ q.body.length ≠ 24 + 8 * n then ((1, []), s)
  else if s.pel.splice.isSome ∧ s.pel.splice ≠ some q.peer then ((3, []), s)
  else
    let full := decide (4096 < s.mtx.openList.length + n)
    let s := s.onPel fun r => { r with splice := some q.peer }
    let entries := (List.range n).flatMap fun i =>
      [(0x400A0050, field q.body (24 + 8 * i) 4), (0x400A0054, field q.body (28 + 8 * i) 4)]
    match s.pelAll entries with
    | (false, s) => ((2, []), s)
    | (true, s) =>
      if full then ((2, []), s)
      else if q.flags.testBit 1 then ((0, []), s)
      else match s.pelAll (spliceEnd q.body) with
        | (true, s) => ((0, leBytes 4 s.cmLast), s.onPel fun r => { r with splice := none })
        | (false, s) => ((if s.rd Reg.MTX_CM_LAST.REFUSED = 1 ∧ s.rd Reg.MTX_CM_LAST.REASON = 6 then 6 else 2, leBytes 4 s.cmLast), s)

/-! ### EVENT -/

/-- A register's word with two fields replaced. -/
def State.withFields (s : State) (a : Nat) (f g : FieldRef) (x y : Nat) (bits : Word) : Nat :=
  let m := BitVec.ofNat 32 ((2 ^ f.width - 1) * 2 ^ f.lo + (2 ^ g.width - 1) * 2 ^ g.lo)
  ((s.word ((fieldsAt a).getD []) &&& ~~~m) ||| BitVec.ofNat 32 (x * 2 ^ f.lo + y * 2 ^ g.lo) ||| bits).toNat

/-- The trigger words at a register address, and the control word after them. -/
def eventWrites (a ctrl v : Nat) (l : List Byte) : List (Nat × Nat) :=
  [(0x40000000 + a, field l 4 4), (0x40000000 + a + 4, field l 8 4), (0x40000000 + a + 8, field l 12 4), (0x40000000 + ctrl, v)]

/-- EVENT: the writes that the message stands for; none: a field out of range. -/
def State.eventOf (s : State) (l : List Byte) : Option (List (Nat × Nat)) :=
  let n := field l 1 1
  let src := field l 2 1
  let dom := field l 3 1
  if l.length ≠ 16 ∨ 3 < src ∨ 3 < dom then none
  else match field l 0 1 with
    | 0 =>
      let a := 0x81000 + n * 0x20
      if 63 < n then none
      else some (eventWrites (a + 4) a (s.withFields a (Reg.STR_BRD_CTRL.TRIGSRC n) (Reg.STR_BRD_CTRL.DOMAIN n) src dom 0x80#32) l)
    | 1 =>
      if src = 1 then none
      else some (eventWrites 0x94008 0x94000
        (s.withFields 0x94000 Reg.ENG_LP_CTRL.TRIGSRC Reg.ENG_LP_CTRL.DOMAIN (src - 1) dom 2#32) l)
    | 2 =>
      let a := 0x110100 + n * 0x10
      if 15 < n ∨ src = 1 then none
      else some (eventWrites (a + 4) a (s.withFields a (Reg.NET_GRP_CTRL.TRIGSRC n) (Reg.NET_GRP_CTRL.DOMAIN n) src dom 1#32) l)
    | 3 =>
      if (l.drop 2).any fun b => decide (b ≠ 0) then none
      else some [(0x40094000, ((s.word ((fieldsAt 0x94000).getD []) &&& ~~~7#32) ||| 1#32).toNat)]
    | _ => none

/-- The trigger of an EVENT was already past. -/
def State.eventLate (s : State) (l : List Byte) : Bool :=
  let n := field l 1 1
  match field l 0 1 with
  | 0 => decide (s.braidState n = 0) && s.on (Reg.STR_BRD_STATUS.LATE n)
  | 1 => s.lp.armed.isNone && s.on Reg.ENG_LP_STATUS.LATE
  | 2 => !s.on (Reg.NET_GRP_CTRL.ARM n) && s.on (Reg.NET_GRP_CTRL.LATE n)
  | _ => false

/-- A braid whose ARM was ignored for want of a frame: BAD_FRAME stands, and it is IDLE. -/
def State.eventBad (s : State) (l : List Byte) : Bool :=
  decide (field l 0 1 = 0) && decide (s.braidState (field l 1 1) = 0) && s.on (Reg.STR_BRD_STATUS.BAD_FRAME (field l 1 1))

/-- EVENT: LATE where the trigger is past. -/
def pelEvent : PelOp := fun q s =>
  match s.eventOf q.body with
  | none => ((1, []), s)
  | some w => match s.pelAll w with
    | (true, s) => ((if s.paired then 0 else if s.eventLate q.body then 6 else if s.eventBad q.body then 2 else 0, []), s)
    | (false, s) => ((if s.eventLate q.body then 6 else 2, []), s)

/-! ### METER -/

/-- METER: the source's subscription is replaced; a seventeenth is BUSY. METER knots are of library type 9. -/
def pelMeter : PelOp := fun q s =>
  let n := field q.body 0 2
  let every := field q.body 2 2
  let life := field q.body 4 2
  let paths := (List.range n).map fun i => (q.body.drop (6 + 34 * i)).take 34
  let meters := paths.all fun p => ((s.livePlan.atPath p).map Knot.lib) = some 9
  let others := s.pel.meters.filter fun m => decide (m.peer ≠ q.peer)
  if n = 0 ∨ 32 < n ∨ q.body.length ≠ 6 + 34 * n ∨ every < 48 ∨ life = 0 ∨ 3600 < life ∨ meters = false then ((1, []), s)
  else if 16 ≤ others.length then ((3, []), s)
  else ((0, []), s.onPel fun r => { r with meters := others ++ [⟨q.peer, every, life, paths, s.tick + every, 0⟩] })

/-- The peak and RMS words of the METER knots of a report, where the manual does not give the place of the state they
are read from: free values. -/
def meterWords : Nat → State → List Byte × State
  | 0, s => ([], s)
  | n + 1, s =>
    let (k, s) := s.nextFree
    let (l, s) := meterWords n s
    (leBytes 4 (Config.freeWord k).toNat ++ l, s)

/-- A report of a subscription whose interval has passed. -/
def State.meterReport (s : State) (i : Nat) : State :=
  match s.pel.meters[i]? with
  | some m =>
    if s.tick < m.next then s
    else match s.pelKey m.peer.key with
      | none => s
      | some key =>
        let (l, s) := meterWords (2 * m.paths.length) s
        let s := s.onPel fun r => { r with meters := r.meters.map fun x =>
          if x.peer = m.peer then { x with next := m.next + m.interval, seq := (m.seq + 1) % 2 ^ 32 } else x }
        s.pelSend m.peer (pelMessage key 0x86 m.peer.key 1 0 (leBytes 4 m.seq) l)
  | none => s

/-! ### QUERY -/

/-- The registers of QUERY. -/
def queryRegs : List Nat := [0x104, 0x108, 0x10C, 0x150000, 0x140004, 0x20004, 0x94004, 0x40000, 0x40004, 0x40008, 0x80008, 0x8000C]

/-- QUERY. -/
def pelQuery : PelOp := fun q s =>
  if q.body.length ≠ 0 then ((1, []), s)
  else ((0, queryRegs.flatMap fun a => leBytes 4 (s.regRead a).1), s)

/-! ### IMAGE (R395) -/

/-- A slot of the flash runs the node. -/
def State.slotRuns (s : State) (slot : Nat) : Bool :=
  !s.noImageState && decide (s.boot.source = slot)

/-- Where a slot begins. -/
def State.slotBase (s : State) (slot : Nat) : Nat := slot * (s.boot.flashSize / 2)

/-- BEGIN: the slot is erased under OP 4. A second BEGIN while an erase runs is BUSY. -/
def pelBegin : PelOp := fun q s =>
  let slot := field q.body 1 1
  let len := field q.body 2 4
  if q.body.length ≠ 6 ∨ 1 < slot ∨ len < 256 ∨ s.boot.flashSize / 2 < len ∨ s.slotRuns slot = true then ((1, []), s)
  else if (s.pel.update.map PelUpdate.erasing) = some true then ((3, []), s)
  else ((0, []), (s.onPel fun r => { r with update := some { slot := slot, len := len } }).opStart 4)

/-- The erase of a slot ends: its bytes read 0xFF, which the model stores as absent. -/
def State.slotErased (s : State) : State :=
  match s.pel.update with
  | some u =>
    if u.erasing then
      let lo := s.slotBase u.slot
      let hi := lo + s.boot.flashSize / 2
      let s := s.onBoot fun b => { b with flash := b.flash.filter fun p : Nat × Byte => decide (p.1 < lo ∨ hi ≤ p.1) }
      let s := s.onPel fun r => { r with update := some { u with erasing := false } }
      s.opMove 4 (percentOf (s.boot.flashSize / 2 / 4096) (s.boot.flashSize / 2 / 4096 + (u.len + 4095) / 4096)) (s.boot.flashSize / 2 / 4096)
    else s
  | none => s

/-- Bytes written to erased flash. -/
def BootState.program (b : BootState) (a : Nat) : List Byte → BootState
  | [] => b
  | x :: l => BootState.program { b with flash := sset 0xFF a x b.flash } (a + 1) l

/-- DATA: consecutive ascending offsets; the first 4 KB stay in working RAM. -/
def pelData : PelOp := fun q s =>
  let off := field q.body 1 4
  let l := q.body.drop 5
  match s.pel.update with
  | none => ((2, []), s)
  | some u =>
    if u.erasing then ((3, []), s)
    else if l = [] ∨ off ≠ u.next ∨ u.len < off + l.length then ((1, []), s)
    else
      let keep := 4096 - u.head.length
      let rest := l.drop keep
      let s := s.onBoot fun b => b.program (s.slotBase u.slot + off + (l.length - rest.length)) rest
      let n := off + l.length
      let s := s.onPel fun r => { r with update := some { u with next := n, head := u.head ++ l.take keep } }
      let slot := s.boot.flashSize / 2 / 4096
      ((0, []), s.opMove 4 (percentOf (slot + n / 4096) (slot + (u.len + 4095) / 4096)) (n / 4096))

/-- The update is over. -/
def State.updateOver (s : State) : State := (s.onPel fun r => { r with update := none }).opEnd 4

/-- END: the slot, with the held 4 KB, passes the checks of R385 up to check 4, and only then is its head written. -/
def pelEnd : PelOp := fun q s =>
  match s.pel.update with
  | none => ((2, []), s)
  | some u =>
    if u.erasing then ((3, []), s)
    else if q.body.length ≠ 1 ∨ u.next ≠ u.len then ((1, []), s)
    else
      let at0 := s.slotBase u.slot
      let l := u.head ++ s.flashBytes (at0 + u.head.length) (u.len - u.head.length)
      if imageReason l s.boot.otp (s.rd Reg.CHIP_REV.REV) false ≠ 0 then ((2, []), s.updateOver)
      else ((0, []), (s.onBoot fun b => b.program at0 u.head).updateOver)

/-- ABORT. -/
def pelAbort : PelOp := fun q s =>
  if q.body.length ≠ 1 then ((1, []), s)
  else if s.pel.update.isNone then ((2, []), s)
  else ((0, []), s.updateOver)

/-! ### The commands -/

/-- A sub-operation of IMAGE. -/
def pelSub (k : Nat) (op : Nat) (body : List Byte) : Bool := decide (op = 8) && decide (body ≠ []) && decide (field body 0 1 = k)

/-- PELOND_READ (17 R393): a message as it reaches the Pelond port, from an address and port. -/
def execPelondRead (ip : BitVec 32) (port : BitVec 16) (msg : List Byte) (s : State) : Out :=
  core (fun s => s.pelReceive ip port msg (fun op _ => decide (op = 1)) pelRead) s

/-- PELOND_WRITE (17 R393). -/
def execPelondWrite (ip : BitVec 32) (port : BitVec 16) (msg : List Byte) (s : State) : Out :=
  core (fun s => s.pelReceive ip port msg (fun op _ => decide (op = 2)) pelWrite) s

/-- PELOND_PARAM (17 R393). -/
def execPelondParam (ip : BitVec 32) (port : BitVec 16) (msg : List Byte) (s : State) : Out :=
  core (fun s => s.pelReceive ip port msg (fun op _ => decide (op = 3)) pelParam) s

/-- PELOND_SPLICE (17 R393). -/
def execPelondSplice (ip : BitVec 32) (port : BitVec 16) (msg : List Byte) (s : State) : Out :=
  core (fun s => s.pelReceive ip port msg (fun op _ => decide (op = 4)) pelSplice) s

/-- PELOND_EVENT (17 R393). -/
def execPelondEvent (ip : BitVec 32) (port : BitVec 16) (msg : List Byte) (s : State) : Out :=
  core (fun s => s.pelReceive ip port msg (fun op _ => decide (op = 5)) pelEvent) s

/-- PELOND_METER (17 R393). -/
def execPelondMeter (ip : BitVec 32) (port : BitVec 16) (msg : List Byte) (s : State) : Out :=
  core (fun s => s.pelReceive ip port msg (fun op _ => decide (op = 6)) pelMeter) s

/-- PELOND_QUERY (17 R393). -/
def execPelondQuery (ip : BitVec 32) (port : BitVec 16) (msg : List Byte) (s : State) : Out :=
  core (fun s => s.pelReceive ip port msg (fun op _ => decide (op = 7)) pelQuery) s

/-- PELOND_IMAGE_BEGIN (17 R395). -/
def execPelondImageBegin (ip : BitVec 32) (port : BitVec 16) (msg : List Byte) (s : State) : Out :=
  core (fun s => s.pelReceive ip port msg (pelSub 0) pelBegin) s

/-- PELOND_IMAGE_DATA (17 R395). -/
def execPelondImageData (ip : BitVec 32) (port : BitVec 16) (msg : List Byte) (s : State) : Out :=
  core (fun s => s.pelReceive ip port msg (pelSub 1) pelData) s

/-- PELOND_IMAGE_END (17 R395). -/
def execPelondImageEnd (ip : BitVec 32) (port : BitVec 16) (msg : List Byte) (s : State) : Out :=
  core (fun s => s.pelReceive ip port msg (pelSub 2) pelEnd) s

/-- PELOND_IMAGE_ABORT (17 R395). -/
def execPelondImageAbort (ip : BitVec 32) (port : BitVec 16) (msg : List Byte) (s : State) : Out :=
  core (fun s => s.pelReceive ip port msg (pelSub 3) pelAbort) s

/-- PELOND_UNKNOWN_OP (17 R394): STATUS 5 for an operation of no row; STATUS 1 for an IMAGE message whose
sub-operation is absent or none of the four. -/
def execPelondUnknownOp (ip : BitVec 32) (port : BitVec 16) (msg : List Byte) (s : State) : Out :=
  core (fun s =>
    let image := decide (field msg 3 1 = 8)
    s.pelReceive ip port msg (fun op body => decide (op = 0 ∨ 8 < op) || (decide (op = 8) && decide (body = [] ∨ 3 < field body 0 1)))
      fun _ s => ((if image then 1 else 5, []), s)) s

/-- METER_REPORT (17 R393): a subscription's interval has passed. -/
def execMeterReport (m : Fin 16) (s : State) : Out := clocked (fun s => s.meterReport m.val) s

/-- METER_EXPIRY (17 R393): a subscription's lifetime has passed. -/
def execMeterExpiry (m : Fin 16) (s : State) : Out :=
  core (fun s => s.onPel fun r => { r with meters := r.meters.take m.val ++ r.meters.drop (m.val + 1) }) s

/-- SPLICE_LIST_TIMEOUT (17 R393): an open list has been left without a message for 1 s, and is discarded. -/
def execSpliceListTimeout (s : State) : Out :=
  core (fun s => if s.pel.splice.isSome then
    (State.busWrite (s.onPel fun r => { r with splice := none }) 0 0 0x400A0074 4 2).2 else s) s

/-- SLOT_ERASE_DONE (17 R395). -/
def execSlotEraseDone (s : State) : Out := core State.slotErased s

end Sys2Proof.Machine
end

