-- ==== Sys2Proof/Machine/Tap.lean ====
section
/-! DEFINITION. The test access port: an instruction selected and one scan of the data register it names (19 R429).
Its logic runs on TCK and serves in every state. -/

namespace Sys2Proof.Machine

/-- The instruction selected, the bits shifted out, and what drives the pins from then on. -/
def State.tapSelect (s : State) (ir : BitVec 8) (out bits : Nat) (drive : TapDrive) : State :=
  { s with tap := { s.tap with ir := ir, out := out, outBits := bits, drive := drive } }

/-- A scan of the boundary register: the cells captured are shifted out, and those shifted in are latched. -/
def State.tapBoundary (s : State) (ir : BitVec 8) (capture load : BitVec 1395) (drive : TapDrive) : State :=
  let s := s.tapSelect ir capture.toNat 1395 drive
  { s with tap := { s.tap with cells := load } }

/-- TAP_EXTEST (19 R429): the cells drive the pins as soon as it is selected. -/
def execTapExtest (capture load : BitVec 1395) (s : State) : Out := .next (s.tapBoundary 0x00 capture load .cells)

/-- TAP_IDCODE (19 R429). -/
def execTapIdcode (s : State) : Out := .next (s.tapSelect 0x01 0x12304B47 32 .device)

/-- TAP_SAMPLE_PRELOAD (19 R429): the device keeps its pins. -/
def execTapSamplePreload (capture load : BitVec 1395) (s : State) : Out := .next (s.tapBoundary 0x02 capture load .device)

/-- TAP_HIGHZ (19 R429): the pins are undriven, with the bypass register selected. -/
def execTapHighz (s : State) : Out := .next (s.tapSelect 0x03 0 1 .highZ)

/-- TAP_CLAMP (19 R429): the cells hold the pins, with the bypass register selected. -/
def execTapClamp (s : State) : Out := .next (s.tapSelect 0x04 0 1 .cells)

/-- TAP_BYPASS (19 R429): the code 0xFF, or any other that the list does not give another instruction. -/
def execTapBypass (code : BitVec 8) (s : State) : Out :=
  .next (if code.toNat ≤ 4 then s else s.tapSelect code 0 1 .device)

end Sys2Proof.Machine
end

