-- ==== Sys2Proof/Machine/Tick.lean ====
section
/-! DEFINITION. The tick (02 R20, R32, 05 R113, 14 R312): its exchange window, its end, and all that falls on its
boundary, in the order of the manual. -/

namespace Sys2Proof.Machine

/-! ### Time triggers (09 R197, R198) -/

/-- The owner's code of a trigger that a command names. -/
def ownerCode : TrigOwner → Nat
  | .braid b => b.val
  | .plan => 64
  | .commit c => 80 + c.val
  | .group g => 96 + g.val

/-- The trigger of one owner resolves at the coming boundary, `sc` cycles of SC from the last instant named. -/
def State.resolveOwner (s : State) (o : TrigOwner) (sc : Nat) : State :=
  s.resolveOne (s.timeTick sc) (s.tick + 1) (ownerCode o)

/-! ### The end of a tick (05 R113) -/

/-- The exchange window. -/
def State.openWindow (s : State) : State := { s.engineWindow.pairWindow with inWindow := true }

/-- What the tick leaves to do before its boundary. -/
def State.endTick (s : State) (patternBad : Bool) : State :=
  let s := (if s.inWindow then s else s.openWindow).selfTest patternBad
  s.netSendAll.netEndTick.braidsEnd

/-! ### The boundary (02 R32, 14 R312) -/

/-- An upset damages a stored word. -/
def State.upset (s : State) (u : UpsetAt × Bool) : State :=
  match u.1 with
  | .strand n => s.eccHit (.strand n.val) u.2
  | .xy e y a => s.eccHit (.xy e.val y a.val) u.2
  | .prog e b a => s.eccHit (.prog e.val b.toNat a.val) u.2
  | .coil q high => s.eccHit (.coil q.val) u.2 high
  | .gain c => s.eccHit (.gain c.val) u.2
  | .ram k => s.eccHit (.ram (ramBase / 8 + k.val)) u.2

/-- Writes of the tick before that this boundary brings into force: row bindings, side-tone gains and coefficients (06 R126,
R145, 10 R221). They follow the lay-plan switch and precede the records of the apply tick, whose own writes of this kind
wait for the next boundary. -/
def State.shownTick (s : State) : State := s.mtxShow.stTick.decCoefTick

/-- The records of the apply tick. A hitch change among them waits for a commit of its own. -/
def State.recordsTick (s : State) : State :=
  let n := s.str.queue.length
  let s := s.applyTick
  s.onStr fun q => { q with queue := q.queue.take n ++ (q.queue.drop n).map fun c => { c with late := true } }

/-- Interface configurations, of the tick before and of the apply tick's records (02 R32, 10 R210, R224, 12 R267). -/
def State.configTick (s : State) : State := (s.serialCfgTick.decCfgTick).descApply s.tick

/-- The change of rate family and the lay-plan switch, due at the boundary of the present tick: what R32 puts first. -/
def State.planTick (s : State) : State := (s.familyBoundary s.tick).lpBoundary s.tick

/-- Hitches, braids, groups and the matrix at the boundary of the present tick: what R32 puts after the configurations. -/
def State.dueTick (s : State) : State :=
  let t := s.tick
  let s := (s.hitBoundary t).braidsBoundary
  let s := (s.groupsDue t).foldl (fun s g => s.groupStart g t) s
  let s := s.mtxBoundary t
  if (s.ref.family.map fun f => (f.phase, f.tick)) = some (2, t - 16) ∧ 16 ≤ t then s.mtxComplete else s

/-- What the interfaces bring to the tick that begins. -/
def State.ingressTick (s : State) (bits : Nat → List Bool) : State :=
  let s := (s.onStr fun q => { q with inp := [] }).serialIngress
  ((((s.decTick bits).senseTick bits).netIngress).flxIngress).tetherExchange.ingress

/-- What leaves in the tick that begins. -/
def State.egressTick (s : State) : State :=
  let s := s.clockPins.startEngines.egressStage.netEgress
  let s := (s.serialTxTick.serialLoad).ampPeer.ampTick
  { s.watchTick with dma := s.dma.map fun p : Nat × DmaCh => (p.1, { p.2 with bursts := 0 }) }.dormantEnter

/-- The boundary to the next tick: the banks exchange roles, and everything due is applied in order. -/
def State.nextTick (s : State) (x : TickIn) : State :=
  let s := s.exchange (s.tick + 1)
  let s := (x.upsets.foldl State.upset s).timeTick x.sc
  let s := s.resolveAll
  let s := s.pairBoundary s.tick x.peerActive
  let s := s.planTick.shownTick.recordsTick.configTick.dueTick
  x.prbs.foldl State.prbsTick (s.ingressTick fun c => x.bits.getD c []).egressTick

/-! ### The commands -/

/-- The boundary that ends tick F + 16 of a family change is the start of RELOCK (08 R175). -/
def State.relockDue (s : State) : Bool :=
  match s.ref.family with
  | some f => decide (f.phase = 2 ∧ s.tick = f.tick + 16)
  | none => false

/-- TICK_BOUNDARY (02 R20, R32). -/
def execTickBoundary (x : TickIn) (s : State) : Out :=
  clocked (fun s =>
    let e := s.endTick x.patternBad
    if s.relockDue then e.relock x.sc else e.nextTick x) s

/-- EXCHANGE_WINDOW (05 R113). -/
def execExchangeWindow (s : State) : Out := clocked (fun s => if s.inWindow then s else s.openWindow) s

/-- RELOCK_START (08 R175). -/
def execRelockStart (sc : Nat) (s : State) : Out :=
  clocked (fun s => if s.relockDue then (s.endTick false).relock sc else s) s

/-- FIRST_NEW_TICK (08 R175): the first tick at the new rate begins. -/
def execFirstNewTick (x : TickIn) (s : State) : Out :=
  core (fun s => if (s.ref.family.map FamilyStep.phase) = some 4 then (s.newRate (s.tick + 1)).nextTick x else s) s

/-- TRIGGER_RESOLVE (09 R197). -/
def execTriggerResolve (o : TrigOwner) (sc : Nat) (s : State) : Out := clocked (fun s => s.resolveOwner o sc) s

end Sys2Proof.Machine
end

