-- ==== Sys2Proof/Machine/Dispatch.lean ====
section
/-! DEFINITION. exec: one arm per command, each one call of that command's meaning. -/

namespace Sys2Proof.Machine

def exec (i : Instr) (s : State) : Host.Outcome State Fault Refusal :=
  match i with
  | .tickBoundary x => Sys2Proof.Machine.execTickBoundary x s
  | .exchangeWindow => Sys2Proof.Machine.execExchangeWindow s
  | .holdLimitReached slot => Sys2Proof.Machine.execHoldLimitReached slot s
  | .strandWindowRead slot part => Sys2Proof.Machine.execStrandWindowRead slot part s
  | .strandWindowWrite slot sample tag => Sys2Proof.Machine.execStrandWindowWrite slot sample tag s
  | .hitW1Queue v => Sys2Proof.Machine.execHitW1Queue v s
  | .hitCommit v => Sys2Proof.Machine.execHitCommit v s
  | .hitDiscard v => Sys2Proof.Machine.execHitDiscard v s
  | .hitApply => Sys2Proof.Machine.execHitApply s
  | .hitchRampDone egress h => Sys2Proof.Machine.execHitchRampDone egress h s
  | .braidArm b v => Sys2Proof.Machine.execBraidArm b v s
  | .braidStop b v => Sys2Proof.Machine.execBraidStop b v s
  | .startInEdge falling => Sys2Proof.Machine.execStartInEdge falling s
  | .braidStart b => Sys2Proof.Machine.execBraidStart b s
  | .braidRejoin b => Sys2Proof.Machine.execBraidRejoin b s
  | .tetherUnsettledEnd h => Sys2Proof.Machine.execTetherUnsettledEnd h s
  | .mac e a => Sys2Proof.Machine.execMac e a s
  | .mva e a => Sys2Proof.Machine.execMva e a s
  | .mvaq e a => Sys2Proof.Machine.execMvaq e a s
  | .aclr e k => Sys2Proof.Machine.execAclr e k s
  | .acpy e k j => Sys2Proof.Machine.execAcpy e k j s
  | .aadd e k j => Sys2Proof.Machine.execAadd e k j s
  | .asub e k j => Sys2Proof.Machine.execAsub e k j s
  | .aneg e k => Sys2Proof.Machine.execAneg e k s
  | .aabs e k => Sys2Proof.Machine.execAabs e k s
  | .norm e k d => Sys2Proof.Machine.execNorm e k d s
  | .ashi e k imm => Sys2Proof.Machine.execAshi e k imm s
  | .dtoa e k d scs => Sys2Proof.Machine.execDtoa e k d scs s
  | .dadd e k d scs => Sys2Proof.Machine.execDadd e k d scs s
  | .expa e k d => Sys2Proof.Machine.execExpa e k d s
  | .atst e k => Sys2Proof.Machine.execAtst e k s
  | .ldw e d a => Sys2Proof.Machine.execLdw e d a s
  | .ldq e q a => Sys2Proof.Machine.execLdq e q a s
  | .stw e d a => Sys2Proof.Machine.execStw e d a s
  | .stq e q a => Sys2Proof.Machine.execStq e q a s
  | .ldwa e d ms addr => Sys2Proof.Machine.execLdwa e d ms addr s
  | .ldqa e q ms addr => Sys2Proof.Machine.execLdqa e q ms addr s
  | .stwa e d ms addr => Sys2Proof.Machine.execStwa e d ms addr s
  | .stqa e q ms addr => Sys2Proof.Machine.execStqa e q ms addr s
  | .add e a => Sys2Proof.Machine.execAdd e a s
  | .sub e a => Sys2Proof.Machine.execSub e a s
  | .adds e a => Sys2Proof.Machine.execAdds e a s
  | .subs e a => Sys2Proof.Machine.execSubs e a s
  | .and e a => Sys2Proof.Machine.execAnd e a s
  | .or e a => Sys2Proof.Machine.execOr e a s
  | .xor e a => Sys2Proof.Machine.execXor e a s
  | .ash e a => Sys2Proof.Machine.execAsh e a s
  | .lsh e a => Sys2Proof.Machine.execLsh e a s
  | .min e a => Sys2Proof.Machine.execMin e a s
  | .max e a => Sys2Proof.Machine.execMax e a s
  | .abs e a => Sys2Proof.Machine.execAbs e a s
  | .neg e a => Sys2Proof.Machine.execNeg e a s
  | .cmp e a => Sys2Proof.Machine.execCmp e a s
  | .mov e a => Sys2Proof.Machine.execMov e a s
  | .expd e a => Sys2Proof.Machine.execExpd e a s
  | .setr e reg imm => Sys2Proof.Machine.execSetr e reg imm s
  | .movr e reg d => Sys2Proof.Machine.execMovr e reg d s
  | .getr e reg d => Sys2Proof.Machine.execGetr e reg d s
  | .modp e a => Sys2Proof.Machine.execModp e a s
  | .srd e d slot => Sys2Proof.Machine.execSrd e d slot s
  | .swr e d slot => Sys2Proof.Machine.execSwr e d slot s
  | .crdd e csd idx q => Sys2Proof.Machine.execCrdd e csd idx q s
  | .crdm e csd idx ms addr => Sys2Proof.Machine.execCrdm e csd idx ms addr s
  | .cwrd e csd idx q => Sys2Proof.Machine.execCwrd e csd idx q s
  | .cwrm e csd idx ms addr => Sys2Proof.Machine.execCwrm e csd idx ms addr s
  | .tclip e d sel => Sys2Proof.Machine.execTclip e d sel s
  | .tor e d a mask => Sys2Proof.Machine.execTor e d a mask s
  | .tset e d val mask => Sys2Proof.Machine.execTset e d val mask s
  | .tcpy e d a => Sys2Proof.Machine.execTcpy e d a s
  | .ttst e d mask => Sys2Proof.Machine.execTtst e d mask s
  | .fclr e sel => Sys2Proof.Machine.execFclr e sel s
  | .nop e => Sys2Proof.Machine.execNop e s
  | .wait e => Sys2Proof.Machine.execWait e s
  | .bra e tgt => Sys2Proof.Machine.execBra e tgt s
  | .bcc e cond tgt => Sys2Proof.Machine.execBcc e cond tgt s
  | .loop e last count => Sys2Proof.Machine.execLoop e last count s
  | .loopr e last d => Sys2Proof.Machine.execLoopr e last d s
  | .brk e => Sys2Proof.Machine.execBrk e s
  | .illegalInstruction e => Sys2Proof.Machine.execIllegalInstruction e s
  | .loopClose e => Sys2Proof.Machine.execLoopClose e s
  | .strandQueueDrain e => Sys2Proof.Machine.execStrandQueueDrain e s
  | .coilBankAccess e => Sys2Proof.Machine.execCoilBankAccess e s
  | .coilReadDelivery e => Sys2Proof.Machine.execCoilReadDelivery e s
  | .engineOverrun e => Sys2Proof.Machine.execEngineOverrun e s
  | .shadowPageWrite e w v => Sys2Proof.Machine.execShadowPageWrite e w v s
  | .engineWindowWrite e w v => Sys2Proof.Machine.execEngineWindowWrite e w v s
  | .pcommit e v => Sys2Proof.Machine.execPcommit e v s
  | .paramCopy e => Sys2Proof.Machine.execParamCopy e s
  | .pcmGo v => Sys2Proof.Machine.execPcmGo v s
  | .engineReload e v => Sys2Proof.Machine.execEngineReload e v s
  | .reloadDone e => Sys2Proof.Machine.execReloadDone e s
  | .bypassXfadeEnd kid => Sys2Proof.Machine.execBypassXfadeEnd kid s
  | .lpLoad v plan => Sys2Proof.Machine.execLpLoad v plan s
  | .lpLoadDone ok => Sys2Proof.Machine.execLpLoadDone ok s
  | .lpArm v => Sys2Proof.Machine.execLpArm v s
  | .lpDisarm v => Sys2Proof.Machine.execLpDisarm v s
  | .lpRampOutStart => Sys2Proof.Machine.execLpRampOutStart s
  | .lpSwitch => Sys2Proof.Machine.execLpSwitch s
  | .lpRampInEnd => Sys2Proof.Machine.execLpRampInEnd s
  | .lpRefreshDone => Sys2Proof.Machine.execLpRefreshDone s
  | .rowBindWrite v => Sys2Proof.Machine.execRowBindWrite v s
  | .rowBindApply r => Sys2Proof.Machine.execRowBindApply r s
  | .clAppend v => Sys2Proof.Machine.execClAppend v s
  | .clDiscard v => Sys2Proof.Machine.execClDiscard v s
  | .mtxCommit v => Sys2Proof.Machine.execMtxCommit v s
  | .commitStart id => Sys2Proof.Machine.execCommitStart id s
  | .spliceZcStart c => Sys2Proof.Machine.execSpliceZcStart c s
  | .spliceZcTimeout c => Sys2Proof.Machine.execSpliceZcTimeout c s
  | .spliceEnd c => Sys2Proof.Machine.execSpliceEnd c s
  | .cutZc c => Sys2Proof.Machine.execCutZc c s
  | .cutDipStart c => Sys2Proof.Machine.execCutDipStart c s
  | .dipEnd c => Sys2Proof.Machine.execDipEnd c s
  | .nomGateClose r => Sys2Proof.Machine.execNomGateClose r s
  | .nomRampEnd u => Sys2Proof.Machine.execNomRampEnd u s
  | .whipCommit v => Sys2Proof.Machine.execWhipCommit v s
  | .whipApply => Sys2Proof.Machine.execWhipApply s
  | .whipZcChange w => Sys2Proof.Machine.execWhipZcChange w s
  | .whipZcTimeout w => Sys2Proof.Machine.execWhipZcTimeout w s
  | .whipRampEnd w => Sys2Proof.Machine.execWhipRampEnd w s
  | .whipDcFault w => Sys2Proof.Machine.execWhipDcFault w s
  | .sidetoneGainRampEnd m k => Sys2Proof.Machine.execSidetoneGainRampEnd m k s
  | .xoLoss eclk sixteenth sc => Sys2Proof.Machine.execXoLoss eclk sixteenth sc s
  | .rootUnlock eclk sixteenth sc => Sys2Proof.Machine.execRootUnlock eclk sixteenth sc s
  | .xoRecovery => Sys2Proof.Machine.execXoRecovery s
  | .forceRelock v eclk sixteenth sc => Sys2Proof.Machine.execForceRelock v eclk sixteenth sc s
  | .refEvent n dep phase edge => Sys2Proof.Machine.execRefEvent n dep phase edge s
  | .refPhaseJump n => Sys2Proof.Machine.execRefPhaseJump n s
  | .refActivityLost n => Sys2Proof.Machine.execRefActivityLost n s
  | .ppsMissing n => Sys2Proof.Machine.execPpsMissing n s
  | .refPtpErrWrite d v dep => Sys2Proof.Machine.execRefPtpErrWrite d v dep s
  | .refMeasurement gates => Sys2Proof.Machine.execRefMeasurement gates s
  | .dpllAcquireLock => Sys2Proof.Machine.execDpllAcquireLock s
  | .dpllSlewDone => Sys2Proof.Machine.execDpllSlewDone s
  | .dpllPullDone err => Sys2Proof.Machine.execDpllPullDone err s
  | .acqTimeout => Sys2Proof.Machine.execAcqTimeout s
  | .famreq v => Sys2Proof.Machine.execFamreq v s
  | .familyRampOutStart => Sys2Proof.Machine.execFamilyRampOutStart s
  | .familyLastOldTick => Sys2Proof.Machine.execFamilyLastOldTick s
  | .relockStart sc => Sys2Proof.Machine.execRelockStart sc s
  | .rootRelocked => Sys2Proof.Machine.execRootRelocked s
  | .firstNewTick x => Sys2Proof.Machine.execFirstNewTick x s
  | .familyHoldEnd => Sys2Proof.Machine.execFamilyHoldEnd s
  | .familyRampInEnd => Sys2Proof.Machine.execFamilyRampInEnd s
  | .incWrite d hi v => Sys2Proof.Machine.execIncWrite d hi v s
  | .scIncWrite hi v => Sys2Proof.Machine.execScIncWrite hi v s
  | .timeAdjGo d v => Sys2Proof.Machine.execTimeAdjGo d v s
  | .timeAdjApply d sc => Sys2Proof.Machine.execTimeAdjApply d sc s
  | .tsSnap m v => Sys2Proof.Machine.execTsSnap m v s
  | .snapCapture m eclk sixteenth sc => Sys2Proof.Machine.execSnapCapture m eclk sixteenth sc s
  | .ts2Read m => Sys2Proof.Machine.execTs2Read m s
  | .ppsalign d v => Sys2Proof.Machine.execPpsalign d v s
  | .ppsAlign d => Sys2Proof.Machine.execPpsAlign d s
  | .triggerResolve o sc => Sys2Proof.Machine.execTriggerResolve o sc s
  | .sapRxFrame p phase period before frame next => Sys2Proof.Machine.execSapRxFrame p phase period before frame next s
  | .sapClockLost d => Sys2Proof.Machine.execSapClockLost d s
  | .sapRateWindow d eclk => Sys2Proof.Machine.execSapRateWindow d eclk s
  | .sapTxFrame p phase ok => Sys2Proof.Machine.execSapTxFrame p phase ok s
  | .sapCfgWrite p tx v => Sys2Proof.Machine.execSapCfgWrite p tx v s
  | .sapCfgApply p tx => Sys2Proof.Machine.execSapCfgApply p tx s
  | .hitchZcCrossing h prev => Sys2Proof.Machine.execHitchZcCrossing h prev s
  | .hitchZcTimeout h => Sys2Proof.Machine.execHitchZcTimeout h s
  | .aesRxFrame n rx z a b => Sys2Proof.Machine.execAesRxFrame n rx z a b s
  | .aesLockLost d => Sys2Proof.Machine.execAesLockLost d s
  | .aesTxCsApply n => Sys2Proof.Machine.execAesTxCsApply n s
  | .madiRxFrame m rx chans => Sys2Proof.Machine.execMadiRxFrame m rx chans s
  | .asrcLocked l rate => Sys2Proof.Machine.execAsrcLocked l rate s
  | .asrcFault l rate => Sys2Proof.Machine.execAsrcFault l rate s
  | .decSwitch c => Sys2Proof.Machine.execDecSwitch c s
  | .decSettled c => Sys2Proof.Machine.execDecSettled c s
  | .ampEnable n v => Sys2Proof.Machine.execAmpEnable n v s
  | .ampDisable n v => Sys2Proof.Machine.execAmpDisable n v s
  | .ampRelayClose n => Sys2Proof.Machine.execAmpRelayClose n s
  | .ampUnmuteStart n => Sys2Proof.Machine.execAmpUnmuteStart n s
  | .ampRunEntry n => Sys2Proof.Machine.execAmpRunEntry n s
  | .ampStopRampEnd n => Sys2Proof.Machine.execAmpStopRampEnd n s
  | .ampPseOff n => Sys2Proof.Machine.execAmpPseOff n s
  | .ampDiagEnter n => Sys2Proof.Machine.execAmpDiagEnter n s
  | .ampDiagPhaseEnd n => Sys2Proof.Machine.execAmpDiagPhaseEnd n s
  | .rundiag n v => Sys2Proof.Machine.execRundiag n v s
  | .ampClr n v => Sys2Proof.Machine.execAmpClr n v s
  | .ampModWrite r v => Sys2Proof.Machine.execAmpModWrite r v s
  | .ocAssert n instant => Sys2Proof.Machine.execOcAssert n instant s
  | .ampLatchRelayOpen n => Sys2Proof.Machine.execAmpLatchRelayOpen n s
  | .ampRetry n => Sys2Proof.Machine.execAmpRetry n s
  | .ampRetryReset n => Sys2Proof.Machine.execAmpRetryReset n s
  | .senseLost n => Sys2Proof.Machine.execSenseLost n s
  | .senseRestored n => Sys2Proof.Machine.execSenseRestored n s
  | .macRxFrame m bytes pcsErr done sfd sc => Sys2Proof.Machine.execMacRxFrame m bytes pcsErr done sfd sc s
  | .macLinkFault m lf rf lock => Sys2Proof.Machine.execMacLinkFault m lf rf lock s
  | .rxqTailWrite q v => Sys2Proof.Machine.execRxqTailWrite q v s
  | .txqTailWrite m v => Sys2Proof.Machine.execTxqTailWrite m v s
  | .macTxControl m eclk sixteenth sc => Sys2Proof.Machine.execMacTxControl m eclk sixteenth sc s
  | .streamRxPacket => Sys2Proof.Machine.execStreamRxPacket s
  | .streamPacketDeadline n => Sys2Proof.Machine.execStreamPacketDeadline n s
  | .streamTxQueue n => Sys2Proof.Machine.execStreamTxQueue n s
  | .streamDescCommit v => Sys2Proof.Machine.execStreamDescCommit v s
  | .streamDescApply => Sys2Proof.Machine.execStreamDescApply s
  | .groupArm g v => Sys2Proof.Machine.execGroupArm g v s
  | .groupStart g => Sys2Proof.Machine.execGroupStart g s
  | .partnerAbsent => Sys2Proof.Machine.execPartnerAbsent s
  | .laneCfgWrite n v => Sys2Proof.Machine.execLaneCfgWrite n v s
  | .laneCalDone n => Sys2Proof.Machine.execLaneCalDone n s
  | .losAssert n => Sys2Proof.Machine.execLosAssert n s
  | .losClear n => Sys2Proof.Machine.execLosClear n s
  | .lolAssert n => Sys2Proof.Machine.execLolAssert n s
  | .blockLock n b => Sys2Proof.Machine.execBlockLock n b s
  | .blockLockLoss n => Sys2Proof.Machine.execBlockLockLoss n s
  | .flxFrameTx n send => Sys2Proof.Machine.execFlxFrameTx n send s
  | .flxMarker n eclk sixteenth marker blocks => Sys2Proof.Machine.execFlxMarker n eclk sixteenth marker blocks s
  | .markerLoss n => Sys2Proof.Machine.execMarkerLoss n s
  | .cellRx n cell => Sys2Proof.Machine.execCellRx n cell s
  | .flxCcTxTail n v => Sys2Proof.Machine.execFlxCcTxTail n v s
  | .flx1Marker n eclk sixteenth seq phase fcrc link bytes => Sys2Proof.Machine.execFlx1Marker n eclk sixteenth seq phase fcrc link bytes s
  | .tetherFrame => Sys2Proof.Machine.execTetherFrame s
  | .marginStart n v => Sys2Proof.Machine.execMarginStart n v s
  | .marginDone n h w => Sys2Proof.Machine.execMarginDone n h w s
  | .pcieTlp bar2 off tag len data => Sys2Proof.Machine.execPcieTlp bar2 off tag len data s
  | .pcieHotReset down beats => Sys2Proof.Machine.execPcieHotReset down beats s
  | .peerFailEdge low => Sys2Proof.Machine.execPeerFailEdge low s
  | .heartbeatLoss => Sys2Proof.Machine.execHeartbeatLoss s
  | .takeover => Sys2Proof.Machine.execTakeover s
  | .pairWaitExpiry => Sys2Proof.Machine.execPairWaitExpiry s
  | .tetherUp peer delay => Sys2Proof.Machine.execTetherUp peer delay s
  | .splitBrainYield => Sys2Proof.Machine.execSplitBrainYield s
  | .swapRequest v => Sys2Proof.Machine.execSwapRequest v s
  | .swap => Sys2Proof.Machine.execSwap s
  | .controlChangeLog a v => Sys2Proof.Machine.execControlChangeLog a v s
  | .applySeqFix => Sys2Proof.Machine.execApplySeqFix s
  | .applyTick => Sys2Proof.Machine.execApplyTick s
  | .mirrorSnapshot => Sys2Proof.Machine.execMirrorSnapshot s
  | .mirrorLoad items => Sys2Proof.Machine.execMirrorLoad items s
  | .stbyMarginRotation => Sys2Proof.Machine.execStbyMarginRotation s
  | .prearmEnd => Sys2Proof.Machine.execPrearmEnd s
  | .resyncBulkDone => Sys2Proof.Machine.execResyncBulkDone s
  | .resyncRotateDone => Sys2Proof.Machine.execResyncRotateDone s
  | .resyncWReached => Sys2Proof.Machine.execResyncWReached s
  | .replayApply items => Sys2Proof.Machine.execReplayApply items s
  | .resyncConvergeDone => Sys2Proof.Machine.execResyncConvergeDone s
  | .resyncReady => Sys2Proof.Machine.execResyncReady s
  | .fabricGrant t cycle => Sys2Proof.Machine.execFabricGrant t cycle s
  | .fabricResponse t => Sys2Proof.Machine.execFabricResponse t s
  | .fabTimeout t cycle => Sys2Proof.Machine.execFabTimeout t cycle s
  | .lockRead host wide addr => Sys2Proof.Machine.execLockRead host wide addr s
  | .unlock host write wide addr data => Sys2Proof.Machine.execUnlock host write wide addr data s
  | .lockBreak cycle => Sys2Proof.Machine.execLockBreak cycle s
  | .masterReset m beats => Sys2Proof.Machine.execMasterReset m beats s
  | .retireDrained m => Sys2Proof.Machine.execRetireDrained m s
  | .remapWrite v => Sys2Proof.Machine.execRemapWrite v s
  | .dmaStart c => Sys2Proof.Machine.execDmaStart c s
  | .dmaStop c => Sys2Proof.Machine.execDmaStop c s
  | .dmaDoorbell c => Sys2Proof.Machine.execDmaDoorbell c s
  | .dmaCfgCommit c => Sys2Proof.Machine.execDmaCfgCommit c s
  | .dmaReset v => Sys2Proof.Machine.execDmaReset v s
  | .dmaCopy c n => Sys2Proof.Machine.execDmaCopy c n s
  | .dmaFill c n => Sys2Proof.Machine.execDmaFill c n s
  | .dmaCmp c n => Sys2Proof.Machine.execDmaCmp c n s
  | .dmaCmpc c n => Sys2Proof.Machine.execDmaCmpc c n s
  | .dmaDescComplete c => Sys2Proof.Machine.execDmaDescComplete c s
  | .faultEvent k => Sys2Proof.Machine.execFaultEvent k s
  | .faultReaction => Sys2Proof.Machine.execFaultReaction s
  | .faultNHoldEnd => Sys2Proof.Machine.execFaultNHoldEnd s
  | .faultAck n v => Sys2Proof.Machine.execFaultAck n v s
  | .railFault n => Sys2Proof.Machine.execRailFault n s
  | .wdtWrite v => Sys2Proof.Machine.execWdtWrite v s
  | .wdtExpiry => Sys2Proof.Machine.execWdtExpiry s
  | .fltUnlockWrite v pclk => Sys2Proof.Machine.execFltUnlockWrite v pclk s
  | .faultInject v => Sys2Proof.Machine.execFaultInject v s
  | .auditPass => Sys2Proof.Machine.execAuditPass s
  | .supplyWarn r mv => Sys2Proof.Machine.execSupplyWarn r mv s
  | .brownOut r mv eclk sixteenth sc => Sys2Proof.Machine.execBrownOut r mv eclk sixteenth sc s
  | .brownoutRelease mv => Sys2Proof.Machine.execBrownoutRelease mv s
  | .serdesRailDip => Sys2Proof.Machine.execSerdesRailDip s
  | .tempSample t mv => Sys2Proof.Machine.execTempSample t mv s
  | .thermalShutdown eclk sixteenth sc => Sys2Proof.Machine.execThermalShutdown eclk sixteenth sc s
  | .thermalRestart => Sys2Proof.Machine.execThermalRestart s
  | .powerOn => Sys2Proof.Machine.execPowerOn s
  | .rstNAssert => Sys2Proof.Machine.execRstNAssert s
  | .rstNRelease => Sys2Proof.Machine.execRstNRelease s
  | .startStepDone ev => Sys2Proof.Machine.execStartStepDone ev s
  | .flashReadTimeout => Sys2Proof.Machine.execFlashReadTimeout s
  | .warmNFall => Sys2Proof.Machine.execWarmNFall s
  | .warmStart => Sys2Proof.Machine.execWarmStart s
  | .bootRun => Sys2Proof.Machine.execBootRun s
  | .hostgo => Sys2Proof.Machine.execHostgo s
  | .chipWarm => Sys2Proof.Machine.execChipWarm s
  | .dormant => Sys2Proof.Machine.execDormant s
  | .coilclr => Sys2Proof.Machine.execCoilclr s
  | .coilclrDone => Sys2Proof.Machine.execCoilclrDone s
  | .pelondRead ip port msg => Sys2Proof.Machine.execPelondRead ip port msg s
  | .pelondWrite ip port msg => Sys2Proof.Machine.execPelondWrite ip port msg s
  | .pelondParam ip port msg => Sys2Proof.Machine.execPelondParam ip port msg s
  | .pelondSplice ip port msg => Sys2Proof.Machine.execPelondSplice ip port msg s
  | .pelondEvent ip port msg => Sys2Proof.Machine.execPelondEvent ip port msg s
  | .pelondMeter ip port msg => Sys2Proof.Machine.execPelondMeter ip port msg s
  | .pelondQuery ip port msg => Sys2Proof.Machine.execPelondQuery ip port msg s
  | .pelondImageBegin ip port msg => Sys2Proof.Machine.execPelondImageBegin ip port msg s
  | .pelondImageData ip port msg => Sys2Proof.Machine.execPelondImageData ip port msg s
  | .pelondImageEnd ip port msg => Sys2Proof.Machine.execPelondImageEnd ip port msg s
  | .pelondImageAbort ip port msg => Sys2Proof.Machine.execPelondImageAbort ip port msg s
  | .meterReport m => Sys2Proof.Machine.execMeterReport m s
  | .meterExpiry m => Sys2Proof.Machine.execMeterExpiry m s
  | .spliceListTimeout => Sys2Proof.Machine.execSpliceListTimeout s
  | .spiWrite addr data => Sys2Proof.Machine.execSpiWrite addr data s
  | .spiRead addr => Sys2Proof.Machine.execSpiRead addr s
  | .spiFetch => Sys2Proof.Machine.execSpiFetch s
  | .i2cRead dev addr => Sys2Proof.Machine.execI2cRead dev addr s
  | .i2cWrite dev addr v => Sys2Proof.Machine.execI2cWrite dev addr v s
  | .i2cBusTimeout => Sys2Proof.Machine.execI2cBusTimeout s
  | .regWrite a v => Sys2Proof.Machine.execRegWrite a v s
  | .rcRead a => Sys2Proof.Machine.execRcRead a s
  | .tapExtest capture load => Sys2Proof.Machine.execTapExtest capture load s
  | .tapIdcode => Sys2Proof.Machine.execTapIdcode s
  | .tapSamplePreload capture load => Sys2Proof.Machine.execTapSamplePreload capture load s
  | .tapHighz => Sys2Proof.Machine.execTapHighz s
  | .tapClamp => Sys2Proof.Machine.execTapClamp s
  | .tapBypass code => Sys2Proof.Machine.execTapBypass code s
  | .railWarnRecovery r mv us => Sys2Proof.Machine.execRailWarnRecovery r mv us s
  | .lolClear n => Sys2Proof.Machine.execLolClear n s
  | .refclkSdLoss half ok => Sys2Proof.Machine.execRefclkSdLoss half ok s
  | .pelondUnknownOp ip port msg => Sys2Proof.Machine.execPelondUnknownOp ip port msg s
  | .slotEraseDone => Sys2Proof.Machine.execSlotEraseDone s

end Sys2Proof.Machine
end

