-- ==== Sys2Proof/Safety.lean ====
section
/-! DEFINITION. The terms that statements are made in: the memory's canonical form, a node whose commands take effect,
and an engine that is about to issue an instruction. -/

namespace Sys2Proof.Machine

/-- The addressed memory in its canonical form: addresses strictly rising, no byte equal to what an
unlisted address reads as. -/
def Memory.wf (m : List Host.Cell) : Bool := swf (0 : Byte) m

/-- The core is not held in reset and the clocks derived from RCLK run (08 R161, R175). -/
def State.runs (s : State) : Prop := s.held = false ∧ s.rclk = true

/-- Control writes act at once: the chip is not held in reset and not in PAIRED mode (14 R309), and no register is on
the audit list, so that no write is journaled (16 R367). -/
def State.alone (s : State) : Prop := s.held = false ∧ s.paired = false ∧ s.flt.auditList = []

/-- Engine `e` may issue, and what it meets at its program counter, undamaged and where it stands, is `d` (04 R76, R77,
R98-R100); no coil access has still to reach its bank and no drain is due in its present cycle; no write is in flight. -/
structure State.meets (s : State) (e : Nat) (d : EngDecoded) : Prop where
  runs : s.runs
  may : s.mayIssue e = true
  clean : s.eccMark (.prog e s.liveBank (s.engine e).pc) = none
  word : (s.engine e).decode (s.progWord e s.liveBank (s.engine e).pc) = d
  coil : ∀ c ∈ s.coil.inFlight, c.data = none → (s.engine e).cyc < c.issued + 24
  drained : (s.engine e).cyc % 16 ≠ e % 16 ∨ (s.engine e).lastDrain = some (s.engine e).cyc
  fly : (s.engine e).fly = []

/-- No coil read of engine `e` is delivered by the end of cycle `c` (03 R70). -/
def State.quiet (s : State) (e c : Nat) : Prop := ∀ a ∈ s.coil.inFlight, a.engine = e → c < a.issued + 47

/-- Engine `e` is about to issue `o` in cycle t, and no coil read of it is delivered by the end of t + 3, the last cycle in
which an instruction writes (03 R70, 04 R81). -/
structure State.issues (s : State) (e : Nat) (o : EngOp) : Prop extends s.meets e (.op o) where
  quiet : s.quiet e ((s.engine e).cyc + 3)

end Sys2Proof.Machine
end

