-- ==== Sys2Proof/WellFormed.lean ====
section
/-! DEFINITION. Which commands are well formed: what a sender's operands must be beyond their types. -/

namespace Sys2Proof

open Sys2Proof.Machine

/-! ### Engine instructions (04 R77, R84, R90, R95) -/

/-- The pointers the X bus may name are P0-P3, those of the Y bus P4-P7 (R84). -/
def BusSrc.wf (yBus : Bool) : BusSrc → Bool
  | .mem a => if yBus then decide (4 ≤ a.ptr.toNat) else decide (a.ptr.toNat < 4)
  | .quad _ => true

/-- An engine instruction that a word can hold: legal bus pointers, AGU codes that exist and may be written, no index
mode in MODP, a condition that exists. -/
def EngOp.wf : EngOp → Bool
  | .mac a => a.x.wf false && a.y.wf true
  | .mva _ => true
  | .mvaq _ => true
  | .aclr _ => true
  | .acpy _ _ => true
  | .aadd _ _ => true
  | .asub _ _ => true
  | .aneg _ => true
  | .aabs _ => true
  | .norm _ _ => true
  | .ashi _ _ => true
  | .dtoa _ _ _ => true
  | .dadd _ _ _ => true
  | .expa _ _ => true
  | .atst _ => true
  | .ldw _ _ => true
  | .ldq _ _ => true
  | .stw _ _ => true
  | .stq _ _ => true
  | .ldwa _ _ _ => true
  | .ldqa _ _ _ => true
  | .stwa _ _ _ => true
  | .stqa _ _ _ => true
  | .add _ => true
  | .sub _ => true
  | .adds _ => true
  | .subs _ => true
  | .and _ => true
  | .or _ => true
  | .xor _ => true
  | .ash _ => true
  | .lsh _ => true
  | .min _ => true
  | .max _ => true
  | .abs _ => true
  | .neg _ => true
  | .cmp _ => true
  | .mov _ => true
  | .expd _ => true
  | .setr reg _ => decide (reg.toNat < 0x27)
  | .movr reg _ => decide (reg.toNat < 0x27)
  | .getr reg _ => decide (reg.toNat < 0x2A)
  | .modp a => decide (a.mode ≠ .index)
  | .srd _ _ => true
  | .swr _ _ => true
  | .crdd _ _ _ => true
  | .crdm _ _ _ _ => true
  | .cwrd _ _ _ => true
  | .cwrm _ _ _ _ => true
  | .tclip _ _ => true
  | .tor _ _ _ => true
  | .tset _ _ _ => true
  | .tcpy _ _ => true
  | .ttst _ _ => true
  | .fclr _ => true
  | .nop => true
  | .wait => true
  | .bra _ => true
  | .bcc cond _ => decide (cond.toNat ≤ 0xC)
  | .loop _ _ => true
  | .loopr _ _ => true
  | .brk => true

/-- The engine and the instruction of an engine row. -/
def Instr.engOp : Instr → Option (Fin 192 × EngOp)
  | .tickBoundary _ => none
  | .exchangeWindow => none
  | .holdLimitReached _ => none
  | .strandWindowRead _ _ => none
  | .strandWindowWrite _ _ _ => none
  | .hitW1Queue _ => none
  | .hitCommit _ => none
  | .hitDiscard _ => none
  | .hitApply => none
  | .hitchRampDone _ _ => none
  | .braidArm _ _ => none
  | .braidStop _ _ => none
  | .startInEdge _ => none
  | .braidStart _ => none
  | .braidRejoin _ => none
  | .tetherUnsettledEnd _ => none
  | .mac e a => some (e, .mac a)
  | .mva e a => some (e, .mva a)
  | .mvaq e a => some (e, .mvaq a)
  | .aclr e k => some (e, .aclr k)
  | .acpy e k j => some (e, .acpy k j)
  | .aadd e k j => some (e, .aadd k j)
  | .asub e k j => some (e, .asub k j)
  | .aneg e k => some (e, .aneg k)
  | .aabs e k => some (e, .aabs k)
  | .norm e k d => some (e, .norm k d)
  | .ashi e k imm => some (e, .ashi k imm)
  | .dtoa e k d scs => some (e, .dtoa k d scs)
  | .dadd e k d scs => some (e, .dadd k d scs)
  | .expa e k d => some (e, .expa k d)
  | .atst e k => some (e, .atst k)
  | .ldw e d a => some (e, .ldw d a)
  | .ldq e q a => some (e, .ldq q a)
  | .stw e d a => some (e, .stw d a)
  | .stq e q a => some (e, .stq q a)
  | .ldwa e d ms addr => some (e, .ldwa d ms addr)
  | .ldqa e q ms addr => some (e, .ldqa q ms addr)
  | .stwa e d ms addr => some (e, .stwa d ms addr)
  | .stqa e q ms addr => some (e, .stqa q ms addr)
  | .add e a => some (e, .add a)
  | .sub e a => some (e, .sub a)
  | .adds e a => some (e, .adds a)
  | .subs e a => some (e, .subs a)
  | .and e a => some (e, .and a)
  | .or e a => some (e, .or a)
  | .xor e a => some (e, .xor a)
  | .ash e a => some (e, .ash a)
  | .lsh e a => some (e, .lsh a)
  | .min e a => some (e, .min a)
  | .max e a => some (e, .max a)
  | .abs e a => some (e, .abs a)
  | .neg e a => some (e, .neg a)
  | .cmp e a => some (e, .cmp a)
  | .mov e a => some (e, .mov a)
  | .expd e a => some (e, .expd a)
  | .setr e reg imm => some (e, .setr reg imm)
  | .movr e reg d => some (e, .movr reg d)
  | .getr e reg d => some (e, .getr reg d)
  | .modp e a => some (e, .modp a)
  | .srd e d slot => some (e, .srd d slot)
  | .swr e d slot => some (e, .swr d slot)
  | .crdd e csd idx q => some (e, .crdd csd idx q)
  | .crdm e csd idx ms addr => some (e, .crdm csd idx ms addr)
  | .cwrd e csd idx q => some (e, .cwrd csd idx q)
  | .cwrm e csd idx ms addr => some (e, .cwrm csd idx ms addr)
  | .tclip e d sel => some (e, .tclip d sel)
  | .tor e d a mask => some (e, .tor d a mask)
  | .tset e d val mask => some (e, .tset d val mask)
  | .tcpy e d a => some (e, .tcpy d a)
  | .ttst e d mask => some (e, .ttst d mask)
  | .fclr e sel => some (e, .fclr sel)
  | .nop e => some (e, .nop)
  | .wait e => some (e, .wait)
  | .bra e tgt => some (e, .bra tgt)
  | .bcc e cond tgt => some (e, .bcc cond tgt)
  | .loop e last count => some (e, .loop last count)
  | .loopr e last d => some (e, .loopr last d)
  | .brk e => some (e, .brk)
  | .illegalInstruction _ => none
  | .loopClose _ => none
  | .strandQueueDrain _ => none
  | .coilBankAccess _ => none
  | .coilReadDelivery _ => none
  | .engineOverrun _ => none
  | .shadowPageWrite _ _ _ => none
  | .engineWindowWrite _ _ _ => none
  | .pcommit _ _ => none
  | .paramCopy _ => none
  | .pcmGo _ => none
  | .engineReload _ _ => none
  | .reloadDone _ => none
  | .bypassXfadeEnd _ => none
  | .lpLoad _ _ => none
  | .lpLoadDone _ => none
  | .lpArm _ => none
  | .lpDisarm _ => none
  | .lpRampOutStart => none
  | .lpSwitch => none
  | .lpRampInEnd => none
  | .lpRefreshDone => none
  | .rowBindWrite _ => none
  | .rowBindApply _ => none
  | .clAppend _ => none
  | .clDiscard _ => none
  | .mtxCommit _ => none
  | .commitStart _ => none
  | .spliceZcStart _ => none
  | .spliceZcTimeout _ => none
  | .spliceEnd _ => none
  | .cutZc _ => none
  | .cutDipStart _ => none
  | .dipEnd _ => none
  | .nomGateClose _ => none
  | .nomRampEnd _ => none
  | .whipCommit _ => none
  | .whipApply => none
  | .whipZcChange _ => none
  | .whipZcTimeout _ => none
  | .whipRampEnd _ => none
  | .whipDcFault _ => none
  | .sidetoneGainRampEnd _ _ => none
  | .xoLoss _ _ _ => none
  | .rootUnlock _ _ _ => none
  | .xoRecovery => none
  | .forceRelock _ _ _ _ => none
  | .refEvent _ _ _ _ => none
  | .refPhaseJump _ => none
  | .refActivityLost _ => none
  | .ppsMissing _ => none
  | .refPtpErrWrite _ _ _ => none
  | .refMeasurement _ => none
  | .dpllAcquireLock => none
  | .dpllSlewDone => none
  | .dpllPullDone _ => none
  | .acqTimeout => none
  | .famreq _ => none
  | .familyRampOutStart => none
  | .familyLastOldTick => none
  | .relockStart _ => none
  | .rootRelocked => none
  | .firstNewTick _ => none
  | .familyHoldEnd => none
  | .familyRampInEnd => none
  | .incWrite _ _ _ => none
  | .scIncWrite _ _ => none
  | .timeAdjGo _ _ => none
  | .timeAdjApply _ _ => none
  | .tsSnap _ _ => none
  | .snapCapture _ _ _ _ => none
  | .ts2Read _ => none
  | .ppsalign _ _ => none
  | .ppsAlign _ => none
  | .triggerResolve _ _ => none
  | .sapRxFrame _ _ _ _ _ _ => none
  | .sapClockLost _ => none
  | .sapRateWindow _ _ => none
  | .sapTxFrame _ _ _ => none
  | .sapCfgWrite _ _ _ => none
  | .sapCfgApply _ _ => none
  | .hitchZcCrossing _ _ => none
  | .hitchZcTimeout _ => none
  | .aesRxFrame _ _ _ _ _ => none
  | .aesLockLost _ => none
  | .aesTxCsApply _ => none
  | .madiRxFrame _ _ _ => none
  | .asrcLocked _ _ => none
  | .asrcFault _ _ => none
  | .decSwitch _ => none
  | .decSettled _ => none
  | .ampEnable _ _ => none
  | .ampDisable _ _ => none
  | .ampRelayClose _ => none
  | .ampUnmuteStart _ => none
  | .ampRunEntry _ => none
  | .ampStopRampEnd _ => none
  | .ampPseOff _ => none
  | .ampDiagEnter _ => none
  | .ampDiagPhaseEnd _ => none
  | .rundiag _ _ => none
  | .ampClr _ _ => none
  | .ampModWrite _ _ => none
  | .ocAssert _ _ => none
  | .ampLatchRelayOpen _ => none
  | .ampRetry _ => none
  | .ampRetryReset _ => none
  | .senseLost _ => none
  | .senseRestored _ => none
  | .macRxFrame _ _ _ _ _ _ => none
  | .macLinkFault _ _ _ _ => none
  | .rxqTailWrite _ _ => none
  | .txqTailWrite _ _ => none
  | .macTxControl _ _ _ _ => none
  | .streamRxPacket => none
  | .streamPacketDeadline _ => none
  | .streamTxQueue _ => none
  | .streamDescCommit _ => none
  | .streamDescApply => none
  | .groupArm _ _ => none
  | .groupStart _ => none
  | .partnerAbsent => none
  | .laneCfgWrite _ _ => none
  | .laneCalDone _ => none
  | .losAssert _ => none
  | .losClear _ => none
  | .lolAssert _ => none
  | .blockLock _ _ => none
  | .blockLockLoss _ => none
  | .flxFrameTx _ _ => none
  | .flxMarker _ _ _ _ _ => none
  | .markerLoss _ => none
  | .cellRx _ _ => none
  | .flxCcTxTail _ _ => none
  | .flx1Marker _ _ _ _ _ _ _ _ => none
  | .tetherFrame => none
  | .marginStart _ _ => none
  | .marginDone _ _ _ => none
  | .pcieTlp _ _ _ _ _ => none
  | .pcieHotReset _ _ => none
  | .peerFailEdge _ => none
  | .heartbeatLoss => none
  | .takeover => none
  | .pairWaitExpiry => none
  | .tetherUp _ _ => none
  | .splitBrainYield => none
  | .swapRequest _ => none
  | .swap => none
  | .controlChangeLog _ _ => none
  | .applySeqFix => none
  | .applyTick => none
  | .mirrorSnapshot => none
  | .mirrorLoad _ => none
  | .stbyMarginRotation => none
  | .prearmEnd => none
  | .resyncBulkDone => none
  | .resyncRotateDone => none
  | .resyncWReached => none
  | .replayApply _ => none
  | .resyncConvergeDone => none
  | .resyncReady => none
  | .fabricGrant _ _ => none
  | .fabricResponse _ => none
  | .fabTimeout _ _ => none
  | .lockRead _ _ _ => none
  | .unlock _ _ _ _ _ => none
  | .lockBreak _ => none
  | .masterReset _ _ => none
  | .retireDrained _ => none
  | .remapWrite _ => none
  | .dmaStart _ => none
  | .dmaStop _ => none
  | .dmaDoorbell _ => none
  | .dmaCfgCommit _ => none
  | .dmaReset _ => none
  | .dmaCopy _ _ => none
  | .dmaFill _ _ => none
  | .dmaCmp _ _ => none
  | .dmaCmpc _ _ => none
  | .dmaDescComplete _ => none
  | .faultEvent _ => none
  | .faultReaction => none
  | .faultNHoldEnd => none
  | .faultAck _ _ => none
  | .railFault _ => none
  | .wdtWrite _ => none
  | .wdtExpiry => none
  | .fltUnlockWrite _ _ => none
  | .faultInject _ => none
  | .auditPass => none
  | .supplyWarn _ _ => none
  | .brownOut _ _ _ _ _ => none
  | .brownoutRelease _ => none
  | .serdesRailDip => none
  | .tempSample _ _ => none
  | .thermalShutdown _ _ _ => none
  | .thermalRestart => none
  | .powerOn => none
  | .rstNAssert => none
  | .rstNRelease => none
  | .startStepDone _ => none
  | .flashReadTimeout => none
  | .warmNFall => none
  | .warmStart => none
  | .bootRun => none
  | .hostgo => none
  | .chipWarm => none
  | .dormant => none
  | .coilclr => none
  | .coilclrDone => none
  | .pelondRead _ _ _ => none
  | .pelondWrite _ _ _ => none
  | .pelondParam _ _ _ => none
  | .pelondSplice _ _ _ => none
  | .pelondEvent _ _ _ => none
  | .pelondMeter _ _ _ => none
  | .pelondQuery _ _ _ => none
  | .pelondImageBegin _ _ _ => none
  | .pelondImageData _ _ _ => none
  | .pelondImageEnd _ _ _ => none
  | .pelondImageAbort _ _ _ => none
  | .meterReport _ => none
  | .meterExpiry _ => none
  | .spliceListTimeout => none
  | .spiWrite _ _ => none
  | .spiRead _ => none
  | .spiFetch => none
  | .i2cRead _ _ => none
  | .i2cWrite _ _ _ => none
  | .i2cBusTimeout => none
  | .regWrite _ _ => none
  | .rcRead _ => none
  | .tapExtest _ _ => none
  | .tapIdcode => none
  | .tapSamplePreload _ _ => none
  | .tapHighz => none
  | .tapClamp => none
  | .tapBypass _ => none
  | .railWarnRecovery _ _ _ => none
  | .lolClear _ => none
  | .refclkSdLoss _ _ => none
  | .pelondUnknownOp _ _ _ => none
  | .slotEraseDone => none

/-! ### Other operands -/

/-- A cycle of the longest tick (01 R12). -/
def eclkOk (c : BitVec 15) : Bool := decide (c.toNat < 25600)

/-- The offset of a 32-bit register in register space (00 R5, 18 R402). -/
def regAddr (a : Nat) : Bool := decide (a < 0x170000 ∧ a % 4 = 0)

/-- The address of a locked access: aligned to its width (15 R340). -/
def busAddr (wide : Bool) (a : Word) : Bool := decide (a.toNat % (if wide then 8 else 4) = 0)

/-- A decimation channel's bits, and upsets of words that exist. -/
def TickIn.wf (x : TickIn) : Bool := decide (x.bits.length ≤ 96)

/-- A lay plan's numbers in the ranges of chapter 05: rate multiple, slots, engines, rows, columns and NOM units. -/
def Machine.LayPlan.wf (p : LayPlan) : Bool :=
  decide (p.mult ≤ 2) && decide (p.lpSplice < 4096) && p.slots.all (fun x => decide (x.1 < 8192)) &&
    p.engines.all (fun x => decide (x.1 < 192)) && p.rows.all (fun x => decide (x.1 < 2304)) &&
    p.cols.all (fun x => decide (x.1 < 2304)) && p.noms.all (fun x => decide (x.1 < 256))

/-- A well-formed command. -/
def Instr.wf : Instr → Bool
  | .tickBoundary x => x.wf
  | .exchangeWindow => true
  | .holdLimitReached _ => true
  | .strandWindowRead _ _ => true
  | .strandWindowWrite _ sample tag => sample.isSome || tag.isSome
  | .hitW1Queue _ => true
  | .hitCommit _ => true
  | .hitDiscard _ => true
  | .hitApply => true
  | .hitchRampDone _ _ => true
  | .braidArm _ _ => true
  | .braidStop _ _ => true
  | .startInEdge _ => true
  | .braidStart _ => true
  | .braidRejoin _ => true
  | .tetherUnsettledEnd _ => true
  | .mac _ a => EngOp.wf (.mac a)
  | .mva _ _ => true
  | .mvaq _ _ => true
  | .aclr _ _ => true
  | .acpy _ _ _ => true
  | .aadd _ _ _ => true
  | .asub _ _ _ => true
  | .aneg _ _ => true
  | .aabs _ _ => true
  | .norm _ _ _ => true
  | .ashi _ _ _ => true
  | .dtoa _ _ _ _ => true
  | .dadd _ _ _ _ => true
  | .expa _ _ _ => true
  | .atst _ _ => true
  | .ldw _ _ _ => true
  | .ldq _ _ _ => true
  | .stw _ _ _ => true
  | .stq _ _ _ => true
  | .ldwa _ _ _ _ => true
  | .ldqa _ _ _ _ => true
  | .stwa _ _ _ _ => true
  | .stqa _ _ _ _ => true
  | .add _ _ => true
  | .sub _ _ => true
  | .adds _ _ => true
  | .subs _ _ => true
  | .and _ _ => true
  | .or _ _ => true
  | .xor _ _ => true
  | .ash _ _ => true
  | .lsh _ _ => true
  | .min _ _ => true
  | .max _ _ => true
  | .abs _ _ => true
  | .neg _ _ => true
  | .cmp _ _ => true
  | .mov _ _ => true
  | .expd _ _ => true
  | .setr _ reg imm => EngOp.wf (.setr reg imm)
  | .movr _ reg d => EngOp.wf (.movr reg d)
  | .getr _ reg d => EngOp.wf (.getr reg d)
  | .modp _ a => EngOp.wf (.modp a)
  | .srd _ _ _ => true
  | .swr _ _ _ => true
  | .crdd _ _ _ _ => true
  | .crdm _ _ _ _ _ => true
  | .cwrd _ _ _ _ => true
  | .cwrm _ _ _ _ _ => true
  | .tclip _ _ _ => true
  | .tor _ _ _ _ => true
  | .tset _ _ _ _ => true
  | .tcpy _ _ _ => true
  | .ttst _ _ _ => true
  | .fclr _ _ => true
  | .nop _ => true
  | .wait _ => true
  | .bra _ _ => true
  | .bcc _ cond tgt => EngOp.wf (.bcc cond tgt)
  | .loop _ _ _ => true
  | .loopr _ _ _ => true
  | .brk _ => true
  | .illegalInstruction _ => true
  | .loopClose _ => true
  | .strandQueueDrain _ => true
  | .coilBankAccess _ => true
  | .coilReadDelivery _ => true
  | .engineOverrun _ => true
  | .shadowPageWrite _ _ _ => true
  | .engineWindowWrite _ _ _ => true
  | .pcommit _ _ => true
  | .paramCopy _ => true
  | .pcmGo _ => true
  | .engineReload _ _ => true
  | .reloadDone _ => true
  | .bypassXfadeEnd kid => decide (1 ≤ kid ∧ kid < 65536)
  | .lpLoad _ plan => plan.wf
  | .lpLoadDone _ => true
  | .lpArm _ => true
  | .lpDisarm _ => true
  | .lpRampOutStart => true
  | .lpSwitch => true
  | .lpRampInEnd => true
  | .lpRefreshDone => true
  | .rowBindWrite _ => true
  | .rowBindApply _ => true
  | .clAppend _ => true
  | .clDiscard _ => true
  | .mtxCommit _ => true
  | .commitStart _ => true
  | .spliceZcStart _ => true
  | .spliceZcTimeout _ => true
  | .spliceEnd _ => true
  | .cutZc _ => true
  | .cutDipStart _ => true
  | .dipEnd _ => true
  | .nomGateClose _ => true
  | .nomRampEnd _ => true
  | .whipCommit _ => true
  | .whipApply => true
  | .whipZcChange _ => true
  | .whipZcTimeout _ => true
  | .whipRampEnd _ => true
  | .whipDcFault _ => true
  | .sidetoneGainRampEnd _ _ => true
  | .xoLoss eclk _ _ => eclkOk eclk
  | .rootUnlock eclk _ _ => eclkOk eclk
  | .xoRecovery => true
  | .forceRelock _ eclk _ _ => eclkOk eclk
  | .refEvent _ _ _ _ => true
  | .refPhaseJump _ => true
  | .refActivityLost _ => true
  | .ppsMissing _ => true
  | .refPtpErrWrite _ _ _ => true
  | .refMeasurement gates => decide (gates.slots.length ≤ 16)
  | .dpllAcquireLock => true
  | .dpllSlewDone => true
  | .dpllPullDone _ => true
  | .acqTimeout => true
  | .famreq _ => true
  | .familyRampOutStart => true
  | .familyLastOldTick => true
  | .relockStart _ => true
  | .rootRelocked => true
  | .firstNewTick x => x.wf
  | .familyHoldEnd => true
  | .familyRampInEnd => true
  | .incWrite _ _ _ => true
  | .scIncWrite _ _ => true
  | .timeAdjGo _ _ => true
  | .timeAdjApply _ _ => true
  | .tsSnap _ _ => true
  | .snapCapture _ eclk _ _ => eclkOk eclk
  | .ts2Read _ => true
  | .ppsalign _ _ => true
  | .ppsAlign _ => true
  | .triggerResolve _ _ => true
  | .sapRxFrame _ phase _ _ frame next => eclkOk phase && decide (frame.length + next.length < 4096)
  | .sapClockLost _ => true
  | .sapRateWindow _ _ => true
  | .sapTxFrame _ phase _ => eclkOk phase
  | .sapCfgWrite _ _ _ => true
  | .sapCfgApply _ _ => true
  | .hitchZcCrossing _ _ => true
  | .hitchZcTimeout _ => true
  | .aesRxFrame _ rx _ _ _ => eclkOk rx.phase
  | .aesLockLost _ => true
  | .aesTxCsApply _ => true
  | .madiRxFrame _ rx chans => eclkOk rx.phase && decide (chans.length ≤ 64)
  | .asrcLocked _ _ => true
  | .asrcFault _ _ => true
  | .decSwitch _ => true
  | .decSettled _ => true
  | .ampEnable _ _ => true
  | .ampDisable _ _ => true
  | .ampRelayClose _ => true
  | .ampUnmuteStart _ => true
  | .ampRunEntry _ => true
  | .ampStopRampEnd _ => true
  | .ampPseOff _ => true
  | .ampDiagEnter _ => true
  | .ampDiagPhaseEnd _ => true
  | .rundiag _ _ => true
  | .ampClr _ _ => true
  | .ampModWrite _ _ => true
  | .ocAssert _ instant => decide (instant.cycle.toNat < 3200)
  | .ampLatchRelayOpen _ => true
  | .ampRetry _ => true
  | .ampRetryReset _ => true
  | .senseLost _ => true
  | .senseRestored _ => true
  | .macRxFrame _ bytes _ done sfd _ => eclkOk done && eclkOk sfd.eclk && decide (bytes.length < 65536) && decide (0 < sfd.back ∨ sfd.eclk.toNat ≤ done.toNat)
  | .macLinkFault _ _ _ _ => true
  | .rxqTailWrite _ _ => true
  | .txqTailWrite _ _ => true
  | .macTxControl _ eclk _ _ => eclkOk eclk
  | .streamRxPacket => true
  | .streamPacketDeadline _ => true
  | .streamTxQueue _ => true
  | .streamDescCommit _ => true
  | .streamDescApply => true
  | .groupArm _ _ => true
  | .groupStart _ => true
  | .partnerAbsent => true
  | .laneCfgWrite _ _ => true
  | .laneCalDone _ => true
  | .losAssert _ => true
  | .losClear _ => true
  | .lolAssert _ => true
  | .blockLock _ _ => true
  | .blockLockLoss _ => true
  | .flxFrameTx _ _ => true
  | .flxMarker _ eclk _ _ blocks => eclkOk eclk && decide (blocks.length ≤ 4096)
  | .markerLoss _ => true
  | .cellRx _ cell => decide (cell.length = 64)
  | .flxCcTxTail _ _ => true
  | .flx1Marker _ eclk _ _ _ _ _ bytes => eclkOk eclk && decide (bytes.length ≤ 4096)
  | .tetherFrame => true
  | .marginStart _ _ => true
  | .marginDone _ _ _ => true
  | .pcieTlp _ off _ len data => data.all (fun d => decide (d.length = 4 * len.val)) && decide (off.toNat % 4 = 0)
  | .pcieHotReset _ _ => true
  | .peerFailEdge _ => true
  | .heartbeatLoss => true
  | .takeover => true
  | .pairWaitExpiry => true
  | .tetherUp peer _ => decide (peer.mult.toNat ≤ 2)
  | .splitBrainYield => true
  | .swapRequest _ => true
  | .swap => true
  | .controlChangeLog a _ => decide (a < 2 ^ 32)
  | .applySeqFix => true
  | .applyTick => true
  | .mirrorSnapshot => true
  | .mirrorLoad items => decide (items.domains.length = 4)
  | .stbyMarginRotation => true
  | .prearmEnd => true
  | .resyncBulkDone => true
  | .resyncRotateDone => true
  | .resyncWReached => true
  | .replayApply _ => true
  | .resyncConvergeDone => true
  | .resyncReady => true
  | .fabricGrant _ _ => true
  | .fabricResponse _ => true
  | .fabTimeout _ _ => true
  | .lockRead _ wide addr => busAddr wide addr
  | .unlock _ _ wide addr _ => busAddr wide addr
  | .lockBreak _ => true
  | .masterReset _ _ => true
  | .retireDrained _ => true
  | .remapWrite _ => true
  | .dmaStart _ => true
  | .dmaStop _ => true
  | .dmaDoorbell _ => true
  | .dmaCfgCommit _ => true
  | .dmaReset _ => true
  | .dmaCopy _ _ => true
  | .dmaFill _ _ => true
  | .dmaCmp _ _ => true
  | .dmaCmpc _ _ => true
  | .dmaDescComplete _ => true
  | .faultEvent k => decide (1 ≤ k)
  | .faultReaction => true
  | .faultNHoldEnd => true
  | .faultAck _ _ => true
  | .railFault _ => true
  | .wdtWrite _ => true
  | .wdtExpiry => true
  | .fltUnlockWrite _ _ => true
  | .faultInject _ => true
  | .auditPass => true
  | .supplyWarn _ _ => true
  | .brownOut _ _ eclk _ _ => eclkOk eclk
  | .brownoutRelease _ => true
  | .serdesRailDip => true
  | .tempSample _ mv => decide (mv.length = 6)
  | .thermalShutdown eclk _ _ => eclkOk eclk
  | .thermalRestart => true
  | .powerOn => true
  | .rstNAssert => true
  | .rstNRelease => true
  | .startStepDone _ => true
  | .flashReadTimeout => true
  | .warmNFall => true
  | .warmStart => true
  | .bootRun => true
  | .hostgo => true
  | .chipWarm => true
  | .dormant => true
  | .coilclr => true
  | .coilclrDone => true
  | .pelondRead _ _ msg => decide (msg.length ≤ 1472)
  | .pelondWrite _ _ msg => decide (msg.length ≤ 1472)
  | .pelondParam _ _ msg => decide (msg.length ≤ 1472)
  | .pelondSplice _ _ msg => decide (msg.length ≤ 1472)
  | .pelondEvent _ _ msg => decide (msg.length ≤ 1472)
  | .pelondMeter _ _ msg => decide (msg.length ≤ 1472)
  | .pelondQuery _ _ msg => decide (msg.length ≤ 1472)
  | .pelondImageBegin _ _ msg => decide (msg.length ≤ 1472)
  | .pelondImageData _ _ msg => decide (msg.length ≤ 1472)
  | .pelondImageEnd _ _ msg => decide (msg.length ≤ 1472)
  | .pelondImageAbort _ _ msg => decide (msg.length ≤ 1472)
  | .meterReport _ => true
  | .meterExpiry _ => true
  | .spliceListTimeout => true
  | .spiWrite _ _ => true
  | .spiRead _ => true
  | .spiFetch => true
  | .i2cRead _ _ => true
  | .i2cWrite _ _ _ => true
  | .i2cBusTimeout => true
  | .regWrite a _ => regAddr a
  | .rcRead a => regAddr a
  | .tapExtest _ _ => true
  | .tapIdcode => true
  | .tapSamplePreload _ _ => true
  | .tapHighz => true
  | .tapClamp => true
  | .tapBypass _ => true
  | .railWarnRecovery _ _ _ => true
  | .lolClear _ => true
  | .refclkSdLoss _ _ => true
  | .pelondUnknownOp _ _ msg => decide (msg.length ≤ 1472)
  | .slotEraseDone => true

end Sys2Proof
end

