-- ==== Sys2Proof/Certificates/Slice0/Obligations.lean ====
section
/-! DEFINITION. The statements for the provers. -/

open Sys2Proof Sys2Proof.Machine

namespace Sys2Proof.Claims

/-- The command answers a next state of which a property holds. -/
def Answers (i : Instr) (s : State) (p : State → Prop) : Prop := ∃ t, exec i s = .next t ∧ p t

/-- Beyond engine `e` and the register fields listed, the two states are the same: every other engine, every other
register field, every byte of memory, every other part of the node. -/
structure EngineOnly (s t : State) (e : Nat) (l : List FieldRef) : Prop where
  others : ∀ i, i ≠ e → t.engine i = s.engine i
  fields : ∀ q : FieldRef, (∀ r ∈ l, q.key ≠ r.key) → t.rd q = s.rd q
  rest : t = { s with eng := t.eng, regs := t.regs }

/-- The sticky status bits of an engine: SAT_SEEN and AOV_SEEN (03 R58). -/
def seen (e : Nat) : List FieldRef := [Reg.ENG_STATUS.SAT_SEEN e, Reg.ENG_STATUS.AOV_SEEN e]

/-- What engine `e` holds once the writes in flight by the end of cycle `c` have completed. -/
abbrev after (t : State) (e c : Nat) : Engine := (t.settle e c).engine e

end Sys2Proof.Claims

open Sys2Proof.Claims

namespace Sys2Proof.Claims

/-- The commands that reach a node held in reset: the pins and supplies that hold or release it, the end of FAULT_N's
hold, the I²C target and the test access port (08 R161, 17 R375, R399, 19 R429). -/
def reachesHeld : Instr → Bool
  | .xoLoss .. | .rootUnlock .. | .xoRecovery .. | .faultNHoldEnd .. | .brownOut .. | .brownoutRelease ..
  | .thermalShutdown .. | .thermalRestart .. | .powerOn .. | .rstNAssert .. | .rstNRelease .. | .warmNFall ..
  | .warmStart .. | .i2cRead .. | .i2cWrite .. | .i2cBusTimeout .. | .tapExtest .. | .tapIdcode ..
  | .tapSamplePreload .. | .tapHighz .. | .tapClamp .. | .tapBypass .. => true
  | _ => false

/-- The commands of units on clocks derived from RCLK (08 R161, R175). -/
def needsClock : Instr → Bool
  | .tickBoundary .. | .exchangeWindow .. | .holdLimitReached .. | .hitApply .. | .hitchRampDone .. | .startInEdge ..
  | .braidStart .. | .braidRejoin .. | .tetherUnsettledEnd .. | .mac .. | .mva .. | .mvaq .. | .aclr .. | .acpy ..
  | .aadd .. | .asub .. | .aneg .. | .aabs .. | .norm .. | .ashi .. | .dtoa .. | .dadd .. | .expa .. | .atst ..
  | .ldw .. | .ldq .. | .stw .. | .stq .. | .ldwa .. | .ldqa .. | .stwa .. | .stqa .. | .add .. | .sub .. | .adds ..
  | .subs .. | .and .. | .or .. | .xor .. | .ash .. | .lsh .. | .min .. | .max .. | .abs .. | .neg .. | .cmp ..
  | .mov .. | .expd .. | .setr .. | .movr .. | .getr .. | .modp .. | .srd .. | .swr .. | .crdd .. | .crdm ..
  | .cwrd .. | .cwrm .. | .tclip .. | .tor .. | .tset .. | .tcpy .. | .ttst .. | .fclr .. | .nop .. | .wait ..
  | .bra .. | .bcc .. | .loop .. | .loopr .. | .brk .. | .illegalInstruction .. | .loopClose .. | .strandQueueDrain ..
  | .coilBankAccess .. | .coilReadDelivery .. | .engineOverrun .. | .paramCopy .. | .reloadDone ..
  | .bypassXfadeEnd .. | .lpLoadDone .. | .lpRampOutStart .. | .lpSwitch .. | .lpRampInEnd .. | .lpRefreshDone ..
  | .rowBindApply .. | .commitStart .. | .spliceZcStart .. | .spliceZcTimeout .. | .spliceEnd .. | .cutZc ..
  | .cutDipStart .. | .dipEnd .. | .nomGateClose .. | .nomRampEnd .. | .whipApply .. | .whipZcChange ..
  | .whipZcTimeout .. | .whipRampEnd .. | .whipDcFault .. | .sidetoneGainRampEnd .. | .dpllAcquireLock ..
  | .dpllSlewDone .. | .dpllPullDone .. | .familyRampOutStart .. | .familyLastOldTick .. | .relockStart ..
  | .familyHoldEnd .. | .familyRampInEnd .. | .ppsAlign .. | .triggerResolve .. | .sapRxFrame .. | .sapClockLost ..
  | .sapRateWindow .. | .sapTxFrame .. | .sapCfgApply .. | .hitchZcCrossing .. | .hitchZcTimeout .. | .aesRxFrame ..
  | .aesLockLost .. | .aesTxCsApply .. | .madiRxFrame .. | .asrcLocked .. | .asrcFault .. | .decSwitch ..
  | .decSettled .. | .ampRelayClose .. | .ampUnmuteStart .. | .ampRunEntry .. | .ampStopRampEnd .. | .ampPseOff ..
  | .ampDiagEnter .. | .ampDiagPhaseEnd .. | .ampLatchRelayOpen .. | .ampRetry .. | .ampRetryReset .. | .senseLost ..
  | .senseRestored .. | .streamRxPacket .. | .streamPacketDeadline .. | .streamTxQueue .. | .streamDescApply ..
  | .groupStart .. | .partnerAbsent .. | .flxFrameTx .. | .heartbeatLoss .. | .takeover .. | .splitBrainYield ..
  | .swap .. | .applySeqFix .. | .applyTick .. | .mirrorSnapshot .. | .mirrorLoad .. | .resyncBulkDone ..
  | .resyncRotateDone .. | .resyncWReached .. | .replayApply .. | .resyncConvergeDone .. | .resyncReady ..
  | .dmaCopy .. | .dmaFill .. | .dmaCmp .. | .dmaCmpc .. | .dmaDescComplete .. | .meterReport .. => true
  | _ => false

/-- The node is held in reset, and nothing that waits reaches it. -/
def HeldInv (s : State) : Prop := s.held = true ∧ ∀ c ∈ s.pending, reachesHeld c = false

/-- The clocks derived from RCLK are stopped, and all that waits needs them. -/
def ClockInv (s : State) : Prop := s.rclk = false ∧ ∀ c ∈ s.pending, needsClock c = true

end Sys2Proof.Claims

/-- A step takes the front command (the model's queue: log entry 1); an idle step changes nothing (log entry 2). -/
def Obligations.FrontCommandIsPerformed : Prop := ∀ (c : Instr) (l : List Instr) (s : State),
  (s.pending = c :: l → Machine.step s = exec c { s with pending := l }) ∧
  (s.pending = [] → Machine.step s = .next s)

/-- Decode of encode is the identity on the well-formed engine instructions (04 R76-R94). -/
def Obligations.EngineWordsDecodeAsEncoded : Prop := ∀ o : EngOp, o.wf = true → decodeEng (encodeEng o) = .op o

/-- Words written out bit by bit from the tables of chapter 04. -/
def Obligations.EngineWordsOfTheTables : Prop :=
  decodeEng 0x1840110400000000#64 = .op (.mac ⟨.sum, .acc, true, 0, .mem ⟨0, .posti, 4⟩, .mem ⟨4, .posti, 4⟩⟩) ∧
  decodeEng 0x2059E80000000000#64 = .op (.mva ⟨5, 2, 1, 3, 2, true⟩) ∧
  decodeEng 0x3647000000000000#64 = .op (.norm 1 7) ∧
  decodeEng 0x4728BFFC00000000#64 = .op (.stqa 2 true 0xBFFC) ∧
  decodeEng 0x5212800012345678#64 = .op (.adds ⟨1, 2, .imm 0x12345678⟩) ∧
  decodeEng 0x6094000080000001#64 = .op (.setr 0x25 0x80000001) ∧
  decodeEng 0x7199800000000000#64 = .op (.swr 9 (.reg 3)) ∧
  decodeEng 0x830C002000110040#64 = .op (.cwrm 3 (.imm 17) true 0x40) ∧
  decodeEng 0x924000A300000000#64 = .op (.tset 4 0xA 0x3) ∧
  decodeEng 0x035007FF00000000#64 = .op (.bcc 5 0x7FF) ∧
  decodeEng 0xF000000000000000#64 = .illegal 1 ∧
  decodeEng 0x7200000000000000#64 = .illegal 1 ∧
  decodeEng 0x62A8000000000000#64 = .illegal 2 ∧
  decodeEng 0x1804010400000000#64 = .illegal 3 ∧
  decodeEng 0x609C000000000005#64 = .illegal 7

namespace Sys2Proof.Claims

/-- The D register `d` of engine `e` is the one D register that has changed, to a value and a tag. -/
structure DRegOnly (x y : Engine) (d : Nat) (v : Word) (tag : Tag) : Prop where
  dest : y.dreg d = ⟨v, tag⟩
  others : ∀ r, r ≠ d → y.dreg r = x.dreg r

/-- Accumulators, AGU registers and the strand write queue are as before. -/
structure AccAguKept (x y : Engine) : Prop where
  acc : y.acc = x.acc
  agu : y.agu = x.agu
  queue : y.queue = x.queue

/-- An ALU instruction without SAT (R89): Dd takes the word and tag, Z and N follow the word, every other flag and
register stays. -/
structure AluPlain (s t : State) (e d : Nat) (v : Word) (tag : Tag) : Prop where
  dreg : DRegOnly (s.engine e) (t.engine e) d v tag
  kept : AccAguKept (s.engine e) (t.engine e)
  flags : (t.engine e).flags = { (s.engine e).flags with z := decide (v = 0), n := v.msb }
  only : EngineOnly s t e []

/-- An ALU instruction with SAT (R89, 03 R58): an exact value is saturated to s.31; SAT tells whether that changed it, and
SSAT, once set, stays set. -/
structure AluSat (s t : State) (e d : Nat) (exact : Int) : Prop where
  dreg : DRegOnly (s.engine e) (t.engine e) d (code 32 (max (-2147483648) (min 2147483647 exact))) 0
  kept : AccAguKept (s.engine e) (t.engine e)
  flags : (t.engine e).flags = { (s.engine e).flags with
    z := decide (exact = 0), n := decide (exact < 0),
    sat := decide (exact < -2147483648 ∨ 2147483647 < exact),
    ssat := (s.engine e).flags.ssat || decide (exact < -2147483648 ∨ 2147483647 < exact) }
  only : EngineOnly s t e (seen e)

/-- Operand a of an ALU instruction. -/
abbrev opA (s : State) (e : Fin 192) (a : AluArgs) : Word := ((s.engine e).dreg a.a.toNat).val

/-- Operand b of an ALU instruction: Db, or the immediate. -/
def opB (s : State) (e : Fin 192) (a : AluArgs) : Word :=
  match a.b with
  | .reg d => ((s.engine e).dreg d.toNat).val
  | .imm v => v

/-- The shift count: b as a signed integer, clamped to −32 to +31. -/
def count (b : Word) : Int := max (-32) (min 31 b.toInt)

end Sys2Proof.Claims

/-- The ALU instructions that do not saturate (04 R89). -/
def Obligations.AluResultsAreTheTables : Prop := ∀ (e : Fin 192) (a : AluArgs) (s : State),
  (s.issues e (.add a) → Answers (.add e a) s fun t => AluPlain s t e a.d.toNat (opA s e a + opB s e a) 0) ∧
  (s.issues e (.sub a) → Answers (.sub e a) s fun t => AluPlain s t e a.d.toNat (opA s e a - opB s e a) 0) ∧
  (s.issues e (.and a) → Answers (.and e a) s fun t => AluPlain s t e a.d.toNat (opA s e a &&& opB s e a) 0) ∧
  (s.issues e (.or a) → Answers (.or e a) s fun t => AluPlain s t e a.d.toNat (opA s e a ||| opB s e a) 0) ∧
  (s.issues e (.xor a) → Answers (.xor e a) s fun t => AluPlain s t e a.d.toNat (opA s e a ^^^ opB s e a) 0) ∧
  (s.issues e (.lsh a) → Answers (.lsh e a) s fun t => AluPlain s t e a.d.toNat
    (if 0 ≤ count (opB s e a) then opA s e a <<< (count (opB s e a)).toNat
      else opA s e a >>> (-(count (opB s e a))).toNat) 0) ∧
  (s.issues e (.min a) → Answers (.min e a) s fun t => AluPlain s t e a.d.toNat
    (if (opA s e a).toInt ≤ (opB s e a).toInt then opA s e a else opB s e a) 0) ∧
  (s.issues e (.max a) → Answers (.max e a) s fun t => AluPlain s t e a.d.toNat
    (if (opA s e a).toInt ≤ (opB s e a).toInt then opB s e a else opA s e a) 0) ∧
  (s.issues e (.mov a) → Answers (.mov e a) s fun t => AluPlain s t e a.d.toNat (opB s e a)
    (match a.b with | .reg d => ((s.engine e).dreg d.toNat).tag | .imm _ => 0))

/-- The ALU instructions that saturate (04 R89). -/
def Obligations.AluSaturatesAndFlags : Prop := ∀ (e : Fin 192) (a : AluArgs) (s : State),
  (s.issues e (.adds a) → Answers (.adds e a) s fun t => AluSat s t e a.d.toNat ((opA s e a).toInt + (opB s e a).toInt)) ∧
  (s.issues e (.subs a) → Answers (.subs e a) s fun t => AluSat s t e a.d.toNat ((opA s e a).toInt - (opB s e a).toInt)) ∧
  (s.issues e (.ash a) → Answers (.ash e a) s fun t => AluSat s t e a.d.toNat
    (if 0 ≤ count (opB s e a) then (opA s e a).toInt * 2 ^ (count (opB s e a)).toNat
      else (opA s e a).toInt / 2 ^ (-(count (opB s e a))).toNat)) ∧
  (s.issues e (.abs a) → Answers (.abs e a) s fun t => AluSat s t e a.d.toNat ((opB s e a).toInt.natAbs : Int)) ∧
  (s.issues e (.neg a) → Answers (.neg e a) s fun t => AluSat s t e a.d.toNat (-(opB s e a).toInt))

/-- CMP and EXPD (04 R89, 03 R56). -/
def Obligations.CompareAndExponent : Prop := ∀ (e : Fin 192) (a : AluArgs) (s : State),
  (s.issues e (.cmp a) → Answers (.cmp e a) s fun t =>
    (∀ r, (t.engine e).dreg r = (s.engine e).dreg r) ∧ AccAguKept (s.engine e) (t.engine e) ∧ EngineOnly s t e [] ∧
    (t.engine e).flags = { (s.engine e).flags with
      z := decide (opA s e a = opB s e a), n := decide ((opA s e a).toInt < (opB s e a).toInt) }) ∧
  (s.issues e (.expd a) → Answers (.expd e a) s fun t => ∃ v : Word,
    DRegOnly (s.engine e) (t.engine e) a.d.toNat v 0 ∧ AccAguKept (s.engine e) (t.engine e) ∧ EngineOnly s t e [] ∧
    (t.engine e).flags = { (s.engine e).flags with z := decide (opB s e a = 0), n := decide ((opB s e a).toInt < 0) } ∧
    (opB s e a = 0 → v = 0) ∧
    (0 < (opB s e a).toInt → 2 ^ 30 ≤ (opB s e a).toInt * 2 ^ v.toNat ∧ (opB s e a).toInt * 2 ^ v.toNat < 2 ^ 31) ∧
    ((opB s e a).toInt < 0 → -(2 ^ 31) ≤ (opB s e a).toInt * 2 ^ v.toNat ∧ (opB s e a).toInt * 2 ^ v.toNat < -(2 ^ 30)))

namespace Sys2Proof.Claims

/-- Saturation to the s17.62 range, in units of 2^-62 (03 R50). -/
def sat80 (v : Int) : Int := max (-(2 ^ 79)) (min (2 ^ 79 - 1) v)

/-- An accumulator update issued in cycle c (R79, R87): in the next state nothing of the engine has changed but its place in
the program; once the writes due by c + 2 have completed, accumulator k holds the exact value saturated, AOV tells
whether saturation changed it, SAOV is set with it and otherwise kept, and everything else is as before. -/
structure AccUpdated (s t : State) (e k : Nat) (exact : Int) : Prop where
  now : (t.engine e).acc = (s.engine e).acc ∧ (t.engine e).d = (s.engine e).d ∧ (t.engine e).flags = (s.engine e).flags
  value : (after t e ((s.engine e).cyc + 2)).accVal k = sat80 exact
  others : ∀ j, j ≠ k → (after t e ((s.engine e).cyc + 2)).accVal j = (s.engine e).accVal j
  dregs : (after t e ((s.engine e).cyc + 2)).d = (s.engine e).d ∧ (after t e ((s.engine e).cyc + 2)).agu = (s.engine e).agu
  flags : (after t e ((s.engine e).cyc + 2)).flags = { (s.engine e).flags with
    aov := decide (sat80 exact ≠ exact), saov := (s.engine e).flags.saov || decide (sat80 exact ≠ exact) }
  only : EngineOnly s t e []
  onlyAfter : EngineOnly s (t.settle e ((s.engine e).cyc + 2)) e (seen e)

/-- A value times 2^n for a count clamped to −64 to +64, bits below the unit discarded toward minus infinity (03 R57). -/
def shifted (v n : Int) : Int :=
  let m := max (-64) (min 64 n)
  if 0 ≤ m then v * 2 ^ m.toNat else v / 2 ^ (-m).toNat

/-- A D register scaled by a scale register, in units of 2^-62 (03 R52). -/
def scaled (s : State) (e : Fin 192) (d : BitVec 4) (c : BitVec 2) : Int :=
  let v := ((s.engine e).dreg d.toNat).val.toInt * 2 ^ 31
  let n := (s.engine e).scale c.toNat
  if 0 ≤ n then v * 2 ^ n.toNat else v / 2 ^ (-n).toNat

end Sys2Proof.Claims

/-- The accumulator updates of 04 R87. -/
def Obligations.AccumulatorUpdates : Prop := ∀ (e : Fin 192) (k j : BitVec 2) (d : BitVec 4) (c : BitVec 2) (v : BitVec 8) (s : State),
  (s.issues e (.aclr k) → Answers (.aclr e k) s fun t => AccUpdated s t e k.toNat 0) ∧
  (s.issues e (.acpy k j) → Answers (.acpy e k j) s fun t => AccUpdated s t e k.toNat ((s.engine e).accVal j.toNat)) ∧
  (s.issues e (.aadd k j) → Answers (.aadd e k j) s fun t =>
    AccUpdated s t e k.toNat ((s.engine e).accVal k.toNat + (s.engine e).accVal j.toNat)) ∧
  (s.issues e (.asub k j) → Answers (.asub e k j) s fun t =>
    AccUpdated s t e k.toNat ((s.engine e).accVal k.toNat - (s.engine e).accVal j.toNat)) ∧
  (s.issues e (.aneg k) → Answers (.aneg e k) s fun t => AccUpdated s t e k.toNat (-((s.engine e).accVal k.toNat))) ∧
  (s.issues e (.aabs k) → Answers (.aabs e k) s fun t =>
    AccUpdated s t e k.toNat (((s.engine e).accVal k.toNat).natAbs : Int)) ∧
  (s.issues e (.norm k d) → Answers (.norm e k d) s fun t =>
    AccUpdated s t e k.toNat (shifted ((s.engine e).accVal k.toNat) ((s.engine e).dreg d.toNat).val.toInt)) ∧
  (s.issues e (.ashi k v) → Answers (.ashi e k v) s fun t =>
    AccUpdated s t e k.toNat (shifted ((s.engine e).accVal k.toNat) v.toInt)) ∧
  (s.issues e (.dadd k d c) → Answers (.dadd e k d c) s fun t =>
    AccUpdated s t e k.toNat ((s.engine e).accVal k.toNat + scaled s e d c))

/-- DTOA: the move from a D register to an accumulator (03 R52). -/
def Obligations.AccumulatorMoveFromD : Prop := ∀ (e : Fin 192) (k : BitVec 2) (d : BitVec 4) (c : BitVec 2) (s : State),
  s.issues e (.dtoa k d c) → Answers (.dtoa e k d c) s fun t =>
    let x := (s.engine e).scale c.toNat
    let w := ((s.engine e).dreg d.toNat).val.toInt
    AccUpdated s t e k.toNat (w * 2 ^ 31 * 2 ^ (x + 16).toNat / 2 ^ 16)

/-- ATST and EXPA (04 R87, 03 R56). -/
def Obligations.AccumulatorTestAndExponent : Prop := ∀ (e : Fin 192) (k : BitVec 2) (d : BitVec 4) (s : State),
  (s.issues e (.atst k) → Answers (.atst e k) s fun t =>
    (t.engine e).d = (s.engine e).d ∧ AccAguKept (s.engine e) (t.engine e) ∧ EngineOnly s t e [] ∧
    (t.engine e).flags = { (s.engine e).flags with
      z := decide ((s.engine e).accVal k.toNat = 0), n := decide ((s.engine e).accVal k.toNat < 0) }) ∧
  (s.issues e (.expa k d) → Answers (.expa e k d) s fun t =>
    let x := after t e ((s.engine e).cyc + 1)
    let a := (s.engine e).accVal k.toNat
    (t.engine e).d = (s.engine e).d ∧ EngineOnly s t e [] ∧
    ∃ v : Word, DRegOnly (s.engine e) x d.toNat v 0 ∧ AccAguKept (s.engine e) x ∧
      x.flags = { (s.engine e).flags with z := decide (a = 0), n := decide (a < 0) } ∧
      (a = 0 → v = 0) ∧ -17 ≤ v.toInt ∧ v.toInt ≤ 62 ∧
      (0 < a → 2 ^ 61 * 2 ^ 17 ≤ a * 2 ^ (v.toInt + 17).toNat ∧ a * 2 ^ (v.toInt + 17).toNat < 2 ^ 62 * 2 ^ 17) ∧
      (a < 0 → -(2 ^ 62 * 2 ^ 17) ≤ a * 2 ^ (v.toInt + 17).toNat ∧ a * 2 ^ (v.toInt + 17).toNat < -(2 ^ 61 * 2 ^ 17)))

namespace Sys2Proof.Claims

/-- The memory words that the addresses name are within X or Y memory and undamaged. -/
def Readable (s : State) (e : Nat) (y : Bool) (l : List Nat) : Prop :=
  ∀ a ∈ l, a < 49152 ∧ s.eccMark (.xy e y a) = none

/-- The addresses of a bus source that lies in memory. -/
def busAddrs (x : Engine) : BusSrc → List Nat
  | .quad _ => []
  | .mem a => x.quadAddrs a.ptr.toNat (x.access a true).1

/-- Word i of an operand bus (03 R47). -/
def busWord (s : State) (e : Nat) (y : Bool) (src : BusSrc) (i : Nat) : Int :=
  match src with
  | .quad q => ((s.engine e).dreg (4 * q.toNat + i)).val.toInt
  | .mem _ => (s.xyWord e y ((busAddrs (s.engine e) src).getD i 0)).toInt

/-- What MAC sends to accumulator j, where it sends anything: R49's table, x and y the words of the buses. -/
def macSent (a : MacArgs) (x y : Nat → Int) (j : Nat) : Option Int :=
  let p := fun i k => x i * y k * (if a.cf then 8 else 1)
  let k0 := 2 * (a.k.toNat / 2)
  match a.mode with
  | .quad => some (p j j)
  | .bcastx => some (p 0 j)
  | .bcasty => some (p j 0)
  | .cplx => if j = k0 then some (p 0 0 - p 1 1) else if j = k0 + 1 then some (p 0 1 + p 1 0) else none
  | .sum => if j = a.k.toNat then some (p 0 0 + p 1 1 + p 2 2 + p 3 3) else none

/-- The accumulate mode of R50: what accumulator value and sent value give before saturation. -/
def accumulate (m : AccMode) (old v : Int) : Int :=
  match m with
  | .acc => old + v
  | .sub => old - v
  | .set => v

/-- The pointer update of an address specifier, if its form has one (04 R84). -/
def PointerMoved (s t : State) (e : Nat) (a : AddrSpec) (quad : Bool) : Prop :=
  match ((s.engine e).access a quad).2 with
  | some v => (t.engine e).ptr a.ptr.toNat = v
  | none => (t.engine e).aguWord a.ptr.toNat = (s.engine e).aguWord a.ptr.toNat

end Sys2Proof.Claims

/-- MAC (04 R85, 03 R47-R50). -/
def Obligations.MacSharesAndAccumulates : Prop := ∀ (e : Fin 192) (a : MacArgs) (s : State), s.issues e (.mac a) → (EngOp.mac a).wf = true →
  Readable s e false (busAddrs (s.engine e) a.x) → Readable s e true (busAddrs (s.engine e) a.y) →
  Answers (.mac e a) s fun t =>
    let x := after t e ((s.engine e).cyc + 2)
    let sent := macSent a (busWord s e false a.x) (busWord s e true a.y)
    let exact := fun j => match sent j with
      | some v => accumulate a.amode ((s.engine e).accVal j) v
      | none => (s.engine e).accVal j
    (∀ j, j < 4 → x.accVal j = sat80 (exact j)) ∧
    (x.flags.aov = true ↔ ∃ j, j < 4 ∧ sat80 (exact j) ≠ exact j) ∧
    x.flags = { (s.engine e).flags with aov := x.flags.aov, saov := (s.engine e).flags.saov || x.flags.aov } ∧
    x.d = (s.engine e).d ∧ (t.engine e).acc = (s.engine e).acc ∧
    (∀ sp, a.x = .mem sp → PointerMoved s t e sp true) ∧ (∀ sp, a.y = .mem sp → PointerMoved s t e sp true) ∧
    EngineOnly s t e []

namespace Sys2Proof.Claims

/-- The state of a dither generator after n steps (03 R54). -/
def ditherAfter (g : Word) : Nat → Word
  | 0 => g
  | n + 1 => ditherStep (ditherAfter g n)

/-- The i-th move of a move instruction (03 R51): accumulator value `a`, scale `n`, width code and rounding code, and the
generator's state before the instruction. The exact value in units of 2^-78 is the accumulator times 2^n, and the dither
value where RND selects it; `r` is the multiple of 2^-(W-1) that the rounding mode chooses. -/
structure MovedTo (a n : Int) (w rnd : BitVec 2) (g : Word) (i : Nat) (r : Int) : Prop where
  floor : rnd = 1 → r * 2 ^ (79 - moveWidth w) ≤ a * 2 ^ (n + 16).toNat ∧
    a * 2 ^ (n + 16).toNat < (r + 1) * 2 ^ (79 - moveWidth w)
  nearest : rnd ≠ 1 →
    let x := a * 2 ^ (n + 16).toNat +
      (if rnd = 2 then ditherValue (ditherAfter g (2 * i + 1)) (ditherAfter g (2 * i + 2)) * 2 ^ (63 - moveWidth w) else 0)
    let q : Int := 2 ^ (79 - moveWidth w)
    (-q ≤ 2 * (x - r * q)) ∧ 2 * (x - r * q) ≤ q ∧ ((2 * (x - r * q) = q ∨ 2 * (x - r * q) = -q) → r % 2 = 0)

/-- A rounded value saturated to a width, and as the word that the D register takes. -/
def clipTo (w : BitVec 2) (r : Int) : Int := max (-(2 ^ (moveWidth w - 1))) (min (2 ^ (moveWidth w - 1) - 1) r)

/-- The s.31 word of a saturated value. -/
def moveWord (w : BitVec 2) (r : Int) : Word := code 32 (clipTo w r * 2 ^ (32 - moveWidth w))

end Sys2Proof.Claims

/-- MVA and MVAQ (04 R86, 03 R51-R54). -/
def Obligations.MovesRoundAndSaturate : Prop := ∀ (e : Fin 192) (s : State),
  (∀ a : MvaArgs, s.issues e (.mva a) → Answers (.mva e a) s fun t =>
    let x := after t e ((s.engine e).cyc + 1)
    let g := (s.engine e).dither a.dgs.toNat
    (t.engine e).d = (s.engine e).d ∧ EngineOnly s t e [] ∧ x.acc = (s.engine e).acc ∧
    x.dither a.dgs.toNat = (if a.rnd = 2 then ditherAfter g 2 else g) ∧
    ∃ r, MovedTo ((s.engine e).accVal a.k.toNat) ((s.engine e).scale a.scs.toNat) a.w a.rnd g 0 r ∧
      DRegOnly (s.engine e) x a.d.toNat (moveWord a.w r) 0 ∧
      x.flags = { (s.engine e).flags with
        z := decide (moveWord a.w r = 0), n := (moveWord a.w r).msb,
        sat := decide (clipTo a.w r ≠ r), ssat := (s.engine e).flags.ssat || decide (clipTo a.w r ≠ r) }) ∧
  (∀ a : MvaqArgs, s.issues e (.mvaq a) → Answers (.mvaq e a) s fun t =>
    let x := after t e ((s.engine e).cyc + 1)
    let g := (s.engine e).dither a.dgs.toNat
    (t.engine e).d = (s.engine e).d ∧ EngineOnly s t e [] ∧ x.acc = (s.engine e).acc ∧
    x.dither a.dgs.toNat = (if a.rnd = 2 then ditherAfter g 8 else g) ∧
    ∃ r : Nat → Int,
      (∀ i, i < 4 → MovedTo ((s.engine e).accVal i) ((s.engine e).scale a.scs.toNat) a.w a.rnd g i (r i) ∧
        x.dreg (4 * a.q.toNat + i) = ⟨moveWord a.w (r i), 0⟩) ∧
      (∀ i, (i < 4 * a.q.toNat ∨ 4 * a.q.toNat + 4 ≤ i) → x.dreg i = (s.engine e).dreg i) ∧
      (x.flags.sat = true ↔ ∃ i, i < 4 ∧ clipTo a.w (r i) ≠ r i) ∧
      x.flags = { (s.engine e).flags with sat := x.flags.sat, ssat := (s.engine e).flags.ssat || x.flags.sat })

namespace Sys2Proof.Claims

/-- What a read of X or Y memory from the engine's side gives for an undamaged word: 0 beyond the memory (03 R60). -/
def memWord (s : State) (e : Nat) (y : Bool) (a : Nat) : Word := if a < 49152 then s.xyWord e y a else 0

/-- The words at the addresses are undamaged. -/
def Clean (s : State) (e : Nat) (y : Bool) (l : List Nat) : Prop := ∀ a ∈ l, s.eccMark (.xy e y a) = none

/-- A load (R88, R81): the D registers are as before in the next state; once the writes due by t + 1 have completed, the n
registers from d on hold the words at the addresses with tag 0, and no other register, accumulator or flag has changed.
An address beyond the memory reads 0 and sets ADDR_ERR (03 R60). -/
structure Loaded (s t : State) (e d : Nat) (y : Bool) (l : List Nat) : Prop where
  now : (t.engine e).d = (s.engine e).d
  words : ∀ i, i < l.length → (after t e ((s.engine e).cyc + 1)).dreg (d + i) = ⟨memWord s e y (l.getD i 0), 0⟩
  others : ∀ r, (r < d ∨ d + l.length ≤ r) → (after t e ((s.engine e).cyc + 1)).dreg r = (s.engine e).dreg r
  flags : (after t e ((s.engine e).cyc + 1)).flags = (s.engine e).flags ∧
    (after t e ((s.engine e).cyc + 1)).acc = (s.engine e).acc
  err : t.on (Reg.ENG_STATUS.ADDR_ERR e) = (s.on (Reg.ENG_STATUS.ADDR_ERR e) || l.any fun a => decide (49152 ≤ a))
  only : EngineOnly s t e [Reg.ENG_STATUS.ADDR_ERR e]

/-- The memory that an address specifier's pointer reaches: P0-P3 X, P4-P7 Y (R84). -/
def inY (a : AddrSpec) : Bool := decide (4 ≤ a.ptr.toNat)

/-- The address that a one-word access uses. -/
def wordAt (s : State) (e : Nat) (a : AddrSpec) : List Nat := [((s.engine e).access a false).1]

/-- The four addresses that a quad access uses (03 R65). -/
def quadAt (s : State) (e : Nat) (a : AddrSpec) : List Nat :=
  (s.engine e).quadAddrs a.ptr.toNat ((s.engine e).access a true).1

/-- The four addresses of an absolute quad access, taken linearly. -/
def quadFrom (a : BitVec 16) : List Nat :=
  [a.toNat, (a.toNat + 1) % 65536, (a.toNat + 2) % 65536, (a.toNat + 3) % 65536]

/-- A store of words at addresses (R88, R81): each word within the memory is stored (with repeated addresses, the last),
no other word of any engine's memories and no other byte changes, no D register, accumulator or flag changes, and an
address beyond the memory is discarded and sets ADDR_ERR (03 R60). -/
structure Stored (s t : State) (e : Nat) (y : Bool) (l : List (Nat × Word)) : Prop where
  words : ∀ a, a < 49152 → t.xyWord e y a = (match l.reverse.find? fun p => decide (p.1 = a) with
    | some p => p.2
    | none => s.xyWord e y a)
  otherWords : ∀ (i : Nat) (z : Bool) (a : Nat), a < 65536 → (i, z) ≠ (e, y) → t.xyWord i z a = s.xyWord i z a
  bytes : ∀ c, (c < xyAddr e y 0 ∨ xyAddr e y 49152 ≤ c) → t.byte c = s.byte c
  engine : (t.engine e).d = (s.engine e).d ∧ (t.engine e).acc = (s.engine e).acc ∧ (t.engine e).flags = (s.engine e).flags
  err : t.on (Reg.ENG_STATUS.ADDR_ERR e) = (s.on (Reg.ENG_STATUS.ADDR_ERR e) || l.any fun p => decide (49152 ≤ p.1))
  rest : t = { s with eng := t.eng, regs := t.regs, mem := t.mem, livePage := t.livePage, ecc := t.ecc }

/-- A store that meets the delivery of a coil read into its memory (R82): the store is discarded, so that memory is what the
deliveries of the cycle alone make of it, and PORT_CONFLICT is set. -/
def Discarded (s t : State) (e : Nat) : Prop :=
  t.mem = (s.settle e (s.engine e).cyc).mem ∧ t.livePage = (s.settle e (s.engine e).cyc).livePage ∧
  t.on (Reg.ENG_EXC.PORT_CONFLICT e) = true ∧ (t.engine e).flags = (s.engine e).flags ∧ (t.engine e).acc = (s.engine e).acc

/-- The words of a D quad. -/
def quadWords (s : State) (e : Nat) (q : BitVec 2) : List Word :=
  (List.range 4).map fun i => ((s.engine e).dreg (4 * q.toNat + i)).val

end Sys2Proof.Claims

/-- The loads of 04 R88. -/
def Obligations.LoadsReadTheAddressedWords : Prop :=
  ∀ (e : Fin 192) (d : BitVec 4) (q : BitVec 2) (a : AddrSpec) (ms : Bool) (ad : BitVec 16) (s : State),
  (s.issues e (.ldw d a) → Clean s e (inY a) (wordAt s e a) → Answers (.ldw e d a) s fun t =>
    Loaded s t e d.toNat (inY a) (wordAt s e a) ∧ PointerMoved s t e a false) ∧
  (s.issues e (.ldq q a) → Clean s e (inY a) (quadAt s e a) → Answers (.ldq e q a) s fun t =>
    Loaded s t e (4 * q.toNat) (inY a) (quadAt s e a) ∧ PointerMoved s t e a true) ∧
  (s.issues e (.ldwa d ms ad) → Clean s e ms [ad.toNat] → Answers (.ldwa e d ms ad) s fun t =>
    Loaded s t e d.toNat ms [ad.toNat] ∧ (t.engine e).agu = (s.engine e).agu) ∧
  (s.issues e (.ldqa q ms ad) → Clean s e ms (quadFrom ad) → Answers (.ldqa e q ms ad) s fun t =>
    Loaded s t e (4 * q.toNat) ms (quadFrom ad) ∧ (t.engine e).agu = (s.engine e).agu)

/-- The stores of 04 R88. -/
def Obligations.StoresWriteTheAddressedWords : Prop :=
  ∀ (e : Fin 192) (d : BitVec 4) (q : BitVec 2) (a : AddrSpec) (ms : Bool) (ad : BitVec 16) (s : State),
  (s.issues e (.stw d a) → Answers (.stw e d a) s fun t =>
    Stored s t e (inY a) ((wordAt s e a).map fun n => (n, ((s.engine e).dreg d.toNat).val)) ∧ PointerMoved s t e a false) ∧
  (s.issues e (.stq q a) → Answers (.stq e q a) s fun t =>
    Stored s t e (inY a) ((quadAt s e a).zip (quadWords s e q)) ∧ PointerMoved s t e a true) ∧
  (s.issues e (.stwa d ms ad) → Answers (.stwa e d ms ad) s fun t =>
    Stored s t e ms [(ad.toNat, ((s.engine e).dreg d.toNat).val)] ∧ (t.engine e).agu = (s.engine e).agu) ∧
  (s.issues e (.stqa q ms ad) → Answers (.stqa e q ms ad) s fun t =>
    Stored s t e ms ((quadFrom ad).zip (quadWords s e q)) ∧ (t.engine e).agu = (s.engine e).agu) ∧
  (s.meets e (.op (.stw d a)) → s.portTaken e (inY a) = true → Answers (.stw e d a) s fun t => Discarded s t e) ∧
  (s.meets e (.op (.stq q a)) → s.portTaken e (inY a) = true → Answers (.stq e q a) s fun t => Discarded s t e) ∧
  (s.meets e (.op (.stwa d ms ad)) → s.portTaken e ms = true → Answers (.stwa e d ms ad) s fun t => Discarded s t e) ∧
  (s.meets e (.op (.stqa q ms ad)) → s.portTaken e ms = true → Answers (.stqa e q ms ad) s fun t => Discarded s t e)

namespace Sys2Proof.Claims

/-- Everything the engine computes with is as before: D registers, accumulators, AGU registers, flags, write queue. -/
structure DataKept (x y : Engine) : Prop where
  d : y.d = x.d
  acc : y.acc = x.acc
  agu : y.agu = x.agu
  flags : y.flags = x.flags
  queue : y.queue = x.queue

/-- What a write of an AGU register code leaves in its bits (04 R90): 16 bits of a pointer, modifier, base or length, 5 of a
scale register, all of a dither generator, where 0 loads 1. -/
def aguBits (c : BitVec 6) (v : Word) : Word :=
  if c.toNat < 0x20 then v &&& 0xFFFF#32 else if c.toNat < 0x24 then v &&& 0x1F#32 else if v = 0 then 1 else v

/-- The effect of a write of an AGU register or of FLAGS (04 R90, R80): a sticky flag that is written 1 is set and one that
is written 0 is cleared. -/
structure AguWritten (s t : State) (e : Nat) (c : BitVec 6) (v : Word) : Prop where
  reg : c.toNat < 0x26 → (t.engine e).aguWord c.toNat = aguBits c v ∧ (t.engine e).flags = (s.engine e).flags
  flags : c.toNat = 0x26 → (t.engine e).agu = (s.engine e).agu ∧
    (t.engine e).flags = ⟨v.getLsbD 0, v.getLsbD 1, v.getLsbD 2, v.getLsbD 3, v.getLsbD 4, v.getLsbD 5⟩
  others : ∀ n, n ≠ c.toNat → (t.engine e).aguWord n = (s.engine e).aguWord n
  data : (t.engine e).d = (s.engine e).d ∧ (t.engine e).acc = (s.engine e).acc
  only : EngineOnly s t e (seen e)

/-- What GETR returns (04 R90): sign-extended modifiers and scale registers, FLAGS in its layout, and the iterations left of
the loop levels, level 1 the outermost. -/
def aguReads (x : Engine) (c : BitVec 6) : Word :=
  let n := c.toNat
  if 0x08 ≤ n ∧ n < 0x10 then ((x.aguWord n).setWidth 16).signExtend 32
  else if 0x20 ≤ n ∧ n < 0x24 then ((x.aguWord n).setWidth 5).signExtend 32
  else if 0x24 ≤ n ∧ n < 0x26 then (if x.aguWord n = 0 then 1 else x.aguWord n)
  else if n = 0x26 then BitVec.ofNat 32 (x.flags.z.toNat + 2 * x.flags.n.toNat + 4 * x.flags.sat.toNat + 8 * x.flags.aov.toNat +
    16 * x.flags.ssat.toNat + 32 * x.flags.saov.toNat)
  else if 0x27 ≤ n then (match x.loops.reverse[n - 0x27]? with
    | some l => BitVec.ofNat 32 l.remaining
    | none => 0)
  else x.aguWord n

end Sys2Proof.Claims

/-- The AGU instructions (04 R90). -/
def Obligations.AddressRegistersAreReadAndWritten : Prop :=
  ∀ (e : Fin 192) (c : BitVec 6) (v : Word) (d : BitVec 4) (a : AddrSpec) (s : State),
  (s.issues e (.setr c v) → Answers (.setr e c v) s fun t => AguWritten s t e c v) ∧
  (s.issues e (.movr c d) → Answers (.movr e c d) s fun t => AguWritten s t e c ((s.engine e).dreg d.toNat).val) ∧
  (s.issues e (.getr c d) → Answers (.getr e c d) s fun t =>
    DRegOnly (s.engine e) (t.engine e) d.toNat (aguReads (s.engine e) c) 0 ∧ AccAguKept (s.engine e) (t.engine e) ∧
    (t.engine e).flags = (s.engine e).flags ∧ EngineOnly s t e []) ∧
  (s.issues e (.modp a) → Answers (.modp e a) s fun t =>
    PointerMoved s t e a false ∧ (∀ n, n ≠ a.ptr.toNat → (t.engine e).aguWord n = (s.engine e).aguWord n) ∧
    (t.engine e).d = (s.engine e).d ∧ (t.engine e).acc = (s.engine e).acc ∧ (t.engine e).flags = (s.engine e).flags ∧
    EngineOnly s t e [])

namespace Sys2Proof.Claims

/-- The slot that a strand instruction names (03 R66). -/
def slotNamed (s : State) (e : Nat) : SlotSrc → Nat
  | .imm n => n.toNat
  | .reg d => ((s.engine e).dreg d.toNat).val.toNat % 8192

end Sys2Proof.Claims

/-- The strand instructions (04 R91, 03 R66, R67). -/
def Obligations.StrandInstructions : Prop := ∀ (e : Fin 192) (d : BitVec 4) (src : SlotSrc) (s : State),
  (s.issues e (.srd d src) → s.eccMark (.strand (slotNamed s e src)) = none → Answers (.srd e d src) s fun t =>
    let x := after t e ((s.engine e).cyc + 3)
    let w := s.curSlot (slotNamed s e src)
    (t.engine e).d = (s.engine e).d ∧ DRegOnly (s.engine e) x d.toNat w.sample w.tag ∧ AccAguKept (s.engine e) x ∧
    x.flags = (s.engine e).flags ∧ EngineOnly s t e []) ∧
  (s.issues e (.swr d src) → (s.engine e).queue.length < 4 → Answers (.swr e d src) s fun t =>
    (t.engine e).queue = (s.engine e).queue ++
      [⟨slotNamed s e src, ((s.engine e).dreg d.toNat).val, ((s.engine e).dreg d.toNat).tag⟩] ∧
    (t.engine e).d = (s.engine e).d ∧ (t.engine e).acc = (s.engine e).acc ∧ (t.engine e).flags = (s.engine e).flags ∧
    EngineOnly s t e []) ∧
  (s.issues e (.swr d src) → 4 ≤ (s.engine e).queue.length → Answers (.swr e d src) s fun t =>
    DataKept (s.engine e) (t.engine e) ∧ t.on (Reg.ENG_STATUS.STRQ_OVF e) = true ∧
    EngineOnly s t e [Reg.ENG_STATUS.STRQ_OVF e])

namespace Sys2Proof.Claims

/-- The index of a coil access: immediate, or the address that the specifier's pointer gives (04 R92). -/
def indexNamed (s : State) (e : Nat) : CoilIdx → Nat
  | .imm i => i.toNat
  | .spec a => ((s.engine e).access a false).1

/-- A coil access issued through a descriptor of the live plan (03 R69-R71): it joins the accesses in flight with its issue
cycle, the quad (BASE + i mod LEN) mod 4,194,304, and whether the plan schedules it: an even cycle among the
descriptor's, in the tick phase of its mask, and for a write not in the reserved coils. -/
def CoilIssued (s t : State) (e : Nat) (csd : BitVec 6) (i : Nat) (mv : CoilMove) (write : Bool) : Prop :=
  ∀ c, s.csd e csd.toNat = some c →
    let q := (c.base + i % c.len) % 4194304
    let lo := 256 * s.rd Reg.ENG_RES.BASE
    let hi := 256 * (s.rd Reg.ENG_RES.BASE + s.rd Reg.ENG_RES.COUNT)
    t.coil = { s.coil with inFlight := s.coil.inFlight ++ [⟨e, (s.engine e).cyc, q, mv,
      decide ((s.engine e).cyc % 2 = 0) && c.cycles.contains (s.engine e).cyc && c.phases.getLsbD (s.tick % 4) &&
        !(write && decide (lo ≤ q ∧ q < hi)), none⟩] }

/-- The pointer of a coil index in its AS form has moved (04 R92). -/
def IndexMoved (s t : State) (e : Nat) : CoilIdx → Prop
  | .imm _ => (t.engine e).agu = (s.engine e).agu
  | .spec a => PointerMoved s t e a false

/-- The words of an X or Y quad as a quad (03 R45). -/
def quadIn (s : State) (e : Nat) (y : Bool) (a : BitVec 16) : Quad :=
  let w := fun i => memWord s e y ((quadFrom a).getD i 0)
  w 3 ++ w 2 ++ w 1 ++ w 0

/-- The words of a D quad as a quad. -/
def quadOfD (s : State) (e : Nat) (q : BitVec 2) : Quad :=
  let w := fun i => ((s.engine e).dreg (4 * q.toNat + i)).val
  w 3 ++ w 2 ++ w 1 ++ w 0

end Sys2Proof.Claims

/-- The coil instructions (04 R92, 03 R69-R71). -/
def Obligations.CoilInstructionsIssueAccesses : Prop :=
  ∀ (e : Fin 192) (csd : BitVec 6) (i : CoilIdx) (q : BitVec 2) (ms : Bool) (ad : BitVec 16) (s : State),
  let kept := fun t : State => (t.engine e).d = (s.engine e).d ∧ (t.engine e).acc = (s.engine e).acc ∧
    (t.engine e).flags = (s.engine e).flags ∧ t.mem = s.mem ∧ IndexMoved s t e i
  (s.issues e (.crdd csd i q) → Answers (.crdd e csd i q) s fun t =>
    CoilIssued s t e csd (indexNamed s e i) (.read (.dquad q.toNat)) false ∧ kept t) ∧
  (s.issues e (.crdm csd i ms ad) → Answers (.crdm e csd i ms ad) s fun t =>
    CoilIssued s t e csd (indexNamed s e i) (.read (.mem ms ad.toNat)) false ∧ kept t) ∧
  (s.issues e (.cwrd csd i q) → Answers (.cwrd e csd i q) s fun t =>
    CoilIssued s t e csd (indexNamed s e i) (.write (quadOfD s e q)) true ∧ kept t) ∧
  (s.issues e (.cwrm csd i ms ad) → Clean s e ms (quadFrom ad) → Answers (.cwrm e csd i ms ad) s fun t =>
    CoilIssued s t e csd (indexNamed s e i) (.write (quadIn s e ms ad)) true ∧ kept t)

namespace Sys2Proof.Claims

/-- An instruction that writes the tag of Dd and no sample (04 R93). -/
structure TagOnly (s t : State) (e d : Nat) (tag : Tag) : Prop where
  dreg : DRegOnly (s.engine e) (t.engine e) d ((s.engine e).dreg d).val tag
  kept : AccAguKept (s.engine e) (t.engine e)
  only : EngineOnly s t e []

end Sys2Proof.Claims

/-- The TAG instructions (04 R93). -/
def Obligations.TagInstructions : Prop :=
  ∀ (e : Fin 192) (d a val mask : BitVec 4) (sel : BitVec 2) (s : State),
  let f := (s.engine e).flags
  let tag := fun r : BitVec 4 => ((s.engine e).dreg r.toNat).tag
  (s.issues e (.tclip d sel) → Answers (.tclip e d sel) s fun t =>
    TagOnly s t e d.toNat (if (sel.getLsbD 0 && f.ssat) || (sel.getLsbD 1 && f.saov) then tag d ||| 0b0100#4 else tag d) ∧
    (t.engine e).flags = { f with ssat := f.ssat && !sel.getLsbD 0, saov := f.saov && !sel.getLsbD 1 }) ∧
  (s.issues e (.tor d a mask) → Answers (.tor e d a mask) s fun t =>
    TagOnly s t e d.toNat (tag d ||| (tag a &&& mask)) ∧ (t.engine e).flags = f) ∧
  (s.issues e (.tset d val mask) → Answers (.tset e d val mask) s fun t =>
    TagOnly s t e d.toNat ((tag d &&& ~~~mask) ||| (val &&& mask)) ∧ (t.engine e).flags = f) ∧
  (s.issues e (.tcpy d a) → Answers (.tcpy e d a) s fun t => TagOnly s t e d.toNat (tag a) ∧ (t.engine e).flags = f) ∧
  (s.issues e (.ttst d mask) → Answers (.ttst e d mask) s fun t =>
    (t.engine e).d = (s.engine e).d ∧ AccAguKept (s.engine e) (t.engine e) ∧ EngineOnly s t e [] ∧
    (t.engine e).flags = { f with z := decide (tag d &&& mask = 0) }) ∧
  (s.issues e (.fclr sel) → Answers (.fclr e sel) s fun t =>
    (t.engine e).d = (s.engine e).d ∧ AccAguKept (s.engine e) (t.engine e) ∧ EngineOnly s t e [] ∧
    (t.engine e).flags = { f with ssat := f.ssat && !sel.getLsbD 0, saov := f.saov && !sel.getLsbD 1 })

namespace Sys2Proof.Claims

/-- An instruction of the program flow changes nothing that the engine computes with, and nothing beyond the engine. -/
structure FlowOnly (s t : State) (e : Nat) : Prop where
  data : DataKept (s.engine e) (t.engine e)
  only : EngineOnly s t e []

/-- The conditions of BCC (04 R95). -/
def condition (f : EngFlags) (c : BitVec 4) : Bool :=
  [true, f.z, !f.z, f.n, !f.n, !f.n && !f.z, f.n || f.z, f.sat, !f.sat, f.aov, !f.aov, f.ssat, f.saov].getD c.toNat false

end Sys2Proof.Claims

/-- The program flow (04 R94-R99). -/
def Obligations.ProgramFlow : Prop :=
  ∀ (e : Fin 192) (tgt last : BitVec 12) (cond d : BitVec 4) (count : BitVec 16) (s : State),
  let x := s.engine e
  let opens := fun (t : State) (n : Nat) => (0 < n →
      FlowOnly s t e ∧ (t.engine e).loops = ⟨(x.pc + 1) % 4096, last.toNat, n⟩ :: x.loops ∧
      (t.engine e).pc = (x.pc + 1) % 4096 ∧ (t.engine e).cyc = x.cyc + 1) ∧
    (n = 0 → (t.engine e).loops = x.loops ∧ (t.engine e).pc = (last.toNat + 1) % 4096 ∧ (t.engine e).cyc = x.cyc + 3 ∧
      (t.engine e).d = x.d)
  (s.issues e .wait → Answers (.wait e) s fun t => FlowOnly s t e ∧ (t.engine e).issuing = false ∧
    (t.engine e).loops = [] ∧ (t.engine e).waitCyc = some x.cyc) ∧
  (s.issues e (.bra tgt) → Answers (.bra e tgt) s fun t => FlowOnly s t e ∧ (t.engine e).pc = (x.pc + 1) % 4096 ∧
    (t.engine e).slots = some ⟨2, tgt.toNat⟩ ∧ (t.engine e).loops = x.loops ∧ (t.engine e).cyc = x.cyc + 1) ∧
  (s.issues e (.bcc cond tgt) → cond.toNat < 13 → Answers (.bcc e cond tgt) s fun t =>
    FlowOnly s t e ∧ (t.engine e).pc = (x.pc + 1) % 4096 ∧ (t.engine e).loops = x.loops ∧ (t.engine e).cyc = x.cyc + 1 ∧
    (t.engine e).slots = some ⟨2, if condition x.flags cond then tgt.toNat else (x.pc + 3) % 4096⟩) ∧
  (s.issues e (.loop last count) → Answers (.loop e last count) s fun t => opens t count.toNat) ∧
  (s.issues e (.loopr last d) → Answers (.loopr e last d) s fun t => opens t ((x.dreg d.toNat).val.toNat % 65536)) ∧
  (s.issues e .brk → Answers (.brk e) s fun t => FlowOnly s t e ∧ (t.engine e).loops = x.loops.tail ∧
    (t.engine e).pc = (x.pc + 1) % 4096 ∧ (t.engine e).cyc = x.cyc + 1) ∧
  (s.issues e .nop → Answers (.nop e) s fun t => FlowOnly s t e ∧ (t.engine e).cyc = x.cyc + 1 ∧
    (x.slots = none → (∀ l ∈ x.loops, l.last ≠ x.pc) →
      (t.engine e).pc = (x.pc + 1) % 4096 ∧ (t.engine e).loops = x.loops ∧ (t.engine e).slots = none) ∧
    (∀ n a, x.slots = some ⟨n, a⟩ → (1 < n →
        (t.engine e).pc = (x.pc + 1) % 4096 ∧ (t.engine e).slots = some ⟨n - 1, a⟩ ∧ (t.engine e).loops = x.loops) ∧
      (n ≤ 1 → (t.engine e).pc = a ∧ (t.engine e).slots = none ∧ (t.engine e).loops = x.loops)) ∧
    (∀ l r, x.slots = none → x.loops = l :: r → l.last = x.pc → (1 < l.remaining →
        (t.engine e).pc = l.first ∧ (t.engine e).loops = ⟨l.first, l.last, l.remaining - 1⟩ :: r) ∧
      (l.remaining ≤ 1 → (∀ m ∈ r, m.last ≠ x.pc) →
        (t.engine e).pc = (x.pc + 1) % 4096 ∧ (t.engine e).loops = r)))

namespace Sys2Proof.Claims

/-- Of the accesses that still have to reach their banks, `c` is the one whose bank cycle comes first (03 R70). -/
def Earliest (s : State) (c : CoilAccess) : Prop :=
  s.coil.inFlight.Nodup ∧ ∀ d ∈ s.coil.inFlight, d.data = none → d = c ∨ c.issued < d.issued ∨
    (c.issued = d.issued ∧ c.engine < d.engine)

/-- The other accesses at their banks in the FCLK cycle of `c` (03 R70). -/
def Beside (s : State) (c d : CoilAccess) : Prop :=
  d ∈ s.coil.inFlight ++ s.coil.served ∧ d ≠ c ∧ d.scheduled = true ∧ d.issued / 2 = c.issued / 2

/-- No access of a lower-numbered engine of its cluster, and none of a lower-numbered cluster at the same bank, stands beside
an access (03 R71). -/
def Unopposed (s : State) (c : CoilAccess) : Prop := ∀ d, Beside s c d →
  (d.engine / 16 = c.engine / 16 → c.engine ≤ d.engine) ∧
  (d.engine / 16 < c.engine / 16 → 16 * d.quad / 256 % 8 ≠ 16 * c.quad / 256 % 8)

/-- A lower-numbered engine of the same cluster uses the cluster's coil port in the cycle (03 R71). -/
def PortLost (s : State) (c : CoilAccess) : Prop := ∃ d, Beside s c d ∧ d.engine / 16 = c.engine / 16 ∧ d.engine < c.engine

/-- An event of source n has reached the fault collector as the latest (16 R358). -/
def Raised (t : State) (n : Nat) : Prop := t.flt.arriving.getLast? = some n

end Sys2Proof.Claims

/-- The engine events of chapters 03 and 04. -/
def Obligations.EngineEvents : Prop := ∀ (e : Fin 192) (s : State),
  (∀ c, s.meets e (.illegal c) → s.quiet e ((s.engine e).cyc + 3) → (s.engine e).loops = [] → (s.engine e).slots = none → Answers (.illegalInstruction e) s fun t =>
    t.on (Reg.ENG_EXC.ILL e) = true ∧ t.flt.arriving = s.flt.arriving ++ [Src.ENG_ILL] ∧
    DataKept (s.engine e) (t.engine e) ∧ (t.engine e).pc = ((s.engine e).pc + 1) % 4096 ∧
    (t.engine e).cyc = (s.engine e).cyc + 1 ∧ t.mem = s.mem ∧
    (s.on (Reg.ENG_EXC.ILL e) = false → t.rd (Reg.ENG_EXC.CAUSE e) = c % 16 ∧ t.rd (Reg.ENG_EXC.ILL_PC e) = (s.engine e).pc % 4096) ∧
    (s.on (Reg.ENG_EXC.ILL e) = true → t.rd (Reg.ENG_EXC.CAUSE e) = s.rd (Reg.ENG_EXC.CAUSE e))) ∧
  (∀ l r, s.issues e .nop → (s.engine e).slots = none → (s.engine e).loops = l :: r → l.last = (s.engine e).pc → l.remaining ≤ 1 →
    (∀ m ∈ r, m.last ≠ (s.engine e).pc) → Answers (.loopClose e) s fun t =>
      FlowOnly s t e ∧ (t.engine e).loops = r ∧ (t.engine e).pc = ((s.engine e).pc + 1) % 4096) ∧
  (s.runs → s.engRuns e = true → (s.engine e).issuing = true → windowStart s.mult ≤ (s.engine e).cyc →
    Answers (.engineOverrun e) s fun t =>
      (t.engine e).issuing = false ∧ (t.engine e).d = (s.engine e).d ∧ t.on (Reg.ENG_STATUS.OVERRUN e) = true ∧
      t.rd (Reg.ENG_OVR_PC.PC e) = (s.engine e).pc % 4096 ∧ t.rd (Reg.ENG_OVR_PC.BANK e) = s.liveBank % 2 ∧
      t.rd (Reg.ENG_OVRCNT.COUNT e) = min (s.rd (Reg.ENG_OVRCNT.COUNT e) + 1) (2 ^ (Reg.ENG_OVRCNT.COUNT e).width - 1) ∧
      t.flt.arriving = s.flt.arriving ++ [Src.ENG_OVR] ∧ t.str = s.str ∧ t.mem = s.mem) ∧
  (∀ w r, s.runs → s.inWindow = false → (s.engine e).queue = w :: r → (s.engine e).cyc % 16 = e % 16 →
    (s.engine e).lastDrain ≠ some (s.engine e).cyc → s.lp.ramps = [] → s.bypassKnots w.slot = [] →
    Answers (.strandQueueDrain e) s fun t =>
      (t.engine e).queue = r ∧ t.str.cur = s.str.cur ∧
      ((s.slotDef w.slot).cls = .engine ∧ (s.slotDef w.slot).engine = e → t.str.nxt = sset {} w.slot ⟨w.sample, w.tag, true⟩ s.str.nxt) ∧
      (¬((s.slotDef w.slot).cls = .engine ∧ (s.slotDef w.slot).engine = e) →
        t.str = s.str ∧ t.on (Reg.ENG_STATUS.SWR_REFUSED e) = true)) ∧
  (∀ c q, s.runs → s.nextBank e = some c → Earliest s c → c.move = .write q →
    Answers (.coilBankAccess e) s fun t =>
      (c.scheduled = true → Unopposed s c →
        t.quad c.quad = q ∧ ∀ a, (a < coilBase + 16 * c.quad ∨ coilBase + 16 * c.quad + 16 ≤ a) → t.byte a = s.byte a) ∧
      (c.scheduled = false ∨ PortLost s c → t.mem = s.mem ∧ t.on (Reg.ENG_STATUS.COIL_NOSLOT c.engine) = true)) ∧
  (∀ c d, s.runs → s.nextBank e = some c → Earliest s c → c.move = .read d → s.eccMark (.coil c.quad) = none →
    Answers (.coilBankAccess e) s fun t => t.mem = s.mem ∧
      (c.scheduled = true → Unopposed s c → { c with data := some (s.quad c.quad) } ∈ t.coil.inFlight) ∧
      (c.scheduled = false ∨ PortLost s c →
        { c with data := some 0 } ∈ t.coil.inFlight ∧ t.on (Reg.ENG_STATUS.COIL_NOSLOT c.engine) = true)) ∧
  (∀ c q v, s.runs → s.nextDelivery e = some c → (s.engine e).fly = [] →
    (∀ a ∈ s.coil.inFlight, a.engine = e → a.issued ≤ c.issued → a = c) → s.coil.inFlight.Nodup →
    c.move = .read (.dquad q) → c.data = some v →
    Answers (.coilReadDelivery e) s fun t =>
      (∀ i, i < 4 → (t.engine e).dreg (4 * q + i) = ⟨v.extractLsb' (32 * i) 32, 0⟩) ∧
      (∀ i, (i < 4 * q ∨ 4 * q + 4 ≤ i) → (t.engine e).dreg i = (s.engine e).dreg i) ∧ c ∉ t.coil.inFlight ∧ t.mem = s.mem)

/-- Parameter pages and engine windows (03 R61-R63, 05 R108, R121). -/
def Obligations.ParameterPagesAndWindows : Prop := ∀ (e : Fin 192) (w : Fin 512) (k : Fin 262144) (v : Word) (s : State),
  (s.alone → Answers (.shadowPageWrite e w v) s fun t =>
    t.shadowWord e w = v ∧ t.livePage = s.livePage ∧
    ∀ a, (a < xyAddr e false w ∨ xyAddr e false w + 4 ≤ a) → t.byte a = s.byte a) ∧
  (s.alone → Answers (.engineWindowWrite e k v) s fun t =>
    (4 * k.val < 0x800 → t.shadowWord e k = v ∧ t.livePage = s.livePage) ∧
    (0x800 ≤ 4 * k.val → 4 * k.val < 0x30000 → t.xyWord e false k = v) ∧
    (0x40000 ≤ 4 * k.val → 4 * k.val < 0x70000 → t.xyWord e true (k.val - 0x10000) = v) ∧
    (0x80000 ≤ 4 * k.val → 4 * k.val < 0x90000 →
      ((4 * k.val - 0x80000) / 0x8000 ≠ s.liveBank ∨ s.engRuns e = false → t.load (engineBase e + 4 * k.val) 4 = v.toNat) ∧
      ((4 * k.val - 0x80000) / 0x8000 = s.liveBank → s.engRuns e = true → t.mem = s.mem ∧ t.bus.err = true)) ∧
    (∀ a, (a < engineBase e + 4 * k.val ∨ engineBase e + 4 * k.val + 4 ≤ a) → t.byte a = s.byte a) ∧
    (0x90000 ≤ 4 * k.val → t = s)) ∧
  (s.alone → v.getLsbD 0 = true → Answers (.pcommit e v) s fun t =>
    (t.engine e).pcommit = true ∧ t.on (Reg.ENG_CTRL.PCOMMIT e) = true ∧ t.livePage = s.livePage) ∧
  (s.runs → s.copyArmed e = true → s.inWindow = false → (s.engine e).issuing = false → Answers (.paramCopy e) s fun t =>
    (∀ i, i < 512 → t.xyWord e false i = s.shadowWord e i) ∧ t.mem = s.mem ∧ (t.engine e).pcommit = false ∧
    t.on (Reg.ENG_CTRL.PCOMMIT e) = false) ∧
  (s.alone → v.getLsbD 0 = true → s.on Reg.ENG_PCM_GO.GO = false → Answers (.pcmGo v) s fun t =>
    t.on Reg.ENG_PCM_GO.GO = true ∧ ∀ i, i < 192 → (t.engine i).copying =
      ((s.engine i).copying || decide (s.rd (Reg.ENG_PCM.MASK (i / 32)) / 2 ^ (i % 32) % 2 = 1))) ∧
  (s.alone → v.getLsbD 1 = true → s.rd (Reg.ENG_STATUS.STATE e) = 0 → Answers (.engineReload e v) s fun t =>
    t.rd (Reg.ENG_STATUS.STATE e) = 1 ∧ t.on (Reg.ENG_CTRL.RELOAD e) = true ∧
    (t.engine e).d = [] ∧ (t.engine e).acc = [] ∧ (t.engine e).issuing = false ∧ (∀ i, i ≠ e.val → t.engine i = s.engine i)) ∧
  (s.runs → s.rd (Reg.ENG_STATUS.STATE e) = 1 → Answers (.reloadDone e) s fun t => e.val ∈ t.lp.reloaded)

/-- Lay-plan loads and switches (05 R104, R116-R122). -/
def Obligations.LayPlanLoadsAndSwitches : Prop := ∀ (v : Word) (plan : LayPlan) (ok : Bool) (kid : Nat) (s : State),
  (s.alone → v.toNat % 8 = 1 → v.toNat / 8 % 4 ≤ 2 → s.lp.loading = false → s.lp.armed = none → s.rampRuns s.tick = false →
    Answers (.lpLoad v plan) s fun t =>
      t.lp.loading = true ∧ t.lp.incoming = some plan ∧ t.on Reg.ENG_LP_CTRL.LOAD = true ∧ t.rd Reg.ENG_LP_STATUS.OTHER = 1 ∧
      t.rd Reg.ENG_LP_STATUS.LOADPCT = 0) ∧
  (s.runs → s.lp.loading = true → s.lp.incoming = some plan → Answers (.lpLoadDone ok) s fun t =>
    (ok = true → t.rd Reg.ENG_LP_STATUS.OTHER = 2 ∧ t.rd Reg.ENG_LP_STATUS.LOADPCT = 100) ∧
    (ok = false → t.rd Reg.ENG_LP_STATUS.OTHER = 3 ∧ t.lp.loading = false)) ∧
  (s.alone → v.toNat % 8 = 2 → v.toNat / 8 % 4 = 0 → s.lp.armed = none → Answers (.lpArm v) s fun t =>
    (s.lpReason false = 0 → t.lp.armed = some (.tick (s.tick + 2)) ∧ t.on Reg.ENG_LP_STATUS.ARMED = true) ∧
    (s.rd Reg.ENG_LP_STATUS.OTHER < 2 → t.lp.armed = none ∧ t.on Reg.ENG_LP_STATUS.ARMED = false ∧
      t.on Reg.ENG_LP_STATUS.REFUSED = true ∧ t.rd Reg.ENG_LP_STATUS.REASON = 1) ∧
    (∀ e, e < 192 → s.on (Reg.ENG_STATUS.OTHER_BAD e) = true → 2 ≤ s.rd Reg.ENG_LP_STATUS.OTHER →
      t.lp.armed = none ∧ t.on Reg.ENG_LP_STATUS.REFUSED = true ∧ t.rd Reg.ENG_LP_STATUS.REASON = 2)) ∧
  (s.alone → v.toNat % 8 = 4 → v.toNat / 8 % 4 ≤ 2 → s.lp.armed.isSome = true → Answers (.lpDisarm v) s fun t =>
    t.lp.armed = none ∧ t.on Reg.ENG_LP_STATUS.ARMED = false ∧ t.rd Reg.ENG_LP_STATUS.LIVE = s.rd Reg.ENG_LP_STATUS.LIVE) ∧
  (s.runs → s.inWindow = true → s.rampRuns (s.tick + 1) = true → Answers .lpRampOutStart s fun t =>
    t.on Reg.ENG_LP_STATUS.RAMPING = true ∧ t.lp = s.lp) ∧
  (s.runs → s.inWindow = true → s.lp.armed = some (.tick (s.tick + 1)) → Answers .lpSwitch s fun t =>
    t.lp.armed = none ∧ t.on Reg.ENG_LP_STATUS.ARMED = false ∧
    (s.lpReason false = 0 → s.liveBank ≤ 1 → t.liveBank = 1 - s.liveBank ∧ t.rd Reg.ENG_LP_STATUS.OTHER = 1 ∧
      t.rd Reg.ENG_LP_LAST_LO.TICK = (s.tick + 1) % 2 ^ 32) ∧
    (s.lpReason false ≠ 0 → t.liveBank = s.liveBank ∧ t.on Reg.ENG_LP_STATUS.REFUSED = true ∧
      t.rd Reg.ENG_LP_STATUS.REASON = s.lpReason false % 16)) ∧
  (s.runs → s.inWindow = true → Answers .lpRampInEnd s fun t =>
    ∀ p ∈ t.lp.ramps, ∀ r ∈ p.2, s.tick + 1 < r.first + r.len) ∧
  (s.runs → s.lp.refresh = true → Answers .lpRefreshDone s fun t =>
    t.lp.refresh = false ∧ t.rd Reg.ENG_LP_STATUS.OTHER = 2 ∧ t.liveBank = s.liveBank) ∧
  (∀ x, s.runs → s.inWindow = true → sfind kid s.lp.xfade = some x → x.left ≤ 1 → Answers (.bypassXfadeEnd kid) s fun t =>
    sfind kid t.lp.xfade = none ∧ t = { s with lp := t.lp })

/-- The exchange of the banks (02 R20). -/
def Obligations.BanksExchangeAtTheBoundary : Prop := ∀ (t : Nat) (s : State), s.str.late = [] →
  (s.exchange t).str.cur = s.str.nxt ∧ (s.exchange t).str.nxt = [] ∧ (s.exchange t).tick = t ∧
  (s.exchange t).inWindow = false ∧ (s.exchange t).mem = s.mem ∧
  (∀ e, ((s.exchange t).engine e).d = (s.engine e).d ∧ ((s.exchange t).engine e).acc = (s.engine e).acc ∧
    ((s.exchange t).engine e).agu = (s.engine e).agu ∧ ((s.exchange t).engine e).flags = (s.engine e).flags) ∧
  (s.exchange t).str.ingress = s.str.ingress ∧ (s.exchange t).str.egress = s.str.egress ∧
  (∀ q : FieldRef, q.key ≠ Reg.STR_STATUS.SUBST_SLOTS.key →
    (∀ e, e < 192 → q.key ≠ (Reg.ENG_WAITCYC.LAST e).key ∧ q.key ≠ (Reg.ENG_WAITCYC.PEAK e).key) →
    (s.exchange t).rd q = s.rd q)

/-- The order of what falls on a tick boundary (02 R32, 14 R312) and in the exchange window (05 R113). -/
def Obligations.TickBoundaryOrder : Prop := ∀ (x : TickIn) (sc : Nat) (s : State), s.runs →
  (s.relockDue = false → Answers (.tickBoundary x) s fun t =>
    let a := ((if s.inWindow then s else s.openWindow).selfTest x.patternBad).netSendAll.netEndTick.braidsEnd
    let b := ((x.upsets.foldl State.upset (a.exchange (a.tick + 1))).timeTick x.sc).resolveAll
    let c := (b.pairBoundary b.tick x.peerActive).planTick.shownTick
    let d := c.recordsTick.configTick.dueTick
    t = x.prbs.foldl State.prbsTick (d.ingressTick fun n => x.bits.getD n []).egressTick) ∧
  (s.inWindow = false → Answers .exchangeWindow s fun t => t.inWindow = true ∧
    t = { ((List.range 192).foldl State.engineEnd (s.overruns.banks fun _ => true)).mtxPass.copyPages.scrubs.fillNext.copyWhips.whipsDc.pairWindow with
      inWindow := true }) ∧
  (s.relockDue = true → exec (.tickBoundary x) s = .next ((s.endTick x.patternBad).relock x.sc) ∧
    exec (.relockStart sc) s = .next ((s.endTick false).relock sc))

namespace Sys2Proof.Claims

/-- A word is within the ranges that a write of the register at an address admits (00 R435). -/
def Admitted (a : Nat) (v : Word) : Prop := ∃ fs, fieldsAt a = some fs ∧ admitsAll fs v = true

end Sys2Proof.Claims

/-- The strand store window (02 R22-R24). -/
def Obligations.StrandWindowAndHold : Prop :=
  ∀ (n : Fin 8192) (part : Fin 3) (sample tag : Option Word) (s : State),
  (s.held = false → s.eccMark (.strand n) = none → Answers (.strandWindowRead n part) s fun t =>
    let x := s.curSlot n
    let w := x.tag.toNat + 16 * x.written.toNat
    t.bus.data = [x.sample.toNat, w, x.sample.toNat + 2 ^ 32 * w].getD part.val 0 ∧ t.bus.err = false ∧
    t = { s with bus := t.bus }) ∧
  (∀ m, s.held = false → s.eccMark (.strand n) = some m → m.double = true → Answers (.strandWindowRead n part) s fun t =>
    t.bus.data = [0, 2, 2 ^ 33].getD part.val 0 ∧ t.bus.err = false ∧ t.str = s.str ∧
    (m.seen = false → Raised t Src.STR_ECC ∧ t.on Reg.STR_STATUS.ECC_DBE = true)) ∧
  (s.alone → s.inWindow = false → s.on Reg.STR_CTRL.HOSTWR_EN = true → (s.slotDef n).cls = .host →
    (sample.isSome = true ∨ tag.isSome = true) → n.val ∉ s.str.hostFresh →
    s.eccMark (.strand n) = none → Answers (.strandWindowWrite n sample tag) s fun t =>
    let old := s.curSlot n
    t.str.nxt = sset {} n.val ⟨sample.getD old.sample, (tag.map fun w => w.setWidth 4).getD old.tag,
      old.written || sample.isSome⟩ s.str.nxt ∧ t.str.cur = s.str.cur ∧ t.regs = s.regs) ∧
  (s.alone → (s.on Reg.STR_CTRL.HOSTWR_EN = false ∨ (s.slotDef n).cls ≠ .host ∨ (sample = none ∧ tag = none)) → Answers (.strandWindowWrite n sample tag) s fun t =>
    t.str = s.str ∧ t.mem = s.mem ∧ t.bus.err = true ∧ t.on Reg.STR_STATUS.HOSTWR_ERR = true) ∧
  (s.runs → s.rd Reg.STR_CTRL.HOLDMAX < sget 0 n.val s.str.missing → (s.curSlot n).written = false →
    Answers (.holdLimitReached n) s fun t =>
      t.curSlot n = { s.curSlot n with sample := 0 } ∧ (∀ k, k ≠ n.val → t.curSlot k = s.curSlot k) ∧ t.regs = s.regs)

/-- The hitch tables and their changes (02 R28-R42, 10 R212). -/
def Obligations.HitchChangesQueueAndCommit : Prop := ∀ (v prev : Word) (eg : Bool) (h : Fin 8192) (s : State),
  (s.alone → s.str.queue.length < 256 → Answers (.hitW1Queue v) s fun t =>
    (∃ c : HitChange, t.str.queue = s.str.queue ++ [c] ∧ c.egress = s.on Reg.STR_HIT_SEL.TABLE ∧
      c.index = s.rd Reg.STR_HIT_SEL.INDEX ∧ c.w0 = s.str.stagedW0 ∧
      c.w1 = (if s.on Reg.STR_HIT_SEL.TABLE then v else v &&& 0x3FFFFFFF#32)) ∧
    t.rd Reg.STR_HIT_QSTAT.DEPTH = s.str.queue.length + 1 ∧ t.str.ingress = s.str.ingress ∧ t.str.egress = s.str.egress) ∧
  (s.alone → 256 ≤ s.str.queue.length → Answers (.hitW1Queue v) s fun t =>
    t.str = s.str ∧ t.on Reg.STR_HIT_QSTAT.OVF = true) ∧
  (s.alone → v.getLsbD 0 = true → s.str.armed = none → Answers (.hitCommit v) s fun t =>
    t.str.armed = some (if s.inWindow then s.tick + 2 else s.tick + 1) ∧ t.on Reg.STR_HIT_COMMIT.COMMIT = true ∧
    t.str.queue = s.str.queue) ∧
  (s.alone → v.getLsbD 0 = false → v.getLsbD 1 = true → Answers (.hitDiscard v) s fun t =>
    (s.str.armed = none → t.str.queue = [] ∧ t.rd Reg.STR_HIT_QSTAT.DEPTH = 0) ∧
    (s.str.armed ≠ none → t.str.queue = s.str.queue)) ∧
  (s.runs → s.str.armed = some (s.tick + 1) → Answers .hitApply s fun t =>
    let take := s.str.queue.filter fun c => !c.late
    let new := take.foldl HitchTables.change (s.str.ingress, s.str.egress)
    let left := s.str.queue.filter fun c => c.late
    let u := (State.wr { s with str := { s.str with queue := left, armed := s.str.armed2, armed2 := none } }
      Reg.STR_HIT_QSTAT.DEPTH left.length).put Reg.STR_HIT_COMMIT.COMMIT s.str.armed2.isSome
    t.str.queue = s.str.queue.filter (fun c => c.late) ∧ t.str.armed = s.str.armed2 ∧
    ((∀ c ∈ take, u.hitchReason new c.egress (sget {} c.index (new.get c.egress)) = 0) →
      t.str.ingress = new.1 ∧ t.str.egress = new.2) ∧
    ((∃ c ∈ take, u.hitchReason new c.egress (sget {} c.index (new.get c.egress)) ≠ 0) →
      t.str.ingress = s.str.ingress ∧ t.str.egress = s.str.egress ∧ t.on Reg.STR_STATUS.HIT_REFUSED = true ∧
      Raised t Src.CTL_REFUSED ∧ t.rd Reg.STR_HIT_QSTAT.REASON ≠ 0 ∧ 0 < t.rd Reg.STR_HIT_QSTAT.REFUSED) ∧
    (t.on Reg.STR_STATUS.HIT_REFUSED = true → s.on Reg.STR_STATUS.HIT_REFUSED = false →
      t.str.ingress = s.str.ingress ∧ t.str.egress = s.str.egress ∧ Raised t Src.CTL_REFUSED)) ∧
  (s.runs → Answers (.hitchRampDone eg h) s fun t =>
    ((s.hitchRun eg h).mute = .down 15 → (t.hitchRun eg h).mute = .muted) ∧
    ((s.hitchRun eg h).mute = .up 15 → (t.hitchRun eg h).mute = .full) ∧ t.regs = s.regs) ∧
  (s.runs → (s.hitchRun false h).waits = true →
    (prev.msb ≠ (s.hitchRun false h).lastIn.msb ∨
      (s.hitchRun false h).lastIn.toInt.natAbs ≤ s.rd (Reg.SAP_ZC.THR (sget {} h.val s.str.ingress).port) * 256) →
    Answers (.hitchZcCrossing h prev) s fun t => (t.hitchRun false h).zc = true ∧ t.regs = s.regs) ∧
  (∀ dn w, s.runs → (s.hitchRun false h).mute = .waitZc dn w →
    s.rd (Reg.SAP_ZC.TIMEOUT (sget {} h.val s.str.ingress).port) ≤ w + 1 →
    Answers (.hitchZcTimeout h) s fun t => (t.hitchRun false h).zc = true ∧ t.regs = s.regs) ∧
  (s.runs → (s.hitchRun false h).unsettledTo ≤ s.tick + 1 → Answers (.tetherUnsettledEnd h) s fun t =>
    t.hitchRun false h = { s.hitchRun false h with unsettledTo := 0 } ∧ t.regs = s.regs)

/-- Braids (02 R35-R39). -/
def Obligations.BraidsArmStartStopRejoin : Prop := ∀ (b : Fin 64) (v : Word) (falling : Bool) (s : State),
  (s.alone → Admitted (0x81000 + b.val * 0x20) v → v.getLsbD 7 = true → v.getLsbD 8 = false → s.braidState b = 0 →
    (∀ m ∈ s.members b, m.2.2.iftype ≠ 5) → Answers (.braidArm b v) s fun t =>
    ((Reg.STR_BRD_CTRL.TRIGSRC b).part v = 0 → (t.braid b).armed = some (.tick (s.tick + 2)) ∧ t.braidState b = 1 ∧
      t.on (Reg.STR_BRD_CTRL.ARM b) = true) ∧
    ((Reg.STR_BRD_CTRL.TRIGSRC b).part v = 1 → (t.braid b).armed = some .edge ∧ t.braidState b = 1)) ∧
  (s.alone → Admitted (0x81000 + b.val * 0x20) v → v.getLsbD 7 = false → v.getLsbD 8 = true → Answers (.braidStop b v) s fun t =>
    (s.braidState b = 2 → (s.braid b).stopAt = none → t.braidState b = 2 ∧ (t.braid b).stopAt = some (s.tick + 1) ∧
      (t.braid b).stopDone = max (s.tick + 1) (s.braid b).rampEnd + 16) ∧
    (s.braidState b = 1 → t.braidState b = 0 ∧ (t.braid b).armed = none ∧ t.on (Reg.STR_BRD_CTRL.ARM b) = false) ∧
    (s.braidState b = 0 → t.braidState b = 0 ∧ t.braid b = s.braid b)) ∧
  (s.runs → Answers (.startInEdge falling) s fun t => t.regs = s.regs ∧ ∀ k, k < 64 →
    (s.braidState k = 1 ∧ (s.braid k).armed = some .edge ∧ s.on (Reg.STR_BRD_CTRL.EDGE k) = falling →
      (t.braid k).armed = some (.tick (if s.inWindow then s.tick + 3 else s.tick + 2))) ∧
    (¬(s.braidState k = 1 ∧ (s.braid k).armed = some .edge ∧ s.on (Reg.STR_BRD_CTRL.EDGE k) = falling) →
      t.braid k = s.braid k)) ∧
  (s.runs → s.braidState b = 1 → (s.braid b).armed = some (.tick (s.tick + 1)) → Answers (.braidStart b) s fun t =>
    t.braidState b = 2 ∧ t.on (Reg.STR_BRD_CTRL.ARM b) = false ∧ (t.braid b).start = s.tick + 1 ∧
    t.rd (Reg.STR_BRD_START_LO.START b) = (s.tick + 1) % 2 ^ 32 ∧
    (∀ m ∈ s.members b, (t.hitchRun m.1 m.2.1).frame = 0 ∧ (t.hitchRun m.1 m.2.1).join = s.tick + 1) ∧
    t.str.ingress = s.str.ingress ∧ t.str.egress = s.str.egress ∧ t.str.cur = s.str.cur) ∧
  (s.runs → s.braidState b = 3 → (s.braid b).rejoin = some (s.tick + 1) → Answers (.braidRejoin b) s fun t =>
    t.braidState b = 2 ∧ (t.braid b).rejoin = none ∧ (∀ m ∈ s.members b, (t.hitchRun m.1 m.2.1).lockMute = false) ∧
    t.str.cur = s.str.cur)

namespace Sys2Proof.Claims

/-- Only column `c` of the matrix may differ. -/
def ColOnly (s t : State) (c : Nat) : Prop :=
  (∀ k, k ≠ c → t.col k = s.col k) ∧ t.regs = s.regs ∧ t.mem = s.mem ∧ t.str = s.str ∧
  t.mtx = { s.mtx with cols := t.mtx.cols }

/-- Only row `r` of the matrix may differ. -/
def RowOnly (s t : State) (r : Nat) : Prop :=
  (∀ k, k ≠ r → t.row k = s.row k) ∧ t.regs = s.regs ∧ t.mem = s.mem ∧ t.str = s.str ∧
  t.mtx = { s.mtx with rows := t.mtx.rows }

/-- In the exchange window, column `c` changes as `h` says and is not damaged. -/
def Changing (s : State) (c : Nat) (h : ColChange) : Prop :=
  s.runs ∧ s.inWindow = true ∧ (s.col c).damaged = false ∧ (s.col c).change = some h

end Sys2Proof.Claims

/-- Rows and change lists of the matrix (06 R126, R131, R132). -/
def Obligations.MatrixBindingsAndLists : Prop := ∀ (v : Word) (r : Fin 2304) (s : State),
  (s.alone → s.rowBusy (s.rd Reg.MTX_ROW_SEL.INDEX) = false → Answers (.rowBindWrite v) s fun t =>
    let i := s.rd Reg.MTX_ROW_SEL.INDEX
    (t.row i).staged = some { (s.row i).shown with slot := v.toNat % 2 ^ 13, valid := v.getLsbD 31 } ∧
    (t.row i).live = (s.row i).live ∧ RowOnly s t i) ∧
  (s.alone → s.rowBusy (s.rd Reg.MTX_ROW_SEL.INDEX) = true → Answers (.rowBindWrite v) s fun t =>
    t.mtx = s.mtx ∧ t.mem = s.mem ∧ t.bus.err = true ∧ t.on Reg.MTX_STATUS.ROW_BUSY = true ∧ Raised t Src.CTL_REFUSED) ∧
  (s.alone → s.mtx.openList.length < 4096 → Answers (.clAppend v) s fun t =>
    t.mtx = { s.mtx with openList := s.mtx.openList ++ [⟨s.mtx.clW0, v⟩] } ∧
    t.rd Reg.MTX_CL_COUNT.COUNT = s.mtx.openList.length + 1) ∧
  (s.alone → 4096 ≤ s.mtx.openList.length → Answers (.clAppend v) s fun t =>
    t.mtx = s.mtx ∧ t.on Reg.MTX_STATUS.CL_OVF = true) ∧
  (s.alone → v.getLsbD 0 = false → v.getLsbD 1 = true → Answers (.clDiscard v) s fun t =>
    t.mtx = { s.mtx with openList := [] } ∧ t.rd Reg.MTX_CL_COUNT.COUNT = 0) ∧
  (∀ g, s.alone → v.getLsbD 0 = true → v.getLsbD 1 = false → s.commitReason = 0 → s.commitTrigger = .wait g →
    Answers (.mtxCommit v) s fun t =>
      (∃ c, sfind s.mtx.nextSeq t.mtx.commits = some c ∧ c.state = 1 ∧ c.entries = s.mtx.openList ∧
        c.len = s.rd Reg.MTX_CM_CTRL.LEN ∧ c.equalPower = s.on Reg.MTX_CM_CTRL.LAW ∧ c.preempt = s.on Reg.MTX_CM_CTRL.PREEMPT ∧
        c.zc = s.on Reg.MTX_CM_CTRL.ZC ∧ c.timeout = s.rd Reg.MTX_CM_ZC.TIMEOUT ∧ c.thr = s.rd Reg.MTX_CM_ZC.THR ∧
        c.trig = g ∧ c.refused = 0) ∧
      (∀ n, n ≠ s.mtx.nextSeq → sfind n t.mtx.commits = sfind n s.mtx.commits) ∧
      t.mtx.openList = [] ∧ t.mtx.cols = s.mtx.cols ∧ t.mtx.rows = s.mtx.rows ∧ t.mem = s.mem ∧
      t.rd Reg.MTX_CM_LAST.ID = s.mtx.nextSeq % 16 ∧ t.on Reg.MTX_CM_LAST.REFUSED = false) ∧
  (s.alone → v.getLsbD 0 = true → v.getLsbD 1 = false → s.commitReason ≠ 0 → Answers (.mtxCommit v) s fun t =>
    t.mtx = s.mtx ∧ t.mem = s.mem ∧ t.on Reg.MTX_CM_LAST.REFUSED = true ∧
    t.rd Reg.MTX_CM_LAST.REASON = s.commitReason ∧ t.on Reg.MTX_STATUS.CM_REFUSED = true ∧ Raised t Src.CTL_REFUSED) ∧
  (∀ n, s.runs → s.inWindow = true → (s.row r).staged = some n → Answers (.rowBindApply r) s fun t =>
    (t.row r).live = n ∧ (t.row r).staged = none ∧
    ((n.slot ≠ (s.row r).live.slot ∨ n.valid ≠ (s.row r).live.valid) → (t.row r).gateNext = false) ∧ RowOnly s t r)

/-- Column changes (06 R133-R139). -/
def Obligations.MatrixChangesRunTheirPhases : Prop := ∀ (id : Fin 16) (c : Fin 2304) (s : State),
  (∀ n k b, s.runs → s.inWindow = true → (s.mtx.commits.filter fun p => decide (p.1 % 16 = id.val)).map (·.1) = [n] →
    sfind n s.mtx.commits = some k → k.trig = .tick b → s.mayStart n (s.tick + 1) k = true →
    (∀ i, (s.col i).change = none ∧ (s.col i).damaged = false ∧ (s.col i).faulted = false) →
    (∀ i ∈ k.columns, s.planOff i = false) →
    (∀ e ∈ k.entries, (s.col e.column).nom = true → e.op ≠ 1) →
    Answers (.commitStart id) s fun t =>
      sfind n t.mtx.commits = some { k with
        state := 2, delayed := decide (b < s.tick + 1), started := if k.zc then k.started else some (s.tick + 1) } ∧
      (∀ i ∈ k.columns, t.col i = { s.col i with
        commitId := n % 16
        change := some {
          new := (k.entries.filter fun e => decide (e.column = i)).foldl ColList.change (s.col i).live
          phase := if k.zc then .waitZc else .start, t0 := s.tick + 1, len := k.len, equalPower := k.equalPower
          zc := k.zc, thr := k.thr, timeout := k.timeout, commit := some n } }) ∧
      (∀ i, i ∉ k.columns → t.col i = s.col i) ∧ t.regs = s.regs ∧ t.mem = s.mem) ∧
  (∀ h, Changing s c h → h.phase = .waitZc → h.cross = true → Answers (.spliceZcStart c) s fun t =>
    (t.col c).change = some { h with phase := .start, t0 := s.tick + 1, cross := false } ∧
    (t.col c).live = (s.col c).live ∧ ColOnly s t c) ∧
  (∀ h, Changing s c h → h.phase = .waitZc → h.cross = false → h.t0 + h.timeout ≤ s.tick + 1 →
    Answers (.spliceZcTimeout c) s fun t =>
      (t.col c).change = some { h with phase := .start, t0 := s.tick + 1, cross := false } ∧
      (t.col c).live = (s.col c).live ∧ ColOnly s t c) ∧
  (∀ h, Changing s c h → h.phase = .splice → h.t0 + h.len ≤ s.tick + 1 → Answers (.spliceEnd c) s fun t =>
    (h.toOff = false → t.col c = { s.col c with live := h.new, change := none, result := 1, cutTick := false }) ∧
    (h.toOff = true → (t.col c).live = .off ∧ (t.col c).change = none ∧ (t.col c).result = 1) ∧ ColOnly s t c) ∧
  (∀ h, Changing s c h → h.phase = .waitCut → h.cross = true → h.toOff = false → Answers (.cutZc c) s fun t =>
    t.col c = { s.col c with live := h.new, change := none, result := 2, cutTick := true } ∧ ColOnly s t c) ∧
  (∀ h, Changing s c h → h.phase = .waitCut → h.cross = false → h.t0 + h.timeout ≤ s.tick + 1 →
    Answers (.cutDipStart c) s fun t =>
      t.col c = { s.col c with change := some { h with phase := .dip, t0 := s.tick + 1, cross := false } } ∧ ColOnly s t c) ∧
  (∀ h, Changing s c h → h.phase = .dip → h.t0 + 32 ≤ s.tick + 1 → h.toOff = false → Answers (.dipEnd c) s fun t =>
    t.col c = { s.col c with live := h.new, change := none, result := 3, cutTick := false } ∧ ColOnly s t c)

/-- NOM (06 R140, R142). -/
def Obligations.NomGatesAndRamps : Prop := ∀ (r : Fin 2304) (u : Fin 256) (s : State), s.runs → s.inWindow = true →
  (Answers (.nomGateClose r) s fun t =>
    ((s.row r).gateNext = true → max 1 (s.row r).live.hold ≤ (s.row r).quiet →
      t.row r = { s.row r with gateNext := false }) ∧
    (((s.row r).gateNext = false ∨ (s.row r).quiet < max 1 (s.row r).live.hold) → t.row r = s.row r) ∧ RowOnly s t r) ∧
  (Answers (.nomRampEnd u) s fun t =>
    let x := sget {} u.val s.mtx.nom
    let y := sget {} u.val t.mtx.nom
    (x.ramping = true → s.rd (Reg.MTX_NOM_CTRL.RAMP u) ≤ x.j → y = { x with ramping := false, g := x.target }) ∧
    ((x.ramping = false ∨ x.j < s.rd (Reg.MTX_NOM_CTRL.RAMP u)) → t = s) ∧
    (∀ k, k ≠ u.val → sget {} k t.mtx.nom = sget {} k s.mtx.nom) ∧ t.regs = s.regs ∧ t.mem = s.mem)

/-- Whipping and side-tone (06 R143-R148). -/
def Obligations.WhippingStages : Prop := ∀ (v : Word) (i : Fin 2304) (m : Fin 64) (j : Fin 4) (s : State),
  (s.alone → v.getLsbD 0 = true → Answers (.whipCommit v) s fun t =>
    t.on Reg.EGR_WCOMMIT.COMMIT = true ∧ t = { s with regs := t.regs } ∧
    ∀ q : FieldRef, q.key ≠ Reg.EGR_WCOMMIT.COMMIT.key → t.rd q = s.rd q) ∧
  (s.runs → s.inWindow = false → s.on Reg.EGR_WCOMMIT.COMMIT = true → Answers .whipApply s fun t =>
    t.on Reg.EGR_WCOMMIT.COMMIT = false ∧ t.str = s.str ∧ t.mem = s.mem ∧
    (∀ k c, (s.whip k).staged = some c → t.whip k = { s.whip k with live := c, staged := none, dcWant := false }) ∧
    (∀ k, (s.whip k).staged = none → t.whip k = s.whip k)) ∧
  (s.runs → s.inWindow = false → s.on Reg.EGR_WCOMMIT.COMMIT = false → Answers .whipApply s fun t => t = s) ∧
  (∀ n, s.runs → (s.whip i).phase = .waitZc n true → Answers (.whipZcChange i) s fun t =>
    t.whip i = { s.whip i with phase := .rest, curGain := (s.whip i).toGain, curMute := (s.whip i).toMute } ∧
    (∀ k, k ≠ i.val → t.whip k = s.whip k) ∧ t = { s with egr := t.egr }) ∧
  (∀ n, s.runs → (s.whip i).phase = .waitZc n false → (s.whip i).live.zcto ≤ n → Answers (.whipZcTimeout i) s fun t =>
    t.whip i = { s.whip i with phase := .ramp 0 } ∧ (∀ k, k ≠ i.val → t.whip k = s.whip k) ∧ t = { s with egr := t.egr }) ∧
  (∀ n, s.runs → (s.whip i).phase = .ramp n → 16 ≤ n → Answers (.whipRampEnd i) s fun t =>
    t.whip i = { s.whip i with phase := .rest, curGain := (s.whip i).toGain, curMute := (s.whip i).toMute } ∧
    (∀ k, k ≠ i.val → t.whip k = s.whip k) ∧ t = { s with egr := t.egr }) ∧
  (s.runs → (s.whip i).live.dcEn = true → max 1 (s.whip i).live.dctime ≤ (s.whip i).dcRun → (s.whip i).dc = false →
    Answers (.whipDcFault i) s fun t =>
      (t.whip i).dc = true ∧ (t.whip i).dcWant = ((s.whip i).dcWant || (s.whip i).live.dcMute) ∧
      t.on (Reg.FLT_SRC.ACTIVE Src.EGR_DC) = true ∧ Raised t Src.EGR_DC ∧
      (∀ k, k ≠ i.val → t.whip k = s.whip k) ∧ t.str = s.str ∧ t.mem = s.mem) ∧
  (s.runs → (sget {} (m.val * 4 + j.val) s.egr.st).k = 15 → Answers (.sidetoneGainRampEnd m j) s fun t =>
    let x := sget {} (m.val * 4 + j.val) t.egr.st
    x.cur = x.goal ∧ x.k = 16 ∧ x.goal = (sget {} (m.val * 4 + j.val) s.egr.st).goal ∧
    (∀ n, n ≠ m.val * 4 + j.val → sget {} n t.egr.st = sget {} n s.egr.st) ∧ t = { s with egr := t.egr })

/-- The samples of a whipping stage (06 R143, R144). -/
def Obligations.WhippingArithmetic : Prop := ∀ (i : Nat) (v : Word) (g : Tag) (x : Whip) (s : State),
  (s.whip i = x → x.phase = .rest → x.live.gain = x.curGain → x.live.mute = x.curMute → x.live.limEn = false →
    x.live.dcEn = false → x.dcForced = .full → x.dcWant = false → s.egr.out = .full →
    (x.curMute = false → (s.runWhip i none v g).1 = scaleSample v (sval x.curGain) (2 ^ 27) ∧ (s.runWhip i none v g).2.1 = g) ∧
    (x.curMute = true → (s.runWhip i none v g).1 = 0 ∧ (s.runWhip i none v g).2.1 = g ||| 0b1000)) ∧
  (∀ k, x.phase = .ramp k →
    x.gain = sval x.curGain + roundNearest ((sval x.toGain - sval x.curGain) * (k + 1)) 16) ∧
  (∀ n, x.r ≤ 2147483647 → (n < x.r → (x.limit n).r = n) ∧
    (x.r ≤ n → (x.limit n).r = x.r + (2147483647 - x.r) / 2 ^ x.live.rshift ∧ (x.limit n).r ≤ 2147483647))

namespace Sys2Proof.Claims

/-- The core is held in reset: the clocks derived from RCLK stand, drive pins are in their reset states and FAULT_N is
low for 128 ECLK at least; memory and the strand store are as before. -/
def Held (s t : State) : Prop :=
  t.held = true ∧ t.rclk = false ∧ t.on Reg.CLK_STATUS.ROOT_LOCK = false ∧ t.flt.faultLow = true ∧ t.flt.holding = true ∧
  (∀ n, (t.ampCh n).drive = .low ∧ (t.ampCh n).pse = false ∧ (t.ampCh n).rly = false) ∧
  t.mem = s.mem ∧ t.livePage = s.livePage ∧ t.str = s.str ∧ t.eng = s.eng

/-- A cold start is in its step 1 (17 R376): flash and memories are as before, the blocks at their reset values. -/
def ColdBegun (s t : State) : Prop :=
  t.held = false ∧ t.rclk = false ∧ t.chipState = 2 ∧ t.startStep = 1 ∧ t.on Reg.CHIP_STATE.WARM = false ∧
  t.flt.faultLow = true ∧ t.boot.flash = s.boot.flash ∧ t.mem = s.mem ∧ t.str = {} ∧ t.eng = [] ∧ t.amp = {} ∧ t.tick = 0

/-- A warm start is in its step 2 (17 R378): memories and flash are as before, the attempt is counted. -/
def WarmBegun (s t : State) : Prop :=
  t.held = false ∧ t.chipState = 2 ∧ t.startStep = 2 ∧ t.on Reg.CHIP_STATE.WARM = true ∧ t.flt.faultLow = true ∧
  t.rd Reg.BOOT_STATUS.WARMFAIL = s.rd Reg.BOOT_STATUS.WARMFAIL + 1 ∧ t.boot.flash = s.boot.flash ∧ t.mem = s.mem ∧
  t.livePage = s.livePage ∧ t.str = {} ∧ t.eng = [] ∧ t.amp = {} ∧ t.tick = 0

/-- A warm cause finds neither HALT nor a cold start, and fewer than three attempts before it (17 R375). -/
def MayWarm (s : State) : Prop :=
  s.chipState ≠ 1 ∧ (s.chipState = 2 → s.on Reg.CHIP_STATE.WARM = true) ∧ s.rd Reg.BOOT_STATUS.WARMFAIL ≤ 2

/-- The only reason for which the core is held is the one that `b` lists: RST_N, clock, supply, temperature. -/
def HeldFor (s : State) (r c p t : Bool) : Prop :=
  s.boot.rst = r ∧ s.boot.clk = c ∧ s.boot.pwr = p ∧ s.boot.temp = t

end Sys2Proof.Claims

/-- The node at reset (17 R374-R376). -/
def Obligations.ResetState : Prop :=
  (∀ f : FieldRef, State.reset.rd f = f.reset) ∧ State.reset.chipState = 2 ∧ State.reset.startStep = 1 ∧
  State.reset.on Reg.CHIP_STATE.WARM = false ∧ State.reset.mem = [] ∧ State.reset.str = {} ∧ State.reset.eng = [] ∧
  State.reset.flt.faultLow = true ∧ State.reset.rclk = false ∧ State.reset.pending = [] ∧ Memory.wf State.reset.mem = true ∧
  ClockInv State.reset

/-- What holds the core in reset (08 R161, 16 R369, R371, 17 R375; a second clock loss while held for one: log 129). -/
def Obligations.CausesThatHoldTheCore : Prop :=
  ∀ (r : Fin 6) (mv : BitVec 12) (k : BitVec 15) (u : BitVec 4) (sc : Nat) (s : State),
  (s.boot.clk = false → Answers (.xoLoss k u sc) s fun t => Held s t ∧ t.boot.clk = true ∧ t.on Reg.CLK_STATUS.XO_OK = false ∧
    t.on Reg.CLK_STATUS.XO_LOST = true ∧ t.rd Reg.FLT_LAST_0.SRC = Src.CLK_XO ∧ t.rd Reg.FLT_LAST_0.LEVEL = 4 ∧
    t.rd Reg.FLT_LAST_1.TICK = s.tick % 2 ^ 32) ∧
  (s.boot.clk = true → Answers (.xoLoss k u sc) s fun t =>
    t = (s.put Reg.CLK_STATUS.XO_OK false).put Reg.CLK_STATUS.XO_LOST true) ∧
  (s.boot.clk = false → Answers (.rootUnlock k u sc) s fun t => Held s t ∧ t.boot.clk = true ∧
    t.on Reg.CLK_STATUS.ROOT_UNLOCK = true ∧ t.rd Reg.FLT_LAST_0.SRC = Src.CLK_ROOT ∧ t.rd Reg.FLT_LAST_0.LEVEL = 4 ∧
    t.rd Reg.FLT_LAST_1.TICK = s.tick % 2 ^ 32) ∧
  (s.boot.clk = true → Answers (.rootUnlock k u sc) s fun t => t = s.put Reg.CLK_STATUS.ROOT_UNLOCK true) ∧
  (Answers .rstNAssert s fun t => Held s t ∧ t.boot.rst = true ∧ t.boot.cold = true) ∧
  (r ≠ 3 → r ≠ 4 → Answers (.brownOut r mv k u sc) s fun t => Held s t ∧ t.boot.pwr = true ∧
    t.rd Reg.PWR_LAST.RAIL = r ∧ t.rd Reg.PWR_LAST.MINV = mv.toNat ∧ t.on Reg.PWR_LAST.VALID = true ∧
    (r = 2 → t.boot.cold = true ∧ t.on Reg.PWR_LAST.AONLOST = true)) ∧
  ((r = 3 ∨ r = 4) → Answers (.brownOut r mv k u sc) s fun t => t = s) ∧
  (Answers (.thermalShutdown k u sc) s fun t => Held s t ∧ t.boot.temp = true ∧ t.on Reg.PWR_TEMP.SHUT_EV = true)

/-- Releases and starts (17 R375-R379). -/
def Obligations.ReleasesAndStarts : Prop := ∀ (mv : BitVec 12) (s : State),
  (HeldFor s true false false false → s.boot.cold = true → Answers .rstNRelease s fun t => ColdBegun s t) ∧
  (s.boot.rst = true → (s.boot.clk = true ∨ s.boot.pwr = true ∨ s.boot.temp = true) → Answers .rstNRelease s fun t =>
    t = { s with boot := { s.boot with rst := false } }) ∧
  (s.boot.rst = false → Answers .rstNRelease s fun t => t = s) ∧
  (HeldFor s false true false false → s.boot.cold = false → MayWarm s → Answers .xoRecovery s fun t =>
    WarmBegun s t ∧ t.rclk = true ∧ t.on Reg.CLK_STATUS.XO_OK = true ∧ t.on Reg.CLK_STATUS.ROOT_LOCK = true) ∧
  (HeldFor s false true false false → s.boot.cold = true → Answers .xoRecovery s fun t => ColdBegun s t) ∧
  (s.boot.clk = false → Answers .xoRecovery s fun t => t = s) ∧
  (HeldFor s false false true false → s.boot.cold = false → MayWarm s → Answers (.brownoutRelease mv) s fun t =>
    WarmBegun s t ∧ Src.PWR_BROWNOUT ∈ t.boot.notices) ∧
  (HeldFor s false false true false → s.boot.cold = true → Answers (.brownoutRelease mv) s fun t => ColdBegun s t) ∧
  (HeldFor s false false false true → s.boot.cold = false → MayWarm s → Answers .thermalRestart s fun t =>
    WarmBegun s t ∧ Src.TEMP_SHUT ∈ t.boot.notices) ∧
  (s.held = false → MayWarm s → Answers .warmStart s (fun t => WarmBegun s t) ∧ Answers .warmNFall s (fun t => WarmBegun s t)) ∧
  (s.held = true → Answers .warmStart s (fun t => t = s) ∧ Answers .warmNFall s (fun t => t = s)) ∧
  (let out := fun t : State => t.chipState = 6 ∧ t.rd Reg.BOOT_STATUS.NOIMG = 14 ∧ t.held = false ∧ t.mem = s.mem;
    s.held = false → s.chipState ≠ 2 → s.rd Reg.BOOT_STATUS.WARMFAIL = 3 →
      Answers .warmStart s (fun t => out t) ∧ Answers .warmNFall s (fun t => out t)) ∧
  (let again := fun t : State => t.chipState = 2 ∧ t.startStep = 3 ∧ t.on Reg.CHIP_STATE.WARM = false ∧ t.rclk = false ∧
      t.mem = s.mem ∧ t.str = {};
    s.held = false → s.chipState = 2 → s.on Reg.CHIP_STATE.WARM = false → 3 ≤ s.startStep →
      Answers .warmStart s (fun t => again t) ∧ Answers .warmNFall s (fun t => again t)) ∧
  (Answers .powerOn s fun t => t = { State.reset with
    pending := s.pending, bus := s.bus, free := s.free
    boot := { State.reset.boot with flash := s.boot.flash, flashSize := s.boot.flashSize } })

namespace Sys2Proof.Claims

/-- An event of source n is among those that have reached the fault collector (16 R358). -/
def RaisedSome (t : State) (n : Nat) : Prop := n ∈ t.flt.arriving

/-- A slot bound to a PTP domain (08 R162). -/
def BoundTo (s : State) (d n : Nat) : Prop := n < 16 ∧ s.rd (Reg.REFS_CFG.SRC n) = d + 1

end Sys2Proof.Claims

/-- Reference slots (08 R162-R165). -/
def Obligations.ReferenceSlots : Prop :=
  ∀ (n : Fin 16) (d : Fin 4) (dep phase tether : Int) (pps : Bool) (frames : Nat) (v : Word) (l : List RefMeas) (m : RefMeas)
    (s : State), s.held = false →
  (s.slotState n ≠ 0 → (s.rd Reg.REF_PHWIN.WIN * 1000 < dep.natAbs → Answers (.refEvent n dep phase ⟨pps, frames⟩) s fun t =>
      (t.refSlot n).discards = (s.refSlot n).discards + 1 ∧ t.slotState n = s.slotState n ∧
      t.rd (Reg.REFS_CNT.GLITCH n) = min (s.rd (Reg.REFS_CNT.GLITCH n) + 1) 255) ∧
    (dep.natAbs ≤ s.rd Reg.REF_PHWIN.WIN * 1000 → Answers (.refEvent n dep phase ⟨pps, frames⟩) s fun t =>
      let src := s.rd (Reg.REFS_CFG.SRC n)
      (t.refSlot n).discards = 0 ∧
      ((src ≤ 4 ∨ (0x10 ≤ src ∧ src ≤ 0x1F) ∨ (src = 0x21 ∧ pps = true)) → (t.refSlot n).phase = wrapPhase s.rate phase) ∧
      (5 ≤ src → src ≤ 0xF → s.rd (Reg.REFS_CFG.NOM n) = s.mult → (t.refSlot n).phase = wrapPhase s.rate phase) ∧
      (src = 0x21 → pps = true → t.slotState n = s.slotState n ∧ t.on (Reg.REFS_STATUS.PPS_LOST n) = false) ∧
      (src = 0x21 → pps = false → (t.refSlot n).phase = (s.refSlot n).phase) ∧
      ((src ≠ 0x21 ∨ pps = false) → t.slotState n = (if s.slotState n = 1 then 2 else s.slotState n)))) ∧
  (s.slotState n = 0 → Answers (.refEvent n dep phase ⟨pps, frames⟩) s fun t => t = s) ∧
  (16 ≤ (s.refSlot n).discards → 2 ≤ s.slotState n → Answers (.refPhaseJump n) s fun t =>
    t.slotState n = 1 ∧ (t.refSlot n).discards = 0 ∧ t.rd (Reg.REFS_CNT.LOSS n) = min (s.rd (Reg.REFS_CNT.LOSS n) + 1) 255) ∧
  (2 ≤ s.slotState n → Answers (.refActivityLost n) s fun t =>
    t.slotState n = 1 ∧ t.rd (Reg.REFS_CNT.LOSS n) = min (s.rd (Reg.REFS_CNT.LOSS n) + 1) 255) ∧
  (s.slotState n < 2 → Answers (.refActivityLost n) s fun t => t = s) ∧
  (s.rd (Reg.REFS_CFG.SRC n) = 0x21 → s.slotState n ≠ 0 → Answers (.ppsMissing n) s fun t =>
    t.on (Reg.REFS_STATUS.PPS_LOST n) = true ∧ t.slotState n = s.slotState n) ∧
  (s.alone → Answers (.refPtpErrWrite d v dep) s fun t =>
    (v = 0x80000000#32 → ∀ k, BoundTo s d k → t.slotState k = (if 2 ≤ s.slotState k then 1 else s.slotState k)) ∧
    (v ≠ 0x80000000#32 → 1000000000000 < 2 * (sval v).natAbs * s.rate →
      t.ref = s.ref ∧ (∀ k, t.slotState k = s.slotState k) ∧ t.on Reg.REF_STATUS.CFG_REFUSED = true ∧ Raised t Src.CTL_REFUSED) ∧
    (v ≠ 0x80000000#32 → 2 * (sval v).natAbs * s.rate ≤ 1000000000000 → dep.natAbs ≤ s.rd Reg.REF_PHWIN.WIN * 1000 →
      ∀ k, BoundTo s d k → s.slotState k ≠ 0 →
        (t.refSlot k).phase = wrapPhase s.rate (sval v) ∧ t.slotState k = (if s.slotState k = 1 then 2 else s.slotState k))) ∧
  (∀ raw fam, l.filter (fun x => decide (x.slot = m.slot)) = [m] → 2 ≤ s.slotState m.slot → s.measured m = some (raw, fam) →
    Answers (.refMeasurement ⟨l, tether⟩) s fun t =>
    let k := m.slot.val
    let f := raw + s.rdInt Reg.REF_XOCAL.XOCAL
    let own := servesBoth (s.rd (Reg.REFS_CFG.SRC k)) = true ∨ fam = s.rd Reg.CLK_STATUS.FAMILY
    t.rd (Reg.REFS_FREQ.FREQ k) = (code 32 f).toNat ∧
    (own → s.slotState k = 2 → f.natAbs ≤ s.rd Reg.REF_LIM_0.ACCEPT * 10000 → s.acceptTime ≤ s.rd (Reg.REFS_STATUS.QTIME k) + 1 →
      t.slotState k = 3) ∧
    (own → s.slotState k = 3 → s.rd Reg.REF_LIM_1.WARN * 10000 < f.natAbs → f.natAbs ≤ s.rd Reg.REF_LIM_0.REJECT * 10000 →
      t.slotState k = 4) ∧
    (own → (s.slotState k = 3 ∨ s.slotState k = 4) → s.rd Reg.REF_LIM_0.REJECT * 10000 < f.natAbs → t.slotState k = 5) ∧
    (s.slotState k = 5 → f.natAbs ≤ s.rd Reg.REF_LIM_0.ACCEPT * 10000 →
      t.slotState k = 2 ∧ t.rd (Reg.REFS_STATUS.QTIME k) = 0))

/-- The DPLL (08 R168-R179). -/
def Obligations.DpllAndForcedRelock : Prop :=
  ∀ (err : Int) (v : Word) (k : BitVec 15) (u : BitVec 4) (sc : Nat) (s : State),
  (s.runs → s.rd Reg.REF_STATUS.DPLL = 1 → Answers .dpllAcquireLock s fun t =>
    t.rd Reg.REF_STATUS.DPLL = 4 ∧ t.ref = { s.ref with acquiring := false, whole := false } ∧
    ∀ q : FieldRef, q.key ≠ Reg.REF_STATUS.DPLL.key → t.rd q = s.rd q) ∧
  (s.runs → s.rd Reg.REF_STATUS.DPLL ≠ 1 → Answers .dpllAcquireLock s fun t => t = s) ∧
  (∀ f, s.runs → s.rd Reg.REF_STATUS.DPLL = 2 → s.slotFreq (s.rd Reg.REF_STATUS.SEL) = some f →
    (f - s.rdInt Reg.REF_XOCAL.XOCAL - s.ref.y).natAbs ≤ s.rd Reg.REF_DPLL.FSLEW * 10000 + 10000 → Answers .dpllSlewDone s fun t =>
      let n := s.rd Reg.REF_STATUS.SEL
      let pbo := s.on (Reg.REFS_CFG.PBO n) = true ∧ ignoresPbo (s.rd (Reg.REFS_CFG.SRC n)) = false
      (pbo → t.rd Reg.REF_STATUS.DPLL = 4 ∧ t.ref.buildOut = some (s.refSlot n).phase ∧ t.ref.fromHoldover = false) ∧
      (¬pbo → t.rd Reg.REF_STATUS.DPLL = 3 ∧ t.ref.buildOut = s.ref.buildOut) ∧
      t.ref.y = f - s.rdInt Reg.REF_XOCAL.XOCAL) ∧
  (∀ f, s.runs → s.slotFreq (s.rd Reg.REF_STATUS.SEL) = some f → (s.rd Reg.REF_STATUS.DPLL ≠ 2 ∨
    s.rd Reg.REF_DPLL.FSLEW * 10000 + 10000 < (f - s.rdInt Reg.REF_XOCAL.XOCAL - s.ref.y).natAbs) →
    Answers .dpllSlewDone s fun t => t = s) ∧
  (s.runs → s.rd Reg.REF_STATUS.DPLL = 3 → err.natAbs ≤ 100000 → Answers (.dpllPullDone err) s fun t =>
    t.rd Reg.REF_STATUS.DPLL = 4 ∧ t.rdInt Reg.REF_PHERR.PHERR = err ∧ t.ref = { s.ref with fromHoldover := false, whole := false }) ∧
  (s.runs → (s.rd Reg.REF_STATUS.DPLL ≠ 3 ∨ 100000 < err.natAbs) → Answers (.dpllPullDone err) s fun t => t = s) ∧
  (s.held = false → s.ref.acquiring = true → Answers .acqTimeout s fun t =>
    t.boot.acqOver = true ∧ t.regs = s.regs ∧ t.ref.acquiring = decide (s.rd Reg.REF_STATUS.DPLL = 1)) ∧
  (s.alone → s.rclk = true → Admitted 0x10008 v → v.getLsbD 3 = true → Answers (.forceRelock v k u sc) s fun t =>
    t.on Reg.CLK_ROOT.FORCE_RELOCK = true ∧ t.rd Reg.REF_STATUS.DPLL = 7 ∧ t.on Reg.REF_STATUS.SEL_VALID = false ∧
    t.rclk = false ∧ t.on Reg.CLK_STATUS.ROOT_LOCK = false ∧ t.mem = s.mem ∧ t.str = s.str) ∧
  (s.held = false → s.ref.family = none → s.on Reg.CLK_ROOT.FORCE_RELOCK = true → Answers .rootRelocked s fun t =>
    t.rclk = true ∧ t.on Reg.CLK_STATUS.ROOT_LOCK = true ∧ t.on Reg.CLK_ROOT.FORCE_RELOCK = false ∧ t.mem = s.mem ∧ t.str = s.str) ∧
  (s.held = false → s.ref.family = none → s.on Reg.CLK_ROOT.FORCE_RELOCK = false → Answers .rootRelocked s fun t => t = s)

/-- The change of rate family (08 R175). -/
def Obligations.FamilyChange : Prop := ∀ (v : Word) (x : TickIn) (s : State),
  (s.alone → Admitted 0x20000 v → Reg.REF_CTRL.FAMREQ.part v = 1 → s.ref.family = none →
    (Reg.REF_CTRL.FAMILY.part v ≠ s.rd Reg.CLK_STATUS.FAMILY → s.on Reg.ENG_LP_STATUS.ARMED = false →
      s.on Reg.ENG_LP_STATUS.RAMPING = false → Answers (.famreq v) s fun t =>
        t.ref.family = some ⟨s.tick + 2, 0⟩ ∧ t.on Reg.REF_CTRL.FAMREQ = true) ∧
    ((Reg.REF_CTRL.FAMILY.part v = s.rd Reg.CLK_STATUS.FAMILY ∨ s.on Reg.ENG_LP_STATUS.ARMED = true ∨
      s.on Reg.ENG_LP_STATUS.RAMPING = true) → Answers (.famreq v) s fun t =>
        t.ref.family = none ∧ t.on Reg.REF_STATUS.FAM_REFUSED = true ∧ RaisedSome t Src.CTL_REFUSED)) ∧
  (s.runs → s.familyDue 0 0 = true → Answers .familyRampOutStart s fun t =>
    t.ref.family = s.ref.family.map (fun f => { f with phase := 1 }) ∧ t.on Reg.CLK_STATUS.RELOCK = true ∧ t.mem = s.mem) ∧
  (s.runs → s.familyDue 0 0 = false → Answers .familyRampOutStart s fun t => t = s) ∧
  (s.runs → s.inWindow = true → s.familyDue 1 16 = true → Answers .familyLastOldTick s fun t =>
    t.ref.family = s.ref.family.map (fun f => { f with phase := 2 }) ∧ (∀ c, (t.col c).change = none) ∧
    (∀ c h, (s.col c).change = some h → h.toOff = false → (t.col c).live = h.new)) ∧
  (∀ f, s.held = false → s.ref.family = some f → f.phase = 3 → Answers .rootRelocked s fun t =>
    t.ref.family = some { f with phase := 4 } ∧ t.on Reg.CLK_STATUS.ROOT_LOCK = true ∧ t.rclk = s.rclk) ∧
  (∀ f, s.held = false → s.ref.family = some f → f.phase = 4 → Answers (.firstNewTick x) s fun t => ∃ u : State,
    t = u.nextTick x ∧ u.rclk = true ∧ u.ref.family = some { f with phase := 5 } ∧ u.mem = s.mem ∧ u.tick = s.tick ∧
    ∀ n, n < 32 → (u.ampCh n).errs = []) ∧
  (s.runs → s.familyDue 5 (17 + s.rd Reg.REF_ACQ.HOLD_TICKS) = true → Answers .familyHoldEnd s fun t =>
    t = { s with ref := { s.ref with family := s.ref.family.map fun f => { f with phase := 6 } } }) ∧
  (s.runs → s.familyDue 5 (17 + s.rd Reg.REF_ACQ.HOLD_TICKS) = false → Answers .familyHoldEnd s fun t => t = s) ∧
  (s.runs → s.familyDue 6 (33 + s.rd Reg.REF_ACQ.HOLD_TICKS) = true → Answers .familyRampInEnd s fun t =>
    t.ref.family = none ∧ t.on Reg.CLK_STATUS.RELOCK = false ∧ t.on Reg.REF_CTRL.FAMREQ = false ∧ t.mem = s.mem) ∧
  (s.runs → s.familyDue 6 (33 + s.rd Reg.REF_ACQ.HOLD_TICKS) = false → Answers .familyRampInEnd s fun t => t = s)

namespace Sys2Proof.Claims

/-- A time trigger resolves at the coming boundary, `sc` cycles of SC from the last instant named, to tick k, by the time
D and the increment INC that its domain has there. -/
def ResolvesTo (s : State) (sc : Nat) (g : Trig) (k : Nat) : Prop :=
  ∃ d sec ns, g = .ptp d sec ns ∧
    resolveAt (s.tick + 1) (((s.timeTick sc).domain d).d : Int) ((s.timeTick sc).inc d) (trigTime sec ns) = some k

/-- The time that an adjustment makes of a time (09 R187). -/
def Adjusted (a : TimeAdj) (now : Int) : Int :=
  if a.set then a.value else if a.minus then now - a.value else now + a.value

end Sys2Proof.Claims

/-- Time bases (09 R183-R196). -/
def Obligations.TimeBases : Prop := ∀ (d : Fin 4) (m : Fin 2) (v : Word) (k : BitVec 15) (u : BitVec 4) (sc : Nat) (s : State),
  (s.alone → Answers (.incWrite d false v) s fun t =>
    t.domain d = { s.domain d with incLo := some v.toNat } ∧ t.regs = s.regs) ∧
  (s.alone → Answers (.incWrite d true v) s fun t =>
    let n := v.toNat * 2 ^ 32 + (s.domain d).incLo.getD (s.rd (Reg.TIME_INC_LO.INC d))
    t.inc d = s.inc d ∧ (t.domain d).d = (s.domain d).d ∧
    (n = 0 → (t.domain d).incNext = some (nominalInc s.rate)) ∧
    (n ≠ 0 → incInRange s.rate n = true → (t.domain d).incNext = some n) ∧
    (n ≠ 0 → incInRange s.rate n = false → (t.domain d).incNext = (s.domain d).incNext ∧
      t.on (Reg.TIME_STATUS.INC_REFUSED d) = true ∧ Raised t Src.CTL_REFUSED)) ∧
  (s.alone → Answers (.scIncWrite false v) s fun t => t.time = { s.time with scLo := some v.toNat } ∧ t.regs = s.regs) ∧
  (s.alone → Answers (.scIncWrite true v) s fun t =>
    let lo := s.time.scLo.getD (s.rd Reg.TIME_SC_INC_LO.INC)
    t.time = { s.time with scLo := none } ∧
    (scIncInRange (v.toNat * 2 ^ 32 + lo) = true → t.rd Reg.TIME_SC_INC_HI.INC = v.toNat ∧
      t.rd Reg.TIME_SC_INC_LO.INC = lo % 2 ^ 32) ∧
    (scIncInRange (v.toNat * 2 ^ 32 + lo) = false → t.regs = s.regs ∧ Raised t Src.CTL_REFUSED)) ∧
  (s.alone → Admitted (0x3011C + d.val * 0x40) v → v.getLsbD 0 = true → Answers (.timeAdjGo d v) s fun t =>
    (s.rd (Reg.TIME_ADJ_0.NS d) < 1000000000 →
      (v.getLsbD 2 = true ∨ s.on (Reg.TIME_CTRL.BIGSTEP d) = true ∨ s.adjValue d ≤ oneSecond) →
      (t.domain d).adj = some ⟨s.adjValue d, v.getLsbD 1, v.getLsbD 2, s.on (Reg.TIME_CTRL.BIGSTEP d)⟩ ∧
      (t.domain d).d = (s.domain d).d ∧ t.on (Reg.TIME_STATUS.ADJ_PEND d) = true ∧ t.on (Reg.TIME_CTRL.BIGSTEP d) = false) ∧
    (1000000000 ≤ s.rd (Reg.TIME_ADJ_0.NS d) → t.time = s.time ∧ t.on (Reg.TIME_STATUS.ADJ_REFUSED d) = true ∧
      Raised t Src.CTL_REFUSED)) ∧
  (s.held = false → s.onStep d = false → Answers (.timeAdjApply d sc) s fun t => t = s.runSc sc) ∧
  (∀ a, s.held = false → s.isStandby = false → s.onStep d = true → (s.domain d).adj = some a → Answers (.timeAdjApply d sc) s fun t =>
    let now := (s.runSc sc).domTime d
    let x := Adjusted a now
    let ok := 0 ≤ x ∧ x ≤ timeLimit ∧ (a.set = true → a.big = false → x - now ≤ oneSecond ∧ now - x ≤ oneSecond)
    (t.domain d).adj = none ∧ t.on (Reg.TIME_STATUS.ADJ_PEND d) = false ∧
    (ok → t.domTime d = x) ∧
    (ok → t.rd (Reg.TIME_STATUS.ADJCNT d) = min (s.rd (Reg.TIME_STATUS.ADJCNT d) + 1) (2 ^ (Reg.TIME_STATUS.ADJCNT d).width - 1)) ∧
    (¬ok → (t.domain d).d = (s.domain d).d ∧ (t.domain d).ofs = (s.domain d).ofs ∧
      t.on (Reg.TIME_STATUS.ADJ_REFUSED d) = true)) ∧
  (s.alone → Admitted (0x30010 + m.val * 0x20) v → (Reg.TIME_MB_SNAP.TS_SNAP m).part v = 1 → Answers (.tsSnap m v) s fun t =>
    m.val ∈ t.time.snap ∧ t.on (Reg.TIME_MB_SNAP.TS_VALID m) = false ∧ t.rd (Reg.TIME_MB_SNAP.SRC m) = (Reg.TIME_MB_SNAP.SRC m).part v) ∧
  (s.runs → m.val ∈ s.time.snap → Answers (.snapCapture m k u sc) s fun t =>
    let src := s.rd (Reg.TIME_MB_SNAP.SRC m)
    let x := if src < 4 ∧ s.onStep src = false then s.rootInstant src k.toNat u.toNat
      else roundTime (if src < 4 then (s.runSc sc).domTime src else ((s.runSc sc).time.sc : Int))
    t.on (Reg.TIME_MB_SNAP.TS_VALID m) = true ∧ m.val ∉ t.time.snap ∧
    t.rd (Reg.TIME_MB_TS_0.TS m) = (timeWords x).1.toNat ∧ t.rd (Reg.TIME_MB_TS_1.TS m) = (timeWords x).2.1.toNat ∧
    t.rd (Reg.TIME_MB_TS_2.TS m) = (timeWords x).2.2.toNat ∧ t.rd (Reg.TIME_MB_TS_CY.ECLK m) = k.toNat ∧
    t.rd (Reg.TIME_MB_TS_CY.SIXTEENTH m) = u.toNat ∧ t.rd (Reg.TIME_MB_TS_CY.TICK m) = s.tick % 4096) ∧
  (s.held = false → Answers (.ts2Read m) s fun t =>
    t.bus.data = s.rd (Reg.TIME_MB_TS_2.TS m) ∧ t.bus.err = false ∧ t.on (Reg.TIME_MB_SNAP.TS_VALID m) = false) ∧
  (s.alone → Admitted (0x30100 + d.val * 0x40) v → (Reg.TIME_CTRL.PPSALIGN d).part v = 1 → Answers (.ppsalign d v) s fun t =>
    t.on (Reg.TIME_CTRL.PPSALIGN d) = true ∧ t.time = s.time) ∧
  (s.runs → s.on (Reg.TIME_CTRL.PPSALIGN d) = true → s.onStep d = false → Answers (.ppsAlign d) s fun t =>
    (t.domain d).d % oneSecond = 0 ∧ 2 * (t.domain d).d ≤ 2 * (s.domain d).d + oneSecond ∧
    2 * (s.domain d).d < 2 * (t.domain d).d + oneSecond ∧ t.on (Reg.TIME_CTRL.PPSALIGN d) = false) ∧
  (s.isStandby = false → s.onStep d = false → s.wantsStep d = false → (s.domain d).adj = none → (s.domain d).incNext = none →
    (s.domain d).d + s.inc d ≤ timeLimit → ((s.domainTick d).domain d).d = (s.domain d).d + s.inc d)

/-- Time triggers (09 R197). -/
def Obligations.TimeTriggersResolve : Prop :=
  (∀ (k : Nat) (now : Int) (inc t : Nat), 0 < inc →
    ((resolveAt k now inc t).isSome = true ↔ 2 * (t : Int) ≤ 2 * now + 16385 * inc) ∧
    ∀ r, resolveAt k now inc t = some r → k ≤ r ∧ 2 * (t : Int) - inc ≤ 2 * (now + ((r : Int) - k) * inc) ∧
      ∀ j : Nat, k ≤ j → j < r → 2 * (now + ((j : Int) - k) * inc) < 2 * (t : Int) - inc) ∧
  (∀ (b : Fin 64) (g : Fin 16) (c : Fin 16) (sc k : Nat) (y : Trig) (s : State), s.runs → s.paired = false →
    ResolvesTo s sc y k → s.tick + 1 < k → ((s.braid b).armed = some y → Answers (.triggerResolve (.braid b) sc) s fun t =>
      t.braid b = { s.braid b with armed := some (.tick k) } ∧ t.regs = s.regs) ∧
    (s.lp.armed = some y → Answers (.triggerResolve .plan sc) s fun t => t.lp.armed = some (.tick k) ∧ t.mem = s.mem) ∧
    (∀ n x, n % 16 = c.val → sfind n s.mtx.commits = some x → x.state = 1 → x.trig = y →
      (∀ p ∈ s.mtx.commits, p.1 % 16 = c.val → p.1 = n) → Answers (.triggerResolve (.commit c) sc) s fun t =>
        sfind n t.mtx.commits = some { x with trig := .tick k } ∧ t.mtx.cols = s.mtx.cols ∧ t.regs = s.regs) ∧
    (sfind g s.net.grp = some y → Answers (.triggerResolve (.group g) sc) s fun t =>
      sfind g t.net.grp = some (.tick k) ∧ t.regs = s.regs))

/-- Serial receivers (10 R207-R215). -/
def Obligations.SerialReceivers : Prop :=
  ∀ (p : Fin 24) (n : Fin 8) (m : Fin 2) (phase : BitVec 15) (period eclk : Nat) (before : SapBck) (frame next : List SapBck) (subs : List Word)
    (z : Bool) (a b : Word) (s : State), s.runs →
  (s.rd (Reg.SAP_STATUS.RXSTATE p) ≠ 0 → s.rxAsync p = false →
    s.straddles p (sapMaster (s.rxPort p).cfg) phase.toNat period = false →
    let c := (s.rxPort p).cfg
    let line := before :: frame ++ next
    let f : RxFrame := (List.range (sapSlots c)).map fun j =>
      some (sapSample (sapDw c) (sapSlot c (sapData c line) j), (0 : Tag))
    (sapWellFormed c line = true → Answers (.sapRxFrame p phase period before frame next) s fun t =>
      t.rd (Reg.SAP_PHASE.RXPH p) = phase.toNat ∧
      (s.rxRuns p = true → (s.rxPort p).frames.length < 2 → (t.rxPort p).frames = (s.rxPort p).frames ++ [f] ∧
        t.rd (Reg.SAP_STATUS.RXSTATE p) = s.rd (Reg.SAP_STATUS.RXSTATE p)) ∧
      (s.rxRuns p = false → (s.rxPort p).good = 0 → (t.rxPort p).good = 1 ∧
        t.rd (Reg.SAP_STATUS.RXSTATE p) = s.rd (Reg.SAP_STATUS.RXSTATE p)) ∧
      (s.rxRuns p = false → (s.rxPort p).good = 1 → t.rd (Reg.SAP_STATUS.RXSTATE p) = 2 ∧ (t.rxPort p).frames = [])) ∧
    (sapWellFormed c line = false → Answers (.sapRxFrame p phase period before frame next) s fun t =>
      t.on (Reg.SAP_STATUS.MALF p) = true ∧ t.rd (Reg.SAP_RXCNT.MALF p) = min (s.rd (Reg.SAP_RXCNT.MALF p) + 1) 65535 ∧
      (t.rxPort p).good = 0 ∧ (t.rxPort p).frames = (s.rxPort p).frames ∧
      t.rd (Reg.SAP_STATUS.RXSTATE p) = s.rd (Reg.SAP_STATUS.RXSTATE p))) ∧
  (s.rd (Reg.SAP_STATUS.RXSTATE p) = 0 → Answers (.sapRxFrame p phase period before frame next) s fun t => t = s) ∧
  (sapMaster (s.rxPort p).cfg = false → s.rd (Reg.SAP_STATUS.RXSTATE p) ≠ 0 → s.rd (Reg.SAP_STATUS.RXSTATE p) ≠ 3 →
    Answers (.sapClockLost (.sapRx p)) s fun t =>
      t.rd (Reg.SAP_STATUS.RXSTATE p) = 3 ∧ t.on (Reg.SAP_STATUS.RX_CLKLOST p) = true ∧ (t.rxPort p).frames = [] ∧
      t.on (Reg.FLT_SRC.ACTIVE (portSource p)) = true ∧ Raised t (portSource p)) ∧
  (sapMaster (s.txPort p).cfg = false → s.rd (Reg.SAP_STATUS.TXSTATE p) ≠ 0 → s.rd (Reg.SAP_STATUS.TXSTATE p) ≠ 3 →
    Answers (.sapClockLost (.sapTx p)) s fun t =>
      t.rd (Reg.SAP_STATUS.TXSTATE p) = 3 ∧ t.on (Reg.SAP_STATUS.TX_CLKLOST p) = true ∧ Raised t (portSource p)) ∧
  (2 ≤ s.rd (Reg.AES_RX_STATUS.STATE n) → Answers (.aesLockLost (.aesRx n)) s fun t =>
    t.rd (Reg.AES_RX_STATUS.STATE n) = 1 ∧ t.on (Reg.AES_RX_STATUS.LOCKLOST n) = true ∧ (t.rxPort (24 + n)).frames = []) ∧
  (Answers (.aesLockLost (.sapRx p)) s fun t => t = s) ∧
  (sapMaster (s.rxPort p).cfg = false → s.rxAsync p = false → s.rd (Reg.SAP_STATUS.RXSTATE p) = 2 → (s.rxPort p).rateBad = false →
    Answers (.sapRateWindow (.sapRx p) eclk) s fun t =>
      (rateOff (64 * eclkPerTick s.mult) eclk = true → t.rd (Reg.SAP_STATUS.RXSTATE p) = 4 ∧
        t.on (Reg.SAP_STATUS.RX_RATEMIS p) = true ∧ Raised t (portSource p)) ∧
      (rateOff (64 * eclkPerTick s.mult) eclk = false → t.rd (Reg.SAP_STATUS.RXSTATE p) = 2)) ∧
  (2 ≤ s.rd (Reg.AES_RX_STATUS.STATE n) → s.rd (Reg.AES_RX_STATUS.STATE n) ≤ 3 → s.rxAsync (24 + n) = false →
    s.straddles (24 + n) false phase.toNat period = false →
    (parityOk a = true → parityOk b = true → (s.rxPort (24 + n)).frames.length < 2 →
      Answers (.aesRxFrame n ⟨phase, period, true⟩ z a b) s fun t =>
        (t.rxPort (24 + n)).frames = (s.rxPort (24 + n)).frames ++ [[some (subSample a, 0), some (subSample b, 0)]]) ∧
    ((parityOk a = false ∨ parityOk b = false) → Answers (.aesRxFrame n ⟨phase, period, true⟩ z a b) s fun t =>
      (t.rxPort (24 + n)).frames = (s.rxPort (24 + n)).frames ∧ t.on (Reg.AES_RX_STATUS.PARITY n) = true)) ∧
  (2 ≤ s.rd (Reg.MADI_STATUS.RXSTATE m) → s.rd (Reg.MADI_STATUS.RXSTATE m) ≤ 3 → s.rxAsync (32 + m) = false →
    s.straddles (32 + m) false phase.toNat period = false →
    ((subs.getD 0 0).getLsbD 0 = true → (s.rxPort (32 + m)).frames.length < 2 → Answers (.madiRxFrame m ⟨phase, period, true⟩ subs) s fun t =>
      (t.rxPort (32 + m)).frames = (s.rxPort (32 + m)).frames ++
        [(List.range (s.rxChans (32 + m))).map fun j => madiChan (subs.getD j 0)]) ∧
    (Answers (.madiRxFrame m ⟨phase, period, false⟩ subs) s fun t =>
      t.on (Reg.MADI_STATUS.SYNCERR m) = true ∧ (t.rxPort (32 + m)).frames = (s.rxPort (32 + m)).frames))

/-- Serial transmitters, configurations, ASRC lanes and decimation (10 R208-R224). -/
def Obligations.SerialTransmitAndConfiguration : Prop :=
  ∀ (p : Fin 24) (n : Fin 8) (l : Fin 64) (c : Fin 96) (rate : Nat) (phase : BitVec 15) (ok tx : Bool) (v : Word) (s : State),
  (s.runs → sapMaster (s.txPort p).cfg = false → s.rd (Reg.SAP_STATUS.TXSTATE p) = 2 → phase.toNat + 32 < eclkPerTick s.mult →
    Answers (.sapTxFrame p phase ok) s fun t =>
      ((s.txPort p).fresh = true → (t.txPort p).sent = (s.txPort p).loaded ∧ (t.txPort p).fresh = false ∧
        (t.txPort p).line = sapLine (s.txPort p).cfg (s.txPort p).loaded ∧ t.regs = s.regs) ∧
      ((s.txPort p).fresh = false → (t.txPort p).sent = (s.txPort p).sent ∧
        t.rd (Reg.SAP_TXCNT.REPEAT p) = min (s.rd (Reg.SAP_TXCNT.REPEAT p) + 1) 65535)) ∧
  (s.alone → Admitted (0xC0000 + p.val * 0x40 + 4 * tx.toNat) v →
    let new := v &&& 0x7FFF#32
    let legal := sapCfgLegal s.mult tx new && !(s.channelsBeyond tx 1 p (sapSlots new))
    Answers (.sapCfgWrite p tx v) s fun t =>
      (legal = true → new ≠ s.word ((fieldsAt (0xC0000 + p.val * 0x40 + 4 * tx.toNat)).getD []) →
        (tx = true → t.txPort p = { s.txPort p with staged := true }) ∧
        (tx = false → t.rxPort p = { s.rxPort p with staged := true })) ∧
      (legal = false → t.ser = s.ser ∧ t.on (Reg.SAP_STATUS.CFG_REFUSED p) = true ∧ Raised t Src.CTL_REFUSED)) ∧
  (s.runs → (s.txPort p).staged = true → Answers (.sapCfgApply p true) s fun t =>
    let c := s.word ((fieldsAt (p.val * 0x40 + 0xC0004)).getD [])
    t.txPort p = { cfg := c } ∧ t.rd (Reg.SAP_STATUS.TXSTATE p) = (sapEn c).toNat) ∧
  (s.runs → (s.rxPort p).staged = true → Answers (.sapCfgApply p false) s fun t =>
    let c := s.word ((fieldsAt (p.val * 0x40 + 0xC0000)).getD [])
    t.rxPort p = { cfg := c, since := s.tick } ∧ t.rd (Reg.SAP_STATUS.RXSTATE p) = (sapEn c).toNat) ∧
  (s.runs → (s.txPort p).staged = false → Answers (.sapCfgApply p true) s fun t => t = s) ∧
  (s.runs → (sget {} n.val s.ser.cs).armed = true → (s.txPort (24 + n)).pos = 0 → Answers (.aesTxCsApply n) s fun t =>
    sget {} n.val t.ser.cs = ⟨s.txStatusBytes n, false⟩ ∧ t.regs = s.regs) ∧
  (s.runs → ((sget {} n.val s.ser.cs).armed = false ∨ (s.txPort (24 + n)).pos ≠ 0) → Answers (.aesTxCsApply n) s fun t => t = s) ∧
  (s.runs → s.rd (Reg.SAP_ASRC_STATUS.STATE l) = 1 → rate < 2 ^ 24 → Answers (.asrcLocked l rate) s fun t =>
    t.rd (Reg.SAP_ASRC_STATUS.STATE l) = 2 ∧ t.rd (Reg.SAP_ASRC_STATUS.INRATE l) = rate ∧ t.ser = s.ser) ∧
  (s.runs → (s.rd (Reg.SAP_ASRC_STATUS.STATE l) = 1 ∨ s.rd (Reg.SAP_ASRC_STATUS.STATE l) = 2) →
    (rate < 320000 ∨ 1920000 < rate) → Answers (.asrcFault l rate) s fun t =>
      t.rd (Reg.SAP_ASRC_STATUS.STATE l) = 3 ∧ t.on (Reg.SAP_ASRC_STATUS.RANGE l) = true ∧
      t.on (Reg.FLT_SRC.ACTIVE Src.ASRC_RANGE) = true) ∧
  (s.runs → (s.decCh c).restart = true → Answers (.decSwitch c) s fun t =>
    let cfg := s.word ((fieldsAt (0xE0000 + c.val * 0x10)).getD [])
    (t.decCh c).cfg = cfg ∧ (t.decCh c).restart = false ∧ (t.decCh c).ints = [] ∧ (t.decCh c).fir = [] ∧ (t.decCh c).hb = [] ∧
    (t.decCh c).m = (if s.on (Reg.DEC_CH_DC.FREEZE c) then (s.decCh c).m else 0) ∧
    (decEn cfg = true → t.rd (Reg.DEC_CH_STATUS.SETTLE c) = decOrder cfg * decMdd cfg + 32 ∧
      t.on (Reg.DEC_CH_STATUS.UNSETTLED c) = true)) ∧
  (s.runs → (s.decCh c).restart = false → Answers (.decSwitch c) s fun t => t = s) ∧
  (s.runs → Answers (.decSettled c) s fun t => t.ser = s.ser ∧
    (s.rd (Reg.DEC_CH_STATUS.SETTLE c) = 0 → t.on (Reg.DEC_CH_STATUS.UNSETTLED c) = false) ∧
    (s.rd (Reg.DEC_CH_STATUS.SETTLE c) ≠ 0 → t = s))

/-- The DC blocker and subframes (10 R206, R213, R223). -/
def Obligations.DecimationArithmetic : Prop :=
  (∀ (k : Nat) (f : Bool) (m x : Int), let y := x - roundNearest m (2 ^ 16)
    (dcBlock k f m x).1 = (if y < -2147483648 then -2147483648 else if 2147483647 < y then 2147483647 else y) ∧
    (f = true → (dcBlock k f m x).2.1 = m) ∧
    (f = false → (dcBlock k f m x).2.1 = m + roundNearest (k * (x * 65536 - m)) 2147483648) ∧
    ((dcBlock k f m x).2.2 = true ↔ y < -2147483648 ∨ 2147483647 < y)) ∧
  (∀ w : Word, (∀ i, i < 24 → (subSample w).getLsbD (8 + i) = w.getLsbD (4 + i)) ∧ (∀ i, i < 8 → (subSample w).getLsbD i = false) ∧
    ∀ i, 4 ≤ i → i < 32 → parityOk (w ^^^ 1#32 <<< i) = !(parityOk w))

namespace Sys2Proof.Claims

/-- Every other drive channel is as before. -/
def AmpOthers (s t : State) (n : Nat) : Prop := ∀ m, m ≠ n → m < 32 → t.ampCh m = s.ampCh m ∧ t.ampSt m = s.ampSt m

/-- A drive channel in a state, with its pins. -/
def AmpAt (t : State) (n st : Nat) (d : Drive) (pse rly : Bool) : Prop :=
  t.ampSt n = st ∧ (t.ampCh n).drive = d ∧ (t.ampCh n).pse = pse ∧ (t.ampCh n).rly = rly

/-- A channel's timed event has not been done for the coming boundary, on a chip whose own sequencing governs. -/
def AmpTimed (s : State) (n : Nat) : Prop := s.runs ∧ s.isStandby = false ∧ (s.ampCh n).acted = false

end Sys2Proof.Claims

/-- Control writes of the amplifier drive (11 R230, R238-R241). -/
def Obligations.AmplifierControlWrites : Prop := ∀ (n : Fin 32) (v : Word) (s : State), s.alone →
  (Admitted (0xF0100 + n.val * 0x20) (v ||| 1) →
    (s.rd (Reg.AMP_CH_SCALE.VFS n) ≠ 0 → s.rd (Reg.AMP_CH_SCALE.IFS n) ≠ 0 → s.ampSt n = 0 → Answers (.ampEnable n v) s fun t =>
      AmpOthers s t n ∧ t.on (Reg.AMP_CH_CTRL.EN n) = true ∧
      ((Reg.AMP_CH_CTRL.DIAG_EN n).part v = 1 → AmpAt t n 1 .low false false) ∧
      ((Reg.AMP_CH_CTRL.DIAG_EN n).part v = 0 → AmpAt t n 3 .idle true false ∧ (t.ampCh n).part = 0)) ∧
    ((s.rd (Reg.AMP_CH_SCALE.VFS n) = 0 ∨ s.rd (Reg.AMP_CH_SCALE.IFS n) = 0) → Answers (.ampEnable n v) s fun t =>
      t.amp = s.amp ∧ t.ampSt n = s.ampSt n ∧ t.on (Reg.AMP_CH_STATUS.CFG_REFUSED n) = true ∧ Raised t Src.CTL_REFUSED)) ∧
  (Admitted (0xF0100 + n.val * 0x20) (v &&& ~~~1#32) → v.getLsbD 5 = false → Answers (.ampDisable n v) s fun t =>
    AmpOthers s t n ∧ t.on (Reg.AMP_CH_CTRL.EN n) = false ∧
    (s.ampSt n = 0 → t.ampCh n = s.ampCh n ∧ t.ampSt n = 0) ∧
    (s.ampSt n = 3 → AmpAt t n 6 .idle true false ∧ (t.ampCh n).part = 1 ∧ (t.ampCh n).after = .off) ∧
    ((s.ampSt n = 4 ∨ s.ampSt n = 5) → AmpAt t n 6 .modulated true true ∧ (t.ampCh n).part = 0 ∧ (t.ampCh n).after = .off)) ∧
  (Admitted (0xF0100 + n.val * 0x20) (v ||| 0x20#32) → v.getLsbD 0 = false → s.ampSt n = 0 → Answers (.rundiag n v) s fun t =>
    AmpOthers s t n ∧ AmpAt t n 1 .low false false ∧ (t.ampCh n).once = true ∧ t.on (Reg.AMP_CH_CTRL.RUNDIAG n) = true) ∧
  (Admitted (0xF0100 + n.val * 0x20) (v ||| 0x10#32) → v.getLsbD 0 = false → v.getLsbD 5 = false → s.ampSt n = 8 →
    Answers (.ampClr n v) s fun t =>
      AmpOthers s t n ∧ AmpAt t n 0 .low false false ∧ t.rd (Reg.AMP_CH_STATUS.RETRIES n) = 0) ∧
  ((∀ m, m < 32 → s.ampSt m = 0) →
    (Admitted 0xF0008 v → Reg.AMP_MOD.USCALE.part v + ceilDiv (s.tapSum 5 0) (2 ^ 28) ≤ Reg.AMP_MOD.JMAX.part v →
      Answers (.ampModWrite 0 v) s fun t => t.rd Reg.AMP_MOD.USCALE = Reg.AMP_MOD.USCALE.part v ∧
        t.rd Reg.AMP_MOD.JMAX = Reg.AMP_MOD.JMAX.part v ∧ t.amp = s.amp) ∧
    (∀ r : Fin 5, Admitted (0xF0010 + 4 * r.val) v →
      s.rd Reg.AMP_MOD.USCALE + ceilDiv (s.tapSum r v) (2 ^ 28) ≤ s.rd Reg.AMP_MOD.JMAX →
      Answers (.ampModWrite r.succ v) s fun t => t.rd (Reg.AMP_NS.H r) = v.toNat ∧ t.amp = s.amp)) ∧
  (∀ r : Fin 6, s.ampSt n ≠ 0 → Answers (.ampModWrite r v) s fun t => t.amp = s.amp ∧
    t.rd Reg.AMP_MOD.USCALE = s.rd Reg.AMP_MOD.USCALE ∧ t.rd Reg.AMP_MOD.JMAX = s.rd Reg.AMP_MOD.JMAX ∧
    (∀ i, i < 5 → t.rd (Reg.AMP_NS.H i) = s.rd (Reg.AMP_NS.H i)) ∧ t.on Reg.AMP_STATUS.CFG_REFUSED = true ∧ Raised t Src.CTL_REFUSED)

/-- Sequencing of a drive channel (11 R237-R241). -/
def Obligations.AmplifierSequencing : Prop := ∀ (n : Fin 32) (s : State), AmpTimed s n →
  let x := s.ampCh n
  let rlyt := s.msTicks (s.rd Reg.AMP_DIAG.RLYT)
  (s.ampSt n = 3 → x.part = 0 → s.msTicks 1 ≤ x.t + 1 → Answers (.ampRelayClose n) s fun t =>
    AmpAt t n 3 .idle true true ∧ (t.ampCh n).part = 1 ∧ (t.ampCh n).t = 0 ∧ AmpOthers s t n) ∧
  (s.ampSt n = 3 → x.part = 1 → rlyt ≤ x.t + 1 → Answers (.ampUnmuteStart n) s fun t =>
    AmpAt t n 4 .modulated true true ∧ AmpOthers s t n) ∧
  (s.ampSt n = 4 → s.msTicks 20 ≤ x.t + 1 → Answers (.ampRunEntry n) s fun t =>
    AmpAt t n 5 .modulated true true ∧ AmpOthers s t n) ∧
  (s.ampSt n = 6 → x.part = 0 → s.msTicks 10 + 6 ≤ x.t + 1 → Answers (.ampStopRampEnd n) s fun t =>
    AmpAt t n 6 .idle true false ∧ (t.ampCh n).part = 1 ∧ AmpOthers s t n) ∧
  (s.ampSt n = 6 → x.part = 1 → rlyt ≤ x.t + 1 → Answers (.ampPseOff n) s fun t =>
    (x.after = .off → AmpAt t n 0 .low false false) ∧ (x.after = .latched → AmpAt t n 7 .low false false) ∧
    (x.after = .locked → AmpAt t n 8 .low false false ∧ Raised t Src.AMP_LOCKOUT) ∧ AmpOthers s t n) ∧
  (s.diagPlace = true → s.diagNext = some n.val → Answers (.ampDiagEnter n) s fun t =>
    AmpAt t n 2 .low true false ∧ (t.ampCh n).t = 0 ∧ (t.ampCh n).cnt = 0 ∧ AmpOthers s t n) ∧
  (s.ampSt n = 2 → s.diagPhase (x.t + 1) ≠ s.diagPhase x.t → x.t + 1 < s.msTicks 60 → Answers (.ampDiagPhaseEnd n) s fun t =>
    (t.ampCh n).t = x.t + 1 ∧ t.ampSt n = 2 ∧ (t.ampCh n).pse = true ∧ (t.ampCh n).rly = decide (3 ≤ s.diagPhase (x.t + 1)) ∧
    AmpOthers s t n) ∧
  (s.ampSt n = 7 → x.part = 0 → s.msTicks 2 ≤ x.t + 1 → x.after ≠ .off → Answers (.ampLatchRelayOpen n) s fun t =>
    (t.ampCh n).rly = false ∧ (t.ampCh n).part = 1 ∧ t.ampSt n = 7 ∧ AmpOthers s t n) ∧
  (s.ampSt n = 7 → x.part = 1 → s.msTicks 1000 ≤ x.t + 1 → x.noRetry = false → Answers (.ampRetry n) s fun t =>
    AmpAt t n 1 .low false false ∧ (t.ampCh n).retry = true ∧ AmpOthers s t n) ∧
  (s.ampSt n = 5 → x.part = 0 → s.msTicks 10000 ≤ x.t + 1 → Answers (.ampRetryReset n) s fun t =>
    t.rd (Reg.AMP_CH_STATUS.RETRIES n) = 0 ∧ t.ampSt n = 5 ∧ AmpOthers s t n)

/-- Protection of a drive channel (11 R231-R245; a latch at the tick's last period waits for its boundary: log 188). -/
def Obligations.AmplifierProtection : Prop := ∀ (n : Fin 32) (k : Fin 16) (cycle : BitVec 12) (s : State), s.held = false →
  cycle.toNat < 3200 →
  let x := s.ampCh n
  let filt := cycle.toNat + 2 + s.rd Reg.AMP_CTRL.OCFILT
  let j := k.val + filt / 3200
  let per := eclkPerTick s.mult / 1600
  let now := s.tick * per + j
  let run := if x.lastOc = some (now - 1) ∧ 0 < now then x.ocRun + 1 else 1
  let low := filt % 3200 + 2
  (3 ≤ s.ampSt n → s.ampSt n ≤ 6 → s.rclk = true → x.lastOc ≠ some now → Answers (.ocAssert n ⟨k, cycle⟩) s fun t =>
    t.rd (Reg.AMP_CH_CNT.OCPER n) = min (s.rd (Reg.AMP_CH_CNT.OCPER n) + 1) (2 ^ (Reg.AMP_CH_CNT.OCPER n).width - 1) ∧
    ((run < 16 ∨ s.isStandby = true) →
      t.ampCh n = { x with lastOc := some now, ocRun := run, lowIn := some (now, low) } ∧ t.ampSt n = s.ampSt n) ∧
    (16 ≤ run → s.isStandby = false → j + 1 < per → AmpAt t n 7 .low false x.rly ∧
      t.on (Reg.AMP_CH_STATUS.LATCH_EV n) = true ∧ Raised t Src.AMP_LATCH) ∧
    (16 ≤ run → s.isStandby = false → per ≤ j + 1 → t.ampSt n = s.ampSt n ∧
      t.ampCh n = { x with lastOc := some now, ocRun := run, lowIn := some (now, low), latchDue := true }) ∧
    AmpOthers s t n) ∧
  (s.ampSt n = 2 → s.rclk = true → x.lastOc ≠ some now → s.isStandby = false → x.retry = false →
    s.diagPhase x.t ≠ 5 → s.diagPhase x.t ≠ 7 → Answers (.ocAssert n ⟨k, cycle⟩) s fun t =>
      t.rd (Reg.AMP_CH_STATUS.DIAG_RES n) = (if s.diagPhase x.t = 1 then 2 else if s.diagPhase x.t = 2 then 3 else 4) ∧
      AmpAt t n 6 .idle true false ∧ Raised t Src.AMP_DIAG ∧ AmpOthers s t n) ∧
  (2 ≤ s.ampSt n → s.ampSt n ≤ 6 → s.rclk = false → s.isStandby = false → Answers (.ocAssert n ⟨k, cycle⟩) s fun t =>
    AmpAt t n 7 .low false x.rly ∧ t.on (Reg.AMP_CH_STATUS.LATCH_EV n) = true ∧ Raised t Src.AMP_LATCH ∧ AmpOthers s t n) ∧
  (s.rclk = false → s.isStandby = true → Answers (.ocAssert n ⟨k, cycle⟩) s fun t => t = s) ∧
  (2 ≤ s.ampSt n → s.ampSt n ≤ 6 → s.rclk = true → x.lastOc = some now → Answers (.ocAssert n ⟨k, cycle⟩) s fun t => t = s) ∧
  ((s.ampSt n < 2 ∨ 6 < s.ampSt n) → Answers (.ocAssert n ⟨k, cycle⟩) s fun t => t = s) ∧
  (s.rclk = true → s.on (Reg.AMP_CH_STATUS.SENSE_LOST n) = false → Answers (.senseLost n) s fun t =>
    t.on (Reg.AMP_CH_STATUS.SENSE_LOST n) = true ∧ Raised t Src.AMP_SENSE ∧
    (t.ampCh n).senseBad = true ∧ t.ampSt n = s.ampSt n ∧ t.senseBack n = false ∧ AmpOthers s t n) ∧
  (s.rclk = true → s.on (Reg.AMP_CH_STATUS.SENSE_LOST n) = true → Answers (.senseLost n) s fun t => t = s) ∧
  (s.rclk = true → s.senseBack n = true → Answers (.senseRestored n) s fun t =>
    t.on (Reg.AMP_CH_STATUS.SENSE_LOST n) = false ∧ t.amp = s.amp) ∧
  (s.rclk = true → s.senseBack n = false → Answers (.senseRestored n) s fun t => t = s) ∧
  (∀ i : Int, pwmEdges i = (6400 - i, 19200 + i, 6400 + i, 19200 - i))

namespace Sys2Proof.Claims

/-- A counter went up by one, saturating at 32 bits (12 R272). -/
def Counted (s t : State) (i j : Nat) : Prop :=
  t.rd (Reg.MAC_CNT.COUNT i j) = min (s.rd (Reg.MAC_CNT.COUNT i j) + 1) (2 ^ 32 - 1)

/-- A frame without errors that MAC i takes for a control queue: no pattern, no stream, no VLAN handling, not UDP. -/
def PlainControl (s : State) (i : Nat) (l : List Byte) : Prop :=
  s.on (Reg.MAC_CTRL.EN i) = true ∧ 64 ≤ l.length ∧ l.length ≤ s.rd (Reg.MAC_MAXLEN.MAXLEN i) ∧ l.length < 2 ^ 16 ∧
  fcsOk l = true ∧ be l (etherAt l) 2 ≠ 0x8808 ∧ s.accepts i l = true ∧ s.wakePattern i l = none ∧ s.classPattern i l = none ∧
  isUdp l = false ∧ s.dormant = false ∧ s.on (Reg.MAC_CTRL.CTLVLAN_EN i) = false

/-- What a control frame finds: from ECLK 256 of a tick the media frames of that tick go before it (12 R259, R263). -/
def MediaFirst (s : State) (k : BitVec 15) : State := if s.rclk = true ∧ 256 ≤ k.toNat then s.netSendAll else s

/-- The stamp tick that an ingress packet's RTP timestamp gives (12 R264). -/
def stampTick (s : State) (r : NetRx) : Int :=
  let d : Int := ((be r.bytes (ipAt r.bytes + 32) 4 : Nat) : Int) - (s.descWord 0 r.stream 7).toNat -
    s.mediaCount (wfield (s.descWord 0 r.stream 0) 15 2)
  let d := d % 2 ^ 32
  (r.tick : Int) + (if d < 2 ^ 31 then d else d - 2 ^ 32)

end Sys2Proof.Claims

/-- The MACs (12 R249-R259). -/
def Obligations.MacFramesAndQueues : Prop :=
  ∀ (i : Fin 5) (q : Fin 4) (l : List Byte) (pcs lf rf lock : Bool) (v : Word) (done k : BitVec 15) (back : Nat)
  (u : BitVec 4) (sc scb : Nat) (s : State),
  s.held = false →
  (s.on (Reg.MAC_CTRL.EN i) = false → Answers (.macRxFrame i l pcs done ⟨back, k, u, scb⟩ sc) s fun t =>
    t.mem = s.mem ∧ t.net = s.net ∧ ∀ j, t.rd (Reg.MAC_CNT.COUNT i j) = s.rd (Reg.MAC_CNT.COUNT i j)) ∧
  (s.dormant = true → s.wakeMac i = false → Answers (.macRxFrame i l pcs done ⟨back, k, u, scb⟩ sc) s fun t =>
    t.mem = s.mem ∧ t.net = s.net ∧ ∀ j, t.rd (Reg.MAC_CNT.COUNT i j) = s.rd (Reg.MAC_CNT.COUNT i j)) ∧
  (s.on (Reg.MAC_CTRL.EN i) = true → (s.dormant = false ∨ s.wakeMac i = true) → 1 ≤ l.length → l.length ≤ 13 → Answers (.macRxFrame i l pcs done ⟨back, k, u, scb⟩ sc) s fun t =>
    Counted s t i 3 ∧ t.mem = s.mem ∧ t.net = s.net) ∧
  (s.on (Reg.MAC_CTRL.EN i) = true → (s.dormant = false ∨ s.wakeMac i = true) → 14 ≤ l.length → be l (etherAt l) 2 = 0x8808 → Answers (.macRxFrame i l pcs done ⟨back, k, u, scb⟩ sc) s fun t =>
    Counted s t i 10 ∧ t.mem = s.mem ∧ t.net = s.net) ∧
  (PlainControl s i l →
    let r := s.rxRing 3
    (s.owned r = true → Answers (.macRxFrame i l false done ⟨back, k, u, scb⟩ sc) s fun t =>
      let b := s.load r.at 4
      Counted s t i 0 ∧ t.rd (Reg.NET_RXQ_PTR.HEAD 3) = r.advance % 4096 ∧ 
      t.load (r.at + 4) 4 = l.length + i.val * 2 ^ 22 + ((s.framePattern i l).map (· + 1)).getD 0 * 2 ^ 25 ∧
      ((b + l.length ≤ r.at ∨ r.at + 32 ≤ b) → ∀ j (h : j < l.length), t.byte (b + j) = l[j]) ∧
      (∀ a, (a < b ∨ b + l.length ≤ a) → (a < r.at ∨ r.at + 32 ≤ a) → t.byte a = s.byte a)) ∧
    (s.owned r = false → Answers (.macRxFrame i l false done ⟨back, k, u, scb⟩ sc) s fun t =>
      Counted s t i 0 ∧ Counted s t i 9 ∧ t.mem = s.mem ∧ Raised t Src.NET_RXOVF)) ∧
  (Answers (.macLinkFault i lf rf lock) s fun t =>
    t.on (Reg.MAC_STATUS.LINK i) =
      (s.on (Reg.MAC_CTRL.EN i) && !lf && !rf && (if i.val < 4 then s.laneLocked i else lock)) ∧
    t.on (Reg.MAC_STATUS.LFAULT i) = lf ∧ t.on (Reg.MAC_STATUS.RFAULT i) = rf ∧ t.mem = s.mem ∧
    (s.on (Reg.MAC_STATUS.LINK i) = true → t.on (Reg.MAC_STATUS.LINK i) = false → Raised t Src.NET_LINK)) ∧
  (s.alone → Admitted (0x110208 + q.val * 0x10) v → Answers (.rxqTailWrite q v) s fun t =>
    t.rd (Reg.NET_RXQ_PTR.TAIL q) = (Reg.NET_RXQ_PTR.TAIL q).part v ∧ t.rd (Reg.NET_RXQ_PTR.HEAD q) = s.rd (Reg.NET_RXQ_PTR.HEAD q) ∧
    t.mem = s.mem) ∧
  (s.alone → Admitted (0x110308 + i.val * 0x10) v → Answers (.txqTailWrite i v) s fun t =>
    t.rd (Reg.NET_TXQ_PTR.TAIL i) = (Reg.NET_TXQ_PTR.TAIL i).part v ∧ t.rd (Reg.NET_TXQ_PTR.HEAD i) = s.rd (Reg.NET_TXQ_PTR.HEAD i) ∧
    t.mem = s.mem) ∧
  (s.dormant = false → s.on (Reg.MAC_STATUS.LINK i) = true → s.owned (s.txRing i) = true → s.on (Reg.MAC_CTRL.CTLVLAN_EN i) = false →
    let r := s.txRing i
    let w := s.load (r.at + 4) 4
    let m := MediaFirst s k
    Answers (.macTxControl i k u sc) s fun t =>
      t.rd (Reg.NET_TXQ_PTR.HEAD i) = r.advance % 4096 ∧
      (w % 2 ^ 14 + 4 ≤ s.rd (Reg.MAC_MAXLEN.MAXLEN i) → Counted m t i 11 ∧
        sget [] i.val t.net.lastTx = s.controlBytes i (w.testBit 17) (s.loadBytes (s.load r.at 4) (w % 2 ^ 14)) ∧
        (w.testBit 16 = false → t.load (r.at + 4) 4 = w % 2 ^ 31 ∧ ∀ a, (a < r.at + 4 ∨ r.at + 8 ≤ a) → t.byte a = s.byte a)) ∧
      (s.rd (Reg.MAC_MAXLEN.MAXLEN i) < w % 2 ^ 14 + 4 → Counted m t i 12 ∧ t.net = m.net ∧
        t.load (r.at + 4) 4 / 2 ^ 31 = 0 ∧ t.load (r.at + 4) 4 / 2 ^ 18 % 2 = 1)) ∧
  (s.dormant = true → Answers (.macTxControl i k u sc) s fun t => t = s) ∧
  (s.dormant = false → (s.on (Reg.MAC_STATUS.LINK i) = false ∨ s.owned (s.txRing i) = false) →
    Answers (.macTxControl i k u sc) s fun t => t.regs = (MediaFirst s k).regs ∧ t.mem = s.mem ∧ t.net = (MediaFirst s k).net)

/-- Media streams (12 R257-R269). -/
def Obligations.MediaStreams : Prop := ∀ (i : Fin 512) (g : Fin 16) (v : Word) (s : State),
  (s.alone → v.getLsbD 0 = true →
    let dir := s.rd Reg.NET_SEL.DIR
    let d := s.stagedDesc dir
    let n := s.rd Reg.NET_SEL.INDEX
    Answers (.streamDescCommit v) s fun t => t.mem = s.mem ∧
      ((d.getD 0 0).getLsbD 0 = true → s.withGo.descReason dir n d = 0 → (dir * 512 + n, d) ∈ t.net.go ∧ t.net.live = s.net.live ∧
        t.on Reg.NET_DESC_GO.GO = true ∧ t.on Reg.NET_DESC_LAST.REFUSED = false) ∧
      ((d.getD 0 0).getLsbD 0 = true → s.withGo.descReason dir n d ≠ 0 → t.net = s.net ∧ t.on Reg.NET_DESC_LAST.REFUSED = true ∧
        t.rd Reg.NET_DESC_LAST.REASON = s.withGo.descReason dir n d ∧ Raised t Src.CTL_REFUSED) ∧
      ((d.getD 0 0).getLsbD 0 = false → dir = 0 → (sget {} n t.net.ins).run = false ∧ t.descWord 0 n 0 = d.getD 0 0)) ∧
  (∀ k d, s.runs → k < 1024 → d.length = 16 → s.net.go.filter (fun p => decide (p.1 = k)) = [(k, d)] →
    (∀ p ∈ s.net.go, p.1 < 1024) → Answers .streamDescApply s fun t =>
      (∀ w, w < 16 → t.descWord (k / 512) (k % 512) w = d.getD w 0) ∧ t.net.go = [] ∧ t.on Reg.NET_DESC_GO.GO = false ∧
      (k < 512 → (sget {} k t.net.ins).run = true ∧ (sget {} k t.net.ins).first = s.tick + 1 ∧ (sget {} k t.net.ins).pkts = [])) ∧
  (s.alone → Admitted (0x110100 + g.val * 0x10) v → (Reg.NET_GRP_CTRL.ARM g).part v = 1 → s.on (Reg.NET_GRP_CTRL.ARM g) = false →
    Answers (.groupArm g v) s fun t =>
      ((Reg.NET_GRP_CTRL.TRIGSRC g).part v = 0 → sfind g.val t.net.grp = some (.tick (s.tick + 2)) ∧
        t.on (Reg.NET_GRP_CTRL.ARM g) = true)) ∧
  (s.alone → (Reg.NET_GRP_CTRL.TRIGSRC g).part v = 1 → Answers (.groupArm g v) s fun t =>
    t.net = s.net ∧ Raised t Src.CTL_REFUSED) ∧
  (s.runs → sfind g.val s.net.grp = some (.tick (s.tick + 1)) → Answers (.groupStart g) s fun t =>
    sfind g.val t.net.grp = none ∧ t.on (Reg.NET_GRP_CTRL.ARM g) = false ∧ t.mem = s.mem ∧
    (∀ n ∈ s.validStreams 1, wfield (s.descWord 1 n 0) 24 4 = g.val → (sget {} n s.net.outs).run = false →
      (sget {} n t.net.outs).run = true ∧ (sget {} n t.net.outs).m0 = s.tick + 1 ∧
      (sget {} n t.net.outs).seq = wfield (s.descWord 1 n 3) 0 16) ∧
    (∀ n, wfield (s.descWord 1 n 0) 24 4 ≠ g.val → sget {} n t.net.outs = sget {} n s.net.outs)) ∧
  (let x := sget {} i.val s.net.outs
    let p := s.streamP 1 i
    s.runs → x.run = true → p ≤ x.buf.length → x.m0 + (x.n + 1) * p ≤ s.tick → Answers (.streamTxQueue i) s fun t =>
      let y := sget {} i.val t.net.outs
      y.n = x.n + 1 ∧ y.seq = (x.seq + 1) % 65536 ∧ y.buf = x.buf.drop p ∧ y.lastTick = s.tick ∧ t.mem = s.mem) ∧
  (s.runs → (sget {} i.val s.net.outs).buf.length < s.streamP 1 i → Answers (.streamTxQueue i) s fun t => t = s) ∧
  (s.runs → s.net.rxq = [] → Answers .streamRxPacket s fun t => t = s) ∧
  (∀ r rest path, s.runs → s.net.rxq = r :: rest → pathOf (s.descWord 0 r.stream 0) r.mac = some path → path ≤ 1 →
    let x := sget {} r.stream s.net.ins
    let lo := wfield (s.descWord 0 r.stream 1) 0 16
    let depth := wfield (s.descWord 0 r.stream 1) 16 16
    let p := s.streamP 0 r.stream
    let due := stampTick s r + lo
    let runs := x.run = true ∧ x.first ≤ r.now
    let fits := s.mediaOk r path = true ∧ ∀ ph, x.phase = some ph → (stampTick s r - ph) % p = 0
    let again := ∃ k ∈ x.pkts, (k.due : Int) = due
    Answers .streamRxPacket s fun t =>
      let y := sget {} r.stream t.net.ins
      t.net.rxq = rest ∧
      (sumsOk r.bytes = false → Counted s t r.mac 7 ∧ t.net.ins = s.net.ins ∧ t.mem = s.mem) ∧
      (sumsOk r.bytes = true → ¬runs → t.net.ins = s.net.ins ∧ t.mem = s.mem) ∧
      (sumsOk r.bytes = true → runs → ¬fits → y.refused = min (x.refused + 1) 65535 ∧ y.pkts = x.pkts ∧ t.mem = s.mem) ∧
      (sumsOk r.bytes = true → runs → fits → again → y.dup = min (x.dup + 1) 65535 ∧ y.early = x.early ∧ y.late = x.late ∧
        y.pkts = x.pkts.map (fun k => if (k.due : Int) = due then k.got path else k) ∧ t.mem = s.mem) ∧
      (sumsOk r.bytes = true → runs → fits → ¬again → (r.now : Int) + depth - p < due →
        y.early = min (x.early + 1) 65535 ∧ y.pkts = x.pkts ∧ t.mem = s.mem) ∧
      (sumsOk r.bytes = true → runs → fits → ¬again → due ≤ (r.now : Int) + depth - p → (due ≤ r.tick ∨ stampTick s r < 0) →
        y.late = min (x.late + 1) 65535 ∧ y.pkts = x.pkts ∧ t.mem = s.mem) ∧
      (sumsOk r.bytes = true → runs → fits → ¬again → due ≤ (r.now : Int) + depth - p → r.tick < due → 0 ≤ stampTick s r →
        ∃ k, y.pkts = x.pkts ++ [k] ∧ (k.due : Int) = due ∧ k.gotA = decide (path = 0) ∧ k.gotB = decide (path = 1))) ∧
  (∀ ph, s.runs →
    let x := sget {} i.val s.net.ins
    let lo := wfield (s.descWord 0 i 1) 0 16
    x.run = true → x.phase = some ph → x.deadline ≠ some s.tick → ph + lo ≤ s.tick → (s.tick - ph - lo) % s.streamP 0 i = 0 →
    Answers (.streamPacketDeadline i) s fun t =>
      let y := sget {} i.val t.net.ins
      y.deadline = some s.tick ∧ y.pkts = x.pkts ∧
      ((∀ k ∈ x.pkts, k.due ≠ s.tick) → y.lost = min (x.lost + 1) 65535 ∧ Raised t Src.NET_LOSS) ∧
      ((∃ k ∈ x.pkts, k.due = s.tick) → y.lost = x.lost)) ∧
  (∀ p, s.runs → s.isStandby = true → s.on Reg.NET_CTRL.WATCH_EN = true → s.shortestP = some p → 2 * p ≤ s.net.quiet →
    Answers .partnerAbsent s fun t => t.on Reg.NET_STATUS.PARTNER_ABSENT = true ∧ t.net = s.net) ∧
  (s.runs → s.isStandby = false → Answers .partnerAbsent s fun t => t = s)

namespace Sys2Proof.Claims

/-- A counter field went up by one, saturating at its width. -/
def Bumped (s t : State) (f : FieldRef) : Prop := t.rd f = min (s.rd f + 1) (2 ^ f.width - 1)

/-- The lock state in which a lane begins: HUNT where its role and settings let it receive blocks, else off (13 R285). -/
def startLock (s : State) (n r : Nat) : Nat :=
  if r = 1 ∨ r = 4 ∨ ((r = 2 ∨ r = 3) ∧ s.on (Reg.FLX_CFG.RXEN n) = true) then 1 else 0

/-- Only lane `n` of the lanes' records may differ, and memory is as before. -/
def LaneOnly (s t : State) (n : Nat) : Prop := (∀ k, k ≠ n → t.laneRec k = s.laneRec k) ∧ t.mem = s.mem

/-- The blocks close a whole frame of `g` groups under the marker's FCRC (13 R281, R282). -/
def WholeFrame (g : Nat) (l : List Block) (fcrc : Nat) : Prop :=
  9 * g + 1 ≤ l.length ∧ (∀ b ∈ l.take (9 * g + 1), b.1 = 0b01) ∧ blocksCrc (l.take (9 * g + 1)) = fcrc

end Sys2Proof.Claims

/-- SerDes lanes (13 R274-R277, R285, R295). -/
def Obligations.LanesAndLocks : Prop :=
  ∀ (n : Fin 16) (half : Fin 2) (b : Fin 66) (v : Word) (x y : BitVec 8) (s : State), s.held = false →
  (let a := 0x120000 + n.val * 0x40
    let r := wfield v 0 3
    let old := s.word ((fieldsAt a).getD []);
    (s.alone → rolePermitted n r = true → (s.boot.badLanes.getLsbD n = false ∨ r = 0) → Admitted a v →
      Answers (.laneCfgWrite n v) s fun t => t.role n = r ∧ (t.laneRec n).lock = startLock s n r ∧ LaneOnly s t n ∧
        (laneRates old ≠ laneRates v → t.on (Reg.LANE_STATUS.CAL_DONE n) = false) ∧
        (laneRates old = laneRates v → t.rd (Reg.LANE_STATUS.CAL_DONE n) = s.rd (Reg.LANE_STATUS.CAL_DONE n))) ∧
    (s.alone → rolePermitted n r = false → Answers (.laneCfgWrite n v) s fun t =>
      t.role n = s.role n ∧ t.lane = s.lane ∧ t.mem = s.mem ∧ t.on (Reg.LANE_STATUS.CFG_REFUSED n) = true ∧
      Raised t Src.CTL_REFUSED)) ∧
  (s.on (Reg.LANE_STATUS.CAL_DONE n) = false → Answers (.laneCalDone n) s fun t =>
    t.on (Reg.LANE_STATUS.CAL_DONE n) = true ∧ (t.laneRec n).lock = startLock s n (s.role n) ∧ LaneOnly s t n) ∧
  (s.on (Reg.LANE_STATUS.CAL_DONE n) = true → Answers (.laneCalDone n) s fun t => t = s) ∧
  (s.on (Reg.LANE_STATUS.LOS n) = false → Answers (.losAssert n) s fun t =>
    t.on (Reg.LANE_STATUS.LOS n) = true ∧ t.on (Reg.LANE_STATUS.LOS_EV n) = true ∧ LaneOnly s t n ∧
    (t.laneRec n).lock = min (s.laneRec n).lock 1 ∧ (s.role n ≠ 0 → Raised t Src.LANE_LOS)) ∧
  (s.on (Reg.LANE_STATUS.LOS n) = true → Answers (.losAssert n) s fun t => t = s) ∧
  (s.on (Reg.LANE_STATUS.LOL n) = false → Answers (.lolAssert n) s fun t =>
    t.on (Reg.LANE_STATUS.LOL n) = true ∧ t.on (Reg.LANE_STATUS.LOL_EV n) = true ∧ LaneOnly s t n ∧
    (t.laneRec n).lock = min (s.laneRec n).lock 1 ∧ (s.role n ≠ 0 → Raised t Src.LANE_LOS)) ∧
  (s.on (Reg.LANE_STATUS.LOL n) = true → Answers (.lolAssert n) s fun t => t = s) ∧
  (Answers (.losClear n) s fun t => t.on (Reg.LANE_STATUS.LOS n) = false ∧ t.lane = s.lane ∧ t.mem = s.mem) ∧
  (let ok := if n.val < 8 then s.on Reg.LANE_GSTATUS.REFCLK0_OK else s.on Reg.LANE_GSTATUS.REFCLK1_OK;
    (ok = true → Answers (.lolClear n) s fun t =>
      t.on (Reg.LANE_STATUS.LOL n) = false ∧ t.lane = s.lane ∧ t.mem = s.mem) ∧
    (ok = false → Answers (.lolClear n) s fun t => t = s)) ∧
  (let f := if half.val = 0 then Reg.LANE_GSTATUS.REFCLK0_OK else Reg.LANE_GSTATUS.REFCLK1_OK;
    (Answers (.refclkSdLoss half false) s fun t => t.on f = false ∧ t.mem = s.mem ∧
      (∀ j, j < 8 → t.on (Reg.LANE_STATUS.LOL (8 * half + j)) = true) ∧
      (∀ k, k / 8 ≠ half.val → t.laneRec k = s.laneRec k)) ∧
    (Answers (.refclkSdLoss half true) s fun t => t = s.put f true)) ∧
  ((s.laneRec n).lock = 1 → s.mayAcquire n = true → Answers (.blockLock n b) s fun t =>
    t.rd (Reg.LANE_STATUS.SLIP n) = b ∧ (t.laneRec n).lock = (if s.role n = 1 then 3 else 2) ∧ LaneOnly s t n) ∧
  (((s.laneRec n).lock ≠ 1 ∨ s.mayAcquire n = false) → Answers (.blockLock n b) s fun t => t = s) ∧
  (2 ≤ (s.laneRec n).lock → Answers (.blockLockLoss n) s fun t =>
    (t.laneRec n).lock = 1 ∧ t.rd (Reg.LANE_STATUS.SLIP n) = s.rd (Reg.LANE_STATUS.SLIP n) ∧ LaneOnly s t n ∧
    (s.isFlx n = true → (s.laneRec n).lock = 3 → t.on (Reg.FLX_STATUS.LOCKLOST n) = true ∧ RaisedSome t Src.FLX_LOCK)) ∧
  ((s.laneRec n).lock < 2 → Answers (.blockLockLoss n) s fun t => t = s) ∧
  (s.alone → Admitted (0x120014 + n.val * 0x40) v → v.getLsbD 0 = true → Answers (.marginStart n v) s fun t =>
    t.on (Reg.LANE_MARGIN.START n) = true ∧ t.lane = s.lane ∧ t.mem = s.mem) ∧
  (s.on (Reg.LANE_MARGIN.START n) = true → Answers (.marginDone n x y) s fun t =>
    t.on (Reg.LANE_MARGIN.START n) = false ∧ t.rd (Reg.LANE_MARGIN.HOPEN n) = x.toNat ∧
    t.rd (Reg.LANE_MARGIN.VOPEN n) = y.toNat ∧ t.lane = s.lane ∧ t.mem = s.mem) ∧
  (s.on (Reg.LANE_MARGIN.START n) = false → Answers (.marginDone n x y) s fun t => t = s) ∧
  (∀ (bits : List Bool) (k : Nat),
    let pat := s.rd (Reg.LANE_CFG.PATTERN n)
    let t := s.prbsTick ⟨n, bits, k⟩
    let h := (s.laneRec n).prbsIn;
    (s.role n ≠ 6 → t = s) ∧
    (s.role n = 6 → s.on (Reg.LANE_STATUS.CAL_DONE n) = true → LaneOnly s t n ∧ (t.laneRec n).prbsOut.length = k ∧
      ((s.on (Reg.LANE_STATUS.LOS n) = true ∨ s.on (Reg.LANE_STATUS.LOL n) = true) →
        t.rd (Reg.LANE_PRBSCNT.ERR n) = min (2 ^ 32 - 1) (s.rd (Reg.LANE_PRBSCNT.ERR n)) ∧ (t.laneRec n).prbsIn = []) ∧
      (s.on (Reg.LANE_STATUS.LOS n) = false → s.on (Reg.LANE_STATUS.LOL n) = false → s.on (Reg.LANE_CFG.RXPOL n) = false →
        (t.laneRec n).prbsIn = (bits.reverse ++ h).take 31 ∨ (bits = [] ∧ (t.laneRec n).prbsIn = h)) ∧
      (s.on (Reg.LANE_STATUS.LOS n) = false → s.on (Reg.LANE_STATUS.LOL n) = false → s.on (Reg.LANE_CFG.RXPOL n) = false →
        31 ≤ h.length → bits = (prbsSend pat k h).1 →
        t.rd (Reg.LANE_PRBSCNT.ERR n) = min (2 ^ 32 - 1) (s.rd (Reg.LANE_PRBSCNT.ERR n)))))

/-- Flitex links (13 R278-R292). -/
def Obligations.FlitexFramesAndCells : Prop :=
  ∀ (n : Fin 16) (ph : BitVec 12) (idle : BitVec 16) (e : BitVec 15) (u : BitVec 4) (m : BitVec 64) (l : List Block) (v : Word)
    (q p8 lk : BitVec 8) (fc : Word) (bytes c : List Byte) (s : State),
  (s.runs → s.role n = 2 → s.on (Reg.FLX_CFG.TXEN n) = true → s.ccOpen n = false →
    let g := s.rd (Reg.FLX_CFG.TXGRP n)
    let words := s.egressWords 6 n (16 * g)
    let body := ((List.range g).flatMap fun k => groupBlocks ((words.drop (16 * k)).take 16)) ++ [s.linkBlock n]
    let cells := List.replicate (cellCount (s.on (Reg.LANE_CFG.TXRATE n)) s.mult) emptyCell
    let out := markerBlock (s.tick % 256) ph.toNat (s.laneRec n).fcrc :: body ++ cells.flatMap cellBlocks
    let line := scrambleBlocks (s.laneRec n).scr (List.replicate idle.toNat idleBlock ++ out)
    Answers (.flxFrameTx n ⟨ph, idle⟩) s fun t => t.regs = s.regs ∧ LaneOnly s t n ∧
      t.laneRec n = { s.laneRec n with out := out, wire := line.2, scr := line.1, fcrc := blocksCrc body }) ∧
  (s.runs → s.role n = 3 → s.on (Reg.FLX_CFG.TXEN n) = true → Answers (.flxFrameTx n ⟨ph, idle⟩) s fun t => t.regs = s.regs ∧ LaneOnly s t n ∧
    (t.laneRec n).outBytes.length = 7 + 72 * s.rd (Reg.FLX_CFG.TXGRP n) ∧
    (t.laneRec n).codes.length = idle.toNat + 1 + (t.laneRec n).outBytes.length ∧
    (t.laneRec n).fcrc = crc32 ((t.laneRec n).outBytes.drop 7) ∧
    (t.laneRec n).outBytes.take 6 = BitVec.ofNat 8 s.tick :: BitVec.ofNat 8 ph.toNat :: leBytes 4 (s.laneRec n).fcrc) ∧
  (s.runs → (s.role n = 2 ∨ s.role n = 3) → s.on (Reg.FLX_CFG.TXEN n) = false → Answers (.flxFrameTx n ⟨ph, idle⟩) s fun t => t = s) ∧
  (s.runs → (s.role n < 2 ∨ 4 < s.role n) → Answers (.flxFrameTx n ⟨ph, idle⟩) s fun t => t = s) ∧
  (let w := m.toNat
    let x := s.laneRec n
    let sq := w / 2 ^ 8 % 256
    let at0 := s.completion e.toNat u.toNat 10 (w / 2 ^ 16 % 4096)
    let next := x.seq = some ((sq + 255) % 256) ∧ (x.valid < 2 ∨ projected x.cs at0 = true)
    let g := s.rd (Reg.FLX_CFG.RXGRP n)
    let k := cellCount (s.on (Reg.LANE_CFG.RXRATE n)) s.mult
    let link := (l.getD (9 * g) (0, 0)).2.toNat
    s.held = false → s.role n = 2 →
    (x.lock = 2 → w % 256 = 0xD2 → Answers (.flxMarker n e u m l) s fun t =>
      (t.laneRec n).lock = 3 ∧ (t.laneRec n).seq = some sq ∧ t.rd (Reg.FLX_STATUS.STATE n) = 3 ∧ LaneOnly s t n) ∧
    (x.lock = 2 → w % 256 ≠ 0xD2 → Answers (.flxMarker n e u m l) s fun t => t = s) ∧
    (x.lock < 2 → Answers (.flxMarker n e u m l) s fun t => t = s) ∧
    (x.lock = 3 → x.opened = true → w % 256 = 0xD2 → next → WholeFrame g l (w / 2 ^ 32) →
      tailLegal (l.drop (9 * g + 1)) k = true → g ≤ 256 → link % 512 = g → link / 2 ^ 9 % 4 = s.mult → x.frames.length < 2 →
      Answers (.flxMarker n e u m l) s fun t =>
        (t.laneRec n).frames = x.frames ++ [⟨(sq + 255) % 256, at0, frameWords g l⟩] ∧ (t.laneRec n).lock = 3 ∧
        (t.laneRec n).seq = some sq ∧ (t.laneRec n).miss = 0 ∧ t.rd (Reg.FLX_CNT_0.FCRC n) = s.rd (Reg.FLX_CNT_0.FCRC n) ∧
        t.on (Reg.FLX_STATUS.MISMATCH n) = false ∧ LaneOnly s t n) ∧
    (x.lock = 3 → x.opened = true → w % 256 = 0xD2 → next → (∀ g', g' ≤ 256 → ¬ WholeFrame g' l (w / 2 ^ 32)) → g ≤ 256 →
      Answers (.flxMarker n e u m l) s fun t =>
        (t.laneRec n).frames = x.frames ∧ Bumped s t (Reg.FLX_CNT_0.FCRC n) ∧ Raised t Src.FLX_CRC ∧
        (t.laneRec n).lock = 3 ∧ LaneOnly s t n) ∧
    (∀ z, (x.lock = 3 ∨ x.lock = 4) → x.seq = some z → (z + 1) % 256 ≠ sq → Answers (.flxMarker n e u m l) s fun t =>
      (t.laneRec n).frames = x.frames ∧ Bumped s t (Reg.FLX_CNT_0.FCRC n) ∧ Bumped s t (Reg.FLX_CNT_1.MARKER n) ∧
      RaisedSome t Src.FLX_CRC ∧ (t.laneRec n).lock = (if x.lock = 3 ∧ x.miss = 0 then 3 else 4) ∧ LaneOnly s t n) ∧
    (x.lock = 4 → x.opened = false → w % 256 = 0xD2 → next → Answers (.flxMarker n e u m l) s fun t =>
      (t.laneRec n).lock = 3 ∧ (t.laneRec n).seq = some sq ∧ (t.laneRec n).miss = 0 ∧ (t.laneRec n).frames = x.frames ∧
      LaneOnly s t n)) ∧
  (s.held = false → (s.laneRec n).lock = 3 → Answers (.markerLoss n) s fun t =>
    Bumped s t (Reg.FLX_CNT_1.MARKER n) ∧ (t.laneRec n).lock = (if (s.laneRec n).miss = 0 then 3 else 4) ∧
    (t.laneRec n).opened = false ∧ LaneOnly s t n) ∧
  (s.held = false → (s.laneRec n).lock < 3 → Answers (.markerLoss n) s fun t => t = s) ∧
  (s.held = false → s.role n = 3 → (s.laneRec n).lock = 2 → p8.toNat ≤ 62 →
    Answers (.flx1Marker n e u q p8 fc lk bytes) s fun t => (t.laneRec n).seq = some q.toNat ∧ LaneOnly s t n ∧
      (t.laneRec n).lock = (if (s.laneRec n).seq = some ((q.toNat + 255) % 256) ∧
        s.tickApart ((s.laneRec n).cs.headD 0) (s.completion e.toNat u.toNat 316 p8.toNat) = true then 3 else 2)) ∧
  (let x := s.laneRec n
    let r := s.ccRx n
    let one := cellOk c = true ∧ cellFirst c = true ∧ cellLast c = true
    let deaf := s.role n ≠ 4 ∧ (s.role n ≠ 2 ∨ x.lock ≠ 3 ∨ s.on (Reg.FLX_CC_CTRL.EN n) = false ∨
      s.on (Reg.FLX_STATUS.FAR_RXLOCK n) = false ∨ fb c 0 = 0)
    s.held = false → c.length = 64 →
    (deaf → Answers (.cellRx n c) s fun t => t = s) ∧
    (s.ccOpen n = true → fb c 0 ≠ 0 → x.cells = [] →
      (cellLast c = false → Answers (.cellRx n c) s fun t => t = s.onLane n fun z => { z with cells := [c] }) ∧
      (cellLast c = true → ¬ one → Answers (.cellRx n c) s fun t =>
        Bumped s t (Reg.FLX_CNT_1.CELLERR n) ∧ t.laneRec n = { x with freed := (x.freed + 1) % 65536 } ∧ LaneOnly s t n) ∧
      (one → s.ccOwned r = none → Answers (.cellRx n c) s fun t => t = s.onLane n fun z => { z with cells := [c] }) ∧
      (∀ a, one → s.ccOwned r = some a → Answers (.cellRx n c) s fun t =>
        let b := s.load a 4
        let k := fb c 2
        t.load (a + 4) 4 = k ∧
        ((b + k ≤ a + 4 ∨ a + 8 ≤ b) → ∀ j, j < k → t.byte (b + j) = c.getD (4 + j) 0) ∧
        (∀ z, (z < b ∨ b + k ≤ z) → (z < a + 4 ∨ a + 8 ≤ z) → t.byte z = s.byte z) ∧
        t.laneRec n = { x with rxHead := r.advance, freed := (x.freed + 1) % 65536 } ∧
        (∀ i, i ≠ n.val → t.laneRec i = s.laneRec i)))) ∧
  (s.alone → Admitted (0x130020 + n.val * 0x40) v → (s.laneRec n).cells = [] → s.rd (Reg.FLX_CC_CTRL.TXSIZE n) = 0 →
    Answers (.flxCcTxTail n v) s fun t => t.rd (Reg.FLX_CC_PTR.TXTAIL n) = (Reg.FLX_CC_PTR.TXTAIL n).part v ∧
      t.rd (Reg.FLX_CC_PTR.RXTAIL n) = (Reg.FLX_CC_PTR.RXTAIL n).part v ∧ t.lane = s.lane ∧ t.mem = s.mem)

namespace Sys2Proof.Claims

/-- Both tether lanes are LOCKED on a chip with a tether, which is not up (14 R302). -/
def TetherMayRise (s : State) : Prop :=
  s.held = false ∧ s.pairSt ≠ 0 ∧ s.tetherUp = false ∧ s.role 12 = 4 ∧ s.role 13 = 4 ∧ (s.laneRec 12).lock = 3 ∧
  (s.laneRec 13).lock = 3

/-- The pairing checks of 14 R302 pass against what the partner reports. -/
def PeerAgrees (s : State) (p : PeerInfo) : Prop :=
  p.image = s.ctl.imageSha ∧ p.part.toNat = s.rd Reg.CHIP_ID.PART ∧ p.rev.toNat = s.rd Reg.CHIP_REV.REV ∧
  p.side.toNat ≠ s.rd Reg.TTH_STATUS.SIDE ∧ p.paired = true ∧ p.fam441.toNat = s.rd Reg.CLK_STATUS.FAMILY ∧
  p.mult.toNat = s.mult

/-- STANDBY_FAULTY with a reason (14 R301). -/
def FaultyFor (t : State) (reason : Nat) : Prop := t.pairSt = 4 ∧ t.rd Reg.TTH_STATUS.REASON = reason

/-- The parts of the node that pair states do not touch: memory, the matrix, the engines, the audio paths. -/
def AudioKept (s t : State) : Prop := t.mem = s.mem ∧ t.mtx = s.mtx ∧ t.eng = s.eng ∧ t.egr = s.egr ∧ t.ser = s.ser

/-- A word of the partner's pair words. -/
def peerWord (s : State) (i : Nat) : Word := sget 0 i s.tth.peer

/-- A mirror boundary falls at a tick (14 R312). -/
def MirrorAt (s : State) (k : Nat) : Prop := k % max 1 (s.rd Reg.TTH_CTRL.MIRROR) = 0

end Sys2Proof.Claims

/-- The pair's states (14 R301-R320). -/
def Obligations.PairFailover : Prop :=
  ∀ (p : PeerInfo) (dly : BitVec 10) (low : Bool) (v : Word) (s : State),
  (TetherMayRise s → s.paired = true → PeerAgrees s p → Answers (.tetherUp p dly) s fun t =>
    t.tetherUp = true ∧ t.rd Reg.TTH_DELAY.DELAY = dly.toNat ∧ t.tth.checked = true ∧ t.pairSt = s.pairSt ∧ t.flt = s.flt ∧
    AudioKept s t) ∧
  (TetherMayRise s → s.paired = true → ¬ PeerAgrees s p → Answers (.tetherUp p dly) s fun t =>
    t.tetherUp = true ∧ t.tth.checked = false ∧ t.on Reg.TTH_STATUS.MISMATCH = true ∧ RaisedSome t Src.PAIR_CHECK ∧
    (s.pairSt = 1 → t.pairSt = 1) ∧ (s.pairSt ≠ 1 → FaultyFor t 5) ∧ AudioKept s t) ∧
  (¬ TetherMayRise s → Answers (.tetherUp p dly) s fun t => t = s) ∧
  (∀ a b, s.held = false → s.tetherUp = true → s.tetherPair = some (a, b) → s.paired = true → Answers .tetherFrame s fun t =>
    let w := twWord b.words
    t.tth.frames.head? = some ⟨a.seq, max a.c b.c, a.words, b.words⟩ ∧ t.tth.beat = true ∧ t.peerSt = w 0 / 2 ^ 16 % 8 ∧
    (∀ i, i < 128 → peerWord t i = (b.words.getD i (0, 0)).1) ∧ AudioKept s t ∧
    (s.pairSt = 1 → t.tth.acked = some (w 7 % 65536) ∧ t.pairSt = 1) ∧
    (s.isStandby = true → w 7 / 65536 % 2 = 1 → t.tth.apply = some (w 7 % 65536, w 8)) ∧
    (∀ x, s.pairSt = 3 → sfind ((a.seq + 255) % 256) s.tth.sweepOwn = some x → w 6 / 256 % 2 = 1 → w 4 + w 5 * 2 ^ 32 + 1 ≠ x →
      FaultyFor t 2 ∧ Bumped s t Reg.TTH_DIGEST.SWEEP)) ∧
  (s.held = false → (s.tetherUp = false ∨ s.tetherPair = none) → Answers .tetherFrame s fun t => t = s) ∧
  (s.held = false → s.on Reg.FLT_TEST.TESTMODE = false → Answers (.peerFailEdge low) s fun t => t.on Reg.TTH_STATUS.PEER_FAIL = low ∧ t.pairSt = s.pairSt ∧
    AudioKept s t ∧ (low = true → s.on Reg.TTH_STATUS.PEER_FAIL = false → s.pairSt = 1 → Raised t Src.PAIR_PEER) ∧
    ((low = false ∨ s.pairSt ≠ 1) → t.flt = s.flt)) ∧
  (s.on Reg.FLT_TEST.TESTMODE = true → Answers (.peerFailEdge low) s fun t => t = s) ∧
  (s.runs → s.paired = true → s.tth.beat = false → s.tth.noBeat = 2 → Answers .heartbeatLoss s fun t =>
    t.tth.noBeat = 3 ∧ Bumped s t Reg.TTH_CNT.HBLOSS ∧ t.pairSt = s.pairSt ∧ AudioKept s t) ∧
  ((s.paired = false ∨ s.tth.beat = true ∨ s.tth.noBeat ≠ 2) → Answers .heartbeatLoss s fun t => t = s) ∧
  (s.runs → s.takeTrigger = true → s.tick + 1 < 2 ^ 64 → Answers .takeover s fun t =>
    t.pairSt = 1 ∧ t.rd Reg.TTH_TAKE_LO.TICK = (s.tick + 1) % 2 ^ 32 ∧ t.rd Reg.TTH_TAKE_HI.TICK = (s.tick + 1) / 2 ^ 32 ∧
    Bumped s t Reg.TTH_CNT.TAKEOVERS ∧ RaisedSome t Src.PAIR_TAKEOVER ∧ (s.pairSt ≠ 3 → Raised t Src.PAIR_DEGRADED) ∧
    t.tth.everActive = true ∧ t.mem = s.mem ∧ t.mtx = s.mtx ∧ t.eng = s.eng) ∧
  (s.takeTrigger = false → Answers .takeover s fun t => t = s) ∧
  (s.held = false → s.pairSt = 4 → s.tth.everTether = false → s.tth.everActive = false → s.on Reg.TTH_STATUS.PEER_ACTIVE = false →
    s.mayLead = true → Answers .pairWaitExpiry s fun t => t.pairSt = 1 ∧ AudioKept s t) ∧
  ((s.pairSt ≠ 4 ∨ s.tth.everTether = true ∨ s.tth.everActive = true ∨ s.on Reg.TTH_STATUS.PEER_ACTIVE = true ∨ s.mayLead = false) →
    Answers .pairWaitExpiry s fun t => t = s) ∧
  (s.runs → s.pairSt = 1 → s.tetherUp = true → (peerWord s 0).getLsbD 19 = true → s.tth.split = false → s.tth.age < 2 ^ 32 →
    ((s.tth.age < (peerWord s 1).toNat ∨ (s.tth.age = (peerWord s 1).toNat ∧ s.on Reg.TTH_STATUS.SIDE = true)) →
      Answers .splitBrainYield s fun t => FaultyFor t 6 ∧ RaisedSome t Src.PAIR_SPLIT ∧ Bumped s t Reg.TTH_CNT.SPLITS ∧
        AudioKept s t) ∧
    ((peerWord s 1).toNat < s.tth.age → s.flt.faultLow = false → Answers .splitBrainYield s fun t => t.pairSt = 1 ∧
      Raised t Src.PAIR_SPLIT ∧ Bumped s t Reg.TTH_CNT.SPLITS ∧ AudioKept s t)) ∧
  (s.held = false → s.flt.auditList = [] → Admitted 0x140000 v → v.getLsbD 0 = true →
    (s.pairSt = 1 → s.peerSt = 3 → Answers (.swapRequest v) s fun t => t.on Reg.TTH_CTRL.SWAP = true ∧
      (∃ b, t.tth.swapAt = some b ∧ MirrorAt s b ∧ s.tick + 5 ≤ b ∧ b < s.tick + 5 + max 1 (s.rd Reg.TTH_CTRL.MIRROR)) ∧
      t.pairSt = 1 ∧ AudioKept s t) ∧
    ((s.pairSt ≠ 1 ∨ s.peerSt ≠ 3) → Answers (.swapRequest v) s fun t => t.on Reg.TTH_CTRL.SWAP = false ∧
      t.on Reg.TTH_STATUS.SWAP_REF = true ∧ t.tth = s.tth ∧ t.pairSt = s.pairSt ∧ AudioKept s t)) ∧
  (s.runs → s.pairSt = 1 → s.tth.swapAt = some (s.tick + 1) →
    (s.peerSt = 3 → Answers .swap s fun t => t.pairSt = 3 ∧ t.on Reg.TTH_CTRL.SWAP = false ∧ t.tth.log = s.tth.log ∧
      AudioKept s t) ∧
    (s.peerSt ≠ 3 → Answers .swap s fun t => t.pairSt = 1 ∧ t.on Reg.TTH_CTRL.SWAP = false ∧
      t.on Reg.TTH_STATUS.SWAP_REF = true ∧ t.tth.log = s.tth.log ∧ AudioKept s t)) ∧
  (s.runs → s.pairSt = 3 → s.mayLead = true → MirrorAt s (s.tick + 1) → Answers .swap s fun t =>
    t.pairSt = 1 ∧ t.tth.log = s.tth.log ∧ Bumped s t Reg.TTH_CNT.TAKEOVERS ∧ Raised t Src.PAIR_TAKEOVER ∧ AudioKept s t) ∧
  (s.held = false → s.tth.prearm = true → Answers .prearmEnd s fun t => t.tth = { s.tth with prearm := false } ∧
    t.on Reg.TTH_STATUS.PREARM = (s.isStandby && (peerWord s 0).getLsbD 21) ∧ AudioKept s t) ∧
  (s.tth.prearm = false → Answers .prearmEnd s fun t => t = s) ∧
  (∀ n, s.held = false → s.isStandby = true → s.on Reg.TTH_STATUS.PREARM = false → s.nextMarginLane = some n →
    Answers .stbyMarginRotation s fun t => t.on (Reg.LANE_MARGIN.START n) = true ∧
      t.tth = { s.tth with marginLane := (n + 1) % 16 } ∧ AudioKept s t) ∧
  ((s.isStandby = false ∨ s.on Reg.TTH_STATUS.PREARM = true) → Answers .stbyMarginRotation s fun t => t = s)

/-- The pair's log, mirror and resync (14 R309-R324). -/
def Obligations.PairLogMirrorResync : Prop :=
  ∀ (a : Nat) (v : Word) (items : MirrorItems) (rep : ReplayItems) (s : State),
  (∀ fs, s.held = false → s.paired = true → a < 0x170000 → a ≠ 0x100 → actsLocally a = false → fieldsAt a = some fs →
    hasControl fs = true →
    (s.pairSt = 1 → s.tth.log.length < 8192 → Answers (.controlChangeLog a v) s fun t =>
      t.tth = { s.tth with
        log := s.tth.log ++ [⟨s.tth.nextSeq, a, 4, (withoutW1c fs v).toNat⟩], nextSeq := (s.tth.nextSeq + 1) % 65536 } ∧
      t.rd Reg.TTH_LOG.FREE = 8191 - s.tth.log.length ∧
      (∀ q : FieldRef, q.key ≠ Reg.TTH_LOG.FREE.key → (∀ f ∈ fs, f.acc = .w1c → q.key ≠ f.ref.key) → t.rd q = s.rd q) ∧
      t = { s with regs := t.regs, tth := t.tth }) ∧
    (s.pairSt = 1 → 8192 ≤ s.tth.log.length → Answers (.controlChangeLog a v) s fun t =>
      t.tth = s.tth ∧ t.on Reg.TTH_LOG.FULL_ERR = true ∧ RaisedSome t Src.PAIR_LOG ∧ t.bus.err = true ∧ AudioKept s t) ∧
    (s.pairSt ≠ 1 → Answers (.controlChangeLog a v) s fun t =>
      t.tth = s.tth ∧ t.on Reg.TTH_LOG.STBY_WR = true ∧ Raised t Src.CTL_REFUSED ∧ t.bus.err = true ∧ AudioKept s t)) ∧
  ((s.paired = false ∨ actsLocally a = true) → Answers (.controlChangeLog a v) s fun t => t = s) ∧
  (s.runs → s.pairSt = 1 → MirrorAt s (s.tick + 4) → (∀ q, s.tth.apply ≠ some (q, s.tick + 4)) →
    (∀ r, (s.tetherUp = false ∨ s.peerSt < 2 ∨ 4 < s.peerSt) → s.tth.log.getLast? = some r → Answers .applySeqFix s fun t =>
      t = { s with tth := { s.tth with apply := some (r.seq, s.tick + 4) } }) ∧
    (∀ l r m, s.tetherUp = true → 2 ≤ s.peerSt → s.peerSt ≤ 4 → s.tth.bulkWait = [] → s.tth.log = l ++ r :: m →
      (∀ x ∈ l, x.seq ≠ r.seq) → s.tth.acked = some r.seq → Answers .applySeqFix s fun t =>
      t = { s with tth := { s.tth with apply := some (r.seq, s.tick + 4) } })) ∧
  ((s.pairSt ≠ 1 ∨ ¬ MirrorAt s (s.tick + 4)) → Answers .applySeqFix s fun t => t = s) ∧
  (s.runs → s.flt.auditList = [] → s.paired = true → MirrorAt s s.tick →
    (∀ q r m, s.tth.apply = some (q, s.tick) → s.tth.log = ⟨q, 0xA0020, 4, r⟩ :: m → r < 2304 → m.length < 8192 →
      Answers .applyTick s fun t => t.rd Reg.MTX_ROW_SEL.INDEX = r ∧ t.tth.log = m ∧
        t.rd Reg.TTH_LOG.FREE = 8192 - m.length ∧ t.pairSt = s.pairSt ∧ AudioKept s t ∧
        ∀ f : FieldRef, f.key ≠ Reg.MTX_ROW_SEL.INDEX.key → f.key ≠ Reg.TTH_LOG.FREE.key → t.rd f = s.rd f) ∧
    ((∀ q, s.tth.apply ≠ some (q, s.tick)) → s.followsPeer = true → Answers .applyTick s fun t =>
      FaultyFor t 4 ∧ t.tth.log = s.tth.log ∧ AudioKept s t) ∧
    ((∀ q, s.tth.apply ≠ some (q, s.tick)) → s.followsPeer = false → Answers .applyTick s fun t => t = s)) ∧
  ((s.paired = false ∨ ¬ MirrorAt s s.tick) → Answers .applyTick s fun t => t = s) ∧
  (s.runs → (s.pairSt = 1 ∨ s.followsPeer = true) → MirrorAt s (s.tick + 8) → Answers .mirrorSnapshot s fun t =>
    t = { s with tth := { s.tth with mirror := s.mirrorCompared } }) ∧
  (((s.pairSt ≠ 1 ∧ s.followsPeer = false) ∨ ¬ MirrorAt s (s.tick + 8)) → Answers .mirrorSnapshot s fun t => t = s) ∧
  (s.runs → s.followsPeer = true → MirrorAt s s.tick →
    (items.compared ≠ s.tth.mirror → Answers (.mirrorLoad items) s fun t => FaultyFor t 8) ∧
    (∀ b l, items = ⟨s.tth.mirror, [], [(b, l)], [], {}⟩ → Answers (.mirrorLoad items) s fun t => t = { s with mem := t.mem } ∧
      (∀ j (h : j < l.length), t.byte (b + j) = l[j]) ∧ ∀ z, (z < b ∨ b + l.length ≤ z) → t.byte z = s.byte z) ∧
    (∀ d0 d1 d2 d3, items = ⟨s.tth.mirror, [d0, d1, d2, d3], [], [], {}⟩ → Answers (.mirrorLoad items) s fun t =>
      t.pairSt = s.pairSt ∧ AudioKept s t ∧ ∀ j (h : j < 4), let d := [d0, d1, d2, d3][j]
        (t.domain j).d = d.d ∧ (t.domain j).ofs = d.ofs ∧ t.inc j = d.inc % 2 ^ 64 ∧ t.onStep j = d.step)) ∧
  (s.runs → s.pairSt = 2 → s.rd Reg.TTH_RESYNC.STEP = 1 → MirrorAt s s.tick → ∀ bulk, items = ⟨s.tth.mirror, [], [], [], bulk⟩ →
    Answers (.mirrorLoad items) s fun t =>
      (∀ k a b l, bulk.hitches = l ++ [(true, k, a, b)] → sget {} k t.str.egress = ⟨a, b⟩) ∧
      (∀ k a b l, bulk.hitches = l ++ [(false, k, a, b)] → sget {} k t.str.ingress = ⟨a, b⟩) ∧
      (∀ k r l, bulk.rows = l ++ [(k, r)] → (sget {} k t.mtx.rows).live = r) ∧
      (∀ k c l, bulk.lists = l ++ [(k, c)] → (t.col k).live = c) ∧
      (∀ k v l, bulk.pages = l ++ [(k, v)] → sget 0 k t.livePage = v) ∧
      t.mem = s.mem ∧ t.tth = s.tth ∧ t.eng = s.eng ∧ t.egr = s.egr ∧ t.ser = s.ser) ∧
  ((s.followsPeer = false ∨ ¬ MirrorAt s s.tick) → Answers (.mirrorLoad items) s fun t => t = s) ∧
  (let w := s.rd Reg.TTH_CONV.W
    let k := s.tth.since + 1
    let st := s.rd Reg.TTH_RESYNC.STEP
    s.runs →
    (s.pairSt = 2 → st = 1 → Answers .resyncBulkDone s fun t => t.rd Reg.TTH_RESYNC.STEP = 2 ∧
      t.tth = { s.tth with rot := true, since := 0, heard := [] } ∧ t.rd Reg.TTH_RESYNC_POS.POSITION = 0 ∧
      t.mem = s.mem ∧ t.eng = s.eng ∧ t.egr = s.egr ∧ t.ser = s.ser ∧ t.str = s.str ∧ t.mtx = s.mtx) ∧
    (s.pairSt = 1 → s.peerSt = 2 → Answers .resyncBulkDone s fun t => t = { s with tth := { s.tth with rot := true, since := 0 } }) ∧
    (s.pairSt ≠ 1 → (s.pairSt ≠ 2 ∨ st ≠ 1) → Answers .resyncBulkDone s fun t => t = s) ∧
    (s.tth.rot = true → s.pairSt = 2 → st = 2 → 192 ≤ k → k < w + 256 → Answers .resyncRotateDone s fun t =>
      t = s.wr Reg.TTH_RESYNC.STEP 3) ∧
    ((s.tth.rot = false ∨ s.pairSt ≠ 2 ∨ st ≠ 2 ∨ k < 192) → Answers .resyncRotateDone s fun t => t = s) ∧
    (s.pairSt = 2 → s.tth.rot = true → k = w → Answers .resyncWReached s fun t => t = { s with tth := { s.tth with heard := [] } }) ∧
    ((s.pairSt ≠ 2 ∨ s.tth.rot = false ∨ k ≠ w) → Answers .resyncWReached s fun t => t = s) ∧
    (s.tth.rot = true → s.pairSt = 2 → (st = 2 ∨ st = 3) → 192 ≤ k → w + 256 ≤ k → Answers .resyncConvergeDone s fun t =>
      t.rd Reg.TTH_RESYNC.STEP = 4 ∧ t.tth = { s.tth with clean := 0, heard := [] } ∧ AudioKept s t) ∧
    ((s.tth.rot = false ∨ k < w + 256) → Answers .resyncConvergeDone s fun t => t = s) ∧
    (s.pairSt = 2 → st = 4 → 1000 ≤ s.tth.clean → Answers .resyncReady s fun t => t.pairSt = 3 ∧
      t.rd Reg.TTH_RESYNC.STEP = 0 ∧ t.rd Reg.TTH_RESYNC.PERCENT = 100 ∧ AudioKept s t) ∧
    ((s.pairSt ≠ 2 ∨ st ≠ 4 ∨ s.tth.clean < 1000) → Answers .resyncReady s fun t => t = s) ∧
    (s.pairSt = 2 → s.tth.rot = true → s.tth.since = w + 31 → Answers (.replayApply rep) s fun t =>
      (∀ c, (t.col c).live = (s.col c).live) ∧
      t = { s with tth := { s.tth with heard := t.tth.heard }, mtx := { s.mtx with rows := t.mtx.rows, nom := t.mtx.nom, cols := t.mtx.cols } }) ∧
    (s.pairSt = 2 → s.tth.rot = true → s.tth.since = w + 255 → Answers (.replayApply rep) s fun t =>
      t = { s with tth := { s.tth with heard := t.tth.heard }, egr := { s.egr with whip := t.egr.whip } }) ∧
    ((s.pairSt ≠ 2 ∨ s.tth.rot = false ∨ (s.tth.since ≠ w + 31 ∧ s.tth.since ≠ w + 255)) →
      Answers (.replayApply rep) s fun t => t = s))

namespace Sys2Proof.Claims

/-- The fabric has recorded an error response as the first since the record was last read (15 R339). -/
def ErrorKept (s t : State) (kind addr : Nat) : Prop :=
  Bumped s t Reg.FAB_CNT.ERRRESP ∧ t.on Reg.FAB_STATUS.ERRRESP = true ∧
  (s.on Reg.FAB_ERR_INFO.VALID = false → t.rd Reg.FAB_ERR_INFO.KIND = kind ∧ t.rd Reg.FAB_ERR_ADDR.ADDR = addr % 2 ^ 32 ∧
    t.on Reg.FAB_ERR_INFO.VALID = true) ∧
  (s.on Reg.FAB_ERR_INFO.VALID = true → t.rd Reg.FAB_ERR_INFO.KIND = s.rd Reg.FAB_ERR_INFO.KIND ∧
    t.rd Reg.FAB_ERR_ADDR.ADDR = s.rd Reg.FAB_ERR_ADDR.ADDR)

/-- Memory holds `n` bytes of `v` at `a`, and is as before elsewhere. -/
def StoredAt (s t : State) (a n v : Nat) : Prop :=
  t.load a n = v % 256 ^ n ∧ ∀ b, (b < a ∨ a + n ≤ b) → t.byte b = s.byte b

/-- The channel stands within a descriptor of operation `op` and may issue an element of it: the burst in hand goes on, or
the engine's choice at a burst boundary falls on it (15 R343, R348). -/
def DmaReady (s : State) (c op : Nat) : Prop :=
  s.runs ∧ s.dmaMay c = true ∧ (s.dmaCh c).op = op ∧ ((s.dmaCh c).newBursts = 0 ∨ s.dmaTurn = some c)

/-- An address of working RAM as M1 and M2 see it, with its codewords undamaged. -/
def RamAt (s : State) (a x : Nat) : Prop := placeOf false a = .ram x ∧ s.ramMarks x 4 = []

/-- Channel registers act at once: the DMA block is local, and no write of it is journaled. -/
def DmaWritable (s : State) : Prop := s.held = false ∧ s.flt.auditList = []

/-- The descriptor at an index reads undamaged as these four words (15 R344). -/
def DescAt (s : State) (n w0 w1 w2 w3 : Nat) : Prop :=
  s.ramMarks (descAddr n) 32 = [] ∧ s.load (descAddr n) 8 = w0 ∧ s.load (descAddr n + 8) 8 = w1 ∧
  s.load (descAddr n + 16) 8 = w2 ∧ s.load (descAddr n + 24) 8 = w3

end Sys2Proof.Claims

/-- The fabric (15 R329-R342). -/
def Obligations.FabricTransactions : Prop :=
  ∀ (t : Fin 5) (m : Fin 6) (h wr wide : Bool) (a : Word) (d : BitVec 64) (c : Nat) (v : Word) (s : State), s.held = false →
  (let j := if h then 3 else 0
    let p := placeOf (s.romFor j) a.toNat
    let n := if wide then 8 else 4
    (p ≠ .none → fabTarget a.toNat < 2 → Answers (.lockRead h wide a) s fun u =>
      (∃ q, u.fab.waiting = s.fab.waiting ++ [q] ∧ q.master = j ∧ q.write = false ∧ q.addr = a.toNat ∧ q.size = n ∧ q.lock = true) ∧
      u.fab.served = s.fab.served ∧ u.fab.lock = s.fab.lock ∧ u.mem = s.mem) ∧
    (p ≠ .none → 2 ≤ fabTarget a.toNat → Answers (.lockRead h wide a) s fun u =>
      u.fab = s.fab ∧ ErrorKept s u 4 a.toNat ∧ Raised u Src.FAB_ERR ∧ u.mem = s.mem) ∧
    (p = .none → Answers (.lockRead h wide a) s fun u =>
      u.fab = s.fab ∧ ErrorKept s u 1 a.toNat ∧ Raised u Src.FAB_ERR ∧ u.mem = s.mem) ∧
    (p ≠ .none → Answers (.unlock h wr wide a d) s fun u =>
      (∃ q, u.fab.waiting = s.fab.waiting ++ [q] ∧ q.master = j ∧ q.write = wr ∧ q.addr = a.toNat ∧ q.size = n ∧
        q.data = d.toNat % 256 ^ n ∧ q.unlock = true) ∧
      u.fab.served = s.fab.served ∧ u.fab.lock = s.fab.lock ∧ u.mem = s.mem)) ∧
  (∀ x y, sfind t.val s.fab.served = none → s.grantable t c = [x, y] → s.rd Reg.FAB_ARB.AGE = 0 →
    s.priority t x.master < s.priority t y.master → s.priority t y.master ≤ 15 → x.master < 6 → y.master < 6 →
    Answers (.fabricGrant t c) s fun u => sfind t.val u.fab.served = some ⟨y, c, false⟩ ∧
      u.fab.waiting = s.fab.waiting.erase y ∧ u.mem = s.mem ∧ (∀ k, k ≠ t.val → sfind k u.fab.served = sfind k s.fab.served) ∧
      u.fab.lock = (if y.lock then some ⟨y.master, t, c⟩ else s.fab.lock)) ∧
  ((∃ g, sfind t.val s.fab.served = some g) → Answers (.fabricGrant t c) s fun u =>
    u = { s with fab := { s.fab with now := max s.fab.now c } }) ∧
  (∀ g x, sfind t.val s.fab.served = some g → g.retired = false → placeOf g.req.rom g.req.addr = .ram x →
    s.ramTorn x g.req.size = false → s.ramMarks x g.req.size = [] → 0 < g.req.size →
    Answers (.fabricResponse t) s fun u => sfind t.val u.fab.served = none ∧ u.fab.waiting = s.fab.waiting ∧
      (g.req.write = true → StoredAt s u x g.req.size g.req.data) ∧
      (g.req.write = false → u.mem = s.mem ∧
        (g.req.port ≠ 0 → (∀ q ∈ s.fab.waiting, q.port ≠ g.req.port) → (∀ q ∈ s.fab.served, q.1 ≠ t.val → q.2.req.port ≠ g.req.port) →
          sfind g.req.port u.fab.answers = some ⟨s.load x g.req.size, false, 3, 0⟩)) ∧
      (∀ k, s.fab.lock = some ⟨g.req.master, t, k⟩ → u.fab.lock = if g.req.unlock then none else s.fab.lock)) ∧
  (sfind t.val s.fab.served = none → Answers (.fabricResponse t) s fun u => u = s) ∧
  (∀ l, s.fab.lock = some l →
    (l.since + 64 ≤ c → Answers (.lockBreak c) s fun u => u.fab.lock = none ∧ u.on Reg.FAB_STATUS.LOCK_BROKEN = true ∧
      u.on Reg.FAB_STATUS.LOCKED = false ∧ Bumped s u Reg.FAB_CNT.LOCKBRK ∧ Raised u Src.FAB_LOCK ∧ u.mem = s.mem ∧
      u.fab.waiting = s.fab.waiting.filter (fun q => decide (¬ (q.master = l.master ∧ fabTarget q.addr = l.target)))) ∧
    (c < l.since + 64 → Answers (.lockBreak c) s fun u => u = { s with fab := { s.fab with now := max s.fab.now c } })) ∧
  (m.val ≠ 0 → Answers (.masterReset m 0) s fun u => u.mem = s.mem ∧
    u.fab.waiting = s.fab.waiting.filter (fun q => decide (q.master ≠ m.val)) ∧
    (∀ p ∈ u.fab.served, p.2.req.master = m.val → p.2.retired = true) ∧ (∀ l, u.fab.lock = some l → l.master ≠ m.val) ∧
    (∀ k g, sfind k s.fab.served = some g → g.req.master ≠ m.val → sfind k u.fab.served = some g) ∧
    (∀ l, s.fab.lock = some l → l.master ≠ m.val → u.fab.lock = some l) ∧
    (0 < s.fab.outstanding m → u.on Reg.FAB_STATUS.RETIRED = true ∧ Raised u Src.FAB_RETIRE) ∧
    (s.fab.outstanding m = 0 → u.flt = s.flt)) ∧
  (∀ k, m.val = 0 → Answers (.masterReset m k) s fun u => u = s) ∧
  ((s.fab.served.map Prod.fst).Nodup → (∀ p ∈ s.fab.served, p.2.retired = true → p.2.req.size = 0) → Answers (.retireDrained m) s fun u => u.mem = s.mem ∧
    (∀ k g, sfind k s.fab.served = some g → g.req.master = m.val → g.retired = true → sfind k u.fab.served = none) ∧
    u.fab.waiting = s.fab.waiting) ∧
  (s.flt.auditList = [] → Answers (.remapWrite v) s fun u => u.rd Reg.FAB_REMAP.REMAP = v.toNat % 2 ∧ u.mem = s.mem) ∧
  (s.flt.auditList = [] → Answers (.regWrite 0x14 v) s fun u => u.rd Reg.CHIP_SCRATCH.DATA = v.toNat ∧ u.bus.err = false ∧
    u = { s with regs := u.regs, bus := u.bus } ∧ ∀ f : FieldRef, f.key ≠ Reg.CHIP_SCRATCH.DATA.key → u.rd f = s.rd f) ∧
  (c < 0x170000 → c % 4 ≠ 0 → Answers (.regWrite c v) s fun u => u.bus.err = true ∧ ErrorKept s u 3 (0x40000000 + c) ∧
    Raised u Src.CTL_REFUSED ∧ RaisedSome u Src.FAB_ERR ∧ u.mem = s.mem ∧ u.mtx = s.mtx ∧ u.str = s.str) ∧
  (0x170000 ≤ c → Answers (.regWrite c v) s fun u => u.bus.err = true ∧ ErrorKept s u 1 (0x40000000 + c) ∧
    Raised u Src.CTL_REFUSED ∧ u.mem = s.mem ∧ u.mtx = s.mtx ∧ u.str = s.str) ∧
  (∀ fs, c < 0x170000 → c % 4 = 0 → fieldsAt c = some fs → s.windowReg c = none → s.shownBit c = none →
    Answers (.rcRead c) s fun u => u.bus.data = (s.word fs).toNat ∧ u.bus.err = false ∧
      (∀ f ∈ fs, f.acc = .rc → u.rd f.ref = 0) ∧ u = { s with regs := u.regs, bus := u.bus } ∧
      ∀ q : FieldRef, (∀ f ∈ fs, f.acc = .rc → q.key ≠ f.ref.key) → u.rd q = s.rd q)

/-- Timeouts of the fabric (15 R338). -/
def Obligations.OverdueTransactionIsRetired : Prop := ∀ (t : Fin 5) (c : Nat) (g : FabGrant) (s : State),
  s.held = false → sfind t.val s.fab.served = some g →
  (g.retired = false → g.since + s.rd Reg.FAB_TMO.CYCLES ≤ c → Answers (.fabTimeout t c) s fun u =>
    sfind t.val u.fab.served = some { g with retired := true } ∧ u.fab.waiting = s.fab.waiting ∧
    Bumped s u Reg.FAB_CNT.TMO ∧ u.on Reg.FAB_STATUS.TIMEOUT = true ∧ ErrorKept s u 6 g.req.addr ∧
    Raised u Src.FAB_TMO ∧ RaisedSome u Src.FAB_ERR ∧ u.mem = s.mem ∧
    (g.req.port ≠ 0 → (∀ q ∈ s.fab.waiting, q.port ≠ g.req.port) → (∀ q ∈ s.fab.served, q.1 ≠ t.val → q.2.req.port ≠ g.req.port) →
      (s.fab.served.map Prod.fst).Pairwise (· < ·) → sfind g.req.port u.fab.answers = some ⟨0, true, 3, 0⟩)) ∧
  (g.retired = false → c < g.since + s.rd Reg.FAB_TMO.CYCLES → Answers (.fabTimeout t c) s fun u =>
    u = { s with fab := { s.fab with now := max s.fab.now c } }) ∧
  (g.retired = true → g.req.write = false → Answers (.fabricResponse t) s fun u =>
    sfind t.val u.fab.served = none ∧ u.fab.answers = s.fab.answers ∧ u.mem = s.mem ∧ u.flt = s.flt ∧ u.bus = s.bus ∧
    u.rd Reg.FAB_CNT.ERRRESP = s.rd Reg.FAB_CNT.ERRRESP) ∧
  (∀ x, g.retired = true → g.req.write = true → placeOf g.req.rom g.req.addr = .ram x → s.ramTorn x g.req.size = false →
    Answers (.fabricResponse t) s fun u => sfind t.val u.fab.served = none ∧ u.fab.answers = s.fab.answers ∧
      (u.mem = s.mem ∨ StoredAt s u x g.req.size g.req.data))

/-- DMA channels (15 R343-R353). -/
def Obligations.DmaChannels : Prop := ∀ (c : Fin 64) (v : Word) (s : State),
  let st := s.dmaState c
  let x := s.dmaCh c
  let kept := fun u : State => u.mem = s.mem ∧ ∀ k, k ≠ c.val → u.dmaCh k = s.dmaCh k ∧ u.dmaState k = s.dmaState k
  (∀ w0 w1 w2 w3, DmaWritable s → st ≠ 1 → st ≠ 2 → DescAt s (s.rd (Reg.DMA_CH_DESC.FIRST c)) w0 w1 w2 w3 →
    Answers (.dmaStart c) s fun u => kept u ∧ u.rd (Reg.DMA_CH_STATUS.CUR c) = s.rd (Reg.DMA_CH_DESC.FIRST c) % 2 ^ 15 ∧
      (u.dmaCh c).src = w0 % 2 ^ 32 ∧ (u.dmaCh c).dst = w0 / 2 ^ 32 ∧
      (w1 / 2 ^ 61 ≠ 0 → u.dmaState c = 4 ∧ u.rd (Reg.DMA_CH_STATUS.CAUSE c) = 1 ∧ Raised u Src.DMA_ERR) ∧
      (w1 / 2 ^ 61 = 0 → w0 / 2 ^ 32 % 4 ≠ 0 → u.dmaState c = 4 ∧ u.rd (Reg.DMA_CH_STATUS.CAUSE c) = 2 ∧ Raised u Src.DMA_ERR) ∧
      (w1 / 2 ^ 61 = 0 → w0 / 2 ^ 32 % 4 = 0 → w0 % 4 = 0 → u.dmaState c = 1 ∧ u.flt = s.flt ∧
        ((u.dmaCh c).issued = true ↔ w1 % 2 ^ 16 = 0 ∨ w1 / 2 ^ 16 % 2 ^ 16 = 0 ∨ w2 / 2 ^ 48 = 0))) ∧
  (DmaWritable s → (st = 1 ∨ st = 2) → Answers (.dmaStart c) s fun u => u = s) ∧
  (DmaWritable s → st = 1 → Answers (.dmaStop c) s fun u => u = s.put (Reg.DMA_CH_CTRL.STOP c) true) ∧
  (DmaWritable s → st = 2 → Answers (.dmaStop c) s fun u => kept u ∧ u.dmaState c = 3 ∧
    u.on (Reg.DMA_CH_CTRL.STOP c) = false ∧ u.dma = s.dma) ∧
  (DmaWritable s → st ≠ 1 → st ≠ 2 → Answers (.dmaStop c) s fun u => u = s) ∧
  (DmaWritable s → st = 1 → Answers (.dmaDoorbell c) s fun u => u = s.put (Reg.DMA_CH_STATUS.DBPEND c) true) ∧
  (let a := descAddr (s.rd (Reg.DMA_CH_STATUS.CUR c)) + 24;
    DmaWritable s → st = 2 → s.ramMarks a 8 = [] → (s.load a 8).testBit 48 = true → Answers (.dmaDoorbell c) s fun u =>
      kept u ∧ u.dmaState c = 2 ∧ u.on (Reg.DMA_CH_STATUS.DBPEND c) = false ∧ u.dma = s.dma) ∧
  (∀ w0 w1 w2 w3,
    let a := descAddr (s.rd (Reg.DMA_CH_STATUS.CUR c)) + 24
    let n := s.load a 8 / 2 ^ 49
    DmaWritable s → st = 2 → s.ramMarks a 8 = [] → (s.load a 8).testBit 48 = false → DescAt s n w0 w1 w2 w3 →
    w1 / 2 ^ 61 = 0 → w0 / 2 ^ 32 % 4 = 0 → w0 % 4 = 0 → Answers (.dmaDoorbell c) s fun u =>
      kept u ∧ u.dmaState c = 1 ∧ u.rd (Reg.DMA_CH_STATUS.CUR c) = n ∧ (u.dmaCh c).src = w0 % 2 ^ 32) ∧
  (DmaWritable s → st ≠ 1 → st ≠ 2 → Answers (.dmaDoorbell c) s fun u => u = s) ∧
  (DmaWritable s → Answers (.dmaCfgCommit c) s fun u => u = s.put (Reg.DMA_CH_CTRL.COMMIT c) true) ∧
  (DmaWritable s → v.getLsbD 0 = true → Answers (.dmaReset v) s fun u => u.mem = s.mem ∧ u.rd Reg.DMA_STATUS.RUNNING = 0 ∧
    ∀ k, k < 64 → u.dmaState k = 0 ∧ u.rd (Reg.DMA_CH_STATUS.CAUSE k) = 4 ∧ u.on (Reg.DMA_CH_CTRL.STOP k) = false ∧
      u.on (Reg.DMA_CH_STATUS.DBPEND k) = false ∧ u.dmaCh k = {}) ∧
  (DmaWritable s → v.getLsbD 0 = false → Answers (.dmaReset v) s fun u => u = s) ∧
  (∀ p q, DmaReady s c 0 → RamAt s x.src p → RamAt s x.dst q → Answers (.dmaCopy c 1) s fun u =>
    StoredAt s u q 4 (s.load p 4) ∧ u.regs = s.regs ∧ (u.dmaCh c).src = x.next.src ∧ (u.dmaCh c).dst = x.next.dst ∧
    (u.dmaCh c).i0 = x.next.i0 ∧ (u.dmaCh c).issued = x.next.issued ∧ ∀ k, k ≠ c.val → u.dmaCh k = s.dmaCh k) ∧
  (∀ q, DmaReady s c 1 → RamAt s x.dst q → Answers (.dmaFill c 1) s fun u =>
    StoredAt s u q 4 x.srcField ∧ u.regs = s.regs ∧ (u.dmaCh c).src = x.next.src ∧ (u.dmaCh c).dst = x.next.dst ∧
    (u.dmaCh c).i0 = x.next.i0 ∧ (u.dmaCh c).issued = x.next.issued ∧ ∀ k, k ≠ c.val → u.dmaCh k = s.dmaCh k) ∧
  (∀ i p q, (i = Instr.dmaCmp c 1 ∧ DmaReady s c 2 ∧ RamAt s x.src p ∨ i = .dmaCmpc c 1 ∧ DmaReady s c 3) → RamAt s x.dst q →
    let w := if x.op = 2 then s.load p 4 else x.srcField;
    Answers i s fun u => kept u ∧ (u.dmaCh c).dst = x.next.dst ∧ (u.dmaCh c).i0 = x.next.i0 ∧
      (w = s.load q 4 → u.regs = s.regs ∧ u.flt = s.flt) ∧
      (w ≠ s.load q 4 → Bumped s u (Reg.DMA_CH_CNT.MISCNT c) ∧ u.on (Reg.DMA_CH_STATUS.MISMATCH c) = true ∧
        (u.dmaCh c).mis = (x.mis || x.stopMis) ∧
        (s.on (Reg.DMA_CH_STATUS.MISMATCH c) = false → Raised u Src.DMA_MISMATCH ∧
          u.rd (Reg.DMA_CH_MISS_S.ADDR c) = x.src % 2 ^ 32 ∧ u.rd (Reg.DMA_CH_MISS_D.ADDR c) = x.dst % 2 ^ 32))) ∧
  (∀ n, (s.dmaMay c = false ∨ (x.newBursts ≠ 0 ∧ s.dmaTurn ≠ some c.val)) →
    Answers (.dmaCopy c n) s (fun u => u = s) ∧ Answers (.dmaFill c n) s (fun u => u = s) ∧
    Answers (.dmaCmp c n) s (fun u => u = s) ∧ Answers (.dmaCmpc c n) s (fun u => u = s)) ∧
  (let a := descAddr (s.rd (Reg.DMA_CH_STATUS.CUR c)) + 24;
    s.runs → st = 1 → (x.issued = true ∨ x.mis = true) → Answers (.dmaDescComplete c) s fun u =>
      (s.on (Reg.DMA_CH_CTRL.COMMIT c) = true → u.rd (Reg.DMA_CH_CFG_LIVE.RATE c) = s.rd (Reg.DMA_CH_CFG.RATE c) % 2 ^ 8) ∧
      (s.on (Reg.DMA_CH_CTRL.STOP c) = true → kept u ∧ u.dmaState c = 3 ∧ u.on (Reg.DMA_CH_CTRL.STOP c) = false ∧
        Bumped s u (Reg.DMA_CH_CNT.DONE c)) ∧
      (s.on (Reg.DMA_CH_CTRL.STOP c) = false → x.mis = true → kept u ∧ u.dmaState c = 3 ∧ Bumped s u (Reg.DMA_CH_CNT.DONE c)) ∧
      (s.on (Reg.DMA_CH_CTRL.STOP c) = false → x.mis = false → s.ramMarks a 8 = [] → (s.load a 8).testBit 48 = true →
        kept u ∧ u.dmaState c = 2 ∧ Bumped s u (Reg.DMA_CH_CNT.DONE c) ∧
        (x.irq = true → (u.rd (Reg.DMA_IRQ.CH (c / 32))).testBit (c % 32) = true))) ∧
  ((st ≠ 1 ∨ (x.issued = false ∧ x.mis = false)) → Answers (.dmaDescComplete c) s fun u => u = s)

namespace Sys2Proof.Claims

/-- The level assigned to a source: its own, or the fixed one (16 R359). -/
def ownLevel (s : State) (n : Nat) : Nat := if faultFixed n = 1 then faultDefaultLevel n else s.rd (Reg.FLT_SRC.LEVEL n)

/-- FLT_LAST shows a reaction (16 R372). -/
def ShownLast (t : State) (r : Reaction) : Prop :=
  t.rd Reg.FLT_LAST_0.SRC = r.src ∧ t.rd Reg.FLT_LAST_0.LEVEL = r.level ∧ t.on Reg.FLT_LAST_0.ESCALATED = r.escalated ∧
  t.on Reg.FLT_LAST_0.NOBR = r.nobr ∧ t.rd Reg.FLT_LAST_1.TICK = r.tick % 2 ^ 32

/-- The reaction that the collector has decided last, the earlier ones kept. -/
def DecidedLast (s t : State) (l : List Reaction) : Prop := t.flt.reacting = s.flt.reacting ++ [l]

/-- Writes of the FLT block act, and none of them is journaled. -/
def FltWritable (s : State) : Prop := s.held = false ∧ s.flt.auditList = []

end Sys2Proof.Claims

/-- The fault collector (16 R357-R362). -/
def Obligations.FaultCollection : Prop := ∀ (i : Fin 8) (v : Word) (s : State), s.held = false →
  (∀ n rest, s.flt.arriving = n :: rest → faultListed n = true → s.on (Reg.FLT_SRC.RAILBAD n) = false →
    s.rd (Reg.FLT_SRC.LEVEL n) ≤ 4 → Answers (.faultEvent 1) s fun t =>
      let own := ownLevel s n
      let esc := s.classPending (faultClass n) && decide (faultFixed n = 0) && decide (own < 4)
      let lvl := if esc then own + 1 else own
      let none3 := decide (lvl = 3) && !hasBlock n
      t.isPend n = true ∧ Bumped s t (Reg.FLT_SRC.COUNT n) ∧ t.flt.arriving = rest ∧ t.mem = s.mem ∧
      (∀ m, m ≠ n → m < 256 → t.isPend m = s.isPend m) ∧
      ∃ r, DecidedLast s t [r] ∧ r.src = n ∧ r.level = (if none3 then 2 else lvl) ∧ r.escalated = esc ∧ r.nobr = none3 ∧
        r.tick = s.tick) ∧
  (∀ n rest, s.flt.arriving = n :: rest → s.on (Reg.FLT_SRC.RAILBAD n) = true → Answers (.faultEvent 1) s fun t =>
    t.flt.arriving = rest ∧ t.flt.reacting = s.flt.reacting ∧ t.isPend n = s.isPend n ∧
    t.rd (Reg.FLT_SRC.COUNT n) = s.rd (Reg.FLT_SRC.COUNT n)) ∧
  (∀ n m, s.flt.arriving = [m, n] → n < m → m ≤ 110 → faultListed n = true → faultListed m = true →
    faultClass n = faultClass m → s.classPending (faultClass n) = false → faultFixed m = 0 →
    s.on (Reg.FLT_SRC.RAILBAD n) = false → s.on (Reg.FLT_SRC.RAILBAD m) = false → ownLevel s n = 1 → ownLevel s m = 1 →
    Answers (.faultEvent 2) s fun t => ∃ a b, DecidedLast s t [a, b] ∧ a.src = n ∧ a.level = 1 ∧ a.escalated = false ∧
      b.src = m ∧ b.level = 2 ∧ b.escalated = true) ∧
  (s.flt.reacting = [] → Answers .faultReaction s fun t => t = s) ∧
  (∀ r rest, s.flt.reacting = [r] :: rest → r.src < 256 →
    (r.level = 0 → r.pin = false → Answers .faultReaction s fun t => t.flt.reacting = rest ∧ t.flt.irq = s.flt.irq ∧
      t.regs = s.regs ∧ t.mem = s.mem) ∧
    ((r.level = 1 ∨ r.level = 2) → Answers .faultReaction s fun t => t.flt.reacting = rest ∧ ShownLast t r ∧ t.flt.irq = true ∧
      (r.level = 2 → t.flt.nmi = true) ∧ (r.level = 1 → t.flt.nmi = s.flt.nmi) ∧ (r.pin = true → s.flt.faultLow = false → t.flt.faultLow = true) ∧
      t.mem = s.mem ∧ t.str = s.str ∧ t.eng = s.eng) ∧
    (r.level = 3 → 103 ≤ r.src → r.src ≤ 108 → Answers .faultReaction s fun t => ShownLast t r ∧ t.flt.nmi = true ∧
      (∀ c, c < 64 → t.dmaState c = 0 ∧ t.rd (Reg.DMA_CH_STATUS.CAUSE c) = 4) ∧ t.mem = s.mem) ∧
    (r.level = 4 → MayWarm s → Answers .faultReaction s fun t => WarmBegun s t ∧ ShownLast t r)) ∧
  (∀ a b rest, s.flt.reacting = [a, b] :: rest → a.level = 4 → b.level = 4 → a.src < 256 → b.src < 256 → MayWarm s →
    Answers .faultReaction s fun t => WarmBegun s t ∧ ShownLast t a) ∧
  (Answers .faultNHoldEnd s fun t => t.flt.holding = false ∨ t.flt.faultLow = true) ∧
  (s.pinPending = false → s.resetLow = false → s.flt.stuckLow = false → Answers .faultNHoldEnd s fun t =>
    t = { s with flt := { s.flt with holding := false, faultLow := false } }) ∧
  ((s.pinPending = true ∨ s.flt.stuckLow = true) → Answers .faultNHoldEnd s fun t => t.flt.faultLow = true ∧ t.regs = s.regs) ∧
  (FltWritable s → Answers (.faultAck i v) s fun t => t.flt.arriving = s.flt.arriving ∧ t.flt.reacting = s.flt.reacting ∧
    t.mem = s.mem ∧ ∀ k j, k < 8 → j < 32 → t.isPend (32 * k + j) =
      (s.isPend (32 * k + j) && !(decide (k = i.val) && v.getLsbD j && !(decide (k = 0 ∧ j = 0) && s.railBadAny)))) ∧
  (FltWritable s → Answers (.wdtWrite v) s fun t => t.rd Reg.FLT_WDT.WDT_MS = v.toNat % 2 ^ 16 ∧ t = { s with regs := t.regs } ∧
    ∀ f : FieldRef, f.key ≠ Reg.FLT_WDT.WDT_MS.key → t.rd f = s.rd f) ∧
  (s.rd Reg.FLT_WDT.WDT_MS = 0 → Answers .wdtExpiry s fun t => t = s) ∧
  (s.rd Reg.FLT_WDT.WDT_MS ≠ 0 → Answers .wdtExpiry s fun t =>
    t = { s with flt := { s.flt with arriving := s.flt.arriving ++ [Src.SUP_WDT] } })

/-- Rails, test mode, supplies, temperature and audit (16 R363-R371). -/
def Obligations.RailsSuppliesAndAudit : Prop :=
  ∀ (n : Fin 256) (v : Word) (k us : Nat) (r : Fin 6) (mv : BitVec 12) (l : List (BitVec 12)) (x : BitVec 8) (s : State),
  s.held = false →
  (faultListed n = true → n.val ≠ 0 → Answers (.railFault n) s fun t => t.on (Reg.FLT_SRC.RAILBAD n) = true ∧
    Raised t Src.FLT_RAIL ∧ t.on Reg.FLT_RAIL_INFO.VALID = true ∧
    t.rd Reg.FLT_RAIL_INFO.SRC = (if s.on Reg.FLT_RAIL_INFO.VALID then s.rd Reg.FLT_RAIL_INFO.SRC else n.val) ∧ t.mem = s.mem) ∧
  (n.val = 0 → Answers (.railFault n) s fun t => t.flt.stuckLow = true ∧ t.flt.faultLow = true ∧
    t.on (Reg.FLT_SRC.RAILBAD 0) = true) ∧
  (faultListed n = false → Answers (.railFault n) s fun t => t = s) ∧
  (let want := [0x0000C1BA#32, 0x00007E57#32, 0x0000FA17#32]
    let j := s.flt.unlock
    let inTime := j = 0 ∨ k ≤ s.flt.unlockStart + 1000
    FltWritable s →
    (j < 2 → v = want.getD j 0 → inTime → Answers (.fltUnlockWrite v k) s fun t => t.flt.unlock = j + 1 ∧ t.regs = s.regs) ∧
    (j = 2 → v = want.getD j 0 → inTime → Answers (.fltUnlockWrite v k) s fun t => t.flt.unlock = 0 ∧
      (s.boot.straps.test = 2 → t.on Reg.FLT_TEST.TESTMODE = true) ∧ (s.boot.straps.test ≠ 2 → t.regs = s.regs)) ∧
    (j ≤ 2 → v ≠ want.getD j 0 → Answers (.fltUnlockWrite v k) s fun t => t.flt.unlock = 0 ∧ t.regs = s.regs)) ∧
  (FltWritable s → s.on Reg.FLT_TEST.TESTMODE = false → Answers (.faultInject v) s fun t => t = s) ∧
  (let m := Reg.FLT_INJ.SRC.part v;
    FltWritable s → s.on Reg.FLT_TEST.TESTMODE = true → Admitted 0x40028 v → v.getLsbD 10 = true → faultListed m = true →
    (Reg.FLT_INJ.MODE.part v = 0 → Answers (.faultInject v) s fun t => Raised t m ∧ t.mem = s.mem) ∧
    (Reg.FLT_INJ.MODE.part v ≠ 0 → Answers (.faultInject v) s fun t => t.on (Reg.FLT_SRC.RAILBAD m) = true ∧ t.mem = s.mem)) ∧
  (Answers (.supplyWarn r mv) s fun t => t.on (Reg.PWR_RAIL_STATUS.WARN r) = true ∧ t.on (Reg.PWR_RAIL_STATUS.WARN_EV r) = true ∧
    t.rd (Reg.PWR_RAIL_DIP.MINV r) = mv.toNat ∧ t.rd (Reg.PWR_RAIL_DIP.DUR r) = 0 ∧ t.tth.prearm = true ∧
    t.on Reg.TTH_STATUS.PREARM = true ∧ t.on (Reg.FLT_SRC.ACTIVE Src.PWR_WARN) = true ∧ Raised t Src.PWR_WARN ∧ AudioKept s t) ∧
  (s.on (Reg.PWR_RAIL_STATUS.WARN r) = true → Answers (.railWarnRecovery r mv us) s fun t =>
    t.on (Reg.PWR_RAIL_STATUS.WARN r) = false ∧ t.rd (Reg.PWR_RAIL_DIP.MINV r) = min mv.toNat (s.rd (Reg.PWR_RAIL_DIP.MINV r)) ∧
    t.rd (Reg.PWR_RAIL_DIP.DUR r) = min us (2 ^ 20 - 1) ∧ t = { s with regs := t.regs }) ∧
  (s.on (Reg.PWR_RAIL_STATUS.WARN r) = false → Answers (.railWarnRecovery r mv us) s fun t => t = s) ∧
  (Answers .serdesRailDip s fun t => t.mem = s.mem ∧ ∀ j, j < 16 → t.on (Reg.LANE_STATUS.LOL j) = true ∧
    t.on (Reg.LANE_STATUS.CAL_DONE j) = false ∧ (t.laneRec j).lock = startLock s j (s.role j)) ∧
  (l.length = 6 → Answers (.tempSample x l) s fun t =>
    let lim : Int := s.rd Reg.PWR_TEMP_CFG.TWARN
    let hyst : Int := s.rd Reg.PWR_TEMP_CFG.THYST
    let peak := Reg.PWR_TEMP.TPEAK.signed (s.rd Reg.PWR_TEMP.TPEAK)
    t.rd Reg.PWR_TEMP.TNOW = x.toNat ∧ (∀ j, j < 6 → t.rd (Reg.PWR_RAIL_STATUS.VNOW j) = (l.getD j 0).toNat) ∧
    (peak < x.toInt → t.rd Reg.PWR_TEMP.TPEAK = x.toNat) ∧ (x.toInt ≤ peak → t.rd Reg.PWR_TEMP.TPEAK = s.rd Reg.PWR_TEMP.TPEAK) ∧
    (s.on Reg.PWR_TEMP.WARN = false → lim ≤ x.toInt → t.on Reg.PWR_TEMP.WARN = true ∧ Raised t Src.TEMP_WARN) ∧
    (s.on Reg.PWR_TEMP.WARN = false → x.toInt < lim → t.on Reg.PWR_TEMP.WARN = false ∧ t.flt = s.flt) ∧
    (s.on Reg.PWR_TEMP.WARN = true → t.on Reg.PWR_TEMP.WARN = decide (lim - hyst ≤ x.toInt) ∧ t.flt = s.flt) ∧ AudioKept s t) ∧
  (s.on Reg.FLT_AUD.EN = false → Answers .auditPass s fun t => t = s) ∧
  (s.on Reg.FLT_AUD.EN = true → s.on Reg.FLT_AUD_JPTR.OVF = true → Answers .auditPass s fun t =>
    t.on Reg.FLT_AUD_JPTR.OVF = false ∧ t.rd Reg.FLT_AUD_JPTR.TAIL = s.rd Reg.FLT_AUD_JPTR.HEAD % 2 ^ 10 ∧ Raised t Src.CFG_AUDIT ∧
    t.mem = s.mem) ∧
  (s.on Reg.FLT_AUD.EN = true → s.on Reg.FLT_AUD_JPTR.OVF = false → s.rd Reg.FLT_AUD_JPTR.TAIL = s.rd Reg.FLT_AUD_JPTR.HEAD →
    ((∀ a ∈ s.flt.auditList, s.auditValue a = sget 0 a s.flt.auditCopy) → Answers .auditPass s fun t => t = s) ∧
    (s.flt.auditList = [0x14] → s.auditValue 0x14 ≠ sget 0 0x14 s.flt.auditCopy → Answers .auditPass s fun t =>
      Raised t Src.CFG_AUDIT ∧ Bumped s t Reg.FLT_AUD.DIFFS ∧ t.rd Reg.FLT_AUD_ADDR.ADDR = 0x40000014 ∧ t.mem = s.mem ∧
      (s.on Reg.FLT_AUD.REPAIR = true → s.isStandby = false →
        t.rd Reg.CHIP_SCRATCH.DATA = (sget 0 0x14 s.flt.auditCopy).toNat) ∧
      (s.on Reg.FLT_AUD.REPAIR = false → t.rd Reg.CHIP_SCRATCH.DATA = s.rd Reg.CHIP_SCRATCH.DATA)))

namespace Sys2Proof.Claims

/-- The chip is in a step of a start (17 R376). -/
def AtStep (s : State) (n : Nat) : Prop := s.held = false ∧ s.chipState = 2 ∧ s.rd Reg.CHIP_STATE.STEP = n

/-- Only the step changes, and what FAULT_N follows. -/
def StepMoved (s t : State) (n : Nat) : Prop :=
  t.chipState = 2 ∧ t.rd Reg.CHIP_STATE.STEP = n ∧ t.mem = s.mem ∧ t.boot = s.boot ∧
  ∀ f : FieldRef, f.key ≠ Reg.CHIP_STATE.STEP.key → t.rd f = s.rd f

/-- HALT, or the no-image state with its reason (17 R376, R387). -/
def Halted (t : State) : Prop := t.held = true ∧ t.chipState = 1 ∧ t.flt.faultLow = true

/-- NOIMAGE or HOSTWAIT, with a reason, FAULT_N low. -/
def NoImage (t : State) (st reason : Nat) : Prop :=
  t.held = false ∧ t.chipState = st ∧ t.rd Reg.BOOT_STATUS.NOIMG = reason ∧ t.flt.faultLow = true

/-- Slot A has failed with a reason, and step 7 tries slot B. -/
def TriesSlotB (t : State) (reason : Nat) : Prop :=
  t.boot.source = 1 ∧ t.rd Reg.BOOT_STATUS.REASON_A = reason ∧ t.chipState = 2 ∧ t.rd Reg.CHIP_STATE.STEP = 7

end Sys2Proof.Claims

/-- Starts and boot (17 R374-R389). -/
def Obligations.StartSteps : Prop := ∀ (o : Otp) (st : Straps) (m : BitVec 8) (fl : BitVec 16) (size : Nat) (one : Bool) (s : State),
  (AtStep s 1 → (∀ r, r ∈ [0, 1, 2, 5] → s.on (Reg.PWR_RAIL_STATUS.WARN r) = false) → Answers (.startStepDone .done) s fun t =>
    StepMoved s t 2) ∧
  (∀ r, AtStep s 1 → r ∈ [0, 1, 2, 5] → s.on (Reg.PWR_RAIL_STATUS.WARN r) = true → Answers (.startStepDone .done) s fun t => t = s) ∧
  (AtStep s 1 → Answers (.startStepDone .rootFail) s fun t => t = s) ∧
  (AtStep s 2 → Answers (.startStepDone (.fuses none st)) s Halted) ∧
  (AtStep s 2 → s.bootWarm = false → Answers (.startStepDone (.fuses (some o) st)) s fun t =>
    t.rd Reg.CHIP_STATE.STEP = 3 ∧ t.boot.otp = o ∧ t.boot.straps.side = st.side ∧
    t.boot.straps.test = (if st.test = 2 then 2 else 0) ∧ t.rd Reg.BOOT_STATUS.SEL = st.bootSel.toNat ∧
    t.on Reg.BOOT_STATUS.STRAP_BAD = (st.bad || decide (st.test = 1 ∨ st.test = 3)) ∧ t.on Reg.TTH_STATUS.SIDE = st.side ∧
    t.on Reg.CHIP_OTP.VALID = true ∧ t.on Reg.CHIP_OTP.REQUIRE_SIG = o.requireSig ∧
    t.rd Reg.HOST_PCI_ID.VENDOR = o.vendor.toNat ∧ t.mem = s.mem) ∧
  (AtStep s 2 → s.bootWarm = true → s.on Reg.CLK_STATUS.XO_OK = true → s.on Reg.CLK_STATUS.ROOT_LOCK = true →
    s.on Reg.BOOT_CTRL.WARMBIST = false → st.bootSel = 0 → Answers (.startStepDone (.fuses (some o) st)) s fun t =>
    t.rd Reg.CHIP_STATE.STEP = 7 ∧ t.boot.source = 0 ∧ t.boot.straps.side = s.boot.straps.side ∧
    t.boot.straps.test = s.boot.straps.test ∧ t.mem = s.mem) ∧
  (AtStep s 3 → Answers (.startStepDone .done) s fun t => t.rd Reg.CHIP_STATE.STEP = 4 ∧ t.on Reg.CLK_STATUS.XO_OK = true ∧
    t.mem = s.mem ∧ t.boot = s.boot) ∧
  (AtStep s 4 → s.bootWarm = false → Answers (.startStepDone .done) s fun t => t.rd Reg.CHIP_STATE.STEP = 5 ∧ t.rclk = true ∧
    t.on Reg.CLK_STATUS.ROOT_LOCK = true ∧ t.rd Reg.CLK_STATUS.FAMILY = 0 ∧ t.rd Reg.REF_STATUS.DPLL = 0 ∧ t.time.sc = 0 ∧
    t.mem = s.mem) ∧
  (AtStep s 4 → s.boot.tries < 2 → Answers (.startStepDone .rootFail) s fun t =>
    t = { s with boot := { s.boot with tries := s.boot.tries + 1 } }) ∧
  (AtStep s 4 → 2 ≤ s.boot.tries → Answers (.startStepDone .rootFail) s Halted) ∧
  (AtStep s 5 → s.bootWarm = false → Answers (.startStepDone .done) s fun t => t.rd Reg.CHIP_STATE.STEP = 6 ∧ t.mem = [] ∧
    t.livePage = [] ∧ t.ecc = [] ∧ t.boot = s.boot) ∧
  (AtStep s 5 → Answers (.startStepDone (.bist m true)) s fun t => Halted t ∧ t.rd Reg.BOOT_BIST.MEMID = m.toNat) ∧
  (AtStep s 5 → Answers (.startStepDone (.bist m false)) s fun t => NoImage t 6 12 ∧ t.rd Reg.BOOT_BIST.MEMID = m.toNat ∧
    t.on Reg.BOOT_BIST.VALID = true) ∧
  (AtStep s 6 → s.boot.otp.pcieMode = 0 → s.rd Reg.BOOT_STATUS.SEL < 2 → Answers (.startStepDone (.lanes fl)) s fun t =>
    t.rd Reg.CHIP_STATE.STEP = 7 ∧ t.boot.source = 0 ∧ t.boot.badLanes = fl ∧ t.mem = s.mem ∧
    ∀ n, n < 16 → t.on (Reg.LANE_STATUS.CAL_DONE n) = !fl.getLsbD n) ∧
  (AtStep s 6 → s.boot.otp.pcieMode = 0 → s.rd Reg.BOOT_STATUS.SEL = 2 → Answers (.startStepDone (.lanes fl)) s fun t =>
    NoImage t 4 0) ∧
  (AtStep s 7 → s.boot.source < 2 → (size < 33554432 ∨ 268435456 < size) → Answers (.startStepDone (.flash size one)) s fun t =>
    NoImage t 6 11 ∧ t.rd Reg.BOOT_STATUS.REASON_A = 11 ∧ t.rd Reg.BOOT_STATUS.REASON_B = 11) ∧
  (let u := { s with boot := { s.boot with flashSize := size } }
    let why := imageReason u.imageBytes s.boot.otp (s.rd Reg.CHIP_REV.REV) false
    AtStep s 7 → s.bootWarm = false → s.boot.source < 2 → 33554432 ≤ size → size ≤ 268435456 →
    (why = 0 → Answers (.startStepDone (.flash size one)) s fun t => t.rd Reg.CHIP_STATE.STEP = 8 ∧ t.mem = s.mem ∧
      t.on Reg.BOOT_STATUS.FLASH_1S = one ∧ t.on Reg.BOOT_STATUS.HASH_MATCH = false ∧ t.boot = u.boot) ∧
    (why ≠ 0 → why < 16 → s.boot.source = 0 → Answers (.startStepDone (.flash size one)) s fun t => TriesSlotB t why) ∧
    (why ≠ 0 → why < 16 → s.boot.source = 1 → Answers (.startStepDone (.flash size one)) s fun t =>
      NoImage t 6 why ∧ t.rd Reg.BOOT_STATUS.REASON_B = why)) ∧
  (∀ u, AtStep s 8 → s.loadSections s.imageBytes = (false, u) → u.held = false → u.chipState = 2 → u.boot.source = 0 →
    Answers (.startStepDone .done) s fun t => TriesSlotB t 10) ∧
  (∀ u, AtStep s 8 → s.loadSections s.imageBytes = (true, u) → u.chipState = 2 →
    (u.rd Reg.BOOT_STATUS.SEL = 1 → Answers (.startStepDone .done) s fun t => t.chipState = 3 ∧ t.mem = u.mem ∧
      t.rd Reg.BOOT_VER.VERSION = field s.imageBytes 20 4) ∧
    (u.rd Reg.BOOT_STATUS.SEL ≠ 1 → u.bootWarm = false → Answers (.startStepDone .done) s fun t => t.chipState = 2 ∧
      t.rd Reg.CHIP_STATE.STEP = 9 ∧ t.mem = u.mem ∧ t.rd Reg.BOOT_VER.VERSION = field s.imageBytes 20 4)) ∧
  (AtStep s 9 → s.rd Reg.REF_STATUS.DPLL ≠ 4 → s.boot.acqOver = false → s.bootWarm = false →
    Answers (.startStepDone .done) s fun t => t = s) ∧
  (AtStep s 9 → s.rd Reg.REF_STATUS.DPLL = 4 → s.boot.arms = [] → Answers (.startStepDone .done) s fun t =>
    t.rd Reg.CHIP_STATE.STEP = 10 ∧ t.rd Reg.BOOT_STATUS.WARMFAIL = 0 ∧ t.egr.outWant = false ∧ t.mem = s.mem) ∧
  (AtStep s 10 → Answers (.startStepDone .done) s fun t => t.chipState = 5 ∧ t.mem = s.mem ∧ t.flt = s.flt) ∧
  (AtStep s 7 → s.boot.source < 2 → s.boot.retries < 3 → Answers .flashReadTimeout s fun t =>
    t = { s with boot := { s.boot with retries := s.boot.retries + 1 } }) ∧
  (AtStep s 7 → s.boot.source = 0 → 3 ≤ s.boot.retries → Answers .flashReadTimeout s fun t => TriesSlotB t 1) ∧
  (s.chipState ≠ 2 → Answers .flashReadTimeout s fun t => t = s) ∧
  (s.held = false → s.flt.auditList = [] →
    (s.chipState = 3 → Answers .bootRun s fun t => t.chipState = 2 ∧ t.rd Reg.CHIP_STATE.STEP = 9 ∧ t.mem = s.mem) ∧
    (s.chipState ≠ 3 → Answers .bootRun s fun t => t.chipState = s.chipState ∧ t.mem = s.mem) ∧
    (s.chipState = 4 → Answers .hostgo s fun t => t.chipState = 2 ∧ t.rd Reg.CHIP_STATE.STEP = 7 ∧ t.boot.source = 2 ∧
      t.on Reg.BOOT_CTRL.HOSTGO = true ∧ t.mem = s.mem) ∧
    (s.chipState ≠ 4 → Answers .hostgo s fun t => t.chipState = s.chipState ∧ t.boot = s.boot ∧ t.mem = s.mem)) ∧
  (s.held = false → MayWarm s → Answers .chipWarm s fun t => WarmBegun s t) ∧
  (s.alone → s.chipState = 5 → s.ctl.dormantReq = false → Answers .dormant s fun t => t.egr.outWant = true ∧
    t.ctl.dormantReq = true ∧ t.chipState = 5 ∧ t.mem = s.mem) ∧
  (s.alone → s.chipState ≠ 5 → Answers .dormant s fun t => t = s) ∧
  (s.alone → s.on Reg.CHIP_CTRL.COILCLR = false → Answers .coilclr s fun t => t.on Reg.CHIP_CTRL.COILCLR = true ∧
    t.rd Reg.CHIP_PROGRESS.OP = 5 ∧ ∀ a, t.byte a =
      if coilBase ≤ a ∧ a < 0x14000000 ∧ coilIn s.usedCoils ((a - coilBase) / 4096) = false then 0 else s.byte a) ∧
  (s.alone → s.on Reg.CHIP_CTRL.COILCLR = true → Answers .coilclr s fun t => t = s) ∧
  (s.held = false → s.on Reg.CHIP_CTRL.COILCLR = true → Answers .coilclrDone s fun t => t.on Reg.CHIP_CTRL.COILCLR = false ∧
    t.mem = s.mem) ∧
  (s.on Reg.CHIP_CTRL.COILCLR = false → Answers .coilclrDone s fun t => t = s)

namespace Sys2Proof.Claims

/-- The source of a message in the replay table. -/
abbrev pelKnown (s : State) (peer : PelPeer) : Option PelSource := s.pel.sources.find? fun y => decide (y.peer = peer)

/-- A message newer than what its source has sent, or, of a new source, above the floor of its KEYID (R392). -/
def Fresh (s : State) (peer : PelPeer) (seq : Nat) : Prop :=
  (∀ x, pelKnown s peer = some x → x.seq < seq) ∧
  (pelKnown s peer = none → ∀ f, sfind peer.key s.pel.floors = some f → f < seq)

/-- A response is sent and cached; beyond it, and the report of a refusal, the node is as the operation left it. -/
def Responded (s u t : State) (peer : PelPeer) (l : List Byte) (key op st : Nat) (out : List Byte) : Prop :=
  let msg := pelMessage key op peer.key 1 st ((l.drop 4).take 4) out
  t.pel.sent = (peer, msg) :: u.pel.sent ∧ t.pel.sources.head? = some ⟨peer, field l 4 4, msg⟩ ∧
  t.flt.arriving = (if st ≠ 0 ∧ u.refusals = s.refusals then u.flt.arriving ++ [Src.CTL_REFUSED] else u.flt.arriving) ∧
  ∃ a x fl, t = { u with flt := { u.flt with arriving := a }, pel := { u.pel with sent := t.pel.sent, sources := x, floors := fl } }

/-- A message gets no response: one counter counts it, and CTL_REFUSED is raised. -/
def Dropped (s t : State) (f : FieldRef) : Prop :=
  Bumped s t f ∧ Raised t Src.CTL_REFUSED ∧ t.pel = s.pel ∧ t.mem = s.mem ∧ ∀ q : FieldRef, q.key ≠ f.key → t.rd q = s.rd q

/-- A command of the Pelond service deals with a message as R391-R394 say: `op` is its operation, `mine` whether the
message is for this command, and `f` what the operation does. -/
structure Serves (i : Instr) (s : State) (ip : BitVec 32) (port : BitVec 16) (l : List Byte) (mine : Prop) (f : PelOp) : Prop where
  silent : s.pelServes = false → Answers i s fun t => t = s
  forged : s.pelServes = true → s.pelAuth l = none → Answers i s fun t => Dropped s t Reg.HOST_PEL_CNT.AUTH
  other : ∀ key, s.pelServes = true → s.pelAuth l = some key → ¬ mine → Answers i s fun t => t = s
  again : ∀ key x, s.pelServes = true → s.pelAuth l = some key → mine → pelKnown s ⟨ip, port, field l 10 1⟩ = some x →
    x.seq = field l 4 4 → Answers i s fun t => t.pel.sent = (⟨ip, port, field l 10 1⟩, x.response) :: s.pel.sent ∧
      t.regs = s.regs ∧ t.mem = s.mem ∧ t.flt = s.flt
  old : ∀ key x, s.pelServes = true → s.pelAuth l = some key → mine → pelKnown s ⟨ip, port, field l 10 1⟩ = some x →
    field l 4 4 < x.seq → Answers i s fun t => Dropped s t Reg.HOST_PEL_CNT.REPLAY
  floor : ∀ key n, s.pelServes = true → s.pelAuth l = some key → mine → pelKnown s ⟨ip, port, field l 10 1⟩ = none →
    sfind (field l 10 1) s.pel.floors = some n → field l 4 4 ≤ n → Answers i s fun t => Dropped s t Reg.HOST_PEL_CNT.REPLAY
  noImage : ∀ key, s.pelServes = true → s.pelAuth l = some key → mine → Fresh s ⟨ip, port, field l 10 1⟩ (field l 4 4) →
    s.noImageState = true → field l 3 1 ∉ [1, 2, 7, 8] → Answers i s fun t =>
      Responded s s t ⟨ip, port, field l 10 1⟩ l key (field l 3 1) 7 []
  standby : ∀ key, s.pelServes = true → s.pelAuth l = some key → mine → Fresh s ⟨ip, port, field l 10 1⟩ (field l 4 4) →
    s.noImageState = false → s.isStandby = true → field l 3 1 ∈ [2, 3, 4, 5] → Answers i s fun t =>
      Responded s s t ⟨ip, port, field l 10 1⟩ l key (field l 3 1) 4 []
  logged : ∀ key st out u, s.pelServes = true → s.pelAuth l = some key → mine → Fresh s ⟨ip, port, field l 10 1⟩ (field l 4 4) →
    s.noImageState = false → s.isStandby = false → field l 3 1 ∈ [2, 3, 4, 5] →
    f ⟨⟨ip, port, field l 10 1⟩, field l 11 1, (l.drop 16).take (field l 8 2)⟩ s = ((st, out), u) → Answers i s fun t =>
      Responded s u t ⟨ip, port, field l 10 1⟩ l key (field l 3 1) st (leBytes 4 (s.pelTick % 2 ^ 32) ++ out)
  plain : ∀ key st out u, s.pelServes = true → s.pelAuth l = some key → mine → Fresh s ⟨ip, port, field l 10 1⟩ (field l 4 4) →
    (s.noImageState = true → field l 3 1 ∈ [1, 2, 7, 8]) → field l 3 1 ∉ [2, 3, 4, 5] →
    f ⟨⟨ip, port, field l 10 1⟩, field l 11 1, (l.drop 16).take (field l 8 2)⟩ s = ((st, out), u) → Answers i s fun t =>
      Responded s u t ⟨ip, port, field l 10 1⟩ l key (field l 3 1) st out

/-- A serving node that is not a standby takes an authentic, new message, whatever it does with it. -/
def Takes (s : State) (peer : PelPeer) (l : List Byte) (key : Nat) : Prop :=
  s.held = false ∧ s.pelServes = true ∧ s.pelAuth l = some key ∧ Fresh s peer (field l 4 4) ∧ s.noImageState = false ∧
  s.isStandby = false

/-- The payload of a message. -/
abbrev pelBody (l : List Byte) : List Byte := (l.drop 16).take (field l 8 2)

/-- The message is an IMAGE message with a sub-operation. -/
abbrev imageSub (l : List Byte) (k : Nat) : Prop := field l 3 1 = 8 ∧ pelBody l ≠ [] ∧ field (pelBody l) 0 1 = k

end Sys2Proof.Claims

/-- The Pelond service (17 R391-R395). -/
def Obligations.PelondService : Prop := ∀ (ip : BitVec 32) (port : BitVec 16) (l : List Byte) (m : Fin 16) (q : PelRequest) (s : State),
  (s.held = false →
    Serves (.pelondRead ip port l) s ip port l (field l 3 1 = 1) pelRead ∧
    Serves (.pelondWrite ip port l) s ip port l (field l 3 1 = 2) pelWrite ∧
    Serves (.pelondParam ip port l) s ip port l (field l 3 1 = 3) pelParam ∧
    Serves (.pelondSplice ip port l) s ip port l (field l 3 1 = 4) pelSplice ∧
    Serves (.pelondEvent ip port l) s ip port l (field l 3 1 = 5) pelEvent ∧
    Serves (.pelondMeter ip port l) s ip port l (field l 3 1 = 6) pelMeter ∧
    Serves (.pelondQuery ip port l) s ip port l (field l 3 1 = 7) pelQuery ∧
    Serves (.pelondImageBegin ip port l) s ip port l (imageSub l 0) pelBegin ∧
    Serves (.pelondImageData ip port l) s ip port l (imageSub l 1) pelData ∧
    Serves (.pelondImageEnd ip port l) s ip port l (imageSub l 2) pelEnd ∧
    Serves (.pelondImageAbort ip port l) s ip port l (imageSub l 3) pelAbort ∧
    Serves (.pelondUnknownOp ip port l) s ip port l
      (field l 3 1 = 0 ∨ 8 < field l 3 1 ∨ (field l 3 1 = 8 ∧ (pelBody l = [] ∨ 3 < field (pelBody l) 0 1)))
      (fun _ s => ((if field l 3 1 = 8 then 1 else 5, []), s))) ∧
  (let peer : PelPeer := ⟨ip, port, field l 10 1⟩
    let r : PelRequest := ⟨peer, field l 11 1, pelBody l⟩
    let tick := leBytes 4 (s.pelTick % 2 ^ 32);
    ∀ key, Takes s peer l key →
      let done := fun (f : PelOp) (head : List Byte) (t : State) =>
        Responded s (f r s).2 t peer l key (field l 3 1) (f r s).1.1 (head ++ (f r s).1.2);
      (field l 3 1 = 1 → Answers (.pelondRead ip port l) s fun t => done pelRead [] t) ∧
      (field l 3 1 = 2 → Answers (.pelondWrite ip port l) s fun t => done pelWrite tick t) ∧
      (field l 3 1 = 3 → Answers (.pelondParam ip port l) s fun t => done pelParam tick t) ∧
      (field l 3 1 = 4 → Answers (.pelondSplice ip port l) s fun t => done pelSplice tick t) ∧
      (field l 3 1 = 5 → Answers (.pelondEvent ip port l) s fun t => done pelEvent tick t) ∧
      (field l 3 1 = 6 → Answers (.pelondMeter ip port l) s fun t => done pelMeter [] t) ∧
      (field l 3 1 = 7 → Answers (.pelondQuery ip port l) s fun t => done pelQuery [] t) ∧
      (imageSub l 0 → Answers (.pelondImageBegin ip port l) s fun t => done pelBegin [] t) ∧
      (imageSub l 1 → Answers (.pelondImageData ip port l) s fun t => done pelData [] t) ∧
      (imageSub l 2 → Answers (.pelondImageEnd ip port l) s fun t => done pelEnd [] t) ∧
      (imageSub l 3 → Answers (.pelondImageAbort ip port l) s fun t => done pelAbort [] t) ∧
      ((field l 3 1 = 0 ∨ 8 < field l 3 1) → Answers (.pelondUnknownOp ip port l) s fun t =>
        Responded s s t peer l key (field l 3 1) 5 [])) ∧
  (∀ key, s.pelAuth l = some key → field l 0 2 = 0x4C50 ∧ field l 2 1 = 1 ∧ l.length = 32 + field l 8 2 ∧ l.length ≤ 1472 ∧
    l.drop (l.length - 16) = pelMac key (l.take (l.length - 16)) ∧ s.pelKey (field l 10 1) = some key ∧
    (s.noImageState = true → field l 10 1 = 0)) ∧
  (s.paired = true → s.tick + 7 ≤ s.pelTick ∧ s.pelTick < s.tick + 7 + max 1 (s.rd Reg.TTH_CTRL.MIRROR) ∧
    s.pelTick % max 1 (s.rd Reg.TTH_CTRL.MIRROR) = 0) ∧
  -- READ and QUERY
  (∀ v u, q.body.length = 8 → field q.body 4 2 = 1 → s.busRead 0 0 (field q.body 0 4) 4 = (some v, u) →
    pelRead q s = ((0, leBytes 4 v), u)) ∧
  (field q.body 4 2 = 0 ∨ 360 < field q.body 4 2 → pelRead q s = ((1, []), s)) ∧
  (q.body = [] → (pelQuery q s).1.1 = 0 ∧ (pelQuery q s).1.2.length = 48 ∧ (pelQuery q s).2 = s ∧
    (pelQuery q s).1.2.take 4 = leBytes 4 (s.regRead 0x104).1 ∧ (pelQuery q s).1.2.drop 44 = leBytes 4 (s.regRead 0x8000C).1) ∧
  -- WRITE
  (∀ u, q.body.length = 12 → field q.body 4 2 = 1 → s.busWrite 0 0 (field q.body 0 4) 4 (field q.body 8 4) = (true, u) →
    (u.refusals = s.refusals → pelWrite q s = ((0, []), u)) ∧ (u.refusals ≠ s.refusals → pelWrite q s = ((2, [0, 0]), u))) ∧
  -- PARAM
  (∀ k r, s.livePlan.atPath q.body = some k → k.params.find? (fun r => decide (r.number = field q.body 34 1)) = some r →
    q.body.length = 38 + 4 * field q.body 35 1 → 0 < field q.body 35 1 →
    let v := (List.range (field q.body 35 1)).map fun i => BitVec.ofNat 32 (field q.body (38 + 4 * i) 4)
    (field q.body 35 1 ≠ r.words ∨ (∃ x ∈ v, r.admits x = false) → pelParam q s = ((1, []), s)) ∧
    (field q.body 35 1 = r.words → (∀ x ∈ v, r.admits x = true) → s.on Reg.ENG_PCM_GO.GO = true → pelParam q s = ((3, []), s)) ∧
    (∀ u, field q.body 35 1 = r.words → (∀ x ∈ v, r.admits x = true) → s.on Reg.ENG_PCM_GO.GO = false →
      s.pelAll (paramWrites r v) = (true, u) → pelParam q s = ((0, []), u))) ∧
  -- SPLICE
  (∀ p, 0 < field q.body 20 2 → field q.body 20 2 ≤ 177 → q.body.length = 24 + 8 * field q.body 20 2 → s.pel.splice = some p → p ≠ q.peer →
    pelSplice q s = ((3, []), s)) ∧
  (field q.body 20 2 = 0 ∨ 177 < field q.body 20 2 → pelSplice q s = ((1, []), s)) ∧
  -- EVENT
  (q.body.length = 16 → field q.body 2 1 = 1 → field q.body 0 1 = 1 ∨ field q.body 0 1 = 2 → pelEvent q s = ((1, []), s)) ∧
  (q.body.length = 16 → field q.body 0 1 = 3 → (∃ b ∈ q.body.drop 2, b ≠ 0) → pelEvent q s = ((1, []), s)) ∧
  -- METER
  (let n := field q.body 0 2
    let every := field q.body 2 2
    let life := field q.body 4 2
    let paths := (List.range n).map fun i => (q.body.drop (6 + 34 * i)).take 34
    let others := s.pel.meters.filter fun m => decide (m.peer ≠ q.peer)
    0 < n → n ≤ 32 → q.body.length = 6 + 34 * n →
    (∀ p ∈ paths, ∃ k, s.livePlan.atPath p = some k ∧ k.lib = 9) →
    (48 ≤ every → 0 < life → life ≤ 3600 → others.length < 16 → pelMeter q s =
      ((0, []), { s with pel := { s.pel with meters := others ++ [⟨q.peer, every, life, paths, s.tick + every, 0⟩] } })) ∧
    (48 ≤ every → 0 < life → life ≤ 3600 → 16 ≤ others.length → pelMeter q s = ((3, []), s)) ∧
    (every < 48 ∨ life = 0 ∨ 3600 < life → pelMeter q s = ((1, []), s))) ∧
  (∀ x key, s.held = false → s.rclk = true → s.pel.meters[m.val]? = some x →
    (s.tick < x.next → Answers (.meterReport m) s fun t => t = s) ∧
    (x.next ≤ s.tick → s.pelKey x.peer.key = some key → Answers (.meterReport m) s fun t =>
      t.pel.meters[m.val]? = some { x with next := x.next + x.interval, seq := (x.seq + 1) % 2 ^ 32 } ∧ t.mem = s.mem ∧
      t.regs = s.regs ∧ ∃ w, w.length = 8 * x.paths.length ∧
        t.pel.sent = (x.peer, pelMessage key 0x86 x.peer.key 1 0 (leBytes 4 x.seq) w) :: s.pel.sent)) ∧
  (s.held = false → Answers (.meterExpiry m) s fun t =>
    t = { s with pel := { s.pel with meters := s.pel.meters.eraseIdx m.val } }) ∧
  (s.held = false → s.pel.splice = none → Answers .spliceListTimeout s fun t => t = s) ∧
  (∀ p, s.held = false → s.pel.splice = some p → Answers .spliceListTimeout s fun t =>
    t = (State.busWrite { s with pel := { s.pel with splice := none } } 0 0 0x400A0074 4 2).2) ∧
  -- IMAGE
  (q.body.length = 6 → field q.body 1 1 ≤ 1 → 256 ≤ field q.body 2 4 → field q.body 2 4 ≤ s.boot.flashSize / 2 →
    (s.noImageState = false → s.boot.source = field q.body 1 1 → pelBegin q s = ((1, []), s)) ∧
    (s.noImageState = false → s.boot.source ≠ field q.body 1 1 → (s.pel.update.map PelUpdate.erasing) ≠ some true →
      (pelBegin q s).1 = (0, []) ∧ (pelBegin q s).2.pel.update = some { slot := field q.body 1 1, len := field q.body 2 4 } ∧
      (pelBegin q s).2.rd Reg.CHIP_PROGRESS.OP = 4 ∧ (pelBegin q s).2.boot = s.boot)) ∧
  (∀ u, s.pel.update = some u → u.erasing = true → pelData q s = ((3, []), s) ∧ pelEnd q s = ((3, []), s)) ∧
  (∀ u, s.pel.update = some u → u.erasing = false →
    (q.body.drop 5 ≠ [] → field q.body 1 4 ≠ u.next → pelData q s = ((1, []), s)) ∧
    (q.body.drop 5 ≠ [] → field q.body 1 4 = u.next → u.next + (q.body.drop 5).length ≤ u.len → u.head.length = min u.next 4096 →
      (pelData q s).1 = (0, []) ∧ (pelData q s).2.pel.update = some { u with
        next := u.next + (q.body.drop 5).length, head := u.head ++ (q.body.drop 5).take (4096 - u.head.length) } ∧
      ∀ a, sget 0xFF a (pelData q s).2.boot.flash =
        let o := s.slotBase u.slot + u.next
        if o ≤ a ∧ a < o + (q.body.drop 5).length ∧ s.slotBase u.slot + 4096 ≤ a then (q.body.drop 5).getD (a - o) 0
        else sget 0xFF a s.boot.flash) ∧
    (q.body.length = 1 → u.next = u.len → u.head.length ≤ 4096 →
      let img := u.head ++ s.flashBytes (s.slotBase u.slot + u.head.length) (u.len - u.head.length)
      let why := imageReason img s.boot.otp (s.rd Reg.CHIP_REV.REV) false
      (why ≠ 0 → (pelEnd q s).1 = (2, []) ∧ (pelEnd q s).2.boot = s.boot ∧ (pelEnd q s).2.pel.update = none) ∧
      (why = 0 → (pelEnd q s).1 = (0, []) ∧ (pelEnd q s).2.pel.update = none ∧ ∀ a, sget 0xFF a (pelEnd q s).2.boot.flash =
        if s.slotBase u.slot ≤ a ∧ a < s.slotBase u.slot + u.head.length then u.head.getD (a - s.slotBase u.slot) 0
        else sget 0xFF a s.boot.flash)) ∧
    (q.body.length = 1 → (pelAbort q s).1 = (0, []) ∧ (pelAbort q s).2.pel.update = none ∧ (pelAbort q s).2.boot = s.boot)) ∧
  (s.pel.update = none → pelData q s = ((2, []), s) ∧ pelEnd q s = ((2, []), s)) ∧
  (∀ u, s.held = false → s.pel.update = some u → u.erasing = true → Answers .slotEraseDone s fun t =>
    t.pel.update = some { u with erasing := false } ∧ t.mem = s.mem ∧ ∀ a, sget 0xFF a t.boot.flash =
      if s.slotBase u.slot ≤ a ∧ a < s.slotBase u.slot + s.boot.flashSize / 2 then 0xFF else sget 0xFF a s.boot.flash) ∧
  (s.held = false → (s.pel.update.map PelUpdate.erasing) ≠ some true → Answers .slotEraseDone s fun t => t = s)

namespace Sys2Proof.Claims

/-- A request of M3 waits at the end of the queue; nothing else changes but what the fabric shows of it. -/
def HostAsks (s t : State) (wr : Bool) (a n data port : Nat) : Prop :=
  (∃ q, t.fab.waiting = s.fab.waiting ++ [q] ∧ q.master = 3 ∧ q.id = 0 ∧ q.write = wr ∧ q.addr = a ∧ q.size = n ∧ q.data = data ∧
    q.port = port ∧ q.lock = false ∧ q.unlock = false) ∧
  (port ≠ 0 → sfind port t.fab.answers = none) ∧ t.fab.served = s.fab.served ∧ t.mem = s.mem ∧ t.flt = s.flt

/-- The port's accesses are over. -/
def PortQuiet (s : State) (port : Nat) : Prop :=
  (∀ q ∈ s.fab.waiting, q.port ≠ port) ∧ ∀ p ∈ s.fab.served, p.2.req.port = port → p.2.retired = true

/-- The instruction selected, its scan, and what drives the pins. -/
def Scanned (s t : State) (ir : BitVec 8) (out bits : Nat) (drive : TapDrive) (cells : BitVec 1395) : Prop :=
  t = { s with tap := { s.tap with ir := ir, out := out, outBits := bits, drive := drive, cells := cells } }

end Sys2Proof.Claims

/-- The host's ports and the test access port (15 R329, 17 R396-R399, 19 R429). -/
def Obligations.HostPorts : Prop := ∀ (off : BitVec 29) (tag : Fin 256) (len : Fin 257) (d : List Byte) (dev : BitVec 7) (a v : Word)
  (x y : BitVec 1395) (code : BitVec 8) (s : State),
  -- PCIe
  (s.held = false → s.on Reg.HOST_STATUS.LINKUP = true →
    (let o := off.toNat % 2 ^ 28;
      o < 0xFFF0000 → placeOf false (0x40000000 + o) ≠ .none →
      (0 < len.val → o / 4 = (o + len.val - 1) / 4 → Answers (.pcieTlp false off tag len none) s fun t =>
        HostAsks s t false (0x40000000 + o) len 0 (2 * tag + 2)) ∧
      (d ≠ [] → o / 4 = (o + d.length - 1) / 4 → Answers (.pcieTlp false off tag len (some d)) s fun t =>
        HostAsks s t true (0x40000000 + o) d.length (leNat d) 0)) ∧
    (let o := off.toNat % 2 ^ 28;
      (0 < len.val → len.val ≤ 256 → o / 4 ≠ (o + len.val - 1) / 4 → Answers (.pcieTlp false off tag len none) s fun t =>
        t.on Reg.HOST_STATUS.WIDTH_ERR = true ∧ t.host.completions = (tag.val, 0, true) :: s.host.completions ∧
        t.fab = s.fab ∧ t.mem = s.mem ∧ t.flt = s.flt) ∧
      (d ≠ [] → d.length ≤ 256 → o / 4 ≠ (o + d.length - 1) / 4 → Answers (.pcieTlp false off tag len (some d)) s fun t =>
        t = s.put Reg.HOST_STATUS.WIDTH_ERR true)) ∧
    (let b := 0x20000000 * s.rd Reg.HOST_WIN.SEL + off.toNat;
      (0 < len.val → b % 256 + len.val ≤ 256 → placeOf false b ≠ .none → Answers (.pcieTlp true off tag len none) s fun t =>
        HostAsks s t false b len 0 (2 * tag + 2)) ∧
      (d ≠ [] → b % 256 + d.length ≤ 256 → placeOf false b ≠ .none → Answers (.pcieTlp true off tag len (some d)) s fun t =>
        HostAsks s t true b d.length (leNat d) 0) ∧
      (let k := 256 - b % 256;
        d.length ≤ 256 → k < d.length → placeOf false b ≠ .none → placeOf false (b + k) ≠ .none →
        Answers (.pcieTlp true off tag len (some d)) s fun t => ∃ u, HostAsks s u true b k (leNat (d.take k)) 0 ∧
          HostAsks u t true (b + k) (d.length - k) (leNat (d.drop k)) 0)) ∧
    Answers (.pcieTlp false off tag len (some [])) s (fun t => t = s)) ∧
  (s.held = false → s.on Reg.HOST_STATUS.LINKUP = false → Answers (.pcieTlp false off tag len (some [])) s fun t =>
    t.on Reg.HOST_STATUS.LINKUP = true ∧ t.rd Reg.HOST_STATUS.WIDTH = s.boot.otp.pcieMode.toNat ∧
    1 ≤ t.rd Reg.HOST_STATUS.SPEED ∧ t.rd Reg.HOST_STATUS.SPEED ≤ 3 ∧ t.mem = s.mem) ∧
  (∀ down, s.held = false → Answers (.pcieHotReset down 0) s fun t => t.mem = s.mem ∧ t.host.msix = [] ∧
    t.fab.waiting = s.fab.waiting.filter (fun q => decide (q.master ≠ 3)) ∧
    (∀ p ∈ t.fab.served, p.2.req.master = 3 → p.2.retired = true) ∧ (∀ l, t.fab.lock = some l → l.master ≠ 3) ∧
    (0 < s.fab.outstanding 3 → RaisedSome t Src.FAB_RETIRE) ∧
    (down = true → t.on Reg.HOST_STATUS.LINKUP = false ∧ t.rd Reg.HOST_STATUS.WIDTH = 0) ∧
    (down = false → t.on Reg.HOST_STATUS.LINKUP = s.on Reg.HOST_STATUS.LINKUP)) ∧
  -- SPI
  (s.held = false → placeOf false a.toNat ≠ .none →
    Answers (.spiWrite a v) s (fun t => HostAsks s t true a.toNat 4 v.toNat 1 ∧ t.host = s.host) ∧
    Answers (.spiRead a) s (fun t => HostAsks s t false a.toNat 4 0 1 ∧ t.host = { s.host with spiStatus := 0, spiData := 0 })) ∧
  (s.held = false → placeOf false a.toNat = .none → PortQuiet s 1 →
    Answers (.spiWrite a v) s (fun t => ErrorKept s t 1 a.toNat ∧ t.on Reg.HOST_STATUS.SPI_ERR = true ∧ t.mem = s.mem ∧
      sfind 1 t.fab.answers = some ⟨0, true, 3, 0⟩) ∧
    Answers (.spiRead a) s (fun t => ErrorKept s t 1 a.toNat ∧ t.on Reg.HOST_STATUS.SPI_ERR = true ∧ t.mem = s.mem ∧
      t.host.spiStatus = 0x5A ∧ t.host.spiData = 0)) ∧
  (s.held = false →
    (∀ r, sfind 1 s.fab.answers = some r → r.err = false → Answers .spiFetch s fun t =>
      t = { s with host := { s.host with spiStatus := 0xA5, spiData := r.data } }) ∧
    (∀ r, sfind 1 s.fab.answers = some r → r.err = true → Answers .spiFetch s fun t =>
      t = { s with host := { s.host with spiStatus := 0x5A, spiData := 0 } }) ∧
    (sfind 1 s.fab.answers = none → Answers .spiFetch s fun t =>
      t = { s with host := { s.host with spiStatus := 0, spiData := 0 } })) ∧
  -- I2C
  (let ready := HeldFor s false false false false
    let here := dev.toNat = 0x34 + s.rd Reg.TTH_STATUS.SIDE
    let block := (a.toNat - 0x40000000) / 65536
    let reaches := 0x40000000 ≤ a.toNat ∧ (block = 0 ∨ block = 1 ∨ block = 4 ∨ block = 5 ∨ block = 20 ∨ block = 21)
    let u := { s with host := { s.host with i2cAddr := a.toNat, i2cOut := none } };
    ((¬ ready ∨ ¬ here) → Answers (.i2cRead dev a) s (fun t => t = s) ∧ Answers (.i2cWrite dev a v) s (fun t => t = s)) ∧
    (ready → here → ¬ reaches → Answers (.i2cRead dev a) s fun t => t = u) ∧
    (∀ w z, ready → here → reaches → u.busRead 3 0 a.toNat 4 = (some w, z) → Answers (.i2cRead dev a) s fun t =>
      t = { z with host := { z.host with i2cOut := some w } }) ∧
    (ready → here → a = 0x40000014#32 → Answers (.i2cRead dev a) s fun t =>
      t.host.i2cOut = some (s.word ((fieldsAt 0x14).getD [])).toNat ∧ t.mem = s.mem ∧ t.regs = s.regs) ∧
    (ready → here → a ≠ 0x40000100#32 → Answers (.i2cWrite dev a v) s fun t => t = u) ∧
    (∀ b z, ready → here → a = 0x40000100#32 → s.held = false → u.busWrite 3 0 0x40000100 4 v.toNat = (b, z) →
      Answers (.i2cWrite dev a v) s fun t => t = { z with host := { z.host with i2cOut := some v.toNat } }) ∧
    (ready → here → a = 0x40000100#32 → s.held = true → Answers (.i2cWrite dev a v) s fun t =>
      t = { u with host := { u.host with i2cOut := some v.toNat } }) ∧
    Answers .i2cBusTimeout s (fun t => t = { s with host := { s.host with i2cAddr := 0, i2cOut := none } })) ∧
  -- TAP
  (Answers (.tapExtest x y) s fun t => Scanned s t 0x00 x.toNat 1395 .cells y) ∧
  (Answers .tapIdcode s fun t => Scanned s t 0x01 0x12304B47 32 .device s.tap.cells) ∧
  (Answers (.tapSamplePreload x y) s fun t => Scanned s t 0x02 x.toNat 1395 .device y) ∧
  (Answers .tapHighz s fun t => Scanned s t 0x03 0 1 .highZ s.tap.cells) ∧
  (Answers .tapClamp s fun t => Scanned s t 0x04 0 1 .cells s.tap.cells) ∧
  (4 < code.toNat → Answers (.tapBypass code) s fun t => Scanned s t code 0 1 .device s.tap.cells) ∧
  (code.toNat ≤ 4 → Answers (.tapBypass code) s fun t => t = s)

/-- Nothing changes a node that is held, or whose clocks are stopped (08 R161, R175, 17 R375). -/
def Obligations.StoppedNodeStands : Prop := ∀ s : State, (HeldInv s ∨ ClockInv s) →
  ∃ t, Machine.step s = .next t ∧ t = { s with pending := s.pending.tail } ∧ (HeldInv s → HeldInv t) ∧ (ClockInv s → ClockInv t)
end

