-- ==== Sys2Proof/Laws/Sparse.lean ====
section
/-! SUPPORT. What reading and writing a sparse map do, and that writing keeps its canonical form. -/

namespace Sys2Proof.Machine

variable {V : Type}

/-- An inserted key is found. -/
@[simp] theorem sfind_sinsert_same (k : Nat) (v : V) (m : SMap V) : sfind k (sinsert k v m) = some v := by
  induction m with
  | nil => simp [sinsert, sfind]
  | cons p r ih =>
    obtain ⟨j, w⟩ := p
    simp only [sinsert]
    split
    · simp [sfind]
    · split
      · simp [sfind]
      · simp [sfind, *]

/-- An insertion leaves every other key as it was. -/
theorem sfind_sinsert_ne {j k : Nat} (h : j ≠ k) (v : V) (m : SMap V) : sfind j (sinsert k v m) = sfind j m := by
  have h' : k ≠ j := fun e => h e.symm
  induction m with
  | nil => simp [sinsert, sfind, h']
  | cons p r ih =>
    obtain ⟨i, w⟩ := p
    simp only [sinsert]
    split
    · subst i; simp [sfind, h']
    · split
      · simp [sfind, h']
      · simp [sfind, ih]

/-- An erased key is not found. -/
@[simp] theorem sfind_serase_same (k : Nat) (m : SMap V) : sfind k (serase k m) = none := by
  induction m with
  | nil => rfl
  | cons p r ih =>
    obtain ⟨j, w⟩ := p
    simp only [serase]
    split
    · exact ih
    · simp [sfind, *]

/-- An erasure leaves every other key as it was. -/
theorem sfind_serase_ne {j k : Nat} (h : j ≠ k) (m : SMap V) : sfind j (serase k m) = sfind j m := by
  have h' : k ≠ j := fun e => h e.symm
  induction m with
  | nil => rfl
  | cons p r ih =>
    obtain ⟨i, w⟩ := p
    simp only [serase]
    split
    · subst i; simp [sfind, h', ih]
    · simp [sfind, ih]

/-- A read after a write of the same key gives the value written. -/
@[simp] theorem sget_sset_same [DecidableEq V] (d : V) (k : Nat) (v : V) (m : SMap V) :
    sget d k (sset d k v m) = v := by
  unfold sget sset
  split
  · simp [*]
  · simp

/-- A write leaves every other key as it was. -/
theorem sget_sset_ne [DecidableEq V] {j k : Nat} (h : j ≠ k) (d d' v : V) (m : SMap V) :
    sget d j (sset d' k v m) = sget d j m := by
  unfold sget sset
  split
  · rw [sfind_serase_ne h]
  · rw [sfind_sinsert_ne h]

/-- Both cases of a read after a write. -/
theorem sget_sset [DecidableEq V] (d : V) (j k : Nat) (v : V) (m : SMap V) :
    sget d j (sset d k v m) = if j = k then v else sget d j m := by
  split
  · subst j; simp
  · next h => exact sget_sset_ne h d d v m

/-- A read of the empty map gives the default. -/
@[simp] theorem sget_nil (d : V) (k : Nat) : sget d k ([] : SMap V) = d := rfl

/-! ### The canonical form -/

/-- A key below which nothing is listed. -/
abbrev SAbove (k : Nat) (m : SMap V) : Prop := m.all (fun p => decide (k < p.1)) = true

/-- Erasing keeps a lower bound of the keys. -/
theorem SAbove.erase {k j : Nat} {m : SMap V} (h : SAbove k m) : SAbove k (serase j m) := by
  induction m with
  | nil => rfl
  | cons p r ih =>
    obtain ⟨i, w⟩ := p
    simp only [SAbove, List.all_cons, Bool.and_eq_true] at h
    simp only [serase]
    split
    · exact ih h.2
    · simp only [SAbove, List.all_cons, Bool.and_eq_true]
      exact ⟨h.1, ih h.2⟩

/-- Inserting above a bound keeps it. -/
theorem SAbove.insert {k j : Nat} {v : V} {m : SMap V} (h : SAbove k m) (hj : k < j) : SAbove k (sinsert j v m) := by
  induction m with
  | nil => simp [SAbove, sinsert, hj]
  | cons p r ih =>
    obtain ⟨i, w⟩ := p
    simp only [SAbove, List.all_cons, Bool.and_eq_true, decide_eq_true_eq] at h
    simp only [sinsert]
    split
    · simp [SAbove, hj]; simpa using h.2
    · split
      · simp [SAbove, hj, h.1]; simpa using h.2
      · simp only [SAbove, List.all_cons, Bool.and_eq_true, decide_eq_true_eq]
        exact ⟨h.1, ih h.2⟩

/-- A lower bound may be lowered. -/
theorem SAbove.lower {k j : Nat} {m : SMap V} (h : SAbove k m) (hj : j ≤ k) : SAbove j m := by
  simp only [SAbove, List.all_eq_true, decide_eq_true_eq] at *
  intro p hp
  have := h p hp
  omega

variable [DecidableEq V]

/-- Erasing keeps the canonical form. -/
theorem swf_serase (d : V) (k : Nat) {m : SMap V} (h : swf d m = true) : swf d (serase k m) = true := by
  induction m with
  | nil => rfl
  | cons p r ih =>
    obtain ⟨i, w⟩ := p
    simp only [swf, Bool.and_eq_true] at h
    simp only [serase]
    split
    · exact ih h.2
    · simp only [swf, Bool.and_eq_true]
      exact ⟨⟨h.1.1, SAbove.erase h.1.2⟩, ih h.2⟩

/-- Inserting a value other than the default keeps the canonical form. -/
theorem swf_sinsert {d v : V} (hv : v ≠ d) (k : Nat) {m : SMap V} (h : swf d m = true) :
    swf d (sinsert k v m) = true := by
  induction m with
  | nil => simp [sinsert, swf, hv]
  | cons p r ih =>
    obtain ⟨i, w⟩ := p
    simp only [swf, Bool.and_eq_true] at h
    simp only [sinsert]
    split
    · next e =>
      subst i
      simp only [swf, Bool.and_eq_true, decide_eq_true_eq]
      exact ⟨⟨hv, h.1.2⟩, h.2⟩
    · split
      · next hlt =>
        have ha : SAbove k r := SAbove.lower (k := i) h.1.2 (Nat.le_of_lt hlt)
        simp only [swf, Bool.and_eq_true, decide_eq_true_eq, List.all_cons]
        exact ⟨⟨hv, hlt, ha⟩, ⟨by simpa using h.1.1, h.1.2⟩, h.2⟩
      · next hne hge =>
        simp only [swf, Bool.and_eq_true]
        exact ⟨⟨h.1.1, SAbove.insert h.1.2 (by omega)⟩, ih h.2⟩

/-- Writing keeps the canonical form. -/
theorem swf_sset (d : V) (k : Nat) (v : V) {m : SMap V} (h : swf d m = true) : swf d (sset d k v m) = true := by
  unfold sset
  split
  · exact swf_serase d k h
  · next hv => exact swf_sinsert hv k h

/-- Taking entries out keeps the canonical form. -/
theorem swf_filter (d : V) (f : Nat × V → Bool) {m : SMap V} (h : swf d m = true) : swf d (m.filter f) = true := by
  induction m with
  | nil => rfl
  | cons p r ih =>
    obtain ⟨i, w⟩ := p
    simp only [swf, Bool.and_eq_true] at h
    have ha : SAbove i (r.filter f) := by
      simp only [SAbove, List.all_eq_true] at *
      intro q hq
      exact h.1.2 q (List.mem_filter.mp hq).1
    rw [List.filter_cons]
    split
    · simp only [swf, Bool.and_eq_true]
      exact ⟨⟨h.1.1, ha⟩, ih h.2⟩
    · exact ih h.2

end Sys2Proof.Machine
end

