-- ==== Sys2Proof/Laws/Memory.lean ====
section
/-! SUPPORT. The addressed memory: a read after a write, and that every operation over memory keeps its canonical
form. -/

namespace Sys2Proof.Machine

/-- The memory of the reset state has the canonical form. -/
theorem memory_wf_reset : Memory.wf State.reset.mem = true := rfl

/-- A read of the byte just written. -/
@[simp] theorem State.byte_setByte_same (s : State) (a : Nat) (b : Byte) : (s.setByte a b).byte a = b := by
  simp [State.byte, State.setByte]

/-- Writing a byte leaves every other byte. -/
theorem State.byte_setByte_ne (s : State) {a c : Nat} (h : c ≠ a) (b : Byte) : (s.setByte a b).byte c = s.byte c := by
  simp only [State.byte, State.setByte]
  exact sget_sset_ne h 0 0 b s.mem

/-- Writing a byte keeps the canonical form. -/
theorem memory_wf_setByte (s : State) (a : Nat) (b : Byte) (h : Memory.wf s.mem = true) :
    Memory.wf (s.setByte a b).mem = true := swf_sset 0 a b h

/-- A store of `n` bytes leaves every byte outside them. -/
theorem State.byte_store_out (n : Nat) : ∀ (s : State) (a v c : Nat), (c < a ∨ a + n ≤ c) →
    (s.store a n v).byte c = s.byte c := by
  induction n with
  | zero => intro s a v c _; rfl
  | succ n ih =>
    intro s a v c h
    rw [State.store, ih _ _ _ _ (by omega), State.byte_setByte_ne _ (by omega)]

/-- A store of `n` bytes is read back, taken to its width. -/
theorem State.load_store (n : Nat) : ∀ (s : State) (a v : Nat), (s.store a n v).load a n = v % 256 ^ n := by
  induction n with
  | zero => intro s a v; simp [State.load, Nat.mod_one]
  | succ n ih =>
    intro s a v
    rw [State.load, State.store, ih, State.byte_store_out _ _ _ _ _ (by omega), State.byte_setByte_same]
    rw [Nat.pow_succ', Nat.mod_mul, BitVec.toNat_ofNat]
    simp

/-- A store keeps the canonical form. -/
theorem memory_wf_store (n : Nat) : ∀ (s : State) (a v : Nat), Memory.wf s.mem = true →
    Memory.wf (s.store a n v).mem = true := by
  induction n with
  | zero => intro s a v h; exact h
  | succ n ih => intro s a v h; exact ih _ _ _ (memory_wf_setByte s a _ h)

/-- Writing a list of bytes keeps the canonical form. -/
theorem memory_wf_storeBytes (l : List Byte) : ∀ (s : State) (a : Nat), Memory.wf s.mem = true →
    Memory.wf (s.storeBytes a l).mem = true := by
  induction l with
  | nil => intro s a h; exact h
  | cons b r ih => intro s a h; exact ih _ _ (memory_wf_setByte s a b h)

/-- Zeroing a range keeps the canonical form. -/
theorem memory_wf_zeroBytes (s : State) (lo hi : Nat) (h : Memory.wf s.mem = true) :
    Memory.wf (s.zeroBytes lo hi).mem = true := swf_filter 0 _ h

/-- Storing a word of X or Y memory keeps the canonical form. -/
theorem memory_wf_setXyWord (s : State) (e : Nat) (y : Bool) (a : Nat) (v : Word) (h : Memory.wf s.mem = true) :
    Memory.wf (s.setXyWord e y a v).mem = true := by
  unfold State.setXyWord
  split
  · exact h
  · exact memory_wf_store 4 s _ _ h

/-- Writing a quad of the coil pool keeps the canonical form. -/
theorem memory_wf_setQuad (s : State) (q : Nat) (v : Quad) (h : Memory.wf s.mem = true) :
    Memory.wf (s.setQuad q v).mem = true := memory_wf_store 16 s _ _ h

/-- A store changes memory alone. -/
theorem State.store_eq (n : Nat) : ∀ (s : State) (a v : Nat), s.store a n v = { s with mem := (s.store a n v).mem } := by
  induction n with
  | zero => intro s a v; rfl
  | succ n ih => intro s a v; exact ih (s.setByte a _) (a + 1) (v / 256)

end Sys2Proof.Machine
end

