-- ==== Sys2Proof/Laws/State.lean ====
section
/-! SUPPORT. What each update of the state leaves in each field: one lemma per field per update, true by definition,
so that no proof unfolds a record update. -/

namespace Sys2Proof.Machine

variable (s : State)

/-! ### `wr` -/

@[simp] theorem State.wr_mem (r : FieldRef) (v : Nat) : (s.wr r v).mem = s.mem := rfl
@[simp] theorem State.wr_livePage (r : FieldRef) (v : Nat) : (s.wr r v).livePage = s.livePage := rfl
@[simp] theorem State.wr_ecc (r : FieldRef) (v : Nat) : (s.wr r v).ecc = s.ecc := rfl
@[simp] theorem State.wr_tick (r : FieldRef) (v : Nat) : (s.wr r v).tick = s.tick := rfl
@[simp] theorem State.wr_inWindow (r : FieldRef) (v : Nat) : (s.wr r v).inWindow = s.inWindow := rfl
@[simp] theorem State.wr_free (r : FieldRef) (v : Nat) : (s.wr r v).free = s.free := rfl
@[simp] theorem State.wr_held (r : FieldRef) (v : Nat) : (s.wr r v).held = s.held := rfl
@[simp] theorem State.wr_rclk (r : FieldRef) (v : Nat) : (s.wr r v).rclk = s.rclk := rfl
@[simp] theorem State.wr_clkOut (r : FieldRef) (v : Nat) : (s.wr r v).clkOut = s.clkOut := rfl
@[simp] theorem State.wr_bus (r : FieldRef) (v : Nat) : (s.wr r v).bus = s.bus := rfl
@[simp] theorem State.wr_str (r : FieldRef) (v : Nat) : (s.wr r v).str = s.str := rfl
@[simp] theorem State.wr_eng (r : FieldRef) (v : Nat) : (s.wr r v).eng = s.eng := rfl
@[simp] theorem State.wr_coil (r : FieldRef) (v : Nat) : (s.wr r v).coil = s.coil := rfl
@[simp] theorem State.wr_lp (r : FieldRef) (v : Nat) : (s.wr r v).lp = s.lp := rfl
@[simp] theorem State.wr_mtx (r : FieldRef) (v : Nat) : (s.wr r v).mtx = s.mtx := rfl
@[simp] theorem State.wr_egr (r : FieldRef) (v : Nat) : (s.wr r v).egr = s.egr := rfl
@[simp] theorem State.wr_flt (r : FieldRef) (v : Nat) : (s.wr r v).flt = s.flt := rfl
@[simp] theorem State.wr_ser (r : FieldRef) (v : Nat) : (s.wr r v).ser = s.ser := rfl
@[simp] theorem State.wr_amp (r : FieldRef) (v : Nat) : (s.wr r v).amp = s.amp := rfl
@[simp] theorem State.wr_time (r : FieldRef) (v : Nat) : (s.wr r v).time = s.time := rfl
@[simp] theorem State.wr_ref (r : FieldRef) (v : Nat) : (s.wr r v).ref = s.ref := rfl
@[simp] theorem State.wr_net (r : FieldRef) (v : Nat) : (s.wr r v).net = s.net := rfl
@[simp] theorem State.wr_lane (r : FieldRef) (v : Nat) : (s.wr r v).lane = s.lane := rfl
@[simp] theorem State.wr_tth (r : FieldRef) (v : Nat) : (s.wr r v).tth = s.tth := rfl
@[simp] theorem State.wr_fab (r : FieldRef) (v : Nat) : (s.wr r v).fab = s.fab := rfl
@[simp] theorem State.wr_dma (r : FieldRef) (v : Nat) : (s.wr r v).dma = s.dma := rfl
@[simp] theorem State.wr_ctl (r : FieldRef) (v : Nat) : (s.wr r v).ctl = s.ctl := rfl
@[simp] theorem State.wr_boot (r : FieldRef) (v : Nat) : (s.wr r v).boot = s.boot := rfl
@[simp] theorem State.wr_host (r : FieldRef) (v : Nat) : (s.wr r v).host = s.host := rfl
@[simp] theorem State.wr_tap (r : FieldRef) (v : Nat) : (s.wr r v).tap = s.tap := rfl
@[simp] theorem State.wr_pel (r : FieldRef) (v : Nat) : (s.wr r v).pel = s.pel := rfl
@[simp] theorem State.wr_pending (r : FieldRef) (v : Nat) : (s.wr r v).pending = s.pending := rfl
@[simp] theorem State.wr_byte (r : FieldRef) (v : Nat) (c : Nat) : (s.wr r v).byte c = s.byte c := rfl
@[simp] theorem State.wr_engine (r : FieldRef) (v : Nat) (i : Nat) : (s.wr r v).engine i = s.engine i := rfl

/-! ### `put` -/

@[simp] theorem State.put_mem (r : FieldRef) (b : Bool) : (s.put r b).mem = s.mem := rfl
@[simp] theorem State.put_livePage (r : FieldRef) (b : Bool) : (s.put r b).livePage = s.livePage := rfl
@[simp] theorem State.put_ecc (r : FieldRef) (b : Bool) : (s.put r b).ecc = s.ecc := rfl
@[simp] theorem State.put_tick (r : FieldRef) (b : Bool) : (s.put r b).tick = s.tick := rfl
@[simp] theorem State.put_inWindow (r : FieldRef) (b : Bool) : (s.put r b).inWindow = s.inWindow := rfl
@[simp] theorem State.put_free (r : FieldRef) (b : Bool) : (s.put r b).free = s.free := rfl
@[simp] theorem State.put_held (r : FieldRef) (b : Bool) : (s.put r b).held = s.held := rfl
@[simp] theorem State.put_rclk (r : FieldRef) (b : Bool) : (s.put r b).rclk = s.rclk := rfl
@[simp] theorem State.put_clkOut (r : FieldRef) (b : Bool) : (s.put r b).clkOut = s.clkOut := rfl
@[simp] theorem State.put_bus (r : FieldRef) (b : Bool) : (s.put r b).bus = s.bus := rfl
@[simp] theorem State.put_str (r : FieldRef) (b : Bool) : (s.put r b).str = s.str := rfl
@[simp] theorem State.put_eng (r : FieldRef) (b : Bool) : (s.put r b).eng = s.eng := rfl
@[simp] theorem State.put_coil (r : FieldRef) (b : Bool) : (s.put r b).coil = s.coil := rfl
@[simp] theorem State.put_lp (r : FieldRef) (b : Bool) : (s.put r b).lp = s.lp := rfl
@[simp] theorem State.put_mtx (r : FieldRef) (b : Bool) : (s.put r b).mtx = s.mtx := rfl
@[simp] theorem State.put_egr (r : FieldRef) (b : Bool) : (s.put r b).egr = s.egr := rfl
@[simp] theorem State.put_flt (r : FieldRef) (b : Bool) : (s.put r b).flt = s.flt := rfl
@[simp] theorem State.put_ser (r : FieldRef) (b : Bool) : (s.put r b).ser = s.ser := rfl
@[simp] theorem State.put_amp (r : FieldRef) (b : Bool) : (s.put r b).amp = s.amp := rfl
@[simp] theorem State.put_time (r : FieldRef) (b : Bool) : (s.put r b).time = s.time := rfl
@[simp] theorem State.put_ref (r : FieldRef) (b : Bool) : (s.put r b).ref = s.ref := rfl
@[simp] theorem State.put_net (r : FieldRef) (b : Bool) : (s.put r b).net = s.net := rfl
@[simp] theorem State.put_lane (r : FieldRef) (b : Bool) : (s.put r b).lane = s.lane := rfl
@[simp] theorem State.put_tth (r : FieldRef) (b : Bool) : (s.put r b).tth = s.tth := rfl
@[simp] theorem State.put_fab (r : FieldRef) (b : Bool) : (s.put r b).fab = s.fab := rfl
@[simp] theorem State.put_dma (r : FieldRef) (b : Bool) : (s.put r b).dma = s.dma := rfl
@[simp] theorem State.put_ctl (r : FieldRef) (b : Bool) : (s.put r b).ctl = s.ctl := rfl
@[simp] theorem State.put_boot (r : FieldRef) (b : Bool) : (s.put r b).boot = s.boot := rfl
@[simp] theorem State.put_host (r : FieldRef) (b : Bool) : (s.put r b).host = s.host := rfl
@[simp] theorem State.put_tap (r : FieldRef) (b : Bool) : (s.put r b).tap = s.tap := rfl
@[simp] theorem State.put_pel (r : FieldRef) (b : Bool) : (s.put r b).pel = s.pel := rfl
@[simp] theorem State.put_pending (r : FieldRef) (b : Bool) : (s.put r b).pending = s.pending := rfl
@[simp] theorem State.put_byte (r : FieldRef) (b : Bool) (c : Nat) : (s.put r b).byte c = s.byte c := rfl
@[simp] theorem State.put_engine (r : FieldRef) (b : Bool) (i : Nat) : (s.put r b).engine i = s.engine i := rfl

/-! ### `bump` -/

@[simp] theorem State.bump_mem (r : FieldRef) (n : Nat) : (s.bump r n).mem = s.mem := rfl
@[simp] theorem State.bump_livePage (r : FieldRef) (n : Nat) : (s.bump r n).livePage = s.livePage := rfl
@[simp] theorem State.bump_ecc (r : FieldRef) (n : Nat) : (s.bump r n).ecc = s.ecc := rfl
@[simp] theorem State.bump_tick (r : FieldRef) (n : Nat) : (s.bump r n).tick = s.tick := rfl
@[simp] theorem State.bump_inWindow (r : FieldRef) (n : Nat) : (s.bump r n).inWindow = s.inWindow := rfl
@[simp] theorem State.bump_free (r : FieldRef) (n : Nat) : (s.bump r n).free = s.free := rfl
@[simp] theorem State.bump_held (r : FieldRef) (n : Nat) : (s.bump r n).held = s.held := rfl
@[simp] theorem State.bump_rclk (r : FieldRef) (n : Nat) : (s.bump r n).rclk = s.rclk := rfl
@[simp] theorem State.bump_clkOut (r : FieldRef) (n : Nat) : (s.bump r n).clkOut = s.clkOut := rfl
@[simp] theorem State.bump_bus (r : FieldRef) (n : Nat) : (s.bump r n).bus = s.bus := rfl
@[simp] theorem State.bump_str (r : FieldRef) (n : Nat) : (s.bump r n).str = s.str := rfl
@[simp] theorem State.bump_eng (r : FieldRef) (n : Nat) : (s.bump r n).eng = s.eng := rfl
@[simp] theorem State.bump_coil (r : FieldRef) (n : Nat) : (s.bump r n).coil = s.coil := rfl
@[simp] theorem State.bump_lp (r : FieldRef) (n : Nat) : (s.bump r n).lp = s.lp := rfl
@[simp] theorem State.bump_mtx (r : FieldRef) (n : Nat) : (s.bump r n).mtx = s.mtx := rfl
@[simp] theorem State.bump_egr (r : FieldRef) (n : Nat) : (s.bump r n).egr = s.egr := rfl
@[simp] theorem State.bump_flt (r : FieldRef) (n : Nat) : (s.bump r n).flt = s.flt := rfl
@[simp] theorem State.bump_ser (r : FieldRef) (n : Nat) : (s.bump r n).ser = s.ser := rfl
@[simp] theorem State.bump_amp (r : FieldRef) (n : Nat) : (s.bump r n).amp = s.amp := rfl
@[simp] theorem State.bump_time (r : FieldRef) (n : Nat) : (s.bump r n).time = s.time := rfl
@[simp] theorem State.bump_ref (r : FieldRef) (n : Nat) : (s.bump r n).ref = s.ref := rfl
@[simp] theorem State.bump_net (r : FieldRef) (n : Nat) : (s.bump r n).net = s.net := rfl
@[simp] theorem State.bump_lane (r : FieldRef) (n : Nat) : (s.bump r n).lane = s.lane := rfl
@[simp] theorem State.bump_tth (r : FieldRef) (n : Nat) : (s.bump r n).tth = s.tth := rfl
@[simp] theorem State.bump_fab (r : FieldRef) (n : Nat) : (s.bump r n).fab = s.fab := rfl
@[simp] theorem State.bump_dma (r : FieldRef) (n : Nat) : (s.bump r n).dma = s.dma := rfl
@[simp] theorem State.bump_ctl (r : FieldRef) (n : Nat) : (s.bump r n).ctl = s.ctl := rfl
@[simp] theorem State.bump_boot (r : FieldRef) (n : Nat) : (s.bump r n).boot = s.boot := rfl
@[simp] theorem State.bump_host (r : FieldRef) (n : Nat) : (s.bump r n).host = s.host := rfl
@[simp] theorem State.bump_tap (r : FieldRef) (n : Nat) : (s.bump r n).tap = s.tap := rfl
@[simp] theorem State.bump_pel (r : FieldRef) (n : Nat) : (s.bump r n).pel = s.pel := rfl
@[simp] theorem State.bump_pending (r : FieldRef) (n : Nat) : (s.bump r n).pending = s.pending := rfl
@[simp] theorem State.bump_byte (r : FieldRef) (n : Nat) (c : Nat) : (s.bump r n).byte c = s.byte c := rfl
@[simp] theorem State.bump_engine (r : FieldRef) (n : Nat) (i : Nat) : (s.bump r n).engine i = s.engine i := rfl

/-! ### `toReset` -/

@[simp] theorem State.toReset_mem (r : FieldRef) : (s.toReset r).mem = s.mem := rfl
@[simp] theorem State.toReset_livePage (r : FieldRef) : (s.toReset r).livePage = s.livePage := rfl
@[simp] theorem State.toReset_ecc (r : FieldRef) : (s.toReset r).ecc = s.ecc := rfl
@[simp] theorem State.toReset_tick (r : FieldRef) : (s.toReset r).tick = s.tick := rfl
@[simp] theorem State.toReset_inWindow (r : FieldRef) : (s.toReset r).inWindow = s.inWindow := rfl
@[simp] theorem State.toReset_free (r : FieldRef) : (s.toReset r).free = s.free := rfl
@[simp] theorem State.toReset_held (r : FieldRef) : (s.toReset r).held = s.held := rfl
@[simp] theorem State.toReset_rclk (r : FieldRef) : (s.toReset r).rclk = s.rclk := rfl
@[simp] theorem State.toReset_clkOut (r : FieldRef) : (s.toReset r).clkOut = s.clkOut := rfl
@[simp] theorem State.toReset_bus (r : FieldRef) : (s.toReset r).bus = s.bus := rfl
@[simp] theorem State.toReset_str (r : FieldRef) : (s.toReset r).str = s.str := rfl
@[simp] theorem State.toReset_eng (r : FieldRef) : (s.toReset r).eng = s.eng := rfl
@[simp] theorem State.toReset_coil (r : FieldRef) : (s.toReset r).coil = s.coil := rfl
@[simp] theorem State.toReset_lp (r : FieldRef) : (s.toReset r).lp = s.lp := rfl
@[simp] theorem State.toReset_mtx (r : FieldRef) : (s.toReset r).mtx = s.mtx := rfl
@[simp] theorem State.toReset_egr (r : FieldRef) : (s.toReset r).egr = s.egr := rfl
@[simp] theorem State.toReset_flt (r : FieldRef) : (s.toReset r).flt = s.flt := rfl
@[simp] theorem State.toReset_ser (r : FieldRef) : (s.toReset r).ser = s.ser := rfl
@[simp] theorem State.toReset_amp (r : FieldRef) : (s.toReset r).amp = s.amp := rfl
@[simp] theorem State.toReset_time (r : FieldRef) : (s.toReset r).time = s.time := rfl
@[simp] theorem State.toReset_ref (r : FieldRef) : (s.toReset r).ref = s.ref := rfl
@[simp] theorem State.toReset_net (r : FieldRef) : (s.toReset r).net = s.net := rfl
@[simp] theorem State.toReset_lane (r : FieldRef) : (s.toReset r).lane = s.lane := rfl
@[simp] theorem State.toReset_tth (r : FieldRef) : (s.toReset r).tth = s.tth := rfl
@[simp] theorem State.toReset_fab (r : FieldRef) : (s.toReset r).fab = s.fab := rfl
@[simp] theorem State.toReset_dma (r : FieldRef) : (s.toReset r).dma = s.dma := rfl
@[simp] theorem State.toReset_ctl (r : FieldRef) : (s.toReset r).ctl = s.ctl := rfl
@[simp] theorem State.toReset_boot (r : FieldRef) : (s.toReset r).boot = s.boot := rfl
@[simp] theorem State.toReset_host (r : FieldRef) : (s.toReset r).host = s.host := rfl
@[simp] theorem State.toReset_tap (r : FieldRef) : (s.toReset r).tap = s.tap := rfl
@[simp] theorem State.toReset_pel (r : FieldRef) : (s.toReset r).pel = s.pel := rfl
@[simp] theorem State.toReset_pending (r : FieldRef) : (s.toReset r).pending = s.pending := rfl
@[simp] theorem State.toReset_byte (r : FieldRef) (c : Nat) : (s.toReset r).byte c = s.byte c := rfl
@[simp] theorem State.toReset_engine (r : FieldRef) (i : Nat) : (s.toReset r).engine i = s.engine i := rfl

/-! ### `setByte` -/

@[simp] theorem State.setByte_regs (a : Nat) (b : Byte) : (s.setByte a b).regs = s.regs := rfl
@[simp] theorem State.setByte_livePage (a : Nat) (b : Byte) : (s.setByte a b).livePage = s.livePage := rfl
@[simp] theorem State.setByte_ecc (a : Nat) (b : Byte) : (s.setByte a b).ecc = s.ecc := rfl
@[simp] theorem State.setByte_tick (a : Nat) (b : Byte) : (s.setByte a b).tick = s.tick := rfl
@[simp] theorem State.setByte_inWindow (a : Nat) (b : Byte) : (s.setByte a b).inWindow = s.inWindow := rfl
@[simp] theorem State.setByte_free (a : Nat) (b : Byte) : (s.setByte a b).free = s.free := rfl
@[simp] theorem State.setByte_held (a : Nat) (b : Byte) : (s.setByte a b).held = s.held := rfl
@[simp] theorem State.setByte_rclk (a : Nat) (b : Byte) : (s.setByte a b).rclk = s.rclk := rfl
@[simp] theorem State.setByte_clkOut (a : Nat) (b : Byte) : (s.setByte a b).clkOut = s.clkOut := rfl
@[simp] theorem State.setByte_bus (a : Nat) (b : Byte) : (s.setByte a b).bus = s.bus := rfl
@[simp] theorem State.setByte_str (a : Nat) (b : Byte) : (s.setByte a b).str = s.str := rfl
@[simp] theorem State.setByte_eng (a : Nat) (b : Byte) : (s.setByte a b).eng = s.eng := rfl
@[simp] theorem State.setByte_coil (a : Nat) (b : Byte) : (s.setByte a b).coil = s.coil := rfl
@[simp] theorem State.setByte_lp (a : Nat) (b : Byte) : (s.setByte a b).lp = s.lp := rfl
@[simp] theorem State.setByte_mtx (a : Nat) (b : Byte) : (s.setByte a b).mtx = s.mtx := rfl
@[simp] theorem State.setByte_egr (a : Nat) (b : Byte) : (s.setByte a b).egr = s.egr := rfl
@[simp] theorem State.setByte_flt (a : Nat) (b : Byte) : (s.setByte a b).flt = s.flt := rfl
@[simp] theorem State.setByte_ser (a : Nat) (b : Byte) : (s.setByte a b).ser = s.ser := rfl
@[simp] theorem State.setByte_amp (a : Nat) (b : Byte) : (s.setByte a b).amp = s.amp := rfl
@[simp] theorem State.setByte_time (a : Nat) (b : Byte) : (s.setByte a b).time = s.time := rfl
@[simp] theorem State.setByte_ref (a : Nat) (b : Byte) : (s.setByte a b).ref = s.ref := rfl
@[simp] theorem State.setByte_net (a : Nat) (b : Byte) : (s.setByte a b).net = s.net := rfl
@[simp] theorem State.setByte_lane (a : Nat) (b : Byte) : (s.setByte a b).lane = s.lane := rfl
@[simp] theorem State.setByte_tth (a : Nat) (b : Byte) : (s.setByte a b).tth = s.tth := rfl
@[simp] theorem State.setByte_fab (a : Nat) (b : Byte) : (s.setByte a b).fab = s.fab := rfl
@[simp] theorem State.setByte_dma (a : Nat) (b : Byte) : (s.setByte a b).dma = s.dma := rfl
@[simp] theorem State.setByte_ctl (a : Nat) (b : Byte) : (s.setByte a b).ctl = s.ctl := rfl
@[simp] theorem State.setByte_boot (a : Nat) (b : Byte) : (s.setByte a b).boot = s.boot := rfl
@[simp] theorem State.setByte_host (a : Nat) (b : Byte) : (s.setByte a b).host = s.host := rfl
@[simp] theorem State.setByte_tap (a : Nat) (b : Byte) : (s.setByte a b).tap = s.tap := rfl
@[simp] theorem State.setByte_pel (a : Nat) (b : Byte) : (s.setByte a b).pel = s.pel := rfl
@[simp] theorem State.setByte_pending (a : Nat) (b : Byte) : (s.setByte a b).pending = s.pending := rfl
@[simp] theorem State.setByte_rd (a : Nat) (b : Byte) (q : FieldRef) : (s.setByte a b).rd q = s.rd q := rfl
@[simp] theorem State.setByte_on (a : Nat) (b : Byte) (q : FieldRef) : (s.setByte a b).on q = s.on q := rfl
@[simp] theorem State.setByte_engine (a : Nat) (b : Byte) (i : Nat) : (s.setByte a b).engine i = s.engine i := rfl

/-! ### `eccClear` -/

@[simp] theorem State.eccClear_regs (k : EccKey) : (s.eccClear k).regs = s.regs := rfl
@[simp] theorem State.eccClear_mem (k : EccKey) : (s.eccClear k).mem = s.mem := rfl
@[simp] theorem State.eccClear_livePage (k : EccKey) : (s.eccClear k).livePage = s.livePage := rfl
@[simp] theorem State.eccClear_tick (k : EccKey) : (s.eccClear k).tick = s.tick := rfl
@[simp] theorem State.eccClear_inWindow (k : EccKey) : (s.eccClear k).inWindow = s.inWindow := rfl
@[simp] theorem State.eccClear_free (k : EccKey) : (s.eccClear k).free = s.free := rfl
@[simp] theorem State.eccClear_held (k : EccKey) : (s.eccClear k).held = s.held := rfl
@[simp] theorem State.eccClear_rclk (k : EccKey) : (s.eccClear k).rclk = s.rclk := rfl
@[simp] theorem State.eccClear_clkOut (k : EccKey) : (s.eccClear k).clkOut = s.clkOut := rfl
@[simp] theorem State.eccClear_bus (k : EccKey) : (s.eccClear k).bus = s.bus := rfl
@[simp] theorem State.eccClear_str (k : EccKey) : (s.eccClear k).str = s.str := rfl
@[simp] theorem State.eccClear_eng (k : EccKey) : (s.eccClear k).eng = s.eng := rfl
@[simp] theorem State.eccClear_coil (k : EccKey) : (s.eccClear k).coil = s.coil := rfl
@[simp] theorem State.eccClear_lp (k : EccKey) : (s.eccClear k).lp = s.lp := rfl
@[simp] theorem State.eccClear_mtx (k : EccKey) : (s.eccClear k).mtx = s.mtx := rfl
@[simp] theorem State.eccClear_egr (k : EccKey) : (s.eccClear k).egr = s.egr := rfl
@[simp] theorem State.eccClear_flt (k : EccKey) : (s.eccClear k).flt = s.flt := rfl
@[simp] theorem State.eccClear_ser (k : EccKey) : (s.eccClear k).ser = s.ser := rfl
@[simp] theorem State.eccClear_amp (k : EccKey) : (s.eccClear k).amp = s.amp := rfl
@[simp] theorem State.eccClear_time (k : EccKey) : (s.eccClear k).time = s.time := rfl
@[simp] theorem State.eccClear_ref (k : EccKey) : (s.eccClear k).ref = s.ref := rfl
@[simp] theorem State.eccClear_net (k : EccKey) : (s.eccClear k).net = s.net := rfl
@[simp] theorem State.eccClear_lane (k : EccKey) : (s.eccClear k).lane = s.lane := rfl
@[simp] theorem State.eccClear_tth (k : EccKey) : (s.eccClear k).tth = s.tth := rfl
@[simp] theorem State.eccClear_fab (k : EccKey) : (s.eccClear k).fab = s.fab := rfl
@[simp] theorem State.eccClear_dma (k : EccKey) : (s.eccClear k).dma = s.dma := rfl
@[simp] theorem State.eccClear_ctl (k : EccKey) : (s.eccClear k).ctl = s.ctl := rfl
@[simp] theorem State.eccClear_boot (k : EccKey) : (s.eccClear k).boot = s.boot := rfl
@[simp] theorem State.eccClear_host (k : EccKey) : (s.eccClear k).host = s.host := rfl
@[simp] theorem State.eccClear_tap (k : EccKey) : (s.eccClear k).tap = s.tap := rfl
@[simp] theorem State.eccClear_pel (k : EccKey) : (s.eccClear k).pel = s.pel := rfl
@[simp] theorem State.eccClear_pending (k : EccKey) : (s.eccClear k).pending = s.pending := rfl
@[simp] theorem State.eccClear_rd (k : EccKey) (q : FieldRef) : (s.eccClear k).rd q = s.rd q := rfl
@[simp] theorem State.eccClear_on (k : EccKey) (q : FieldRef) : (s.eccClear k).on q = s.on q := rfl
@[simp] theorem State.eccClear_byte (k : EccKey) (c : Nat) : (s.eccClear k).byte c = s.byte c := rfl
@[simp] theorem State.eccClear_engine (k : EccKey) (i : Nat) : (s.eccClear k).engine i = s.engine i := rfl

/-! ### `setEngine` -/

@[simp] theorem State.setEngine_regs (e : Nat) (x : Engine) : (s.setEngine e x).regs = s.regs := rfl
@[simp] theorem State.setEngine_mem (e : Nat) (x : Engine) : (s.setEngine e x).mem = s.mem := rfl
@[simp] theorem State.setEngine_livePage (e : Nat) (x : Engine) : (s.setEngine e x).livePage = s.livePage := rfl
@[simp] theorem State.setEngine_ecc (e : Nat) (x : Engine) : (s.setEngine e x).ecc = s.ecc := rfl
@[simp] theorem State.setEngine_tick (e : Nat) (x : Engine) : (s.setEngine e x).tick = s.tick := rfl
@[simp] theorem State.setEngine_inWindow (e : Nat) (x : Engine) : (s.setEngine e x).inWindow = s.inWindow := rfl
@[simp] theorem State.setEngine_free (e : Nat) (x : Engine) : (s.setEngine e x).free = s.free := rfl
@[simp] theorem State.setEngine_held (e : Nat) (x : Engine) : (s.setEngine e x).held = s.held := rfl
@[simp] theorem State.setEngine_rclk (e : Nat) (x : Engine) : (s.setEngine e x).rclk = s.rclk := rfl
@[simp] theorem State.setEngine_clkOut (e : Nat) (x : Engine) : (s.setEngine e x).clkOut = s.clkOut := rfl
@[simp] theorem State.setEngine_bus (e : Nat) (x : Engine) : (s.setEngine e x).bus = s.bus := rfl
@[simp] theorem State.setEngine_str (e : Nat) (x : Engine) : (s.setEngine e x).str = s.str := rfl
@[simp] theorem State.setEngine_coil (e : Nat) (x : Engine) : (s.setEngine e x).coil = s.coil := rfl
@[simp] theorem State.setEngine_lp (e : Nat) (x : Engine) : (s.setEngine e x).lp = s.lp := rfl
@[simp] theorem State.setEngine_mtx (e : Nat) (x : Engine) : (s.setEngine e x).mtx = s.mtx := rfl
@[simp] theorem State.setEngine_egr (e : Nat) (x : Engine) : (s.setEngine e x).egr = s.egr := rfl
@[simp] theorem State.setEngine_flt (e : Nat) (x : Engine) : (s.setEngine e x).flt = s.flt := rfl
@[simp] theorem State.setEngine_ser (e : Nat) (x : Engine) : (s.setEngine e x).ser = s.ser := rfl
@[simp] theorem State.setEngine_amp (e : Nat) (x : Engine) : (s.setEngine e x).amp = s.amp := rfl
@[simp] theorem State.setEngine_time (e : Nat) (x : Engine) : (s.setEngine e x).time = s.time := rfl
@[simp] theorem State.setEngine_ref (e : Nat) (x : Engine) : (s.setEngine e x).ref = s.ref := rfl
@[simp] theorem State.setEngine_net (e : Nat) (x : Engine) : (s.setEngine e x).net = s.net := rfl
@[simp] theorem State.setEngine_lane (e : Nat) (x : Engine) : (s.setEngine e x).lane = s.lane := rfl
@[simp] theorem State.setEngine_tth (e : Nat) (x : Engine) : (s.setEngine e x).tth = s.tth := rfl
@[simp] theorem State.setEngine_fab (e : Nat) (x : Engine) : (s.setEngine e x).fab = s.fab := rfl
@[simp] theorem State.setEngine_dma (e : Nat) (x : Engine) : (s.setEngine e x).dma = s.dma := rfl
@[simp] theorem State.setEngine_ctl (e : Nat) (x : Engine) : (s.setEngine e x).ctl = s.ctl := rfl
@[simp] theorem State.setEngine_boot (e : Nat) (x : Engine) : (s.setEngine e x).boot = s.boot := rfl
@[simp] theorem State.setEngine_host (e : Nat) (x : Engine) : (s.setEngine e x).host = s.host := rfl
@[simp] theorem State.setEngine_tap (e : Nat) (x : Engine) : (s.setEngine e x).tap = s.tap := rfl
@[simp] theorem State.setEngine_pel (e : Nat) (x : Engine) : (s.setEngine e x).pel = s.pel := rfl
@[simp] theorem State.setEngine_pending (e : Nat) (x : Engine) : (s.setEngine e x).pending = s.pending := rfl
@[simp] theorem State.setEngine_rd (e : Nat) (x : Engine) (q : FieldRef) : (s.setEngine e x).rd q = s.rd q := rfl
@[simp] theorem State.setEngine_on (e : Nat) (x : Engine) (q : FieldRef) : (s.setEngine e x).on q = s.on q := rfl
@[simp] theorem State.setEngine_byte (e : Nat) (x : Engine) (c : Nat) : (s.setEngine e x).byte c = s.byte c := rfl

/-! ### `onStr` -/

@[simp] theorem State.onStr_regs (f : StrState → StrState) : (s.onStr f).regs = s.regs := rfl
@[simp] theorem State.onStr_mem (f : StrState → StrState) : (s.onStr f).mem = s.mem := rfl
@[simp] theorem State.onStr_livePage (f : StrState → StrState) : (s.onStr f).livePage = s.livePage := rfl
@[simp] theorem State.onStr_ecc (f : StrState → StrState) : (s.onStr f).ecc = s.ecc := rfl
@[simp] theorem State.onStr_tick (f : StrState → StrState) : (s.onStr f).tick = s.tick := rfl
@[simp] theorem State.onStr_inWindow (f : StrState → StrState) : (s.onStr f).inWindow = s.inWindow := rfl
@[simp] theorem State.onStr_free (f : StrState → StrState) : (s.onStr f).free = s.free := rfl
@[simp] theorem State.onStr_held (f : StrState → StrState) : (s.onStr f).held = s.held := rfl
@[simp] theorem State.onStr_rclk (f : StrState → StrState) : (s.onStr f).rclk = s.rclk := rfl
@[simp] theorem State.onStr_clkOut (f : StrState → StrState) : (s.onStr f).clkOut = s.clkOut := rfl
@[simp] theorem State.onStr_bus (f : StrState → StrState) : (s.onStr f).bus = s.bus := rfl
@[simp] theorem State.onStr_str (f : StrState → StrState) : (s.onStr f).str = f s.str := rfl
@[simp] theorem State.onStr_eng (f : StrState → StrState) : (s.onStr f).eng = s.eng := rfl
@[simp] theorem State.onStr_coil (f : StrState → StrState) : (s.onStr f).coil = s.coil := rfl
@[simp] theorem State.onStr_lp (f : StrState → StrState) : (s.onStr f).lp = s.lp := rfl
@[simp] theorem State.onStr_mtx (f : StrState → StrState) : (s.onStr f).mtx = s.mtx := rfl
@[simp] theorem State.onStr_egr (f : StrState → StrState) : (s.onStr f).egr = s.egr := rfl
@[simp] theorem State.onStr_flt (f : StrState → StrState) : (s.onStr f).flt = s.flt := rfl
@[simp] theorem State.onStr_ser (f : StrState → StrState) : (s.onStr f).ser = s.ser := rfl
@[simp] theorem State.onStr_amp (f : StrState → StrState) : (s.onStr f).amp = s.amp := rfl
@[simp] theorem State.onStr_time (f : StrState → StrState) : (s.onStr f).time = s.time := rfl
@[simp] theorem State.onStr_ref (f : StrState → StrState) : (s.onStr f).ref = s.ref := rfl
@[simp] theorem State.onStr_net (f : StrState → StrState) : (s.onStr f).net = s.net := rfl
@[simp] theorem State.onStr_lane (f : StrState → StrState) : (s.onStr f).lane = s.lane := rfl
@[simp] theorem State.onStr_tth (f : StrState → StrState) : (s.onStr f).tth = s.tth := rfl
@[simp] theorem State.onStr_fab (f : StrState → StrState) : (s.onStr f).fab = s.fab := rfl
@[simp] theorem State.onStr_dma (f : StrState → StrState) : (s.onStr f).dma = s.dma := rfl
@[simp] theorem State.onStr_ctl (f : StrState → StrState) : (s.onStr f).ctl = s.ctl := rfl
@[simp] theorem State.onStr_boot (f : StrState → StrState) : (s.onStr f).boot = s.boot := rfl
@[simp] theorem State.onStr_host (f : StrState → StrState) : (s.onStr f).host = s.host := rfl
@[simp] theorem State.onStr_tap (f : StrState → StrState) : (s.onStr f).tap = s.tap := rfl
@[simp] theorem State.onStr_pel (f : StrState → StrState) : (s.onStr f).pel = s.pel := rfl
@[simp] theorem State.onStr_pending (f : StrState → StrState) : (s.onStr f).pending = s.pending := rfl
@[simp] theorem State.onStr_rd (f : StrState → StrState) (q : FieldRef) : (s.onStr f).rd q = s.rd q := rfl
@[simp] theorem State.onStr_on (f : StrState → StrState) (q : FieldRef) : (s.onStr f).on q = s.on q := rfl
@[simp] theorem State.onStr_byte (f : StrState → StrState) (c : Nat) : (s.onStr f).byte c = s.byte c := rfl
@[simp] theorem State.onStr_engine (f : StrState → StrState) (i : Nat) : (s.onStr f).engine i = s.engine i := rfl

/-! ### `onCoil` -/

@[simp] theorem State.onCoil_regs (f : CoilState → CoilState) : (s.onCoil f).regs = s.regs := rfl
@[simp] theorem State.onCoil_mem (f : CoilState → CoilState) : (s.onCoil f).mem = s.mem := rfl
@[simp] theorem State.onCoil_livePage (f : CoilState → CoilState) : (s.onCoil f).livePage = s.livePage := rfl
@[simp] theorem State.onCoil_ecc (f : CoilState → CoilState) : (s.onCoil f).ecc = s.ecc := rfl
@[simp] theorem State.onCoil_tick (f : CoilState → CoilState) : (s.onCoil f).tick = s.tick := rfl
@[simp] theorem State.onCoil_inWindow (f : CoilState → CoilState) : (s.onCoil f).inWindow = s.inWindow := rfl
@[simp] theorem State.onCoil_free (f : CoilState → CoilState) : (s.onCoil f).free = s.free := rfl
@[simp] theorem State.onCoil_held (f : CoilState → CoilState) : (s.onCoil f).held = s.held := rfl
@[simp] theorem State.onCoil_rclk (f : CoilState → CoilState) : (s.onCoil f).rclk = s.rclk := rfl
@[simp] theorem State.onCoil_clkOut (f : CoilState → CoilState) : (s.onCoil f).clkOut = s.clkOut := rfl
@[simp] theorem State.onCoil_bus (f : CoilState → CoilState) : (s.onCoil f).bus = s.bus := rfl
@[simp] theorem State.onCoil_str (f : CoilState → CoilState) : (s.onCoil f).str = s.str := rfl
@[simp] theorem State.onCoil_eng (f : CoilState → CoilState) : (s.onCoil f).eng = s.eng := rfl
@[simp] theorem State.onCoil_coil (f : CoilState → CoilState) : (s.onCoil f).coil = f s.coil := rfl
@[simp] theorem State.onCoil_lp (f : CoilState → CoilState) : (s.onCoil f).lp = s.lp := rfl
@[simp] theorem State.onCoil_mtx (f : CoilState → CoilState) : (s.onCoil f).mtx = s.mtx := rfl
@[simp] theorem State.onCoil_egr (f : CoilState → CoilState) : (s.onCoil f).egr = s.egr := rfl
@[simp] theorem State.onCoil_flt (f : CoilState → CoilState) : (s.onCoil f).flt = s.flt := rfl
@[simp] theorem State.onCoil_ser (f : CoilState → CoilState) : (s.onCoil f).ser = s.ser := rfl
@[simp] theorem State.onCoil_amp (f : CoilState → CoilState) : (s.onCoil f).amp = s.amp := rfl
@[simp] theorem State.onCoil_time (f : CoilState → CoilState) : (s.onCoil f).time = s.time := rfl
@[simp] theorem State.onCoil_ref (f : CoilState → CoilState) : (s.onCoil f).ref = s.ref := rfl
@[simp] theorem State.onCoil_net (f : CoilState → CoilState) : (s.onCoil f).net = s.net := rfl
@[simp] theorem State.onCoil_lane (f : CoilState → CoilState) : (s.onCoil f).lane = s.lane := rfl
@[simp] theorem State.onCoil_tth (f : CoilState → CoilState) : (s.onCoil f).tth = s.tth := rfl
@[simp] theorem State.onCoil_fab (f : CoilState → CoilState) : (s.onCoil f).fab = s.fab := rfl
@[simp] theorem State.onCoil_dma (f : CoilState → CoilState) : (s.onCoil f).dma = s.dma := rfl
@[simp] theorem State.onCoil_ctl (f : CoilState → CoilState) : (s.onCoil f).ctl = s.ctl := rfl
@[simp] theorem State.onCoil_boot (f : CoilState → CoilState) : (s.onCoil f).boot = s.boot := rfl
@[simp] theorem State.onCoil_host (f : CoilState → CoilState) : (s.onCoil f).host = s.host := rfl
@[simp] theorem State.onCoil_tap (f : CoilState → CoilState) : (s.onCoil f).tap = s.tap := rfl
@[simp] theorem State.onCoil_pel (f : CoilState → CoilState) : (s.onCoil f).pel = s.pel := rfl
@[simp] theorem State.onCoil_pending (f : CoilState → CoilState) : (s.onCoil f).pending = s.pending := rfl
@[simp] theorem State.onCoil_rd (f : CoilState → CoilState) (q : FieldRef) : (s.onCoil f).rd q = s.rd q := rfl
@[simp] theorem State.onCoil_on (f : CoilState → CoilState) (q : FieldRef) : (s.onCoil f).on q = s.on q := rfl
@[simp] theorem State.onCoil_byte (f : CoilState → CoilState) (c : Nat) : (s.onCoil f).byte c = s.byte c := rfl
@[simp] theorem State.onCoil_engine (f : CoilState → CoilState) (i : Nat) : (s.onCoil f).engine i = s.engine i := rfl

/-! ### `onLp` -/

@[simp] theorem State.onLp_regs (f : LpState → LpState) : (s.onLp f).regs = s.regs := rfl
@[simp] theorem State.onLp_mem (f : LpState → LpState) : (s.onLp f).mem = s.mem := rfl
@[simp] theorem State.onLp_livePage (f : LpState → LpState) : (s.onLp f).livePage = s.livePage := rfl
@[simp] theorem State.onLp_ecc (f : LpState → LpState) : (s.onLp f).ecc = s.ecc := rfl
@[simp] theorem State.onLp_tick (f : LpState → LpState) : (s.onLp f).tick = s.tick := rfl
@[simp] theorem State.onLp_inWindow (f : LpState → LpState) : (s.onLp f).inWindow = s.inWindow := rfl
@[simp] theorem State.onLp_free (f : LpState → LpState) : (s.onLp f).free = s.free := rfl
@[simp] theorem State.onLp_held (f : LpState → LpState) : (s.onLp f).held = s.held := rfl
@[simp] theorem State.onLp_rclk (f : LpState → LpState) : (s.onLp f).rclk = s.rclk := rfl
@[simp] theorem State.onLp_clkOut (f : LpState → LpState) : (s.onLp f).clkOut = s.clkOut := rfl
@[simp] theorem State.onLp_bus (f : LpState → LpState) : (s.onLp f).bus = s.bus := rfl
@[simp] theorem State.onLp_str (f : LpState → LpState) : (s.onLp f).str = s.str := rfl
@[simp] theorem State.onLp_eng (f : LpState → LpState) : (s.onLp f).eng = s.eng := rfl
@[simp] theorem State.onLp_coil (f : LpState → LpState) : (s.onLp f).coil = s.coil := rfl
@[simp] theorem State.onLp_lp (f : LpState → LpState) : (s.onLp f).lp = f s.lp := rfl
@[simp] theorem State.onLp_mtx (f : LpState → LpState) : (s.onLp f).mtx = s.mtx := rfl
@[simp] theorem State.onLp_egr (f : LpState → LpState) : (s.onLp f).egr = s.egr := rfl
@[simp] theorem State.onLp_flt (f : LpState → LpState) : (s.onLp f).flt = s.flt := rfl
@[simp] theorem State.onLp_ser (f : LpState → LpState) : (s.onLp f).ser = s.ser := rfl
@[simp] theorem State.onLp_amp (f : LpState → LpState) : (s.onLp f).amp = s.amp := rfl
@[simp] theorem State.onLp_time (f : LpState → LpState) : (s.onLp f).time = s.time := rfl
@[simp] theorem State.onLp_ref (f : LpState → LpState) : (s.onLp f).ref = s.ref := rfl
@[simp] theorem State.onLp_net (f : LpState → LpState) : (s.onLp f).net = s.net := rfl
@[simp] theorem State.onLp_lane (f : LpState → LpState) : (s.onLp f).lane = s.lane := rfl
@[simp] theorem State.onLp_tth (f : LpState → LpState) : (s.onLp f).tth = s.tth := rfl
@[simp] theorem State.onLp_fab (f : LpState → LpState) : (s.onLp f).fab = s.fab := rfl
@[simp] theorem State.onLp_dma (f : LpState → LpState) : (s.onLp f).dma = s.dma := rfl
@[simp] theorem State.onLp_ctl (f : LpState → LpState) : (s.onLp f).ctl = s.ctl := rfl
@[simp] theorem State.onLp_boot (f : LpState → LpState) : (s.onLp f).boot = s.boot := rfl
@[simp] theorem State.onLp_host (f : LpState → LpState) : (s.onLp f).host = s.host := rfl
@[simp] theorem State.onLp_tap (f : LpState → LpState) : (s.onLp f).tap = s.tap := rfl
@[simp] theorem State.onLp_pel (f : LpState → LpState) : (s.onLp f).pel = s.pel := rfl
@[simp] theorem State.onLp_pending (f : LpState → LpState) : (s.onLp f).pending = s.pending := rfl
@[simp] theorem State.onLp_rd (f : LpState → LpState) (q : FieldRef) : (s.onLp f).rd q = s.rd q := rfl
@[simp] theorem State.onLp_on (f : LpState → LpState) (q : FieldRef) : (s.onLp f).on q = s.on q := rfl
@[simp] theorem State.onLp_byte (f : LpState → LpState) (c : Nat) : (s.onLp f).byte c = s.byte c := rfl
@[simp] theorem State.onLp_engine (f : LpState → LpState) (i : Nat) : (s.onLp f).engine i = s.engine i := rfl

/-! ### `onMtx` -/

@[simp] theorem State.onMtx_regs (f : MtxState → MtxState) : (s.onMtx f).regs = s.regs := rfl
@[simp] theorem State.onMtx_mem (f : MtxState → MtxState) : (s.onMtx f).mem = s.mem := rfl
@[simp] theorem State.onMtx_livePage (f : MtxState → MtxState) : (s.onMtx f).livePage = s.livePage := rfl
@[simp] theorem State.onMtx_ecc (f : MtxState → MtxState) : (s.onMtx f).ecc = s.ecc := rfl
@[simp] theorem State.onMtx_tick (f : MtxState → MtxState) : (s.onMtx f).tick = s.tick := rfl
@[simp] theorem State.onMtx_inWindow (f : MtxState → MtxState) : (s.onMtx f).inWindow = s.inWindow := rfl
@[simp] theorem State.onMtx_free (f : MtxState → MtxState) : (s.onMtx f).free = s.free := rfl
@[simp] theorem State.onMtx_held (f : MtxState → MtxState) : (s.onMtx f).held = s.held := rfl
@[simp] theorem State.onMtx_rclk (f : MtxState → MtxState) : (s.onMtx f).rclk = s.rclk := rfl
@[simp] theorem State.onMtx_clkOut (f : MtxState → MtxState) : (s.onMtx f).clkOut = s.clkOut := rfl
@[simp] theorem State.onMtx_bus (f : MtxState → MtxState) : (s.onMtx f).bus = s.bus := rfl
@[simp] theorem State.onMtx_str (f : MtxState → MtxState) : (s.onMtx f).str = s.str := rfl
@[simp] theorem State.onMtx_eng (f : MtxState → MtxState) : (s.onMtx f).eng = s.eng := rfl
@[simp] theorem State.onMtx_coil (f : MtxState → MtxState) : (s.onMtx f).coil = s.coil := rfl
@[simp] theorem State.onMtx_lp (f : MtxState → MtxState) : (s.onMtx f).lp = s.lp := rfl
@[simp] theorem State.onMtx_mtx (f : MtxState → MtxState) : (s.onMtx f).mtx = f s.mtx := rfl
@[simp] theorem State.onMtx_egr (f : MtxState → MtxState) : (s.onMtx f).egr = s.egr := rfl
@[simp] theorem State.onMtx_flt (f : MtxState → MtxState) : (s.onMtx f).flt = s.flt := rfl
@[simp] theorem State.onMtx_ser (f : MtxState → MtxState) : (s.onMtx f).ser = s.ser := rfl
@[simp] theorem State.onMtx_amp (f : MtxState → MtxState) : (s.onMtx f).amp = s.amp := rfl
@[simp] theorem State.onMtx_time (f : MtxState → MtxState) : (s.onMtx f).time = s.time := rfl
@[simp] theorem State.onMtx_ref (f : MtxState → MtxState) : (s.onMtx f).ref = s.ref := rfl
@[simp] theorem State.onMtx_net (f : MtxState → MtxState) : (s.onMtx f).net = s.net := rfl
@[simp] theorem State.onMtx_lane (f : MtxState → MtxState) : (s.onMtx f).lane = s.lane := rfl
@[simp] theorem State.onMtx_tth (f : MtxState → MtxState) : (s.onMtx f).tth = s.tth := rfl
@[simp] theorem State.onMtx_fab (f : MtxState → MtxState) : (s.onMtx f).fab = s.fab := rfl
@[simp] theorem State.onMtx_dma (f : MtxState → MtxState) : (s.onMtx f).dma = s.dma := rfl
@[simp] theorem State.onMtx_ctl (f : MtxState → MtxState) : (s.onMtx f).ctl = s.ctl := rfl
@[simp] theorem State.onMtx_boot (f : MtxState → MtxState) : (s.onMtx f).boot = s.boot := rfl
@[simp] theorem State.onMtx_host (f : MtxState → MtxState) : (s.onMtx f).host = s.host := rfl
@[simp] theorem State.onMtx_tap (f : MtxState → MtxState) : (s.onMtx f).tap = s.tap := rfl
@[simp] theorem State.onMtx_pel (f : MtxState → MtxState) : (s.onMtx f).pel = s.pel := rfl
@[simp] theorem State.onMtx_pending (f : MtxState → MtxState) : (s.onMtx f).pending = s.pending := rfl
@[simp] theorem State.onMtx_rd (f : MtxState → MtxState) (q : FieldRef) : (s.onMtx f).rd q = s.rd q := rfl
@[simp] theorem State.onMtx_on (f : MtxState → MtxState) (q : FieldRef) : (s.onMtx f).on q = s.on q := rfl
@[simp] theorem State.onMtx_byte (f : MtxState → MtxState) (c : Nat) : (s.onMtx f).byte c = s.byte c := rfl
@[simp] theorem State.onMtx_engine (f : MtxState → MtxState) (i : Nat) : (s.onMtx f).engine i = s.engine i := rfl

/-! ### `onEgr` -/

@[simp] theorem State.onEgr_regs (f : EgrState → EgrState) : (s.onEgr f).regs = s.regs := rfl
@[simp] theorem State.onEgr_mem (f : EgrState → EgrState) : (s.onEgr f).mem = s.mem := rfl
@[simp] theorem State.onEgr_livePage (f : EgrState → EgrState) : (s.onEgr f).livePage = s.livePage := rfl
@[simp] theorem State.onEgr_ecc (f : EgrState → EgrState) : (s.onEgr f).ecc = s.ecc := rfl
@[simp] theorem State.onEgr_tick (f : EgrState → EgrState) : (s.onEgr f).tick = s.tick := rfl
@[simp] theorem State.onEgr_inWindow (f : EgrState → EgrState) : (s.onEgr f).inWindow = s.inWindow := rfl
@[simp] theorem State.onEgr_free (f : EgrState → EgrState) : (s.onEgr f).free = s.free := rfl
@[simp] theorem State.onEgr_held (f : EgrState → EgrState) : (s.onEgr f).held = s.held := rfl
@[simp] theorem State.onEgr_rclk (f : EgrState → EgrState) : (s.onEgr f).rclk = s.rclk := rfl
@[simp] theorem State.onEgr_clkOut (f : EgrState → EgrState) : (s.onEgr f).clkOut = s.clkOut := rfl
@[simp] theorem State.onEgr_bus (f : EgrState → EgrState) : (s.onEgr f).bus = s.bus := rfl
@[simp] theorem State.onEgr_str (f : EgrState → EgrState) : (s.onEgr f).str = s.str := rfl
@[simp] theorem State.onEgr_eng (f : EgrState → EgrState) : (s.onEgr f).eng = s.eng := rfl
@[simp] theorem State.onEgr_coil (f : EgrState → EgrState) : (s.onEgr f).coil = s.coil := rfl
@[simp] theorem State.onEgr_lp (f : EgrState → EgrState) : (s.onEgr f).lp = s.lp := rfl
@[simp] theorem State.onEgr_mtx (f : EgrState → EgrState) : (s.onEgr f).mtx = s.mtx := rfl
@[simp] theorem State.onEgr_egr (f : EgrState → EgrState) : (s.onEgr f).egr = f s.egr := rfl
@[simp] theorem State.onEgr_flt (f : EgrState → EgrState) : (s.onEgr f).flt = s.flt := rfl
@[simp] theorem State.onEgr_ser (f : EgrState → EgrState) : (s.onEgr f).ser = s.ser := rfl
@[simp] theorem State.onEgr_amp (f : EgrState → EgrState) : (s.onEgr f).amp = s.amp := rfl
@[simp] theorem State.onEgr_time (f : EgrState → EgrState) : (s.onEgr f).time = s.time := rfl
@[simp] theorem State.onEgr_ref (f : EgrState → EgrState) : (s.onEgr f).ref = s.ref := rfl
@[simp] theorem State.onEgr_net (f : EgrState → EgrState) : (s.onEgr f).net = s.net := rfl
@[simp] theorem State.onEgr_lane (f : EgrState → EgrState) : (s.onEgr f).lane = s.lane := rfl
@[simp] theorem State.onEgr_tth (f : EgrState → EgrState) : (s.onEgr f).tth = s.tth := rfl
@[simp] theorem State.onEgr_fab (f : EgrState → EgrState) : (s.onEgr f).fab = s.fab := rfl
@[simp] theorem State.onEgr_dma (f : EgrState → EgrState) : (s.onEgr f).dma = s.dma := rfl
@[simp] theorem State.onEgr_ctl (f : EgrState → EgrState) : (s.onEgr f).ctl = s.ctl := rfl
@[simp] theorem State.onEgr_boot (f : EgrState → EgrState) : (s.onEgr f).boot = s.boot := rfl
@[simp] theorem State.onEgr_host (f : EgrState → EgrState) : (s.onEgr f).host = s.host := rfl
@[simp] theorem State.onEgr_tap (f : EgrState → EgrState) : (s.onEgr f).tap = s.tap := rfl
@[simp] theorem State.onEgr_pel (f : EgrState → EgrState) : (s.onEgr f).pel = s.pel := rfl
@[simp] theorem State.onEgr_pending (f : EgrState → EgrState) : (s.onEgr f).pending = s.pending := rfl
@[simp] theorem State.onEgr_rd (f : EgrState → EgrState) (q : FieldRef) : (s.onEgr f).rd q = s.rd q := rfl
@[simp] theorem State.onEgr_on (f : EgrState → EgrState) (q : FieldRef) : (s.onEgr f).on q = s.on q := rfl
@[simp] theorem State.onEgr_byte (f : EgrState → EgrState) (c : Nat) : (s.onEgr f).byte c = s.byte c := rfl
@[simp] theorem State.onEgr_engine (f : EgrState → EgrState) (i : Nat) : (s.onEgr f).engine i = s.engine i := rfl

/-! ### `onFlt` -/

@[simp] theorem State.onFlt_regs (f : FltState → FltState) : (s.onFlt f).regs = s.regs := rfl
@[simp] theorem State.onFlt_mem (f : FltState → FltState) : (s.onFlt f).mem = s.mem := rfl
@[simp] theorem State.onFlt_livePage (f : FltState → FltState) : (s.onFlt f).livePage = s.livePage := rfl
@[simp] theorem State.onFlt_ecc (f : FltState → FltState) : (s.onFlt f).ecc = s.ecc := rfl
@[simp] theorem State.onFlt_tick (f : FltState → FltState) : (s.onFlt f).tick = s.tick := rfl
@[simp] theorem State.onFlt_inWindow (f : FltState → FltState) : (s.onFlt f).inWindow = s.inWindow := rfl
@[simp] theorem State.onFlt_free (f : FltState → FltState) : (s.onFlt f).free = s.free := rfl
@[simp] theorem State.onFlt_held (f : FltState → FltState) : (s.onFlt f).held = s.held := rfl
@[simp] theorem State.onFlt_rclk (f : FltState → FltState) : (s.onFlt f).rclk = s.rclk := rfl
@[simp] theorem State.onFlt_clkOut (f : FltState → FltState) : (s.onFlt f).clkOut = s.clkOut := rfl
@[simp] theorem State.onFlt_bus (f : FltState → FltState) : (s.onFlt f).bus = s.bus := rfl
@[simp] theorem State.onFlt_str (f : FltState → FltState) : (s.onFlt f).str = s.str := rfl
@[simp] theorem State.onFlt_eng (f : FltState → FltState) : (s.onFlt f).eng = s.eng := rfl
@[simp] theorem State.onFlt_coil (f : FltState → FltState) : (s.onFlt f).coil = s.coil := rfl
@[simp] theorem State.onFlt_lp (f : FltState → FltState) : (s.onFlt f).lp = s.lp := rfl
@[simp] theorem State.onFlt_mtx (f : FltState → FltState) : (s.onFlt f).mtx = s.mtx := rfl
@[simp] theorem State.onFlt_egr (f : FltState → FltState) : (s.onFlt f).egr = s.egr := rfl
@[simp] theorem State.onFlt_flt (f : FltState → FltState) : (s.onFlt f).flt = f s.flt := rfl
@[simp] theorem State.onFlt_ser (f : FltState → FltState) : (s.onFlt f).ser = s.ser := rfl
@[simp] theorem State.onFlt_amp (f : FltState → FltState) : (s.onFlt f).amp = s.amp := rfl
@[simp] theorem State.onFlt_time (f : FltState → FltState) : (s.onFlt f).time = s.time := rfl
@[simp] theorem State.onFlt_ref (f : FltState → FltState) : (s.onFlt f).ref = s.ref := rfl
@[simp] theorem State.onFlt_net (f : FltState → FltState) : (s.onFlt f).net = s.net := rfl
@[simp] theorem State.onFlt_lane (f : FltState → FltState) : (s.onFlt f).lane = s.lane := rfl
@[simp] theorem State.onFlt_tth (f : FltState → FltState) : (s.onFlt f).tth = s.tth := rfl
@[simp] theorem State.onFlt_fab (f : FltState → FltState) : (s.onFlt f).fab = s.fab := rfl
@[simp] theorem State.onFlt_dma (f : FltState → FltState) : (s.onFlt f).dma = s.dma := rfl
@[simp] theorem State.onFlt_ctl (f : FltState → FltState) : (s.onFlt f).ctl = s.ctl := rfl
@[simp] theorem State.onFlt_boot (f : FltState → FltState) : (s.onFlt f).boot = s.boot := rfl
@[simp] theorem State.onFlt_host (f : FltState → FltState) : (s.onFlt f).host = s.host := rfl
@[simp] theorem State.onFlt_tap (f : FltState → FltState) : (s.onFlt f).tap = s.tap := rfl
@[simp] theorem State.onFlt_pel (f : FltState → FltState) : (s.onFlt f).pel = s.pel := rfl
@[simp] theorem State.onFlt_pending (f : FltState → FltState) : (s.onFlt f).pending = s.pending := rfl
@[simp] theorem State.onFlt_rd (f : FltState → FltState) (q : FieldRef) : (s.onFlt f).rd q = s.rd q := rfl
@[simp] theorem State.onFlt_on (f : FltState → FltState) (q : FieldRef) : (s.onFlt f).on q = s.on q := rfl
@[simp] theorem State.onFlt_byte (f : FltState → FltState) (c : Nat) : (s.onFlt f).byte c = s.byte c := rfl
@[simp] theorem State.onFlt_engine (f : FltState → FltState) (i : Nat) : (s.onFlt f).engine i = s.engine i := rfl

/-! ### `onTime` -/

@[simp] theorem State.onTime_regs (f : TimeState → TimeState) : (s.onTime f).regs = s.regs := rfl
@[simp] theorem State.onTime_mem (f : TimeState → TimeState) : (s.onTime f).mem = s.mem := rfl
@[simp] theorem State.onTime_livePage (f : TimeState → TimeState) : (s.onTime f).livePage = s.livePage := rfl
@[simp] theorem State.onTime_ecc (f : TimeState → TimeState) : (s.onTime f).ecc = s.ecc := rfl
@[simp] theorem State.onTime_tick (f : TimeState → TimeState) : (s.onTime f).tick = s.tick := rfl
@[simp] theorem State.onTime_inWindow (f : TimeState → TimeState) : (s.onTime f).inWindow = s.inWindow := rfl
@[simp] theorem State.onTime_free (f : TimeState → TimeState) : (s.onTime f).free = s.free := rfl
@[simp] theorem State.onTime_held (f : TimeState → TimeState) : (s.onTime f).held = s.held := rfl
@[simp] theorem State.onTime_rclk (f : TimeState → TimeState) : (s.onTime f).rclk = s.rclk := rfl
@[simp] theorem State.onTime_clkOut (f : TimeState → TimeState) : (s.onTime f).clkOut = s.clkOut := rfl
@[simp] theorem State.onTime_bus (f : TimeState → TimeState) : (s.onTime f).bus = s.bus := rfl
@[simp] theorem State.onTime_str (f : TimeState → TimeState) : (s.onTime f).str = s.str := rfl
@[simp] theorem State.onTime_eng (f : TimeState → TimeState) : (s.onTime f).eng = s.eng := rfl
@[simp] theorem State.onTime_coil (f : TimeState → TimeState) : (s.onTime f).coil = s.coil := rfl
@[simp] theorem State.onTime_lp (f : TimeState → TimeState) : (s.onTime f).lp = s.lp := rfl
@[simp] theorem State.onTime_mtx (f : TimeState → TimeState) : (s.onTime f).mtx = s.mtx := rfl
@[simp] theorem State.onTime_egr (f : TimeState → TimeState) : (s.onTime f).egr = s.egr := rfl
@[simp] theorem State.onTime_flt (f : TimeState → TimeState) : (s.onTime f).flt = s.flt := rfl
@[simp] theorem State.onTime_ser (f : TimeState → TimeState) : (s.onTime f).ser = s.ser := rfl
@[simp] theorem State.onTime_amp (f : TimeState → TimeState) : (s.onTime f).amp = s.amp := rfl
@[simp] theorem State.onTime_time (f : TimeState → TimeState) : (s.onTime f).time = f s.time := rfl
@[simp] theorem State.onTime_ref (f : TimeState → TimeState) : (s.onTime f).ref = s.ref := rfl
@[simp] theorem State.onTime_net (f : TimeState → TimeState) : (s.onTime f).net = s.net := rfl
@[simp] theorem State.onTime_lane (f : TimeState → TimeState) : (s.onTime f).lane = s.lane := rfl
@[simp] theorem State.onTime_tth (f : TimeState → TimeState) : (s.onTime f).tth = s.tth := rfl
@[simp] theorem State.onTime_fab (f : TimeState → TimeState) : (s.onTime f).fab = s.fab := rfl
@[simp] theorem State.onTime_dma (f : TimeState → TimeState) : (s.onTime f).dma = s.dma := rfl
@[simp] theorem State.onTime_ctl (f : TimeState → TimeState) : (s.onTime f).ctl = s.ctl := rfl
@[simp] theorem State.onTime_boot (f : TimeState → TimeState) : (s.onTime f).boot = s.boot := rfl
@[simp] theorem State.onTime_host (f : TimeState → TimeState) : (s.onTime f).host = s.host := rfl
@[simp] theorem State.onTime_tap (f : TimeState → TimeState) : (s.onTime f).tap = s.tap := rfl
@[simp] theorem State.onTime_pel (f : TimeState → TimeState) : (s.onTime f).pel = s.pel := rfl
@[simp] theorem State.onTime_pending (f : TimeState → TimeState) : (s.onTime f).pending = s.pending := rfl
@[simp] theorem State.onTime_rd (f : TimeState → TimeState) (q : FieldRef) : (s.onTime f).rd q = s.rd q := rfl
@[simp] theorem State.onTime_on (f : TimeState → TimeState) (q : FieldRef) : (s.onTime f).on q = s.on q := rfl
@[simp] theorem State.onTime_byte (f : TimeState → TimeState) (c : Nat) : (s.onTime f).byte c = s.byte c := rfl
@[simp] theorem State.onTime_engine (f : TimeState → TimeState) (i : Nat) : (s.onTime f).engine i = s.engine i := rfl

/-! ### `onRef` -/

@[simp] theorem State.onRef_regs (f : RefState → RefState) : (s.onRef f).regs = s.regs := rfl
@[simp] theorem State.onRef_mem (f : RefState → RefState) : (s.onRef f).mem = s.mem := rfl
@[simp] theorem State.onRef_livePage (f : RefState → RefState) : (s.onRef f).livePage = s.livePage := rfl
@[simp] theorem State.onRef_ecc (f : RefState → RefState) : (s.onRef f).ecc = s.ecc := rfl
@[simp] theorem State.onRef_tick (f : RefState → RefState) : (s.onRef f).tick = s.tick := rfl
@[simp] theorem State.onRef_inWindow (f : RefState → RefState) : (s.onRef f).inWindow = s.inWindow := rfl
@[simp] theorem State.onRef_free (f : RefState → RefState) : (s.onRef f).free = s.free := rfl
@[simp] theorem State.onRef_held (f : RefState → RefState) : (s.onRef f).held = s.held := rfl
@[simp] theorem State.onRef_rclk (f : RefState → RefState) : (s.onRef f).rclk = s.rclk := rfl
@[simp] theorem State.onRef_clkOut (f : RefState → RefState) : (s.onRef f).clkOut = s.clkOut := rfl
@[simp] theorem State.onRef_bus (f : RefState → RefState) : (s.onRef f).bus = s.bus := rfl
@[simp] theorem State.onRef_str (f : RefState → RefState) : (s.onRef f).str = s.str := rfl
@[simp] theorem State.onRef_eng (f : RefState → RefState) : (s.onRef f).eng = s.eng := rfl
@[simp] theorem State.onRef_coil (f : RefState → RefState) : (s.onRef f).coil = s.coil := rfl
@[simp] theorem State.onRef_lp (f : RefState → RefState) : (s.onRef f).lp = s.lp := rfl
@[simp] theorem State.onRef_mtx (f : RefState → RefState) : (s.onRef f).mtx = s.mtx := rfl
@[simp] theorem State.onRef_egr (f : RefState → RefState) : (s.onRef f).egr = s.egr := rfl
@[simp] theorem State.onRef_flt (f : RefState → RefState) : (s.onRef f).flt = s.flt := rfl
@[simp] theorem State.onRef_ser (f : RefState → RefState) : (s.onRef f).ser = s.ser := rfl
@[simp] theorem State.onRef_amp (f : RefState → RefState) : (s.onRef f).amp = s.amp := rfl
@[simp] theorem State.onRef_time (f : RefState → RefState) : (s.onRef f).time = s.time := rfl
@[simp] theorem State.onRef_ref (f : RefState → RefState) : (s.onRef f).ref = f s.ref := rfl
@[simp] theorem State.onRef_net (f : RefState → RefState) : (s.onRef f).net = s.net := rfl
@[simp] theorem State.onRef_lane (f : RefState → RefState) : (s.onRef f).lane = s.lane := rfl
@[simp] theorem State.onRef_tth (f : RefState → RefState) : (s.onRef f).tth = s.tth := rfl
@[simp] theorem State.onRef_fab (f : RefState → RefState) : (s.onRef f).fab = s.fab := rfl
@[simp] theorem State.onRef_dma (f : RefState → RefState) : (s.onRef f).dma = s.dma := rfl
@[simp] theorem State.onRef_ctl (f : RefState → RefState) : (s.onRef f).ctl = s.ctl := rfl
@[simp] theorem State.onRef_boot (f : RefState → RefState) : (s.onRef f).boot = s.boot := rfl
@[simp] theorem State.onRef_host (f : RefState → RefState) : (s.onRef f).host = s.host := rfl
@[simp] theorem State.onRef_tap (f : RefState → RefState) : (s.onRef f).tap = s.tap := rfl
@[simp] theorem State.onRef_pel (f : RefState → RefState) : (s.onRef f).pel = s.pel := rfl
@[simp] theorem State.onRef_pending (f : RefState → RefState) : (s.onRef f).pending = s.pending := rfl
@[simp] theorem State.onRef_rd (f : RefState → RefState) (q : FieldRef) : (s.onRef f).rd q = s.rd q := rfl
@[simp] theorem State.onRef_on (f : RefState → RefState) (q : FieldRef) : (s.onRef f).on q = s.on q := rfl
@[simp] theorem State.onRef_byte (f : RefState → RefState) (c : Nat) : (s.onRef f).byte c = s.byte c := rfl
@[simp] theorem State.onRef_engine (f : RefState → RefState) (i : Nat) : (s.onRef f).engine i = s.engine i := rfl

/-! ### `onSer` -/

@[simp] theorem State.onSer_regs (f : SerState → SerState) : (s.onSer f).regs = s.regs := rfl
@[simp] theorem State.onSer_mem (f : SerState → SerState) : (s.onSer f).mem = s.mem := rfl
@[simp] theorem State.onSer_livePage (f : SerState → SerState) : (s.onSer f).livePage = s.livePage := rfl
@[simp] theorem State.onSer_ecc (f : SerState → SerState) : (s.onSer f).ecc = s.ecc := rfl
@[simp] theorem State.onSer_tick (f : SerState → SerState) : (s.onSer f).tick = s.tick := rfl
@[simp] theorem State.onSer_inWindow (f : SerState → SerState) : (s.onSer f).inWindow = s.inWindow := rfl
@[simp] theorem State.onSer_free (f : SerState → SerState) : (s.onSer f).free = s.free := rfl
@[simp] theorem State.onSer_held (f : SerState → SerState) : (s.onSer f).held = s.held := rfl
@[simp] theorem State.onSer_rclk (f : SerState → SerState) : (s.onSer f).rclk = s.rclk := rfl
@[simp] theorem State.onSer_clkOut (f : SerState → SerState) : (s.onSer f).clkOut = s.clkOut := rfl
@[simp] theorem State.onSer_bus (f : SerState → SerState) : (s.onSer f).bus = s.bus := rfl
@[simp] theorem State.onSer_str (f : SerState → SerState) : (s.onSer f).str = s.str := rfl
@[simp] theorem State.onSer_eng (f : SerState → SerState) : (s.onSer f).eng = s.eng := rfl
@[simp] theorem State.onSer_coil (f : SerState → SerState) : (s.onSer f).coil = s.coil := rfl
@[simp] theorem State.onSer_lp (f : SerState → SerState) : (s.onSer f).lp = s.lp := rfl
@[simp] theorem State.onSer_mtx (f : SerState → SerState) : (s.onSer f).mtx = s.mtx := rfl
@[simp] theorem State.onSer_egr (f : SerState → SerState) : (s.onSer f).egr = s.egr := rfl
@[simp] theorem State.onSer_flt (f : SerState → SerState) : (s.onSer f).flt = s.flt := rfl
@[simp] theorem State.onSer_ser (f : SerState → SerState) : (s.onSer f).ser = f s.ser := rfl
@[simp] theorem State.onSer_amp (f : SerState → SerState) : (s.onSer f).amp = s.amp := rfl
@[simp] theorem State.onSer_time (f : SerState → SerState) : (s.onSer f).time = s.time := rfl
@[simp] theorem State.onSer_ref (f : SerState → SerState) : (s.onSer f).ref = s.ref := rfl
@[simp] theorem State.onSer_net (f : SerState → SerState) : (s.onSer f).net = s.net := rfl
@[simp] theorem State.onSer_lane (f : SerState → SerState) : (s.onSer f).lane = s.lane := rfl
@[simp] theorem State.onSer_tth (f : SerState → SerState) : (s.onSer f).tth = s.tth := rfl
@[simp] theorem State.onSer_fab (f : SerState → SerState) : (s.onSer f).fab = s.fab := rfl
@[simp] theorem State.onSer_dma (f : SerState → SerState) : (s.onSer f).dma = s.dma := rfl
@[simp] theorem State.onSer_ctl (f : SerState → SerState) : (s.onSer f).ctl = s.ctl := rfl
@[simp] theorem State.onSer_boot (f : SerState → SerState) : (s.onSer f).boot = s.boot := rfl
@[simp] theorem State.onSer_host (f : SerState → SerState) : (s.onSer f).host = s.host := rfl
@[simp] theorem State.onSer_tap (f : SerState → SerState) : (s.onSer f).tap = s.tap := rfl
@[simp] theorem State.onSer_pel (f : SerState → SerState) : (s.onSer f).pel = s.pel := rfl
@[simp] theorem State.onSer_pending (f : SerState → SerState) : (s.onSer f).pending = s.pending := rfl
@[simp] theorem State.onSer_rd (f : SerState → SerState) (q : FieldRef) : (s.onSer f).rd q = s.rd q := rfl
@[simp] theorem State.onSer_on (f : SerState → SerState) (q : FieldRef) : (s.onSer f).on q = s.on q := rfl
@[simp] theorem State.onSer_byte (f : SerState → SerState) (c : Nat) : (s.onSer f).byte c = s.byte c := rfl
@[simp] theorem State.onSer_engine (f : SerState → SerState) (i : Nat) : (s.onSer f).engine i = s.engine i := rfl

/-! ### `onAmp` -/

@[simp] theorem State.onAmp_regs (f : AmpState → AmpState) : (s.onAmp f).regs = s.regs := rfl
@[simp] theorem State.onAmp_mem (f : AmpState → AmpState) : (s.onAmp f).mem = s.mem := rfl
@[simp] theorem State.onAmp_livePage (f : AmpState → AmpState) : (s.onAmp f).livePage = s.livePage := rfl
@[simp] theorem State.onAmp_ecc (f : AmpState → AmpState) : (s.onAmp f).ecc = s.ecc := rfl
@[simp] theorem State.onAmp_tick (f : AmpState → AmpState) : (s.onAmp f).tick = s.tick := rfl
@[simp] theorem State.onAmp_inWindow (f : AmpState → AmpState) : (s.onAmp f).inWindow = s.inWindow := rfl
@[simp] theorem State.onAmp_free (f : AmpState → AmpState) : (s.onAmp f).free = s.free := rfl
@[simp] theorem State.onAmp_held (f : AmpState → AmpState) : (s.onAmp f).held = s.held := rfl
@[simp] theorem State.onAmp_rclk (f : AmpState → AmpState) : (s.onAmp f).rclk = s.rclk := rfl
@[simp] theorem State.onAmp_clkOut (f : AmpState → AmpState) : (s.onAmp f).clkOut = s.clkOut := rfl
@[simp] theorem State.onAmp_bus (f : AmpState → AmpState) : (s.onAmp f).bus = s.bus := rfl
@[simp] theorem State.onAmp_str (f : AmpState → AmpState) : (s.onAmp f).str = s.str := rfl
@[simp] theorem State.onAmp_eng (f : AmpState → AmpState) : (s.onAmp f).eng = s.eng := rfl
@[simp] theorem State.onAmp_coil (f : AmpState → AmpState) : (s.onAmp f).coil = s.coil := rfl
@[simp] theorem State.onAmp_lp (f : AmpState → AmpState) : (s.onAmp f).lp = s.lp := rfl
@[simp] theorem State.onAmp_mtx (f : AmpState → AmpState) : (s.onAmp f).mtx = s.mtx := rfl
@[simp] theorem State.onAmp_egr (f : AmpState → AmpState) : (s.onAmp f).egr = s.egr := rfl
@[simp] theorem State.onAmp_flt (f : AmpState → AmpState) : (s.onAmp f).flt = s.flt := rfl
@[simp] theorem State.onAmp_ser (f : AmpState → AmpState) : (s.onAmp f).ser = s.ser := rfl
@[simp] theorem State.onAmp_amp (f : AmpState → AmpState) : (s.onAmp f).amp = f s.amp := rfl
@[simp] theorem State.onAmp_time (f : AmpState → AmpState) : (s.onAmp f).time = s.time := rfl
@[simp] theorem State.onAmp_ref (f : AmpState → AmpState) : (s.onAmp f).ref = s.ref := rfl
@[simp] theorem State.onAmp_net (f : AmpState → AmpState) : (s.onAmp f).net = s.net := rfl
@[simp] theorem State.onAmp_lane (f : AmpState → AmpState) : (s.onAmp f).lane = s.lane := rfl
@[simp] theorem State.onAmp_tth (f : AmpState → AmpState) : (s.onAmp f).tth = s.tth := rfl
@[simp] theorem State.onAmp_fab (f : AmpState → AmpState) : (s.onAmp f).fab = s.fab := rfl
@[simp] theorem State.onAmp_dma (f : AmpState → AmpState) : (s.onAmp f).dma = s.dma := rfl
@[simp] theorem State.onAmp_ctl (f : AmpState → AmpState) : (s.onAmp f).ctl = s.ctl := rfl
@[simp] theorem State.onAmp_boot (f : AmpState → AmpState) : (s.onAmp f).boot = s.boot := rfl
@[simp] theorem State.onAmp_host (f : AmpState → AmpState) : (s.onAmp f).host = s.host := rfl
@[simp] theorem State.onAmp_tap (f : AmpState → AmpState) : (s.onAmp f).tap = s.tap := rfl
@[simp] theorem State.onAmp_pel (f : AmpState → AmpState) : (s.onAmp f).pel = s.pel := rfl
@[simp] theorem State.onAmp_pending (f : AmpState → AmpState) : (s.onAmp f).pending = s.pending := rfl
@[simp] theorem State.onAmp_rd (f : AmpState → AmpState) (q : FieldRef) : (s.onAmp f).rd q = s.rd q := rfl
@[simp] theorem State.onAmp_on (f : AmpState → AmpState) (q : FieldRef) : (s.onAmp f).on q = s.on q := rfl
@[simp] theorem State.onAmp_byte (f : AmpState → AmpState) (c : Nat) : (s.onAmp f).byte c = s.byte c := rfl
@[simp] theorem State.onAmp_engine (f : AmpState → AmpState) (i : Nat) : (s.onAmp f).engine i = s.engine i := rfl

/-! ### `onNet` -/

@[simp] theorem State.onNet_regs (f : NetState → NetState) : (s.onNet f).regs = s.regs := rfl
@[simp] theorem State.onNet_mem (f : NetState → NetState) : (s.onNet f).mem = s.mem := rfl
@[simp] theorem State.onNet_livePage (f : NetState → NetState) : (s.onNet f).livePage = s.livePage := rfl
@[simp] theorem State.onNet_ecc (f : NetState → NetState) : (s.onNet f).ecc = s.ecc := rfl
@[simp] theorem State.onNet_tick (f : NetState → NetState) : (s.onNet f).tick = s.tick := rfl
@[simp] theorem State.onNet_inWindow (f : NetState → NetState) : (s.onNet f).inWindow = s.inWindow := rfl
@[simp] theorem State.onNet_free (f : NetState → NetState) : (s.onNet f).free = s.free := rfl
@[simp] theorem State.onNet_held (f : NetState → NetState) : (s.onNet f).held = s.held := rfl
@[simp] theorem State.onNet_rclk (f : NetState → NetState) : (s.onNet f).rclk = s.rclk := rfl
@[simp] theorem State.onNet_clkOut (f : NetState → NetState) : (s.onNet f).clkOut = s.clkOut := rfl
@[simp] theorem State.onNet_bus (f : NetState → NetState) : (s.onNet f).bus = s.bus := rfl
@[simp] theorem State.onNet_str (f : NetState → NetState) : (s.onNet f).str = s.str := rfl
@[simp] theorem State.onNet_eng (f : NetState → NetState) : (s.onNet f).eng = s.eng := rfl
@[simp] theorem State.onNet_coil (f : NetState → NetState) : (s.onNet f).coil = s.coil := rfl
@[simp] theorem State.onNet_lp (f : NetState → NetState) : (s.onNet f).lp = s.lp := rfl
@[simp] theorem State.onNet_mtx (f : NetState → NetState) : (s.onNet f).mtx = s.mtx := rfl
@[simp] theorem State.onNet_egr (f : NetState → NetState) : (s.onNet f).egr = s.egr := rfl
@[simp] theorem State.onNet_flt (f : NetState → NetState) : (s.onNet f).flt = s.flt := rfl
@[simp] theorem State.onNet_ser (f : NetState → NetState) : (s.onNet f).ser = s.ser := rfl
@[simp] theorem State.onNet_amp (f : NetState → NetState) : (s.onNet f).amp = s.amp := rfl
@[simp] theorem State.onNet_time (f : NetState → NetState) : (s.onNet f).time = s.time := rfl
@[simp] theorem State.onNet_ref (f : NetState → NetState) : (s.onNet f).ref = s.ref := rfl
@[simp] theorem State.onNet_net (f : NetState → NetState) : (s.onNet f).net = f s.net := rfl
@[simp] theorem State.onNet_lane (f : NetState → NetState) : (s.onNet f).lane = s.lane := rfl
@[simp] theorem State.onNet_tth (f : NetState → NetState) : (s.onNet f).tth = s.tth := rfl
@[simp] theorem State.onNet_fab (f : NetState → NetState) : (s.onNet f).fab = s.fab := rfl
@[simp] theorem State.onNet_dma (f : NetState → NetState) : (s.onNet f).dma = s.dma := rfl
@[simp] theorem State.onNet_ctl (f : NetState → NetState) : (s.onNet f).ctl = s.ctl := rfl
@[simp] theorem State.onNet_boot (f : NetState → NetState) : (s.onNet f).boot = s.boot := rfl
@[simp] theorem State.onNet_host (f : NetState → NetState) : (s.onNet f).host = s.host := rfl
@[simp] theorem State.onNet_tap (f : NetState → NetState) : (s.onNet f).tap = s.tap := rfl
@[simp] theorem State.onNet_pel (f : NetState → NetState) : (s.onNet f).pel = s.pel := rfl
@[simp] theorem State.onNet_pending (f : NetState → NetState) : (s.onNet f).pending = s.pending := rfl
@[simp] theorem State.onNet_rd (f : NetState → NetState) (q : FieldRef) : (s.onNet f).rd q = s.rd q := rfl
@[simp] theorem State.onNet_on (f : NetState → NetState) (q : FieldRef) : (s.onNet f).on q = s.on q := rfl
@[simp] theorem State.onNet_byte (f : NetState → NetState) (c : Nat) : (s.onNet f).byte c = s.byte c := rfl
@[simp] theorem State.onNet_engine (f : NetState → NetState) (i : Nat) : (s.onNet f).engine i = s.engine i := rfl

/-! ### `onTth` -/

@[simp] theorem State.onTth_regs (f : TthState → TthState) : (s.onTth f).regs = s.regs := rfl
@[simp] theorem State.onTth_mem (f : TthState → TthState) : (s.onTth f).mem = s.mem := rfl
@[simp] theorem State.onTth_livePage (f : TthState → TthState) : (s.onTth f).livePage = s.livePage := rfl
@[simp] theorem State.onTth_ecc (f : TthState → TthState) : (s.onTth f).ecc = s.ecc := rfl
@[simp] theorem State.onTth_tick (f : TthState → TthState) : (s.onTth f).tick = s.tick := rfl
@[simp] theorem State.onTth_inWindow (f : TthState → TthState) : (s.onTth f).inWindow = s.inWindow := rfl
@[simp] theorem State.onTth_free (f : TthState → TthState) : (s.onTth f).free = s.free := rfl
@[simp] theorem State.onTth_held (f : TthState → TthState) : (s.onTth f).held = s.held := rfl
@[simp] theorem State.onTth_rclk (f : TthState → TthState) : (s.onTth f).rclk = s.rclk := rfl
@[simp] theorem State.onTth_clkOut (f : TthState → TthState) : (s.onTth f).clkOut = s.clkOut := rfl
@[simp] theorem State.onTth_bus (f : TthState → TthState) : (s.onTth f).bus = s.bus := rfl
@[simp] theorem State.onTth_str (f : TthState → TthState) : (s.onTth f).str = s.str := rfl
@[simp] theorem State.onTth_eng (f : TthState → TthState) : (s.onTth f).eng = s.eng := rfl
@[simp] theorem State.onTth_coil (f : TthState → TthState) : (s.onTth f).coil = s.coil := rfl
@[simp] theorem State.onTth_lp (f : TthState → TthState) : (s.onTth f).lp = s.lp := rfl
@[simp] theorem State.onTth_mtx (f : TthState → TthState) : (s.onTth f).mtx = s.mtx := rfl
@[simp] theorem State.onTth_egr (f : TthState → TthState) : (s.onTth f).egr = s.egr := rfl
@[simp] theorem State.onTth_flt (f : TthState → TthState) : (s.onTth f).flt = s.flt := rfl
@[simp] theorem State.onTth_ser (f : TthState → TthState) : (s.onTth f).ser = s.ser := rfl
@[simp] theorem State.onTth_amp (f : TthState → TthState) : (s.onTth f).amp = s.amp := rfl
@[simp] theorem State.onTth_time (f : TthState → TthState) : (s.onTth f).time = s.time := rfl
@[simp] theorem State.onTth_ref (f : TthState → TthState) : (s.onTth f).ref = s.ref := rfl
@[simp] theorem State.onTth_net (f : TthState → TthState) : (s.onTth f).net = s.net := rfl
@[simp] theorem State.onTth_lane (f : TthState → TthState) : (s.onTth f).lane = s.lane := rfl
@[simp] theorem State.onTth_tth (f : TthState → TthState) : (s.onTth f).tth = f s.tth := rfl
@[simp] theorem State.onTth_fab (f : TthState → TthState) : (s.onTth f).fab = s.fab := rfl
@[simp] theorem State.onTth_dma (f : TthState → TthState) : (s.onTth f).dma = s.dma := rfl
@[simp] theorem State.onTth_ctl (f : TthState → TthState) : (s.onTth f).ctl = s.ctl := rfl
@[simp] theorem State.onTth_boot (f : TthState → TthState) : (s.onTth f).boot = s.boot := rfl
@[simp] theorem State.onTth_host (f : TthState → TthState) : (s.onTth f).host = s.host := rfl
@[simp] theorem State.onTth_tap (f : TthState → TthState) : (s.onTth f).tap = s.tap := rfl
@[simp] theorem State.onTth_pel (f : TthState → TthState) : (s.onTth f).pel = s.pel := rfl
@[simp] theorem State.onTth_pending (f : TthState → TthState) : (s.onTth f).pending = s.pending := rfl
@[simp] theorem State.onTth_rd (f : TthState → TthState) (q : FieldRef) : (s.onTth f).rd q = s.rd q := rfl
@[simp] theorem State.onTth_on (f : TthState → TthState) (q : FieldRef) : (s.onTth f).on q = s.on q := rfl
@[simp] theorem State.onTth_byte (f : TthState → TthState) (c : Nat) : (s.onTth f).byte c = s.byte c := rfl
@[simp] theorem State.onTth_engine (f : TthState → TthState) (i : Nat) : (s.onTth f).engine i = s.engine i := rfl

/-! ### `onFab` -/

@[simp] theorem State.onFab_regs (f : FabState → FabState) : (s.onFab f).regs = s.regs := rfl
@[simp] theorem State.onFab_mem (f : FabState → FabState) : (s.onFab f).mem = s.mem := rfl
@[simp] theorem State.onFab_livePage (f : FabState → FabState) : (s.onFab f).livePage = s.livePage := rfl
@[simp] theorem State.onFab_ecc (f : FabState → FabState) : (s.onFab f).ecc = s.ecc := rfl
@[simp] theorem State.onFab_tick (f : FabState → FabState) : (s.onFab f).tick = s.tick := rfl
@[simp] theorem State.onFab_inWindow (f : FabState → FabState) : (s.onFab f).inWindow = s.inWindow := rfl
@[simp] theorem State.onFab_free (f : FabState → FabState) : (s.onFab f).free = s.free := rfl
@[simp] theorem State.onFab_held (f : FabState → FabState) : (s.onFab f).held = s.held := rfl
@[simp] theorem State.onFab_rclk (f : FabState → FabState) : (s.onFab f).rclk = s.rclk := rfl
@[simp] theorem State.onFab_clkOut (f : FabState → FabState) : (s.onFab f).clkOut = s.clkOut := rfl
@[simp] theorem State.onFab_bus (f : FabState → FabState) : (s.onFab f).bus = s.bus := rfl
@[simp] theorem State.onFab_str (f : FabState → FabState) : (s.onFab f).str = s.str := rfl
@[simp] theorem State.onFab_eng (f : FabState → FabState) : (s.onFab f).eng = s.eng := rfl
@[simp] theorem State.onFab_coil (f : FabState → FabState) : (s.onFab f).coil = s.coil := rfl
@[simp] theorem State.onFab_lp (f : FabState → FabState) : (s.onFab f).lp = s.lp := rfl
@[simp] theorem State.onFab_mtx (f : FabState → FabState) : (s.onFab f).mtx = s.mtx := rfl
@[simp] theorem State.onFab_egr (f : FabState → FabState) : (s.onFab f).egr = s.egr := rfl
@[simp] theorem State.onFab_flt (f : FabState → FabState) : (s.onFab f).flt = s.flt := rfl
@[simp] theorem State.onFab_ser (f : FabState → FabState) : (s.onFab f).ser = s.ser := rfl
@[simp] theorem State.onFab_amp (f : FabState → FabState) : (s.onFab f).amp = s.amp := rfl
@[simp] theorem State.onFab_time (f : FabState → FabState) : (s.onFab f).time = s.time := rfl
@[simp] theorem State.onFab_ref (f : FabState → FabState) : (s.onFab f).ref = s.ref := rfl
@[simp] theorem State.onFab_net (f : FabState → FabState) : (s.onFab f).net = s.net := rfl
@[simp] theorem State.onFab_lane (f : FabState → FabState) : (s.onFab f).lane = s.lane := rfl
@[simp] theorem State.onFab_tth (f : FabState → FabState) : (s.onFab f).tth = s.tth := rfl
@[simp] theorem State.onFab_fab (f : FabState → FabState) : (s.onFab f).fab = f s.fab := rfl
@[simp] theorem State.onFab_dma (f : FabState → FabState) : (s.onFab f).dma = s.dma := rfl
@[simp] theorem State.onFab_ctl (f : FabState → FabState) : (s.onFab f).ctl = s.ctl := rfl
@[simp] theorem State.onFab_boot (f : FabState → FabState) : (s.onFab f).boot = s.boot := rfl
@[simp] theorem State.onFab_host (f : FabState → FabState) : (s.onFab f).host = s.host := rfl
@[simp] theorem State.onFab_tap (f : FabState → FabState) : (s.onFab f).tap = s.tap := rfl
@[simp] theorem State.onFab_pel (f : FabState → FabState) : (s.onFab f).pel = s.pel := rfl
@[simp] theorem State.onFab_pending (f : FabState → FabState) : (s.onFab f).pending = s.pending := rfl
@[simp] theorem State.onFab_rd (f : FabState → FabState) (q : FieldRef) : (s.onFab f).rd q = s.rd q := rfl
@[simp] theorem State.onFab_on (f : FabState → FabState) (q : FieldRef) : (s.onFab f).on q = s.on q := rfl
@[simp] theorem State.onFab_byte (f : FabState → FabState) (c : Nat) : (s.onFab f).byte c = s.byte c := rfl
@[simp] theorem State.onFab_engine (f : FabState → FabState) (i : Nat) : (s.onFab f).engine i = s.engine i := rfl

/-! ### `onHost` -/

@[simp] theorem State.onHost_regs (f : HostState → HostState) : (s.onHost f).regs = s.regs := rfl
@[simp] theorem State.onHost_mem (f : HostState → HostState) : (s.onHost f).mem = s.mem := rfl
@[simp] theorem State.onHost_livePage (f : HostState → HostState) : (s.onHost f).livePage = s.livePage := rfl
@[simp] theorem State.onHost_ecc (f : HostState → HostState) : (s.onHost f).ecc = s.ecc := rfl
@[simp] theorem State.onHost_tick (f : HostState → HostState) : (s.onHost f).tick = s.tick := rfl
@[simp] theorem State.onHost_inWindow (f : HostState → HostState) : (s.onHost f).inWindow = s.inWindow := rfl
@[simp] theorem State.onHost_free (f : HostState → HostState) : (s.onHost f).free = s.free := rfl
@[simp] theorem State.onHost_held (f : HostState → HostState) : (s.onHost f).held = s.held := rfl
@[simp] theorem State.onHost_rclk (f : HostState → HostState) : (s.onHost f).rclk = s.rclk := rfl
@[simp] theorem State.onHost_clkOut (f : HostState → HostState) : (s.onHost f).clkOut = s.clkOut := rfl
@[simp] theorem State.onHost_bus (f : HostState → HostState) : (s.onHost f).bus = s.bus := rfl
@[simp] theorem State.onHost_str (f : HostState → HostState) : (s.onHost f).str = s.str := rfl
@[simp] theorem State.onHost_eng (f : HostState → HostState) : (s.onHost f).eng = s.eng := rfl
@[simp] theorem State.onHost_coil (f : HostState → HostState) : (s.onHost f).coil = s.coil := rfl
@[simp] theorem State.onHost_lp (f : HostState → HostState) : (s.onHost f).lp = s.lp := rfl
@[simp] theorem State.onHost_mtx (f : HostState → HostState) : (s.onHost f).mtx = s.mtx := rfl
@[simp] theorem State.onHost_egr (f : HostState → HostState) : (s.onHost f).egr = s.egr := rfl
@[simp] theorem State.onHost_flt (f : HostState → HostState) : (s.onHost f).flt = s.flt := rfl
@[simp] theorem State.onHost_ser (f : HostState → HostState) : (s.onHost f).ser = s.ser := rfl
@[simp] theorem State.onHost_amp (f : HostState → HostState) : (s.onHost f).amp = s.amp := rfl
@[simp] theorem State.onHost_time (f : HostState → HostState) : (s.onHost f).time = s.time := rfl
@[simp] theorem State.onHost_ref (f : HostState → HostState) : (s.onHost f).ref = s.ref := rfl
@[simp] theorem State.onHost_net (f : HostState → HostState) : (s.onHost f).net = s.net := rfl
@[simp] theorem State.onHost_lane (f : HostState → HostState) : (s.onHost f).lane = s.lane := rfl
@[simp] theorem State.onHost_tth (f : HostState → HostState) : (s.onHost f).tth = s.tth := rfl
@[simp] theorem State.onHost_fab (f : HostState → HostState) : (s.onHost f).fab = s.fab := rfl
@[simp] theorem State.onHost_dma (f : HostState → HostState) : (s.onHost f).dma = s.dma := rfl
@[simp] theorem State.onHost_ctl (f : HostState → HostState) : (s.onHost f).ctl = s.ctl := rfl
@[simp] theorem State.onHost_boot (f : HostState → HostState) : (s.onHost f).boot = s.boot := rfl
@[simp] theorem State.onHost_host (f : HostState → HostState) : (s.onHost f).host = f s.host := rfl
@[simp] theorem State.onHost_tap (f : HostState → HostState) : (s.onHost f).tap = s.tap := rfl
@[simp] theorem State.onHost_pel (f : HostState → HostState) : (s.onHost f).pel = s.pel := rfl
@[simp] theorem State.onHost_pending (f : HostState → HostState) : (s.onHost f).pending = s.pending := rfl
@[simp] theorem State.onHost_rd (f : HostState → HostState) (q : FieldRef) : (s.onHost f).rd q = s.rd q := rfl
@[simp] theorem State.onHost_on (f : HostState → HostState) (q : FieldRef) : (s.onHost f).on q = s.on q := rfl
@[simp] theorem State.onHost_byte (f : HostState → HostState) (c : Nat) : (s.onHost f).byte c = s.byte c := rfl
@[simp] theorem State.onHost_engine (f : HostState → HostState) (i : Nat) : (s.onHost f).engine i = s.engine i := rfl

/-! ### `onPel` -/

@[simp] theorem State.onPel_regs (f : PelState → PelState) : (s.onPel f).regs = s.regs := rfl
@[simp] theorem State.onPel_mem (f : PelState → PelState) : (s.onPel f).mem = s.mem := rfl
@[simp] theorem State.onPel_livePage (f : PelState → PelState) : (s.onPel f).livePage = s.livePage := rfl
@[simp] theorem State.onPel_ecc (f : PelState → PelState) : (s.onPel f).ecc = s.ecc := rfl
@[simp] theorem State.onPel_tick (f : PelState → PelState) : (s.onPel f).tick = s.tick := rfl
@[simp] theorem State.onPel_inWindow (f : PelState → PelState) : (s.onPel f).inWindow = s.inWindow := rfl
@[simp] theorem State.onPel_free (f : PelState → PelState) : (s.onPel f).free = s.free := rfl
@[simp] theorem State.onPel_held (f : PelState → PelState) : (s.onPel f).held = s.held := rfl
@[simp] theorem State.onPel_rclk (f : PelState → PelState) : (s.onPel f).rclk = s.rclk := rfl
@[simp] theorem State.onPel_clkOut (f : PelState → PelState) : (s.onPel f).clkOut = s.clkOut := rfl
@[simp] theorem State.onPel_bus (f : PelState → PelState) : (s.onPel f).bus = s.bus := rfl
@[simp] theorem State.onPel_str (f : PelState → PelState) : (s.onPel f).str = s.str := rfl
@[simp] theorem State.onPel_eng (f : PelState → PelState) : (s.onPel f).eng = s.eng := rfl
@[simp] theorem State.onPel_coil (f : PelState → PelState) : (s.onPel f).coil = s.coil := rfl
@[simp] theorem State.onPel_lp (f : PelState → PelState) : (s.onPel f).lp = s.lp := rfl
@[simp] theorem State.onPel_mtx (f : PelState → PelState) : (s.onPel f).mtx = s.mtx := rfl
@[simp] theorem State.onPel_egr (f : PelState → PelState) : (s.onPel f).egr = s.egr := rfl
@[simp] theorem State.onPel_flt (f : PelState → PelState) : (s.onPel f).flt = s.flt := rfl
@[simp] theorem State.onPel_ser (f : PelState → PelState) : (s.onPel f).ser = s.ser := rfl
@[simp] theorem State.onPel_amp (f : PelState → PelState) : (s.onPel f).amp = s.amp := rfl
@[simp] theorem State.onPel_time (f : PelState → PelState) : (s.onPel f).time = s.time := rfl
@[simp] theorem State.onPel_ref (f : PelState → PelState) : (s.onPel f).ref = s.ref := rfl
@[simp] theorem State.onPel_net (f : PelState → PelState) : (s.onPel f).net = s.net := rfl
@[simp] theorem State.onPel_lane (f : PelState → PelState) : (s.onPel f).lane = s.lane := rfl
@[simp] theorem State.onPel_tth (f : PelState → PelState) : (s.onPel f).tth = s.tth := rfl
@[simp] theorem State.onPel_fab (f : PelState → PelState) : (s.onPel f).fab = s.fab := rfl
@[simp] theorem State.onPel_dma (f : PelState → PelState) : (s.onPel f).dma = s.dma := rfl
@[simp] theorem State.onPel_ctl (f : PelState → PelState) : (s.onPel f).ctl = s.ctl := rfl
@[simp] theorem State.onPel_boot (f : PelState → PelState) : (s.onPel f).boot = s.boot := rfl
@[simp] theorem State.onPel_host (f : PelState → PelState) : (s.onPel f).host = s.host := rfl
@[simp] theorem State.onPel_tap (f : PelState → PelState) : (s.onPel f).tap = s.tap := rfl
@[simp] theorem State.onPel_pel (f : PelState → PelState) : (s.onPel f).pel = f s.pel := rfl
@[simp] theorem State.onPel_pending (f : PelState → PelState) : (s.onPel f).pending = s.pending := rfl
@[simp] theorem State.onPel_rd (f : PelState → PelState) (q : FieldRef) : (s.onPel f).rd q = s.rd q := rfl
@[simp] theorem State.onPel_on (f : PelState → PelState) (q : FieldRef) : (s.onPel f).on q = s.on q := rfl
@[simp] theorem State.onPel_byte (f : PelState → PelState) (c : Nat) : (s.onPel f).byte c = s.byte c := rfl
@[simp] theorem State.onPel_engine (f : PelState → PelState) (i : Nat) : (s.onPel f).engine i = s.engine i := rfl

/-! ### `onCtl` -/

@[simp] theorem State.onCtl_regs (f : CtlState → CtlState) : (s.onCtl f).regs = s.regs := rfl
@[simp] theorem State.onCtl_mem (f : CtlState → CtlState) : (s.onCtl f).mem = s.mem := rfl
@[simp] theorem State.onCtl_livePage (f : CtlState → CtlState) : (s.onCtl f).livePage = s.livePage := rfl
@[simp] theorem State.onCtl_ecc (f : CtlState → CtlState) : (s.onCtl f).ecc = s.ecc := rfl
@[simp] theorem State.onCtl_tick (f : CtlState → CtlState) : (s.onCtl f).tick = s.tick := rfl
@[simp] theorem State.onCtl_inWindow (f : CtlState → CtlState) : (s.onCtl f).inWindow = s.inWindow := rfl
@[simp] theorem State.onCtl_free (f : CtlState → CtlState) : (s.onCtl f).free = s.free := rfl
@[simp] theorem State.onCtl_held (f : CtlState → CtlState) : (s.onCtl f).held = s.held := rfl
@[simp] theorem State.onCtl_rclk (f : CtlState → CtlState) : (s.onCtl f).rclk = s.rclk := rfl
@[simp] theorem State.onCtl_clkOut (f : CtlState → CtlState) : (s.onCtl f).clkOut = s.clkOut := rfl
@[simp] theorem State.onCtl_bus (f : CtlState → CtlState) : (s.onCtl f).bus = s.bus := rfl
@[simp] theorem State.onCtl_str (f : CtlState → CtlState) : (s.onCtl f).str = s.str := rfl
@[simp] theorem State.onCtl_eng (f : CtlState → CtlState) : (s.onCtl f).eng = s.eng := rfl
@[simp] theorem State.onCtl_coil (f : CtlState → CtlState) : (s.onCtl f).coil = s.coil := rfl
@[simp] theorem State.onCtl_lp (f : CtlState → CtlState) : (s.onCtl f).lp = s.lp := rfl
@[simp] theorem State.onCtl_mtx (f : CtlState → CtlState) : (s.onCtl f).mtx = s.mtx := rfl
@[simp] theorem State.onCtl_egr (f : CtlState → CtlState) : (s.onCtl f).egr = s.egr := rfl
@[simp] theorem State.onCtl_flt (f : CtlState → CtlState) : (s.onCtl f).flt = s.flt := rfl
@[simp] theorem State.onCtl_ser (f : CtlState → CtlState) : (s.onCtl f).ser = s.ser := rfl
@[simp] theorem State.onCtl_amp (f : CtlState → CtlState) : (s.onCtl f).amp = s.amp := rfl
@[simp] theorem State.onCtl_time (f : CtlState → CtlState) : (s.onCtl f).time = s.time := rfl
@[simp] theorem State.onCtl_ref (f : CtlState → CtlState) : (s.onCtl f).ref = s.ref := rfl
@[simp] theorem State.onCtl_net (f : CtlState → CtlState) : (s.onCtl f).net = s.net := rfl
@[simp] theorem State.onCtl_lane (f : CtlState → CtlState) : (s.onCtl f).lane = s.lane := rfl
@[simp] theorem State.onCtl_tth (f : CtlState → CtlState) : (s.onCtl f).tth = s.tth := rfl
@[simp] theorem State.onCtl_fab (f : CtlState → CtlState) : (s.onCtl f).fab = s.fab := rfl
@[simp] theorem State.onCtl_dma (f : CtlState → CtlState) : (s.onCtl f).dma = s.dma := rfl
@[simp] theorem State.onCtl_ctl (f : CtlState → CtlState) : (s.onCtl f).ctl = f s.ctl := rfl
@[simp] theorem State.onCtl_boot (f : CtlState → CtlState) : (s.onCtl f).boot = s.boot := rfl
@[simp] theorem State.onCtl_host (f : CtlState → CtlState) : (s.onCtl f).host = s.host := rfl
@[simp] theorem State.onCtl_tap (f : CtlState → CtlState) : (s.onCtl f).tap = s.tap := rfl
@[simp] theorem State.onCtl_pel (f : CtlState → CtlState) : (s.onCtl f).pel = s.pel := rfl
@[simp] theorem State.onCtl_pending (f : CtlState → CtlState) : (s.onCtl f).pending = s.pending := rfl
@[simp] theorem State.onCtl_rd (f : CtlState → CtlState) (q : FieldRef) : (s.onCtl f).rd q = s.rd q := rfl
@[simp] theorem State.onCtl_on (f : CtlState → CtlState) (q : FieldRef) : (s.onCtl f).on q = s.on q := rfl
@[simp] theorem State.onCtl_byte (f : CtlState → CtlState) (c : Nat) : (s.onCtl f).byte c = s.byte c := rfl
@[simp] theorem State.onCtl_engine (f : CtlState → CtlState) (i : Nat) : (s.onCtl f).engine i = s.engine i := rfl

/-! ### `onBoot` -/

@[simp] theorem State.onBoot_regs (f : BootState → BootState) : (s.onBoot f).regs = s.regs := rfl
@[simp] theorem State.onBoot_mem (f : BootState → BootState) : (s.onBoot f).mem = s.mem := rfl
@[simp] theorem State.onBoot_livePage (f : BootState → BootState) : (s.onBoot f).livePage = s.livePage := rfl
@[simp] theorem State.onBoot_ecc (f : BootState → BootState) : (s.onBoot f).ecc = s.ecc := rfl
@[simp] theorem State.onBoot_tick (f : BootState → BootState) : (s.onBoot f).tick = s.tick := rfl
@[simp] theorem State.onBoot_inWindow (f : BootState → BootState) : (s.onBoot f).inWindow = s.inWindow := rfl
@[simp] theorem State.onBoot_free (f : BootState → BootState) : (s.onBoot f).free = s.free := rfl
@[simp] theorem State.onBoot_held (f : BootState → BootState) : (s.onBoot f).held = s.held := rfl
@[simp] theorem State.onBoot_rclk (f : BootState → BootState) : (s.onBoot f).rclk = s.rclk := rfl
@[simp] theorem State.onBoot_clkOut (f : BootState → BootState) : (s.onBoot f).clkOut = s.clkOut := rfl
@[simp] theorem State.onBoot_bus (f : BootState → BootState) : (s.onBoot f).bus = s.bus := rfl
@[simp] theorem State.onBoot_str (f : BootState → BootState) : (s.onBoot f).str = s.str := rfl
@[simp] theorem State.onBoot_eng (f : BootState → BootState) : (s.onBoot f).eng = s.eng := rfl
@[simp] theorem State.onBoot_coil (f : BootState → BootState) : (s.onBoot f).coil = s.coil := rfl
@[simp] theorem State.onBoot_lp (f : BootState → BootState) : (s.onBoot f).lp = s.lp := rfl
@[simp] theorem State.onBoot_mtx (f : BootState → BootState) : (s.onBoot f).mtx = s.mtx := rfl
@[simp] theorem State.onBoot_egr (f : BootState → BootState) : (s.onBoot f).egr = s.egr := rfl
@[simp] theorem State.onBoot_flt (f : BootState → BootState) : (s.onBoot f).flt = s.flt := rfl
@[simp] theorem State.onBoot_ser (f : BootState → BootState) : (s.onBoot f).ser = s.ser := rfl
@[simp] theorem State.onBoot_amp (f : BootState → BootState) : (s.onBoot f).amp = s.amp := rfl
@[simp] theorem State.onBoot_time (f : BootState → BootState) : (s.onBoot f).time = s.time := rfl
@[simp] theorem State.onBoot_ref (f : BootState → BootState) : (s.onBoot f).ref = s.ref := rfl
@[simp] theorem State.onBoot_net (f : BootState → BootState) : (s.onBoot f).net = s.net := rfl
@[simp] theorem State.onBoot_lane (f : BootState → BootState) : (s.onBoot f).lane = s.lane := rfl
@[simp] theorem State.onBoot_tth (f : BootState → BootState) : (s.onBoot f).tth = s.tth := rfl
@[simp] theorem State.onBoot_fab (f : BootState → BootState) : (s.onBoot f).fab = s.fab := rfl
@[simp] theorem State.onBoot_dma (f : BootState → BootState) : (s.onBoot f).dma = s.dma := rfl
@[simp] theorem State.onBoot_ctl (f : BootState → BootState) : (s.onBoot f).ctl = s.ctl := rfl
@[simp] theorem State.onBoot_boot (f : BootState → BootState) : (s.onBoot f).boot = f s.boot := rfl
@[simp] theorem State.onBoot_host (f : BootState → BootState) : (s.onBoot f).host = s.host := rfl
@[simp] theorem State.onBoot_tap (f : BootState → BootState) : (s.onBoot f).tap = s.tap := rfl
@[simp] theorem State.onBoot_pel (f : BootState → BootState) : (s.onBoot f).pel = s.pel := rfl
@[simp] theorem State.onBoot_pending (f : BootState → BootState) : (s.onBoot f).pending = s.pending := rfl
@[simp] theorem State.onBoot_rd (f : BootState → BootState) (q : FieldRef) : (s.onBoot f).rd q = s.rd q := rfl
@[simp] theorem State.onBoot_on (f : BootState → BootState) (q : FieldRef) : (s.onBoot f).on q = s.on q := rfl
@[simp] theorem State.onBoot_byte (f : BootState → BootState) (c : Nat) : (s.onBoot f).byte c = s.byte c := rfl
@[simp] theorem State.onBoot_engine (f : BootState → BootState) (i : Nat) : (s.onBoot f).engine i = s.engine i := rfl

/-! ### `raise` and `refused` -/

/-- An event of a listed source joins those that have reached the collector. -/
theorem State.raise_eq (n : Nat) : s.raise n =
    s.onFlt fun x => { x with arriving := if faultListed n then x.arriving ++ [n] else x.arriving } := by
  unfold State.raise State.onFlt
  split
  · simp [*]
  · simp [*]

@[simp] theorem State.raise_regs (n : Nat) : (s.raise n).regs = s.regs := by rw [State.raise_eq]; rfl
@[simp] theorem State.raise_mem (n : Nat) : (s.raise n).mem = s.mem := by rw [State.raise_eq]; rfl
@[simp] theorem State.raise_livePage (n : Nat) : (s.raise n).livePage = s.livePage := by rw [State.raise_eq]; rfl
@[simp] theorem State.raise_ecc (n : Nat) : (s.raise n).ecc = s.ecc := by rw [State.raise_eq]; rfl
@[simp] theorem State.raise_tick (n : Nat) : (s.raise n).tick = s.tick := by rw [State.raise_eq]; rfl
@[simp] theorem State.raise_inWindow (n : Nat) : (s.raise n).inWindow = s.inWindow := by rw [State.raise_eq]; rfl
@[simp] theorem State.raise_free (n : Nat) : (s.raise n).free = s.free := by rw [State.raise_eq]; rfl
@[simp] theorem State.raise_held (n : Nat) : (s.raise n).held = s.held := by rw [State.raise_eq]; rfl
@[simp] theorem State.raise_rclk (n : Nat) : (s.raise n).rclk = s.rclk := by rw [State.raise_eq]; rfl
@[simp] theorem State.raise_clkOut (n : Nat) : (s.raise n).clkOut = s.clkOut := by rw [State.raise_eq]; rfl
@[simp] theorem State.raise_bus (n : Nat) : (s.raise n).bus = s.bus := by rw [State.raise_eq]; rfl
@[simp] theorem State.raise_str (n : Nat) : (s.raise n).str = s.str := by rw [State.raise_eq]; rfl
@[simp] theorem State.raise_eng (n : Nat) : (s.raise n).eng = s.eng := by rw [State.raise_eq]; rfl
@[simp] theorem State.raise_coil (n : Nat) : (s.raise n).coil = s.coil := by rw [State.raise_eq]; rfl
@[simp] theorem State.raise_lp (n : Nat) : (s.raise n).lp = s.lp := by rw [State.raise_eq]; rfl
@[simp] theorem State.raise_mtx (n : Nat) : (s.raise n).mtx = s.mtx := by rw [State.raise_eq]; rfl
@[simp] theorem State.raise_egr (n : Nat) : (s.raise n).egr = s.egr := by rw [State.raise_eq]; rfl
@[simp] theorem State.raise_ser (n : Nat) : (s.raise n).ser = s.ser := by rw [State.raise_eq]; rfl
@[simp] theorem State.raise_amp (n : Nat) : (s.raise n).amp = s.amp := by rw [State.raise_eq]; rfl
@[simp] theorem State.raise_time (n : Nat) : (s.raise n).time = s.time := by rw [State.raise_eq]; rfl
@[simp] theorem State.raise_ref (n : Nat) : (s.raise n).ref = s.ref := by rw [State.raise_eq]; rfl
@[simp] theorem State.raise_net (n : Nat) : (s.raise n).net = s.net := by rw [State.raise_eq]; rfl
@[simp] theorem State.raise_lane (n : Nat) : (s.raise n).lane = s.lane := by rw [State.raise_eq]; rfl
@[simp] theorem State.raise_tth (n : Nat) : (s.raise n).tth = s.tth := by rw [State.raise_eq]; rfl
@[simp] theorem State.raise_fab (n : Nat) : (s.raise n).fab = s.fab := by rw [State.raise_eq]; rfl
@[simp] theorem State.raise_dma (n : Nat) : (s.raise n).dma = s.dma := by rw [State.raise_eq]; rfl
@[simp] theorem State.raise_ctl (n : Nat) : (s.raise n).ctl = s.ctl := by rw [State.raise_eq]; rfl
@[simp] theorem State.raise_boot (n : Nat) : (s.raise n).boot = s.boot := by rw [State.raise_eq]; rfl
@[simp] theorem State.raise_host (n : Nat) : (s.raise n).host = s.host := by rw [State.raise_eq]; rfl
@[simp] theorem State.raise_tap (n : Nat) : (s.raise n).tap = s.tap := by rw [State.raise_eq]; rfl
@[simp] theorem State.raise_pel (n : Nat) : (s.raise n).pel = s.pel := by rw [State.raise_eq]; rfl
@[simp] theorem State.raise_pending (n : Nat) : (s.raise n).pending = s.pending := by rw [State.raise_eq]; rfl
@[simp] theorem State.raise_rd (n : Nat) (q : FieldRef) : (s.raise n).rd q = s.rd q := by rw [State.raise_eq]; rfl
@[simp] theorem State.raise_on (n : Nat) (q : FieldRef) : (s.raise n).on q = s.on q := by rw [State.raise_eq]; rfl
@[simp] theorem State.raise_byte (n : Nat) (c : Nat) : (s.raise n).byte c = s.byte c := by rw [State.raise_eq]; rfl
@[simp] theorem State.raise_engine (n : Nat) (i : Nat) : (s.raise n).engine i = s.engine i := by rw [State.raise_eq]; rfl

/-! ### Register fields -/

/-- A field reads as the value written, taken to its width. -/
@[simp] theorem State.rd_wr_same (r : FieldRef) (v : Nat) : (s.wr r v).rd r = v % 2 ^ r.width := by
  simp [State.rd, State.wr]

/-- Writing a field leaves every field at another place. -/
theorem State.rd_wr_ne {q r : FieldRef} (h : q.key ≠ r.key) (v : Nat) : (s.wr r v).rd q = s.rd q := by
  simp only [State.rd, State.wr]
  exact sget_sset_ne h _ _ _ _

/-- A flag reads as it was put. -/
theorem State.rd_put_same (r : FieldRef) (b : Bool) (h : 1 ≤ r.width) : (s.put r b).rd r = b.toNat := by
  rw [State.put, State.rd_wr_same]
  apply Nat.mod_eq_of_lt
  have : 2 ^ 1 ≤ 2 ^ r.width := Nat.pow_le_pow_right (by omega) h
  cases b <;> simp; omega

/-- Putting a flag leaves every field at another place. -/
theorem State.rd_put_ne {q r : FieldRef} (h : q.key ≠ r.key) (b : Bool) : (s.put r b).rd q = s.rd q :=
  s.rd_wr_ne h _

/-- A flag at another place reads as before. -/
theorem State.on_put_ne {q r : FieldRef} (h : q.key ≠ r.key) (b : Bool) : (s.put r b).on q = s.on q := by
  simp only [State.on, s.rd_put_ne h]

/-- A flag reads as it was put, as a Bool. -/
theorem State.on_put_same (r : FieldRef) (b : Bool) (h : 1 ≤ r.width) : (s.put r b).on r = b := by
  simp only [State.on, s.rd_put_same r b h]
  cases b <;> rfl

/-- An engine's own state as it was set. -/
@[simp] theorem State.engine_setEngine_same (e : Nat) (x : Engine) : (s.setEngine e x).engine e = x := by
  simp [State.engine, State.setEngine]

/-- Setting an engine leaves every other. -/
theorem State.engine_setEngine_ne {i e : Nat} (h : i ≠ e) (x : Engine) : (s.setEngine e x).engine i = s.engine i := by
  simp only [State.engine, State.setEngine]
  exact sget_sset_ne h _ _ _ _

/-! ### Outcomes -/

/-- A command of the core takes effect while the core is not held in reset. -/
theorem core_runs (f : State → State) (h : s.held = false) : core f s = .next (f s) := by simp [core, h]

/-- A command of the core changes nothing while the core is held in reset. -/
theorem core_held (f : State → State) (h : s.held = true) : core f s = .next s := by simp [core, h]

/-- A clocked command takes effect while the clocks run and the core is not held. -/
theorem clocked_runs (f : State → State) (h : s.held = false) (hc : s.rclk = true) : clocked f s = .next (f s) := by
  simp [clocked, h, hc]

/-- A clocked command changes nothing while the clocks are stopped or the core is held. -/
theorem clocked_stopped (f : State → State) (h : s.held = true ∨ s.rclk = false) : clocked f s = .next s := by
  obtain h | h := h <;> simp [clocked, h]

/-- A command at the front of the queue is performed on the state with the queue's rest. -/
theorem step_cons (i : Instr) (l : List Instr) (h : s.pending = i :: l) : step s = exec i { s with pending := l } := by
  simp [step, h]

end Sys2Proof.Machine
end

