-- ==== Sys2Proof/Laws/Engine.lean ====
section
/-! SUPPORT. What issuing an instruction does to an engine. -/

namespace Sys2Proof.Machine

/-- Accesses that are not past their bank cycle stay in flight. -/
theorem State.coilCatchUp_idle (s : State) (e : Nat)
    (h : ∀ c ∈ s.coil.inFlight, c.data = none → (s.engine e).cyc < c.issued + 24) : s.coilCatchUp e = s := by
  have h1 : (s.coil.inFlight.filter fun c =>
      decide (c.data = none) && decide (c.issued + 24 ≤ (s.engine e).cyc)) = [] := by
    simp only [List.filter_eq_nil_iff]
    intro c hc
    have := h c hc
    simp
    intro hn
    have := this hn
    omega
  simp only [State.coilCatchUp, State.banks, h1, List.foldr_nil, List.foldl_nil]

/-- Nothing that is not due is delivered. -/
theorem State.deliverDue_idle (s : State) (e c : Nat) (h : s.quiet e c) : s.deliverDue e c = s := by
  have h1 : (s.coilOf e fun a => a.data.isSome && decide (a.issued + 47 ≤ c)) = [] := by
    simp only [State.coilOf, List.filter_eq_nil_iff]
    intro a ha
    have := h a ha
    simp
    intro he _
    have := this he
    omega
  simp only [State.deliverDue, h1, List.foldl_nil]

/-- A drain cycle that is not due, or past, drains nothing. -/
theorem State.drainCycle_idle (s : State) (e : Nat)
    (h : (s.engine e).cyc % 16 ≠ e % 16 ∨ (s.engine e).lastDrain = some (s.engine e).cyc) : s.drainCycle e = s := by
  unfold State.drainCycle
  rw [if_neg]
  rintro ⟨a, b⟩
  obtain h | h := h
  · exact h a
  · exact b h

/-- What an engine meets at its program counter. -/
theorem State.meets.meet {s : State} {e : Nat} {d : EngDecoded} (h : s.meets e d) : s.meet e = (some d, s) := by
  simp only [State.meet, State.coilCatchUp_idle s e h.coil, State.drainCycle_idle s e h.drained, State.fetch, h.clean,
    Option.map_some, h.word]

/-- An engine about to issue an instruction issues it. -/
theorem State.issues.issue {s : State} {e : Nat} {o : EngOp} (h : s.issues e o) : s.engineIssue e o = s.issueOp e o := by
  simp [State.engineIssue, h.may, State.meets.meet h.1]

/-- A command of a clocked unit that issues an instruction. -/
theorem State.issues.exec {s : State} {e : Nat} {o : EngOp} (h : s.issues e o) :
    clocked (fun s => s.engineIssue e o) s = .next (s.issueOp e o) := by
  rw [clocked_runs s _ h.runs.1 h.runs.2, h.issue]

/-- Putting a write in flight changes the engine's list of them alone. -/
theorem State.fly_eq (s : State) (e l : Nat) (w : FlyWrite) : s.fly e l w =
    s.setEngine e { s.engine e with fly := insertFly ⟨(s.engine e).cyc + l - 1, w⟩ (s.engine e).fly } := rfl

/-! ### Writes in flight: what completes, as a function of the engine alone -/

/-- The engine after a write in flight has completed. -/
def Engine.done (x : Engine) : FlyWrite → Engine
  | .dreg r v t => { x with d := sset {} r ⟨v, t⟩ x.d }
  | .dtag r t => { x with d := sset {} r ⟨(x.dreg r).val, t⟩ x.d }
  | .agu c v => { x with agu := sset 0 c (aguStored c v) x.agu }
  | .zn z n => { x with flags := { x.flags with z := z, n := n } }
  | .z z => { x with flags := { x.flags with z := z } }
  | .sat b => { x with flags := { x.flags with sat := b } }
  | .aov b => { x with flags := { x.flags with aov := b } }
  | .stickySet a b => { x with flags := { x.flags with ssat := x.flags.ssat || a, saov := x.flags.saov || b } }
  | .stickyClear a b => { x with flags := { x.flags with ssat := x.flags.ssat && !a, saov := x.flags.saov && !b } }
  | .acc l =>
    let y := (accUpdates x l).1
    let ov := (accUpdates x l).2
    { y with flags := { y.flags with aov := ov, saov := y.flags.saov || ov } }

/-- The engine after the writes due by a cycle have completed, the list of writes given. -/
def Engine.settledList (x : Engine) (c : Nat) : List InFlight → Engine
  | [] => { x with fly := [] }
  | f :: r => if f.due ≤ c then Engine.settledList (x.done f.w) c r else { x with fly := f :: r }

/-- The engine after the writes due by a cycle have completed. -/
def Engine.settled (x : Engine) (c : Nat) : Engine := x.settledList c x.fly

/-- Setting the sticky flags changes the engine's flags. -/
theorem State.setSticky_engine (s : State) (e : Nat) (a b : Bool) : (s.setSticky e a b).engine e =
    { s.engine e with flags := { (s.engine e).flags with
      ssat := (s.engine e).flags.ssat || a, saov := (s.engine e).flags.saov || b } } := by
  unfold State.setSticky
  cases a <;> cases b <;> simp

/-- A completion gives the engine `Engine.done`. -/
theorem State.complete_engine (s : State) (e : Nat) (w : FlyWrite) : (s.complete e w).engine e = (s.engine e).done w := by
  cases w <;> simp [State.complete, Engine.done, State.setSticky_engine]

/-- Setting the sticky flags leaves the other engines. -/
theorem State.setSticky_other (s : State) {e i : Nat} (h : i ≠ e) (a b : Bool) :
    (s.setSticky e a b).engine i = s.engine i := by
  unfold State.setSticky
  cases a <;> cases b <;> simp [State.engine_setEngine_ne _ h]

/-- A completion leaves the other engines. -/
theorem State.complete_other (s : State) {e i : Nat} (h : i ≠ e) (w : FlyWrite) :
    (s.complete e w).engine i = s.engine i := by
  cases w <;> simp [State.complete, State.setSticky_other _ h, State.engine_setEngine_ne _ h]

/-- States that differ in the engines and the registers alone. -/
def State.sameBut (s t : State) : Prop := t = { s with eng := t.eng, regs := t.regs }

/-- A state differs from itself in nothing. -/
theorem State.sameBut_refl (s : State) : s.sameBut s := rfl

/-- Differences in the engines and the registers add up. -/
theorem State.sameBut_trans {s t u : State} (h : s.sameBut t) (g : t.sameBut u) : s.sameBut u := by
  unfold State.sameBut at *
  rw [g, h]

/-- Setting an engine changes the engines alone. -/
theorem State.sameBut_setEngine (s : State) (e : Nat) (x : Engine) : s.sameBut (s.setEngine e x) := rfl

/-- Writing a field changes the registers alone. -/
theorem State.sameBut_wr (s : State) (r : FieldRef) (v : Nat) : s.sameBut (s.wr r v) := rfl

/-- Setting the sticky flags changes the engines and the registers alone. -/
theorem State.sameBut_setSticky (s : State) (e : Nat) (a b : Bool) : s.sameBut (s.setSticky e a b) := by
  unfold State.setSticky
  cases a <;> cases b <;> rfl

/-- A completion changes the engines and the registers alone. -/
theorem State.sameBut_complete (s : State) (e : Nat) (w : FlyWrite) : s.sameBut (s.complete e w) := by
  cases w <;> first
    | rfl
    | exact State.sameBut_setSticky s e _ _
    | exact State.sameBut_trans (State.sameBut_setEngine s e _) (State.sameBut_setSticky _ e _ _)

/-- A completion leaves the coil accesses. -/
theorem State.complete_coil (s : State) (e : Nat) (w : FlyWrite) : (s.complete e w).coil = s.coil := by
  rw [State.sameBut_complete s e w]

/-- A completion delivers nothing. -/
theorem State.quiet_complete {s : State} {e c : Nat} (h : s.quiet e c) (i : Nat) (w : FlyWrite) :
    (s.complete i w).quiet e c := by
  unfold State.quiet
  rw [State.complete_coil]
  exact h

/-- What is not delivered by a cycle is not delivered earlier. -/
theorem State.quiet_mono {s : State} {e c d : Nat} (h : s.quiet e c) (hd : d ≤ c) : s.quiet e d :=
  fun a ha he => Nat.lt_of_le_of_lt hd (h a ha he)

/-- The sticky flags that a write sets. -/
def FlyWrite.seen (x : Engine) : FlyWrite → Bool × Bool
  | .stickySet a b => (a, b)
  | .acc l => (false, (accUpdates x l).2)
  | _ => (false, false)

/-- A completion changes no register field but SAT_SEEN and AOV_SEEN of its engine. -/
theorem State.complete_rd (s : State) (e : Nat) (w : FlyWrite) (q : FieldRef)
    (h1 : q.key ≠ (Reg.ENG_STATUS.SAT_SEEN e).key) (h2 : q.key ≠ (Reg.ENG_STATUS.AOV_SEEN e).key) :
    (s.complete e w).rd q = s.rd q := by
  have hs : ∀ (s : State) a b, (s.setSticky e a b).rd q = s.rd q := by
    intro s a b
    unfold State.setSticky
    cases a <;> cases b <;> simp [State.rd_put_ne _ h1, State.rd_put_ne _ h2]
  cases w <;> simp [State.complete, hs]

/-- What becomes of a list of writes in flight where no coil read is delivered. -/
theorem State.completeList_cons {s : State} {e c : Nat} (h : s.quiet e c) (f : InFlight) (r : List InFlight) :
    s.completeList e c (f :: r) = if f.due ≤ c then (s.complete e f.w).completeList e c r
      else s.setEngine e { s.engine e with fly := f :: r } := by
  simp only [State.completeList]
  split
  · rw [State.deliverDue_idle s e f.due (State.quiet_mono h ‹_›)]
  · rfl

/-- The completion of a list gives the engine `Engine.settledList`. -/
theorem State.completeList_engine (l : List InFlight) : ∀ {s : State} {e c : Nat} (_ : s.quiet e c),
    (s.completeList e c l).engine e = (s.engine e).settledList c l := by
  induction l with
  | nil => intro s e c _; simp [State.completeList, Engine.settledList]
  | cons f r ih =>
    intro s e c h
    rw [State.completeList_cons h]
    simp only [Engine.settledList]
    split
    · rw [ih (State.quiet_complete h e f.w), State.complete_engine]
    · simp

/-- A completion of a list leaves the other engines. -/
theorem State.completeList_other (l : List InFlight) : ∀ {s : State} {e i : Nat} (_ : i ≠ e) {c : Nat} (_ : s.quiet e c),
    (s.completeList e c l).engine i = s.engine i := by
  induction l with
  | nil => intro s e i h c _; simp [State.completeList, State.engine_setEngine_ne _ h]
  | cons f r ih =>
    intro s e i h c g
    rw [State.completeList_cons g]
    split
    · rw [ih h (State.quiet_complete g e f.w), State.complete_other _ h]
    · simp [State.engine_setEngine_ne _ h]

/-- A completion of a list changes the engines and the registers alone. -/
theorem State.sameBut_completeList (l : List InFlight) : ∀ {s : State} {e c : Nat} (_ : s.quiet e c),
    s.sameBut (s.completeList e c l) := by
  induction l with
  | nil => intro s e c _; exact State.sameBut_setEngine _ _ _
  | cons f r ih =>
    intro s e c g
    rw [State.completeList_cons g]
    split
    · exact State.sameBut_trans (State.sameBut_complete s e f.w) (ih (State.quiet_complete g e f.w))
    · exact State.sameBut_setEngine _ _ _

/-- Completions change no register field but SAT_SEEN and AOV_SEEN of their engine. -/
theorem State.completeList_rd (l : List InFlight) : ∀ {s : State} {e c : Nat} (_ : s.quiet e c) (q : FieldRef)
    (_ : q.key ≠ (Reg.ENG_STATUS.SAT_SEEN e).key) (_ : q.key ≠ (Reg.ENG_STATUS.AOV_SEEN e).key),
    (s.completeList e c l).rd q = s.rd q := by
  induction l with
  | nil => intro s e c _ q _ _; simp [State.completeList]
  | cons f r ih =>
    intro s e c g q h1 h2
    rw [State.completeList_cons g]
    split
    · rw [ih (State.quiet_complete g e f.w) q h1 h2, State.complete_rd _ _ _ _ h1 h2]
    · simp

/-- Where no coil read is delivered, the completion of what is due is that of the writes in flight. -/
theorem State.settle_quiet {s : State} {e c : Nat} (h : s.quiet e c) : s.settle e c = s.completeList e c (s.engine e).fly := by
  unfold State.settle
  apply State.deliverDue_idle
  unfold State.quiet
  rw [State.sameBut_completeList _ h]
  exact h

/-- The completion of what is due gives the engine `Engine.settled`. -/
theorem State.settle_engine {s : State} {e c : Nat} (h : s.quiet e c) : (s.settle e c).engine e = (s.engine e).settled c := by
  rw [State.settle_quiet h, State.completeList_engine _ h]
  rfl

/-- Completions leave the other engines. -/
theorem State.settle_other {s : State} {e i c : Nat} (h : i ≠ e) (g : s.quiet e c) : (s.settle e c).engine i = s.engine i := by
  rw [State.settle_quiet g, State.completeList_other _ h g]

/-- Completions change the engines and the registers alone. -/
theorem State.sameBut_settle {s : State} {e c : Nat} (g : s.quiet e c) : s.sameBut (s.settle e c) := by
  rw [State.settle_quiet g]
  exact State.sameBut_completeList _ g

/-! ### The issue of an instruction -/

/-- An engine that may issue is in STATE RUN. -/
theorem State.mayIssue_runs {s : State} {e : Nat} (h : s.mayIssue e = true) : s.engRuns e = true := by
  simp only [State.mayIssue, Bool.and_eq_true] at h
  exact h.1.1.2

/-- What the flow of control keeps, and the cycle it takes, for an instruction that is no flow instruction. -/
theorem Engine.next_plain (x : Engine) {o : EngOp} (h : isFlow o = false) :
    ∃ p ls sl, x.next o = { x with pc := p, cyc := x.cyc + 1, loops := ls, slots := sl } := by
  unfold Engine.next
  dsimp only
  split
  iterate 6 exact nomatch h
  · cases x.slots with
    | none => exact ⟨_, _, _, rfl⟩
    | some d => exact ⟨_, _, _, rfl⟩

/-- The issue of an instruction that is no flow instruction and whose effect leaves the engine in RUN and its cycle:
the effect, the step of the program counter, and the completions of the cycle. -/
theorem State.issueOp_plain (s : State) (e : Nat) {o : EngOp} (h : isFlow o = false)
    (hq : (effect e o s).quiet e (s.engine e).cyc) (hr : (effect e o s).engRuns e = true) (hc : ((effect e o s).engine e).cyc = (s.engine e).cyc) :
    s.issueOp e o = (((effect e o s).setEngine e (((effect e o s).engine e).next o)).settle e (s.engine e).cyc) := by
  have hcyc : ∀ (x : Engine) (c : Nat), (x.settled c).cyc = x.cyc := by
    intro x c
    unfold Engine.settled
    generalize x.fly = l
    induction l generalizing x with
    | nil => rfl
    | cons f r ih =>
      simp only [Engine.settledList]
      split
      · rw [ih]
        cases f.w <;> try rfl
        simp only [Engine.done]
        generalize f.w = w
        have : ∀ (l : List AccUpd) (y : Engine), ((accUpdates y l).1).cyc = y.cyc := by
          intro l
          induction l with
          | nil => intro y; rfl
          | cons u r ih => intro y; simp only [accUpdates]; rw [ih]
        exact this _ x
      · rfl
  obtain ⟨p, ls, sl, hn⟩ := Engine.next_plain ((effect e o s).engine e) h
  simp only [State.issueOp, hr, if_true, State.engine_setEngine_same, hn, hc, Nat.add_sub_cancel]
  have hq' : ((effect e o s).setEngine e { (effect e o s).engine e with
      pc := p, cyc := (s.engine e).cyc + 1, loops := ls, slots := sl }).quiet e (s.engine e).cyc := hq
  have hz := State.settle_engine hq'
  simp only [State.skippedDrains, hz, hcyc, State.engine_setEngine_same]
  rw [if_neg (by omega)]

end Sys2Proof.Machine
end

