-- ==== Sys2Proof/Laws/Matrix.lean ====
section
/-! SUPPORT. What the matrix part of a load leaves: every register, where the plan sets no NOM. -/

namespace Sys2Proof.Machine

/-- A fold whose steps each keep a part keeps it. -/
theorem foldl_keeps {α β γ : Type} (f : β → γ) (g : β → α → β) (h : ∀ b a, f (g b a) = f b) (l : List α) (b : β) :
    f (l.foldl g b) = f b := by
  induction l generalizing b with
  | nil => rfl
  | cons a l ih => rw [List.foldl_cons, ih, h]

@[simp] theorem State.setCol_regs (s : State) (n : Nat) (c : Col) : (s.setCol n c).regs = s.regs := rfl

@[simp] theorem State.setRow_regs (s : State) (n : Nat) (c : Row) : (s.setRow n c).regs = s.regs := rfl

@[simp] theorem State.onCommit_regs (s : State) (n : Nat) (f) : (s.onCommit n f).regs = s.regs := by
  unfold State.onCommit; split <;> rfl

theorem State.addFrozen_regs (s : State) (g r v) : (s.addFrozen g r v).2.regs = s.regs := by
  unfold State.addFrozen
  simp only
  split <;> rfl

theorem State.addFaded_regs (s : State) (acc w l) : (s.addFaded acc w l).2.regs = s.regs := by
  induction l generalizing s acc with
  | nil => rfl
  | cons a l ih => simp [State.addFaded, ih, State.addFrozen_regs]

theorem State.frozenList_regs (s : State) (c h t) : (s.frozenList c h t).2.regs = s.regs := by
  unfold State.frozenList
  simp only
  split
  · split <;> simp [State.addFaded_regs]
  · rfl
  · rfl

theorem State.freeze_regs (s : State) (n t) : (s.freeze n t).2.regs = s.regs := by
  unfold State.freeze
  simp only
  split
  · rfl
  · simp only; split <;> simp [State.frozenList_regs]

theorem State.bankCol_regs (s : State) (t len old new n) : (s.bankCol t len old new n).regs = s.regs := by
  unfold State.bankCol
  simp only
  split <;> simp [State.freeze_regs]

theorem State.placeGains_regs (s : State) : s.placeGains.regs = s.regs := by
  unfold State.placeGains
  simp only
  rw [foldl_keeps State.regs] <;> simp

/-- The matrix program of a plan without NOM settings writes no register. -/
theorem State.loadMatrix_regs (s : State) (p : LayPlan) (h : p.noms = []) : (s.loadMatrix p).regs = s.regs := by
  simp only [State.loadMatrix, State.placeGains_regs, State.onMtx_regs, State.bankSplice, h]
  rw [foldl_keeps State.regs _ fun s n => s.bankCol_regs _ _ _ _ n]
  simp only [List.filter_nil, List.foldl_nil]
  rw [foldl_keeps State.regs _ fun s n => s.setRow_regs _ _]
  rfl

end Sys2Proof.Machine
end

