-- ==== Sys2Proof/Tests/Slice0.lean ====
section
/-! SUPPORT. Small tests: ill-formed commands, worked examples of the manual, and for every statement with hypotheses
states and operands that meet them. -/

namespace Sys2Proof.Tests

/- One theorem after another: the kernel evaluates each of them, and many at once would need a stack each. -/
set_option Elab.async false

open Sys2Proof Sys2Proof.Machine Sys2Proof.Claims

/-! ### Ill-formed commands: a term for each check -/

theorem smoke_engine_operands : ∀ o ∈ [EngOp.mac ⟨.quad, .acc, false, 0, .mem ⟨4, .posti, 0⟩, .quad 0⟩,
    .mac ⟨.quad, .acc, false, 0, .quad 0, .mem ⟨3, .posti, 0⟩⟩, .setr 0x27 0, .movr 0x27 0, .getr 0x2A 0,
    .modp ⟨0, .index, 0⟩, .bcc 13 0], o.wf = false := by decide +kernel

theorem smoke_engine_commands : ∀ i ∈ [Instr.mac 0 ⟨.quad, .acc, false, 0, .mem ⟨4, .posti, 0⟩, .quad 0⟩, .setr 0 0x27 0,
    .movr 0 0x27 0, .getr 0 0x2A 0, .modp 0 ⟨0, .index, 0⟩, .bcc 0 13 0], i.wf = false := by decide +kernel

theorem smoke_cycles : ∀ i ∈ [Instr.xoLoss 25600 0 0, .rootUnlock 25600 0 0, .forceRelock 0 25600 0 0, .snapCapture 0 25600 0 0,
    .sapRxFrame 0 25600 1 ⟨false, false, false, false⟩ [] [], .sapTxFrame 0 25600 true, .aesRxFrame 0 ⟨25600, 1, true⟩ true 0 0,
    .madiRxFrame 0 ⟨25600, 1, true⟩ [], .ocAssert 0 ⟨0, 3200⟩, .macRxFrame 0 [] false 25600 ⟨1, 0, 0, 0⟩ 0,
    .macRxFrame 0 [] false 0 ⟨1, 25600, 0, 0⟩ 0, .macRxFrame 0 [] false 5 ⟨0, 6, 0, 0⟩ 0, .macTxControl 0 25600 0 0,
    .flxMarker 0 25600 0 0 [], .flx1Marker 0 25600 0 0 0 0 0 [], .brownOut 0 0 25600 0 0, .thermalShutdown 25600 0 0],
    i.wf = false := by decide +kernel

theorem smoke_lengths : ∀ i ∈ [Instr.tickBoundary { bits := List.replicate 97 [] }, .firstNewTick { bits := List.replicate 97 [] },
    .refMeasurement ⟨List.replicate 17 ⟨0, 0⟩, 0⟩, .madiRxFrame 0 ⟨0, 1, true⟩ (List.replicate 65 0),
    .cellRx 0 (List.replicate 63 0), .pcieTlp false 0 0 2 (some [0, 0, 0, 0]), .pcieTlp false 2 0 1 none, .tempSample 0 [0],
    .mirrorLoad ⟨[], [], [], [], {}⟩, .strandWindowWrite 0 none none, .bypassXfadeEnd 0, .bypassXfadeEnd 65536,
    .lpLoad 0 { mult := 3 }, .lpLoad 0 { lpSplice := 4096 }, .tetherUp ⟨0, 0, 0, false, true, false, 3, 0⟩ 0, .faultEvent 0],
    i.wf = false := by decide +kernel

theorem smoke_addresses : ∀ i ∈ [Instr.regWrite 0x170000 0, .regWrite 2 0, .rcRead 0x170000, .rcRead 1, .controlChangeLog (2 ^ 32) 0,
    .lockRead false false 2, .lockRead false true 4, .unlock false true false 1 0, .unlock true false true 4 0],
    i.wf = false := by decide +kernel

theorem smoke_messages : ∀ f ∈ [Instr.pelondRead, .pelondWrite, .pelondParam, .pelondSplice, .pelondEvent, .pelondMeter, .pelondQuery,
    .pelondImageBegin, .pelondImageData, .pelondImageEnd, .pelondImageAbort, .pelondUnknownOp],
    (f 0 0 (List.replicate 1473 0)).wf = false := by decide +kernel

/-! ### The queue and the start -/

theorem test_idle : Machine.step State.reset = .next State.reset := rfl

theorem test_power_on :
    (match exec .powerOn State.reset with
      | .next t => decide (t = State.reset)
      | _ => false) = true := by decide +kernel

/-- A chip in RUN. -/
def R0 : State := { State.reset with held := false, rclk := true }.wr Reg.CHIP_STATE.STATE 5

/-! ### Worked examples of the manual -/

/-- Chapter 04: the two loop instructions of strand 0, and the SET form. -/
theorem test_fir_words : decodeEng 0x0400000C000003FF#64 = .op (.loop 0x00C 0x03FF) ∧
    decodeEng 0x1800110400000000#64 = .op (.mac ⟨.sum, .acc, false, 0, .mem ⟨0, .posti, 4⟩, .mem ⟨4, .posti, 4⟩⟩) ∧
    decodeEng 0x1900110400000000#64 = .op (.mac ⟨.sum, .set, false, 0, .mem ⟨0, .posti, 4⟩, .mem ⟨4, .posti, 4⟩⟩) := by
  decide +kernel

/-- 18, three addresses. -/
theorem test_three_addresses : (Reg.REFS_FREQ.FREQ 12).addr = 0x201C8 ∧ (Reg.ENG_STATUS.STATE 137).addr = 0x92244 ∧
    (Reg.MTX_NOM_TABLE.GAIN 200 5).addr = 0xA7454 := by decide +kernel

/-- 14 R314: the CRC of 123456789. -/
theorem test_crc64 : crc64 [0x31, 0x32, 0x33, 0x34, 0x35, 0x36, 0x37, 0x38, 0x39] = 0x6C40DF5F0B497347 := by decide +kernel

/-- 09, a venue-wide scene change: with T 24,000 ticks ahead the trigger stands unresolved; with 8,192 ticks left the nodes
300 ns late and 300 ns early resolve it to the same tick. -/
theorem test_scene_change :
    let t := trigTime 1700000000 750000000
    let now := fun (ns : Int) => (t : Int) + ns * 2 ^ 32
    resolveAt 0 ((trigTime 1700000000 500000000 : Nat) : Int) (nominalInc 96000) t = none ∧
    resolveAt 15808 (now (-85333033)) (nominalInc 96000) t = some 24000 ∧
    resolveAt 15808 (now (-85333633)) (nominalInc 96000) t = some 24000 := by decide +kernel

/-- 15, extracting eight strands: the descriptor's four words. -/
theorem test_dma_descriptor :
    let x : DmaCh := { w0 := 0x0028000010800020, w1 := 0x0C00000010000001, w2 := 0x0008000001000040, w3 := 0x0001000000FC0001 }
    x.srcField = 0x10800020 ∧ x.dstField = 0x280000 ∧ x.count0 = 1 ∧ x.count1 = 4096 ∧ x.count2 = 8 ∧ x.step0 = 0 ∧
    x.sstep1 = 64 ∧ x.dstep1 = 1 ∧ x.sstep2 = 0xFC0001 ∧ x.dstep2 = 0 ∧ x.op = 0 ∧ x.ackWait = true ∧ x.irq = true ∧
    x.reserved = 0 := by decide +kernel

/-- 13 R286 names 8b/10b; D0.0 and K28.5 of that code. -/
theorem test_8b10b : encode8b10b false 0 = (0b1001110100, false) ∧ comma false = (0b0011111010, true) := by decide +kernel

/-- 17, a level change: LEN is 42, and a datagram of 74 bytes with that header is of that length. -/
theorem test_pelond_length : field ([0x50, 0x4C, 0x01, 0x03, 0x00, 0x04, 0x00, 0x00, 0x2A, 0x00, 0x01, 0x00] : List Byte) 8 2 = 74 - 32 := by
  decide +kernel

/-- A frame of UDP port 319 whose PTP header names domain 0. -/
def syncFrame : List Byte :=
  List.replicate 12 0 ++ [8, 0, 0x45] ++ List.replicate 8 0 ++ [17] ++ List.replicate 12 0 ++ [1, 63] ++ List.replicate 40 0

/-- 09, a Sync at MAC_1: bytes 0-11 of the record. -/
theorem test_sync_stamp :
    let s := (((((((R0.wr (Reg.TIME_PORT_ASYM.ASYM 1) 163840).wr (Reg.MAC_CTRL.RATE 1) 1).put (Reg.TIME_CTRL.EN 0) true).put (Reg.TIME_STATUS.SOURCE 0) false).wr
      (Reg.TIME_CTRL.PAIR 0) 0).wr Reg.CLK_STATUS.MULT 1).wr (Reg.TIME_CTRL.DOMNUM 0) 0)
    let s := { s with time := { s.time with dom := [(0, { d := trigTime 1700000000 500000000 })] } }
    (s.stamp 1 false 0 6400 8 0 syncFrame).take 3 = [0x1DCD7930, 0x6553F100, 0x1D800000] := by decide +kernel


/-! ### What the statements assume is met -/

/-- Entry i of a list. -/
def pick {α : Type} (l : List α) (i : Nat) (h : i < l.length := by decide) : α := l[i]

theorem admitted_iff (a : Nat) (v : Word) : Admitted a v ↔ ((fieldsAt a).map fun fs => admitsAll fs v) = some true := by
  unfold Admitted; cases fieldsAt a <;> simp

namespace Sample15

/-! Sample states and operands. -/

def E (pc cyc : Nat) (w : Nat) : State := ((R0.wr (Reg.ENG_STATUS.STATE 0) 0).store (progAddr 0 0 pc) 8 w).setEngine 0 { pc := pc, cyc := cyc, issuing := true, d := [(1,⟨5,0⟩)] }

def acc1 : CoilAccess := { engine := 0, issued := 10, quad := 5, move := .write 0x1234, scheduled := true }

def acc2 : CoilAccess := { engine := 0, issued := 10, quad := 5, move := .write 0x1234, scheduled := false }

def acc3 : CoilAccess := { engine := 0, issued := 10, quad := 5, move := .read (.dquad 1), scheduled := true }

def acc4 : CoilAccess := { engine := 0, issued := 10, quad := 5, move := .read (.dquad 1), scheduled := false }

def acc5 : CoilAccess := { engine := 0, issued := 10, quad := 5, move := .read (.dquad 1), scheduled := true, data := some 0x55 }

def acc6 : CoilAccess := { engine := 0, issued := 10, quad := 5, move := .read (.mem true 7), scheduled := true }

def loopS (l : List LoopLevel) : State := let s := E 9 21 0; s.setEngine 0 { s.engine 0 with loops := l }

def ovr : State := let s := E 9 25599 0; s

def q1 : State := let s := E 9 16 0; { s.setEngine 0 { s.engine 0 with queue := [⟨7, 9, 1⟩, ⟨8, 1, 0⟩] } with lp := { s.lp with plan0 := { s.lp.plan0 with slots := [(7, { cls := .engine, engine := 0 })] } } }

def co (l : List CoilAccess) : State := let s := E 9 100 0; { s.setQuad 5 0x77 with coil := { s.coil with inFlight := l } }

def xs_CoilAccess : List (CoilAccess) := [acc1,acc2,acc3,acc4,acc5,acc6]

def xs_CoilMove : List (CoilMove) := []

def xs_CoilDest : List (CoilDest) := [.dquad 1, .mem true 7]

def xs_LoopLevel : List (LoopLevel) := [⟨2,9,1⟩,⟨1,20,4⟩,⟨2,9,0⟩,⟨1,9,3⟩]

def xs_List_LoopLevel : List (List LoopLevel) := [[], [⟨1,20,4⟩]]

def xs_StrandWrite : List (StrandWrite) := [⟨7, 9, 1⟩, ⟨8, 1, 0⟩]

def xs_List_StrandWrite : List (List StrandWrite) := [[], [⟨8, 1, 0⟩]]

def states : List State := [State.reset, R0, E 9 21 0, E 9 21 0xF000000000000000, (E 4095 21 0xF000000000000000), (E 9 21 0x62A8000000000000).put (Reg.ENG_EXC.ILL 0) true,
  loopS [⟨2,9,1⟩], loopS [⟨2,9,1⟩,⟨1,20,4⟩], loopS [⟨2,9,0⟩], loopS [⟨1,9,3⟩], ovr, { q1 with lp := {q1.lp with plan0 := {}} }, q1, co [acc1], co [acc2], co [acc3], co [acc4], co [acc5], co [acc6], co [acc1, acc3],
  E 9 21 0x4728BFFC00000000, R0.wr (Reg.ENG_STATUS.STATE 0) 0,
  { (R0.wr (Reg.ENG_CTRL.PCOMMIT 0) 1).store (xyAddr 0 false 3) 4 99 with inWindow := false }.setEngine 0 { pcommit := true },
  { (R0.wr (Reg.ENG_STATUS.STATE 0) 1) with tick := 7 }, (R0.wr (Reg.ENG_PCM.MASK 0) 0x80000001).wr (Reg.ENG_PCM.MASK 5) 0x80000001,
  { (R0.wr (Reg.ENG_STATUS.STATE 191) 0) with rclk := true }]

end Sample15

namespace Sample15b

/-! Sample states and operands. -/

def E (pc cyc : Nat) (w : Nat) : State := ((R0.wr (Reg.ENG_STATUS.STATE 0) 0).store (progAddr 0 0 pc) 8 w).setEngine 0 { pc := pc, cyc := cyc, issuing := true, d := [(1,⟨5,0⟩)] }

def states : List State := [State.reset, R0, E 9 21 0, R0.wr (Reg.ENG_STATUS.STATE 0) 0,
  { (R0.wr (Reg.ENG_CTRL.PCOMMIT 0) 1).store (xyAddr 0 false 3) 4 99 with inWindow := false }.setEngine 0 { pcommit := true },
  { R0.store (xyAddr 0 false 3) 4 99 with livePage := [(3,5)], inWindow := false, ecc := [] }.setEngine 0 { copying := true },
  { (R0.wr (Reg.ENG_STATUS.STATE 0) 1) with tick := 7 }, (R0.wr (Reg.ENG_PCM.MASK 0) 0x80000001).wr (Reg.ENG_PCM.MASK 5) 0x80000001,
  { ((R0.wr (Reg.ENG_STATUS.STATE 191) 0).wr Reg.ENG_LP_STATUS.LIVE 1) with rclk := true }]

end Sample15b

namespace Sample16

/-! Sample states and operands. -/

def planA : LayPlan := { ident := 7, slots := [(5, { cls := .engine, engine := 3, ramp := true })], engines := [(3, {})] }

def L (f : LpState → LpState) (s : State) : State := { s with lp := f s.lp }

def xs_LayPlan : List (LayPlan) := [{}, planA]

def xs_Xfade : List (Xfade) := [⟨1, true⟩, ⟨0,false⟩, ⟨5,true⟩]

def W (s : State) : State := { s with inWindow := true, tick := 40 }

def states : List State := [State.reset, R0, L (fun l => { l with loading := true }) R0, L (fun l => { l with loading := true, incoming := some planA }) R0, 
  L (fun l => { l with plan1 := planA }) (R0.wr Reg.ENG_LP_STATUS.OTHER 2), L (fun l => { l with plan1 := planA, armed := some (.tick 41) }) (W (R0.wr Reg.ENG_LP_STATUS.OTHER 2)),
  L (fun l => { l with plan1 := planA, armed := some (.tick 41) }) (W (R0.wr Reg.ENG_LP_STATUS.OTHER 3)),
  L (fun l => { l with armed := some (.tick 90) }) (R0),
  L (fun l => { l with armed := some (.tick 90), ramps := [(5, [⟨true, 36, 10⟩]), (6, [⟨false, 30, 5⟩,⟨true, 3,1⟩])], xfade := [(7, ⟨1,true⟩), (3, ⟨5,true⟩)] }) (W R0),
  L (fun l => { l with refresh := true }) R0,
  L (fun l => { l with loading := true, incoming := some planA }) (R0.wr Reg.ENG_LP_STATUS.LIVE 1)]

end Sample16

namespace Sample20

/-! Sample states and operands. -/

def xs_TickIn : List (TickIn) := [{}, { sc := 25600*5 }, { patternBad := true }]

def xs_EccMark : List (EccMark) := [⟨true,false,false⟩,⟨true,true,false⟩,⟨false,false,false⟩]

def S (f : StrState → StrState) (s : State) : State := { s with str := f s.str }

def W (s : State) : State := { s with inWindow := true, tick := 40 }

def hv (slot ift port chan w1 : Nat) : Hitch := ⟨BitVec.ofNat 32 (slot + ift * 65536 + port * 2^20 + 2^31), BitVec.ofNat 32 (chan + w1)⟩

def hcOf (h : Hitch) (i : Nat) (late : Bool) : HitChange := { egress := false, index := i, w0 := h.w0, w1 := h.w1, late := late }

def good : HitChange := hcOf (hv 6 7 0 0 0) 9 false

def bad : HitChange := hcOf (hv 77 4 0 0 0) 9 false

def off : HitChange := hcOf {} 5 false

def xs_HitChange : List (HitChange) := [good, bad, off, { off with late := true }, { egress := true, index := 3, w0 := 5, w1 := 6, late := false}, {egress := true, index := 3, w0 := 5, w1 := 0xFFFFFFFF, late := false}, { egress := false, index := 0, w0 := 0, w1 := 0, late := false },{ egress := false, index := 0, w0 := 0, w1 := 0x80, late := false }]

def B (f : Braid) (st : Nat) (b : Nat) (s : State) : State := (S (fun q => { q with braid := [(b, f)], ingress := [(6, hv 6 4 0 0 (2^18 + b * 4096)), (9, hv 9 4 1 0 0)] }) s).wr (Reg.STR_BRD_STATUS.STATE b) st

def states : List State := [State.reset, R0, W R0, S (fun q => { q with cur := [(5, ⟨9, 3, true⟩), (6, ⟨7,1,false⟩)], nxt := [(7,⟨1,0,true⟩)], missing := [(6, 500)] }) ((R0.wr Reg.STR_CTRL.HOLDMAX 100)),
   { (S (fun q => { q with cur := [(5, ⟨9, 3, true⟩)] }) R0) with ecc := [((EccKey.strand 5).num, ⟨true,false,false⟩), ((EccKey.strand 6).num, ⟨true,true,false⟩)] },
   { ((R0.wr Reg.STR_CTRL.HOSTWR_EN 1)) with lp := { R0.lp with plan0 := { slots := [(5, {cls := .host}), (6, {cls := .host})] } } },
   { R0 with tick := 21, ref := { R0.ref with family := some { phase := 2, tick := 5 } } },
   S (fun q => { q with queue := List.replicate 256 off }) R0,
   S (fun q => { q with queue := [off, {off with late := true}], armed := some 41, armed2 := some 42, ingress := [(5, hv 5 4 0 0 0)] }) (W R0),
   S (fun q => { q with queue := [bad, off], armed := some 41, ingress := [(5, hv 5 4 0 0 0)] }) (W R0),
   S (fun q => { q with queue := [bad], armed := none }) (R0),
   S (fun q => { q with queue := [bad], armed := some 3}) (R0),
   S (fun q => { q with runIn := [(0, { mute := .down 15 }), (5, { mute := .up 15 }), (6, { mute := .waitZc true 7, lastIn := 5 }), (7, { unsettledTo := 1 })], ingress := [(6, hv 6 1 0 0 0)] }) ((R0.wr (Reg.SAP_ZC.THR 0) 1).wr (Reg.SAP_ZC.TIMEOUT 0) 8),
   B {} 0 0 R0, B {} 2 0 R0, B { armed := some .edge } 1 3 R0, B { armed := some .edge } 1 3 (W R0), B {armed := some (.tick 1)} 1 0 R0, B {rejoin := some 1} 3 0 R0, B { stopAt := some 5 } 2 0 R0 ]

end Sample20

namespace Sample21

/-! Sample states and operands. -/

def M (f : MtxState → MtxState) (s : State) : State := { s with mtx := f s.mtx }

def W (s : State) : State := { s with inWindow := true, tick := 40 }

def ent (gain row col op : Nat) : ChangeEntry := ⟨BitVec.ofNat 32 gain, BitVec.ofNat 32 (row + col * 4096 + op * 2^24)⟩

def chg (p : ColPhase) (cross off : Bool) (t0 : Nat) : ColChange := { new := .patch 4, phase := p, t0 := t0, len := 8, equalPower := false, thr := 5, timeout := 6, cross := cross, toOff := off, commit := none }

def cm1 (zc : Bool) : Commit := { entries := [ent 5 2 3 0, ent 6 4 3 0, ent 1 9 7 1], len := 8, equalPower := true, preempt := false, zc := zc, timeout := 9, thr := 2, trig := .tick 41, accepted := 30 }

def cols0 : SMap Col := [(3, { live := .patch 2 }), (7, { live := .mix [] })]

def one (h : ColChange) : State := M (fun m => { m with cols := [(3, { live := .patch 2, change := some h }), (7, { live := .mix [], result := 4 })] }) (W R0)

def xs_Commit : List (Commit) := [cm1 true, cm1 false, { cm1 false with trig := .tick 20}]

def xs_Trig : List (Trig) := [.tick 2, .tick 42]

def hs : List ColChange := [ColPhase.waitZc, .splice, .waitCut, .dip].flatMap fun p => [true,false].flatMap fun c => [true,false].flatMap fun o => [1,38].map fun t => chg p c o t

def xs_ColChange : List (ColChange) := hs

def xs_RowSet : List (RowSet) := [{ slot := 9, valid := true }, {hold := 5}]

def xs_ChangeEntry : List (ChangeEntry) := []

def rowsA : SMap Row := [(3, { live := { slot := 1, valid := true}, staged := some { slot := 9, valid := true }, gateNext := true, quiet := 9600 }), (7, { staged := some {hold := 5}, gateNext := true, quiet := 4 })]

def PL (s : State) : State := { s with lp := { s.lp with plan0 := { cols := [(3, { slot := 0, list := .patch 2 }), (5, { slot := 0, list := .off }), (7, { slot := 0, list := .mix [] })] } } }

def states : List State := (fun l => l ++ l.map PL) ([State.reset, R0, M (fun m => { m with cols := cols0 }) (R0.wr Reg.MTX_ROW_SEL.INDEX 2), M (fun m => { m with openList := List.replicate 4096 (ent 1 1 3 0), cols := cols0}) R0,
   M (fun m => { m with openList := [ent 1 1 3 0], cols := cols0 }) R0, M (fun m => { m with openList := [ent 1 1 5 0], cols := cols0, commits := [(0, cm1 true)], nextSeq := 1 }) R0,
   M (fun m => { m with openList := [ent 1 1 3 0], cols := cols0, commits := [(0, cm1 true)], nextSeq := 17 }) (W ((R0.wr Reg.MTX_CM_CTRL.ZC 1).wr Reg.MTX_CM_ZC.TIMEOUT 5)),
   M (fun m => { m with rows := rowsA, nom := [(3, { ramping := true, j := 64, target := 77 }), (0, { ramping := true, j := 5, target := 77 })] }) (W R0),
   M (fun m => { m with cols := cols0, commits := [(3, cm1 true)] }) (W R0), M (fun m => { m with cols := cols0, commits := [(19, cm1 false)] }) (W R0), M (fun m => { m with cols := cols0, commits := [(3, {cm1 false with trig := .tick 20})] }) (W R0)] ++ hs.map one)

end Sample21

namespace Sample22

/-! Sample states and operands. -/

def wA : Whip := { live := { limEn := false, dcEn := false }, curGain := 0x08000000 }

def wB : Whip := { live := { gain := 0x04000000, limEn := false, dcEn := false, mute := true }, curGain := 0x04000000, curMute := true }

def wC (p : WhipPhase) : Whip := { phase := p, toGain := 0x02000000, toMute := true, curGain := 0x07000000, staged := some { gain := 5 }, dcWant := true }

def wD : Whip := { live := { dcEn := true, dcMute := true, dctime := 960 }, dcRun := 960 }

def wE : Whip := { live := { dcEn := true, dcMute := false, dctime := 0 }, dcRun := 1, r := 5 }

def xs_WhipCfg : List (WhipCfg) := [{ gain := 5 }]

def ws : List Whip := [{}, wA, wB, wC (.waitZc 3 true), wC (.waitZc 480 false), wC (.ramp 16), wC (.ramp 7), wD, wE, {r := 2000000000}]

def xs_Whip : List (Whip) := ws

def states : List State := [State.reset, R0, R0.wr Reg.EGR_WCOMMIT.COMMIT 1] ++ ws.map (fun w => { ((R0.wr Reg.EGR_WCOMMIT.COMMIT 1)) with egr := { R0.egr with out := .full, whip := [(3, w), (7, wC .rest)], st := [(2, { cur := 5, base := 4, goal := 9, k := 15 })] } })

end Sample22

namespace Sample23

/-! Sample states and operands. -/

def xs_State_Out : List (State → Out) := [execWarmStart, execWarmNFall]

def H (r c p t cold : Bool) (s : State) : State := { s with held := true, boot := { s.boot with rst := r, clk := c, pwr := p, temp := t, cold := cold } }

def dirty : State := { (R0.wr Reg.CLK_STATUS.XO_OK 1).wr Reg.CLK_STATUS.ROOT_LOCK 1 with mem := [(5,3)], tick := 9, str := { cur := [(3,⟨4,0,true⟩)] }, amp := { R0.amp with ch := [(3, { drive := .high })] }, boot := { R0.boot with flash := [(3,4)], flashSize := 33554432 }, pending := [.tapIdcode], free := 4, livePage := [(2,3)], flt := { R0.flt with faultLow := false } }

def bases : List State := [State.reset, R0, dirty, dirty.wr Reg.BOOT_STATUS.WARMFAIL 3, dirty.wr Reg.BOOT_STATUS.WARMFAIL 2, (dirty.wr Reg.CHIP_STATE.STATE 2).wr Reg.CHIP_STATE.STEP 9, (dirty.wr Reg.CHIP_STATE.STATE 2).wr Reg.CHIP_STATE.STEP 2, ((dirty.wr Reg.CHIP_STATE.STATE 2).wr Reg.CHIP_STATE.STEP 9).put Reg.CHIP_STATE.WARM true, dirty.wr Reg.CHIP_STATE.STATE 1]

def states : List State := bases ++ (bases.flatMap fun s => [H true false false false true s, H true true false false true s, H false true false false false s, H false true false false true s, H false false true false false s, H false false true false true s, H false false false true false s, H false false false true true s])

end Sample23

namespace Sample24a

/-! Sample states and operands. -/

def ms : List RefMeas := ([0, 5000, 10000000, -60000000, 120000000, 100000] : List Int).flatMap fun r => [⟨3, ((10:Int)^19 + r * 10000000).toNat⟩, ⟨3, (48000000000000000 + r * 48000).toNat⟩, ⟨3, (44100000000000000 + r * 44100).toNat⟩]

def xs_RefMeas : List (RefMeas) := [⟨3,5⟩]

def xs_List_RefMeas : List (List RefMeas) := [[]]

def RS (st src : Nat) : State := { ((R0.wr (Reg.REFS_STATUS.STATE 3) st).wr (Reg.REFS_CFG.SRC 3) src).wr (Reg.REFS_STATUS.QTIME 3) 200 with ref := { R0.ref with slot := [(3, { discards := 16, phase := 77, gate := some 70 })] } }

def states : List State := [State.reset, R0] ++ [1,2,3,4,5].flatMap fun st => [1,5,0x21].map fun src => RS st src

end Sample24a

namespace Sample24b

/-! Sample states and operands. -/

def xs_TickIn : List (TickIn) := [{}, {sc := 5000}]

def dp (n : Nat) (s : State) : State := s.wr Reg.REF_STATUS.DPLL n

def fam (t p : Nat) (s : State) : State := { s with ref := { s.ref with family := some ⟨t, p⟩ } }

def xs_FamilyStep : List (FamilyStep) := [⟨5,3⟩,⟨5,4⟩]

def xs_ColChange : List (ColChange) := [{ new := .patch 4, phase := .splice, t0 := 1, len := 8, equalPower := false, thr := 5, timeout := 6, toOff := false, commit := none }, { new := .patch 4, phase := .splice, t0 := 1, len := 8, equalPower := false, thr := 5, timeout := 6, toOff := true, commit := none }]

def hold : Nat := R0.rd Reg.REF_ACQ.HOLD_TICKS

def cc (s : State) : State := { s with mtx := { s.mtx with cols := xs_ColChange.zip [3,7] |>.map fun (h, k) => (k, { live := .patch 2, change := some h }) } }

def states : List State := [State.reset, R0, dp 1 R0, dp 2 R0, ((dp 2 R0).put (Reg.REFS_CFG.PBO 0) true).wr (Reg.REFS_FREQ.FREQ 0) 77, dp 3 R0, dp 4 R0, { R0 with ref := { R0.ref with acquiring := true } }, { (R0.put Reg.CLK_ROOT.FORCE_RELOCK true) with rclk := false },
  R0.put Reg.ENG_LP_STATUS.ARMED true, R0.put Reg.ENG_LP_STATUS.RAMPING true, fam 1 0 R0, fam 0 0 R0, cc (fam 5 1 { R0 with tick := 20, inWindow := true }), cc (fam 5 1 { R0 with tick := 21, inWindow := true }), fam 5 3 {R0 with rclk := false, tick := 21}, fam 5 4 {R0 with rclk := false, tick := 21}, fam 5 5 { R0 with tick := 5 + 17 + hold }, fam 5 5 { R0 with tick := 4 + 17 + hold }, fam 5 6 { R0 with tick := 5 + 33 + hold }, fam 5 6 { R0 with tick := 4 + 33 + hold }, fam 5 5 { R0 with tick := 5 + 16 + hold },fam 5 6 { R0 with tick := 5 + 32 + hold }]

end Sample24b

namespace Sample24d

/-! Sample states and operands. -/

def xs_TickIn : List (TickIn) := [{}, {sc := 5000}]

def dp (n : Nat) (s : State) : State := s.wr Reg.REF_STATUS.DPLL n

def fam (t p : Nat) (s : State) : State := { s with ref := { s.ref with family := some ⟨t, p⟩ } }

def xs_FamilyStep : List (FamilyStep) := [⟨5,3⟩,⟨5,4⟩]

def xs_ColChange : List (ColChange) := [{ new := .patch 4, phase := .splice, t0 := 1, len := 8, equalPower := false, thr := 5, timeout := 6, toOff := false, commit := none }, { new := .patch 4, phase := .splice, t0 := 1, len := 8, equalPower := false, thr := 5, timeout := 6, toOff := true, commit := none }]

def hold : Nat := R0.rd Reg.REF_ACQ.HOLD_TICKS

def cc (s : State) : State := { s with mtx := { s.mtx with cols := xs_ColChange.zip [3,7] |>.map fun (h, k) => (k, { live := .patch 2, change := some h }) } }

def states : List State := [State.reset, R0, dp 1 R0, dp 2 R0, ((dp 2 R0).put (Reg.REFS_CFG.PBO 0) true).wr (Reg.REFS_FREQ.FREQ 0) 77, dp 3 R0, dp 4 R0, { R0 with ref := { R0.ref with acquiring := true } }, { (R0.put Reg.CLK_ROOT.FORCE_RELOCK true) with rclk := false },
  R0.put Reg.ENG_LP_STATUS.ARMED true, R0.put Reg.ENG_LP_STATUS.RAMPING true, fam 1 0 R0, fam 0 0 R0, cc (fam 5 1 { R0 with tick := 20, inWindow := true }), cc (fam 5 1 { R0 with tick := 21, inWindow := true }), fam 5 3 {R0 with rclk := false, tick := 21}, fam 5 4 {R0 with rclk := false, tick := 21}, fam 5 5 { R0 with tick := 5 + 17 + hold }, fam 5 5 { R0 with tick := 4 + 17 + hold }, fam 5 6 { R0 with tick := 5 + 33 + hold }, fam 5 6 { R0 with tick := 4 + 33 + hold }, fam 5 5 { R0 with tick := 5 + 16 + hold },fam 5 6 { R0 with tick := 5 + 32 + hold }]

end Sample24d

namespace Sample24m

/-! Sample states and operands. -/

def ms : List RefMeas := ([0, 5000, 10000000, -60000000, 120000000, 100000] : List Int).flatMap fun r => [⟨3, ((10:Int)^19 + r * 10000000).toNat⟩, ⟨3, (48000000000000000 + r * 48000).toNat⟩, ⟨3, (44100000000000000 + r * 44100).toNat⟩]

def xs_RefMeas : List (RefMeas) := ms

def xs_List_RefMeas : List (List RefMeas) := [⟨0,3⟩, ⟨0,3⟩] :: ms.map (fun m => [⟨0,77⟩, m])

def RS (st src : Nat) : State := { ((R0.wr (Reg.REFS_STATUS.STATE 3) st).wr (Reg.REFS_CFG.SRC 3) src).wr (Reg.REFS_STATUS.QTIME 3) 200 with ref := { R0.ref with slot := [(3, { discards := 16, phase := 77, gate := some 70 })] } }

def states : List State := [State.reset, R0] ++ [1,2,3,4,5].flatMap fun st => [1,5,0x21].map fun src => RS st src

end Sample24m

namespace Sample25s

/-! Sample states and operands. -/

def T (f : TimeState → TimeState) (s : State) : State := { s with time := f s.time }

def adj1 : List TimeAdj := [⟨5, true, false, false⟩, ⟨5*oneSecond, false, false, false⟩, ⟨7*oneSecond, false, true, true⟩,⟨7*oneSecond, false, true, false⟩, ⟨2^200, false, true, true⟩, ⟨9*oneSecond, true, false, true⟩]

def xs_TimeAdj : List (TimeAdj) := adj1

def root (s : State) : State := s

def states : List State := [State.reset, R0, T (fun t => { t with dom := [(3, { d := 6*oneSecond }), (0, {d := 9})] }) (((((R0.put Reg.CLK_STATUS.ROOT_LOCK true).put (Reg.TIME_STATUS.SOURCE 3) false).put (Reg.TIME_STATUS.SOURCE 0) false).wr Reg.REF_STATUS.DPLL 4).wr (Reg.TIME_INC_LO.INC 3) 12345), T (fun t => { t with dom := [(3, { d := 5*oneSecond + oneSecond/2, incLo := some 77 })], scLo := some 3, snap := [0,1] }) (R0.wr (Reg.TIME_ADJ_0.NS 3) 1000000000), ((T (fun t => { t with dom := [(0, { d := 4*oneSecond + oneSecond/2 - 1 })] }) R0).put (Reg.TIME_CTRL.PPSALIGN 0) true).wr (Reg.TIME_STATUS.SOURCE 0) 0,
   (T (fun t => {t with dom := [(3, { d := 4*oneSecond + oneSecond/2 })]}) ((R0.wr (Reg.TIME_ADJ_1.SEC_LO 3) 2).put (Reg.TIME_CTRL.PPSALIGN 3) true)).wr (Reg.TIME_STATUS.SOURCE 3) 0] ++
   adj1.flatMap fun a => [true,false].map fun st => (T (fun t => { t with dom := [(3, { d := 6*oneSecond, adj := some a, ofs := 99 })] }) R0).put (Reg.TIME_STATUS.SOURCE 3) st

end Sample25s

namespace Sample25t

/-! Sample states and operands. -/

def T (f : TimeState → TimeState) (s : State) : State := { s with time := f s.time }

def xs_Trig : List (Trig) := [.ptp 3 1 500, .ptp 0 0 500, .ptp 3 0 0, .ptp 3 1 0]

def cmx (g : Trig) : Commit := { entries := [], len := 8, equalPower := true, preempt := false, zc := false, timeout := 9, thr := 2, trig := g, accepted := 30 }

def xs_Commit : List (Commit) := xs_Trig.map cmx

def trs (g : Trig) (d : Nat) : State := let s := T (fun t => { t with dom := [(3, { d := d })] }) ((R0.put (Reg.TIME_STATUS.SOURCE 3) false).wr Reg.TIME_SC_INC_LO.INC 5)
  { s with tick := 38, inWindow := true, str := { s.str with braid := [(3, { armed := some g })] }, lp := { s.lp with armed := some g }, mtx := { s.mtx with commits := [(3, cmx g), (16, cmx g)] }, net := { s.net with grp := [(3, g)] } }

def states : List State := [trs (.ptp 3 1 0) (oneSecond - 20833*2^32), trs (.ptp 3 1 500) (oneSecond - 2*20833*2^32),trs (.ptp 3 1 0) (oneSecond + 20833*2^32) ]

end Sample25t

namespace Sample26

/-! Sample states and operands. -/

def xs_List_BitVec_32 : List (List (BitVec 32)) := [[1,2,3], []]

def SP (st : Nat) (c : Word) (g : Nat) (fr : List RxFrame) (rb : Bool) : State :=
  let s := [0,23].foldl (fun s p => (s.wr (Reg.SAP_STATUS.RXSTATE p) st).wr (Reg.SAP_STATUS.TXSTATE p) st) R0
  let s := [0,7].foldl (fun s p => s.wr (Reg.AES_RX_STATUS.STATE p) st) s
  let s := s.wr (Reg.MADI_STATUS.RXSTATE 1) st
  { s with ser := { s.ser with rx := [0,23,24,31,33].map fun i => (i, { cfg := c, good := g, frames := fr, rateBad := rb, since := 0 }), tx := [0,23].map fun i => (i, {cfg := c}) }, tick := 100 }

def cS : Word := 0x381#32  -- EN, slave, fmt 0, slots 2, slotw 32, dw 32

def prd (f d : Bool) : SapBck := ⟨f, d, f, d⟩

def lineOf (c : Word) : List SapBck := let f := sapFs c; ((List.range f.length).zip f).map fun p => prd p.2 (p.1 % 3 == 1)

def xs_SapBck : List (SapBck) := [prd false false, prd true false]

def xs_List_SapBck : List (List SapBck) := [lineOf 0x381, lineOf 0x381 ++ [prd true true], [prd false false, prd false true, prd true true], []]

def states : List State := [State.reset, R0] ++ ([0,1,2,3,4].flatMap fun st => [SP st cS 0 [] false, SP st cS 1 [[some (1,0)]] false, SP st cS 1 [[], []] true, SP st (cS ||| 2) 0 [] false, SP st (cS ||| 0x4000) 0 [] false])

end Sample26

namespace Sample26b

/-! Sample states and operands. -/

def STx (st : Nat) (c : Word) (sg fr : Bool) : State :=
  let s := [0,23].foldl (fun s p => (s.wr (Reg.SAP_STATUS.RXSTATE p) st).wr (Reg.SAP_STATUS.TXSTATE p) st) R0
  let s := s.wr (Reg.SAP_ASRC_STATUS.STATE 63) st
  let s := s.wr (Reg.DEC_CH_STATUS.SETTLE 95) (if fr then 7 else 0)
  let s := (s.put (Reg.DEC_CH_CFG.EN 95) true).put (Reg.DEC_CH_DC.FREEZE 95) sg
  { s with ser := { s.ser with rx := [0,23].map fun i => (i, { cfg := c, staged := sg }), tx := [0,23].map fun i => (i, {cfg := c, staged := sg, fresh := fr, loaded := [none, some 3], sent := [none] }), cs := [(7, {armed := sg })], dec := [(95, {restart := fr, m := 77})] }, tick := 100 }

def cS : Word := 0x381#32

def states : List State := [State.reset, R0] ++ ([0,1,2,3,4].flatMap fun st => [STx st cS true false, STx st cS false true, STx st (cS ||| 2) true true])

end Sample26b

namespace Sample27

/-! Sample states and operands. -/

def A (st part : Nat) (t : Nat) (z : Bool) (f : AmpCh → AmpCh) : State :=
  let s := (R0.wr (Reg.AMP_CH_STATUS.STATE 31) st).wr (Reg.AMP_CH_STATUS.RETRIES 31) 2
  let s := if z then s else (s.wr (Reg.AMP_CH_SCALE.VFS 31) 100).wr (Reg.AMP_CH_SCALE.IFS 31) 100
  { s with amp := { s.amp with ch := [(31, f { part := part, t := t })] } }

def states : List State := [State.reset, R0] ++ ([0,1,2,3,4,5,6,7,8].flatMap fun st => [0,1].flatMap fun p => [0,10000000].flatMap fun t => [A st p t false id, A st p t true (fun x => { x with after := .latched})])

end Sample27

namespace Sample27b

/-! Sample states and operands. -/

def A (st part : Nat) (t : Nat) (z : Bool) (f : AmpCh → AmpCh) : State :=
  let s := (R0.wr (Reg.AMP_CH_STATUS.STATE 31) st).wr (Reg.AMP_CH_STATUS.RETRIES 31) 2
  let s := if z then s else (s.wr (Reg.AMP_CH_SCALE.VFS 31) 100).wr (Reg.AMP_CH_SCALE.IFS 31) 100
  { s with amp := { s.amp with ch := [(31, f { part := part, t := t })] } }

def A2 (st : Nat) : List State := [0,1,14,15,16].flatMap fun o => [14,15].map fun r => { A st 0 3 false (fun x => { x with lastOc := some (16*5+o-1), ocRun := r }) with tick := 5 }

def tms (s : State) : List Nat := [0, s.msTicks 10 - 1, s.msTicks 20, s.msTicks 30 - 1, s.msTicks 40 - 1, 10000000]

def states : List State := [{ (A 5 0 1 false id).wr Reg.TTH_STATUS.STATE 3 with rclk := false }, (A 5 0 1 false id).put (Reg.AMP_CH_STATUS.SENSE_LOST 31) true, { A 5 0 1 false id with amp := { (A 5 0 1 false id).amp with sense := [(31, { good := 1024 }), (63, { good := 1024 })] } }] ++ [2,3,4,5,6].flatMap A2 ++ [State.reset, R0, A 6 1 1000000 false id, A 2 0 (R0.msTicks 4 - 1) false id, A 2 0 (R0.msTicks 24 - 1) false id,A 2 0 (R0.msTicks 2 - 1) false id,A 2 0 (R0.msTicks 14 - 1) false id,A 2 0 (R0.msTicks 44 - 1) false id,A 2 0 (R0.msTicks 54 - 1) false id, (A 5 0 1 false id).put (Reg.DEC_CH_STATUS.UNSETTLED 63) true] ++ ([0,1,2,3,4,5,6,7,8].flatMap fun st => [0,1].flatMap fun p => (tms R0).flatMap fun t => [{ A st p t false id with rclk := false}, A st p t true (fun x => { x with after := .latched}), A st p t true (fun x => { x with after := .locked, lastOc := some 15, ocRun := 15, }),A st p t true (fun x => { x with after := .locked, lastOc := some 15, ocRun := 15, senseBad := true})])

end Sample27b

namespace Sample28

/-! Sample states and operands. -/

def fr (ty : Nat) (n : Nat) : List Byte := let l := List.replicate 6 0xFF ++ List.replicate 6 2 ++ beBytes 2 ty ++ (List.range n).map (BitVec.ofNat 8); l ++ fcsBytes l

def xs_List_Byte : List (List Byte) := [[1], (fr 0x806 46).take 13, fr 0x8808 46, fr 0x806 46, fr 0x8100 50, fr 0x806 100]

def mst (w1 : Nat) (own : Bool) (b : Nat): State :=
  let s := [0,4].foldl (fun s i => (((s.put (Reg.MAC_CTRL.EN i) true).put (Reg.MAC_STATUS.LINK i) true).wr (Reg.NET_TXQ_BASE.BASE i) 0x1000000).wr (Reg.NET_TXQ_CTRL.SIZE i) 4) R0
  let s := ((s.wr (Reg.NET_RXQ_BASE.BASE 3) 256).wr (Reg.NET_RXQ_CTRL.SIZE 3) 4)
  let s := if own then [0,4].foldl (fun s i => s.wr (Reg.NET_TXQ_PTR.TAIL i) 1) (s.wr (Reg.NET_RXQ_PTR.TAIL 3) 2) else s
  let s := ((s.store 256 4 b).store 260 4 w1)
  ((s.store 0x1000000 4 200).store 0x1000004 4 w1)

def baseOf (s : State) := s.rd (Reg.NET_TXQ_BASE.BASE 0)

def states : List State := [State.reset, R0, mst 0x80000000 true 0x200, mst 0x80000000 true 250, mst 0x80000040 true 0xFFFFFFF0, mst 0x80010041 true 0x200, mst 0x80002041 true 7, mst 0 true 0, mst 0x80000000 false 5]

end Sample28

namespace Sample28b

/-! Sample states and operands. -/

def d0 : List Word := [BitVec.ofNat 32 (1 + 32 + 96*2^18), BitVec.ofNat 32 (20 + 400*65536)] ++ List.replicate 14 0

def e0 : List Word := [BitVec.ofNat 32 (1 + 32 + 96*2^17 + 3*2^24)] ++ List.replicate 15 7

def xs_List_BitVec_32 : List (List (BitVec 32)) := [d0, e0]

def tm : List Byte := List.replicate 16 2 ++ [8,0] ++ [0x45,0,0,0,0,0,0,0,9,17,0,0,1,2,3,4,5,6,7,8] ++ [1,1,2,2] ++ List.replicate 86 0

def pk (ts : Nat) (b : Bool) : List Byte := let l := mediaFrame tm ([0x80, 96] ++ beBytes 2 5 ++ beBytes 4 ts ++ beBytes 4 1 ++ List.replicate 12 3); if b then l.set 30 0 else l

def ms (x : InStream → InStream) (o : OutStream → OutStream) (l : List NetRx) (st gr : Bool) : State :=
  let s : State := if st then R0.wr Reg.TTH_STATUS.STATE 2 else R0
  let s := (s.put Reg.NET_CTRL.WATCH_EN true).wr Reg.NET_SEL.DIR (if gr then 1 else 0)
  { s with tick := 100, net := { s.net with live := ((d0.zip (List.range 16)).foldl (fun m p => sset 0 p.2 p.1 m) ((e0.zip (List.range 16)).foldl (fun m p => sset 0 (8192 + p.2) p.1 m) [])), ins := [(0, x {run := true})], outs := [(0, o {})], rxq := l, grp := if gr then [(3, .tick 101)] else [], staged := if gr then [] else ((d0.zip (List.range 16)).foldl (fun m p => sset 0 p.2 p.1 m) []), go := if gr then [(0, d0)] else [(512, e0)], quiet := 1000 } }

def rx (ts : Nat) (b : Bool) (mac := 0) : List NetRx := [⟨mac, 0, pk ts b, 100, 100, 0⟩, ⟨0,0,[],5,5,0⟩]

def xs_NetRx : List (NetRx) := rx 0 false ++ rx 0 true ++ rx 1 false ++ rx 1000 false ++ rx 0xFFFFFFF0 false ++ rx 0xFFFFFF00 false

def xs_List_NetRx : List (List NetRx) := [[⟨0,0,[],5,5,0⟩]]

def rxs : List (List NetRx) := [[],rx 0 false, rx 0 true, rx 1 false, rx 1000 false, rx 0xFFFFFFF0 false, rx 0xFFFFFF00 false]

def xs_NetPkt : List (NetPkt) := [⟨120, true, false, []⟩]

def states : List State := [State.reset, R0, (fun s => { s with net := { s.net with ins := [], outs := [] } }) ((ms id id [] false false).put (Reg.LANE_CFG.ROLE 0) true)] ++ (rxs.map fun l => ms id id l false false) ++ [ms (fun x => {x with phase := some 1}) id (rx 0 false) false false, ms (fun x => {x with phase := some 80, pkts := [⟨100, true, false, []⟩]}) (fun o => { o with run := true, m0 := 80, buf := List.replicate 30 (5,[3]) }) [] true true, ms (fun x => {x with phase := some 80}) id [] true true, ms (fun x => {x with phase := some 90, pkts := [⟨120, true, false, []⟩]}) id (rx 0 false) false false]

end Sample28b

namespace Sample29

/-! Sample states and operands. -/

def ls (role lock : Nat) (los lol cal : Bool) (st : Nat) : State :=
  let s := [0,3,12,13,15].foldl (fun s n => (((((s.wr (Reg.LANE_CFG.ROLE n) role).put (Reg.LANE_STATUS.LOS n) los).put (Reg.LANE_STATUS.LOL n) lol).put (Reg.LANE_STATUS.CAL_DONE n) cal).put (Reg.FLX_CFG.RXEN n) true).put (Reg.LANE_MARGIN.START n) cal) R0
  let s := ((s.put Reg.TTH_STATUS.TETHER_UP true).wr Reg.TTH_STATUS.STATE st).put Reg.LANE_GSTATUS.REFCLK0_OK los
  { s with lane := [0,3,12,13,15].map fun n => (n, { lock := lock, seq := some 4, frames := [], cells := [[]] }), boot := { s.boot with badLanes := if lol then 8 else 0 } }

def states : List State := [State.reset, R0] ++ ([0,1,2,3,4,6].flatMap fun r => [0,1,2,3,4].flatMap fun l => [ls r l true false true 0, ls r l false true false 1, ls r l false false true 1])

end Sample29

namespace Sample29b

/-! Sample states and operands. -/

def body : List Block := groupBlocks [(7,1)] ++ [dataBlock 1]

def bad : List Block := groupBlocks [(7,1)] ++ [dataBlock 0x202]

def tail : List Block := ((List.replicate 50 emptyCell).flatMap cellBlocks) ++ [idleBlock]

def xs_List_Block : List (List Block) := [body ++ tail, []]

def cel (fl len seq : Nat) : List Byte := sealCell ([1, BitVec.ofNat 8 fl, BitVec.ofNat 8 len, BitVec.ofNat 8 seq] ++ (List.range 58).map (BitVec.ofNat 8))

def xs_List_Byte : List (List (BitVec 8)) := [cel 1 58 0, cel 3 7 1, cel 2 7 1, emptyCell]

def fs (role lock : Nat) (op : Bool) (miss : Nat) (seq : Option Nat) (cc : Bool) : State :=
  let n := 3
  let s := R0.put (Reg.FLX_STATUS.FAR_RXLOCK n) op
  let s := s.put (Reg.FLX_CFG.TXEN n) (miss == 0)
  let s := s.wr (Reg.LANE_CFG.ROLE n) role
  let s := s.wr (Reg.FLX_CFG.TXGRP n) 2
  let s := s.wr (Reg.FLX_CFG.RXGRP n) 1
  let s := s.put (Reg.FLX_CC_CTRL.EN n) (cc || lock != 3)
  let s := ((s.wr (Reg.FLX_CC_RXRING.BASE 3) 0x100).wr (Reg.FLX_CC_CTRL.RXSIZE 3) 4).wr (Reg.FLX_CC_PTR.RXTAIL 3) (if miss > 0 then 2 else 0)
  let s := (s.store 0x100 4 0x200).store 0x104 4 0x80000000
  { s with lane := [3].map fun n => (n, { lock := lock, seq := seq, opened := op, miss := miss, valid := miss, cs := [7], fcrc := 77 }), tick := 300 }

def states : List State := [State.reset, R0] ++ ([0,2,3,4].flatMap fun r => [0,1,2,3,4].flatMap fun l => [fs r l true 0 none true, fs r l false 1 (some 4) false, fs r l true 1 (some 4) true, fs r l false 1 (some 9) false, fs r l true 0 (some 4) true])

end Sample29b

namespace Sample30

/-! Sample states and operands. -/

def frm (seq c : Nat) (w : List (Word × Tag)) : FlxFrame := ⟨seq, c, w⟩

def pw (st : Nat) (mk : Nat) (sw : Nat) : List (Word × Tag) := (List.range 128).map fun i => (if i = 0 then BitVec.ofNat 32 (st * 2^16) else if i = 7 then BitVec.ofNat 32 (5 + mk * 65536) else if i = 8 then 64 else if i = 6 then BitVec.ofNat 32 (sw*256) else if i = 4 then 9 else 0, 0)

def xs_FlxFrame : List (FlxFrame) := [frm 7 1000 [], frm 7 2000 (pw 1 1 1), frm 7 2000 (pw 3 0 1)]

def P (st : Nat) (f : State → State) : State := f ({ ((R0.wr Reg.TTH_STATUS.STATE st).wr Reg.TTH_CTRL.MIRROR 32) with tick := 63, flt := { R0.flt with faultLow := false } } )

def T (f : TthState → TthState) (s : State) : State := { s with tth := f s.tth }

def up (s : State) : State := s.put Reg.TTH_STATUS.TETHER_UP true

def lanes (s : State) (fr : List FlxFrame) (fr2 : List FlxFrame) : State := { ((s.wr (Reg.LANE_CFG.ROLE 12) 4).wr (Reg.LANE_CFG.ROLE 13) 4) with lane := [(12, { lock := 3, frames := fr }), (13, { lock := 3, frames := fr2 })] }

def pst (n : Nat) (s : State) : State := s.wr Reg.TTH_STATUS.PEER_STATE n

def pr (w0 w1 : Word) (s : State) : State := T (fun r => { r with peer := [(0, w0), (1, w1)] }) s

def okQ (s : State) (sd : Bool) : PeerInfo := ⟨s.ctl.imageSha, BitVec.ofNat 16 (s.rd Reg.CHIP_ID.PART), BitVec.ofNat 8 (s.rd Reg.CHIP_REV.REV), sd, true, false, 0, 99⟩

def xs_PeerInfo : List (PeerInfo) := [okQ R0 true, okQ R0 false]

def base : List State := [1,2,3,4].flatMap fun st => [P st id, P st (fun s => lanes s [frm 7 1000 []] [frm 7 2000 (pw 1 1 1)]), P st (fun s => up (lanes s [frm 7 1000 []] [frm 7 2000 (pw 1 1 1)])), P st (fun s => T (fun r => { r with sweepOwn := [(6, 77)] }) (up (lanes s [frm 7 1000 []] [frm 7 2000 (pw 3 0 1)])))]

def states : List State := [State.reset, R0] ++ base ++ [1,2,3,4].flatMap fun st => [
  P st (fun s => T (fun r => { r with beat := false, noBeat := 2, prearm := true, swapAt := some 64, everTether := true }) (pst 3 s)),
  P st (fun s => T (fun r => { r with noBeat := 3 }) ((s.put Reg.TTH_STATUS.PEER_FAIL true).put Reg.TTH_CTRL.DEGRADED_EN true)), P st (fun s => pr 0x80000 3 (T (fun r => { r with age := 5 }) (up s))), 
  P st (fun s => (s.put Reg.FLT_TEST.TESTMODE true)), P st (fun s => { s with flt := { s.flt with faultLow := true } }),
  P st (fun s => T (fun r => { r with age := 5, swapAt := some 64 }) (pr 0x80000 5 (up (s.put Reg.TTH_STATUS.SIDE true)))),
  P st (fun s => T (fun r => { r with age := 5 }) (pr 0x80000 3 (up (s.put Reg.TTH_STATUS.SIDE true)))),
  P st (fun s => T (fun r => { r with marginLane := 3 }) (pr 0x200000 3 (up (lanes s [] []))))]

end Sample30

namespace Sample30b

/-! Sample states and operands. -/

def frm (seq c : Nat) (w : List (Word × Tag)) : FlxFrame := ⟨seq, c, w⟩

def pw (st : Nat) (mk : Nat) (sw : Nat) : List (Word × Tag) := (List.range 128).map fun i => (if i = 0 then BitVec.ofNat 32 (st * 2^16) else if i = 7 then BitVec.ofNat 32 (5 + mk * 65536) else if i = 8 then 64 else if i = 6 then BitVec.ofNat 32 (sw*256) else if i = 4 then 9 else 0, 0)

def xs_FlxFrame : List (FlxFrame) := [frm 7 1000 [], frm 7 2000 (pw 1 1 1), frm 7 2000 (pw 3 0 1)]

def P (st : Nat) (f : State → State) : State := f ({ ((R0.wr Reg.TTH_STATUS.STATE st).wr Reg.TTH_CTRL.MIRROR 32) with tick := 63, flt := { R0.flt with faultLow := false } } )

def T (f : TthState → TthState) (s : State) : State := { s with tth := f s.tth }

def up (s : State) : State := s.put Reg.TTH_STATUS.TETHER_UP true

def lanes (s : State) (fr : List FlxFrame) (fr2 : List FlxFrame) : State := { ((s.wr (Reg.LANE_CFG.ROLE 12) 4).wr (Reg.LANE_CFG.ROLE 13) 4) with lane := [(12, { lock := 3, frames := fr }), (13, { lock := 3, frames := fr2 })] }

def pst (n : Nat) (s : State) : State := s.wr Reg.TTH_STATUS.PEER_STATE n

def pr (w0 w1 : Word) (s : State) : State := T (fun r => { r with peer := [(0, w0), (1, w1)] }) s

def okQ (s : State) (sd : Bool) : PeerInfo := ⟨s.ctl.imageSha, BitVec.ofNat 16 (s.rd Reg.CHIP_ID.PART), BitVec.ofNat 8 (s.rd Reg.CHIP_REV.REV), sd, true, false, 0, 99⟩

def xs_PeerInfo : List (PeerInfo) := [okQ R0 true, okQ R0 false]

def base : List State := [1,2,3,4].flatMap fun st => [P st id, P st (fun s => lanes s [frm 7 1000 []] [frm 7 2000 (pw 1 1 1)]), P st (fun s => up (lanes s [frm 7 1000 []] [frm 7 2000 (pw 1 1 1)])), P st (fun s => T (fun r => { r with sweepOwn := [(6, 77)] }) (up (lanes s [frm 7 1000 []] [frm 7 2000 (pw 3 0 1)])))]

def xs_LogRec : List (LogRec) := [⟨7, 0xA0020, 4, 5⟩, ⟨8, 0xA0020, 4, 6⟩]

def xs_List_LogRec : List (List LogRec) := [[], [⟨8, 0xA0020, 4, 6⟩], [⟨6, 0xA0020, 4, 6⟩]]

def xs_MirrorDomain : List (MirrorDomain) := [⟨5, 2^70+3, -6, true⟩]

def bk : List BulkItems := [{ hitches := [(true, 5, 5, 0xFFFFFFFF)], rows := [(6, { slot := 9, valid := true })], lists := [(7, .patch 2)], pages := [(8, 5)], regs := [(0x80000, 5)] }, { hitches := [(false, 6, 5, 5)], regs := [(0x110208, 5)] }]

def xs_BulkItems : List (BulkItems) := bk

def xs_RowSet : List (RowSet) := [{ slot := 9, valid := true }]

def xs_ColList : List (ColList) := [.patch 2]

def xs_List_Bool_Nat_Word_Word : List (List (Bool × Nat × Word × Word)) := [[]]

def xs_List_Nat_RowSet : List (List (Nat × RowSet)) := [[]]

def xs_List_Nat_ColList : List (List (Nat × ColList)) := [[]]

def xs_List_Nat_Word : List (List (Nat × Word)) := [[]]

def xs_MirrorItems : List (MirrorItems) := [⟨[], [], [(5,[1,2])], [], {}⟩, ⟨[3], [], [], [], {}⟩, ⟨[], [⟨5, 2^70+3, -6, true⟩,⟨5, 2^70+3, -6, true⟩,⟨5, 2^70+3, -6, true⟩,⟨5, 2^70+3, -6, true⟩], [], [], {}⟩] ++ bk.map fun b => ⟨[], [], [], [], b⟩

def xs_List_Byte : List (List Byte) := [[1,2]]

def xs_ReplayItems : List (ReplayItems) := [⟨[(3,{})], [(2,{})], [(1,true)], [(5,{})]⟩]

def big : List LogRec := List.replicate 8192 ⟨5, 0xA0020, 4, 7⟩

def PP (st tick : Nat) (f : TthState → TthState) : State := { P st (T f) with tick := tick }

def rs (st stp since w : Nat) (f : TthState → TthState): State := ((PP st 64 (fun r => f { r with rot := true, since := since, clean := since, heard := [[]] })).wr Reg.TTH_RESYNC.STEP stp).wr Reg.TTH_CONV.W w

def states : List State := [State.reset, R0] ++ ([1,2,3,4].flatMap fun st => [PP st 64 id, PP st 60 id, PP st 56 id, PP st 64 (fun r => { r with apply := some (7, 64), log := [⟨7, 0xA0020, 4, 5⟩, ⟨8, 0xA0020, 4, 6⟩] }), PP st 60 (fun r => { r with log := [⟨7, 0xA0020, 4, 5⟩] }), up (pst 3 (PP st 60 (fun r => { r with acked := some 7, log := [⟨6, 0xA0020, 4, 6⟩,⟨7, 0xA0020, 4, 5⟩, ⟨8, 0xA0020, 4, 6⟩] }))), pst 2 (PP st 61 id)] ) ++
  [rs 2 1 0 50 id, rs 2 2 200 50 id, rs 2 2 305 50 id, rs 2 3 305 50 id, rs 2 3 50 50 id, rs 2 3 49 50 id, rs 2 4 1000 50 id, rs 2 2 81 50 id, rs 2 3 305 50 id, { rs 2 2 81 50 id with mtx := { R0.mtx with cols := [(1, { change := none })]}}]

end Sample30b

namespace Sample31

/-! Sample states and operands. -/

def rq (m : Nat) (w : Bool) (a n : Nat) (pt : Nat) (lk ul : Bool) : FabReq := { master := m, id := 0, port := pt, write := w, addr := a, size := n, data := 0x1122334455667788, lock := lk, unlock := ul }

def xs_FabReq : List (FabReq) := [rq 1 false 0x200008 4 0 false false, rq 3 true 0x200008 8 0 true false]

def gr (m : Nat) (w : Bool) (a n pt : Nat) (ul ret : Bool) (sz := n) : FabGrant := ⟨{ rq m w a n pt false ul with size := sz }, 100, ret⟩

def grs : List FabGrant := [gr 3 true 0x200008 4 1 true false, gr 3 false 0x200008 8 2 false false, gr 3 true 0x200008 8 1 true true, gr 3 false 0x200008 4 1 false true, gr 5 true 0x200008 0 0 false true]

def xs_FabGrant : List (FabGrant) := grs

def F (f : FabState → FabState) (s : State) : State := { s with fab := f s.fab }

def rr : State := (R0.store 0x200008 4 0xCAFE0001).wr Reg.FAB_ARB.AGE 0

def xs_FabLock : List (FabLock) := [⟨3,0,100⟩, ⟨1,0,30⟩]

def prio (s : State) : State := (s.wr (Reg.FAB_T_ARB.P1 0) 2).wr (Reg.FAB_T_ARB.P3 0) 9

def states : List State := [State.reset, rr, rr.put Reg.FAB_ERR_INFO.VALID true, prio (F (fun f => { f with waiting := [rq 1 false 0x200008 4 0 false false, rq 3 true 0x200008 8 0 true false] }) rr),
   F (fun f => { f with waiting := [rq 3 true 0x200008 8 0 true false], lock := some ⟨3,0,100⟩ }) rr] ++ grs.map fun g => F (fun f => { f with served := [(0, g)], lock := some ⟨3, 0, if g.retired then 30 else 100⟩ }) rr

end Sample31

namespace Sample31b

/-! Sample states and operands. -/

def rq (m : Nat) (w : Bool) (a n : Nat) (pt : Nat) (lk ul : Bool) : FabReq := { master := m, id := 0, port := pt, write := w, addr := a, size := n, data := 0x1122334455667788, lock := lk, unlock := ul }

def xs_FabReq : List (FabReq) := [rq 1 false 0x200008 4 0 false false, rq 3 true 0x200008 8 0 true false]

def gr (m : Nat) (w : Bool) (a n pt : Nat) (ul ret : Bool) (sz := n) : FabGrant := ⟨{ rq m w a n pt false ul with size := sz }, 100, ret⟩

def grs : List FabGrant := [gr 3 true 0x200008 4 1 true false, gr 3 false 0x200008 8 2 false false, gr 3 true 0x200008 8 1 true true, gr 3 false 0x200008 4 1 false true, gr 5 true 0x200008 0 0 false true]

def xs_FabGrant : List (FabGrant) := grs

def F (f : FabState → FabState) (s : State) : State := { s with fab := f s.fab }

def rr : State := (R0.store 0x200008 4 0xCAFE0001).wr Reg.FAB_ARB.AGE 0

def xs_FabLock : List (FabLock) := [⟨3,0,100⟩, ⟨1,0,30⟩]

def prio (s : State) : State := (s.wr (Reg.FAB_T_ARB.P1 0) 2).wr (Reg.FAB_T_ARB.P3 0) 9

def states : List State := [State.reset, rr, rr.put Reg.FAB_ERR_INFO.VALID true, prio (F (fun f => { f with waiting := [rq 1 false 0x200008 4 0 false false, rq 3 true 0x200008 8 0 true false] }) rr),
   F (fun f => { f with waiting := [rq 3 true 0x200008 8 0 true false], lock := some ⟨3,0,100⟩ }) rr] ++ grs.map fun g => F (fun f => { f with served := [(0, g)], lock := some ⟨3, 0, if g.retired then 30 else 100⟩ }) rr

end Sample31b

namespace Sample31d

/-! Sample states and operands. -/

def W0s : List Nat := [0x00280000_00200040, 0x00200100_00200040, 0x00200102_00200040]

def W1s : List Nat := [0x0800000100000002 ||| (1 <<< 16), 0x0000000100010002, 2^61 + 3, 0x1100000100010002, 0x0200000100010001,0x0300000100010001]

def W2s : List Nat := [2^48 + 5]

def W3s : List Nat := [7, 2^48, 2^49*9]

def D (st : Nat) (f : DmaCh → DmaCh) (w3 : Nat) (z : Bool) : State :=
  let s := (((R0.wr (Reg.DMA_CH_STATUS.STATE 40) st).wr (Reg.DMA_CH_DESC.FIRST 40) 9).put (Reg.DMA_CH_CTRL.STOP 40) z).put (Reg.DMA_CH_CTRL.COMMIT 40) true
  let s := (s.wr (Reg.DMA_CH_CFG.RATE 40) 3).wr (Reg.DMA_CH_STATUS.CUR 40) 9
  let s := (((s.store (descAddr 9) 8 0x00200100_00200040).store (descAddr 9 + 8) 8 0x0000000100010002).store (descAddr 9 + 16) 8 (2^48+5)).store (descAddr 9 + 24) 8 w3
  let s := (s.store 0x200040 4 0x12345678).store 0x200100 4 0x99
  { s with dma := [(40, f { w0 := 0x00200100_00200040, w1 := 0x0000000100010002, w2 := 2^48+5, w3 := w3, src := 0x200040, dst := 0x200100 })], held := false }

def states : List State := [State.reset, R0] ++ [0,1,2,3,4].flatMap fun st => [D st id 0 false, D st id (2^48) false, D st (fun x => { x with issued := true }) (2^48) true, D st (fun x => { x with mis := true }) (2^49*9) false, D st (fun x => { x with issued := true, w1 := x.w1 + 2^59 }) (2^48) false, D st (fun x => { x with w1 := x.w1 + 2^56 }) (2^49*9) false, D st (fun x => { x with w1 := x.w1 + 2^57 }) (2^49*9) false, D st (fun x => { x with w1 := x.w1 + 3*2^56 + 2^60 }) (2^49*9) false, D st (fun x => { x with w1 := x.w1 + 2^57, dst := 0x200040 }) (2^49*9) false]

end Sample31d

namespace Sample32

/-! Sample states and operands. -/

def rc (n l : Nat) (e b p : Bool) : Reaction := ⟨n,l,e,b,p,99⟩

def rcs : List Reaction := [rc 103 0 false false false, rc 103 1 false false true, rc 32 2 true true false, rc 103 3 false false true, rc 108 3 false false false, rc 103 4 true false true, rc 32 4 false false false]

def xs_Reaction : List (Reaction) := rcs ++ [⟨3,1,false,false,false,0⟩,⟨3,1,false,false,true,0⟩]

def F (f : FltState → FltState) (s : State) : State := { s with flt := f { s.flt with faultLow := false, holding := false } }

def lv (n l : Nat) (s : State) : State := s.wr (Reg.FLT_SRC.LEVEL n) l

def states : List State := [State.reset, R0, F id R0] ++ [0,1,2,3,4].flatMap (fun l => [F (fun f => { f with arriving := [103] }) (lv 103 l R0), F (fun f => { f with arriving := [3,5], applied := [(110, 1)] }) (lv 3 l R0), F (fun f => { f with arriving := [17], applied := [(105,1)], faultLow := true }) (lv 17 l R0)]) ++ [F (fun f => { f with arriving := [110, 105] }) (lv 110 1 (lv 105 1 R0)), F (fun f => { f with arriving := [103] }) (R0.put (Reg.FLT_SRC.RAILBAD 103) true), F (fun f => { f with stuckLow := true }) (R0.wr (Reg.FLT_PEND.PEND 0) 0x80000003), (F id (R0.wr (Reg.FLT_PEND.PEND 3) 0x80000003)).wr Reg.FLT_WDT.WDT_MS 5] ++ rcs.flatMap (fun r => [F (fun f => { f with reacting := [r] :: [] }) R0,  F (fun f => { f with reacting := [r, rc 105 4 false false false] :: [[r]] }) R0])

def xs_List_List_Reaction : List (List (List Reaction)) := [[]] ++ rcs.map fun r => [[r]]

def xs_List_Nat : List (List Nat) := [[],[5]]

end Sample32

namespace Sample32c

/-! Sample states and operands. -/

def xs_List_BitVec_12 : List (List (BitVec 12)) := [[1,2,3,4,5,6]]

def F (f : FltState → FltState) (s : State) : State := { s with flt := f { s.flt with faultLow := false, holding := false } }

def tst (b : BitVec 2) (s : State) : State := { s with boot := { s.boot with straps := { s.boot.straps with test := b } } }

def aud (tail head : Nat) (ov rep : Bool) (l : List Nat) : State := F (fun f => { f with auditList := l, auditCopy := [(0x14, 7)] }) (((((R0.put Reg.FLT_AUD.EN true).put Reg.FLT_AUD.REPAIR rep).put Reg.FLT_AUD_JPTR.OVF ov).wr Reg.FLT_AUD_JPTR.TAIL tail).wr Reg.FLT_AUD_JPTR.HEAD head)

def states : List State := [State.reset, R0.put (Reg.FLT_RAIL_INFO.VALID) true, tst 2 (F (fun f => { f with unlock := 1, unlockStart := 100 }) R0), tst 2 (F (fun f => { f with unlock := 2, unlockStart := 100 }) R0), F (fun f => { f with unlock := 2, unlockStart := 100 }) R0, R0.put Reg.FLT_TEST.TESTMODE true, (R0.put (Reg.PWR_RAIL_STATUS.WARN 5) true).wr (Reg.PWR_RAIL_DIP.MINV 5) 800, R0.put Reg.PWR_TEMP.WARN true, aud 3 5 true false [], aud 3 3 false true [0x14], aud 3 3 false false [0x14], aud 3 3 false false [], aud 3 3 false true [0x18] ]

end Sample32c

namespace Sample33

/-! Sample states and operands. -/

def xs_Otp : List (Otp) := [{}, { requireSig := true, vendor := 0x1234, pcieMode := 1 }]

def xs_Straps : List (Straps) := [{}, { bootSel := 1, side := true, test := 2 }, { test := 1, bad := true }]

def St (st step : Nat) (f : State → State := id) : State := f (((R0.wr Reg.CHIP_STATE.STATE st).wr Reg.CHIP_STATE.STEP step))

def B (f : BootState → BootState) (s : State) : State := { s with boot := f s.boot }

def states : List State := [State.reset, R0] ++ ((List.range 10).flatMap fun k => [St 2 (k+1), St 2 (k+1) (fun s => (s.put Reg.CHIP_STATE.WARM true).put Reg.CLK_STATUS.ROOT_LOCK true |>.put Reg.CLK_STATUS.XO_OK true), St 2 (k+1) (fun s => B (fun b => { b with tries := 2, source := 1, retries := 3 }) (s.put (Reg.PWR_RAIL_STATUS.WARN 2) true)), St 2 (k+1) (fun s => B (fun b => { b with retries := 3 }) ((s.wr Reg.REF_STATUS.DPLL 4).wr Reg.BOOT_STATUS.SEL 2))]) ++ [St 3 8, St 4 6, St 6 7, (R0.put Reg.CHIP_CTRL.COILCLR true), R0.store 0x10000000 4 0x12345678]

end Sample33

namespace Sample34a

/-! Sample states and operands. -/

def normP (t : State) : State := { t with flt := { t.flt with arriving := [] }, pel := { t.pel with sent := [], sources := [], floors := [] } }

def kk : Nat := 0x1234567

def mk (op seq id : Nat) (body : List Byte) (k := kk) : List Byte :=
  let l := leBytes 2 0x4C50 ++ leBytes 1 1 ++ leBytes 1 op ++ leBytes 4 seq ++ leBytes 2 body.length ++ leBytes 1 id ++ leBytes 1 0 ++ [0,0,0,0] ++ body
  l ++ pelMac k l

def path0 : List Byte := [1, 0] ++ leBytes 2 5 ++ List.replicate 30 0xFF

def bRead : List Byte := leBytes 4 0x40000014 ++ leBytes 2 1 ++ [0,0]

def bWrite (a v : Nat) : List Byte := leBytes 4 a ++ leBytes 2 1 ++ [0,0] ++ leBytes 4 v

def bParam (n : Nat) (v : List Nat) : List Byte := path0 ++ [3, BitVec.ofNat 8 n, 0, 0] ++ v.flatMap (leBytes 4)

def bSplice : List Byte := leBytes 4 8 ++ leBytes 4 0 ++ leBytes 4 0 ++ leBytes 4 0 ++ leBytes 4 0 ++ leBytes 2 1 ++ [0,0] ++ leBytes 4 5 ++ leBytes 4 3

def bEvent (k n src : Nat) : List Byte := [BitVec.ofNat 8 k, BitVec.ofNat 8 n, BitVec.ofNat 8 src, 0] ++ leBytes 4 900 ++ leBytes 4 0 ++ leBytes 4 0

def bEv3 (b : Byte) : List Byte := [3, 0] ++ List.replicate 13 0 ++ [b]

def bMeter (e l : Nat) : List Byte := leBytes 2 1 ++ leBytes 2 e ++ leBytes 2 l ++ path0

def bBegin (sl n : Nat) : List Byte := [0, BitVec.ofNat 8 sl] ++ leBytes 4 n

def bData (o : Nat) (l : List Byte) : List Byte := [1] ++ leBytes 4 o ++ l

def bodies : List (Nat × List Byte) := [(1, bRead), (1, []), (1, leBytes 4 0x40000014 ++ [0,0,0,0]), (2, bWrite 0x40000014 7), (2, bWrite 0x400A0020 5), (2, bWrite 0x40000000 5), (3, bParam 1 [7]), (3, bParam 1 [70000]), (3, bParam 2 [1,2]), (4, bSplice), (4, []), (5, bEvent 0 3 0), (5, bEvent 1 0 1), (5, bEvent 2 1 1), (5, bEvent 2 1 0), (5, bEv3 0), (5, bEv3 1), (6, bMeter 48 5), (6, bMeter 47 5), (7, []), (7, [1]), (8, bBegin 1 256), (8, bBegin 0 256), (8, bData 0 [1,2,3]), (8, bData 5 [1]), (8, [2]), (8, [3]), (8, [4]), (8, []), (0, []), (9, [1]), (255, [])]

def peerA : PelPeer := ⟨5, 77, 0⟩

def peerB : PelPeer := ⟨6, 77, 0⟩

def xs_PelRequest : List (PelRequest) := [⟨peerA,0,[]⟩]

def xs_List_Byte : List (List Byte) := bodies.map (fun b => mk b.1 9 0 b.2) ++ [mk 1 9 1 bRead 8, mk 1 9 1 bRead 9, mk 1 8 0 bRead, mk 1 7 0 bRead, (mk 1 9 0 bRead).set 3 7]

def xs_PelSource : List (PelSource) := [⟨peerA, 9, [1,2]⟩, ⟨peerA, 7, [1,2]⟩, ⟨peerA, 8, [3]⟩]

def xs_PelPeer : List (PelPeer) := [peerA, peerB]

def kn : Knot := { kid := 9, parent := 1, ordinal := 5, depth := 1, kind := 0, firstChild := 0, nchild := 0, engine := 0, lib := 9, params := [{ number := 3, ty := 0, words := 1, targets := [(0, 5), (3, 9)], min := 0, max := 100 }] }

def k0 : Knot := { kid := 1, parent := 0, ordinal := 0, depth := 0, kind := 2, firstChild := 0, nchild := 0, engine := 0 }

def PS (f : PelState → PelState) (s : State := R0) : State := { s with pel := f s.pel, boot := { s.boot with otp := { s.boot.otp with pelKey := kk }, keys := [(1, 8)], flashSize := 16384, flash := [(8192, 5), (9000, 6), (13000, 7)] }, lp := { s.lp with plan0 := { knots := [k0, kn], engines := [(0, {}), (3, {})] } }, flt := { s.flt with faultLow := false }, tick := 100 }

def mts (n : Nat) : List PelMeter := (List.range n).map fun i => ⟨⟨BitVec.ofNat 32 (i + 100), 77, 0⟩, 48, 5, [path0], 99, 4⟩

def up (next : Nat) (e : Bool) (h : List Byte) : PelUpdate := { slot := 1, len := 300, next := next, erasing := e, head := h }

def states : List State := [State.reset, PS id, PS id (R0.wr Reg.CHIP_STATE.STATE 6), PS id (R0.wr Reg.CHIP_STATE.STATE 2), PS id (R0.wr Reg.TTH_STATUS.STATE 3), PS id ((R0.wr Reg.TTH_STATUS.STATE 1).wr Reg.TTH_CTRL.MIRROR 32),
  PS (fun p => { p with sources := [⟨peerA, 8, [1,2]⟩], splice := some peerA, meters := mts 1 }), PS (fun p => { p with sources := [⟨peerA, 9, [1,2]⟩], splice := some peerB, meters := mts 16 }),
  PS (fun p => { p with floors := [(0, 8), (1, 9)], meters := mts 3 ++ [⟨peerA, 48, 5, [path0], 101, 4⟩] }), PS id (R0.put Reg.ENG_PCM_GO.GO true),
  PS (fun p => { p with update := some (up 0 true []) }), PS (fun p => { p with update := some (up 0 false []) }), PS (fun p => { p with update := some (up 5 false [1,2,3,4,5]) }), PS (fun p => { p with update := some (up 300 false (List.replicate 300 0)) }), PS (fun p => { p with update := some { slot := 1, len := 4100, next := 4094, erasing := false, head := List.replicate 4094 0 } }), PS (fun p => { p with update := some { slot := 1, len := 4100, next := 4097, erasing := false, head := List.replicate 4096 0 } })]

def xs_PelMeter : List (PelMeter) := mts 1

def xs_PelUpdate : List (PelUpdate) := [up 0 true [], up 0 false [], up 5 false [1,2,3,4,5], up 300 false (List.replicate 300 0), { slot := 1, len := 4100, next := 4094, erasing := false, head := List.replicate 4094 0 }, { slot := 1, len := 4100, next := 4097, erasing := false, head := List.replicate 4096 0 }]

def xs_Knot : List (Knot) := [kn, k0]

def xs_ParamRec : List (ParamRec) := kn.params

def allSub : List (Nat × (State → Out)) := []

def opOf : List (Nat × PelOp × (List Byte → State → Out) × (List Byte → Bool)) :=
  [(1, pelRead, execPelondRead 5 77, fun l => field l 3 1 = 1), (2, pelWrite, execPelondWrite 5 77, fun l => field l 3 1 = 2), (3, pelParam, execPelondParam 5 77, fun l => field l 3 1 = 3), (4, pelSplice, execPelondSplice 5 77, fun l => field l 3 1 = 4), (5, pelEvent, execPelondEvent 5 77, fun l => field l 3 1 = 5), (6, pelMeter, execPelondMeter 5 77, fun l => field l 3 1 = 6), (7, pelQuery, execPelondQuery 5 77, fun l => field l 3 1 = 7)]

end Sample34a

namespace Sample34b

/-! Sample states and operands. -/

def normP (t : State) : State := { t with flt := { t.flt with arriving := [] }, pel := { t.pel with sent := [], sources := [], floors := [] } }

def kk : Nat := 0x1234567

def mk (op seq id : Nat) (body : List Byte) (k := kk) : List Byte :=
  let l := leBytes 2 0x4C50 ++ leBytes 1 1 ++ leBytes 1 op ++ leBytes 4 seq ++ leBytes 2 body.length ++ leBytes 1 id ++ leBytes 1 0 ++ [0,0,0,0] ++ body
  l ++ pelMac k l

def path0 : List Byte := [1, 0] ++ leBytes 2 5 ++ List.replicate 30 0xFF

def bRead : List Byte := leBytes 4 0x40000014 ++ leBytes 2 1 ++ [0,0]

def bWrite (a v : Nat) : List Byte := leBytes 4 a ++ leBytes 2 1 ++ [0,0] ++ leBytes 4 v

def bParam (n : Nat) (v : List Nat) : List Byte := path0 ++ [3, BitVec.ofNat 8 n, 0, 0] ++ v.flatMap (leBytes 4)

def bSplice : List Byte := leBytes 4 8 ++ leBytes 4 0 ++ leBytes 4 0 ++ leBytes 4 0 ++ leBytes 4 0 ++ leBytes 2 1 ++ [0,0] ++ leBytes 4 5 ++ leBytes 4 3

def bEvent (k n src : Nat) : List Byte := [BitVec.ofNat 8 k, BitVec.ofNat 8 n, BitVec.ofNat 8 src, 0] ++ leBytes 4 900 ++ leBytes 4 0 ++ leBytes 4 0

def bEv3 (b : Byte) : List Byte := [3, 0] ++ List.replicate 13 0 ++ [b]

def bMeter (e l : Nat) : List Byte := leBytes 2 1 ++ leBytes 2 e ++ leBytes 2 l ++ path0

def bBegin (sl n : Nat) : List Byte := [0, BitVec.ofNat 8 sl] ++ leBytes 4 n

def bData (o : Nat) (l : List Byte) : List Byte := [1] ++ leBytes 4 o ++ l

def bodies : List (Nat × List Byte) := [(1, bRead), (1, []), (1, leBytes 4 0x40000014 ++ [0,0,0,0]), (2, bWrite 0x40000014 7), (2, bWrite 0x400A0020 5), (2, bWrite 0x40000000 5), (3, bParam 1 [7]), (3, bParam 1 [70000]), (3, bParam 2 [1,2]), (4, bSplice), (4, []), (5, bEvent 0 3 0), (5, bEvent 1 0 1), (5, bEvent 2 1 1), (5, bEvent 2 1 0), (5, bEv3 0), (5, bEv3 1), (6, bMeter 48 5), (6, bMeter 47 5), (7, []), (7, [1]), (8, bBegin 1 256), (8, bBegin 0 256), (8, bData 0 [1,2,3]), (8, bData 5 [1]), (8, [2]), (8, [3]), (8, [4]), (8, []), (0, []), (9, [1]), (255, [])]

def peerA : PelPeer := ⟨5, 77, 0⟩

def peerB : PelPeer := ⟨6, 77, 0⟩

def xs_PelRequest : List (PelRequest) := bodies.map fun b => ⟨peerA, 0, b.2⟩

def xs_List_Byte : List (List Byte) := [[]]

def xs_PelSource : List (PelSource) := [⟨peerA, 9, [1,2]⟩, ⟨peerA, 7, [1,2]⟩, ⟨peerA, 8, [3]⟩]

def xs_PelPeer : List (PelPeer) := [peerA, peerB]

def kn : Knot := { kid := 9, parent := 1, ordinal := 5, depth := 1, kind := 0, firstChild := 0, nchild := 0, engine := 0, lib := 9, params := [{ number := 3, ty := 0, words := 1, targets := [(0, 5), (3, 9)], min := 0, max := 100 }] }

def k0 : Knot := { kid := 1, parent := 0, ordinal := 0, depth := 0, kind := 2, firstChild := 0, nchild := 0, engine := 0 }

def PS (f : PelState → PelState) (s : State := R0) : State := { s with pel := f s.pel, boot := { s.boot with otp := { s.boot.otp with pelKey := kk }, keys := [(1, 8)], flashSize := 16384, flash := [(8192, 5), (9000, 6), (13000, 7)] }, lp := { s.lp with plan0 := { knots := [k0, kn], engines := [(0, {}), (3, {})] } }, flt := { s.flt with faultLow := false }, tick := 100 }

def mts (n : Nat) : List PelMeter := (List.range n).map fun i => ⟨⟨BitVec.ofNat 32 (i + 100), 77, 0⟩, 48, 5, [path0], 99, 4⟩

def up (next : Nat) (e : Bool) (h : List Byte) : PelUpdate := { slot := 1, len := 300, next := next, erasing := e, head := h }

def states : List State := [State.reset, PS id, PS id (R0.wr Reg.CHIP_STATE.STATE 6), PS id (R0.wr Reg.CHIP_STATE.STATE 2), PS id (R0.wr Reg.TTH_STATUS.STATE 3), PS id ((R0.wr Reg.TTH_STATUS.STATE 1).wr Reg.TTH_CTRL.MIRROR 32),
  PS (fun p => { p with sources := [⟨peerA, 8, [1,2]⟩], splice := some peerA, meters := mts 1 }), PS (fun p => { p with sources := [⟨peerA, 9, [1,2]⟩], splice := some peerB, meters := mts 16 }),
  PS (fun p => { p with floors := [(0, 8), (1, 9)], meters := mts 3 ++ [⟨peerA, 48, 5, [path0], 101, 4⟩] }), PS id (R0.put Reg.ENG_PCM_GO.GO true),
  PS (fun p => { p with update := some (up 0 true []) }), PS (fun p => { p with update := some (up 0 false []) }), PS (fun p => { p with update := some (up 5 false [1,2,3,4,5]) }), PS (fun p => { p with update := some (up 300 false (List.replicate 300 0)) }), PS (fun p => { p with update := some { slot := 1, len := 4100, next := 4094, erasing := false, head := List.replicate 4094 0 } }), PS (fun p => { p with update := some { slot := 1, len := 4100, next := 4097, erasing := false, head := List.replicate 4096 0 } })]

def xs_PelMeter : List (PelMeter) := mts 1

def xs_PelUpdate : List (PelUpdate) := [up 0 true [], up 0 false [], up 5 false [1,2,3,4,5], up 300 false (List.replicate 300 0), { slot := 1, len := 4100, next := 4094, erasing := false, head := List.replicate 4094 0 }, { slot := 1, len := 4100, next := 4097, erasing := false, head := List.replicate 4096 0 }]

def xs_Knot : List (Knot) := [kn, k0]

def xs_ParamRec : List (ParamRec) := kn.params

def allSub : List (Nat × (State → Out)) := []

def opOf : List (Nat × PelOp × (List Byte → State → Out) × (List Byte → Bool)) :=
  [(1, pelRead, execPelondRead 5 77, fun l => field l 3 1 = 1), (2, pelWrite, execPelondWrite 5 77, fun l => field l 3 1 = 2), (3, pelParam, execPelondParam 5 77, fun l => field l 3 1 = 3), (4, pelSplice, execPelondSplice 5 77, fun l => field l 3 1 = 4), (5, pelEvent, execPelondEvent 5 77, fun l => field l 3 1 = 5), (6, pelMeter, execPelondMeter 5 77, fun l => field l 3 1 = 6), (7, pelQuery, execPelondQuery 5 77, fun l => field l 3 1 = 7)]

end Sample34b

namespace Sample35

/-! Sample states and operands. -/

def xs_List_Byte : List (List Byte) := [[], [1], [1,2], [1,2,3,4], [1,2,3,4,5], List.replicate 256 7]

def F (f : FabState → FabState) (s : State) : State := { s with fab := f s.fab }

def rq (m : Nat) (w : Bool) (a n : Nat) (pt : Nat) (lk ul : Bool) : FabReq := { master := m, id := 0, port := pt, write := w, addr := a, size := n, data := 0x1122334455667788, lock := lk, unlock := ul }

def L : State := ((R0.put Reg.HOST_STATUS.LINKUP true).wr Reg.HOST_WIN.SEL 0).wr Reg.HOST_STATUS.WIDTH 2

def bt (f : BootState → BootState) (s : State) : State := { s with boot := f s.boot }

def xs_BusAnswer : List (BusAnswer) := [⟨5, false, 0, 0⟩, ⟨0, true, 3, 0⟩]

def states : List State := [State.reset, R0, L, L.wr Reg.HOST_WIN.SEL 1, F (fun f => { f with answers := [(1, ⟨5, false, 0, 0⟩)] }) R0, F (fun f => { f with answers := [(1, ⟨0, true, 3, 0⟩)] }) R0,
  F (fun f => { f with waiting := [rq 3 false 0x200008 4 1 false false, rq 2 false 0x200008 4 0 false false], served := [(0, ⟨rq 3 true 0x200008 4 1 false false, 10, false⟩)], lock := some ⟨3, 0, 9⟩ }) L, R0.wr Reg.TTH_STATUS.SIDE 1, bt (fun b => { b with rst := true }) R0, bt (fun b => { b with otp := { b.otp with pcieMode := 2 } }) R0]

end Sample35

/-! ### The engine instructions (04) -/

theorem meets_iff (s : State) (e : Nat) (d : EngDecoded) : s.meets e d ↔
    (s.runs ∧ s.mayIssue e = true ∧ s.eccMark (.prog e s.liveBank (s.engine e).pc) = none ∧
    (s.engine e).decode (s.progWord e s.liveBank (s.engine e).pc) = d ∧
    (∀ c ∈ s.coil.inFlight, c.data = none → (s.engine e).cyc < c.issued + 24) ∧
    ((s.engine e).cyc % 16 ≠ e % 16 ∨ (s.engine e).lastDrain = some (s.engine e).cyc) ∧ (s.engine e).fly = []) :=
  ⟨fun h => ⟨h.runs, h.may, h.clean, h.word, h.coil, h.drained, h.fly⟩, fun ⟨a, b, c, d, e, f, g⟩ => ⟨a, b, c, d, e, f, g⟩⟩

theorem issues_iff (s : State) (e : Nat) (o : EngOp) :
    s.issues e o ↔ (s.meets e (.op o) ∧ s.quiet e ((s.engine e).cyc + 3)) :=
  ⟨fun h => ⟨h.tomeets, h.quiet⟩, fun ⟨a, b⟩ => ⟨a, b⟩⟩

/-- Engine 191 at a program address, about to issue an instruction. -/
def engAt (pc : Nat) (o : EngOp) (f : Engine → Engine := id) : State :=
  ((R0.wr (Reg.ENG_STATUS.STATE 191) 0).store (progAddr 191 0 pc) 8 (encodeEng o).toNat).setEngine 191
    (f { pc := pc, cyc := 26, issuing := true })

/-- The same at the last program address. -/
def eng (o : EngOp) (f : Engine → Engine := id) : State := engAt 4095 o f

/-- The same with a coil read whose quad reaches the engine's Y memory in this cycle. -/
def engTaken (o : EngOp) : State :=
  let s := eng o fun x => { x with cyc := 57 }
  { s with coil := { s.coil with
      inFlight := [{ engine := 191, issued := 10, quad := 5, move := .read (.mem true 7), scheduled := true, data := some 0x55 }] } }

def alu : AluArgs := ⟨15, 14, .reg 13⟩
def aluImm : AluArgs := ⟨0, 15, .imm 0x80000000⟩
def spec : AddrSpec := ⟨7, .posti, 15⟩

/-! ### The rest of the node -/

theorem pair_eta {α β : Type} {p : α × β} {a : α} (h : p.1 = a) : p = (a, p.2) := by cases h; rfl

theorem wholeFrame_of {g : Nat} {l : List Block} {f : Nat} (h1 : 9 * g + 1 ≤ l.length)
    (h2 : ((l.take (9 * g + 1)).all fun b => decide (b.1 = 0b01)) = true) (h3 : blocksCrc (l.take (9 * g + 1)) = f) :
    WholeFrame g l f :=
  ⟨h1, fun b h => by simpa using List.all_eq_true.mp h2 b h, h3⟩

theorem no_apply {o : Option (Nat × Nat)} {n : Nat} (h : o = none) (q : Nat) : o ≠ some (q, n) := by simp [h]

/-- A flash of 256 Mbit that holds a list of bytes at an address. -/
def flashed (l : List Byte) (s : State) (base : Nat := 0) : State :=
  { s with boot := { s.boot with flashSize := 33554432, flash := ((List.range l.length).map (base + ·)).zip l } }

/-- An unsigned image of three empty sections: LAYPLAN, ENGPROG and the manifest. -/
def emptyImage : List Byte :=
  leBytes 4 0x494E5244 ++ leBytes 2 1 ++ leBytes 2 256 ++ leBytes 4 0x2304 ++ leBytes 4 0 ++ leBytes 4 352 ++ leBytes 4 1 ++
  leBytes 2 3 ++ leBytes 2 0 ++ leBytes 4 256 ++ leBytes 8 0 ++
  beBytes 32 0xF4C189A2ECD9AB68DD80DC72F610C95CA883338EB97F6DB906A34C809B8C7568 ++ List.replicate 180 0 ++
  leBytes 4 0xA7638349 ++ leBytes 32 0x0D ++ leBytes 32 0x01 ++ leBytes 32 0x02

/-- The header and table of an image with a LAYPLAN of 64 bytes at offset 4096; the load of step 8 looks at the table only. -/
def planImage : List Byte :=
  emptyImage.take 16 ++ leBytes 4 4160 ++ (emptyImage.drop 20).take 268 ++ leBytes 4 1 ++ leBytes 4 4096 ++ leBytes 4 64 ++
  leBytes 20 0 ++ leBytes 32 0x02

/-- The LAYPLAN section of that image: the SHA-256 of nothing, since no byte follows the header. -/
def planHead : List Byte :=
  leBytes 32 0 ++ beBytes 32 0xE3B0C44298FC1C149AFBF4C8996FB92427AE41E4649B934CA495991B7852B855

/-- The start at a step, from slot A or B. -/
def starting (step source : Nat) (s : State) : State :=
  { (s.wr Reg.CHIP_STATE.STATE 2).wr Reg.CHIP_STATE.STEP step with boot := { s.boot with source := source } }

/-- A flash with the image that loads, and BOOT_STATUS.SEL. -/
def loadable (sel : Nat) : State :=
  { R0.wr Reg.BOOT_STATUS.SEL sel with boot := { R0.boot with
      flashSize := 33554432
      flash := (List.range 352).zip planImage ++ ((List.range 64).map (4096 + ·)).zip planHead } }

/-- A lane of the Flitex role. -/
def flx (role lock : Nat) (seq : Option Nat) (opened : Bool) (s : State := R0) : State :=
  let s := ((s.wr (Reg.LANE_CFG.ROLE 3) role).wr (Reg.FLX_CFG.RXGRP 3) 1).put (Reg.FLX_STATUS.FAR_RXLOCK 3) true
  { s with lane := [(3, { lock := lock, seq := seq, opened := opened, cs := [7] })], tick := 300 }

/-- One group and a tail, as the blocks of a frame. -/
def frameBody : List Block := groupBlocks [(7, 1)] ++ [dataBlock 1]
def frameTail : List Block := List.replicate 400 (dataBlock 0) ++ [idleBlock]

/-- A control-channel cell: flags, length and sequence number. -/
def cell (fl len seq : Nat) : List Byte :=
  sealCell ([1, BitVec.ofNat 8 fl, BitVec.ofNat 8 len, BitVec.ofNat 8 seq] ++ (List.range 58).map (BitVec.ofNat 8))

/-- The lane with its control channel enabled and a receive ring in working RAM. -/
def ccLane (tail : Nat) : State :=
  let s := (flx 2 3 none false).put (Reg.FLX_CC_CTRL.EN 3) true
  let s := ((s.wr (Reg.FLX_CC_RXRING.BASE 3) 0x100).wr (Reg.FLX_CC_CTRL.RXSIZE 3) 4).wr (Reg.FLX_CC_PTR.RXTAIL 3) tail
  (s.store 0x200100 4 0x200).store 0x200104 4 0x80000000

/-- A Pelond request from port 77 of 10.0.0.5, signed with the node's key. -/
def pelKey : Nat := 0x1234567
def pelMsg (op : Nat) (body : List Byte) : List Byte :=
  let l := leBytes 2 0x4C50 ++ leBytes 1 1 ++ leBytes 1 op ++ leBytes 4 9 ++ leBytes 2 body.length ++
    [0, 0, 0, 0, 0, 0] ++ body
  l ++ pelMac pelKey l
def peer : PelPeer := ⟨0x0A000005, 77, 0⟩
def ask (body : List Byte) : PelRequest := ⟨peer, 0, body⟩
def pel (f : PelState → PelState := id) (s : State := R0) : State :=
  { s with pel := f s.pel, boot := { s.boot with otp := { s.boot.otp with pelKey := pelKey } }
           flt := { s.flt with faultLow := false }, tick := 100 }

/-- A live plan with one knot of one parameter: number 3, one word of 0 to 100. -/
def param : ParamRec := { number := 3, ty := 0, words := 1, targets := [(0, 5)], min := 0, max := 100 }
def knot : Knot := { kid := 9, parent := 1, ordinal := 5, depth := 1, kind := 0, firstChild := 0, nchild := 0, engine := 0,
                     params := [param] }
def rootKnot : Knot := { kid := 1, parent := 0, ordinal := 0, depth := 0, kind := 2, firstChild := 0, nchild := 0, engine := 0 }
def planned (s : State) : State := { s with lp := { s.lp with plan0 := { knots := [rootKnot, knot] } } }
def paramBody (v : Nat) : List Byte := [1, 0, 5, 0] ++ List.replicate 30 0xFF ++ [3, 1, 0, 0] ++ leBytes 4 v
def refusedWrite : List Byte := leBytes 4 0x4002000C ++ [1, 0, 0, 0] ++ leBytes 4 0xFFFFFFFF
def meter : PelMeter := ⟨peer, 48, 5, [[1, 0, 5, 0] ++ List.replicate 30 0xFF], 101, 4⟩
def update (len next : Nat) (erasing : Bool) (head : List Byte) : PelUpdate :=
  { slot := 1, len := len, next := next, erasing := erasing, head := head }

/-- DMA channel 63 with a compare descriptor in hand, its source at the last word of working RAM. -/
def dmaCmp : State :=
  { (R0.wr (Reg.DMA_CH_STATUS.STATE 63) 1) with dma := [(63, { w1 := 2 ^ 57 + 3, src := 0x2FFFFC, dst := 0x200040 })] }


theorem State.rd_put_ne {q r : FieldRef} {s : State} (h : q.key ≠ r.key) (b : Bool) : (s.put r b).rd q = s.rd q :=
  State.rd_wr_ne s h _

/-- A field that no field of the plan shows reads as the memories' part of the load left it. -/
theorem bootPlan_rd {q : FieldRef} (s : State) (p : LayPlan) (ep param : List Byte)
    (h : ∀ r ∈ [Reg.ENG_LP_SPLICE.LEN, Reg.ENG_RES.BASE, Reg.ENG_RES.COUNT, Reg.TTH_CTRL.DEGRADED_EN, Reg.TTH_CTRL.RESEND,
      Reg.TTH_CTRL.TWIN_FOLLOW, Reg.TTH_CTRL.PAIR_WAIT, Reg.TTH_CTRL.MIRROR, Reg.TTH_CONV.W], q.key ≠ r.key) :
    (s.bootPlan p ep param).rd q = (s.plantPlan p ep param).rd q := by
  simp only [List.mem_cons, forall_eq_or_imp, List.not_mem_nil, false_imp_iff, implies_true, and_true] at h
  obtain ⟨h1, h2, h3, h4, h5, h6, h7, h8, h9⟩ := h
  simp only [State.bootPlan, State.showPlan]
  simp only [State.rd_wr_ne _ h9, State.rd_wr_ne _ h8, State.rd_wr_ne _ h7, State.rd_put_ne h6, State.rd_put_ne h5, State.rd_put_ne h4,
    State.rd_wr_ne _ h3, State.rd_wr_ne _ h2, State.rd_wr_ne _ h1]

/-- The start at step 8 with the image that loads. -/
def loadStart (sel : Nat) : State := starting 8 0 (loadable sel)

/-- The load before its plan. -/
def beforePlan (sel : Nat) : State :=
  (((loadStart sel).loadFirmware (loadStart sel).imageBytes).2.bootFamily (imageFamily (loadStart sel).imageBytes))

/-- The plan of that image. -/
def loadPlan : LayPlan := planOfImage planHead [] []

theorem loadSections_eq {s : State} {l x : List Byte} (hf : (s.loadFirmware l).1 = true) (h1 : sectionOf l 1 = some x)
    (h2 : (sectionOf l 2).getD [] = [])
    (h : ([0x0B, 9, 6, 7, 3, 4, 5, 0x0A, 8].map (sectionOf l)).all Option.isNone = true) (hp : planOk x [] = true) :
    s.loadSections l = (true, (((s.loadFirmware l).2.bootFamily (imageFamily l)).bootPlan (planOfImage x [] []) [] []).keepMatrix) := by
  simp only [List.map, List.all, Option.isNone_iff_eq_none, Bool.and_eq_true] at h
  obtain ⟨a1, a2, a3, a4, a6, a7, a8, a9, a10, -⟩ := h
  have e : s.loadFirmware l = (true, (s.loadFirmware l).2) := pair_eta hf
  rw [State.loadSections]
  simp only [loadParts]
  rw [e]
  simp only [State.sectionRecords, State.loadKeys, State.loadPlan, h1, h2, hp, a1, a2, a3, a4, a6, a7, a8, a9, a10,
    Option.getD_some, Option.getD_none, List.length_nil, Nat.zero_le, decide_true, Bool.and_true, if_true]

theorem keepMatrix_rd (s : State) (q : FieldRef) : s.keepMatrix.rd q = s.rd q := by
  unfold State.keepMatrix State.setPlan; split <;> rfl

/-- What the load leaves. -/
def loadEnd (sel : Nat) : State := ((beforePlan sel).bootPlan loadPlan [] []).keepMatrix

theorem loadStart_loads (sel : Nat) (h : sel = 0 ∨ sel = 1) :
    (loadStart sel).loadSections (loadStart sel).imageBytes = (true, loadEnd sel) :=
  loadSections_eq (by rcases h with rfl | rfl <;> decide +kernel) (by rcases h with rfl | rfl <;> decide +kernel)
    (by rcases h with rfl | rfl <;> decide +kernel)
    (by rcases h with rfl | rfl <;> decide +kernel) (by decide +kernel)

theorem loadEnd_rd (sel : Nat) (h : sel = 0 ∨ sel = 1) (q : FieldRef)
    (hq : q = Reg.BOOT_STATUS.SEL ∨ q = Reg.CHIP_STATE.STATE ∨ q = Reg.CHIP_STATE.WARM) :
    (loadEnd sel).rd q = (loadStart sel).rd q := by
  rw [loadEnd, keepMatrix_rd, bootPlan_rd]
  · unfold State.plantPlan State.rd
    simp only
    rw [State.loadMatrix_regs _ _ (by decide +kernel)]
    rcases h with rfl | rfl <;> rcases hq with rfl | rfl | rfl <;> decide +kernel
  · rcases hq with rfl | rfl | rfl <;> decide +kernel

/-- A lane of a role, calibrated, with signal and lock, after 31 ones. -/
def prbsLane (role : Nat) : State :=
  let s := ((R0.wr (Reg.LANE_CFG.ROLE 3) role).put (Reg.LANE_STATUS.CAL_DONE 3) true).put (Reg.LANE_STATUS.LOS 3) false
  { s.put (Reg.LANE_STATUS.LOL 3) false with lane := [(3, { prbsIn := List.replicate 31 true })] }

/-- PRBS7 after seven ones: six zeros, then a one. -/
theorem test_prbs7 : (prbsSend 0 8 []).1 = [false, false, false, false, false, false, true, false] := by decide

/-- One wrong bit of a pattern is an error three times: where it stands, and where each of the taps meets it. -/
theorem test_prbs_errors :
    (prbsCheck 0 (((prbsSend 0 20 []).1).set 4 true) (List.replicate 7 true)).1 = 3 := by decide

/-! ### 03, one SUM step and four moves -/

/-- The operands of the step, as the D quads 0 and 1. -/
def sumOperands (x : Engine) : Engine :=
  { x with d := (([0x40000000, 0x20000000, 0xC0000000, 3, 0x40000000, 0x40000000, 0x40000000, 0x40000000] : List Word).zip
      (List.range 8)).foldl (fun m p => sset {} p.2 ⟨p.1, 0⟩ m) [] }

/-- A0 as the step leaves it, and SC1 = 3. -/
def summed (x : Engine) : Engine := { x with acc := [(0, BitVec.ofNat 80 (2 ^ 59 + 3 * 2 ^ 30))], agu := [(0x21, 3)] }

/-- The state after a command, and D4 and SAT of engine 191 two cycles later. -/
def after1 (i : Instr) (s : State) : Engine :=
  match exec i s with
  | .next t => (t.settle 191 30).engine 191
  | _ => {}

theorem test_sum_step : let m : MacArgs := ⟨.sum, .set, false, 0, .quad 0, .quad 1⟩
    (after1 (.mac 191 m) (eng (.mac m) sumOperands)).accVal 0 = 2 ^ 59 + 3 * 2 ^ 30 := by decide +kernel

theorem test_four_moves : ([(⟨4, 0, 0, 0, 0, false⟩, 0x10000002, false), (⟨4, 0, 0, 0, 1, false⟩, 0x10000001, false),
      (⟨4, 0, 0, 1, 0, false⟩, 0x10000000, false), (⟨4, 0, 1, 0, 0, false⟩, 0x7FFFFFFF, true)] : List (MvaArgs × Word × Bool)).all
      (fun p => let x := after1 (.mva 191 p.1) (eng (.mva p.1) summed)
        decide (x.dreg 4 = ⟨p.2.1, 0⟩) && decide (x.flags.sat = p.2.2)) = true := by decide +kernel

theorem test_exponent : ((after1 (.expa 191 0 7) (eng (.expa 0 7) summed)).dreg 7).val = 2 := by decide +kernel

/-- The hypotheses of FrontCommandIsPerformed are met. -/
theorem witness_FrontCommandIsPerformed :
   (let c := (.xoRecovery : Instr)
    let l := ([.xoRecovery] : List Instr)
    let s := ({ R0 with pending := [.xoRecovery, .xoRecovery] } : State)
    s.pending = c :: l) ∧
   (let s := (R0 : State)
    s.pending = []) := by
  refine ⟨?_, ?_⟩ <;>
  decide +kernel

/-- The hypotheses of EngineWordsDecodeAsEncoded are met. -/
theorem witness_EngineWordsDecodeAsEncoded :
   (∀ o ∈ [EngOp.mac ⟨.cplx, .sub, true, 3, .mem ⟨0, .postm, 7⟩, .mem ⟨7, .index, 15⟩⟩, .adds
    aluImm, .setr 0x26 0xFFFFFFFF, .bcc 12 0xFFF, .loop 0xFFF 0xFFFF, .cwrm 63 (.spec spec) true
    0xFFFF, .swr 15 (.imm 0x1FFF)], o.wf = true) := by
  decide +kernel

/-- The hypotheses of AluResultsAreTheTables are met. -/
theorem witness_AluResultsAreTheTables :
   (∀ f ∈ [EngOp.add, .sub, .and, .or, .xor, .lsh, .min, .max, .mov], ∀ a ∈ [alu, aluImm], (eng (f
    a)).issues 191 (f a)) := by
  (first | decide +kernel | (simp only [State.runs, State.quiet, meets_iff, issues_iff]; decide +kernel))

/-- The hypotheses of AluSaturatesAndFlags are met. -/
theorem witness_AluSaturatesAndFlags :
   (∀ f ∈ [EngOp.adds, .subs, .ash, .abs, .neg], ∀ a ∈ [alu, aluImm], (eng (f a)).issues 191 (f a)) := by
  (first | decide +kernel | (simp only [State.runs, State.quiet, meets_iff, issues_iff]; decide +kernel))

/-- The hypotheses of CompareAndExponent are met. -/
theorem witness_CompareAndExponent :
   (∀ f ∈ [EngOp.cmp, .expd], ∀ a ∈ [alu, aluImm], (eng (f a)).issues 191 (f a)) := by
  (first | decide +kernel | (simp only [State.runs, State.quiet, meets_iff, issues_iff]; decide +kernel))

/-- The hypotheses of AccumulatorUpdates are met. -/
theorem witness_AccumulatorUpdates :
   (∀ o ∈ [EngOp.aclr 3, .acpy 3 0, .aadd 3 3, .asub 3 0, .aneg 3, .aabs 3, .norm 3 15, .ashi 3
    0x80, .dadd 3 15 3], (eng o).issues 191 o) := by
  (first | decide +kernel | (simp only [State.runs, State.quiet, meets_iff, issues_iff]; decide +kernel))

/-- The hypotheses of AccumulatorMoveFromD are met. -/
theorem witness_AccumulatorMoveFromD :
   ((eng (.dtoa 3 15 3)).issues 191 (.dtoa 3 15 3)) := by
  (first | decide +kernel | (simp only [State.runs, State.quiet, meets_iff, issues_iff]; decide +kernel))

/-- The hypotheses of AccumulatorTestAndExponent are met. -/
theorem witness_AccumulatorTestAndExponent :
   (∀ o ∈ [EngOp.atst 3, .expa 3 15], (eng o).issues 191 o) := by
  (first | decide +kernel | (simp only [State.runs, State.quiet, meets_iff, issues_iff]; decide +kernel))

/-- The hypotheses of MacSharesAndAccumulates are met. -/
theorem witness_MacSharesAndAccumulates :
   (let e := (191 : Fin 192)
    let a := (⟨.cplx, .sub, true, 3, .mem ⟨0, .posti, 4⟩, .mem ⟨7, .index, 15⟩⟩ : MacArgs)
    let s := (eng (.mac ⟨.cplx, .sub, true, 3, .mem ⟨0, .posti, 4⟩, .mem ⟨7, .index, 15⟩⟩) : State)
    s.issues e (.mac a) ∧ (EngOp.mac a).wf = true ∧ Readable s e false (busAddrs (s.engine e) a.x) ∧
    Readable s e true (busAddrs (s.engine e) a.y)) := by
  (first | decide +kernel | (simp only [State.runs, Readable, State.quiet, meets_iff, issues_iff]; decide +kernel))

/-- The hypotheses of MovesRoundAndSaturate are met. -/
theorem witness_MovesRoundAndSaturate :
   ((eng (.mva ⟨15, 3, 3, 3, 3, true⟩)).issues 191 (.mva ⟨15, 3, 3, 3, 3, true⟩) ∧ (eng (.mvaq ⟨3,
    3, 3, 3, true⟩)).issues 191 (.mvaq ⟨3, 3, 3, 3, true⟩)) := by
  (first | decide +kernel | (simp only [State.runs, State.quiet, meets_iff, issues_iff]; decide +kernel))

/-- The hypotheses of LoadsReadTheAddressedWords are met. -/
theorem witness_LoadsReadTheAddressedWords :
   (let e := (191 : Fin 192)
    let d := (15 : BitVec 4)
    let a := (spec : AddrSpec)
    let s := (eng (.ldw 15 spec) : State)
    s.issues e (.ldw d a) ∧ Clean s e (inY a) (wordAt s e a)) ∧
   (let e := (191 : Fin 192)
    let q := (3 : BitVec 2)
    let a := (spec : AddrSpec)
    let s := (eng (.ldq 3 spec) : State)
    s.issues e (.ldq q a) ∧ Clean s e (inY a) (quadAt s e a)) ∧
   (let e := (191 : Fin 192)
    let d := (15 : BitVec 4)
    let ms := (true : Bool)
    let ad := (0xBFFF : BitVec 16)
    let s := (eng (.ldwa 15 true 0xBFFF) : State)
    s.issues e (.ldwa d ms ad) ∧ Clean s e ms [ad.toNat]) ∧
   (let e := (191 : Fin 192)
    let q := (3 : BitVec 2)
    let ms := (true : Bool)
    let ad := (0xBFFD : BitVec 16)
    let s := (eng (.ldqa 3 true 0xBFFD) : State)
    s.issues e (.ldqa q ms ad) ∧ Clean s e ms (quadFrom ad)) := by
  refine ⟨?_, ?_, ?_, ?_⟩ <;>
  (first | decide +kernel | (simp only [State.runs, Clean, State.quiet, meets_iff, issues_iff]; decide +kernel))

/-- The hypotheses of StoresWriteTheAddressedWords are met. -/
theorem witness_StoresWriteTheAddressedWords :
   (∀ o ∈ [EngOp.stw 15 spec, .stq 3 spec, .stwa 15 true 0xBFFF, .stqa 3 true 0xBFFD], (eng
    o).issues 191 o) ∧
   (∀ o ∈ [EngOp.stw 15 spec, .stq 3 spec, .stwa 15 true 0xBFFF, .stqa 3 true 0xBFFD], (engTaken
    o).meets 191 (.op o) ∧ (engTaken o).portTaken 191 true = true) := by
  refine ⟨?_, ?_⟩ <;>
  (first | decide +kernel | (simp only [State.runs, State.quiet, meets_iff, issues_iff]; decide +kernel))

/-- The hypotheses of AddressRegistersAreReadAndWritten are met. -/
theorem witness_AddressRegistersAreReadAndWritten :
   (∀ o ∈ [EngOp.setr 0x26 0xFFFFFFFF, .movr 0x25 15, .getr 0x29 15, .modp spec], (eng o).issues 191
    o) := by
  (first | decide +kernel | (simp only [State.runs, State.quiet, meets_iff, issues_iff]; decide +kernel))

/-- The hypotheses of StrandInstructions are met. -/
theorem witness_StrandInstructions :
   (let e := (191 : Fin 192)
    let d := (15 : BitVec 4)
    let src := (.imm 8191 : SlotSrc)
    let s := (eng (.srd 15 (.imm 8191)) : State)
    s.issues e (.srd d src) ∧ s.eccMark (.strand (slotNamed s e src)) = none) ∧
   (let e := (191 : Fin 192)
    let d := (15 : BitVec 4)
    let src := (.reg 0 : SlotSrc)
    let s := (eng (.swr 15 (.reg 0)) fun x => { x with queue := [⟨1, 2, 3⟩, ⟨4, 5, 6⟩, ⟨7, 8, 9⟩] } : State)
    s.issues e (.swr d src) ∧ (s.engine e).queue.length < 4) ∧
   (let e := (191 : Fin 192)
    let d := (15 : BitVec 4)
    let src := (.imm 8191 : SlotSrc)
    let s := (eng (.swr 15 (.imm 8191)) fun x => { x with queue := [⟨1, 2, 3⟩, ⟨4, 5, 6⟩, ⟨7, 8, 9⟩, ⟨7, 8, 9⟩] } : State)
    s.issues e (.swr d src) ∧ 4 ≤ (s.engine e).queue.length) := by
  refine ⟨?_, ?_, ?_⟩ <;>
  (first | decide +kernel | (simp only [State.runs, State.quiet, meets_iff, issues_iff]; decide +kernel))

/-- The hypotheses of CoilInstructionsIssueAccesses are met. -/
theorem witness_CoilInstructionsIssueAccesses :
   (∀ o ∈ [EngOp.crdd 63 (.imm 0xFFFF) 3, .crdm 63 (.spec spec) true 0xBFFC, .cwrd 63 (.spec spec)
    3], (eng o).issues 191 o) ∧
   (let e := (191 : Fin 192)
    let csd := (63 : BitVec 6)
    let i := (.spec spec : CoilIdx)
    let ms := (true : Bool)
    let ad := (0xBFFC : BitVec 16)
    let s := (eng (.cwrm 63 (.spec spec) true 0xBFFC) : State)
    s.issues e (.cwrm csd i ms ad) ∧ Clean s e ms (quadFrom ad)) := by
  refine ⟨?_, ?_⟩ <;>
  (first | decide +kernel | (simp only [State.runs, Clean, State.quiet, meets_iff, issues_iff]; decide +kernel))

/-- The hypotheses of TagInstructions are met. -/
theorem witness_TagInstructions :
   (∀ o ∈ [EngOp.tclip 15 3, .tor 15 0 15, .tset 15 0 15, .tcpy 15 15, .ttst 15 15, .fclr 3], (eng
    o).issues 191 o) := by
  (first | decide +kernel | (simp only [State.runs, State.quiet, meets_iff, issues_iff]; decide +kernel))

/-- The hypotheses of ProgramFlow are met. -/
theorem witness_ProgramFlow :
   ((∀ o ∈ [EngOp.wait, .bra 0xFFF, .bcc 12 0xFFF, .nop], (eng o).issues 191 o) ∧ (∀ o ∈ [EngOp.loop
    0xFFF 0, .loopr 0xFFF 15], (engAt 0 o).issues 191 o) ∧ (engAt 4 .brk fun x => { x with loops :=
    [⟨2, 9, 5⟩] }).issues 191 .brk) := by
  (first | decide +kernel | (simp only [State.runs, State.quiet, meets_iff, issues_iff]; decide +kernel))

/-- The hypotheses of EngineEvents are met. -/
theorem witness_EngineEvents :
   (let e := (0 : Fin 192)
    let s := (Sample15.states.getD 3 State.reset : State)
    let c := 1
    s.meets e (.illegal c) ∧ s.quiet e ((s.engine e).cyc + 3) ∧ (s.engine e).loops = [] ∧ (s.engine
    e).slots = none) ∧
   (let e := (0 : Fin 192)
    let s := (Sample15.states.getD 6 State.reset : State)
    let l := (⟨2, 9, 1⟩ : LoopLevel)
    let r := ([] : List LoopLevel)
    s.issues e .nop ∧ (s.engine e).slots = none ∧ (s.engine e).loops = l :: r ∧ l.last = (s.engine
    e).pc ∧ l.remaining ≤ 1 ∧ (∀ m ∈ r, m.last ≠ (s.engine e).pc)) ∧
   (let e := (0 : Fin 192)
    let s := (Sample15.states.getD 10 State.reset)
    s.runs ∧ s.engRuns e = true ∧ (s.engine e).issuing = true ∧ windowStart s.mult ≤ (s.engine
    e).cyc) ∧
   (let e := (0 : Fin 192)
    let s := (Sample15.states.getD 11 State.reset)
    let w := ({ slot := 7, sample := 0x00000009#32, tag := 0x1#4 } : StrandWrite)
    let r := ([{ slot := 8, sample := 0x00000001#32, tag := 0x0#4 }] : List (StrandWrite))
    s.runs ∧ s.inWindow = false ∧ (s.engine e).queue = w :: r ∧ (s.engine e).cyc % 16 = e % 16 ∧
    (s.engine e).lastDrain ≠ some (s.engine e).cyc ∧ s.lp.ramps = [] ∧ s.bypassKnots w.slot = []) ∧
   (let e := (0 : Fin 192)
    let s := (Sample15.states.getD 13 State.reset)
    let c := (pick Sample15.xs_CoilAccess 0)
    let q := (4660#128 : BitVec 128)
    s.runs ∧ s.nextBank e = some c ∧ Earliest s c ∧ c.move = .write q) ∧
   (let e := (0 : Fin 192)
    let s := (Sample15.states.getD 15 State.reset)
    let c := (pick Sample15.xs_CoilAccess 2)
    let d := (Sys2Proof.Machine.CoilDest.dquad 1 : CoilDest)
    s.runs ∧ s.nextBank e = some c ∧ Earliest s c ∧ c.move = .read d ∧ s.eccMark (.coil c.quad) =
    none) ∧
   (let e := (0 : Fin 192)
    let s := (Sample15.states.getD 17 State.reset)
    let c := (pick Sample15.xs_CoilAccess 4)
    let q := (1 : Nat)
    let v := (85#128 : BitVec 128)
    s.runs ∧ s.nextDelivery e = some c ∧ (s.engine e).fly = [] ∧ ((∀ a ∈ s.coil.inFlight, a.engine =
    e → a.issued ≤ c.issued → a = c)) ∧ s.coil.inFlight.Nodup ∧ c.move = .read (.dquad q) ∧ c.data =
    some v) := by
  refine ⟨?_, ?_, ?_, ?_, ?_, ?_, ?_⟩ <;>
  (first | decide +kernel | (simp only [State.runs, Earliest, State.quiet, meets_iff, issues_iff]; decide +kernel))

/-- The hypotheses of ParameterPagesAndWindows are met. -/
theorem witness_ParameterPagesAndWindows :
   (let s := (Sample15b.states.getD 0 State.reset)
    s.alone) ∧
   (let v := (1#32 : Word)
    let s := (Sample15b.states.getD 0 State.reset)
    s.alone ∧ v.getLsbD 0 = true) ∧
   (let e := (0 : Fin 192)
    let s := (Sample15b.states.getD 4 State.reset)
    s.runs ∧ s.copyArmed e = true ∧ s.inWindow = false ∧ (s.engine e).issuing = false) ∧
   (let v := (1#32 : Word)
    let s := (Sample15b.states.getD 0 State.reset)
    s.alone ∧ v.getLsbD 0 = true ∧ s.on Reg.ENG_PCM_GO.GO = false) ∧
   (let e := (0 : Fin 192)
    let v := (2#32 : Word)
    let s := (Sample15b.states.getD 2 State.reset)
    s.alone ∧ v.getLsbD 1 = true ∧ s.rd (Reg.ENG_STATUS.STATE e) = 0) ∧
   (let e := (0 : Fin 192)
    let s := (Sample15b.states.getD 6 State.reset)
    s.runs ∧ s.rd (Reg.ENG_STATUS.STATE e) = 1) := by
  refine ⟨?_, ?_, ?_, ?_, ?_, ?_⟩ <;>
  (first | decide +kernel | (simp only [State.alone, State.runs]; decide +kernel))

/-- The hypotheses of LayPlanLoadsAndSwitches are met (part 1). -/
theorem witness_LayPlanLoadsAndSwitches_1 :
   (let v := (1#32 : Word)
    let s := (Sample16.states.getD 0 State.reset)
    s.alone ∧ v.toNat % 8 = 1 ∧ v.toNat / 8 % 4 ≤ 2 ∧ s.lp.loading = false ∧ s.lp.armed = none ∧
    s.rampRuns s.tick = false) ∧
   (let plan := (pick Sample16.xs_LayPlan 1)
    let s := (Sample16.states.getD 3 State.reset)
    s.runs ∧ s.lp.loading = true ∧ s.lp.incoming = some plan) ∧
   (let v := (2#32 : Word)
    let s := (Sample16.states.getD 0 State.reset)
    s.alone ∧ v.toNat % 8 = 2 ∧ v.toNat / 8 % 4 = 0 ∧ s.lp.armed = none) ∧
   (let v := (4#32 : Word)
    let s := (Sample16.states.getD 5 State.reset)
    s.alone ∧ v.toNat % 8 = 4 ∧ v.toNat / 8 % 4 ≤ 2 ∧ s.lp.armed.isSome = true) ∧
   (let s := (Sample16.states.getD 8 State.reset)
    s.runs ∧ s.inWindow = true ∧ s.rampRuns (s.tick + 1) = true) ∧
   (let s := (Sample16.states.getD 5 State.reset)
    s.runs ∧ s.inWindow = true ∧ s.lp.armed = some (.tick (s.tick + 1))) ∧
   (let s := (Sample16.states.getD 5 State.reset)
    s.runs ∧ s.inWindow = true) ∧
   (let s := (Sample16.states.getD 9 State.reset)
    s.runs ∧ s.lp.refresh = true) := by
  refine ⟨?_, ?_, ?_, ?_, ?_, ?_, ?_, ?_⟩ <;>
  (first | decide +kernel | (simp only [State.alone, State.runs]; decide +kernel))

/-- The hypotheses of LayPlanLoadsAndSwitches are met (part 2). -/
theorem witness_LayPlanLoadsAndSwitches_2 :
   (let kid := (7 : Nat)
    let s := (Sample16.states.getD 8 State.reset)
    let x := ({ left := 1, bypassed := true } : Xfade)
    s.runs ∧ s.inWindow = true ∧ sfind kid s.lp.xfade = some x ∧ x.left ≤ 1) := by
  (first | decide +kernel | (simp only [State.runs]; decide +kernel))

/-- The hypotheses of BanksExchangeAtTheBoundary are met. -/
theorem witness_BanksExchangeAtTheBoundary :
   (let s := (Sample20.states.getD 0 State.reset)
    s.str.late = []) ∧
   (let s := (R0 : State)
    s.str.late = []) ∧
   (let s := (Sample20.states.getD 0 State.reset)
    let q := ({ addr := 0, lo := 0, width := 16, reset := 8964 } : FieldRef)
    s.str.late = [] ∧ q.key ≠ Reg.STR_STATUS.SUBST_SLOTS.key ∧ ((∀ e, e < 192 → q.key ≠
    (Reg.ENG_WAITCYC.LAST e).key ∧ q.key ≠ (Reg.ENG_WAITCYC.PEAK e).key))) := by
  refine ⟨?_, ?_, ?_⟩ <;>
  decide +kernel

/-- The hypotheses of TickBoundaryOrder are met. -/
theorem witness_TickBoundaryOrder :
   (let s := (Sample20.states.getD 1 State.reset)
    s.runs ∧ s.relockDue = false) ∧
   (let s := (Sample20.states.getD 1 State.reset)
    s.runs ∧ s.inWindow = false) ∧
   (let s := (Sample20.states.getD 6 State.reset)
    s.runs ∧ s.relockDue = true) ∧
   (let s := ({ R0 with tick := 21, ref := { R0.ref with family := some { tick := 5, phase := 2 } } } : State)
    s.runs ∧ s.relockDue = true) := by
  refine ⟨?_, ?_, ?_, ?_⟩ <;>
  (first | decide +kernel | (simp only [State.runs]; decide +kernel))

/-- The hypotheses of StrandWindowAndHold are met. -/
theorem witness_StrandWindowAndHold :
   (let n := (0 : Fin 8192)
    let s := (Sample20.states.getD 0 State.reset)
    s.held = false ∧ s.eccMark (.strand n) = none) ∧
   (let n := (5 : Fin 8192)
    let s := (Sample20.states.getD 4 State.reset)
    let m := ({ double := true, seen := false, high := false } : EccMark)
    s.held = false ∧ s.eccMark (.strand n) = some m ∧ m.double = true) ∧
   (let n := (5 : Fin 8192)
    let sample := (none : Option Word)
    let tag := ((some 0#32) : Option Word)
    let s := (Sample20.states.getD 5 State.reset)
    s.alone ∧ s.inWindow = false ∧ s.on Reg.STR_CTRL.HOSTWR_EN = true ∧ (s.slotDef n).cls = .host ∧
    ((sample.isSome = true ∨ tag.isSome = true)) ∧ n.val ∉ s.str.hostFresh ∧ s.eccMark (.strand n) =
    none) ∧
   (let n := (0 : Fin 8192)
    let sample := (none : Option Word)
    let tag := (none : Option Word)
    let s := (Sample20.states.getD 0 State.reset)
    s.alone ∧ ((s.on Reg.STR_CTRL.HOSTWR_EN = false ∨ (s.slotDef n).cls ≠ .host ∨ (sample = none ∧
    tag = none)))) ∧
   (let n := (6 : Fin 8192)
    let s := (Sample20.states.getD 3 State.reset)
    s.runs ∧ s.rd Reg.STR_CTRL.HOLDMAX < sget 0 n.val s.str.missing ∧ (s.curSlot n).written = false) := by
  refine ⟨?_, ?_, ?_, ?_, ?_⟩ <;>
  (first | decide +kernel | (simp only [State.alone, State.runs]; decide +kernel))

/-- The hypotheses of HitchChangesQueueAndCommit are met (part 1). -/
theorem witness_HitchChangesQueueAndCommit_1 :
   (let s := (Sample20.states.getD 0 State.reset)
    s.alone ∧ s.str.queue.length < 256) ∧
   (let s := (Sample20.states.getD 7 State.reset)
    s.alone ∧ 256 ≤ s.str.queue.length) ∧
   (let v := (1#32 : Word)
    let s := (Sample20.states.getD 0 State.reset)
    s.alone ∧ v.getLsbD 0 = true ∧ s.str.armed = none) ∧
   (let v := (2#32 : Word)
    let s := (Sample20.states.getD 0 State.reset)
    s.alone ∧ v.getLsbD 0 = false ∧ v.getLsbD 1 = true) ∧
   (let s := (Sample20.states.getD 8 State.reset)
    s.runs ∧ s.str.armed = some (s.tick + 1)) ∧
   (let s := (Sample20.states.getD 1 State.reset)
    s.runs) ∧
   (let prev := (0#32 : Word)
    let h := (6 : Fin 8192)
    let s := (Sample20.states.getD 12 State.reset)
    s.runs ∧ (s.hitchRun false h).waits = true ∧ ((prev.msb ≠ (s.hitchRun false h).lastIn.msb ∨
    (s.hitchRun false h).lastIn.toInt.natAbs ≤ s.rd (Reg.SAP_ZC.THR (sget {} h.val
    s.str.ingress).port) * 256))) ∧
   (let h := (6 : Fin 8192)
    let s := (Sample20.states.getD 12 State.reset)
    let dn := (true : Bool)
    let w := (7 : Nat)
    s.runs ∧ (s.hitchRun false h).mute = .waitZc dn w ∧ s.rd (Reg.SAP_ZC.TIMEOUT (sget {} h.val
    s.str.ingress).port) ≤ w + 1) := by
  refine ⟨?_, ?_, ?_, ?_, ?_, ?_, ?_, ?_⟩ <;>
  (first | decide +kernel | (simp only [State.alone, State.runs]; decide +kernel))

/-- The hypotheses of HitchChangesQueueAndCommit are met (part 2). -/
theorem witness_HitchChangesQueueAndCommit_2 :
   (let h := (0 : Fin 8192)
    let s := (Sample20.states.getD 1 State.reset)
    s.runs ∧ (s.hitchRun false h).unsettledTo ≤ s.tick + 1) := by
  (first | decide +kernel | (simp only [State.runs]; decide +kernel))

/-- The hypotheses of BraidsArmStartStopRejoin are met. -/
theorem witness_BraidsArmStartStopRejoin :
   (let b := (0 : Fin 64)
    let v := (262784#32 : Word)
    let s := (Sample20.states.getD 0 State.reset)
    s.alone ∧ Admitted (0x81000 + b.val * 0x20) v ∧ v.getLsbD 7 = true ∧ v.getLsbD 8 = false ∧
    s.braidState b = 0 ∧ (∀ m ∈ s.members b, m.2.2.iftype ≠ 5)) ∧
   (let b := (0 : Fin 64)
    let v := (262912#32 : Word)
    let s := (Sample20.states.getD 0 State.reset)
    s.alone ∧ Admitted (0x81000 + b.val * 0x20) v ∧ v.getLsbD 7 = false ∧ v.getLsbD 8 = true) ∧
   (let s := (Sample20.states.getD 1 State.reset)
    s.runs) ∧
   (let b := (0 : Fin 64)
    let s := (Sample20.states.getD 17 State.reset)
    s.runs ∧ s.braidState b = 1 ∧ (s.braid b).armed = some (.tick (s.tick + 1))) ∧
   (let b := (0 : Fin 64)
    let s := (Sample20.states.getD 18 State.reset)
    s.runs ∧ s.braidState b = 3 ∧ (s.braid b).rejoin = some (s.tick + 1)) := by
  refine ⟨?_, ?_, ?_, ?_, ?_⟩ <;>
  (first | decide +kernel | (simp only [admitted_iff, State.alone, State.runs]; decide +kernel))

/-- The hypotheses of MatrixBindingsAndLists are met. -/
theorem witness_MatrixBindingsAndLists :
   (let s := (Sample21.states.getD 0 State.reset)
    s.alone ∧ s.rowBusy (s.rd Reg.MTX_ROW_SEL.INDEX) = false) ∧
   (let s := (Sample21.states.getD 2 State.reset)
    s.alone ∧ s.rowBusy (s.rd Reg.MTX_ROW_SEL.INDEX) = true) ∧
   (let s := (Sample21.states.getD 0 State.reset)
    s.alone ∧ s.mtx.openList.length < 4096) ∧
   (let s := (Sample21.states.getD 3 State.reset)
    s.alone ∧ 4096 ≤ s.mtx.openList.length) ∧
   (let v := (2#32 : Word)
    let s := (Sample21.states.getD 0 State.reset)
    s.alone ∧ v.getLsbD 0 = false ∧ v.getLsbD 1 = true) ∧
   (let v := (1#32 : Word)
    let s := (Sample21.states.getD 46 State.reset)
    let g := (Sys2Proof.Machine.Trig.tick 2 : Trig)
    s.alone ∧ v.getLsbD 0 = true ∧ v.getLsbD 1 = false ∧ s.commitReason = 0 ∧ s.commitTrigger =
    .wait g) ∧
   (let v := (1#32 : Word)
    let s := (Sample21.states.getD 0 State.reset)
    s.alone ∧ v.getLsbD 0 = true ∧ v.getLsbD 1 = false ∧ s.commitReason ≠ 0) ∧
   (let r := (3 : Fin 2304)
    let s := (Sample21.states.getD 7 State.reset)
    let n := ({ slot := 9, valid := true, openThr := 1049, closeThr := 524, hold := 9600 } : RowSet)
    s.runs ∧ s.inWindow = true ∧ (s.row r).staged = some n) := by
  refine ⟨?_, ?_, ?_, ?_, ?_, ?_, ?_, ?_⟩ <;>
  (first | decide +kernel | (simp only [State.alone, State.runs]; decide +kernel))

/-- The hypotheses of MatrixChangesRunTheirPhases are met. -/
theorem witness_MatrixChangesRunTheirPhases :
   (let id := (15 : Fin 16)
    let s := ({ R0 with inWindow := true, tick := 40, mtx := { R0.mtx with commits := [(15, Sample21.cm1 false)] }, lp := { R0.lp with plan0 := { cols := [(3, { slot := 0, list := .patch 2 }), (7, { slot := 0, list := .mix [] })] } } } : State)
    let n := (15 : Nat)
    let k := Sample21.cm1 false
    let b := (41 : Nat)
    s.runs ∧ s.inWindow = true ∧ (s.mtx.commits.filter fun p => decide (p.1 % 16 = id.val)).map
    (·.1) = [n] ∧ sfind n s.mtx.commits = some k ∧ k.trig = .tick b ∧ s.mayStart n (s.tick + 1) k =
    true ∧ (∀ i, (s.col i).change = none ∧ (s.col i).damaged = false ∧ (s.col i).faulted = false) ∧
    (∀ i ∈ k.columns, s.planOff i = false) ∧ ((∀ e ∈ k.entries, (s.col e.column).nom = true → e.op ≠
    1))) ∧
   (let c := (3 : Fin 2304)
    let s := (Sample21.states.getD 11 State.reset)
    let h := (pick Sample21.xs_ColChange 0)
    Changing s c h ∧ h.phase = .waitZc ∧ h.cross = true) ∧
   (let c := (3 : Fin 2304)
    let s := (Sample21.states.getD 15 State.reset)
    let h := (pick Sample21.xs_ColChange 4)
    Changing s c h ∧ h.phase = .waitZc ∧ h.cross = false ∧ h.t0 + h.timeout ≤ s.tick + 1) ∧
   (let c := (3 : Fin 2304)
    let s := (Sample21.states.getD 19 State.reset)
    let h := (pick Sample21.xs_ColChange 8)
    Changing s c h ∧ h.phase = .splice ∧ h.t0 + h.len ≤ s.tick + 1) ∧
   (let c := (3 : Fin 2304)
    let s := (Sample21.states.getD 29 State.reset)
    let h := (pick Sample21.xs_ColChange 18)
    Changing s c h ∧ h.phase = .waitCut ∧ h.cross = true ∧ h.toOff = false) ∧
   (let c := (3 : Fin 2304)
    let s := (Sample21.states.getD 31 State.reset)
    let h := (pick Sample21.xs_ColChange 20)
    Changing s c h ∧ h.phase = .waitCut ∧ h.cross = false ∧ h.t0 + h.timeout ≤ s.tick + 1) ∧
   (let c := (3 : Fin 2304)
    let s := (Sample21.states.getD 37 State.reset)
    let h := (pick Sample21.xs_ColChange 26)
    Changing s c h ∧ h.phase = .dip ∧ h.t0 + 32 ≤ s.tick + 1 ∧ h.toOff = false) := by
  refine ⟨by dsimp only; exact ⟨by unfold State.runs; decide +kernel, by decide +kernel, by decide +kernel, by decide +kernel, rfl, by decide +kernel, fun _ => ⟨rfl, rfl, rfl⟩, by decide +kernel, by decide +kernel⟩, ?_, ?_, ?_, ?_, ?_, ?_⟩ <;>
  (first | decide +kernel | (simp only [State.runs, Changing]; decide +kernel))

/-- The hypotheses of NomGatesAndRamps are met. -/
theorem witness_NomGatesAndRamps :
   (let s := (Sample21.states.getD 6 State.reset)
    s.runs ∧ s.inWindow = true) := by
  (first | decide +kernel | (simp only [State.runs]; decide +kernel))

/-- The hypotheses of WhippingStages are met. -/
theorem witness_WhippingStages :
   (let v := (1#32 : Word)
    let s := (Sample22.states.getD 0 State.reset)
    s.alone ∧ v.getLsbD 0 = true) ∧
   (let s := (Sample22.states.getD 2 State.reset)
    s.runs ∧ s.inWindow = false ∧ s.on Reg.EGR_WCOMMIT.COMMIT = true) ∧
   (let s := (Sample22.states.getD 1 State.reset)
    s.runs ∧ s.inWindow = false ∧ s.on Reg.EGR_WCOMMIT.COMMIT = false) ∧
   (let i := (3 : Fin 2304)
    let s := (Sample22.states.getD 6 State.reset)
    let n := (3 : Nat)
    s.runs ∧ (s.whip i).phase = .waitZc n true) ∧
   (let i := (3 : Fin 2304)
    let s := (Sample22.states.getD 7 State.reset)
    let n := (480 : Nat)
    s.runs ∧ (s.whip i).phase = .waitZc n false ∧ (s.whip i).live.zcto ≤ n) ∧
   (let i := (3 : Fin 2304)
    let s := (Sample22.states.getD 8 State.reset)
    let n := (16 : Nat)
    s.runs ∧ (s.whip i).phase = .ramp n ∧ 16 ≤ n) ∧
   (let i := (3 : Fin 2304)
    let s := (Sample22.states.getD 10 State.reset)
    s.runs ∧ (s.whip i).live.dcEn = true ∧ max 1 (s.whip i).live.dctime ≤ (s.whip i).dcRun ∧ (s.whip
    i).dc = false) ∧
   (let m := (0 : Fin 64)
    let j := (2 : Fin 4)
    let s := (Sample22.states.getD 3 State.reset)
    s.runs ∧ (sget {} (m.val * 4 + j.val) s.egr.st).k = 15) := by
  refine ⟨?_, ?_, ?_, ?_, ?_, ?_, ?_, ?_⟩ <;>
  (first | decide +kernel | (simp only [State.alone, State.runs]; decide +kernel))

/-- The hypotheses of WhippingArithmetic are met. -/
theorem witness_WhippingArithmetic :
   (let i := (3 : Nat)
    let x := (pick Sample22.xs_Whip 1)
    let s := (Sample22.states.getD 4 State.reset)
    s.whip i = x ∧ x.phase = .rest ∧ x.live.gain = x.curGain ∧ x.live.mute = x.curMute ∧
    x.live.limEn = false ∧ x.live.dcEn = false ∧ x.dcForced = .full ∧ x.dcWant = false ∧ s.egr.out =
    .full ∧ x.curMute = false) ∧
   (let i := (3 : Nat)
    let x := (pick Sample22.xs_Whip 2)
    let s := (Sample22.states.getD 5 State.reset)
    s.whip i = x ∧ x.phase = .rest ∧ x.live.gain = x.curGain ∧ x.live.mute = x.curMute ∧
    x.live.limEn = false ∧ x.live.dcEn = false ∧ x.dcForced = .full ∧ x.dcWant = false ∧ s.egr.out =
    .full ∧ x.curMute = true) ∧
   (let x := (pick Sample22.xs_Whip 5)
    let k := (16 : Nat)
    x.phase = .ramp k) ∧
   (let x := (pick Sample22.xs_Whip 8)
    let n := (0 : Nat)
    x.r ≤ 2147483647 ∧ n < x.r) ∧
   (let x := (pick Sample22.xs_Whip 8)
    let n := (7 : Nat)
    x.r ≤ 2147483647 ∧ x.r ≤ n) := by
  refine ⟨?_, ?_, ?_, ?_, ?_⟩ <;>
  decide +kernel

/-- The hypotheses of CausesThatHoldTheCore are met. -/
theorem witness_CausesThatHoldTheCore :
   (let s := (Sample23.states.getD 0 State.reset)
    s.boot.clk = false) ∧
   (let s := (Sample23.states.getD 10 State.reset)
    s.boot.clk = true) ∧
   (let r := (0 : Fin 6)
    r ≠ 3 ∧ r ≠ 4) ∧
   (let r := (3 : Fin 6)
    ((r = 3 ∨ r = 4))) := by
  refine ⟨?_, ?_, ?_, ?_⟩ <;>
  decide +kernel

/-- The hypotheses of ReleasesAndStarts are met (part 1). -/
theorem witness_ReleasesAndStarts_1 :
   (let s := (Sample23.states.getD 9 State.reset)
    HeldFor s true false false false ∧ s.boot.cold = true) ∧
   (let s := (Sample23.states.getD 10 State.reset)
    s.boot.rst = true ∧ ((s.boot.clk = true ∨ s.boot.pwr = true ∨ s.boot.temp = true))) ∧
   (let s := (Sample23.states.getD 0 State.reset)
    s.boot.rst = false) ∧
   (let s := (Sample23.states.getD 19 State.reset)
    HeldFor s false true false false ∧ s.boot.cold = false ∧ MayWarm s) ∧
   (let s := (Sample23.states.getD 12 State.reset)
    HeldFor s false true false false ∧ s.boot.cold = true) ∧
   (let s := (Sample23.states.getD 0 State.reset)
    s.boot.clk = false) ∧
   (let s := (Sample23.states.getD 21 State.reset)
    HeldFor s false false true false ∧ s.boot.cold = false ∧ MayWarm s) ∧
   (let s := (Sample23.states.getD 14 State.reset)
    HeldFor s false false true false ∧ s.boot.cold = true) := by
  refine ⟨?_, ?_, ?_, ?_, ?_, ?_, ?_, ?_⟩ <;>
  (first | decide +kernel | (simp only [MayWarm, HeldFor]; decide +kernel))

/-- The hypotheses of ReleasesAndStarts are met (part 2). -/
theorem witness_ReleasesAndStarts_2 :
   (let s := (Sample23.states.getD 23 State.reset)
    HeldFor s false false false true ∧ s.boot.cold = false ∧ MayWarm s) ∧
   (let s := (Sample23.states.getD 1 State.reset)
    s.held = false ∧ MayWarm s) ∧
   (let s := (Sample23.states.getD 9 State.reset)
    s.held = true) ∧
   (let s := (Sample23.states.getD 3 State.reset)
    s.held = false ∧ s.chipState ≠ 2 ∧ s.rd Reg.BOOT_STATUS.WARMFAIL = 3) ∧
   (let s := (Sample23.states.getD 5 State.reset)
    s.held = false ∧ s.chipState = 2 ∧ s.on Reg.CHIP_STATE.WARM = false ∧ 3 ≤ s.startStep) := by
  refine ⟨?_, ?_, ?_, ?_, ?_⟩ <;>
  (first | decide +kernel | (simp only [MayWarm, HeldFor]; decide +kernel))

/-- The hypotheses of ReferenceSlots are met (part 1). -/
theorem witness_ReferenceSlots_1 :
   (let n := (3 : Fin 16)
    let dep := ((20000000) : Int)
    let s := (Sample24a.states.getD 2 State.reset)
    s.held = false ∧ s.slotState n ≠ 0 ∧ s.rd Reg.REF_PHWIN.WIN * 1000 < dep.natAbs) ∧
   (let n := (3 : Fin 16)
    let dep := ((0) : Int)
    let s := (Sample24a.states.getD 2 State.reset)
    s.held = false ∧ s.slotState n ≠ 0 ∧ dep.natAbs ≤ s.rd Reg.REF_PHWIN.WIN * 1000) ∧
   (let n := (0 : Fin 16)
    let s := (Sample24a.states.getD 0 State.reset)
    s.held = false ∧ s.slotState n = 0) ∧
   (let n := (3 : Fin 16)
    let s := (Sample24a.states.getD 5 State.reset)
    s.held = false ∧ 16 ≤ (s.refSlot n).discards ∧ 2 ≤ s.slotState n) ∧
   (let n := (3 : Fin 16)
    let s := (Sample24a.states.getD 5 State.reset)
    s.held = false ∧ 2 ≤ s.slotState n) ∧
   (let n := (0 : Fin 16)
    let s := (Sample24a.states.getD 0 State.reset)
    s.held = false ∧ s.slotState n < 2) ∧
   (let n := (3 : Fin 16)
    let s := (Sample24a.states.getD 4 State.reset)
    s.held = false ∧ s.rd (Reg.REFS_CFG.SRC n) = 0x21 ∧ s.slotState n ≠ 0) ∧
   (let s := (Sample24a.states.getD 0 State.reset)
    s.held = false ∧ s.alone) := by
  refine ⟨?_, ?_, ?_, ?_, ?_, ?_, ?_, ?_⟩ <;>
  (first | decide +kernel | (simp only [State.alone]; decide +kernel))

/-- The hypotheses of ReferenceSlots are met (part 2). -/
theorem witness_ReferenceSlots_2 :
   (let l := ([{ slot := 0, freq := 77 }, { slot := 3, freq := 44100000000000000 }] : List RefMeas)
    let m := ({ slot := 3, freq := 44100000000000000 } : RefMeas)
    let s := (Sample24m.states.getD 6 State.reset)
    let raw := ((0) : Int)
    let fam := (1 : Nat)
    s.held = false ∧ l.filter (fun x => decide (x.slot = m.slot)) = [m] ∧ 2 ≤ s.slotState m.slot ∧
    s.measured m = some (raw, fam)) := by
  decide +kernel

/-- The hypotheses of DpllAndForcedRelock are met (part 1). -/
theorem witness_DpllAndForcedRelock_1 :
   (let s := (Sample24d.states.getD 2 State.reset)
    s.runs ∧ s.rd Reg.REF_STATUS.DPLL = 1) ∧
   (let s := (Sample24d.states.getD 1 State.reset)
    s.runs ∧ s.rd Reg.REF_STATUS.DPLL ≠ 1) ∧
   (let s := ((R0.wr Reg.REF_STATUS.DPLL 2).wr (Reg.REFS_FREQ.FREQ 0) 10000 : State)
    let f := (10000 : Int)
    s.runs ∧ s.rd Reg.REF_STATUS.DPLL = 2 ∧ s.slotFreq (s.rd Reg.REF_STATUS.SEL) = some f ∧ (f -
    s.rdInt Reg.REF_XOCAL.XOCAL - s.ref.y).natAbs ≤ s.rd Reg.REF_DPLL.FSLEW * 10000 + 10000) ∧
   (let s := ((R0.wr Reg.REF_STATUS.DPLL 2).wr (Reg.REFS_FREQ.FREQ 0) 2000000 : State)
    let f := (2000000 : Int)
    s.runs ∧ s.slotFreq (s.rd Reg.REF_STATUS.SEL) = some f ∧ ((s.rd Reg.REF_STATUS.DPLL ≠ 2 ∨ s.rd
    Reg.REF_DPLL.FSLEW * 10000 + 10000 < (f - s.rdInt Reg.REF_XOCAL.XOCAL - s.ref.y).natAbs))) ∧
   (let err := ((0) : Int)
    let s := (Sample24d.states.getD 5 State.reset)
    s.runs ∧ s.rd Reg.REF_STATUS.DPLL = 3 ∧ err.natAbs ≤ 100000) ∧
   (let err := ((0) : Int)
    let s := (Sample24d.states.getD 1 State.reset)
    s.runs ∧ ((s.rd Reg.REF_STATUS.DPLL ≠ 3 ∨ 100000 < err.natAbs))) ∧
   (let s := (Sample24d.states.getD 0 State.reset)
    s.held = false ∧ s.ref.acquiring = true) ∧
   (let v := (12#32 : Word)
    let s := (Sample24d.states.getD 1 State.reset)
    s.alone ∧ s.rclk = true ∧ Admitted 0x10008 v ∧ v.getLsbD 3 = true) := by
  refine ⟨?_, ?_, ?_, ?_, ?_, ?_, ?_, ?_⟩ <;>
  (first | decide +kernel | (simp only [admitted_iff, State.alone, State.runs]; decide +kernel))

/-- The hypotheses of DpllAndForcedRelock are met (part 2). -/
theorem witness_DpllAndForcedRelock_2 :
   (let s := (Sample24d.states.getD 8 State.reset)
    s.held = false ∧ s.ref.family = none ∧ s.on Reg.CLK_ROOT.FORCE_RELOCK = true) ∧
   (let s := (Sample24d.states.getD 0 State.reset)
    s.held = false ∧ s.ref.family = none ∧ s.on Reg.CLK_ROOT.FORCE_RELOCK = false) := by
  refine ⟨?_, ?_⟩ <;>
  decide +kernel

/-- The hypotheses of FamilyChange are met (part 1). -/
theorem witness_FamilyChange_1 :
   (let v := (384#32 : Word)
    let s := (Sample24b.states.getD 0 State.reset)
    s.alone ∧ Admitted 0x20000 v ∧ Reg.REF_CTRL.FAMREQ.part v = 1 ∧ s.ref.family = none ∧
    Reg.REF_CTRL.FAMILY.part v ≠ s.rd Reg.CLK_STATUS.FAMILY ∧ s.on Reg.ENG_LP_STATUS.ARMED = false ∧
    s.on Reg.ENG_LP_STATUS.RAMPING = false) ∧
   (let v := (384#32 : Word)
    let s := (Sample24b.states.getD 9 State.reset)
    s.alone ∧ Admitted 0x20000 v ∧ Reg.REF_CTRL.FAMREQ.part v = 1 ∧ s.ref.family = none ∧
    ((Reg.REF_CTRL.FAMILY.part v = s.rd Reg.CLK_STATUS.FAMILY ∨ s.on Reg.ENG_LP_STATUS.ARMED = true
    ∨ s.on Reg.ENG_LP_STATUS.RAMPING = true))) ∧
   (let s := (Sample24b.states.getD 11 State.reset)
    s.runs ∧ s.familyDue 0 0 = true) ∧
   (let s := (Sample24b.states.getD 1 State.reset)
    s.runs ∧ s.familyDue 0 0 = false) ∧
   (let s := (Sample24b.states.getD 13 State.reset)
    s.runs ∧ s.inWindow = true ∧ s.familyDue 1 16 = true) ∧
   (let s := (Sample24b.states.getD 15 State.reset)
    let f := ({ tick := 5, phase := 3 } : FamilyStep)
    s.held = false ∧ s.ref.family = some f ∧ f.phase = 3) ∧
   (let s := (Sample24b.states.getD 16 State.reset)
    let f := ({ tick := 5, phase := 4 } : FamilyStep)
    s.held = false ∧ s.ref.family = some f ∧ f.phase = 4) ∧
   (let s := (Sample24b.states.getD 18 State.reset)
    s.runs ∧ s.familyDue 5 (17 + s.rd Reg.REF_ACQ.HOLD_TICKS) = true) := by
  refine ⟨?_, ?_, ?_, ?_, ?_, ?_, ?_, ?_⟩ <;>
  (first | decide +kernel | (simp only [admitted_iff, State.alone, State.runs]; decide +kernel))

/-- The hypotheses of FamilyChange are met (part 2). -/
theorem witness_FamilyChange_2 :
   (let s := (Sample24b.states.getD 1 State.reset)
    s.runs ∧ s.familyDue 5 (17 + s.rd Reg.REF_ACQ.HOLD_TICKS) = false) ∧
   (let s := (Sample24b.states.getD 20 State.reset)
    s.runs ∧ s.familyDue 6 (33 + s.rd Reg.REF_ACQ.HOLD_TICKS) = true) ∧
   (let s := (Sample24b.states.getD 1 State.reset)
    s.runs ∧ s.familyDue 6 (33 + s.rd Reg.REF_ACQ.HOLD_TICKS) = false) := by
  refine ⟨?_, ?_, ?_⟩ <;>
  (first | decide +kernel | (simp only [State.runs]; decide +kernel))

/-- The hypotheses of TimeBases are met (part 1). -/
theorem witness_TimeBases_1 :
   (let s := (Sample25s.states.getD 0 State.reset)
    s.alone) ∧
   (let d := (0 : Fin 4)
    let v := (1#32 : Word)
    let s := (Sample25s.states.getD 0 State.reset)
    s.alone ∧ Admitted (0x3011C + d.val * 0x40) v ∧ v.getLsbD 0 = true) ∧
   (let d := (0 : Fin 4)
    let s := (Sample25s.states.getD 2 State.reset)
    s.held = false ∧ s.onStep d = false) ∧
   (let d := (3 : Fin 4)
    let s := (Sample25s.states.getD 6 State.reset)
    let a := ({ value := 5, minus := true, set := false, big := false } : TimeAdj)
    s.held = false ∧ s.isStandby = false ∧ s.onStep d = true ∧ (s.domain d).adj = some a) ∧
   (let m := (0 : Fin 2)
    let v := (40#32 : Word)
    let s := (Sample25s.states.getD 0 State.reset)
    s.alone ∧ Admitted (0x30010 + m.val * 0x20) v ∧ (Reg.TIME_MB_SNAP.TS_SNAP m).part v = 1) ∧
   (let m := (0 : Fin 2)
    let s := (Sample25s.states.getD 3 State.reset)
    s.runs ∧ m.val ∈ s.time.snap) ∧
   (let s := (Sample25s.states.getD 0 State.reset)
    s.held = false) ∧
   (let d := (0 : Fin 4)
    let v := (1700000000#32 : Word)
    let s := (Sample25s.states.getD 0 State.reset)
    s.alone ∧ Admitted (0x30100 + d.val * 0x40) v ∧ (Reg.TIME_CTRL.PPSALIGN d).part v = 1) := by
  refine ⟨?_, ?_, ?_, ?_, ?_, ?_, ?_, ?_⟩ <;>
  (first | decide +kernel | (simp only [admitted_iff, State.alone, State.runs]; decide +kernel))

/-- The hypotheses of TimeBases are met (part 2). -/
theorem witness_TimeBases_2 :
   (let d := (0 : Fin 4)
    let s := (Sample25s.states.getD 4 State.reset)
    s.runs ∧ s.on (Reg.TIME_CTRL.PPSALIGN d) = true ∧ s.onStep d = false) ∧
   (let d := (0 : Fin 4)
    let s := (Sample25s.states.getD 2 State.reset)
    s.isStandby = false ∧ s.onStep d = false ∧ s.wantsStep d = false ∧ (s.domain d).adj = none ∧
    (s.domain d).incNext = none ∧ (s.domain d).d + s.inc d ≤ timeLimit) := by
  refine ⟨?_, ?_⟩ <;>
  (first | decide +kernel | (simp only [State.runs]; decide +kernel))

/-- The hypotheses of TimeTriggersResolve are met. -/
theorem witness_TimeTriggersResolve :
   (let inc := (1 : Nat)
    0 < inc) ∧
   (let k := (5 : Nat)
    let now := (0 : Int)
    let inc := (10 : Nat)
    let t := (40 : Nat)
    let r := (9 : Nat)
    0 < inc ∧ resolveAt k now inc t = some r) ∧
   (let k := (5 : Nat)
    let now := (0 : Int)
    let inc := (10 : Nat)
    let t := (40 : Nat)
    let r := (9 : Nat)
    let j := (8 : Nat)
    0 < inc ∧ resolveAt k now inc t = some r ∧ k ≤ j ∧ j < r) ∧
   (let b := (3 : Fin 64)
    let sc := (0 : Nat)
    let k := (40 : Nat)
    let y := (Sys2Proof.Machine.Trig.ptp 3 1 500 : Trig)
    let s := (Sample25t.states.getD 1 State.reset)
    s.runs ∧ s.paired = false ∧ ResolvesTo s sc y k ∧ s.tick + 1 < k ∧ (s.braid b).armed = some y) ∧
   (let sc := (0 : Nat)
    let k := (40 : Nat)
    let y := (Sys2Proof.Machine.Trig.ptp 3 1 500 : Trig)
    let s := (Sample25t.states.getD 1 State.reset)
    s.runs ∧ s.paired = false ∧ ResolvesTo s sc y k ∧ s.tick + 1 < k ∧ s.lp.armed = some y) ∧
   (let c := (0 : Fin 16)
    let sc := (0 : Nat)
    let k := (40 : Nat)
    let y := (Sys2Proof.Machine.Trig.ptp 3 1 500 : Trig)
    let s := (Sample25t.states.getD 1 State.reset)
    let n := (16 : Nat)
    let x := (pick Sample25t.xs_Commit 0)
    s.runs ∧ s.paired = false ∧ ResolvesTo s sc y k ∧ s.tick + 1 < k ∧ n % 16 = c.val ∧ sfind n
    s.mtx.commits = some x ∧ x.state = 1 ∧ x.trig = y ∧ ((∀ p ∈ s.mtx.commits, p.1 % 16 = c.val →
    p.1 = n))) ∧
   (let g := (3 : Fin 16)
    let sc := (0 : Nat)
    let k := (40 : Nat)
    let y := (Sys2Proof.Machine.Trig.ptp 3 1 500 : Trig)
    let s := (Sample25t.states.getD 1 State.reset)
    s.runs ∧ s.paired = false ∧ ResolvesTo s sc y k ∧ s.tick + 1 < k ∧ sfind g s.net.grp = some y) := by
  refine ⟨?_, ?_, ?_, by dsimp only; exact ⟨by unfold State.runs; decide +kernel, by decide +kernel, ⟨3, 1, 500, rfl, by decide +kernel⟩, by decide +kernel, by decide +kernel⟩, by dsimp only; exact ⟨by unfold State.runs; decide +kernel, by decide +kernel, ⟨3, 1, 500, rfl, by decide +kernel⟩, by decide +kernel, by decide +kernel⟩, by dsimp only; exact ⟨by unfold State.runs; decide +kernel, by decide +kernel, ⟨3, 1, 500, rfl, by decide +kernel⟩, by decide +kernel, by decide +kernel⟩, by dsimp only; exact ⟨by unfold State.runs; decide +kernel, by decide +kernel, ⟨3, 1, 500, rfl, by decide +kernel⟩, by decide +kernel, by decide +kernel⟩⟩ <;>
  decide +kernel

/-- The hypotheses of SerialReceivers are met (part 1). -/
theorem witness_SerialReceivers_1 :
   (let p := (23 : Fin 24)
    let phase := (5#15 : BitVec 15)
    let period := (64 : Nat)
    let before := ({ riseFs := false, riseD := false, fallFs := false, fallD := false } : SapBck)
    let frame := (pick Sample26.xs_List_SapBck 0)
    let next := (pick Sample26.xs_List_SapBck 0)
    let s := (Sample26.states.getD 7 State.reset)
    let c := (s.rxPort p).cfg
    let line := before :: frame ++ next
    s.runs ∧ s.rd (Reg.SAP_STATUS.RXSTATE p) ≠ 0 ∧ s.rxAsync p = false ∧ s.straddles p (sapMaster
    (s.rxPort p).cfg) phase.toNat period = false ∧ sapWellFormed c line = true) ∧
   (let p := (23 : Fin 24)
    let phase := (5#15 : BitVec 15)
    let period := (64 : Nat)
    let before := ({ riseFs := false, riseD := false, fallFs := false, fallD := false } : SapBck)
    let frame := (pick Sample26.xs_List_SapBck 0)
    let next := (pick Sample26.xs_List_SapBck 2)
    let s := (Sample26.states.getD 7 State.reset)
    let c := (s.rxPort p).cfg
    let line := before :: frame ++ next
    s.runs ∧ s.rd (Reg.SAP_STATUS.RXSTATE p) ≠ 0 ∧ s.rxAsync p = false ∧ s.straddles p (sapMaster
    (s.rxPort p).cfg) phase.toNat period = false ∧ sapWellFormed c line = false) ∧
   (let p := (23 : Fin 24)
    let s := (Sample26.states.getD 1 State.reset)
    s.runs ∧ s.rd (Reg.SAP_STATUS.RXSTATE p) = 0) ∧
   (let p := (23 : Fin 24)
    let s := (Sample26.states.getD 7 State.reset)
    s.runs ∧ sapMaster (s.rxPort p).cfg = false ∧ s.rd (Reg.SAP_STATUS.RXSTATE p) ≠ 0 ∧ s.rd
    (Reg.SAP_STATUS.RXSTATE p) ≠ 3) ∧
   (let p := (23 : Fin 24)
    let s := (Sample26.states.getD 7 State.reset)
    s.runs ∧ sapMaster (s.txPort p).cfg = false ∧ s.rd (Reg.SAP_STATUS.TXSTATE p) ≠ 0 ∧ s.rd
    (Reg.SAP_STATUS.TXSTATE p) ≠ 3) ∧
   (let n := (7 : Fin 8)
    let s := (Sample26.states.getD 12 State.reset)
    s.runs ∧ 2 ≤ s.rd (Reg.AES_RX_STATUS.STATE n)) ∧
   (let s := (Sample26.states.getD 1 State.reset)
    s.runs) ∧
   (let p := (23 : Fin 24)
    let s := (Sample26.states.getD 12 State.reset)
    s.runs ∧ sapMaster (s.rxPort p).cfg = false ∧ s.rxAsync p = false ∧ s.rd (Reg.SAP_STATUS.RXSTATE
    p) = 2 ∧ (s.rxPort p).rateBad = false) := by
  refine ⟨?_, ?_, ?_, ?_, ?_, ?_, ?_, ?_⟩ <;>
  (first | decide +kernel | (simp only [State.runs]; decide +kernel))

/-- The hypotheses of SerialReceivers are met (part 2). -/
theorem witness_SerialReceivers_2 :
   (let n := (7 : Fin 8)
    let phase := (5#15 : BitVec 15)
    let period := (64 : Nat)
    let a := (0#32 : Word)
    let b := (0#32 : Word)
    let s := (Sample26.states.getD 12 State.reset)
    s.runs ∧ 2 ≤ s.rd (Reg.AES_RX_STATUS.STATE n) ∧ s.rd (Reg.AES_RX_STATUS.STATE n) ≤ 3 ∧ s.rxAsync
    (24 + n) = false ∧ s.straddles (24 + n) false phase.toNat period = false ∧ parityOk a = true ∧
    parityOk b = true ∧ (s.rxPort (24 + n)).frames.length < 2) ∧
   (let n := (7 : Fin 8)
    let phase := (5#15 : BitVec 15)
    let period := (64 : Nat)
    let a := (16#32 : Word)
    let b := (16#32 : Word)
    let s := (Sample26.states.getD 12 State.reset)
    s.runs ∧ 2 ≤ s.rd (Reg.AES_RX_STATUS.STATE n) ∧ s.rd (Reg.AES_RX_STATUS.STATE n) ≤ 3 ∧ s.rxAsync
    (24 + n) = false ∧ s.straddles (24 + n) false phase.toNat period = false ∧ ((parityOk a = false
    ∨ parityOk b = false))) ∧
   (let m := (1 : Fin 2)
    let phase := (5#15 : BitVec 15)
    let period := (64 : Nat)
    let subs := ([1#32, 2#32, 3#32] : List Word)
    let s := (Sample26.states.getD 12 State.reset)
    s.runs ∧ 2 ≤ s.rd (Reg.MADI_STATUS.RXSTATE m) ∧ s.rd (Reg.MADI_STATUS.RXSTATE m) ≤ 3 ∧ s.rxAsync
    (32 + m) = false ∧ s.straddles (32 + m) false phase.toNat period = false ∧ (subs.getD 0
    0).getLsbD 0 = true ∧ (s.rxPort (32 + m)).frames.length < 2) ∧
   (let m := (1 : Fin 2)
    let phase := (5#15 : BitVec 15)
    let period := (64 : Nat)
    let s := (Sample26.states.getD 12 State.reset)
    s.runs ∧ 2 ≤ s.rd (Reg.MADI_STATUS.RXSTATE m) ∧ s.rd (Reg.MADI_STATUS.RXSTATE m) ≤ 3 ∧ s.rxAsync
    (32 + m) = false ∧ s.straddles (32 + m) false phase.toNat period = false) := by
  refine ⟨?_, ?_, ?_, ?_⟩ <;>
  (first | decide +kernel | (simp only [State.runs]; decide +kernel))

/-- The hypotheses of SerialTransmitAndConfiguration are met (part 1). -/
theorem witness_SerialTransmitAndConfiguration_1 :
   (let p := (0 : Fin 24)
    let phase := (5#15 : BitVec 15)
    let s := (Sample26b.states.getD 8 State.reset)
    s.runs ∧ sapMaster (s.txPort p).cfg = false ∧ s.rd (Reg.SAP_STATUS.TXSTATE p) = 2 ∧ phase.toNat
    + 32 < eclkPerTick s.mult) ∧
   (let p := (0 : Fin 24)
    let tx := (true : Bool)
    let v := (769#32 : Word)
    let s := (Sample26b.states.getD 0 State.reset)
    s.alone ∧ Admitted (0xC0000 + p.val * 0x40 + 4 * tx.toNat) v) ∧
   (let p := (0 : Fin 24)
    let s := (Sample26b.states.getD 2 State.reset)
    s.runs ∧ (s.txPort p).staged = true) ∧
   (let p := (0 : Fin 24)
    let s := (Sample26b.states.getD 2 State.reset)
    s.runs ∧ (s.rxPort p).staged = true) ∧
   (let p := (0 : Fin 24)
    let s := (Sample26b.states.getD 1 State.reset)
    s.runs ∧ (s.txPort p).staged = false) ∧
   (let n := (7 : Fin 8)
    let s := (Sample26b.states.getD 2 State.reset)
    s.runs ∧ (sget {} n.val s.ser.cs).armed = true ∧ (s.txPort (24 + n)).pos = 0) ∧
   (let n := (7 : Fin 8)
    let s := (Sample26b.states.getD 1 State.reset)
    s.runs ∧ (((sget {} n.val s.ser.cs).armed = false ∨ (s.txPort (24 + n)).pos ≠ 0))) ∧
   (let l := (63 : Fin 64)
    let rate := (0 : Nat)
    let s := (Sample26b.states.getD 5 State.reset)
    s.runs ∧ s.rd (Reg.SAP_ASRC_STATUS.STATE l) = 1 ∧ rate < 2 ^ 24) := by
  refine ⟨?_, ?_, ?_, ?_, ?_, ?_, ?_, ?_⟩ <;>
  (first | decide +kernel | (simp only [admitted_iff, State.alone, State.runs]; decide +kernel))

/-- The hypotheses of SerialTransmitAndConfiguration are met (part 2). -/
theorem witness_SerialTransmitAndConfiguration_2 :
   (let l := (63 : Fin 64)
    let rate := (0 : Nat)
    let s := (Sample26b.states.getD 5 State.reset)
    s.runs ∧ ((s.rd (Reg.SAP_ASRC_STATUS.STATE l) = 1 ∨ s.rd (Reg.SAP_ASRC_STATUS.STATE l) = 2)) ∧
    ((rate < 320000 ∨ 1920000 < rate))) ∧
   (let c := (95 : Fin 96)
    let s := (Sample26b.states.getD 3 State.reset)
    s.runs ∧ (s.decCh c).restart = true) ∧
   (let c := (95 : Fin 96)
    let s := (Sample26b.states.getD 1 State.reset)
    s.runs ∧ (s.decCh c).restart = false) ∧
   (let s := (Sample26b.states.getD 1 State.reset)
    s.runs) := by
  refine ⟨?_, ?_, ?_, ?_⟩ <;>
  (first | decide +kernel | (simp only [State.runs]; decide +kernel))

/-- The hypotheses of DecimationArithmetic are met. -/
theorem witness_DecimationArithmetic :
   (let f := (true : Bool)
    f = true) ∧
   (let f := (false : Bool)
    f = false) ∧
   (let i := (23 : Nat)
    i < 24) ∧
   (let i := (7 : Nat)
    i < 8) ∧
   (let i := (31 : Nat)
    4 ≤ i ∧ i < 32) := by
  refine ⟨?_, ?_, ?_, ?_, ?_⟩ <;>
  decide +kernel

/-- The hypotheses of AmplifierControlWrites are met. -/
theorem witness_AmplifierControlWrites :
   (let n := (31 : Fin 32)
    let v := (0#32 : Word)
    let s := (Sample27.states.getD 2 State.reset)
    s.alone ∧ Admitted (0xF0100 + n.val * 0x20) (v ||| 1) ∧ s.rd (Reg.AMP_CH_SCALE.VFS n) ≠ 0 ∧ s.rd
    (Reg.AMP_CH_SCALE.IFS n) ≠ 0 ∧ s.ampSt n = 0) ∧
   (let n := (31 : Fin 32)
    let v := (0#32 : Word)
    let s := (Sample27.states.getD 0 State.reset)
    s.alone ∧ Admitted (0xF0100 + n.val * 0x20) (v ||| 1) ∧ ((s.rd (Reg.AMP_CH_SCALE.VFS n) = 0 ∨
    s.rd (Reg.AMP_CH_SCALE.IFS n) = 0))) ∧
   (let n := (31 : Fin 32)
    let v := (0#32 : Word)
    let s := (Sample27.states.getD 0 State.reset)
    s.alone ∧ Admitted (0xF0100 + n.val * 0x20) (v &&& ~~~1#32) ∧ v.getLsbD 5 = false) ∧
   (let n := (31 : Fin 32)
    let v := (0#32 : Word)
    let s := (Sample27.states.getD 0 State.reset)
    s.alone ∧ Admitted (0xF0100 + n.val * 0x20) (v ||| 0x20#32) ∧ v.getLsbD 0 = false ∧ s.ampSt n =
    0) ∧
   (let n := (31 : Fin 32)
    let v := (0#32 : Word)
    let s := (Sample27.states.getD 66 State.reset)
    s.alone ∧ Admitted (0xF0100 + n.val * 0x20) (v ||| 0x10#32) ∧ v.getLsbD 0 = false ∧ v.getLsbD 5
    = false ∧ s.ampSt n = 8) ∧
   (let v := (393222144#32 : Word)
    let s := (Sample27.states.getD 0 State.reset)
    s.alone ∧ ((∀ m, m < 32 → s.ampSt m = 0)) ∧ Admitted 0xF0008 v ∧ Reg.AMP_MOD.USCALE.part v +
    ceilDiv (s.tapSum 5 0) (2 ^ 28) ≤ Reg.AMP_MOD.JMAX.part v) ∧
   (let v := (0#32 : Word)
    let s := (Sample27.states.getD 0 State.reset)
    let r := (4 : Fin 5)
    s.alone ∧ ((∀ m, m < 32 → s.ampSt m = 0)) ∧ Admitted (0xF0010 + 4 * r.val) v ∧ s.rd
    Reg.AMP_MOD.USCALE + ceilDiv (s.tapSum r v) (2 ^ 28) ≤ s.rd Reg.AMP_MOD.JMAX) ∧
   (let n := (31 : Fin 32)
    let s := (Sample27.states.getD 10 State.reset)
    s.alone ∧ s.ampSt n ≠ 0) := by
  refine ⟨?_, ?_, ?_, ?_, ?_, ?_, ?_, ?_⟩ <;>
  (first | decide +kernel | (simp only [admitted_iff, State.alone]; decide +kernel))

/-- The hypotheses of AmplifierSequencing are met (part 1). -/
theorem witness_AmplifierSequencing_1 :
   (let n := (31 : Fin 32)
    let s := (Sample27b.states.getD 212 State.reset)
    let x := s.ampCh n
    AmpTimed s n ∧ s.ampSt n = 3 ∧ x.part = 0 ∧ s.msTicks 1 ≤ x.t + 1) ∧
   (let n := (31 : Fin 32)
    let s := (Sample27b.states.getD 236 State.reset)
    let x := s.ampCh n
    let rlyt := s.msTicks (s.rd Reg.AMP_DIAG.RLYT)
    AmpTimed s n ∧ s.ampSt n = 3 ∧ x.part = 1 ∧ rlyt ≤ x.t + 1) ∧
   (let n := (31 : Fin 32)
    let s := (Sample27b.states.getD 264 State.reset)
    let x := s.ampCh n
    AmpTimed s n ∧ s.ampSt n = 4 ∧ s.msTicks 20 ≤ x.t + 1) ∧
   (let n := (31 : Fin 32)
    let s := (Sample27b.states.getD 360 State.reset)
    let x := s.ampCh n
    AmpTimed s n ∧ s.ampSt n = 6 ∧ x.part = 0 ∧ s.msTicks 10 + 6 ≤ x.t + 1) ∧
   (let n := (31 : Fin 32)
    let s := (Sample27b.states.getD 55 State.reset)
    let x := s.ampCh n
    let rlyt := s.msTicks (s.rd Reg.AMP_DIAG.RLYT)
    AmpTimed s n ∧ s.ampSt n = 6 ∧ x.part = 1 ∧ rlyt ≤ x.t + 1) ∧
   (let n := (31 : Fin 32)
    let s := (Sample27b.states.getD 112 State.reset)
    AmpTimed s n ∧ s.diagPlace = true ∧ s.diagNext = some n.val) ∧
   (let n := (31 : Fin 32)
    let s := (Sample27b.states.getD 56 State.reset)
    let x := s.ampCh n
    AmpTimed s n ∧ s.ampSt n = 2 ∧ s.diagPhase (x.t + 1) ≠ s.diagPhase x.t ∧ x.t + 1 < s.msTicks 60) ∧
   (let n := (31 : Fin 32)
    let s := (Sample27b.states.getD 404 State.reset)
    let x := s.ampCh n
    AmpTimed s n ∧ s.ampSt n = 7 ∧ x.part = 0 ∧ s.msTicks 2 ≤ x.t + 1 ∧ x.after ≠ .off) := by
  refine ⟨?_, ?_, ?_, ?_, ?_, ?_, ?_, ?_⟩ <;>
  (first | decide +kernel | (simp only [State.runs, AmpTimed]; decide +kernel))

/-- The hypotheses of AmplifierSequencing are met (part 2). -/
theorem witness_AmplifierSequencing_2 :
   (let n := (31 : Fin 32)
    let s := (Sample27b.states.getD 444 State.reset)
    let x := s.ampCh n
    AmpTimed s n ∧ s.ampSt n = 7 ∧ x.part = 1 ∧ s.msTicks 1000 ≤ x.t + 1 ∧ x.noRetry = false) ∧
   (let n := (31 : Fin 32)
    let s := (Sample27b.states.getD 324 State.reset)
    let x := s.ampCh n
    AmpTimed s n ∧ s.ampSt n = 5 ∧ x.part = 0 ∧ s.msTicks 10000 ≤ x.t + 1) := by
  refine ⟨?_, ?_⟩ <;>
  (first | decide +kernel | (simp only [State.runs, AmpTimed]; decide +kernel))

/-- The hypotheses of AmplifierProtection are met (part 1). -/
theorem witness_AmplifierProtection_1 :
   (let n := (31 : Fin 32)
    let k := (15 : Fin 16)
    let cycle := (5#12 : BitVec 12)
    let s := (Sample27b.states.getD 1 State.reset)
    let x := s.ampCh n
    let filt := cycle.toNat + 2 + s.rd Reg.AMP_CTRL.OCFILT
    let j := k.val + filt / 3200
    let per := eclkPerTick s.mult / 1600
    let now := s.tick * per + j
    s.held = false ∧ cycle.toNat < 3200 ∧ 3 ≤ s.ampSt n ∧ s.ampSt n ≤ 6 ∧ s.rclk = true ∧ x.lastOc ≠
    some now) ∧
   (let n := (31 : Fin 32)
    let k := (15 : Fin 16)
    let cycle := (5#12 : BitVec 12)
    let s := (Sample27b.states.getD 3 State.reset)
    let x := s.ampCh n
    let filt := cycle.toNat + 2 + s.rd Reg.AMP_CTRL.OCFILT
    let j := k.val + filt / 3200
    let per := eclkPerTick s.mult / 1600
    let now := s.tick * per + j
    s.held = false ∧ cycle.toNat < 3200 ∧ s.ampSt n = 2 ∧ s.rclk = true ∧ x.lastOc ≠ some now ∧
    s.isStandby = false ∧ x.retry = false ∧ s.diagPhase x.t ≠ 5 ∧ s.diagPhase x.t ≠ 7) ∧
   (let n := (31 : Fin 32)
    let cycle := (5#12 : BitVec 12)
    let s := (Sample27b.states.getD 159 State.reset)
    s.held = false ∧ cycle.toNat < 3200 ∧ 2 ≤ s.ampSt n ∧ s.ampSt n ≤ 6 ∧ s.rclk = false ∧
    s.isStandby = false) ∧
   (let cycle := (5#12 : BitVec 12)
    let s := (Sample27b.states.getD 0 State.reset)
    s.held = false ∧ cycle.toNat < 3200 ∧ s.rclk = false ∧ s.isStandby = true) ∧
   (let n := (31 : Fin 32)
    let k := (15 : Fin 16)
    let cycle := (5#12 : BitVec 12)
    let s := (Sample27b.states.getD 11 State.reset)
    let x := s.ampCh n
    let filt := cycle.toNat + 2 + s.rd Reg.AMP_CTRL.OCFILT
    let j := k.val + filt / 3200
    let per := eclkPerTick s.mult / 1600
    let now := s.tick * per + j
    s.held = false ∧ cycle.toNat < 3200 ∧ 2 ≤ s.ampSt n ∧ s.ampSt n ≤ 6 ∧ s.rclk = true ∧ x.lastOc =
    some now) ∧
   (let n := (31 : Fin 32)
    let cycle := (5#12 : BitVec 12)
    let s := (Sample27b.states.getD 53 State.reset)
    s.held = false ∧ cycle.toNat < 3200 ∧ ((s.ampSt n < 2 ∨ 6 < s.ampSt n))) ∧
   (let n := (31 : Fin 32)
    let cycle := (5#12 : BitVec 12)
    let s := (Sample27b.states.getD 2 State.reset)
    s.held = false ∧ cycle.toNat < 3200 ∧ s.rclk = true ∧ s.on (Reg.AMP_CH_STATUS.SENSE_LOST n) =
    false) ∧
   (let n := (31 : Fin 32)
    let cycle := (5#12 : BitVec 12)
    let s := (Sample27b.states.getD 1 State.reset)
    s.held = false ∧ cycle.toNat < 3200 ∧ s.rclk = true ∧ s.on (Reg.AMP_CH_STATUS.SENSE_LOST n) =
    true) := by
  refine ⟨?_, ?_, ?_, ?_, ?_, ?_, ?_, ?_⟩ <;>
  decide +kernel

/-- The hypotheses of AmplifierProtection are met (part 2). -/
theorem witness_AmplifierProtection_2 :
   (let n := (31 : Fin 32)
    let cycle := (3199 : BitVec 12)
    let s := ({ (R0.put (Reg.DEC_CH_STATUS.UNSETTLED 31) false).put (Reg.DEC_CH_STATUS.UNSETTLED 63) false with amp := { R0.amp with sense := [(31, { good := 1024 }), (63, { good := 1024 })] }, str := { R0.str with inp := [(chanKey 4 31 0, {}), (chanKey 4 63 0, {})] } } : State)
    s.held = false ∧ cycle.toNat < 3200 ∧ s.rclk = true ∧ s.senseBack n = true) ∧
   (let n := (31 : Fin 32)
    let cycle := (5#12 : BitVec 12)
    let s := (Sample27b.states.getD 1 State.reset)
    s.held = false ∧ cycle.toNat < 3200 ∧ s.rclk = true ∧ s.senseBack n = false) ∧
   (let cycle := (3199 : BitVec 12)
    let s := (R0 : State)
    s.held = false ∧ cycle.toNat < 3200) := by
  refine ⟨?_, ?_, ?_⟩ <;>
  decide +kernel

/-- The hypotheses of MacFramesAndQueues are met (part 1). -/
theorem witness_MacFramesAndQueues_1 :
   (let i := (4 : Fin 5)
    let s := (Sample28.states.getD 0 State.reset)
    s.held = false ∧ s.on (Reg.MAC_CTRL.EN i) = false) ∧
   (let i := (4 : Fin 5)
    let s := (R0.wr Reg.CHIP_STATE.STATE 7 : State)
    s.held = false ∧ s.dormant = true ∧ s.wakeMac i = false) ∧
   (let i := (4 : Fin 5)
    let l := ([1#8] : List Byte)
    let s := (Sample28.states.getD 2 State.reset)
    s.held = false ∧ s.on (Reg.MAC_CTRL.EN i) = true ∧ ((s.dormant = false ∨ s.wakeMac i = true)) ∧
    1 ≤ l.length ∧ l.length ≤ 13) ∧
   (let i := (4 : Fin 5)
    let l := (pick Sample28.xs_List_Byte 2)
    let s := (Sample28.states.getD 2 State.reset)
    s.held = false ∧ s.on (Reg.MAC_CTRL.EN i) = true ∧ ((s.dormant = false ∨ s.wakeMac i = true)) ∧
    14 ≤ l.length ∧ be l (etherAt l) 2 = 0x8808) ∧
   (let i := (4 : Fin 5)
    let l := (Sample28.fr 0x806 46 : List Byte)
    let s := ((Sample28.mst 0x80000000 true 0x200).store 0x200104 4 0x80000000 : State)
    let r := s.rxRing 3
    s.held = false ∧ PlainControl s i l ∧ s.owned r = true) ∧
   (let i := (4 : Fin 5)
    let l := (pick Sample28.xs_List_Byte 3)
    let s := (Sample28.states.getD 2 State.reset)
    let r := s.rxRing 3
    s.held = false ∧ PlainControl s i l ∧ s.owned r = false) ∧
   (let s := (Sample28.states.getD 0 State.reset)
    s.held = false) ∧
   (let q := (3 : Fin 4)
    let v := (5#32 : Word)
    let s := (Sample28.states.getD 0 State.reset)
    s.held = false ∧ s.alone ∧ Admitted (0x110208 + q.val * 0x10) v) := by
  refine ⟨?_, ?_, ?_, ?_, ?_, ?_, ?_, ?_⟩ <;>
  (first | decide +kernel | (simp only [admitted_iff, State.alone, PlainControl]; decide +kernel))

/-- The hypotheses of MacFramesAndQueues are met (part 2). -/
theorem witness_MacFramesAndQueues_2 :
   (let i := (4 : Fin 5)
    let v := (5#32 : Word)
    let s := (Sample28.states.getD 0 State.reset)
    s.held = false ∧ s.alone ∧ Admitted (0x110308 + i.val * 0x10) v) ∧
   (let i := (4 : Fin 5)
    let s := (Sample28.states.getD 2 State.reset)
    s.held = false ∧ s.dormant = false ∧ s.on (Reg.MAC_STATUS.LINK i) = true ∧ s.owned (s.txRing i)
    = true ∧ s.on (Reg.MAC_CTRL.CTLVLAN_EN i) = false) ∧
   (let s := (R0.wr Reg.CHIP_STATE.STATE 7 : State)
    s.held = false ∧ s.dormant = true) ∧
   (let i := (4 : Fin 5)
    let s := (Sample28.states.getD 0 State.reset)
    s.held = false ∧ s.dormant = false ∧ ((s.on (Reg.MAC_STATUS.LINK i) = false ∨ s.owned (s.txRing
    i) = false))) := by
  refine ⟨?_, ?_, ?_, ?_⟩ <;>
  (first | decide +kernel | (simp only [admitted_iff, State.alone]; decide +kernel))

/-- The hypotheses of MediaStreams are met (part 1). -/
theorem witness_MediaStreams_1 :
   (let v := (1#32 : Word)
    let s := (Sample28b.states.getD 0 State.reset)
    s.alone ∧ v.getLsbD 0 = true) ∧
   (let s := (Sample28b.states.getD 11 State.reset)
    let k := (0 : Nat)
    let d := ([25165857#32, 26214420#32, 0#32, 0#32, 0#32, 0#32, 0#32, 0#32, 0#32, 0#32, 0#32, 0#32, 0#32, 0#32, 0#32, 0#32] : List (BitVec 32))
    s.runs ∧ k < 1024 ∧ d.length = 16 ∧ s.net.go.filter (fun p => decide (p.1 = k)) = [(k, d)] ∧ (∀
    p ∈ s.net.go, p.1 < 1024)) ∧
   (let g := (3 : Fin 16)
    let v := (1#32 : Word)
    let s := (Sample28b.states.getD 0 State.reset)
    s.alone ∧ Admitted (0x110100 + g.val * 0x10) v ∧ (Reg.NET_GRP_CTRL.ARM g).part v = 1 ∧ s.on
    (Reg.NET_GRP_CTRL.ARM g) = false) ∧
   (let g := (3 : Fin 16)
    let v := (3#32 : Word)
    let s := (Sample28b.states.getD 0 State.reset)
    s.alone ∧ (Reg.NET_GRP_CTRL.TRIGSRC g).part v = 1) ∧
   (let g := (3 : Fin 16)
    let s := (Sample28b.states.getD 11 State.reset)
    s.runs ∧ sfind g.val s.net.grp = some (.tick (s.tick + 1))) ∧
   (let i := (0 : Fin 512)
    let s := (Sample28b.states.getD 11 State.reset)
    let x := sget {} i.val s.net.outs
    let p := s.streamP 1 i
    s.runs ∧ x.run = true ∧ p ≤ x.buf.length ∧ x.m0 + (x.n + 1) * p ≤ s.tick) ∧
   (let i := (0 : Fin 512)
    let s := (Sample28b.states.getD 1 State.reset)
    s.runs ∧ (sget {} i.val s.net.outs).buf.length < s.streamP 1 i) ∧
   (let s := (Sample28b.states.getD 1 State.reset)
    s.runs ∧ s.net.rxq = []) := by
  refine ⟨?_, ?_, ?_, ?_, ?_, ?_, ?_, ?_⟩ <;>
  (first | decide +kernel | (simp only [admitted_iff, State.alone, State.runs]; decide +kernel))

/-- The hypotheses of MediaStreams are met (part 2). -/
theorem witness_MediaStreams_2 :
   (let s := (Sample28b.states.getD 4 State.reset)
    let r := (pick Sample28b.xs_NetRx 0)
    let rest := ([{ mac := 0, stream := 0, bytes := [], tick := 5, now := 5, eclk := 0 }] : List (NetRx))
    let path := (0 : Nat)
    s.runs ∧ s.net.rxq = r :: rest ∧ pathOf (s.descWord 0 r.stream 0) r.mac = some path ∧ path ≤ 1) ∧
   (let i := (0 : Fin 512)
    let s := (Sample28b.states.getD 11 State.reset)
    let ph := (80 : Nat)
    let x := sget {} i.val s.net.ins
    let lo := wfield (s.descWord 0 i 1) 0 16
    s.runs ∧ x.run = true ∧ x.phase = some ph ∧ x.deadline ≠ some s.tick ∧ ph + lo ≤ s.tick ∧
    (s.tick - ph - lo) % s.streamP 0 i = 0) ∧
   (let s := (Sample28b.states.getD 11 State.reset)
    let p := (6 : Nat)
    s.runs ∧ s.isStandby = true ∧ s.on Reg.NET_CTRL.WATCH_EN = true ∧ s.shortestP = some p ∧ 2 * p ≤
    s.net.quiet) ∧
   (let s := (Sample28b.states.getD 1 State.reset)
    s.runs ∧ s.isStandby = false) := by
  refine ⟨?_, ?_, ?_, ?_⟩ <;>
  (first | decide +kernel | (simp only [State.runs, State.quiet]; decide +kernel))

/-- The hypotheses of LanesAndLocks are met (part 1). -/
theorem witness_LanesAndLocks_1 :
   (let n := (0 : Fin 16)
    let v := (67587#32 : Word)
    let s := (Sample29.states.getD 0 State.reset)
    let a := 0x120000 + n.val * 0x40
    let r := wfield v 0 3
    s.held = false ∧ s.alone ∧ rolePermitted n r = true ∧ ((s.boot.badLanes.getLsbD n = false ∨ r =
    0)) ∧ Admitted a v) ∧
   (let n := (0 : Fin 16)
    let v := (4#32 : Word)
    let s := (Sample29.states.getD 0 State.reset)
    let r := wfield v 0 3
    s.held = false ∧ s.alone ∧ rolePermitted n r = false) ∧
   (let n := (0 : Fin 16)
    let s := (Sample29.states.getD 0 State.reset)
    s.held = false ∧ s.on (Reg.LANE_STATUS.CAL_DONE n) = false) ∧
   (let n := (0 : Fin 16)
    let s := (Sample29.states.getD 2 State.reset)
    s.held = false ∧ s.on (Reg.LANE_STATUS.CAL_DONE n) = true) ∧
   (let n := (0 : Fin 16)
    let s := (Sample29.states.getD 3 State.reset)
    s.held = false ∧ s.on (Reg.LANE_STATUS.LOS n) = false) ∧
   (let n := (0 : Fin 16)
    let s := (Sample29.states.getD 0 State.reset)
    s.held = false ∧ s.on (Reg.LANE_STATUS.LOS n) = true) ∧
   (let n := (0 : Fin 16)
    let s := (Sample29.states.getD 2 State.reset)
    s.held = false ∧ s.on (Reg.LANE_STATUS.LOL n) = false) ∧
   (let n := (0 : Fin 16)
    let s := (Sample29.states.getD 0 State.reset)
    s.held = false ∧ s.on (Reg.LANE_STATUS.LOL n) = true) := by
  refine ⟨?_, ?_, ?_, ?_, ?_, ?_, ?_, ?_⟩ <;>
  (first | decide +kernel | (simp only [admitted_iff, State.alone]; decide +kernel))

/-- The hypotheses of LanesAndLocks are met (part 2). -/
theorem witness_LanesAndLocks_2 :
   (let s := (Sample29.states.getD 0 State.reset)
    s.held = false) ∧
   (let n := (0 : Fin 16)
    let s := (Sample29.states.getD 2 State.reset)
    let ok := if n.val < 8 then s.on Reg.LANE_GSTATUS.REFCLK0_OK else s.on Reg.LANE_GSTATUS.REFCLK1_OK
    s.held = false ∧ ok = true) ∧
   (let n := (0 : Fin 16)
    let s := (Sample29.states.getD 0 State.reset)
    let ok := if n.val < 8 then s.on Reg.LANE_GSTATUS.REFCLK0_OK else s.on Reg.LANE_GSTATUS.REFCLK1_OK
    s.held = false ∧ ok = false) ∧
   (let n := (0 : Fin 16)
    let s := (Sample29.states.getD 22 State.reset)
    s.held = false ∧ (s.laneRec n).lock = 1 ∧ s.mayAcquire n = true) ∧
   (let n := (0 : Fin 16)
    let s := (Sample29.states.getD 0 State.reset)
    s.held = false ∧ (((s.laneRec n).lock ≠ 1 ∨ s.mayAcquire n = false))) ∧
   (let n := (0 : Fin 16)
    let s := (Sample29.states.getD 8 State.reset)
    s.held = false ∧ 2 ≤ (s.laneRec n).lock) ∧
   (let n := (0 : Fin 16)
    let s := (Sample29.states.getD 0 State.reset)
    s.held = false ∧ (s.laneRec n).lock < 2) ∧
   (let n := (0 : Fin 16)
    let v := (1#32 : Word)
    let s := (Sample29.states.getD 0 State.reset)
    s.held = false ∧ s.alone ∧ Admitted (0x120014 + n.val * 0x40) v ∧ v.getLsbD 0 = true) := by
  refine ⟨?_, ?_, ?_, ?_, ?_, ?_, ?_, ?_⟩ <;>
  (first | decide +kernel | (simp only [admitted_iff, State.alone]; decide +kernel))

/-- The hypotheses of LanesAndLocks are met (part 3). -/
theorem witness_LanesAndLocks_3 :
   (let n := (0 : Fin 16)
    let s := (Sample29.states.getD 2 State.reset)
    s.held = false ∧ s.on (Reg.LANE_MARGIN.START n) = true) ∧
   (let n := (0 : Fin 16)
    let s := (Sample29.states.getD 0 State.reset)
    s.held = false ∧ s.on (Reg.LANE_MARGIN.START n) = false) ∧
   (let n := (3 : Fin 16)
    let s := (R0 : State)
    s.held = false ∧ s.role n ≠ 6) ∧
   (let n := (3 : Fin 16)
    let s := (prbsLane 6 : State)
    s.held = false ∧ s.role n = 6 ∧ s.on (Reg.LANE_STATUS.CAL_DONE n) = true) ∧
   (let n := (3 : Fin 16)
    let s := ((prbsLane 6).put (Reg.LANE_STATUS.LOS 3) true : State)
    s.held = false ∧ s.role n = 6 ∧ s.on (Reg.LANE_STATUS.CAL_DONE n) = true ∧ ((s.on
    (Reg.LANE_STATUS.LOS n) = true ∨ s.on (Reg.LANE_STATUS.LOL n) = true))) ∧
   (let n := (3 : Fin 16)
    let s := (prbsLane 6 : State)
    s.held = false ∧ s.role n = 6 ∧ s.on (Reg.LANE_STATUS.CAL_DONE n) = true ∧ s.on
    (Reg.LANE_STATUS.LOS n) = false ∧ s.on (Reg.LANE_STATUS.LOL n) = false ∧ s.on
    (Reg.LANE_CFG.RXPOL n) = false) ∧
   (let n := (3 : Fin 16)
    let s := (prbsLane 6 : State)
    let bits := ((prbsSend 2 40 (List.replicate 31 true)).1 : List Bool)
    let k := (40 : Nat)
    let pat := s.rd (Reg.LANE_CFG.PATTERN n)
    let h := (s.laneRec n).prbsIn
    s.held = false ∧ s.role n = 6 ∧ s.on (Reg.LANE_STATUS.CAL_DONE n) = true ∧ s.on
    (Reg.LANE_STATUS.LOS n) = false ∧ s.on (Reg.LANE_STATUS.LOL n) = false ∧ s.on
    (Reg.LANE_CFG.RXPOL n) = false ∧ 31 ≤ h.length ∧ bits = (prbsSend pat k h).1) := by
  refine ⟨?_, ?_, ?_, ?_, ?_, ?_, ?_⟩ <;>
  decide +kernel

/-- The hypotheses of FlitexFramesAndCells are met (part 1). -/
theorem witness_FlitexFramesAndCells_1 :
   (let n := (3 : Fin 16)
    let s := (Sample29b.states.getD 27 State.reset)
    s.runs ∧ s.role n = 2 ∧ s.on (Reg.FLX_CFG.TXEN n) = true ∧ s.ccOpen n = false) ∧
   (let n := (3 : Fin 16)
    let s := (Sample29b.states.getD 52 State.reset)
    s.runs ∧ s.role n = 3 ∧ s.on (Reg.FLX_CFG.TXEN n) = true) ∧
   (let n := (3 : Fin 16)
    let s := (Sample29b.states.getD 28 State.reset)
    s.runs ∧ ((s.role n = 2 ∨ s.role n = 3)) ∧ s.on (Reg.FLX_CFG.TXEN n) = false) ∧
   (let n := (3 : Fin 16)
    let s := (Sample29b.states.getD 1 State.reset)
    s.runs ∧ ((s.role n < 2 ∨ 4 < s.role n))) ∧
   (let n := (3 : Fin 16)
    let m := (0x5D2 : BitVec 64)
    let s := (flx 2 2 none false : State)
    let w := m.toNat
    let x := s.laneRec n
    s.held = false ∧ s.role n = 2 ∧ x.lock = 2 ∧ w % 256 = 0xD2) ∧
   (let n := (3 : Fin 16)
    let m := (0x5D3 : BitVec 64)
    let s := (flx 2 2 none false : State)
    let w := m.toNat
    let x := s.laneRec n
    s.held = false ∧ s.role n = 2 ∧ x.lock = 2 ∧ w % 256 ≠ 0xD2) ∧
   (let n := (3 : Fin 16)
    let s := (flx 2 1 none false : State)
    let x := s.laneRec n
    s.held = false ∧ s.role n = 2 ∧ x.lock < 2) ∧
   (let n := (3 : Fin 16)
    let e := (7 : BitVec 15)
    let u := (0 : BitVec 4)
    let m := (13265143254044640722 : BitVec 64)
    let l := (frameBody ++ frameTail : List Block)
    let s := (flx 2 3 (some 4) true : State)
    let w := m.toNat
    let x := s.laneRec n
    let sq := w / 2 ^ 8 % 256
    let at0 := s.completion e.toNat u.toNat 10 (w / 2 ^ 16 % 4096)
    let next := x.seq = some ((sq + 255) % 256) ∧ (x.valid < 2 ∨ projected x.cs at0 = true)
    let g := s.rd (Reg.FLX_CFG.RXGRP n)
    let k := cellCount (s.on (Reg.LANE_CFG.RXRATE n)) s.mult
    let link := (l.getD (9 * g) (0, 0)).2.toNat
    s.held = false ∧ s.role n = 2 ∧ x.lock = 3 ∧ x.opened = true ∧ w % 256 = 0xD2 ∧ next ∧
    WholeFrame g l (w / 2 ^ 32) ∧ tailLegal (l.drop (9 * g + 1)) k = true ∧ g ≤ 256 ∧ link % 512 = g
    ∧ link / 2 ^ 9 % 4 = s.mult ∧ x.frames.length < 2) := by
  refine ⟨?_, ?_, ?_, ?_, ?_, ?_, ?_, by dsimp only; exact ⟨by decide +kernel, by decide +kernel, by decide +kernel, by decide +kernel, by decide +kernel, by decide +kernel, wholeFrame_of (by decide +kernel) (by decide +kernel) (by decide +kernel), by decide +kernel, by decide +kernel, by decide +kernel, by decide +kernel, by decide +kernel⟩⟩ <;>
  (first | decide +kernel | (simp only [State.runs]; decide +kernel))

/-- The hypotheses of FlitexFramesAndCells are met (part 2). -/
theorem witness_FlitexFramesAndCells_2 :
   (let n := (3 : Fin 16)
    let e := (7 : BitVec 15)
    let u := (0 : BitVec 4)
    let m := (13265143254044640722 : BitVec 64)
    let l := ([] : List Block)
    let s := (flx 2 3 (some 4) true : State)
    let w := m.toNat
    let x := s.laneRec n
    let sq := w / 2 ^ 8 % 256
    let at0 := s.completion e.toNat u.toNat 10 (w / 2 ^ 16 % 4096)
    let next := x.seq = some ((sq + 255) % 256) ∧ (x.valid < 2 ∨ projected x.cs at0 = true)
    let g := s.rd (Reg.FLX_CFG.RXGRP n)
    s.held = false ∧ s.role n = 2 ∧ x.lock = 3 ∧ x.opened = true ∧ w % 256 = 0xD2 ∧ next ∧ ((∀ g',
    g' ≤ 256 → ¬ WholeFrame g' l (w / 2 ^ 32))) ∧ g ≤ 256) ∧
   (let n := (3 : Fin 16)
    let m := (0x5D2 : BitVec 64)
    let s := (flx 2 4 (some 9) true : State)
    let w := m.toNat
    let x := s.laneRec n
    let sq := w / 2 ^ 8 % 256
    let z := (9 : Nat)
    s.held = false ∧ s.role n = 2 ∧ ((x.lock = 3 ∨ x.lock = 4)) ∧ x.seq = some z ∧ (z + 1) % 256 ≠
    sq) ∧
   (let n := (3 : Fin 16)
    let e := (7 : BitVec 15)
    let u := (0 : BitVec 4)
    let m := (0x5D2 : BitVec 64)
    let s := (flx 2 4 (some 4) false : State)
    let w := m.toNat
    let x := s.laneRec n
    let sq := w / 2 ^ 8 % 256
    let at0 := s.completion e.toNat u.toNat 10 (w / 2 ^ 16 % 4096)
    let next := x.seq = some ((sq + 255) % 256) ∧ (x.valid < 2 ∨ projected x.cs at0 = true)
    s.held = false ∧ s.role n = 2 ∧ x.lock = 4 ∧ x.opened = false ∧ w % 256 = 0xD2 ∧ next) ∧
   (let n := (3 : Fin 16)
    let s := (flx 2 3 none false : State)
    s.held = false ∧ (s.laneRec n).lock = 3) ∧
   (let n := (3 : Fin 16)
    let s := (flx 2 2 none false : State)
    s.held = false ∧ (s.laneRec n).lock < 3) ∧
   (let n := (3 : Fin 16)
    let p8 := (62 : BitVec 8)
    let s := (flx 3 2 none false : State)
    s.held = false ∧ s.role n = 3 ∧ (s.laneRec n).lock = 2 ∧ p8.toNat ≤ 62) ∧
   (let n := (3 : Fin 16)
    let c := (cell 3 5 0 : List Byte)
    let s := (flx 2 2 none false : State)
    let x := s.laneRec n
    let deaf := s.role n ≠ 4 ∧ (s.role n ≠ 2 ∨ x.lock ≠ 3 ∨ s.on (Reg.FLX_CC_CTRL.EN n) = false ∨ s.on (Reg.FLX_STATUS.FAR_RXLOCK n) = false ∨ fb c 0 = 0)
    s.held = false ∧ c.length = 64 ∧ deaf) ∧
   (let n := (3 : Fin 16)
    let c := (cell 1 58 0 : List Byte)
    let s := (ccLane 2 : State)
    let x := s.laneRec n
    s.held = false ∧ c.length = 64 ∧ s.ccOpen n = true ∧ fb c 0 ≠ 0 ∧ x.cells = [] ∧ cellLast c =
    false) := by
  refine ⟨?_, ?_, ?_, ?_, ?_, ?_, ?_, ?_⟩ <;>
  (first | decide +kernel | (simp only [WholeFrame]; decide +kernel))

/-- The hypotheses of FlitexFramesAndCells are met (part 3). -/
theorem witness_FlitexFramesAndCells_3 :
   (let n := (3 : Fin 16)
    let c := (cell 2 58 1 : List Byte)
    let s := (ccLane 2 : State)
    let x := s.laneRec n
    let one := cellOk c = true ∧ cellFirst c = true ∧ cellLast c = true
    s.held = false ∧ c.length = 64 ∧ s.ccOpen n = true ∧ fb c 0 ≠ 0 ∧ x.cells = [] ∧ cellLast c =
    true ∧ ¬ one) ∧
   (let n := (3 : Fin 16)
    let c := (cell 3 5 0 : List Byte)
    let s := (ccLane 0 : State)
    let x := s.laneRec n
    let r := s.ccRx n
    let one := cellOk c = true ∧ cellFirst c = true ∧ cellLast c = true
    s.held = false ∧ c.length = 64 ∧ s.ccOpen n = true ∧ fb c 0 ≠ 0 ∧ x.cells = [] ∧ one ∧ s.ccOwned
    r = none) ∧
   (let n := (3 : Fin 16)
    let c := (cell 3 5 0 : List Byte)
    let s := (ccLane 2 : State)
    let x := s.laneRec n
    let r := s.ccRx n
    let one := cellOk c = true ∧ cellFirst c = true ∧ cellLast c = true
    let a := (0x200100 : Nat)
    s.held = false ∧ c.length = 64 ∧ s.ccOpen n = true ∧ fb c 0 ≠ 0 ∧ x.cells = [] ∧ one ∧ s.ccOwned
    r = some a) ∧
   (let n := (15 : Fin 16)
    let v := (0 : Word)
    let s := (R0 : State)
    s.alone ∧ Admitted (0x130020 + n.val * 0x40) v ∧ (s.laneRec n).cells = [] ∧ s.rd
    (Reg.FLX_CC_CTRL.TXSIZE n) = 0) := by
  refine ⟨?_, ?_, ?_, ?_⟩ <;>
  (first | decide +kernel | (simp only [admitted_iff, State.alone]; decide +kernel))

/-- The hypotheses of PairFailover are met (part 1). -/
theorem witness_PairFailover_1 :
   (let p := ({ image := 0,   part := 0x2304#16,   rev := 0x01#8,   side := true,   paired := true,   fam441 := false,   mult := 0x0#2,   tick := 99 } : PeerInfo)
    let s := (Sample30.states.getD 3 State.reset)
    TetherMayRise s ∧ s.paired = true ∧ PeerAgrees s p) ∧
   (let p := ({ image := 0,   part := 0x2304#16,   rev := 0x01#8,   side := false,   paired := true,   fam441 := false,   mult := 0x0#2,   tick := 99 } : PeerInfo)
    let s := (Sample30.states.getD 3 State.reset)
    TetherMayRise s ∧ s.paired = true ∧ ¬ PeerAgrees s p) ∧
   (let s := (Sample30.states.getD 0 State.reset)
    ¬ TetherMayRise s) ∧
   (let s := (Sample30.states.getD 4 State.reset)
    let a := ({ seq := 7, c := 1000, words := [] } : FlxFrame)
    let b := (pick Sample30.xs_FlxFrame 1)
    s.held = false ∧ s.tetherUp = true ∧ s.tetherPair = some (a, b) ∧ s.paired = true) ∧
   (let s := (Sample30.states.getD 0 State.reset)
    s.held = false ∧ ((s.tetherUp = false ∨ s.tetherPair = none))) ∧
   (let s := (Sample30.states.getD 0 State.reset)
    s.held = false ∧ s.on Reg.FLT_TEST.TESTMODE = false) ∧
   (let s := (Sample30.states.getD 21 State.reset)
    s.on Reg.FLT_TEST.TESTMODE = true) ∧
   (let s := (Sample30.states.getD 18 State.reset)
    s.runs ∧ s.paired = true ∧ s.tth.beat = false ∧ s.tth.noBeat = 2) := by
  refine ⟨?_, ?_, ?_, ?_, ?_, ?_, ?_, ?_⟩ <;>
  (first | decide +kernel | (simp only [State.runs, TetherMayRise, PeerAgrees]; decide +kernel))

/-- The hypotheses of PairFailover are met (part 2). -/
theorem witness_PairFailover_2 :
   (let s := (Sample30.states.getD 0 State.reset)
    ((s.paired = false ∨ s.tth.beat = true ∨ s.tth.noBeat ≠ 2))) ∧
   (let s := (Sample30.states.getD 27 State.reset)
    s.runs ∧ s.takeTrigger = true ∧ s.tick + 1 < 2 ^ 64) ∧
   (let s := (Sample30.states.getD 0 State.reset)
    s.takeTrigger = false) ∧
   (let s := (Sample30.states.getD 14 State.reset)
    s.held = false ∧ s.pairSt = 4 ∧ s.tth.everTether = false ∧ s.tth.everActive = false ∧ s.on
    Reg.TTH_STATUS.PEER_ACTIVE = false ∧ s.mayLead = true) ∧
   (let s := (Sample30.states.getD 0 State.reset)
    ((s.pairSt ≠ 4 ∨ s.tth.everTether = true ∨ s.tth.everActive = true ∨ s.on
    Reg.TTH_STATUS.PEER_ACTIVE = true ∨ s.mayLead = false))) ∧
   (let s := (Sample30.states.getD 23 State.reset)
    s.runs ∧ s.pairSt = 1 ∧ s.tetherUp = true ∧ (peerWord s 0).getLsbD 19 = true ∧ s.tth.split =
    false ∧ s.tth.age < 2 ^ 32 ∧ ((s.tth.age < (peerWord s 1).toNat ∨ (s.tth.age = (peerWord s
    1).toNat ∧ s.on Reg.TTH_STATUS.SIDE = true)))) ∧
   (let s := (Sample30.states.getD 20 State.reset)
    s.runs ∧ s.pairSt = 1 ∧ s.tetherUp = true ∧ (peerWord s 0).getLsbD 19 = true ∧ s.tth.split =
    false ∧ s.tth.age < 2 ^ 32 ∧ (peerWord s 1).toNat < s.tth.age ∧ s.flt.faultLow = false) ∧
   (let v := (128001#32 : Word)
    let s := (Sample30.states.getD 18 State.reset)
    s.held = false ∧ s.flt.auditList = [] ∧ Admitted 0x140000 v ∧ v.getLsbD 0 = true ∧ s.pairSt = 1
    ∧ s.peerSt = 3) := by
  refine ⟨?_, ?_, ?_, ?_, ?_, ?_, ?_, ?_⟩ <;>
  (first | decide +kernel | (simp only [admitted_iff, State.runs]; decide +kernel))

/-- The hypotheses of PairFailover are met (part 3). -/
theorem witness_PairFailover_3 :
   (let v := (128001#32 : Word)
    let s := (Sample30.states.getD 0 State.reset)
    s.held = false ∧ s.flt.auditList = [] ∧ Admitted 0x140000 v ∧ v.getLsbD 0 = true ∧ ((s.pairSt ≠
    1 ∨ s.peerSt ≠ 3))) ∧
   (let s := (Sample30.states.getD 18 State.reset)
    s.runs ∧ s.pairSt = 1 ∧ s.tth.swapAt = some (s.tick + 1) ∧ s.peerSt = 3) ∧
   (let s := (Sample30.states.getD 23 State.reset)
    s.runs ∧ s.pairSt = 1 ∧ s.tth.swapAt = some (s.tick + 1) ∧ s.peerSt ≠ 3) ∧
   (let s := (Sample30.states.getD 10 State.reset)
    s.runs ∧ s.pairSt = 3 ∧ s.mayLead = true ∧ MirrorAt s (s.tick + 1)) ∧
   (let s := (Sample30.states.getD 18 State.reset)
    s.held = false ∧ s.tth.prearm = true) ∧
   (let s := (Sample30.states.getD 0 State.reset)
    s.tth.prearm = false) ∧
   (let s := (Sample30.states.getD 7 State.reset)
    let n := (12 : Nat)
    s.held = false ∧ s.isStandby = true ∧ s.on Reg.TTH_STATUS.PREARM = false ∧ s.nextMarginLane =
    some n) ∧
   (let s := (Sample30.states.getD 0 State.reset)
    ((s.isStandby = false ∨ s.on Reg.TTH_STATUS.PREARM = true))) := by
  refine ⟨?_, ?_, ?_, ?_, ?_, ?_, ?_, ?_⟩ <;>
  (first | decide +kernel | (simp only [admitted_iff, State.runs, MirrorAt]; decide +kernel))

/-- The hypotheses of PairLogMirrorResync are met (part 1). -/
theorem witness_PairLogMirrorResync_1 :
   (let a := (0xA0020 : Nat)
    let s := (R0.wr Reg.TTH_STATUS.STATE 1 : State)
    let fs := (fieldsAt 0xA0020).getD []
    s.held = false ∧ s.paired = true ∧ a < 0x170000 ∧ a ≠ 0x100 ∧ actsLocally a = false ∧ fieldsAt a
    = some fs ∧ hasControl fs = true ∧ s.pairSt = 1 ∧ s.tth.log.length < 8192) ∧
   (let a := (0xA0020 : Nat)
    let s := ({ R0.wr Reg.TTH_STATUS.STATE 1 with tth := { R0.tth with log := List.replicate 8192 ⟨5, 0xA0020, 4, 7⟩ } } : State)
    let fs := (fieldsAt 0xA0020).getD []
    s.held = false ∧ s.paired = true ∧ a < 0x170000 ∧ a ≠ 0x100 ∧ actsLocally a = false ∧ fieldsAt a
    = some fs ∧ hasControl fs = true ∧ s.pairSt = 1 ∧ 8192 ≤ s.tth.log.length) ∧
   (let a := (0xA0020 : Nat)
    let s := (R0.wr Reg.TTH_STATUS.STATE 3 : State)
    let fs := (fieldsAt 0xA0020).getD []
    s.held = false ∧ s.paired = true ∧ a < 0x170000 ∧ a ≠ 0x100 ∧ actsLocally a = false ∧ fieldsAt a
    = some fs ∧ hasControl fs = true ∧ s.pairSt ≠ 1) ∧
   (let a := (0 : Nat)
    let s := (Sample30b.states.getD 0 State.reset)
    ((s.paired = false ∨ actsLocally a = true))) ∧
   (let s := (Sample30b.states.getD 6 State.reset)
    let r := ({ seq := 7, addr := 655392, size := 4, data := 5 } : LogRec)
    s.runs ∧ s.pairSt = 1 ∧ MirrorAt s (s.tick + 4) ∧ (∀ q, s.tth.apply ≠ some (q, s.tick + 4)) ∧
    ((s.tetherUp = false ∨ s.peerSt < 2 ∨ 4 < s.peerSt)) ∧ s.tth.log.getLast? = some r) ∧
   (let s := (Sample30b.states.getD 7 State.reset)
    let l := ([{ seq := 6, addr := 655392, size := 4, data := 6 }] : List (LogRec))
    let r := ({ seq := 7, addr := 655392, size := 4, data := 5 } : LogRec)
    let m := ([{ seq := 8, addr := 655392, size := 4, data := 6 }] : List (LogRec))
    s.runs ∧ s.pairSt = 1 ∧ MirrorAt s (s.tick + 4) ∧ (∀ q, s.tth.apply ≠ some (q, s.tick + 4)) ∧
    s.tetherUp = true ∧ 2 ≤ s.peerSt ∧ s.peerSt ≤ 4 ∧ s.tth.bulkWait = [] ∧ s.tth.log = l ++ r :: m
    ∧ (∀ x ∈ l, x.seq ≠ r.seq) ∧ s.tth.acked = some r.seq) ∧
   (let s := (Sample30b.states.getD 0 State.reset)
    ((s.pairSt ≠ 1 ∨ ¬ MirrorAt s (s.tick + 4)))) ∧
   (let s := (Sample30b.states.getD 5 State.reset)
    let q := (7 : Nat)
    let r := (5 : Nat)
    let m := ([{ seq := 8, addr := 655392, size := 4, data := 6 }] : List (LogRec))
    s.runs ∧ s.flt.auditList = [] ∧ s.paired = true ∧ MirrorAt s s.tick ∧ s.tth.apply = some (q,
    s.tick) ∧ s.tth.log = ⟨q, 0xA0020, 4, r⟩ :: m ∧ r < 2304 ∧ m.length < 8192) := by
  refine ⟨?_, ?_, ?_, ?_, by dsimp only; exact ⟨by unfold State.runs; decide +kernel, by decide +kernel, by unfold MirrorAt; decide +kernel, no_apply (by decide +kernel), by decide +kernel, by decide +kernel⟩, by dsimp only; exact ⟨by unfold State.runs; decide +kernel, by decide +kernel, by unfold MirrorAt; decide +kernel, no_apply (by decide +kernel), by decide +kernel⟩, ?_, ?_⟩ <;>
  (first | decide +kernel | (simp only [State.runs, MirrorAt]; decide +kernel))

/-- The hypotheses of PairLogMirrorResync are met (part 2). -/
theorem witness_PairLogMirrorResync_2 :
   (let s := (Sample30b.states.getD 9 State.reset)
    s.runs ∧ s.flt.auditList = [] ∧ s.paired = true ∧ MirrorAt s s.tick ∧ (∀ q, s.tth.apply ≠ some
    (q, s.tick)) ∧ s.followsPeer = true) ∧
   (let s := (Sample30b.states.getD 2 State.reset)
    s.runs ∧ s.flt.auditList = [] ∧ s.paired = true ∧ MirrorAt s s.tick ∧ (∀ q, s.tth.apply ≠ some
    (q, s.tick)) ∧ s.followsPeer = false) ∧
   (let s := (Sample30b.states.getD 0 State.reset)
    ((s.paired = false ∨ ¬ MirrorAt s s.tick))) ∧
   (let s := (Sample30b.states.getD 4 State.reset)
    s.runs ∧ ((s.pairSt = 1 ∨ s.followsPeer = true)) ∧ MirrorAt s (s.tick + 8)) ∧
   (let s := (Sample30b.states.getD 0 State.reset)
    (((s.pairSt ≠ 1 ∧ s.followsPeer = false) ∨ ¬ MirrorAt s (s.tick + 8)))) ∧
   (let items := (pick Sample30b.xs_MirrorItems 1)
    let s := (Sample30b.states.getD 9 State.reset)
    s.runs ∧ s.followsPeer = true ∧ MirrorAt s s.tick ∧ items.compared ≠ s.tth.mirror) ∧
   (let items := (pick Sample30b.xs_MirrorItems 0)
    let s := (Sample30b.states.getD 9 State.reset)
    let b := (5 : Nat)
    let l := ([1#8, 2#8] : List (BitVec 8))
    s.runs ∧ s.followsPeer = true ∧ MirrorAt s s.tick ∧ items = ⟨s.tth.mirror, [], [(b, l)], [], {}⟩) ∧
   (let items := (pick Sample30b.xs_MirrorItems 2)
    let s := (Sample30b.states.getD 9 State.reset)
    let d0 := ({ d := 5, inc := 1180591620717411303427, ofs := -6, step := true } : MirrorDomain)
    let d1 := ({ d := 5, inc := 1180591620717411303427, ofs := -6, step := true } : MirrorDomain)
    let d2 := ({ d := 5, inc := 1180591620717411303427, ofs := -6, step := true } : MirrorDomain)
    let d3 := ({ d := 5, inc := 1180591620717411303427, ofs := -6, step := true } : MirrorDomain)
    s.runs ∧ s.followsPeer = true ∧ MirrorAt s s.tick ∧ items = ⟨s.tth.mirror, [d0, d1, d2, d3], [],
    [], {}⟩) := by
  refine ⟨by dsimp only; exact ⟨by unfold State.runs; decide +kernel, by decide +kernel, by decide +kernel, by unfold MirrorAt; decide +kernel, no_apply (by decide +kernel), by decide +kernel⟩, by dsimp only; exact ⟨by unfold State.runs; decide +kernel, by decide +kernel, by decide +kernel, by unfold MirrorAt; decide +kernel, no_apply (by decide +kernel), by decide +kernel⟩, ?_, ?_, ?_, ?_, ?_, ?_⟩ <;>
  (first | decide +kernel | (simp only [State.runs, MirrorAt]; decide +kernel))

/-- The hypotheses of PairLogMirrorResync are met (part 3). -/
theorem witness_PairLogMirrorResync_3 :
   (let items := (pick Sample30b.xs_MirrorItems 3)
    let s := (Sample30b.states.getD 30 State.reset)
    let bulk := (pick Sample30b.xs_BulkItems 0)
    s.runs ∧ s.pairSt = 2 ∧ s.rd Reg.TTH_RESYNC.STEP = 1 ∧ MirrorAt s s.tick ∧ items =
    ⟨s.tth.mirror, [], [], [], bulk⟩) ∧
   (let s := (Sample30b.states.getD 0 State.reset)
    ((s.followsPeer = false ∨ ¬ MirrorAt s s.tick))) ∧
   (let s := (Sample30b.states.getD 30 State.reset)
    let st := s.rd Reg.TTH_RESYNC.STEP
    s.runs ∧ s.pairSt = 2 ∧ st = 1) ∧
   (let s := (Sample30b.states.getD 8 State.reset)
    s.runs ∧ s.pairSt = 1 ∧ s.peerSt = 2) ∧
   (let s := (Sample30b.states.getD 1 State.reset)
    let st := s.rd Reg.TTH_RESYNC.STEP
    s.runs ∧ s.pairSt ≠ 1 ∧ ((s.pairSt ≠ 2 ∨ st ≠ 1))) ∧
   (let s := (Sample30b.states.getD 31 State.reset)
    let w := s.rd Reg.TTH_CONV.W
    let k := s.tth.since + 1
    let st := s.rd Reg.TTH_RESYNC.STEP
    s.runs ∧ s.tth.rot = true ∧ s.pairSt = 2 ∧ st = 2 ∧ 192 ≤ k ∧ k < w + 256) ∧
   (let s := (Sample30b.states.getD 1 State.reset)
    let k := s.tth.since + 1
    let st := s.rd Reg.TTH_RESYNC.STEP
    s.runs ∧ ((s.tth.rot = false ∨ s.pairSt ≠ 2 ∨ st ≠ 2 ∨ k < 192))) ∧
   (let s := (Sample30b.states.getD 35 State.reset)
    let w := s.rd Reg.TTH_CONV.W
    let k := s.tth.since + 1
    s.runs ∧ s.pairSt = 2 ∧ s.tth.rot = true ∧ k = w) := by
  refine ⟨?_, ?_, ?_, ?_, ?_, ?_, ?_, ?_⟩ <;>
  (first | decide +kernel | (simp only [State.runs, MirrorAt]; decide +kernel))

/-- The hypotheses of PairLogMirrorResync are met (part 4). -/
theorem witness_PairLogMirrorResync_4 :
   (let s := (Sample30b.states.getD 1 State.reset)
    let w := s.rd Reg.TTH_CONV.W
    let k := s.tth.since + 1
    s.runs ∧ ((s.pairSt ≠ 2 ∨ s.tth.rot = false ∨ k ≠ w))) ∧
   (let s := (Sample30b.states.getD 32 State.reset)
    let w := s.rd Reg.TTH_CONV.W
    let k := s.tth.since + 1
    let st := s.rd Reg.TTH_RESYNC.STEP
    s.runs ∧ s.tth.rot = true ∧ s.pairSt = 2 ∧ ((st = 2 ∨ st = 3)) ∧ 192 ≤ k ∧ w + 256 ≤ k) ∧
   (let s := (Sample30b.states.getD 1 State.reset)
    let w := s.rd Reg.TTH_CONV.W
    let k := s.tth.since + 1
    s.runs ∧ ((s.tth.rot = false ∨ k < w + 256))) ∧
   (let s := (Sample30b.states.getD 36 State.reset)
    let st := s.rd Reg.TTH_RESYNC.STEP
    s.runs ∧ s.pairSt = 2 ∧ st = 4 ∧ 1000 ≤ s.tth.clean) ∧
   (let s := (Sample30b.states.getD 1 State.reset)
    let st := s.rd Reg.TTH_RESYNC.STEP
    s.runs ∧ ((s.pairSt ≠ 2 ∨ st ≠ 4 ∨ s.tth.clean < 1000))) ∧
   (let s := (Sample30b.states.getD 37 State.reset)
    let w := s.rd Reg.TTH_CONV.W
    s.runs ∧ s.pairSt = 2 ∧ s.tth.rot = true ∧ s.tth.since = w + 31) ∧
   (let s := (Sample30b.states.getD 32 State.reset)
    let w := s.rd Reg.TTH_CONV.W
    s.runs ∧ s.pairSt = 2 ∧ s.tth.rot = true ∧ s.tth.since = w + 255) ∧
   (let s := (Sample30b.states.getD 1 State.reset)
    let w := s.rd Reg.TTH_CONV.W
    s.runs ∧ ((s.pairSt ≠ 2 ∨ s.tth.rot = false ∨ (s.tth.since ≠ w + 31 ∧ s.tth.since ≠ w + 255)))) := by
  refine ⟨?_, ?_, ?_, ?_, ?_, ?_, ?_, ?_⟩ <;>
  (first | decide +kernel | (simp only [State.runs]; decide +kernel))

/-- The hypotheses of FabricTransactions are met (part 1). -/
theorem witness_FabricTransactions_1 :
   (let h := (true : Bool)
    let a := (268435456#32 : Word)
    let s := (Sample31.states.getD 0 State.reset)
    let j := if h then 3 else 0
    let p := placeOf (s.romFor j) a.toNat
    s.held = false ∧ p ≠ .none ∧ fabTarget a.toNat < 2) ∧
   (let h := (false : Bool)
    let a := (0x20000000 : Word)
    let s := (R0 : State)
    let j := if h then 3 else 0
    let p := placeOf (s.romFor j) a.toNat
    s.held = false ∧ p ≠ .none ∧ 2 ≤ fabTarget a.toNat) ∧
   (let h := (true : Bool)
    let a := (1879048192#32 : Word)
    let s := (Sample31.states.getD 0 State.reset)
    let j := if h then 3 else 0
    let p := placeOf (s.romFor j) a.toNat
    s.held = false ∧ p = .none) ∧
   (let h := (true : Bool)
    let a := (268435456#32 : Word)
    let s := (Sample31.states.getD 0 State.reset)
    let j := if h then 3 else 0
    let p := placeOf (s.romFor j) a.toNat
    s.held = false ∧ p ≠ .none) ∧
   (let t := (0 : Fin 5)
    let c := (1 : Nat)
    let s := (Sample31.states.getD 3 State.reset)
    let x := (pick Sample31.xs_FabReq 0)
    let y := (pick Sample31.xs_FabReq 1)
    s.held = false ∧ sfind t.val s.fab.served = none ∧ s.grantable t c = [x, y] ∧ s.rd
    Reg.FAB_ARB.AGE = 0 ∧ s.priority t x.master < s.priority t y.master ∧ s.priority t y.master ≤ 15
    ∧ x.master < 6 ∧ y.master < 6) ∧
   (∃ g, (Sample31.states.getD 5 State.reset).held = false ∧ sfind 0 (Sample31.states.getD 5
    State.reset).fab.served = some g) ∧
   (let t := (0 : Fin 5)
    let s := (Sample31.states.getD 5 State.reset)
    let g := (pick Sample31.xs_FabGrant 0)
    let x := (2097160 : Nat)
    s.held = false ∧ sfind t.val s.fab.served = some g ∧ g.retired = false ∧ placeOf g.req.rom
    g.req.addr = .ram x ∧ s.ramTorn x g.req.size = false ∧ s.ramMarks x g.req.size = [] ∧ 0 <
    g.req.size) ∧
   (let t := (0 : Fin 5)
    let s := (Sample31.states.getD 0 State.reset)
    s.held = false ∧ sfind t.val s.fab.served = none) := by
  refine ⟨?_, ?_, ?_, ?_, ?_, by exact ⟨_, by decide +kernel, rfl⟩, ?_, ?_⟩ <;>
  decide +kernel

/-- The hypotheses of FabricTransactions are met (part 2). -/
theorem witness_FabricTransactions_2 :
   (let c := (164 : Nat)
    let s := (Sample31.states.getD 4 State.reset)
    let l := ({ master := 3, target := 0, since := 100 } : FabLock)
    s.held = false ∧ s.fab.lock = some l ∧ l.since + 64 ≤ c) ∧
   (let c := (0 : Nat)
    let s := (Sample31.states.getD 4 State.reset)
    let l := ({ master := 3, target := 0, since := 100 } : FabLock)
    s.held = false ∧ s.fab.lock = some l ∧ c < l.since + 64) ∧
   (let m := (3 : Fin 6)
    let s := (Sample31.states.getD 0 State.reset)
    s.held = false ∧ m.val ≠ 0) ∧
   (let m := (0 : Fin 6)
    let s := (Sample31.states.getD 0 State.reset)
    s.held = false ∧ m.val = 0) ∧
   (let s := (Sample31.states.getD 0 State.reset)
    s.held = false ∧ (s.fab.served.map Prod.fst).Nodup ∧ ((∀ p ∈ s.fab.served, p.2.retired = true →
    p.2.req.size = 0))) ∧
   (let s := (Sample31.states.getD 0 State.reset)
    s.held = false ∧ s.flt.auditList = []) ∧
   (let c := (1 : Nat)
    let s := (Sample31.states.getD 0 State.reset)
    s.held = false ∧ c < 0x170000 ∧ c % 4 ≠ 0) ∧
   (let c := (1507328 : Nat)
    let s := (Sample31.states.getD 0 State.reset)
    s.held = false ∧ 0x170000 ≤ c) := by
  refine ⟨?_, ?_, ?_, ?_, ?_, ?_, ?_, ?_⟩ <;>
  decide +kernel

/-- The hypotheses of FabricTransactions are met (part 3). -/
theorem witness_FabricTransactions_3 :
   (let c := (0x14 : Nat)
    let s := (R0 : State)
    let fs := (fieldsAt 0x14).getD []
    s.held = false ∧ c < 0x170000 ∧ c % 4 = 0 ∧ fieldsAt c = some fs ∧ s.windowReg c = none ∧
    s.shownBit c = none) := by
  decide +kernel

/-- The hypotheses of OverdueTransactionIsRetired are met. -/
theorem witness_OverdueTransactionIsRetired :
   (let t := (0 : Fin 5)
    let c := (1507328 : Nat)
    let g := (pick Sample31b.xs_FabGrant 0)
    let s := (Sample31b.states.getD 5 State.reset)
    s.held = false ∧ sfind t.val s.fab.served = some g ∧ g.retired = false ∧ g.since + s.rd
    Reg.FAB_TMO.CYCLES ≤ c) ∧
   (let t := (0 : Fin 5)
    let c := (0 : Nat)
    let g := (pick Sample31b.xs_FabGrant 0)
    let s := (Sample31b.states.getD 5 State.reset)
    s.held = false ∧ sfind t.val s.fab.served = some g ∧ g.retired = false ∧ c < g.since + s.rd
    Reg.FAB_TMO.CYCLES) ∧
   (let t := (0 : Fin 5)
    let g := (pick Sample31b.xs_FabGrant 3)
    let s := (Sample31b.states.getD 8 State.reset)
    s.held = false ∧ sfind t.val s.fab.served = some g ∧ g.retired = true ∧ g.req.write = false) ∧
   (let t := (0 : Fin 5)
    let g := (pick Sample31b.xs_FabGrant 2)
    let s := (Sample31b.states.getD 7 State.reset)
    let x := (2097160 : Nat)
    s.held = false ∧ sfind t.val s.fab.served = some g ∧ g.retired = true ∧ g.req.write = true ∧
    placeOf g.req.rom g.req.addr = .ram x ∧ s.ramTorn x g.req.size = false) := by
  refine ⟨?_, ?_, ?_, ?_⟩ <;>
  decide +kernel

/-- The hypotheses of DmaChannels are met (part 1). -/
theorem witness_DmaChannels_1 :
   (let c := (40 : Fin 64)
    let s := (Sample31d.states.getD 0 State.reset)
    let st := s.dmaState c
    let w0 := (0 : Nat)
    let w1 := (0 : Nat)
    let w2 := (0 : Nat)
    let w3 := (0 : Nat)
    DmaWritable s ∧ st ≠ 1 ∧ st ≠ 2 ∧ DescAt s (s.rd (Reg.DMA_CH_DESC.FIRST c)) w0 w1 w2 w3) ∧
   (let c := (40 : Fin 64)
    let s := (Sample31d.states.getD 11 State.reset)
    let st := s.dmaState c
    DmaWritable s ∧ ((st = 1 ∨ st = 2))) ∧
   (let c := (40 : Fin 64)
    let s := (Sample31d.states.getD 11 State.reset)
    let st := s.dmaState c
    DmaWritable s ∧ st = 1) ∧
   (let c := (40 : Fin 64)
    let s := (Sample31d.states.getD 20 State.reset)
    let st := s.dmaState c
    DmaWritable s ∧ st = 2) ∧
   (let c := (40 : Fin 64)
    let s := (Sample31d.states.getD 0 State.reset)
    let st := s.dmaState c
    DmaWritable s ∧ st ≠ 1 ∧ st ≠ 2) ∧
   (let c := (40 : Fin 64)
    let s := (Sample31d.states.getD 21 State.reset)
    let st := s.dmaState c
    let a := descAddr (s.rd (Reg.DMA_CH_STATUS.CUR c)) + 24
    DmaWritable s ∧ st = 2 ∧ s.ramMarks a 8 = [] ∧ (s.load a 8).testBit 48 = true) ∧
   (let c := (40 : Fin 64)
    let s := (Sample31d.states.getD 20 State.reset)
    let st := s.dmaState c
    let w0 := (0 : Nat)
    let w1 := (0 : Nat)
    let w2 := (0 : Nat)
    let w3 := (0 : Nat)
    let a := descAddr (s.rd (Reg.DMA_CH_STATUS.CUR c)) + 24
    let n := s.load a 8 / 2 ^ 49
    DmaWritable s ∧ st = 2 ∧ s.ramMarks a 8 = [] ∧ (s.load a 8).testBit 48 = false ∧ DescAt s n w0
    w1 w2 w3 ∧ w1 / 2 ^ 61 = 0 ∧ w0 / 2 ^ 32 % 4 = 0 ∧ w0 % 4 = 0) ∧
   (let s := (Sample31d.states.getD 0 State.reset)
    DmaWritable s) := by
  refine ⟨?_, ?_, ?_, ?_, ?_, ?_, ?_, ?_⟩ <;>
  (first | decide +kernel | (simp only [DmaWritable, DescAt]; decide +kernel))

/-- The hypotheses of DmaChannels are met (part 2). -/
theorem witness_DmaChannels_2 :
   (let v := (1#32 : Word)
    let s := (Sample31d.states.getD 0 State.reset)
    DmaWritable s ∧ v.getLsbD 0 = true) ∧
   (let v := (0#32 : Word)
    let s := (Sample31d.states.getD 0 State.reset)
    DmaWritable s ∧ v.getLsbD 0 = false) ∧
   (let c := (40 : Fin 64)
    let s := (Sample31d.states.getD 11 State.reset)
    let x := s.dmaCh c
    let p := (2097216 : Nat)
    let q := (2097408 : Nat)
    DmaReady s c 0 ∧ RamAt s x.src p ∧ RamAt s x.dst q) ∧
   (let c := (40 : Fin 64)
    let s := (Sample31d.states.getD 16 State.reset)
    let x := s.dmaCh c
    let q := (2097408 : Nat)
    DmaReady s c 1 ∧ RamAt s x.dst q) ∧
   (DmaReady dmaCmp 63 2 ∧ RamAt dmaCmp (dmaCmp.dmaCh 63).src 0x2FFFFC ∧ RamAt dmaCmp (dmaCmp.dmaCh
    63).dst 0x200040) ∧
   (let c := (40 : Fin 64)
    let s := (Sample31d.states.getD 0 State.reset)
    let x := s.dmaCh c
    ((s.dmaMay c = false ∨ (x.newBursts ≠ 0 ∧ s.dmaTurn ≠ some c.val)))) ∧
   (let c := (40 : Fin 64)
    let s := (Sample31d.states.getD 13 State.reset)
    let st := s.dmaState c
    let x := s.dmaCh c
    s.runs ∧ st = 1 ∧ ((x.issued = true ∨ x.mis = true))) ∧
   (let c := (40 : Fin 64)
    let s := (Sample31d.states.getD 0 State.reset)
    let st := s.dmaState c
    let x := s.dmaCh c
    ((st ≠ 1 ∨ (x.issued = false ∧ x.mis = false)))) := by
  refine ⟨?_, ?_, ?_, ?_, by unfold DmaReady RamAt State.runs; decide +kernel, ?_, ?_, ?_⟩ <;>
  (first | decide +kernel | (simp only [State.runs, DmaReady, RamAt, DmaWritable]; decide +kernel))

/-- The hypotheses of FaultCollection are met (part 1). -/
theorem witness_FaultCollection_1 :
   (let s := (Sample32.states.getD 3 State.reset)
    let n := (103 : Nat)
    let rest := ([] : List (Nat))
    s.held = false ∧ s.flt.arriving = n :: rest ∧ faultListed n = true ∧ s.on (Reg.FLT_SRC.RAILBAD
    n) = false ∧ s.rd (Reg.FLT_SRC.LEVEL n) ≤ 4) ∧
   (let s := (Sample32.states.getD 19 State.reset)
    let n := (103 : Nat)
    let rest := ([] : List (Nat))
    s.held = false ∧ s.flt.arriving = n :: rest ∧ s.on (Reg.FLT_SRC.RAILBAD n) = true) ∧
   (let s := (Sample32.states.getD 18 State.reset)
    let n := (105 : Nat)
    let m := (110 : Nat)
    s.held = false ∧ s.flt.arriving = [m, n] ∧ n < m ∧ m ≤ 110 ∧ faultListed n = true ∧ faultListed
    m = true ∧ faultClass n = faultClass m ∧ s.classPending (faultClass n) = false ∧ faultFixed m =
    0 ∧ s.on (Reg.FLT_SRC.RAILBAD n) = false ∧ s.on (Reg.FLT_SRC.RAILBAD m) = false ∧ ownLevel s n =
    1 ∧ ownLevel s m = 1) ∧
   (let s := (Sample32.states.getD 0 State.reset)
    s.held = false ∧ s.flt.reacting = []) ∧
   (let s := (Sample32.states.getD 22 State.reset)
    let r := ({ src := 103, level := 0, escalated := false, nobr := false, pin := false, tick := 99 } : Reaction)
    let rest := ([] : List (List (Reaction)))
    s.held = false ∧ s.flt.reacting = [r] :: rest ∧ r.src < 256 ∧ r.level = 0 ∧ r.pin = false) ∧
   (let s := (Sample32.states.getD 24 State.reset)
    let r := ({ src := 103, level := 1, escalated := false, nobr := false, pin := true, tick := 99 } : Reaction)
    let rest := ([] : List (List (Reaction)))
    s.held = false ∧ s.flt.reacting = [r] :: rest ∧ r.src < 256 ∧ ((r.level = 1 ∨ r.level = 2))) ∧
   (let s := (Sample32.states.getD 28 State.reset)
    let r := ({ src := 103, level := 3, escalated := false, nobr := false, pin := true, tick := 99 } : Reaction)
    let rest := ([] : List (List (Reaction)))
    s.held = false ∧ s.flt.reacting = [r] :: rest ∧ r.src < 256 ∧ r.level = 3 ∧ 103 ≤ r.src ∧ r.src
    ≤ 108) ∧
   (let s := (Sample32.states.getD 32 State.reset)
    let r := ({ src := 103, level := 4, escalated := true, nobr := false, pin := true, tick := 99 } : Reaction)
    let rest := ([] : List (List (Reaction)))
    s.held = false ∧ s.flt.reacting = [r] :: rest ∧ r.src < 256 ∧ r.level = 4 ∧ MayWarm s) := by
  refine ⟨?_, ?_, ?_, ?_, ?_, ?_, ?_, ?_⟩ <;>
  (first | decide +kernel | (simp only [MayWarm]; decide +kernel))

/-- The hypotheses of FaultCollection are met (part 2). -/
theorem witness_FaultCollection_2 :
   (let s := ({ R0 with flt := { R0.flt with reacting := [[⟨255, 4, true, false, true, 99⟩, ⟨0, 4, false, false, false, 0⟩]] } } : State)
    let a := (⟨255, 4, true, false, true, 99⟩ : Reaction)
    let b := (⟨0, 4, false, false, false, 0⟩ : Reaction)
    let rest := ([] : List (List Reaction))
    s.held = false ∧ s.flt.reacting = [a, b] :: rest ∧ a.level = 4 ∧ b.level = 4 ∧ a.src < 256 ∧
    b.src < 256 ∧ MayWarm s) ∧
   (let s := (Sample32.states.getD 0 State.reset)
    s.held = false) ∧
   (let s := (Sample32.states.getD 1 State.reset)
    s.held = false ∧ s.pinPending = false ∧ s.resetLow = false ∧ s.flt.stuckLow = false) ∧
   (let s := (Sample32.states.getD 20 State.reset)
    s.held = false ∧ ((s.pinPending = true ∨ s.flt.stuckLow = true))) ∧
   (let s := (Sample32.states.getD 0 State.reset)
    s.held = false ∧ FltWritable s) ∧
   (let s := (R0.wr Reg.FLT_WDT.WDT_MS 0 : State)
    s.held = false ∧ s.rd Reg.FLT_WDT.WDT_MS = 0) ∧
   (let s := (Sample32.states.getD 0 State.reset)
    s.held = false ∧ s.rd Reg.FLT_WDT.WDT_MS ≠ 0) := by
  refine ⟨?_, ?_, ?_, ?_, ?_, ?_, ?_⟩ <;>
  (first | decide +kernel | (simp only [MayWarm, FltWritable]; decide +kernel))

/-- The hypotheses of RailsSuppliesAndAudit are met (part 1). -/
theorem witness_RailsSuppliesAndAudit_1 :
   (let n := (1 : Fin 256)
    let s := (Sample32c.states.getD 0 State.reset)
    s.held = false ∧ faultListed n = true ∧ n.val ≠ 0) ∧
   (let n := (0 : Fin 256)
    let s := (Sample32c.states.getD 0 State.reset)
    s.held = false ∧ n.val = 0) ∧
   (let n := (255 : Fin 256)
    let s := (R0 : State)
    s.held = false ∧ faultListed n = false) ∧
   (let v := (49594#32 : Word)
    let k := (0 : Nat)
    let s := (Sample32c.states.getD 0 State.reset)
    let want := [0x0000C1BA#32, 0x00007E57#32, 0x0000FA17#32]
    let j := s.flt.unlock
    let inTime := j = 0 ∨ k ≤ s.flt.unlockStart + 1000
    s.held = false ∧ FltWritable s ∧ j < 2 ∧ v = want.getD j 0 ∧ inTime) ∧
   (let v := (64023#32 : Word)
    let k := (0 : Nat)
    let s := (Sample32c.states.getD 3 State.reset)
    let want := [0x0000C1BA#32, 0x00007E57#32, 0x0000FA17#32]
    let j := s.flt.unlock
    let inTime := j = 0 ∨ k ≤ s.flt.unlockStart + 1000
    s.held = false ∧ FltWritable s ∧ j = 2 ∧ v = want.getD j 0 ∧ inTime) ∧
   (let v := (49594#32 : Word)
    let s := (Sample32c.states.getD 2 State.reset)
    let want := [0x0000C1BA#32, 0x00007E57#32, 0x0000FA17#32]
    let j := s.flt.unlock
    s.held = false ∧ FltWritable s ∧ j ≤ 2 ∧ v ≠ want.getD j 0) ∧
   (let s := (Sample32c.states.getD 0 State.reset)
    s.held = false ∧ FltWritable s ∧ s.on Reg.FLT_TEST.TESTMODE = false) ∧
   (let v := (1127#32 : Word)
    let s := (Sample32c.states.getD 5 State.reset)
    let m := Reg.FLT_INJ.SRC.part v
    s.held = false ∧ FltWritable s ∧ s.on Reg.FLT_TEST.TESTMODE = true ∧ Admitted 0x40028 v ∧
    v.getLsbD 10 = true ∧ faultListed m = true ∧ Reg.FLT_INJ.MODE.part v = 0) := by
  refine ⟨?_, ?_, ?_, ?_, ?_, ?_, ?_, ?_⟩ <;>
  (first | decide +kernel | (simp only [admitted_iff, FltWritable]; decide +kernel))

/-- The hypotheses of RailsSuppliesAndAudit are met (part 2). -/
theorem witness_RailsSuppliesAndAudit_2 :
   (let v := (32343#32 : Word)
    let s := (Sample32c.states.getD 5 State.reset)
    let m := Reg.FLT_INJ.SRC.part v
    s.held = false ∧ FltWritable s ∧ s.on Reg.FLT_TEST.TESTMODE = true ∧ Admitted 0x40028 v ∧
    v.getLsbD 10 = true ∧ faultListed m = true ∧ Reg.FLT_INJ.MODE.part v ≠ 0) ∧
   (let s := (Sample32c.states.getD 0 State.reset)
    s.held = false) ∧
   (let r := (5 : Fin 6)
    let s := (Sample32c.states.getD 6 State.reset)
    s.held = false ∧ s.on (Reg.PWR_RAIL_STATUS.WARN r) = true) ∧
   (let r := (5 : Fin 6)
    let s := (Sample32c.states.getD 0 State.reset)
    s.held = false ∧ s.on (Reg.PWR_RAIL_STATUS.WARN r) = false) ∧
   (let l := ([1#12, 2#12, 3#12, 4#12, 5#12, 6#12] : List (BitVec 12))
    let s := (Sample32c.states.getD 0 State.reset)
    s.held = false ∧ l.length = 6) ∧
   (let s := (R0.put Reg.FLT_AUD.EN false : State)
    s.held = false ∧ s.on Reg.FLT_AUD.EN = false) ∧
   (let s := (Sample32c.states.getD 8 State.reset)
    s.held = false ∧ s.on Reg.FLT_AUD.EN = true ∧ s.on Reg.FLT_AUD_JPTR.OVF = true) ∧
   (let s := (Sample32c.states.getD 0 State.reset)
    s.held = false ∧ s.on Reg.FLT_AUD.EN = true ∧ s.on Reg.FLT_AUD_JPTR.OVF = false ∧ s.rd
    Reg.FLT_AUD_JPTR.TAIL = s.rd Reg.FLT_AUD_JPTR.HEAD ∧ (∀ a ∈ s.flt.auditList, s.auditValue a =
    sget 0 a s.flt.auditCopy)) := by
  refine ⟨?_, ?_, ?_, ?_, ?_, ?_, ?_, ?_⟩ <;>
  (first | decide +kernel | (simp only [admitted_iff, FltWritable]; decide +kernel))

/-- The hypotheses of RailsSuppliesAndAudit are met (part 3). -/
theorem witness_RailsSuppliesAndAudit_3 :
   (let s := (Sample32c.states.getD 9 State.reset)
    s.held = false ∧ s.on Reg.FLT_AUD.EN = true ∧ s.on Reg.FLT_AUD_JPTR.OVF = false ∧ s.rd
    Reg.FLT_AUD_JPTR.TAIL = s.rd Reg.FLT_AUD_JPTR.HEAD ∧ s.flt.auditList = [0x14] ∧ s.auditValue
    0x14 ≠ sget 0 0x14 s.flt.auditCopy) := by
  decide +kernel

/-- The hypotheses of StartSteps are met (part 1). -/
theorem witness_StartSteps_1 :
   (let s := (Sample33.states.getD 0 State.reset)
    AtStep s 1 ∧ ((∀ r, r ∈ [0, 1, 2, 5] → s.on (Reg.PWR_RAIL_STATUS.WARN r) = false))) ∧
   (let s := (Sample33.states.getD 4 State.reset)
    let r := (2 : Nat)
    AtStep s 1 ∧ r ∈ [0, 1, 2, 5] ∧ s.on (Reg.PWR_RAIL_STATUS.WARN r) = true) ∧
   (let s := (Sample33.states.getD 0 State.reset)
    AtStep s 1) ∧
   (let s := (Sample33.states.getD 6 State.reset)
    AtStep s 2) ∧
   (let s := (Sample33.states.getD 6 State.reset)
    AtStep s 2 ∧ s.bootWarm = false) ∧
   (let st := ({ bootSel := 0x0#2, side := false, test := 0x0#2, bad := false } : Straps)
    let s := (Sample33.states.getD 7 State.reset)
    AtStep s 2 ∧ s.bootWarm = true ∧ s.on Reg.CLK_STATUS.XO_OK = true ∧ s.on
    Reg.CLK_STATUS.ROOT_LOCK = true ∧ s.on Reg.BOOT_CTRL.WARMBIST = false ∧ st.bootSel = 0) ∧
   (let s := (Sample33.states.getD 10 State.reset)
    AtStep s 3) ∧
   (let s := (Sample33.states.getD 14 State.reset)
    AtStep s 4 ∧ s.bootWarm = false) := by
  refine ⟨?_, ?_, ?_, ?_, ?_, ?_, ?_, ?_⟩ <;>
  (first | decide +kernel | (simp only [AtStep]; decide +kernel))

/-- The hypotheses of StartSteps are met (part 2). -/
theorem witness_StartSteps_2 :
   (let s := (Sample33.states.getD 14 State.reset)
    AtStep s 4 ∧ s.boot.tries < 2) ∧
   (let s := (Sample33.states.getD 16 State.reset)
    AtStep s 4 ∧ 2 ≤ s.boot.tries) ∧
   (let s := (Sample33.states.getD 18 State.reset)
    AtStep s 5 ∧ s.bootWarm = false) ∧
   (let s := (Sample33.states.getD 18 State.reset)
    AtStep s 5) ∧
   (let s := (Sample33.states.getD 22 State.reset)
    AtStep s 6 ∧ s.boot.otp.pcieMode = 0 ∧ s.rd Reg.BOOT_STATUS.SEL < 2) ∧
   (let s := (Sample33.states.getD 25 State.reset)
    AtStep s 6 ∧ s.boot.otp.pcieMode = 0 ∧ s.rd Reg.BOOT_STATUS.SEL = 2) ∧
   (let size := (0 : Nat)
    let s := (Sample33.states.getD 26 State.reset)
    AtStep s 7 ∧ s.boot.source < 2 ∧ ((size < 33554432 ∨ 268435456 < size))) ∧
   (let size := (33554432 : Nat)
    let s := (starting 7 0 (flashed emptyImage R0) : State)
    let u := { s with boot := { s.boot with flashSize := size } }
    let why := imageReason u.imageBytes s.boot.otp (s.rd Reg.CHIP_REV.REV) false
    AtStep s 7 ∧ s.bootWarm = false ∧ s.boot.source < 2 ∧ 33554432 ≤ size ∧ size ≤ 268435456 ∧ why =
    0) := by
  refine ⟨?_, ?_, ?_, ?_, ?_, ?_, ?_, ?_⟩ <;>
  (first | decide +kernel | (simp only [AtStep]; decide +kernel))

/-- The hypotheses of StartSteps are met (part 3). -/
theorem witness_StartSteps_3 :
   (let size := (33554432 : Nat)
    let s := (starting 7 0 (flashed (emptyImage.set 0 0) R0) : State)
    let u := { s with boot := { s.boot with flashSize := size } }
    let why := imageReason u.imageBytes s.boot.otp (s.rd Reg.CHIP_REV.REV) false
    AtStep s 7 ∧ s.bootWarm = false ∧ s.boot.source < 2 ∧ 33554432 ≤ size ∧ size ≤ 268435456 ∧ why ≠
    0 ∧ why < 16 ∧ s.boot.source = 0) ∧
   (let size := (268435456 : Nat)
    let s := (starting 7 1 (flashed (emptyImage.set 0 0) R0 134217728) : State)
    let u := { s with boot := { s.boot with flashSize := size } }
    let why := imageReason u.imageBytes s.boot.otp (s.rd Reg.CHIP_REV.REV) false
    AtStep s 7 ∧ s.bootWarm = false ∧ s.boot.source < 2 ∧ 33554432 ≤ size ∧ size ≤ 268435456 ∧ why ≠
    0 ∧ why < 16 ∧ s.boot.source = 1) ∧
   (∃ u, AtStep (starting 8 0 (flashed emptyImage R0)) 8 ∧ (starting 8 0 (flashed emptyImage
    R0)).loadSections (starting 8 0 (flashed emptyImage R0)).imageBytes = (false, u) ∧ u.held =
    false ∧ u.chipState = 2 ∧ u.boot.source = 0) ∧
   (∃ u, AtStep (loadStart 1) 8 ∧ (loadStart 1).loadSections (loadStart 1).imageBytes = (true, u) ∧
    u.chipState = 2 ∧ u.rd Reg.BOOT_STATUS.SEL = 1) ∧
   (∃ u, AtStep (loadStart 0) 8 ∧ (loadStart 0).loadSections (loadStart 0).imageBytes = (true, u) ∧
    u.chipState = 2 ∧ u.rd Reg.BOOT_STATUS.SEL ≠ 1 ∧ u.bootWarm = false) ∧
   (let s := (Sample33.states.getD 34 State.reset)
    AtStep s 9 ∧ s.rd Reg.REF_STATUS.DPLL ≠ 4 ∧ s.boot.acqOver = false ∧ s.bootWarm = false) ∧
   (let s := (Sample33.states.getD 37 State.reset)
    AtStep s 9 ∧ s.rd Reg.REF_STATUS.DPLL = 4 ∧ s.boot.arms = []) ∧
   (let s := (Sample33.states.getD 38 State.reset)
    AtStep s 10) := by
  refine ⟨?_, ?_, by exact ⟨_, by unfold AtStep; decide +kernel, pair_eta (by decide +kernel), by decide +kernel, by decide +kernel, by decide +kernel⟩, by exact ⟨_, by unfold AtStep; decide +kernel, loadStart_loads 1 (.inr rfl), (loadEnd_rd 1 (.inr rfl) _ (.inr (.inl rfl))).trans (by decide +kernel), (loadEnd_rd 1 (.inr rfl) _ (.inl rfl)).trans (by decide +kernel)⟩, by exact ⟨_, by unfold AtStep; decide +kernel, loadStart_loads 0 (.inl rfl), (loadEnd_rd 0 (.inl rfl) _ (.inr (.inl rfl))).trans (by decide +kernel), by rw [loadEnd_rd 0 (.inl rfl) _ (.inl rfl)]; decide +kernel, by rw [State.bootWarm, State.on, loadEnd_rd 0 (.inl rfl) _ (.inr (.inr rfl))]; decide +kernel⟩, ?_, ?_, ?_⟩ <;>
  (first | decide +kernel | (simp only [AtStep]; decide +kernel))

/-- The hypotheses of StartSteps are met (part 4). -/
theorem witness_StartSteps_4 :
   (let s := (Sample33.states.getD 26 State.reset)
    AtStep s 7 ∧ s.boot.source < 2 ∧ s.boot.retries < 3) ∧
   (let s := (Sample33.states.getD 29 State.reset)
    AtStep s 7 ∧ s.boot.source = 0 ∧ 3 ≤ s.boot.retries) ∧
   (let s := (Sample33.states.getD 1 State.reset)
    s.chipState ≠ 2) ∧
   (let s := (Sample33.states.getD 42 State.reset)
    s.held = false ∧ s.flt.auditList = [] ∧ s.chipState = 3) ∧
   (let s := (Sample33.states.getD 0 State.reset)
    s.held = false ∧ s.flt.auditList = [] ∧ s.chipState ≠ 3) ∧
   (let s := (Sample33.states.getD 43 State.reset)
    s.held = false ∧ s.flt.auditList = [] ∧ s.chipState = 4) ∧
   (let s := (Sample33.states.getD 0 State.reset)
    s.held = false ∧ s.flt.auditList = [] ∧ s.chipState ≠ 4) ∧
   (let s := (Sample33.states.getD 1 State.reset)
    s.held = false ∧ MayWarm s) := by
  refine ⟨?_, ?_, ?_, ?_, ?_, ?_, ?_, ?_⟩ <;>
  (first | decide +kernel | (simp only [AtStep, MayWarm]; decide +kernel))

/-- The hypotheses of StartSteps are met (part 5). -/
theorem witness_StartSteps_5 :
   (let s := (Sample33.states.getD 1 State.reset)
    s.alone ∧ s.chipState = 5 ∧ s.ctl.dormantReq = false) ∧
   (let s := (Sample33.states.getD 0 State.reset)
    s.alone ∧ s.chipState ≠ 5) ∧
   (let s := (R0.put Reg.CHIP_CTRL.COILCLR false : State)
    s.alone ∧ s.on Reg.CHIP_CTRL.COILCLR = false) ∧
   (let s := (Sample33.states.getD 45 State.reset)
    s.alone ∧ s.on Reg.CHIP_CTRL.COILCLR = true) ∧
   (let s := (Sample33.states.getD 45 State.reset)
    s.held = false ∧ s.on Reg.CHIP_CTRL.COILCLR = true) ∧
   (let s := (Sample33.states.getD 0 State.reset)
    s.on Reg.CHIP_CTRL.COILCLR = false) := by
  refine ⟨?_, ?_, ?_, ?_, ?_, ?_⟩ <;>
  (first | decide +kernel | (simp only [State.alone]; decide +kernel))

/-- The hypotheses of PelondService are met (part 1). -/
theorem witness_PelondService_1 :
   (let s := (Sample34a.states.getD 0 State.reset)
    s.held = false) ∧
   (let s := (pel : State)
    s.held = false) ∧
   (let ip := (5#32 : BitVec 32)
    let port := (77#16 : BitVec 16)
    let l := (pick Sample34a.xs_List_Byte 0)
    let s := (Sample34a.states.getD 1 State.reset)
    let peer : PelPeer := ⟨ip, port, field l 10 1⟩
    let key := (19088743 : Nat)
    Takes s peer l key ∧ field l 3 1 = 1) ∧
   (let ip := (5#32 : BitVec 32)
    let port := (77#16 : BitVec 16)
    let l := (pick Sample34a.xs_List_Byte 3)
    let s := (Sample34a.states.getD 1 State.reset)
    let peer : PelPeer := ⟨ip, port, field l 10 1⟩
    let key := (19088743 : Nat)
    Takes s peer l key ∧ field l 3 1 = 2) ∧
   (let ip := (5#32 : BitVec 32)
    let port := (77#16 : BitVec 16)
    let l := (pick Sample34a.xs_List_Byte 6)
    let s := (Sample34a.states.getD 1 State.reset)
    let peer : PelPeer := ⟨ip, port, field l 10 1⟩
    let key := (19088743 : Nat)
    Takes s peer l key ∧ field l 3 1 = 3) ∧
   (let ip := (5#32 : BitVec 32)
    let port := (77#16 : BitVec 16)
    let l := (pick Sample34a.xs_List_Byte 9)
    let s := (Sample34a.states.getD 1 State.reset)
    let peer : PelPeer := ⟨ip, port, field l 10 1⟩
    let key := (19088743 : Nat)
    Takes s peer l key ∧ field l 3 1 = 4) ∧
   (let ip := (5#32 : BitVec 32)
    let port := (77#16 : BitVec 16)
    let l := (pick Sample34a.xs_List_Byte 11)
    let s := (Sample34a.states.getD 1 State.reset)
    let peer : PelPeer := ⟨ip, port, field l 10 1⟩
    let key := (19088743 : Nat)
    Takes s peer l key ∧ field l 3 1 = 5) ∧
   (let ip := (0x0A000005 : BitVec 32)
    let port := (77 : BitVec 16)
    let l := (pelMsg 6 [] : List Byte)
    let s := (pel : State)
    let peer : PelPeer := ⟨ip, port, field l 10 1⟩
    let key := pelKey
    Takes s peer l key ∧ field l 3 1 = 6) := by
  refine ⟨?_, ?_, ?_, ?_, ?_, ?_, ?_, ?_⟩ <;>
  (first | decide +kernel | (simp only [Takes, Fresh]; decide +kernel))

/-- The hypotheses of PelondService are met (part 2). -/
theorem witness_PelondService_2 :
   (let ip := (0x0A000005 : BitVec 32)
    let port := (77 : BitVec 16)
    let l := (pelMsg 7 [] : List Byte)
    let s := (pel : State)
    let peer : PelPeer := ⟨ip, port, field l 10 1⟩
    let key := pelKey
    Takes s peer l key ∧ field l 3 1 = 7) ∧
   (let ip := (0x0A000005 : BitVec 32)
    let port := (77 : BitVec 16)
    let l := (pelMsg 8 [0, 1, 0, 1, 0, 0] : List Byte)
    let s := (pel : State)
    let peer : PelPeer := ⟨ip, port, field l 10 1⟩
    let key := pelKey
    Takes s peer l key ∧ imageSub l 0) ∧
   (let ip := (0x0A000005 : BitVec 32)
    let port := (77 : BitVec 16)
    let l := (pelMsg 8 [1, 0, 0, 0, 0, 9] : List Byte)
    let s := (pel : State)
    let peer : PelPeer := ⟨ip, port, field l 10 1⟩
    let key := pelKey
    Takes s peer l key ∧ imageSub l 1) ∧
   (let ip := (0x0A000005 : BitVec 32)
    let port := (77 : BitVec 16)
    let l := (pelMsg 8 [2] : List Byte)
    let s := (pel : State)
    let peer : PelPeer := ⟨ip, port, field l 10 1⟩
    let key := pelKey
    Takes s peer l key ∧ imageSub l 2) ∧
   (let ip := (0x0A000005 : BitVec 32)
    let port := (77 : BitVec 16)
    let l := (pelMsg 8 [3] : List Byte)
    let s := (pel : State)
    let peer : PelPeer := ⟨ip, port, field l 10 1⟩
    let key := pelKey
    Takes s peer l key ∧ imageSub l 3) ∧
   (let ip := (0x0A000005 : BitVec 32)
    let port := (77 : BitVec 16)
    let l := (pelMsg 255 [] : List Byte)
    let s := (pel : State)
    let peer : PelPeer := ⟨ip, port, field l 10 1⟩
    let key := pelKey
    Takes s peer l key ∧ ((field l 3 1 = 0 ∨ 8 < field l 3 1))) ∧
   (let l := (pelMsg 2 [] : List Byte)
    let s := (pel : State)
    let key := pelKey
    s.pelAuth l = some key) ∧
   (let l := (pelMsg 2 [] : List Byte)
    let s := (pel id (R0.wr Reg.CHIP_STATE.STATE 4) : State)
    let key := pelKey
    s.pelAuth l = some key ∧ s.noImageState = true) := by
  refine ⟨?_, ?_, ?_, ?_, ?_, ?_, ?_, ?_⟩ <;>
  (first | decide +kernel | (simp only [Takes, Fresh]; decide +kernel))

/-- The hypotheses of PelondService are met (part 3). -/
theorem witness_PelondService_3 :
   (let s := (R0.wr Reg.TTH_STATUS.STATE 1 : State)
    s.paired = true) ∧
   (∃ v u, (ask (leBytes 4 0x40000014 ++ [1, 0, 0, 0])).body.length = 8 ∧ field (ask (leBytes 4
    0x40000014 ++ [1, 0, 0, 0])).body 4 2 = 1 ∧ R0.busRead 0 0 (field (ask (leBytes 4 0x40000014 ++
    [1, 0, 0, 0])).body 0 4) 4 = (some v, u)) ∧
   (let ip := (5#32 : BitVec 32)
    let port := (77#16 : BitVec 16)
    let q := ({ peer := { ip := 0x00000005#32, port := 0x004d#16, key := 0 }, flags := 0, body := [] } : PelRequest)
    (field q.body 4 2 = 0 ∨ 360 < field q.body 4 2)) ∧
   (let ip := (5#32 : BitVec 32)
    let port := (77#16 : BitVec 16)
    let q := ({ peer := { ip := 0x00000005#32, port := 0x004d#16, key := 0 }, flags := 0, body := [] } : PelRequest)
    q.body = []) ∧
   (let q := (ask [] : PelRequest)
    q.body = []) ∧
   (let q := (pick Sample34b.xs_PelRequest 5)
    let s := (Sample34b.states.getD 0 State.reset)
    let u := (Sample34b.states.getD 0 State.reset)
    q.body.length = 12 ∧ field q.body 4 2 = 1 ∧ s.busWrite 0 0 (field q.body 0 4) 4 (field q.body 8
    4) = (true, u) ∧ u.refusals = s.refusals) ∧
   (∃ u, (ask refusedWrite).body.length = 12 ∧ field (ask refusedWrite).body 4 2 = 1 ∧ R0.busWrite 0
    0 (field (ask refusedWrite).body 0 4) 4 (field (ask refusedWrite).body 8 4) = (true, u) ∧
    u.refusals ≠ R0.refusals) ∧
   ((planned R0).livePlan.atPath (ask (paramBody 101)).body = some knot ∧ knot.params.find? (fun r
    => decide (r.number = field (ask (paramBody 101)).body 34 1)) = some param ∧ (ask (paramBody
    101)).body.length = 38 + 4 * field (ask (paramBody 101)).body 35 1 ∧ 0 < field (ask (paramBody
    101)).body 35 1 ∧ param.admits 101 = false) := by
  refine ⟨?_, by exact ⟨_, _, by decide +kernel, by decide +kernel, rfl⟩, ?_, ?_, ?_, ?_, by exact ⟨_, by decide +kernel, by decide +kernel, pair_eta (by decide +kernel), by decide +kernel⟩, ?_⟩ <;>
  decide +kernel

/-- The hypotheses of PelondService are met (part 4). -/
theorem witness_PelondService_4 :
   (((planned R0).put Reg.ENG_PCM_GO.GO true).livePlan.atPath (ask (paramBody 100)).body = some knot
    ∧ param.admits 100 = true ∧ ((planned R0).put Reg.ENG_PCM_GO.GO true).on Reg.ENG_PCM_GO.GO =
    true) ∧
   (∃ u, (planned R0).livePlan.atPath (ask (paramBody 100)).body = some knot ∧ knot.params.find?
    (fun r => decide (r.number = field (ask (paramBody 100)).body 34 1)) = some param ∧ (ask
    (paramBody 100)).body.length = 38 + 4 * field (ask (paramBody 100)).body 35 1 ∧ param.admits 100
    = true ∧ (planned R0).on Reg.ENG_PCM_GO.GO = false ∧ (planned R0).pelAll (paramWrites param
    [100]) = (true, u)) ∧
   (let ip := (5#32 : BitVec 32)
    let port := (77#16 : BitVec 16)
    let q := (pick Sample34b.xs_PelRequest 9)
    let s := (Sample34b.states.getD 7 State.reset)
    let p := ({ ip := 0x00000006#32, port := 0x004d#16, key := 0 } : PelPeer)
    0 < field q.body 20 2 ∧ field q.body 20 2 ≤ 177 ∧ q.body.length = 24 + 8 * field q.body 20 2 ∧
    s.pel.splice = some p ∧ p ≠ q.peer) ∧
   (let ip := (5#32 : BitVec 32)
    let port := (77#16 : BitVec 16)
    let q := ({ peer := { ip := 0x00000005#32, port := 0x004d#16, key := 0 },   flags := 0,   body := [0x14#8, 0x00#8, 0x00#8, 0x40#8, 0x01#8, 0x00#8, 0x00#8, 0x00#8] } : PelRequest)
    (field q.body 20 2 = 0 ∨ 177 < field q.body 20 2)) ∧
   (let q := (pick Sample34b.xs_PelRequest 12)
    q.body.length = 16 ∧ field q.body 2 1 = 1 ∧ (field q.body 0 1 = 1 ∨ field q.body 0 1 = 2)) ∧
   (let q := (pick Sample34b.xs_PelRequest 16)
    q.body.length = 16 ∧ field q.body 0 1 = 3 ∧ (∃ b ∈ q.body.drop 2, b ≠ 0)) ∧
   (let m := (0 : Fin 16)
    let q := (pick Sample34b.xs_PelRequest 17)
    let s := (Sample34b.states.getD 1 State.reset)
    let n := field q.body 0 2
    let every := field q.body 2 2
    let life := field q.body 4 2
    let paths := (List.range n).map fun i => (q.body.drop (6 + 34 * i)).take 34
    let others := s.pel.meters.filter fun m => decide (m.peer ≠ q.peer)
    0 < n ∧ n ≤ 32 ∧ q.body.length = 6 + 34 * n ∧ (∀ p ∈ paths, ∃ k, s.livePlan.atPath p = some k ∧
    k.lib = 9) ∧ 48 ≤ every ∧ 0 < life ∧ life ≤ 3600 ∧ others.length < 16) ∧
   (let m := (0 : Fin 16)
    let q := (pick Sample34b.xs_PelRequest 17)
    let s := (Sample34b.states.getD 7 State.reset)
    let n := field q.body 0 2
    let every := field q.body 2 2
    let life := field q.body 4 2
    let paths := (List.range n).map fun i => (q.body.drop (6 + 34 * i)).take 34
    let others := s.pel.meters.filter fun m => decide (m.peer ≠ q.peer)
    0 < n ∧ n ≤ 32 ∧ q.body.length = 6 + 34 * n ∧ (∀ p ∈ paths, ∃ k, s.livePlan.atPath p = some k ∧
    k.lib = 9) ∧ 48 ≤ every ∧ 0 < life ∧ life ≤ 3600 ∧ 16 ≤ others.length) := by
  refine ⟨?_, by exact ⟨_, by decide +kernel, by decide +kernel, by decide +kernel, by decide +kernel, by decide +kernel, pair_eta (by decide +kernel)⟩, ?_, ?_, ?_, ?_, ?_, ?_⟩ <;>
  decide +kernel

/-- The hypotheses of PelondService are met (part 5). -/
theorem witness_PelondService_5 :
   (let q := (pick Sample34b.xs_PelRequest 18)
    let s := (Sample34b.states.getD 1 State.reset)
    let n := field q.body 0 2
    let every := field q.body 2 2
    let life := field q.body 4 2
    let paths := (List.range n).map fun i => (q.body.drop (6 + 34 * i)).take 34
    0 < n ∧ n ≤ 32 ∧ q.body.length = 6 + 34 * n ∧ (∀ p ∈ paths, ∃ k, s.livePlan.atPath p = some k ∧
    k.lib = 9) ∧ (every < 48 ∨ life = 0 ∨ 3600 < life)) ∧
   (let m := (15 : Fin 16)
    let s := (pel fun p => { p with meters := List.replicate 16 meter } : State)
    let x := meter
    s.held = false ∧ s.rclk = true ∧ s.pel.meters[m.val]? = some x ∧ s.tick < x.next) ∧
   (let m := (0 : Fin 16)
    let s := (Sample34b.states.getD 6 State.reset)
    let x := (pick Sample34b.xs_PelMeter 0)
    let key := (19088743 : Nat)
    s.held = false ∧ s.rclk = true ∧ s.pel.meters[m.val]? = some x ∧ x.next ≤ s.tick ∧ s.pelKey
    x.peer.key = some key) ∧
   (let s := (Sample34b.states.getD 0 State.reset)
    s.held = false) ∧
   (let s := (Sample34b.states.getD 0 State.reset)
    s.held = false ∧ s.pel.splice = none) ∧
   (let ip := (5#32 : BitVec 32)
    let port := (77#16 : BitVec 16)
    let s := (Sample34b.states.getD 6 State.reset)
    let p := ({ ip := 0x00000005#32, port := 0x004d#16, key := 0 } : PelPeer)
    s.held = false ∧ s.pel.splice = some p) ∧
   (let ip := (5#32 : BitVec 32)
    let port := (77#16 : BitVec 16)
    let q := ({ peer := { ip := 0x00000005#32, port := 0x004d#16, key := 0 },   flags := 0,   body := [0x00#8, 0x00#8, 0x00#8, 0x01#8, 0x00#8, 0x00#8] } : PelRequest)
    let s := (Sample34b.states.getD 1 State.reset)
    q.body.length = 6 ∧ field q.body 1 1 ≤ 1 ∧ 256 ≤ field q.body 2 4 ∧ field q.body 2 4 ≤
    s.boot.flashSize / 2 ∧ s.noImageState = false ∧ s.boot.source = field q.body 1 1) ∧
   (let ip := (5#32 : BitVec 32)
    let port := (77#16 : BitVec 16)
    let q := ({ peer := { ip := 0x00000005#32, port := 0x004d#16, key := 0 },   flags := 0,   body := [0x00#8, 0x01#8, 0x00#8, 0x01#8, 0x00#8, 0x00#8] } : PelRequest)
    let s := (Sample34b.states.getD 1 State.reset)
    q.body.length = 6 ∧ field q.body 1 1 ≤ 1 ∧ 256 ≤ field q.body 2 4 ∧ field q.body 2 4 ≤
    s.boot.flashSize / 2 ∧ s.noImageState = false ∧ s.boot.source ≠ field q.body 1 1 ∧
    (s.pel.update.map PelUpdate.erasing) ≠ some true) := by
  refine ⟨?_, ?_, ?_, ?_, ?_, ?_, ?_, ?_⟩ <;>
  decide +kernel

/-- The hypotheses of PelondService are met (part 6). -/
theorem witness_PelondService_6 :
   (let q := (ask [0, 1, 0, 1, 0, 0] : PelRequest)
    let s := (flashed [] R0 : State)
    q.body.length = 6 ∧ field q.body 1 1 ≤ 1 ∧ 256 ≤ field q.body 2 4 ∧ field q.body 2 4 ≤
    s.boot.flashSize / 2 ∧ s.noImageState = false ∧ s.boot.source ≠ field q.body 1 1 ∧
    (s.pel.update.map PelUpdate.erasing) ≠ some true) ∧
   (let s := (pel fun p => { p with update := some (update 256 0 true []) } : State)
    let u := update 256 0 true []
    s.pel.update = some u ∧ u.erasing = true) ∧
   (let ip := (5#32 : BitVec 32)
    let port := (77#16 : BitVec 16)
    let q := ({ peer := { ip := 0x00000005#32, port := 0x004d#16, key := 0 },   flags := 0,   body := [0x14#8, 0x00#8, 0x00#8, 0x40#8, 0x01#8, 0x00#8, 0x00#8, 0x00#8] } : PelRequest)
    let s := (Sample34b.states.getD 11 State.reset)
    let u := ({ slot := 1, len := 300, next := 0, erasing := false, head := [] } : PelUpdate)
    s.pel.update = some u ∧ u.erasing = false ∧ q.body.drop 5 ≠ [] ∧ field q.body 1 4 ≠ u.next) ∧
   (let q := (pick Sample34b.xs_PelRequest 9)
    let s := (Sample34b.states.getD 11 State.reset)
    let u := ({ slot := 1, len := 300, next := 0, erasing := false, head := [] } : PelUpdate)
    s.pel.update = some u ∧ u.erasing = false ∧ q.body.drop 5 ≠ [] ∧ field q.body 1 4 = u.next ∧
    u.next + (q.body.drop 5).length ≤ u.len ∧ u.head.length = min u.next 4096) ∧
   (let q := (ask (1 :: leBytes 4 298 ++ [7, 8]) : PelRequest)
    let s := (pel fun p => { p with update := some (update 300 298 false (List.replicate 298 0)) } : State)
    let u := update 300 298 false (List.replicate 298 0)
    s.pel.update = some u ∧ u.erasing = false ∧ q.body.drop 5 ≠ [] ∧ field q.body 1 4 = u.next ∧
    u.next + (q.body.drop 5).length ≤ u.len ∧ u.head.length = min u.next 4096) ∧
   (let ip := (5#32 : BitVec 32)
    let port := (77#16 : BitVec 16)
    let q := ({ peer := { ip := 0x00000005#32, port := 0x004d#16, key := 0 }, flags := 0, body := [0x01#8] } : PelRequest)
    let s := (Sample34b.states.getD 13 State.reset)
    let u := (pick Sample34b.xs_PelUpdate 3)
    let img := u.head ++ s.flashBytes (s.slotBase u.slot + u.head.length) (u.len - u.head.length)
    let why := imageReason img s.boot.otp (s.rd Reg.CHIP_REV.REV) false
    s.pel.update = some u ∧ u.erasing = false ∧ q.body.length = 1 ∧ u.next = u.len ∧ u.head.length ≤
    4096 ∧ why ≠ 0) ∧
   (let q := (ask [2] : PelRequest)
    let s := (pel fun p => { p with update := some (update 256 256 false (List.replicate 256 0)) } : State)
    let u := update 256 256 false (List.replicate 256 0)
    let img := u.head ++ s.flashBytes (s.slotBase u.slot + u.head.length) (u.len - u.head.length)
    let why := imageReason img s.boot.otp (s.rd Reg.CHIP_REV.REV) false
    s.pel.update = some u ∧ u.erasing = false ∧ q.body.length = 1 ∧ u.next = u.len ∧ u.head.length ≤
    4096 ∧ why ≠ 0) ∧
   (let q := (ask [2] : PelRequest)
    let s := (pel fun p => { p with update := some (update 352 352 false emptyImage) } : State)
    let u := update 352 352 false emptyImage
    let img := u.head ++ s.flashBytes (s.slotBase u.slot + u.head.length) (u.len - u.head.length)
    let why := imageReason img s.boot.otp (s.rd Reg.CHIP_REV.REV) false
    s.pel.update = some u ∧ u.erasing = false ∧ q.body.length = 1 ∧ u.next = u.len ∧ u.head.length ≤
    4096 ∧ why = 0) := by
  refine ⟨?_, ?_, ?_, ?_, ?_, ?_, ?_, ?_⟩ <;>
  decide +kernel

/-- The hypotheses of PelondService are met (part 7). -/
theorem witness_PelondService_7 :
   (let ip := (5#32 : BitVec 32)
    let port := (77#16 : BitVec 16)
    let q := ({ peer := { ip := 0x00000005#32, port := 0x004d#16, key := 0 }, flags := 0, body := [0x01#8] } : PelRequest)
    let s := (Sample34b.states.getD 11 State.reset)
    let u := ({ slot := 1, len := 300, next := 0, erasing := false, head := [] } : PelUpdate)
    s.pel.update = some u ∧ u.erasing = false ∧ q.body.length = 1) ∧
   (let q := (ask [3] : PelRequest)
    let s := (pel fun p => { p with update := some (update 352 352 false emptyImage) } : State)
    let u := update 352 352 false emptyImage
    s.pel.update = some u ∧ u.erasing = false ∧ q.body.length = 1) ∧
   (let s := (Sample34b.states.getD 0 State.reset)
    s.pel.update = none) ∧
   (let s := (pel : State)
    s.pel.update = none) ∧
   (let s := (Sample34b.states.getD 10 State.reset)
    let u := ({ slot := 1, len := 300, next := 0, erasing := true, head := [] } : PelUpdate)
    s.held = false ∧ s.pel.update = some u ∧ u.erasing = true) ∧
   (let s := (Sample34b.states.getD 0 State.reset)
    s.held = false ∧ (s.pel.update.map PelUpdate.erasing) ≠ some true) := by
  refine ⟨?_, ?_, ?_, ?_, ?_, ?_⟩ <;>
  decide +kernel

/-- The hypotheses of HostPorts are met (part 1). -/
theorem witness_HostPorts_1 :
   (let off := (20#29 : BitVec 29)
    let len := (1 : Fin 257)
    let s := (Sample35.states.getD 2 State.reset)
    let o := off.toNat % 2 ^ 28
    s.held = false ∧ s.on Reg.HOST_STATUS.LINKUP = true ∧ o < 0xFFF0000 ∧ placeOf false (0x40000000
    + o) ≠ .none ∧ 0 < len.val ∧ o / 4 = (o + len.val - 1) / 4) ∧
   (let off := (20#29 : BitVec 29)
    let d := ([1#8] : List Byte)
    let s := (Sample35.states.getD 2 State.reset)
    let o := off.toNat % 2 ^ 28
    s.held = false ∧ s.on Reg.HOST_STATUS.LINKUP = true ∧ o < 0xFFF0000 ∧ placeOf false (0x40000000
    + o) ≠ .none ∧ d ≠ [] ∧ o / 4 = (o + d.length - 1) / 4) ∧
   (let off := (20#29 : BitVec 29)
    let len := (5 : Fin 257)
    let s := (Sample35.states.getD 2 State.reset)
    let o := off.toNat % 2 ^ 28
    s.held = false ∧ s.on Reg.HOST_STATUS.LINKUP = true ∧ 0 < len.val ∧ len.val ≤ 256 ∧ o / 4 ≠ (o +
    len.val - 1) / 4) ∧
   (let off := (20#29 : BitVec 29)
    let d := ([1#8, 2#8, 3#8, 4#8, 5#8] : List Byte)
    let s := (Sample35.states.getD 2 State.reset)
    let o := off.toNat % 2 ^ 28
    s.held = false ∧ s.on Reg.HOST_STATUS.LINKUP = true ∧ d ≠ [] ∧ d.length ≤ 256 ∧ o / 4 ≠ (o +
    d.length - 1) / 4) ∧
   (let off := (20#29 : BitVec 29)
    let len := (1 : Fin 257)
    let s := (Sample35.states.getD 2 State.reset)
    let b := 0x20000000 * s.rd Reg.HOST_WIN.SEL + off.toNat
    s.held = false ∧ s.on Reg.HOST_STATUS.LINKUP = true ∧ 0 < len.val ∧ b % 256 + len.val ≤ 256 ∧
    placeOf false b ≠ .none) ∧
   (let off := (20#29 : BitVec 29)
    let d := ([1#8] : List Byte)
    let s := (Sample35.states.getD 2 State.reset)
    let b := 0x20000000 * s.rd Reg.HOST_WIN.SEL + off.toNat
    s.held = false ∧ s.on Reg.HOST_STATUS.LINKUP = true ∧ d ≠ [] ∧ b % 256 + d.length ≤ 256 ∧
    placeOf false b ≠ .none) ∧
   (let off := (20#29 : BitVec 29)
    let d := (pick Sample35.xs_List_Byte 5)
    let s := (Sample35.states.getD 2 State.reset)
    let b := 0x20000000 * s.rd Reg.HOST_WIN.SEL + off.toNat
    let k := 256 - b % 256
    s.held = false ∧ s.on Reg.HOST_STATUS.LINKUP = true ∧ d.length ≤ 256 ∧ k < d.length ∧ placeOf
    false b ≠ .none ∧ placeOf false (b + k) ≠ .none) ∧
   (let s := (Sample35.states.getD 2 State.reset)
    s.held = false ∧ s.on Reg.HOST_STATUS.LINKUP = true) := by
  refine ⟨?_, ?_, ?_, ?_, ?_, ?_, ?_, ?_⟩ <;>
  decide +kernel

/-- The hypotheses of HostPorts are met (part 2). -/
theorem witness_HostPorts_2 :
   (let s := (Sample35.states.getD 0 State.reset)
    s.held = false ∧ s.on Reg.HOST_STATUS.LINKUP = false) ∧
   (let s := (Sample35.states.getD 0 State.reset)
    s.held = false) ∧
   (let a := (1073741844#32 : Word)
    let s := (Sample35.states.getD 0 State.reset)
    s.held = false ∧ placeOf false a.toNat ≠ .none) ∧
   (let a := (1073741820#32 : Word)
    let s := (Sample35.states.getD 0 State.reset)
    s.held = false ∧ placeOf false a.toNat = .none ∧ PortQuiet s 1) ∧
   (let s := ({ R0 with fab := { R0.fab with answers := [(1, { data := 7, err := false })] } } : State)
    let r := ({ data := 7, err := false } : BusAnswer)
    s.held = false ∧ sfind 1 s.fab.answers = some r ∧ r.err = false) ∧
   (let s := ({ R0 with fab := { R0.fab with answers := [(1, { data := 7, err := true })] } } : State)
    let r := ({ data := 7, err := true } : BusAnswer)
    s.held = false ∧ sfind 1 s.fab.answers = some r ∧ r.err = true) ∧
   (let s := (R0 : State)
    s.held = false ∧ sfind 1 s.fab.answers = none) ∧
   (let dev := (0x35 : BitVec 7)
    let s := (R0 : State)
    let ready := HeldFor s false false false false
    let here := dev.toNat = 0x34 + s.rd Reg.TTH_STATUS.SIDE
    ((¬ ready ∨ ¬ here))) := by
  refine ⟨?_, ?_, ?_, ?_, ?_, ?_, ?_, ?_⟩ <;>
  (first | decide +kernel | (simp only [HeldFor, PortQuiet]; decide +kernel))

/-- The hypotheses of HostPorts are met (part 3). -/
theorem witness_HostPorts_3 :
   (let dev := (0x34 : BitVec 7)
    let a := (0x40020000 : Word)
    let s := (R0 : State)
    let ready := HeldFor s false false false false
    let here := dev.toNat = 0x34 + s.rd Reg.TTH_STATUS.SIDE
    let block := (a.toNat - 0x40000000) / 65536
    let reaches := 0x40000000 ≤ a.toNat ∧ (block = 0 ∨ block = 1 ∨ block = 4 ∨ block = 5 ∨ block = 20 ∨ block = 21)
    ready ∧ here ∧ ¬ reaches) ∧
   (∃ w z, HeldFor R0 false false false false ∧ (0x34 : Nat) = 0x34 + R0.rd Reg.TTH_STATUS.SIDE ∧ {
    R0 with host := { R0.host with i2cAddr := 0x40000014, i2cOut := none } }.busRead 3 0 0x40000014
    4 = (some w, z)) ∧
   (let dev := (0x34 : BitVec 7)
    let a := (0x40000014 : Word)
    let s := (R0 : State)
    let ready := HeldFor s false false false false
    let here := dev.toNat = 0x34 + s.rd Reg.TTH_STATUS.SIDE
    ready ∧ here ∧ a = 0x40000014#32) ∧
   (let dev := (0x35 : BitVec 7)
    let a := (0x40000014 : Word)
    let s := (R0.wr Reg.TTH_STATUS.SIDE 1 : State)
    let ready := HeldFor s false false false false
    let here := dev.toNat = 0x34 + s.rd Reg.TTH_STATUS.SIDE
    ready ∧ here ∧ a ≠ 0x40000100#32) ∧
   (∃ b z, HeldFor R0 false false false false ∧ (0x34 : Nat) = 0x34 + R0.rd Reg.TTH_STATUS.SIDE ∧
    R0.held = false ∧ { R0 with host := { R0.host with i2cAddr := 0x40000100, i2cOut := none }
    }.busWrite 3 0 0x40000100 4 1 = (b, z)) ∧
   (let dev := (0x34 : BitVec 7)
    let a := (0x40000100 : Word)
    let s := ({ R0 with held := true } : State)
    let ready := HeldFor s false false false false
    let here := dev.toNat = 0x34 + s.rd Reg.TTH_STATUS.SIDE
    ready ∧ here ∧ a = 0x40000100#32 ∧ s.held = true) ∧
   (let code := (5 : BitVec 8)
    4 < code.toNat) ∧
   (let code := (4 : BitVec 8)
    code.toNat ≤ 4) := by
  refine ⟨?_, by exact ⟨_, _, by unfold HeldFor; decide +kernel, by decide +kernel, rfl⟩, ?_, ?_, by exact ⟨_, _, by unfold HeldFor; decide +kernel, by decide +kernel, by decide +kernel, rfl⟩, ?_, ?_, ?_⟩ <;>
  (first | decide +kernel | (simp only [HeldFor]; decide +kernel))

/-- The hypotheses of StoppedNodeStands are met. -/
theorem witness_StoppedNodeStands :
   (HeldInv { State.reset with held := true, pending := [.aclr 0 0] } ∧ ClockInv { State.reset with
    pending := [.aclr 0 0] }) := by
  unfold HeldInv ClockInv; decide +kernel

end Sys2Proof.Tests
end

section
/-! SUPPORT. The sparse maps of the fabric: entries and keys, maps taken through a function. -/

namespace Sys2Proof.Machine

variable {V W : Type}

/-- What is found under a key is listed. -/
theorem mem_of_sfind {k : Nat} {v : V} {m : SMap V} (h : sfind k m = some v) : (k, v) ∈ m := by
  induction m with
  | nil => cases h
  | cons p r ih =>
    obtain ⟨j, w⟩ := p
    simp only [sfind] at h
    split at h
    · next e => cases h; subst e; exact List.mem_cons_self
    · exact List.mem_cons_of_mem _ (ih h)

/-- Where no key is listed twice, every entry is found. -/
theorem sfind_of_mem {p : Nat × V} {m : SMap V} (hd : (m.map Prod.fst).Nodup) (hp : p ∈ m) : sfind p.1 m = some p.2 := by
  induction m with
  | nil => cases hp
  | cons q r ih =>
    obtain ⟨j, w⟩ := q
    rw [List.map_cons, List.nodup_cons] at hd
    obtain ⟨hj, hr⟩ := hd
    rcases List.mem_cons.mp hp with rfl | hp
    · simp [sfind]
    · have hne : j ≠ p.1 := fun e => hj (List.mem_map.mpr ⟨p, hp, e.symm⟩)
      simp [sfind, hne, ih hr hp]

/-- Erasing a key keeps the entries of the other keys. -/
theorem serase_eq_filter (k : Nat) (m : SMap V) : serase k m = m.filter fun p => decide (p.1 ≠ k) := by
  induction m with
  | nil => rfl
  | cons p r ih =>
    obtain ⟨j, w⟩ := p
    by_cases h : j = k <;> simp [serase, h, ih]

/-- A map whose values went through a function has at a key the function's value there. -/
theorem sfind_map (f : V → W) (k : Nat) (m : SMap V) :
    sfind k (m.map fun p => (p.1, f p.2)) = (sfind k m).map f := by
  induction m with
  | nil => rfl
  | cons p r ih =>
    obtain ⟨j, w⟩ := p
    by_cases h : j = k <;> simp [sfind, h, ih]

end Sys2Proof.Machine
end

section
/-! SUPPORT. Updates that change register fields alone, and folds of updates. -/

namespace Sys2Proof.Machine

/-- Two states that differ in register fields alone. -/
def RegsOnly (s t : State) : Prop := t = { s with regs := t.regs }

namespace RegsOnly

variable {s t u : State}

theorem refl (s : State) : RegsOnly s s := rfl

theorem trans (h : RegsOnly s t) (g : RegsOnly t u) : RegsOnly s u :=
  Eq.trans g (congrArg (fun x : State => { x with regs := u.regs }) h)

theorem wr (s : State) (f : FieldRef) (v : Nat) : RegsOnly s (s.wr f v) := rfl

theorem put (s : State) (f : FieldRef) (b : Bool) : RegsOnly s (s.put f b) := rfl

theorem mem (h : RegsOnly s t) : t.mem = s.mem := (congrArg State.mem h :)
theorem fab (h : RegsOnly s t) : t.fab = s.fab := (congrArg State.fab h :)
theorem flt (h : RegsOnly s t) : t.flt = s.flt := (congrArg State.flt h :)
theorem bus (h : RegsOnly s t) : t.bus = s.bus := (congrArg State.bus h :)

/-- A fold of steps that change register fields alone is one. -/
theorem foldl {α : Type} {f : State → α → State} (h : ∀ s a, RegsOnly s (f s a)) (l : List α) :
    ∀ s, RegsOnly s (l.foldl f s) := by
  induction l with
  | nil => exact refl
  | cons a l ih => exact fun s => (h s a).trans (ih (f s a))

end RegsOnly

/-- A load sees memory alone. -/
theorem State.load_congr {s t : State} (h : t.mem = s.mem) (n : Nat) : ∀ a, t.load a n = s.load a n := by
  induction n with
  | zero => exact fun _ => rfl
  | succ n ih => intro a; simp only [State.load, State.byte, h, ih]

/-- An event of a listed source is the last that has arrived. -/
theorem State.raise_arriving (s : State) {n : Nat} (h : faultListed n = true) :
    (s.raise n).flt.arriving = s.flt.arriving ++ [n] := by
  simp only [State.raise_eq, State.onFlt_flt, h, if_true]

/-- A count goes up by one and stays at its largest value. -/
theorem State.rd_bump_same (s : State) (f : FieldRef) (n : Nat) :
    (s.bump f n).rd f = min (s.rd f + n) (2 ^ f.width - 1) := by
  rw [State.bump, State.rd_wr_same]
  have : 0 < 2 ^ f.width := Nat.two_pow_pos _
  exact Nat.mod_eq_of_lt (by omega)

/-- Counting leaves every field at another place. -/
theorem State.rd_bump_ne (s : State) {q f : FieldRef} (h : q.key ≠ f.key) (n : Nat) : (s.bump f n).rd q = s.rd q :=
  s.rd_wr_ne h _

/-- Flags read alike where their fields do. -/
theorem State.on_congr {s t : State} {q : FieldRef} (h : t.rd q = s.rd q) : t.on q = s.on q := by
  simp only [State.on, h]

end Sys2Proof.Machine
end

section
/-! SUPPORT. The fabric's displays, answers and error responses: what each leaves (15 R338-R342). -/

namespace Sys2Proof.Machine

open Sys2Proof.Claims

variable (s : State)

/-! ### FAB_M_m_STATUS and FAB_STATUS -/

/-- The display of the masters' transactions changes register fields alone. -/
theorem State.fabShow_regsOnly : RegsOnly s s.fabShow :=
  RegsOnly.foldl (fun _ _ => (RegsOnly.wr _ _ _).trans (RegsOnly.put _ _ _)) _ s

@[simp] theorem State.fabShow_mem : s.fabShow.mem = s.mem := s.fabShow_regsOnly.mem
@[simp] theorem State.fabShow_fab : s.fabShow.fab = s.fab := s.fabShow_regsOnly.fab
@[simp] theorem State.fabShow_flt : s.fabShow.flt = s.flt := s.fabShow_regsOnly.flt

/-- The fields below FAB_M_m_STATUS read as before. -/
theorem State.rd_fabShow {q : FieldRef} (hq : q.key < 0x60204 * 32) : s.fabShow.rd q = s.rd q := by
  refine foldl_keeps (State.rd · q) _ (fun s m => ?_) _ s
  have ho : q.key ≠ (Reg.FAB_M_STATUS.OUTSTANDING m).key := by
    simp only [Reg.FAB_M_STATUS.OUTSTANDING, FieldRef.key] at hq ⊢; omega
  have hr : q.key ≠ (Reg.FAB_M_STATUS.RETIRING m).key := by
    simp only [Reg.FAB_M_STATUS.RETIRING, FieldRef.key] at hq ⊢; omega
  rw [State.rd_put_ne _ hr, State.rd_wr_ne _ ho]

/-- The fields that show the lock. -/
def lockFields : List FieldRef := [Reg.FAB_STATUS.LOCKED, Reg.FAB_STATUS.LOCK_MASTER, Reg.FAB_STATUS.LOCK_TARGET]

/-- The display of the lock changes register fields alone. -/
theorem State.lockShow_regsOnly : RegsOnly s s.lockShow := by
  unfold State.lockShow
  split <;> rfl

@[simp] theorem State.lockShow_mem : s.lockShow.mem = s.mem := s.lockShow_regsOnly.mem
@[simp] theorem State.lockShow_fab : s.lockShow.fab = s.fab := s.lockShow_regsOnly.fab
@[simp] theorem State.lockShow_flt : s.lockShow.flt = s.flt := s.lockShow_regsOnly.flt

/-- The other fields read as before. -/
theorem State.rd_lockShow {q : FieldRef} (hq : ∀ f ∈ lockFields, q.key ≠ f.key) : s.lockShow.rd q = s.rd q := by
  simp only [lockFields, List.forall_mem_cons, List.not_mem_nil, false_implies, implies_true, and_true] at hq
  obtain ⟨hl, hm, ht⟩ := hq
  unfold State.lockShow
  split <;> rw [State.rd_wr_ne _ ht, State.rd_wr_ne _ hm, State.rd_put_ne _ hl]

/-- Without a lock LOCKED shows 0. -/
theorem State.lockShow_unlocked (h : s.fab.lock = none) : s.lockShow.on Reg.FAB_STATUS.LOCKED = false := by
  have hshow : s.lockShow =
      ((s.put Reg.FAB_STATUS.LOCKED false).wr Reg.FAB_STATUS.LOCK_MASTER 0).wr Reg.FAB_STATUS.LOCK_TARGET 0 := by
    simp only [State.lockShow, h]
  rw [hshow, State.on, State.rd_wr_ne _ (by decide), State.rd_wr_ne _ (by decide), State.rd_put_same _ _ _ (by decide)]
  rfl

/-- A flag of FAB_STATUS or of a register before it, other than the lock's, reads as before both displays. -/
theorem State.rd_shown {q : FieldRef} (hl : ∀ f ∈ lockFields, q.key ≠ f.key) (hm : q.key < 0x60204 * 32) :
    s.lockShow.fabShow.rd q = s.rd q := by rw [State.rd_fabShow _ hm, State.rd_lockShow _ hl]

/-! ### Answers of the ports (17 R396, R398) -/

/-- A port's answer changes SPI_ERR and the answers alone. -/
theorem State.portAnswer_eq (p d : Nat) (e : Bool) : s.portAnswer p d e = { s with
    regs := (s.portAnswer p d e).regs, fab := { s.fab with answers := (s.portAnswer p d e).fab.answers } } := by
  unfold State.portAnswer
  split
  · rfl
  · dsimp only
    split <;> split <;> rfl

@[simp] theorem State.portAnswer_mem (p d : Nat) (e : Bool) : (s.portAnswer p d e).mem = s.mem :=
  (congrArg State.mem (s.portAnswer_eq p d e) :)
@[simp] theorem State.portAnswer_flt (p d : Nat) (e : Bool) : (s.portAnswer p d e).flt = s.flt :=
  (congrArg State.flt (s.portAnswer_eq p d e) :)
@[simp] theorem State.portAnswer_waiting (p d : Nat) (e : Bool) : (s.portAnswer p d e).fab.waiting = s.fab.waiting :=
  (congrArg (fun t : State => t.fab.waiting) (s.portAnswer_eq p d e) :)
@[simp] theorem State.portAnswer_served (p d : Nat) (e : Bool) : (s.portAnswer p d e).fab.served = s.fab.served :=
  (congrArg (fun t : State => t.fab.served) (s.portAnswer_eq p d e) :)
@[simp] theorem State.portAnswer_lock (p d : Nat) (e : Bool) : (s.portAnswer p d e).fab.lock = s.fab.lock :=
  (congrArg (fun t : State => t.fab.lock) (s.portAnswer_eq p d e) :)

/-- A master without a port gets no answer. -/
@[simp] theorem State.portAnswer_none (d : Nat) (e : Bool) : s.portAnswer 0 d e = s := rfl

/-- Every field but SPI_ERR reads as before. -/
theorem State.rd_portAnswer {q : FieldRef} (hq : q.key ≠ Reg.HOST_STATUS.SPI_ERR.key) (p d : Nat) (e : Bool) :
    (s.portAnswer p d e).rd q = s.rd q := by
  unfold State.portAnswer
  split
  · rfl
  · dsimp only
    split
    · split <;> exact s.rd_put_ne hq true
    · split <;> rfl

/-- A port whose later accesses have all been answered holds the answer. -/
theorem State.portAnswer_free {p : Nat} (d : Nat) (e : Bool) (hp : p ≠ 0) (hf : s.fab.portBusy p = false) :
    sfind p (s.portAnswer p d e).fab.answers = some ⟨d, e, 3, 0⟩ := by
  unfold State.portAnswer
  rw [if_neg hp]
  dsimp only
  split <;> simp [hf]

/-! ### Error responses (R339) -/

/-- The fields that an error response may change. -/
def errorFields : List FieldRef := [Reg.FAB_CNT.ERRRESP, Reg.FAB_STATUS.ERRRESP, Reg.FAB_ERR_ADDR.ADDR,
  Reg.FAB_ERR_INFO.MASTER, Reg.FAB_ERR_INFO.TARGET, Reg.FAB_ERR_INFO.ID, Reg.FAB_ERR_INFO.WRITE, Reg.FAB_ERR_INFO.KIND,
  Reg.FAB_ERR_INFO.VALID]

section FabError

variable (master id target kind a : Nat) (w : Bool)

/-- An error response changes register fields and the collector alone. -/
theorem State.fabError_eq : s.fabError master id target kind a w = { s with
    regs := (s.fabError master id target kind a w).regs, flt := (s.fabError master id target kind a w).flt } := by
  unfold State.fabError State.refused
  dsimp only
  split <;> split <;> simp only [State.raise_eq] <;> rfl

@[simp] theorem State.fabError_mem : (s.fabError master id target kind a w).mem = s.mem :=
  (congrArg State.mem (s.fabError_eq master id target kind a w) :)
@[simp] theorem State.fabError_fab : (s.fabError master id target kind a w).fab = s.fab :=
  (congrArg State.fab (s.fabError_eq master id target kind a w) :)
@[simp] theorem State.fabError_mtx : (s.fabError master id target kind a w).mtx = s.mtx :=
  (congrArg State.mtx (s.fabError_eq master id target kind a w) :)
@[simp] theorem State.fabError_str : (s.fabError master id target kind a w).str = s.str :=
  (congrArg State.str (s.fabError_eq master id target kind a w) :)

/-- FAB_ERR has arrived, and after it CTL_REFUSED where the write was refused. -/
theorem State.fabError_arriving : (s.fabError master id target kind a w).flt.arriving =
    s.flt.arriving ++ Src.FAB_ERR :: (if w && decide (kind < 6) then [Src.CTL_REFUSED] else []) := by
  have herr : faultListed Src.FAB_ERR = true := by decide
  have hctl : faultListed Src.CTL_REFUSED = true := by decide
  unfold State.fabError State.refused
  dsimp only
  split <;> split <;> simp [State.raise_arriving, herr, hctl, State.bump]

/-- With a record held, an error response is counted and flagged. -/
theorem State.rd_fabError_held (h : s.on Reg.FAB_ERR_INFO.VALID = true) (q : FieldRef) :
    (s.fabError master id target kind a w).rd q =
      ((s.bump Reg.FAB_CNT.ERRRESP 1).put Reg.FAB_STATUS.ERRRESP true).rd q := by
  have h' : ((s.bump Reg.FAB_CNT.ERRRESP 1).put Reg.FAB_STATUS.ERRRESP true).on Reg.FAB_ERR_INFO.VALID = true := by
    rw [State.on_put_ne _ (by decide), State.on_congr (State.rd_bump_ne _ (by decide) _), h]
  unfold State.fabError State.refused
  simp only [h', if_true]
  split <;> simp

/-- With no record held, it is recorded too. -/
theorem State.rd_fabError_recorded (h : s.on Reg.FAB_ERR_INFO.VALID = false) (q : FieldRef) :
    (s.fabError master id target kind a w).rd q =
      ((((((((s.bump Reg.FAB_CNT.ERRRESP 1).put Reg.FAB_STATUS.ERRRESP true).wr Reg.FAB_ERR_ADDR.ADDR a).wr
        Reg.FAB_ERR_INFO.MASTER master).wr Reg.FAB_ERR_INFO.TARGET target).wr Reg.FAB_ERR_INFO.ID id).put
        Reg.FAB_ERR_INFO.WRITE w).wr Reg.FAB_ERR_INFO.KIND kind |>.put Reg.FAB_ERR_INFO.VALID true).rd q := by
  have h' : ((s.bump Reg.FAB_CNT.ERRRESP 1).put Reg.FAB_STATUS.ERRRESP true).on Reg.FAB_ERR_INFO.VALID = false := by
    rw [State.on_put_ne _ (by decide), State.on_congr (State.rd_bump_ne _ (by decide) _), h]
  unfold State.fabError State.refused
  simp only [h', Bool.false_eq_true, if_false]
  split <;> simp

/-- Every other field reads as before. -/
theorem State.rd_fabError {q : FieldRef} (hq : ∀ f ∈ errorFields, q.key ≠ f.key) :
    (s.fabError master id target kind a w).rd q = s.rd q := by
  simp only [errorFields, List.forall_mem_cons, List.not_mem_nil, false_implies, implies_true, and_true] at hq
  obtain ⟨hcnt, hst, haddr, hm, ht, hid, hw, hk, hv⟩ := hq
  cases h : s.on Reg.FAB_ERR_INFO.VALID
  · simp only [s.rd_fabError_recorded _ _ _ _ _ _ h, State.rd_put_ne _ hv, State.rd_wr_ne _ hk, State.rd_put_ne _ hw,
      State.rd_wr_ne _ hid, State.rd_wr_ne _ ht, State.rd_wr_ne _ hm, State.rd_wr_ne _ haddr, State.rd_put_ne _ hst,
      State.rd_bump_ne _ hcnt]
  · rw [s.rd_fabError_held _ _ _ _ _ _ h, State.rd_put_ne _ hst, State.rd_bump_ne _ hcnt]

/-- An error response is counted, flagged, and recorded as the first (R339). -/
theorem State.errorKept_fabError (hk : kind < 8) : ErrorKept s (s.fabError master id target kind a w) kind a := by
  unfold ErrorKept Bumped State.on
  cases h : s.on Reg.FAB_ERR_INFO.VALID
  · have hv : ¬ s.rd Reg.FAB_ERR_INFO.VALID = 1 := by simpa [State.on] using h
    have hkind : kind % 2 ^ Reg.FAB_ERR_INFO.KIND.width = kind := Nat.mod_eq_of_lt hk
    simp only [s.rd_fabError_recorded _ _ _ _ _ _ h]
    simp (disch := decide) [State.rd_put_ne, State.rd_wr_ne, State.rd_put_same, State.rd_bump_same,
      hv, hkind]
    rfl
  · have hv : s.rd Reg.FAB_ERR_INFO.VALID = 1 := by simpa [State.on] using h
    simp only [s.rd_fabError_held _ _ _ _ _ _ h]
    simp (disch := decide) [State.rd_put_ne, State.rd_put_same, State.rd_bump_ne, State.rd_bump_same, hv]

end FabError

/-- A transaction that is not performed leaves memory. -/
theorem State.fabFail_mem (r : FabReq) (k : Nat) : (s.fabFail r k).mem = s.mem := by simp [State.fabFail]

/-- It leaves the waiting requests. -/
theorem State.fabFail_waiting (r : FabReq) (k : Nat) : (s.fabFail r k).fab.waiting = s.fab.waiting := by
  simp [State.fabFail]

/-- It leaves the lock. -/
theorem State.fabFail_lock (r : FabReq) (k : Nat) : (s.fabFail r k).fab.lock = s.fab.lock := by simp [State.fabFail]

/-- The fields that neither an error response nor an answer changes read as before. -/
theorem State.rd_fabFail {q : FieldRef} (hp : q.key ≠ Reg.HOST_STATUS.SPI_ERR.key)
    (hq : ∀ f ∈ errorFields, q.key ≠ f.key) (r : FabReq) (k : Nat) : (s.fabFail r k).rd q = s.rd q := by
  rw [State.fabFail, State.rd_portAnswer _ hp, State.rd_fabError _ _ _ _ _ _ _ hq]

end Sys2Proof.Machine
end

section
/-! SUPPORT. The transactions of the fabric: issue, grant, response, locks and master resets (15 R333-R342). -/

namespace Sys2Proof.Machine

open Sys2Proof.Claims

variable (s : State)

/-! ### Issue (R339, R340) -/

/-- A served request waits behind those issued before it. -/
theorem State.issue_waits {r : FabReq} (hp : placeOf r.rom r.addr ≠ .none) (hl : r.lock = true → fabTarget r.addr < 2) :
    (s.issue r).fab.waiting = s.fab.waiting ++ [{ r with at_ := s.fab.now }] ∧
    (s.issue r).fab.served = s.fab.served ∧ (s.issue r).fab.lock = s.fab.lock ∧ (s.issue r).mem = s.mem := by
  have hlock : (r.lock && decide (2 ≤ fabTarget r.addr)) = false := by
    cases h : r.lock
    · rfl
    · have := hl h
      simp; omega
  simp [State.issue, hp, hlock]

/-- A request at an address that nothing serves ends in an error response. -/
theorem State.issue_unmapped {r : FabReq} (hp : placeOf r.rom r.addr = .none) : s.issue r = s.fabFail r 1 := by
  simp [State.issue, hp]

/-- A LOCK read of a target that takes no lock ends in an error response. -/
theorem State.issue_lockTarget {r : FabReq} (hp : placeOf r.rom r.addr ≠ .none) (hl : r.lock = true)
    (ht : 2 ≤ fabTarget r.addr) : s.issue r = s.fabFail r 4 := by
  simp [State.issue, hp, hl, ht]

/-- The error response to a read without a port: recorded and raised, and nothing else of the fabric changes. -/
theorem State.fabFail_read {r : FabReq} {k : Nat} (hp : r.port = 0) (hw : r.write = false) (hk : k < 8) :
    (s.fabFail r k).fab = s.fab ∧ ErrorKept s (s.fabFail r k) k r.addr ∧ Raised (s.fabFail r k) Src.FAB_ERR ∧
    (s.fabFail r k).mem = s.mem := by
  rw [State.fabFail, hp, State.portAnswer_none]
  refine ⟨by simp, s.errorKept_fabError _ _ _ _ _ _ hk, ?_, by simp⟩
  simp [Raised, State.fabError_arriving, hw]

/-! ### Arbitration (R333) -/

/-- Of two elements the second is chosen where its measure is smaller. -/
theorem firstBy_second {α : Type} {f : α → Nat} {x y : α} (h : f y < f x) : firstBy f [x, y] = some y := by
  simp [firstBy, Nat.not_le.mpr h]

/-- With AGE off, a target grants of two requests the one of higher priority. -/
theorem State.grantee_higher {t c : Nat} {x y : FabReq} (hg : s.grantable t c = [x, y]) (hage : s.rd Reg.FAB_ARB.AGE = 0)
    (hlt : s.priority t x.master < s.priority t y.master) (hy : s.priority t y.master ≤ 15) : s.grantee t c = some y := by
  have hold : ([x, y].filter fun r : FabReq => decide ((0 : Nat) ≠ 0 ∧ r.at_ + 0 < c)) = [] := by simp
  have hround : roundPlace (sget 5 t s.fab.last) y.master < 6 := Nat.mod_lt _ (by omega)
  have hbest : firstBy (fun r : FabReq => (15 - s.priority t r.master) * 6 + roundPlace (sget 5 t s.fab.last) r.master)
      [x, y] = some y := firstBy_second (by omega)
  simp only [State.grantee, hg, hage, hold]
  exact hbest

/-- A free target that has a request to grant serves it; a LOCK read begins the lock. -/
theorem State.grant_free {t c : Nat} {r : FabReq} (hf : sfind t s.fab.served = none) (hr : s.grantee t c = some r) :
    s.grant t c = ((s.fabNow c).onFab fun f => { f with
      waiting := f.waiting.erase r, served := sinsert t ⟨r, c, false⟩ f.served, last := sset 5 t r.master f.last
      lock := if r.lock then some ⟨r.master, t, c⟩ else f.lock }).lockShow.fabShow := by
  have hf' : (sfind t (s.fabNow c).fab.served).isSome = false := by rw [State.fabNow, State.onFab_fab, hf]; rfl
  have hr' : (s.fabNow c).grantee t c = some r := hr
  simp only [State.grant, hf', hr', Bool.false_eq_true, if_false]

/-- A target that serves a transaction grants nothing. -/
theorem State.grant_busy {t c : Nat} {g : FabGrant} (hg : sfind t s.fab.served = some g) :
    s.grant t c = s.fabNow c := by
  have hg' : (sfind t (s.fabNow c).fab.served).isSome = true := by rw [State.fabNow, State.onFab_fab, hg]; rfl
  simp only [State.grant, hg', if_true]

/-! ### Performing a request at working RAM (16 R365) -/

/-- Clearing the marks of the codewords that a write covers changes check bits alone. -/
theorem State.ramCover_eq (a n : Nat) : s.ramCover a n = { s with ecc := (s.ramCover a n).ecc } := by
  unfold State.ramCover
  dsimp only
  split <;> rfl

/-- Correcting codewords changes check bits alone. -/
theorem State.ramFix_eq (a n : Nat) : s.ramFix a n = { s with ecc := (s.ramFix a n).ecc } := by
  have h : ({ s.ramFix a n with ecc := [] } : State) = { s with ecc := [] } :=
    foldl_keeps (fun t : State => ({ t with ecc := [] } : State))
      (fun t i => t.eccClear (.ram (a / 8 + i))) (fun _ _ => rfl) _ s
  exact congrArg (fun t : State => { t with ecc := (s.ramFix a n).ecc }) h

/-- A write of working RAM that tears no damaged codeword stores its bytes. -/
theorem State.writeAt_ram {rom : Bool} {a x n : Nat} (v : Nat) (hp : placeOf rom a = .ram x) (ht : s.ramTorn x n = false) :
    s.writeAt rom a n v = ((s.ramCover x n).ramFix x n).store x n v := by
  simp [State.writeAt, hp, State.ramWrite, ht]

/-- The store of a write of working RAM changes check bits and memory alone. -/
theorem State.ramStore_eq (x n v : Nat) : ((s.ramCover x n).ramFix x n).store x n v = { s with
    ecc := (((s.ramCover x n).ramFix x n).store x n v).ecc, mem := (((s.ramCover x n).ramFix x n).store x n v).mem } := by
  rw [State.store_eq, State.ramFix_eq, State.ramCover_eq]

/-- The store of a write of working RAM leaves its bytes and no others. -/
theorem State.ramStore_storedAt (x n v : Nat) : StoredAt s (((s.ramCover x n).ramFix x n).store x n v) x n v := by
  refine ⟨State.load_store _ _ _ _, fun b hb => ?_⟩
  rw [State.byte_store_out _ _ _ _ _ hb, State.ramFix_eq, State.ramCover_eq]
  rfl

/-- A read of undamaged working RAM answers its bytes and changes nothing. -/
theorem State.readAt_ram {rom : Bool} {a x n : Nat} (hp : placeOf rom a = .ram x) (hm : s.ramMarks x n = []) :
    s.readAt rom a n = (some (s.load x n), s) := by
  simp [State.readAt, hp, State.ramRead, hm]

/-- What is stored stands where memory is the same. -/
theorem storedAt_congr {s t u : State} {a n v : Nat} (h : StoredAt s t a n v) (hm : u.mem = t.mem) : StoredAt s u a n v := by
  obtain ⟨hload, hout⟩ := h
  refine ⟨(State.load_congr hm n a).trans hload, fun b hb => ?_⟩
  rw [← hout b hb, State.byte, State.byte, hm]

/-- A performed write of working RAM stores its bytes; of the fabric only the ports' answers may change. -/
theorem State.perform_ramWrite {r : FabReq} {x : Nat} (hw : r.write = true) (hp : placeOf r.rom r.addr = .ram x)
    (ht : s.ramTorn x r.size = false) : StoredAt s (s.perform r) x r.size r.data ∧
    (s.perform r).fab.waiting = s.fab.waiting ∧ (s.perform r).fab.served = s.fab.served ∧
    (s.perform r).fab.lock = s.fab.lock := by
  have ht' : (s.busAs r.master r.id).ramTorn x r.size = false := ht
  have hfab := congrArg State.fab ((s.busAs r.master r.id).ramStore_eq x r.size r.data)
  simp only [State.perform, hw, if_true, State.writeAt_ram _ _ hp ht', State.portAnswer_waiting,
    State.portAnswer_served, State.portAnswer_lock, State.busEnd, hfab]
  exact ⟨storedAt_congr ((s.busAs r.master r.id).ramStore_storedAt x r.size r.data) (State.portAnswer_mem _ _ _ _),
    rfl, rfl, rfl⟩

/-- A performed read of undamaged working RAM answers its port with the bytes, and leaves memory and the fabric's other
parts. -/
theorem State.perform_ramRead {r : FabReq} {x : Nat} (hw : r.write = false) (hp : placeOf r.rom r.addr = .ram x)
    (hm : s.ramMarks x r.size = []) : (s.perform r).mem = s.mem ∧
    (r.port ≠ 0 → s.fab.portBusy r.port = false →
      sfind r.port (s.perform r).fab.answers = some ⟨s.load x r.size, false, 3, 0⟩) ∧
    (s.perform r).fab.waiting = s.fab.waiting ∧ (s.perform r).fab.served = s.fab.served ∧
    (s.perform r).fab.lock = s.fab.lock := by
  have hm' : (s.busAs r.master r.id).ramMarks x r.size = [] := hm
  have hload : (s.busAs r.master r.id).load x r.size = s.load x r.size :=
    State.load_congr (s := s) (t := s.busAs r.master r.id) rfl _ _
  have hperf : s.perform r =
      ((s.busAs r.master r.id).busEnd (s.load x r.size)).portAnswer r.port (s.load x r.size) false := by
    simp only [State.perform, hw, Bool.false_eq_true, if_false, State.readAt_ram _ hp hm', Option.getD_some, hload]
    rfl
  rw [hperf]
  exact ⟨State.portAnswer_mem _ _ _ _, fun h0 hb => State.portAnswer_free _ _ _ h0 hb,
    State.portAnswer_waiting _ _ _ _, State.portAnswer_served _ _ _ _, State.portAnswer_lock _ _ _ _⟩

/-! ### Responses (R335, R340) -/

/-- The lock after a response of a target to a request: the holder's UNLOCK there ends it. -/
def lockAfter (t : Nat) (r : FabReq) : Option FabLock → Option FabLock
  | some l => if r.unlock = true ∧ l.master = r.master ∧ l.target = t then none else some l
  | none => none

/-- The state once a target's transaction has left the table. -/
def State.unserve (s : State) (t : Nat) : State := s.onFab fun f => { f with served := serase t f.served }

/-- The response to a transaction that was not retired performs it. -/
theorem State.respond_live {t : Nat} {g : FabGrant} (hg : sfind t s.fab.served = some g) (hr : g.retired = false) :
    s.respond t = (((s.unserve t).perform g.req).onFab fun f =>
      { f with lock := lockAfter t g.req f.lock }).lockShow.fabShow := by
  simp only [State.respond, hg, hr, Bool.false_eq_true, if_false]
  rfl

/-- The response to a retired transaction with no bytes left lets it go. -/
theorem State.respond_drained {t : Nat} {g : FabGrant} (hg : sfind t s.fab.served = some g) (hr : g.retired = true)
    (hz : g.req.size = 0) : s.respond t = ((s.unserve t).onFab fun f =>
      { f with lock := lockAfter t g.req f.lock }).lockShow.fabShow := by
  have hno : (g.req.write && decide (0 < g.req.size)) = false := by simp [hz]
  simp only [State.respond, hg, hr, hno, Bool.false_eq_true, if_true, if_false]
  rfl

/-- A target that serves nothing has no response to give. -/
theorem State.respond_idle {t : Nat} (hf : sfind t s.fab.served = none) : s.respond t = s := by
  simp only [State.respond, hf]

/-- No other access of a port is on its way once a target's transaction has left the table. -/
theorem State.portBusy_unserve {t p : Nat} (hw : ∀ q ∈ s.fab.waiting, q.port ≠ p)
    (hs : ∀ q ∈ s.fab.served, q.1 ≠ t → q.2.req.port ≠ p) : (s.unserve t).fab.portBusy p = false := by
  simp only [FabState.portBusy, State.unserve, State.onFab_fab, Bool.or_eq_false_iff, List.any_eq_false,
    serase_eq_filter, List.mem_filter]
  refine ⟨fun q hq => by simpa using hw q hq, fun q ⟨hq, hne⟩ => ?_⟩
  have := hs q hq (by simpa using hne)
  simp [this]

/-! ### Locks (R341) -/

/-- The fabric once a lock is broken, with `served` left in the table: what the sequence had waiting waits no longer. -/
def brokenFab (l : FabLock) (served : SMap FabGrant) (f : FabState) : FabState := { f with
  lock := none, served := served
  waiting := f.waiting.filter fun q => !decide (q.master = l.master ∧ fabTarget q.addr = l.target) }

/-- A lock that is due is dropped, what it loses ends in error responses, and the break is flagged, counted and raised. -/
theorem State.breakLock_eq {c : Nat} {l : FabLock} (hl : s.fab.lock = some l) (hc : l.since + 64 ≤ c) :
    ∃ (served : SMap FabGrant) (lost : List FabReq), s.breakLock c =
      ((((lost.foldl (fun s r => s.fabFail r 7) ((s.fabNow c).onFab (brokenFab l served))).put
        Reg.FAB_STATUS.LOCK_BROKEN true).bump Reg.FAB_CNT.LOCKBRK 1).raise Src.FAB_LOCK).lockShow.fabShow := by
  have hl' : (s.fabNow c).fab.lock = some l := hl
  simp only [State.breakLock, hl', Nat.not_lt.mpr hc, if_false]
  exact ⟨_, _, rfl⟩

/-- A lock that is not due stands. -/
theorem State.breakLock_early {c : Nat} {l : FabLock} (hl : s.fab.lock = some l) (hc : c < l.since + 64) :
    s.breakLock c = s.fabNow c := by
  have hl' : (s.fabNow c).fab.lock = some l := hl
  simp only [State.breakLock, hl', hc, if_true]

/-- What a due break leaves before it is flagged: no lock, the sequence gone, memory and the count as they were. -/
theorem State.breakLock_due {c : Nat} {l : FabLock} (hl : s.fab.lock = some l) (hc : l.since + 64 ≤ c) :
    ∃ t : State, s.breakLock c =
      (((t.put Reg.FAB_STATUS.LOCK_BROKEN true).bump Reg.FAB_CNT.LOCKBRK 1).raise Src.FAB_LOCK).lockShow.fabShow ∧
      t.mem = s.mem ∧ t.fab.lock = none ∧ t.fab.waiting = (brokenFab l [] s.fab).waiting ∧
      t.rd Reg.FAB_CNT.LOCKBRK = s.rd Reg.FAB_CNT.LOCKBRK := by
  obtain ⟨served, lost, hbreak⟩ := s.breakLock_eq hl hc
  let fail := fun (s : State) (r : FabReq) => s.fabFail r 7
  exact ⟨_, hbreak, foldl_keeps State.mem fail (fun s r => s.fabFail_mem r 7) _ _,
    foldl_keeps (fun t : State => t.fab.lock) fail (fun s r => s.fabFail_lock r 7) _ _,
    foldl_keeps (fun t : State => t.fab.waiting) fail (fun s r => s.fabFail_waiting r 7) _ _,
    foldl_keeps (State.rd · Reg.FAB_CNT.LOCKBRK) fail (fun s r => s.rd_fabFail (by decide) (by decide) r 7) _ _⟩

/-! ### Master resets (R342) -/

/-- With no beat accepted nothing lands. -/
theorem State.landBeats_zero (m : Nat) : s.landBeats m 0 = s :=
  foldl_keeps id _ (fun t p => by simp) s.fab.served s

/-- What a reset of master `m` makes of a granted transaction. -/
def resetGrant (m : Nat) (g : FabGrant) : FabGrant :=
  if g.req.master = m then { g with retired := true, req := { g.req with size := 0 } } else g

/-- What a reset of master `m` makes of the lock. -/
def resetLock (m : Nat) : Option FabLock → Option FabLock
  | some l => if l.master = m then none else some l
  | none => none

/-- A reset of master `m` as the fabric holds it. -/
def resetFab (m : Nat) (f : FabState) : FabState := { f with
  waiting := f.waiting.filter fun r => decide (r.master ≠ m)
  served := f.served.map fun p => (p.1, resetGrant m p.2)
  lock := resetLock m f.lock }

/-- A master's reset settles its transactions, answers its ports, and raises FAB_RETIRE for what it retires. -/
theorem State.retireMaster_eq (m : Nat) : ∃ mine : List FabReq, s.retireMaster m =
    let t := (mine.foldl (fun s r => s.portAnswer r.port 0 true) (s.onFab (resetFab m))).lockShow.fabShow
    if 0 < s.fab.outstanding m then (t.put Reg.FAB_STATUS.RETIRED true).raise Src.FAB_RETIRE else t := by
  simp only [State.retireMaster, decide_eq_true_eq]
  exact ⟨_, rfl⟩

/-- What a master's reset leaves before FAB_RETIRE: the fabric settled, memory and the collector as they were. -/
theorem State.retireMaster_settles (m : Nat) : ∃ t : State, s.retireMaster m =
      (if 0 < s.fab.outstanding m then (t.put Reg.FAB_STATUS.RETIRED true).raise Src.FAB_RETIRE else t) ∧
    t.mem = s.mem ∧ t.flt = s.flt ∧ t.fab.waiting = (resetFab m s.fab).waiting ∧
    t.fab.served = (resetFab m s.fab).served ∧ t.fab.lock = (resetFab m s.fab).lock := by
  obtain ⟨mine, hret⟩ := s.retireMaster_eq m
  refine ⟨_, hret, ?_⟩
  let answer := fun (s : State) (r : FabReq) => s.portAnswer r.port 0 true
  simp only [State.fabShow_mem, State.lockShow_mem, State.fabShow_flt, State.lockShow_flt, State.fabShow_fab,
    State.lockShow_fab]
  exact ⟨foldl_keeps State.mem answer (fun s r => s.portAnswer_mem _ _ _) _ _,
    foldl_keeps State.flt answer (fun s r => s.portAnswer_flt _ _ _) _ _,
    foldl_keeps (fun t : State => t.fab.waiting) answer (fun s r => s.portAnswer_waiting _ _ _) _ _,
    foldl_keeps (fun t : State => t.fab.served) answer (fun s r => s.portAnswer_served _ _ _) _ _,
    foldl_keeps (fun t : State => t.fab.lock) answer (fun s r => s.portAnswer_lock _ _ _) _ _⟩

/-- The transactions of other masters stay as they were granted. -/
theorem sfind_resetFab_other {f : FabState} {m k : Nat} {g : FabGrant} (hg : sfind k f.served = some g)
    (hm : g.req.master ≠ m) : sfind k (resetFab m f).served = some g := by
  rw [resetFab, sfind_map, hg, Option.map_some, resetGrant, if_neg hm]

/-- The master's own transactions are retired. -/
theorem resetFab_retires {f : FabState} {m : Nat} :
    ∀ p ∈ (resetFab m f).served, p.2.req.master = m → p.2.retired = true := by
  intro p hp hm
  obtain ⟨q, -, rfl⟩ := List.mem_map.mp hp
  by_cases h : q.2.req.master = m
  · simp [resetGrant, h]
  · simp [resetGrant, h] at hm

/-- The lock of the master is released. -/
theorem resetLock_other {m : Nat} {l : FabLock} {o : Option FabLock} (h : resetLock m o = some l) : l.master ≠ m := by
  cases o with
  | none => cases h
  | some k =>
    simp only [resetLock] at h
    split at h
    · cases h
    · cases h; assumption

/-- The response to a retired transaction without bytes takes it from the table and changes no memory. -/
theorem State.respond_retired {t : Nat}
    (h : ∀ g, sfind t s.fab.served = some g → g.retired = true ∧ g.req.size = 0) :
    (s.respond t).mem = s.mem ∧ (s.respond t).fab.waiting = s.fab.waiting ∧
    sfind t (s.respond t).fab.served = none ∧
    ∀ k, k ≠ t → sfind k (s.respond t).fab.served = sfind k s.fab.served := by
  cases hf : sfind t s.fab.served with
  | none => rw [s.respond_idle hf]; exact ⟨rfl, rfl, hf, fun _ _ => rfl⟩
  | some g =>
    obtain ⟨hr, hz⟩ := h g hf
    rw [s.respond_drained hf hr hz]
    refine ⟨by simp [State.unserve], by simp [State.unserve], by simp [State.unserve], fun k hk => ?_⟩
    simp [State.unserve, sfind_serase_ne hk]

/-- What drains leaves the table, each by its target, and no memory changes. -/
theorem foldl_respond_retired (l : List (Nat × FabGrant)) : ∀ s : State,
    (∀ p ∈ l, ∀ g, sfind p.1 s.fab.served = some g → g.retired = true ∧ g.req.size = 0) →
    let u := l.foldl (fun s p => s.respond p.1) s
    u.mem = s.mem ∧ u.fab.waiting = s.fab.waiting ∧
    ∀ k, sfind k s.fab.served = none ∨ k ∈ l.map Prod.fst → sfind k u.fab.served = none := by
  induction l with
  | nil => intro s _; simp
  | cons p l ih =>
    intro s h
    obtain ⟨hmem, hwait, hgone, hothers⟩ := s.respond_retired (t := p.1) (h p List.mem_cons_self)
    have hrest : ∀ q ∈ l, ∀ g, sfind q.1 (s.respond p.1).fab.served = some g →
        g.retired = true ∧ g.req.size = 0 := by
      intro q hq g hg
      by_cases e : q.1 = p.1
      · rw [e, hgone] at hg; cases hg
      · exact h q (List.mem_cons_of_mem _ hq) g (hothers q.1 e ▸ hg)
    obtain ⟨hmem', hwait', hnone⟩ := ih (s.respond p.1) hrest
    refine ⟨hmem'.trans hmem, hwait'.trans hwait, fun k hk => hnone k ?_⟩
    by_cases e : k = p.1
    · exact .inl (e ▸ hgone)
    · simpa [e, hothers k e] using hk

/-- A drained master's retired transactions, all without bytes, leave the table. -/
theorem State.drained_retired (m : Nat) (hd : (s.fab.served.map Prod.fst).Nodup)
    (hz : ∀ p ∈ s.fab.served, p.2.retired = true → p.2.req.size = 0) :
    (s.drained m).mem = s.mem ∧ (s.drained m).fab.waiting = s.fab.waiting ∧
    ∀ k g, sfind k s.fab.served = some g → g.req.master = m → g.retired = true →
      sfind k (s.drained m).fab.served = none := by
  obtain ⟨hmem, hwait, hnone⟩ := foldl_respond_retired
    (s.fab.served.filter fun p => decide (p.2.req.master = m) && p.2.retired) s fun p hp g hg => by
      obtain ⟨hp, hr⟩ := List.mem_filter.mp hp
      rw [sfind_of_mem hd hp] at hg
      cases hg
      have hr : p.2.retired = true := (Bool.and_eq_true _ _ ▸ hr).2
      exact ⟨hr, hz p hp hr⟩
  refine ⟨hmem, hwait, fun k g hg hm hr => hnone k (.inr ?_)⟩
  exact List.mem_map.mpr ⟨(k, g), List.mem_filter.mpr ⟨mem_of_sfind hg, by simp [hm, hr]⟩, rfl⟩

end Sys2Proof.Machine
end

section
/-! SUPPORT. Accesses of register space: where an offset lies, error responses, writes of a plain register, and reads
that clear RC fields (00 R6, R435; 15 R331, R339). -/

namespace Sys2Proof.Machine

open Sys2Proof.Claims

variable (s : State)

/-- An offset of register space is a register's. -/
theorem placeOf_reg (rom : Bool) {c : Nat} (h : c < 0x170000) : placeOf rom (0x40000000 + c) = .reg c := by
  have ht : fabTarget (0x40000000 + c) = 4 := by
    unfold fabTarget
    repeat rw [if_neg (by omega)]
    rw [if_pos (by omega)]
  rw [placeOf, if_neg (by omega), if_neg (by omega), if_neg (by omega), ht]
  simp

/-- Beyond register space nothing is mapped. -/
theorem placeOf_unmapped (rom : Bool) {c : Nat} (h : 0x170000 ≤ c) : placeOf rom (0x40000000 + c) = .none := by
  have ht : fabTarget (0x40000000 + c) = 7 := by
    unfold fabTarget
    repeat rw [if_neg (by omega)]
  rw [placeOf, if_neg (by omega), if_neg (by omega), if_neg (by omega), ht]
  simp

/-- What a write that ends in an error response with a KIND below 6 leaves (R339, 01 R19). -/
theorem State.busFail_write {k : Nat} (hk : k < 6) (a : Nat) : let u := ((s.busAs 3 0).busFail k a true).busEnd 0
    u.bus.err = true ∧ ErrorKept s u k a ∧ Raised u Src.CTL_REFUSED ∧ RaisedSome u Src.FAB_ERR ∧ u.mem = s.mem ∧
    u.mtx = s.mtx ∧ u.str = s.str := by
  have hkept := (s.busAs 3 0).errorKept_fabError 3 0 (fabTarget a) k a true (by omega)
  have harr : (((s.busAs 3 0).busFail k a true).busEnd 0).flt.arriving =
      s.flt.arriving ++ [Src.FAB_ERR, Src.CTL_REFUSED] := by
    have := (s.busAs 3 0).fabError_arriving 3 0 (fabTarget a) k a true
    rw [if_pos (by simp [hk])] at this
    exact this
  exact ⟨rfl, hkept, by simp [Raised, harr], by simp [RaisedSome, harr], State.fabError_mem _ _ _ _ _ _ _,
    State.fabError_mtx _ _ _ _ _ _ _, State.fabError_str _ _ _ _ _ _ _⟩

/-- A write at an offset that is no multiple of 4 ends in an error response of KIND 3. -/
theorem State.busWrite_misaligned {c : Nat} (h : c < 0x170000) (hc : c % 4 ≠ 0) (v : Nat) :
    (s.busWrite 3 0 (0x40000000 + c) 4 v).2 = ((s.busAs 3 0).busFail 3 (0x40000000 + c) true).busEnd 0 := by
  simp [State.busWrite, State.writeAt, placeOf_reg _ h, hc]

/-- A write beyond register space ends in an error response of KIND 1. -/
theorem State.busWrite_unmapped {c : Nat} (h : 0x170000 ≤ c) (v : Nat) :
    (s.busWrite 3 0 (0x40000000 + c) 4 v).2 = ((s.busAs 3 0).busFail 1 (0x40000000 + c) true).busEnd 0 := by
  simp [State.busWrite, State.writeAt, placeOf_unmapped _ h]

/-- A write of a register reaches the register. -/
theorem State.busWrite_reg {c : Nat} (h : c < 0x170000) (hc : c % 4 = 0) (v : Word) :
    (s.busWrite 3 0 (0x40000000 + c) 4 v.toNat).2 = ((s.busAs 3 0).regWrite c v).busEnd 0 := by
  simp [State.busWrite, State.writeAt, placeOf_reg _ h, hc]

/-- With an empty audit list no write is journaled (16 R367). -/
theorem State.journal_off (old : State) (a : Nat) (v : Word) (h : s.flt.auditList = []) : old.journal s a v = s := by
  simp [State.journal, State.audited, h]

/-- A write of a register of one RW field without a stated range, which acts at once, sets that field. -/
theorem State.regWrite_plain {a : Nat} {v : Word} {f : FieldRef} (hctrl : a ≠ 0x100) (hloc : actsLocally a = true)
    (hact : s.localWrite a v = s.guarded a v id) (hf : fieldsAt a = some [⟨f, .rw, .any⟩])
    (haud : s.flt.auditList = []) : s.regWrite a v = s.wr f (f.part v) := by
  have hw : s.localWrite a v = s.wr f (f.part v) := by
    rw [hact, State.guarded, hf]
    rfl
  simp only [State.regWrite, hctrl, if_false, State.control, hloc, Bool.not_true, Bool.and_false, Bool.false_eq_true, hw]
  exact State.journal_off _ _ _ _ haud

/-! ### Reads that clear (00 R6) -/

/-- The RC fields among these are 0 at reset. -/
def rcResetZero (fs : List FieldSpec) : Bool := fs.all fun f => match f.acc with
  | .rc => decide (f.ref.reset = 0)
  | _ => true

/-- Every RC field of the register tables is 0 at reset. -/
theorem regRowsOf_rcResetZero (b i j : Nat) : ((regRowsOf b).all fun r => rcResetZero (r.fields i j)) = true := by
  unfold regRowsOf
  split <;> rfl

/-- The RC fields of a register are 0 at reset. -/
theorem fieldsAt_rcResetZero {a : Nat} {fs : List FieldSpec} (h : fieldsAt a = some fs) :
    ∀ f ∈ fs, f.acc = .rc → f.ref.reset = 0 := by
  obtain ⟨r, hr, hfs⟩ := List.exists_of_findSome?_eq_some h
  obtain ⟨⟨i, j⟩, -, rfl⟩ := Option.map_eq_some_iff.mp hfs
  intro f hf hacc
  have := List.all_eq_true.mp (List.all_eq_true.mp (regRowsOf_rcResetZero _ i j) r hr) f hf
  simpa [hacc] using this

/-- A read that clears changes register fields alone. -/
theorem State.readClear_regsOnly (fs : List FieldSpec) : RegsOnly s (s.readClear fs) := by
  refine RegsOnly.foldl (fun s f => ?_) fs s
  split
  · exact RegsOnly.wr _ _ _
  · exact RegsOnly.refl _

/-- A read sets an RC field to 0 before it goes on. -/
theorem State.readClear_rc {f : FieldSpec} (hf : f.acc = .rc) (fs : List FieldSpec) :
    s.readClear (f :: fs) = (s.wr f.ref 0).readClear fs := by
  simp [State.readClear, hf]

/-- A read passes over a field that is not RC. -/
theorem State.readClear_keep {f : FieldSpec} (hf : f.acc ≠ .rc) (fs : List FieldSpec) :
    s.readClear (f :: fs) = s.readClear fs := by
  cases h : f.acc <;> simp_all [State.readClear]

/-- A read that clears leaves the fields that are not RC fields of the register. -/
theorem State.rd_readClear_other {q : FieldRef} (fs : List FieldSpec) : ∀ s : State,
    (∀ f ∈ fs, f.acc = .rc → q.key ≠ f.ref.key) → (s.readClear fs).rd q = s.rd q := by
  induction fs with
  | nil => exact fun _ _ => rfl
  | cons f fs ih =>
    intro s h
    obtain ⟨hf, hfs⟩ := List.forall_mem_cons.mp h
    by_cases hrc : f.acc = .rc
    · rw [s.readClear_rc hrc, ih _ hfs, State.rd_wr_ne _ (hf hrc)]
    · rw [s.readClear_keep hrc, ih _ hfs]

/-- Of two fields that are 0 at reset, one at 0 stays so when the other is set to 0. -/
theorem State.rd_wr_zero {q f : FieldRef} (hq : q.reset = 0) (hf : f.reset = 0) (h : s.rd q = 0) :
    (s.wr f 0).rd q = 0 := by
  by_cases hk : q.key = f.key
  · simp [State.rd, State.wr, hq, hf, hk]
  · rw [State.rd_wr_ne _ hk, h]

/-- A field at 0 stays so through a read that clears. -/
theorem State.rd_readClear_zero {q : FieldRef} (hq : q.reset = 0) (fs : List FieldSpec)
    (hz : ∀ f ∈ fs, f.acc = .rc → f.ref.reset = 0) : ∀ s : State, s.rd q = 0 → (s.readClear fs).rd q = 0 := by
  induction fs with
  | nil => exact fun _ h => h
  | cons f fs ih =>
    intro s h
    obtain ⟨hf, hfs⟩ := List.forall_mem_cons.mp hz
    by_cases hrc : f.acc = .rc
    · rw [s.readClear_rc hrc]
      exact ih hfs _ (s.rd_wr_zero hq (hf hrc) h)
    · rw [s.readClear_keep hrc]
      exact ih hfs s h

/-- A read that clears leaves the RC fields at 0. -/
theorem State.rd_readClear_rc (fs : List FieldSpec) (hz : ∀ f ∈ fs, f.acc = .rc → f.ref.reset = 0) : ∀ s : State,
    ∀ f ∈ fs, f.acc = .rc → (s.readClear fs).rd f.ref = 0 := by
  induction fs with
  | nil => simp
  | cons g fs ih =>
    intro s f hmem hf
    obtain ⟨hg, hfs⟩ := List.forall_mem_cons.mp hz
    rcases List.mem_cons.mp hmem with rfl | hmem
    · rw [s.readClear_rc hf]
      exact State.rd_readClear_zero (hg hf) fs hfs _ (by simp)
    · by_cases hrc : g.acc = .rc
      · rw [s.readClear_rc hrc]; exact ih hfs _ f hmem hf
      · rw [s.readClear_keep hrc]; exact ih hfs s f hmem hf

/-- Which registers show a window does not depend on the access under way. -/
theorem State.windowReg_busAs (c m id : Nat) : ((s.busAs m id).windowReg c).isSome = (s.windowReg c).isSome := by
  unfold State.windowReg
  dsimp only
  split <;> simp only [apply_ite Option.isSome, Option.isSome_some, Option.isSome_none]
  rfl

/-- A read of a plain register answers its word and clears its RC fields. -/
theorem State.busRead_reg {c : Nat} {fs : List FieldSpec} (h : c < 0x170000) (hc : c % 4 = 0) (hf : fieldsAt c = some fs)
    (hw : s.windowReg c = none) (hb : s.shownBit c = none) :
    (s.busRead 3 0 (0x40000000 + c) 4).2 = ((s.busAs 3 0).readClear fs).busEnd (s.word fs).toNat := by
  have hb' : (s.busAs 3 0).shownBit c = none := hb
  have hw' : (s.busAs 3 0).windowReg c = none :=
    Option.not_isSome_iff_eq_none.mp (by simp [State.windowReg_busAs, hw])
  have hread : (s.busAs 3 0).regRead c = ((s.word fs).toNat, (s.busAs 3 0).readClear fs) := by
    simp only [State.regRead, hw', hf, hb']
    rfl
  simp [State.busRead, State.readAt, placeOf_reg _ h, hc, hread]

end Sys2Proof.Machine
end

section
/-! SUPPORT. The commands of the fabric: what each answers (15 R333-R342, 00 R6, R435), and the statements settled. -/

namespace Sys2Proof.Machine

open Sys2Proof.Claims

variable {s : State}

/-- A command of the core answers its function's state while the core is not held in reset. -/
theorem answers_core {i : Instr} {f : State → State} {p : State → Prop} (he : exec i s = core f s) (h : s.held = false)
    (hp : p (f s)) : Answers i s p := ⟨f s, he.trans (core_runs s f h), hp⟩

/-- The request of a LOCK_READ (R340). -/
def lockReq (s : State) (h wide : Bool) (a : Word) : FabReq := {
  master := if h then 3 else 0, id := 0, write := false, addr := a.toNat, size := if wide then 8 else 4
  lock := true, rom := s.romFor (if h then 3 else 0) }

/-- The request of an UNLOCK (R340). -/
def unlockReq (s : State) (h wr wide : Bool) (a : Word) (d : BitVec 64) : FabReq := {
  master := if h then 3 else 0, id := 0, write := wr, addr := a.toNat, size := if wide then 8 else 4
  data := d.toNat % 256 ^ (if wide then 8 else 4), unlock := true, rom := s.romFor (if h then 3 else 0) }

section Commands

variable (hs : s.held = false)
include hs

/-! ### LOCK_READ and UNLOCK (R339, R340) -/

/-- A LOCK read of a served address at T0 or T1 waits in issue order. -/
theorem lockRead_waits {h wide : Bool} {a : Word} (hp : placeOf (s.romFor (if h then 3 else 0)) a.toNat ≠ .none)
    (ht : fabTarget a.toNat < 2) : Answers (.lockRead h wide a) s fun u =>
      (∃ q, u.fab.waiting = s.fab.waiting ++ [q] ∧ q.master = (if h then 3 else 0) ∧ q.write = false ∧
        q.addr = a.toNat ∧ q.size = (if wide then 8 else 4) ∧ q.lock = true) ∧
      u.fab.served = s.fab.served ∧ u.fab.lock = s.fab.lock ∧ u.mem = s.mem := by
  refine answers_core (f := fun s => s.issue (lockReq s h wide a)) rfl hs ?_
  obtain ⟨hwait, hserved, hlock, hmem⟩ := s.issue_waits (r := lockReq s h wide a) hp fun _ => ht
  exact ⟨⟨_, hwait, rfl, rfl, rfl, rfl, rfl⟩, hserved, hlock, hmem⟩

/-- A LOCK read to T2-T4 ends in an error response of KIND 4. -/
theorem lockRead_wrongTarget {h wide : Bool} {a : Word} (hp : placeOf (s.romFor (if h then 3 else 0)) a.toNat ≠ .none)
    (ht : 2 ≤ fabTarget a.toNat) : Answers (.lockRead h wide a) s fun u =>
      u.fab = s.fab ∧ ErrorKept s u 4 a.toNat ∧ Raised u Src.FAB_ERR ∧ u.mem = s.mem := by
  refine answers_core (f := fun s => s.issue (lockReq s h wide a)) rfl hs ?_
  rw [s.issue_lockTarget (r := lockReq s h wide a) hp rfl ht]
  exact s.fabFail_read rfl rfl (by omega)

/-- A LOCK read of an unmapped address ends in an error response of KIND 1. -/
theorem lockRead_unmapped {h wide : Bool} {a : Word} (hp : placeOf (s.romFor (if h then 3 else 0)) a.toNat = .none) :
    Answers (.lockRead h wide a) s fun u =>
      u.fab = s.fab ∧ ErrorKept s u 1 a.toNat ∧ Raised u Src.FAB_ERR ∧ u.mem = s.mem := by
  refine answers_core (f := fun s => s.issue (lockReq s h wide a)) rfl hs ?_
  rw [s.issue_unmapped (r := lockReq s h wide a) hp]
  exact s.fabFail_read rfl rfl (by omega)

/-- An UNLOCK transaction to a served address waits in issue order. -/
theorem unlock_waits {h wr wide : Bool} {a : Word} {d : BitVec 64}
    (hp : placeOf (s.romFor (if h then 3 else 0)) a.toNat ≠ .none) : Answers (.unlock h wr wide a d) s fun u =>
      (∃ q, u.fab.waiting = s.fab.waiting ++ [q] ∧ q.master = (if h then 3 else 0) ∧ q.write = wr ∧
        q.addr = a.toNat ∧ q.size = (if wide then 8 else 4) ∧ q.data = d.toNat % 256 ^ (if wide then 8 else 4) ∧ q.unlock = true) ∧
      u.fab.served = s.fab.served ∧ u.fab.lock = s.fab.lock ∧ u.mem = s.mem := by
  refine answers_core (f := fun s => s.issue (unlockReq s h wr wide a d)) rfl hs ?_
  obtain ⟨hwait, hserved, hlock, hmem⟩ := s.issue_waits (r := unlockReq s h wr wide a d) hp fun h => nomatch h
  exact ⟨⟨_, hwait, rfl, rfl, rfl, rfl, rfl, rfl⟩, hserved, hlock, hmem⟩

/-! ### FABRIC_GRANT (R333) -/

/-- A free target grants, of two requests with AGE off, the one of higher priority. -/
theorem fabricGrant_higher {t : Fin 5} {c : Nat} {x y : FabReq} (hf : sfind t.val s.fab.served = none)
    (hg : s.grantable t c = [x, y]) (hage : s.rd Reg.FAB_ARB.AGE = 0)
    (hlt : s.priority t x.master < s.priority t y.master) (hy : s.priority t y.master ≤ 15) :
    Answers (.fabricGrant t c) s fun u => sfind t.val u.fab.served = some ⟨y, c, false⟩ ∧
      u.fab.waiting = s.fab.waiting.erase y ∧ u.mem = s.mem ∧
      (∀ k, k ≠ t.val → sfind k u.fab.served = sfind k s.fab.served) ∧
      u.fab.lock = (if y.lock then some ⟨y.master, t, c⟩ else s.fab.lock) := by
  refine answers_core (f := fun s => s.grant t c) rfl hs ?_
  rw [s.grant_free hf (s.grantee_higher hg hage hlt hy)]
  simp only [State.fabShow_fab, State.lockShow_fab, State.onFab_fab, State.fabShow_mem, State.lockShow_mem,
    State.onFab_mem, State.fabNow]
  exact ⟨sfind_sinsert_same _ _ _, trivial, trivial, fun k hk => sfind_sinsert_ne hk _ _, trivial⟩

/-- A busy target grants nothing. -/
theorem fabricGrant_busy {t : Fin 5} {c : Nat} (hb : ∃ g, sfind t.val s.fab.served = some g) :
    Answers (.fabricGrant t c) s fun u => u = { s with fab := { s.fab with now := max s.fab.now c } } := by
  obtain ⟨g, hg⟩ := hb
  exact answers_core (f := fun s => s.grant t c) rfl hs (s.grant_busy hg)

/-! ### FABRIC_RESPONSE (R335, R340) -/

/-- The response to a transaction of undamaged working RAM performs it. -/
theorem fabricResponse_ram {t : Fin 5} {g : FabGrant} {x : Nat} (hg : sfind t.val s.fab.served = some g)
    (hr : g.retired = false) (hp : placeOf g.req.rom g.req.addr = .ram x) (ht : s.ramTorn x g.req.size = false)
    (hm : s.ramMarks x g.req.size = []) : Answers (.fabricResponse t) s fun u =>
      sfind t.val u.fab.served = none ∧ u.fab.waiting = s.fab.waiting ∧
      (g.req.write = true → StoredAt s u x g.req.size g.req.data) ∧
      (g.req.write = false → u.mem = s.mem ∧
        (g.req.port ≠ 0 → (∀ q ∈ s.fab.waiting, q.port ≠ g.req.port) →
          (∀ q ∈ s.fab.served, q.1 ≠ t.val → q.2.req.port ≠ g.req.port) →
          sfind g.req.port u.fab.answers = some ⟨s.load x g.req.size, false, 3, 0⟩)) ∧
      (∀ k, s.fab.lock = some ⟨g.req.master, t, k⟩ → u.fab.lock = if g.req.unlock then none else s.fab.lock) := by
  refine answers_core (f := fun s => s.respond t) rfl hs ?_
  rw [s.respond_live hg hr]
  have hlock : ∀ k, s.fab.lock = some ⟨g.req.master, t, k⟩ →
      lockAfter t g.req s.fab.lock = if g.req.unlock then none else s.fab.lock := by
    intro k hk
    cases hu : g.req.unlock <;> simp [lockAfter, hk, hu]
  simp only [State.fabShow_fab, State.lockShow_fab, State.onFab_fab, State.fabShow_mem, State.lockShow_mem,
    State.onFab_mem]
  cases hw : g.req.write with
  | true =>
    obtain ⟨hstored, hwait, hserved, hl⟩ := (s.unserve t.val).perform_ramWrite hw hp ht
    rw [hwait, hserved, hl]
    exact ⟨sfind_serase_same _ _, rfl, fun _ => storedAt_congr hstored (by simp), (nomatch ·), hlock⟩
  | false =>
    obtain ⟨hmem, hanswer, hwait, hserved, hl⟩ := (s.unserve t.val).perform_ramRead hw hp hm
    rw [hwait, hserved, hl]
    rw [State.load_congr (s := s) (t := s.unserve t.val) rfl] at hanswer
    exact ⟨sfind_serase_same _ _, rfl, (nomatch ·),
      fun _ => ⟨hmem, fun h0 hq hs => hanswer h0 (s.portBusy_unserve hq hs)⟩, hlock⟩

/-- A target that serves nothing has no response to give. -/
theorem fabricResponse_idle {t : Fin 5} (hf : sfind t.val s.fab.served = none) :
    Answers (.fabricResponse t) s fun u => u = s := answers_core (f := fun s => s.respond t) rfl hs (s.respond_idle hf)

/-! ### LOCK_BREAK (R341) -/

/-- A lock 64 cycles after its grant is broken. -/
theorem lockBreak_due {c : Nat} {l : FabLock} (hl : s.fab.lock = some l) (hc : l.since + 64 ≤ c) :
    Answers (.lockBreak c) s fun u => u.fab.lock = none ∧ u.on Reg.FAB_STATUS.LOCK_BROKEN = true ∧
      u.on Reg.FAB_STATUS.LOCKED = false ∧ Bumped s u Reg.FAB_CNT.LOCKBRK ∧ Raised u Src.FAB_LOCK ∧ u.mem = s.mem ∧
      u.fab.waiting = s.fab.waiting.filter (fun q => decide (¬ (q.master = l.master ∧ fabTarget q.addr = l.target))) := by
  refine answers_core (f := fun s => s.breakLock c) rfl hs ?_
  obtain ⟨t, hbreak, hmem, hlock, hwait, hcount⟩ := s.breakLock_due hl hc
  rw [hbreak]
  refine ⟨by simpa using hlock, ?_, ?_, ?_, ?_, by simpa using hmem, by simpa [brokenFab] using hwait⟩
  · rw [State.on, State.rd_shown _ (by decide) (by decide), State.raise_rd, State.rd_bump_ne _ (by decide),
      State.rd_put_same _ _ _ (by decide)]
    rfl
  · rw [State.on_congr (State.rd_fabShow _ (by decide))]
    exact State.lockShow_unlocked _ (by simpa using hlock)
  · rw [Bumped, State.rd_shown _ (by decide) (by decide), State.raise_rd, State.rd_bump_same,
      State.rd_put_ne _ (by decide), hcount]
  · simp [Raised, State.raise_arriving _ (show faultListed Src.FAB_LOCK = true by decide)]

/-- An earlier lock stands. -/
theorem lockBreak_early {c : Nat} {l : FabLock} (hl : s.fab.lock = some l) (hc : c < l.since + 64) :
    Answers (.lockBreak c) s fun u => u = { s with fab := { s.fab with now := max s.fab.now c } } :=
  answers_core (f := fun s => s.breakLock c) rfl hs (s.breakLock_early hl hc)

/-! ### MASTER_RESET and RETIRE_DRAINED (R342) -/

/-- A reset of a master but M0 retires what it has in the fabric, and nothing of the others. -/
theorem masterReset_retires {m : Fin 6} (h0 : m.val ≠ 0) : Answers (.masterReset m 0) s fun u => u.mem = s.mem ∧
    u.fab.waiting = s.fab.waiting.filter (fun q => decide (q.master ≠ m.val)) ∧
    (∀ p ∈ u.fab.served, p.2.req.master = m.val → p.2.retired = true) ∧
    (∀ l, u.fab.lock = some l → l.master ≠ m.val) ∧
    (∀ k g, sfind k s.fab.served = some g → g.req.master ≠ m.val → sfind k u.fab.served = some g) ∧
    (∀ l, s.fab.lock = some l → l.master ≠ m.val → u.fab.lock = some l) ∧
    (0 < s.fab.outstanding m → u.on Reg.FAB_STATUS.RETIRED = true ∧ Raised u Src.FAB_RETIRE) ∧
    (s.fab.outstanding m = 0 → u.flt = s.flt) := by
  refine answers_core (f := fun s => if m.val = 0 then s else s.resetMaster m.val 0) rfl hs ?_
  rw [if_neg h0, State.resetMaster, State.landBeats_zero]
  obtain ⟨t, hret, hmem, hflt, hwait, hserved, hlock⟩ := s.retireMaster_settles m.val
  have hfab : (s.retireMaster m.val).fab = t.fab := by rw [hret]; split <;> simp
  rw [hfab, hwait, hserved, hlock]
  refine ⟨?_, rfl, resetFab_retires, fun l hl => resetLock_other hl, fun k g hg hm => sfind_resetFab_other hg hm,
    fun l hl hm => ?_, fun hout => ?_, fun hout => ?_⟩
  · rw [hret, ← hmem]; split <;> simp
  · simp [resetFab, resetLock, hl, hm]
  · rw [hret, if_pos hout]
    exact ⟨by rw [State.raise_on, State.on_put_same _ _ _ (by decide)],
      by simp [Raised, State.raise_arriving _ (show faultListed Src.FAB_RETIRE = true by decide)]⟩
  · rw [hret, if_neg (by omega), hflt]

/-- M0 is reset with the chip only. -/
theorem masterReset_m0 {m : Fin 6} (k : Nat) (h0 : m.val = 0) : Answers (.masterReset m k) s fun u => u = s :=
  answers_core (f := fun s => if m.val = 0 then s else s.resetMaster m.val k) rfl hs (if_pos h0)

/-- What a master's reset retired, with no bytes left to land, has drained. -/
theorem retireDrained_drains {m : Fin 6} (hd : (s.fab.served.map Prod.fst).Nodup)
    (hz : ∀ p ∈ s.fab.served, p.2.retired = true → p.2.req.size = 0) : Answers (.retireDrained m) s fun u =>
      u.mem = s.mem ∧
      (∀ k g, sfind k s.fab.served = some g → g.req.master = m.val → g.retired = true →
        sfind k u.fab.served = none) ∧
      u.fab.waiting = s.fab.waiting := by
  refine answers_core (f := fun s => s.drained m) rfl hs ?_
  obtain ⟨hmem, hwait, hgone⟩ := s.drained_retired m.val hd hz
  exact ⟨hmem, hgone, hwait⟩

/-! ### Register accesses (00 R6, R435; 15 R332, R339) -/

/-- A write of FAB_REMAP sets REMAP. -/
theorem remapWrite_sets (v : Word) (ha : s.flt.auditList = []) :
    Answers (.remapWrite v) s fun u => u.rd Reg.FAB_REMAP.REMAP = v.toNat % 2 ∧ u.mem = s.mem := by
  refine answers_core (f := fun s => s.regWrite 0x60000 v) rfl hs ?_
  rw [s.regWrite_plain (f := Reg.FAB_REMAP.REMAP) (by decide) (by decide) rfl rfl ha]
  refine ⟨?_, rfl⟩
  rw [State.rd_wr_same]
  simp [FieldRef.part, Reg.FAB_REMAP.REMAP]

/-- A write of CHIP_SCRATCH stores the word. -/
theorem regWrite_scratch (v : Word) (ha : s.flt.auditList = []) : Answers (.regWrite 0x14 v) s fun u =>
    u.rd Reg.CHIP_SCRATCH.DATA = v.toNat ∧ u.bus.err = false ∧ u = { s with regs := u.regs, bus := u.bus } ∧
    ∀ f : FieldRef, f.key ≠ Reg.CHIP_SCRATCH.DATA.key → u.rd f = s.rd f := by
  refine answers_core (f := fun s => (s.busWrite 3 0 (0x40000000 + 0x14) 4 v.toNat).2) rfl hs ?_
  rw [s.busWrite_reg (by omega) (by omega),
    (s.busAs 3 0).regWrite_plain (f := Reg.CHIP_SCRATCH.DATA) (by decide) (by decide) rfl rfl ha]
  refine ⟨?_, rfl, rfl, fun f hf => State.rd_wr_ne _ hf _⟩
  refine (State.rd_wr_same _ _ _).trans ?_
  simpa [FieldRef.part, Reg.CHIP_SCRATCH.DATA] using v.isLt

/-- A misaligned write of register space ends in an error response of KIND 3. -/
theorem regWrite_misaligned {c : Nat} (v : Word) (h : c < 0x170000) (hc : c % 4 ≠ 0) : Answers (.regWrite c v) s fun u =>
    u.bus.err = true ∧ ErrorKept s u 3 (0x40000000 + c) ∧ Raised u Src.CTL_REFUSED ∧ RaisedSome u Src.FAB_ERR ∧
    u.mem = s.mem ∧ u.mtx = s.mtx ∧ u.str = s.str := by
  refine answers_core (f := fun s => (s.busWrite 3 0 (0x40000000 + c) 4 v.toNat).2) rfl hs ?_
  rw [s.busWrite_misaligned h hc]
  exact s.busFail_write (by omega) _

/-- A write beyond register space ends in an error response of KIND 1. -/
theorem regWrite_unmapped {c : Nat} (v : Word) (h : 0x170000 ≤ c) : Answers (.regWrite c v) s fun u =>
    u.bus.err = true ∧ ErrorKept s u 1 (0x40000000 + c) ∧ Raised u Src.CTL_REFUSED ∧
    u.mem = s.mem ∧ u.mtx = s.mtx ∧ u.str = s.str := by
  refine answers_core (f := fun s => (s.busWrite 3 0 (0x40000000 + c) 4 v.toNat).2) rfl hs ?_
  rw [s.busWrite_unmapped h]
  obtain ⟨herr, hkept, hctl, -, hrest⟩ := s.busFail_write (k := 1) (by omega) (0x40000000 + c)
  exact ⟨herr, hkept, hctl, hrest⟩

/-- A read of a plain register answers its word and clears its RC fields only. -/
theorem rcRead_clears {c : Nat} {fs : List FieldSpec} (h : c < 0x170000) (hc : c % 4 = 0) (hf : fieldsAt c = some fs)
    (hw : s.windowReg c = none) (hb : s.shownBit c = none) : Answers (.rcRead c) s fun u =>
      u.bus.data = (s.word fs).toNat ∧ u.bus.err = false ∧ (∀ f ∈ fs, f.acc = .rc → u.rd f.ref = 0) ∧
      u = { s with regs := u.regs, bus := u.bus } ∧
      ∀ q : FieldRef, (∀ f ∈ fs, f.acc = .rc → q.key ≠ f.ref.key) → u.rd q = s.rd q := by
  refine answers_core (f := fun s => (s.busRead 3 0 (0x40000000 + c) 4).2) rfl hs ?_
  rw [s.busRead_reg h hc hf hw hb]
  have hregs := (s.busAs 3 0).readClear_regsOnly fs
  refine ⟨rfl, congrArg BusAnswer.err hregs.bus,
    State.rd_readClear_rc fs (fieldsAt_rcResetZero hf) (s.busAs 3 0), ?_, fun q hq => ?_⟩
  · exact (congrArg (fun t : State => { t with bus := ⟨(s.word fs).toNat, ((s.busAs 3 0).readClear fs).bus.err, 3, 0⟩ })
      hregs :)
  · exact State.rd_readClear_other fs (s.busAs 3 0) hq

end Commands

/-- Settles O1, from the queue's law `step_cons`. -/
theorem frontCommandIsPerformed : Obligations.FrontCommandIsPerformed := by
  unfold Obligations.FrontCommandIsPerformed
  refine fun c l s => ⟨step_cons s c l, fun h => ?_⟩
  simp only [step, h]

/-- Settles O52, each clause by the law of its command. -/
theorem fabricTransactions : Obligations.FabricTransactions := by
  unfold Obligations.FabricTransactions
  intro t m h wr wide a d c v s hs
  exact ⟨⟨lockRead_waits hs, lockRead_wrongTarget hs, lockRead_unmapped hs, unlock_waits hs⟩,
    fun x y hf hg hage hlt hy _ _ => fabricGrant_higher hs hf hg hage hlt hy,
    fabricGrant_busy hs,
    fun g x hg hr hp ht hm _ => fabricResponse_ram hs hg hr hp ht hm,
    fabricResponse_idle hs,
    fun l hl => ⟨lockBreak_due hs hl, lockBreak_early hs hl⟩,
    masterReset_retires hs,
    masterReset_m0 hs,
    retireDrained_drains hs,
    remapWrite_sets hs v,
    regWrite_scratch hs v,
    regWrite_misaligned hs v,
    regWrite_unmapped hs v,
    fun fs => rcRead_clears hs⟩

end Sys2Proof.Machine
end

section
/-! SUPPORT. One engine replaced: what the writes in flight of an instruction leave, where none of them sets a sticky flag
(04 R78-R81). -/

namespace Sys2Proof.Machine

open Sys2Proof.Claims

/-- The states differ in engine `e` alone, which is now `y`. -/
structure Sets (s u : State) (e : Nat) (y : Engine) : Prop where
  here : u.engine e = y
  others : ∀ i, i ≠ e → u.engine i = s.engine i
  rest : u = { s with eng := u.eng }

/-- A write in flight that sets no sticky flag. -/
def FlyWrite.plain : FlyWrite → Bool
  | .stickySet _ _ => false
  | .acc _ => false
  | _ => true

/-- A write in flight that sets no sticky flag completes in its engine alone. -/
theorem State.complete_plain (s : State) (e : Nat) {w : FlyWrite} (h : w.plain = true) :
    s.complete e w = s.setEngine e ((s.engine e).done w) := by
  cases w with
  | stickySet a b => exact nomatch h
  | acc l => exact nomatch h
  | _ => rfl

namespace Sets

variable {s u v : State} {e : Nat} {y z : Engine}

theorem refl (s : State) (e : Nat) : Sets s s e (s.engine e) := ⟨rfl, fun _ _ => rfl, rfl⟩

theorem setEngine (h : Sets s u e y) (z : Engine) : Sets s (u.setEngine e z) e z where
  here := u.engine_setEngine_same e z
  others i hi := (u.engine_setEngine_ne hi z).trans (h.others i hi)
  rest := by rw [h.rest]; rfl

theorem regs (h : Sets s u e y) : u.regs = s.regs := (congrArg State.regs h.rest :)
theorem coil (h : Sets s u e y) : u.coil = s.coil := (congrArg State.coil h.rest :)

theorem rd (h : Sets s u e y) (q : FieldRef) : u.rd q = s.rd q := congrArg (sget q.reset q.key) h.regs

theorem quiet (h : Sets s u e y) {c : Nat} (hq : s.quiet e c) : u.quiet e c := by
  rw [State.quiet, h.coil]; exact hq

/-- A further write in flight joins the engine's list. -/
theorem fly (h : Sets s u e y) (l : Nat) (w : FlyWrite) :
    Sets s (u.fly e l w) e { y with fly := insertFly ⟨y.cyc + l - 1, w⟩ y.fly } := by
  rw [State.fly_eq, h.here]; exact h.setEngine _

theorem complete (h : Sets s u e y) {w : FlyWrite} (hw : w.plain = true) : Sets s (u.complete e w) e (y.done w) := by
  rw [State.complete_plain u e hw, h.here]; exact h.setEngine _

/-- Writes in flight that set no sticky flag complete in their engine alone. -/
theorem completeList (c : Nat) (l : List InFlight) (hl : ∀ f ∈ l, f.w.plain = true) : ∀ {u : State} {y : Engine},
    Sets s u e y → s.quiet e c → Sets s (u.completeList e c l) e (y.settledList c l) := by
  induction l with
  | nil => intro u y h _; rw [State.completeList, h.here]; exact h.setEngine _
  | cons f r ih =>
    obtain ⟨hf, hr⟩ := List.forall_mem_cons.mp hl
    intro u y h hq
    rw [State.completeList_cons (h.quiet hq), Engine.settledList]
    split
    · exact ih hr (h.complete hf) hq
    · rw [h.here]; exact h.setEngine _

/-- What is due completes in the engine alone, where no coil read is delivered. -/
theorem settle (h : Sets s u e y) {c : Nat} (hq : s.quiet e c) (hl : ∀ f ∈ y.fly, f.w.plain = true) :
    Sets s (u.settle e c) e (y.settled c) := by
  rw [State.settle_quiet (h.quiet hq), h.here]; exact completeList c y.fly hl h hq

/-- Beyond its engine and the fields that an earlier update wrote, nothing has changed. -/
theorem engineOnly (h : Sets u v e y) {l : List FieldRef} (ho : ∀ i, i ≠ e → u.engine i = s.engine i)
    (hf : ∀ q : FieldRef, (∀ r ∈ l, q.key ≠ r.key) → u.rd q = s.rd q) (hr : s.sameBut u) : EngineOnly s v e l where
  others i hi := (h.others i hi).trans (ho i hi)
  fields q hq := (h.rd q).trans (hf q hq)
  rest := State.sameBut_trans hr (by rw [State.sameBut, h.regs]; exact h.rest)

end Sets

/-- The issue of an instruction that is no flow instruction, and whose effect sets the engine `e` with writes that set no
sticky flag: the program counter steps, and the writes of the cycle complete. -/
theorem State.issues.sets {s u v : State} {e : Nat} {o : EngOp} {y : Engine} (hi : s.issues e o) (ho : isFlow o = false)
    (heff : effect e o s = v) (h : Sets u v e y) (hcoil : u.coil = s.coil) (hrun : u.engRuns e = s.engRuns e)
    (hcyc : y.cyc = (s.engine e).cyc) (hl : ∀ f ∈ y.fly, f.w.plain = true) :
    ∃ p ls sl, Sets u (s.issueOp e o) e
      (Engine.settled { y with pc := p, cyc := (s.engine e).cyc + 1, loops := ls, slots := sl } (s.engine e).cyc) := by
  subst heff
  have hq : u.quiet e (s.engine e).cyc := by
    rw [State.quiet, hcoil]; exact State.quiet_mono hi.quiet (Nat.le_add_right _ 3)
  have hr : (effect e o s).engRuns e = true := by
    rw [State.engRuns, h.rd]; exact hrun.trans (State.mayIssue_runs hi.may)
  obtain ⟨p, ls, sl, hn⟩ := Engine.next_plain y ho
  refine ⟨p, ls, sl, ?_⟩
  rw [State.issueOp_plain s e ho (h.quiet hq) hr (by rw [h.here, hcyc]), h.here, hn, hcyc]
  exact (h.setEngine _).settle hq hl

/-- The issue of an instruction whose effect sets the engine alone. -/
theorem State.issues.setsAlone {s v : State} {e : Nat} {o : EngOp} {y : Engine} (hi : s.issues e o) (ho : isFlow o = false)
    (heff : effect e o s = v) (h : Sets s v e y) (hcyc : y.cyc = (s.engine e).cyc) (hl : ∀ f ∈ y.fly, f.w.plain = true) :
    ∃ p ls sl, Sets s (s.issueOp e o) e
      (Engine.settled { y with pc := p, cyc := (s.engine e).cyc + 1, loops := ls, slots := sl } (s.engine e).cyc) :=
  hi.sets ho heff h rfl rfl hcyc hl

/-- Where the engine alone is set, nothing beyond it has changed. -/
theorem Sets.alone {s v : State} {e : Nat} {y : Engine} (h : Sets s v e y) : EngineOnly s v e [] :=
  h.engineOnly (fun _ _ => rfl) (fun _ _ => rfl) s.sameBut_refl

/-- An engine about to issue an instruction answers its issue. -/
theorem answers_issue {s : State} {e : Nat} {o : EngOp} {i : Instr} {p : State → Prop} (hi : s.issues e o)
    (he : exec i s = clocked (fun s => s.engineIssue e o) s) (hp : p (s.issueOp e o)) : Answers i s p :=
  ⟨_, he.trans hi.exec, hp⟩

end Sys2Proof.Machine
end

section
/-! SUPPORT. The strand and TAG instructions (04 R91, R93), and their statements settled. -/

namespace Sys2Proof.Machine

open Sys2Proof.Claims

/-- The slot that a strand instruction names, as the engine finds it. -/
theorem slotOf_eq_slotNamed (s : State) (e : Nat) (src : SlotSrc) : (s.engine e).slotOf src = slotNamed s e src := by
  cases src <;> rfl

/-- An undamaged slot reads as it stands, and its read changes nothing. -/
theorem State.readSlot_clean {s : State} {n : Nat} (h : s.eccMark (.strand n) = none) : s.readSlot n = (s.curSlot n, s) := by
  simp only [State.readSlot, h]

/-- A D register after the write of one. -/
theorem Engine.dregOnly_set {x y : Engine} {d : Nat} {v : Word} {g : Tag} (h : y.d = sset {} d ⟨v, g⟩ x.d) :
    DRegOnly x y d v g where
  dest := by rw [Engine.dreg, h, sget_sset_same]
  others r hr := by rw [Engine.dreg, h, sget_sset_ne hr]; rfl

/-- The write of one instruction in flight, which no other write precedes. -/
theorem State.issues.sets_fly {s : State} {e : Nat} {o : EngOp} (hi : s.issues e o) (l : Nat) (w : FlyWrite) :
    Sets s (s.fly e l w) e { s.engine e with fly := [⟨(s.engine e).cyc + l - 1, w⟩] } := by
  have h := (Sets.refl s e).fly l w
  rwa [hi.fly] at h

section Strand

variable {e : Fin 192} {d : BitVec 4} {src : SlotSrc} {s : State}

/-- SRD gives Dd the sample and the tag of an undamaged slot, from t + 4. -/
theorem srd_reads (hi : s.issues e (.srd d src)) (hm : s.eccMark (.strand (slotNamed s e src)) = none) :
    Answers (.srd e d src) s fun t =>
      let x := after t e ((s.engine e).cyc + 3)
      let w := s.curSlot (slotNamed s e src)
      (t.engine e).d = (s.engine e).d ∧ DRegOnly (s.engine e) x d.toNat w.sample w.tag ∧ AccAguKept (s.engine e) x ∧
      x.flags = (s.engine e).flags ∧ EngineOnly s t e [] := by
  refine answers_issue hi rfl ?_
  have heff : effect e (.srd d src) s = s.fly e 4 (.dreg d.toNat (s.curSlot (slotNamed s e src)).sample
      (s.curSlot (slotNamed s e src)).tag) := by
    simp only [effect, effSrd, slotOf_eq_slotNamed, State.readSlot_clean hm]
  obtain ⟨p, ls, sl, hset⟩ := hi.setsAlone rfl heff (hi.sets_fly 4 _) rfl (by simp [FlyWrite.plain])
  have hlate : ¬ (s.engine e).cyc + 4 - 1 ≤ (s.engine e).cyc := by omega
  simp only [Engine.settled, Engine.settledList, hlate, if_false] at hset
  have hend := (hset.settle hi.quiet (by simp [FlyWrite.plain])).here
  simp only [Engine.settled, Engine.settledList, Nat.reduceSubDiff, Nat.le_refl, if_true, Engine.done] at hend
  simp only [after, hend]
  exact ⟨by rw [hset.here], Engine.dregOnly_set rfl, ⟨rfl, rfl, rfl⟩, trivial, hset.alone⟩

/-- SWR enters the write queue where it has room. -/
theorem swr_queues (hi : s.issues e (.swr d src)) (hq : (s.engine e).queue.length < 4) : Answers (.swr e d src) s fun t =>
    (t.engine e).queue = (s.engine e).queue ++
      [⟨slotNamed s e src, ((s.engine e).dreg d.toNat).val, ((s.engine e).dreg d.toNat).tag⟩] ∧
    (t.engine e).d = (s.engine e).d ∧ (t.engine e).acc = (s.engine e).acc ∧ (t.engine e).flags = (s.engine e).flags ∧
    EngineOnly s t e [] := by
  refine answers_issue hi rfl ?_
  have heff : effect e (.swr d src) s = s.setEngine e { s.engine e with queue := (s.engine e).queue ++
      [⟨slotNamed s e src, ((s.engine e).dreg d.toNat).val, ((s.engine e).dreg d.toNat).tag⟩] } := by
    simp only [effect, effSwr, slotOf_eq_slotNamed, if_neg (Nat.not_le.mpr hq)]
  obtain ⟨p, ls, sl, hset⟩ := hi.setsAlone rfl heff ((Sets.refl s e).setEngine _) rfl (by simp [hi.fly])
  simp only [Engine.settled, hi.fly, Engine.settledList] at hset
  rw [hset.here]
  exact ⟨rfl, rfl, rfl, rfl, hset.alone⟩

/-- SWR is lost to a full write queue. -/
theorem swr_lost (hi : s.issues e (.swr d src)) (hq : 4 ≤ (s.engine e).queue.length) : Answers (.swr e d src) s fun t =>
    DataKept (s.engine e) (t.engine e) ∧ t.on (Reg.ENG_STATUS.STRQ_OVF e) = true ∧
    EngineOnly s t e [Reg.ENG_STATUS.STRQ_OVF e] := by
  refine answers_issue hi rfl ?_
  have heff : effect e (.swr d src) s = s.put (Reg.ENG_STATUS.STRQ_OVF e) true := by
    simp only [effect, effSwr, if_pos hq]
  have hrun : (s.put (Reg.ENG_STATUS.STRQ_OVF e) true).engRuns e = s.engRuns e := by
    rw [State.engRuns, State.rd_put_ne _ (by simp [FieldRef.key, Reg.ENG_STATUS.STATE, Reg.ENG_STATUS.STRQ_OVF])]; rfl
  obtain ⟨p, ls, sl, hset⟩ := hi.sets rfl heff (Sets.refl (s.put _ true) e) rfl hrun rfl (by simp [hi.fly])
  simp only [Engine.settled, State.put_engine, hi.fly, Engine.settledList] at hset
  refine ⟨by rw [hset.here]; exact ⟨rfl, rfl, rfl, rfl, rfl⟩, ?_,
    hset.engineOnly (fun _ _ => rfl) (fun q hq => ?_) (s.sameBut_wr _ _)⟩
  · exact (State.on_congr (hset.rd _)).trans (State.on_put_same _ _ _ (Nat.le_refl 1))
  · exact State.rd_put_ne _ (hq _ (List.mem_singleton.mpr rfl)) _

end Strand

/-- Settles O15: SRD and SWR by what they put in flight or into the write queue. -/
theorem strandInstructions : Obligations.StrandInstructions := by
  unfold Obligations.StrandInstructions
  exact fun _ _ _ _ => ⟨srd_reads, swr_queues, swr_lost⟩

section Tags

variable {e : Fin 192} {s : State}

/-- An instruction whose one write in flight completes in its cycle. -/
theorem State.issues.sets_at_once {o : EngOp} {w : FlyWrite} (hi : s.issues e o) (ho : isFlow o = false)
    (heff : effect e o s = s.fly e 1 w) (hw : w.plain = true) :
    ∃ p ls sl, Sets s (s.issueOp e o) e { (Engine.done { s.engine e with
      fly := [⟨(s.engine e).cyc, w⟩], pc := p, cyc := (s.engine e).cyc + 1, loops := ls, slots := sl } w) with
      fly := [] } := by
  obtain ⟨p, ls, sl, hset⟩ := hi.setsAlone ho heff (hi.sets_fly 1 w) rfl (by simpa using hw)
  simp only [Engine.settled, Engine.settledList, Nat.add_sub_cancel, Nat.le_refl, if_true] at hset
  exact ⟨p, ls, sl, hset⟩

/-- An instruction that writes a tag and nothing else. -/
theorem tag_written {o : EngOp} {d : BitVec 4} {g : Tag} (hi : s.issues e o) (ho : isFlow o = false)
    (heff : effect e o s = s.fly e 1 (.dtag d.toNat g)) :
    TagOnly s (s.issueOp e o) e d.toNat g ∧ ((s.issueOp e o).engine e).flags = (s.engine e).flags := by
  obtain ⟨p, ls, sl, hset⟩ := hi.sets_at_once ho heff rfl
  exact ⟨⟨by rw [hset.here]; exact Engine.dregOnly_set rfl, by rw [hset.here]; exact ⟨rfl, rfl, rfl⟩, hset.alone⟩,
    by rw [hset.here]; rfl⟩

/-- TCLIP marks Dd CLIPPED where a selected sticky flag is set, and clears the selected flags. -/
theorem tclip_marks {d : BitVec 4} {sel : BitVec 2} (hi : s.issues e (.tclip d sel)) : Answers (.tclip e d sel) s fun t =>
    let f := (s.engine e).flags
    let tag := ((s.engine e).dreg d.toNat).tag
    TagOnly s t e d.toNat (if (sel.getLsbD 0 && f.ssat) || (sel.getLsbD 1 && f.saov) then tag ||| 0b0100#4 else tag) ∧
    (t.engine e).flags = { f with ssat := f.ssat && !sel.getLsbD 0, saov := f.saov && !sel.getLsbD 1 } := by
  refine answers_issue hi rfl ?_
  have hfly := (hi.sets_fly 1 (.dtag d.toNat (((s.engine e).dreg d.toNat).tag |||
    if (sel.getLsbD 0 && (s.engine e).flags.ssat) || (sel.getLsbD 1 && (s.engine e).flags.saov) then 0b0100 else 0))).fly 1
    (.stickyClear (sel.getLsbD 0) (sel.getLsbD 1))
  simp only [Nat.add_sub_cancel, insertFly, Nat.le_refl, if_true] at hfly
  obtain ⟨p, ls, sl, hset⟩ := hi.setsAlone rfl rfl hfly rfl (by simp [FlyWrite.plain])
  simp only [Engine.settled, Engine.settledList, Nat.le_refl, if_true, Engine.done] at hset
  rw [hset.here]
  refine ⟨⟨?_, by rw [hset.here]; exact ⟨rfl, rfl, rfl⟩, hset.alone⟩, rfl⟩
  have htag (hit : Bool) (g : Tag) : (if hit then g ||| 0b0100#4 else g) = g ||| if hit then 0b0100 else 0 := by
    cases hit <;> simp
  rw [hset.here, htag]
  exact Engine.dregOnly_set rfl

/-- TTST sets Z to the test of the masked tag. -/
theorem ttst_tests {d mask : BitVec 4} (hi : s.issues e (.ttst d mask)) : Answers (.ttst e d mask) s fun t =>
    (t.engine e).d = (s.engine e).d ∧ AccAguKept (s.engine e) (t.engine e) ∧ EngineOnly s t e [] ∧
    (t.engine e).flags = { (s.engine e).flags with z := decide (((s.engine e).dreg d.toNat).tag &&& mask = 0) } := by
  refine answers_issue hi rfl ?_
  obtain ⟨p, ls, sl, hset⟩ := hi.sets_at_once rfl rfl rfl
  rw [hset.here]
  exact ⟨rfl, ⟨rfl, rfl, rfl⟩, hset.alone, rfl⟩

/-- FCLR clears the selected sticky flags. -/
theorem fclr_clears {sel : BitVec 2} (hi : s.issues e (.fclr sel)) : Answers (.fclr e sel) s fun t =>
    (t.engine e).d = (s.engine e).d ∧ AccAguKept (s.engine e) (t.engine e) ∧ EngineOnly s t e [] ∧
    (t.engine e).flags = { (s.engine e).flags with
      ssat := (s.engine e).flags.ssat && !sel.getLsbD 0, saov := (s.engine e).flags.saov && !sel.getLsbD 1 } := by
  refine answers_issue hi rfl ?_
  obtain ⟨p, ls, sl, hset⟩ := hi.sets_at_once rfl rfl rfl
  rw [hset.here]
  exact ⟨rfl, ⟨rfl, rfl, rfl⟩, hset.alone, rfl⟩

end Tags

/-- Settles O17: TOR, TSET and TCPY write one tag, TCLIP a tag and the sticky flags, TTST and FCLR flags alone. -/
theorem tagInstructions : Obligations.TagInstructions := by
  unfold Obligations.TagInstructions
  intro e d a val mask sel s
  exact ⟨tclip_marks, fun hi => answers_issue hi rfl (tag_written hi rfl rfl),
    fun hi => answers_issue hi rfl (tag_written hi rfl rfl), fun hi => answers_issue hi rfl (tag_written hi rfl rfl),
    ttst_tests, fclr_clears⟩

end Sys2Proof.Machine
end

section
/-! SUPPORT. The tick boundary: the exchange of the banks, and what happens in the window and at the boundary in which order
(02 R20, R24, R32, 05 R113, 14 R312), and the statements settled. -/

namespace Sys2Proof.Machine

open Sys2Proof.Claims

/-- A fold whose steps over the listed items each keep a part keeps it. -/
theorem foldl_keeps_mem {α β γ : Type} (f : β → γ) (g : β → α → β) (l : List α)
    (h : ∀ b, ∀ a ∈ l, f (g b a) = f b) : ∀ b, f (l.foldl g b) = f b := by
  induction l with
  | nil => exact fun _ => rfl
  | cons a l ih =>
    obtain ⟨ha, hl⟩ := List.forall_mem_cons.mp (fun a ha b => h b a ha)
    exact fun b => (ih (fun b a ha => hl a ha b) (g b a)).trans (ha b)

/-- A fold whose steps each stay within a reflexive and transitive relation stays within it. -/
theorem foldl_related {α β : Type} {r : β → β → Prop} (hrefl : ∀ b, r b b)
    (htrans : ∀ {a b c}, r a b → r b c → r a c) {g : β → α → β} (h : ∀ b a, r b (g b a)) (l : List α) :
    ∀ b, r b (l.foldl g b) := by
  induction l with
  | nil => exact hrefl
  | cons a l ih => exact fun b => htrans (h b a) (ih (g b a))

/-! ### WAITCYC (R101) -/

/-- A record of WAITCYC changes engines and registers alone. -/
theorem State.sameBut_noteWait (s : State) (e : Nat) : s.sameBut (s.noteWait e) := by
  unfold State.noteWait
  dsimp only
  split <;> rfl

/-- What an engine computes with, beside its place in the program. -/
def Engine.data (x : Engine) : SMap DReg × SMap Acc × SMap Word × EngFlags := (x.d, x.acc, x.agu, x.flags)

/-- A record of WAITCYC leaves what every engine computes with. -/
theorem State.noteWait_data (s : State) (e i : Nat) : ((s.noteWait e).engine i).data = (s.engine i).data := by
  unfold State.noteWait
  dsimp only
  split
  · by_cases h : i = e
    · subst h; rw [State.engine_setEngine_same]; rfl
    · rw [State.engine_setEngine_ne _ h]; rfl
  · rfl

/-- A record of WAITCYC leaves every other field. -/
theorem State.rd_noteWait (s : State) (e : Nat) {q : FieldRef} (hl : q.key ≠ (Reg.ENG_WAITCYC.LAST e).key)
    (hp : q.key ≠ (Reg.ENG_WAITCYC.PEAK e).key) : (s.noteWait e).rd q = s.rd q := by
  unfold State.noteWait
  dsimp only
  split
  · exact (State.rd_wr_ne _ hp _).trans (State.rd_wr_ne _ hl _)
  · rfl

/-- A state in which WAITCYC of every engine may have been recorded, and nothing else. -/
structure WaitsNoted (s n : State) : Prop where
  rest : s.sameBut n
  engines : ∀ e, (n.engine e).data = (s.engine e).data
  fields : ∀ q : FieldRef, (∀ e, e < 192 →
    q.key ≠ (Reg.ENG_WAITCYC.LAST e).key ∧ q.key ≠ (Reg.ENG_WAITCYC.PEAK e).key) → n.rd q = s.rd q

/-- The records of WAITCYC at the exchange. -/
theorem State.waitsNoted (s : State) : WaitsNoted s ((List.range 192).foldl State.noteWait s) where
  rest := foldl_related State.sameBut_refl State.sameBut_trans State.sameBut_noteWait _ s
  engines e := foldl_keeps (fun n : State => (n.engine e).data) _ (fun n i => n.noteWait_data i e) _ s
  fields q hq := foldl_keeps_mem (State.rd · q) _ _ (fun n e he =>
    n.rd_noteWait e (hq e (List.mem_range.mp he)).1 (hq e (List.mem_range.mp he)).2) s

/-- The exchange roles of the banks at the boundary to tick t, the words of the listed slots kept with their errors (R20). -/
def State.swapBanks (n : State) (kept : List Nat) (t : Nat) : State :=
  { n.wr Reg.STR_STATUS.SUBST_SLOTS (min n.str.substNow 8191) with
    tick := t, inWindow := false
    str := { n.str with cur := n.str.nxt, nxt := [], fresh := [], hostFresh := [], late := [], substNow := 0 }
    ecc := (n.ecc.filter fun p => decide (2 ^ 32 ≤ p.1 ∨ kept.contains p.1)).map fun p =>
      (p.1, { p.2 with seen := false }) }

/-- The exchange: the records of WAITCYC, the banks, and the host writes that the window holds over. -/
theorem State.exchange_eq (s : State) (t : Nat) : s.exchange t =
    s.str.late.foldl State.hostSet ((((List.range 192).foldl State.noteWait s).keepPast).swapBanks s.keptHosts t) := by
  unfold State.exchange
  generalize (List.range 192).foldl State.noteWait s = n
  rfl

/-- Settles O22: the exchange renames the banks, and WAITCYC of the engines is all that it records beside. -/
theorem banksExchangeAtTheBoundary : Obligations.BanksExchangeAtTheBoundary := by
  unfold Obligations.BanksExchangeAtTheBoundary
  intro t s hlate
  have hn := s.waitsNoted
  rw [State.exchange_eq, hlate, List.foldl_nil]
  generalize (List.range 192).foldl State.noteWait s = n at hn ⊢
  have hstr : n.str = s.str := (congrArg State.str hn.rest :)
  have hmem : n.mem = s.mem := (congrArg State.mem hn.rest :)
  have hdata (e) := by simpa only [Engine.data, Prod.mk.injEq] using hn.engines e
  exact ⟨(congrArg StrState.nxt hstr :), rfl, rfl, rfl, hmem, hdata, (congrArg StrState.ingress hstr :),
    (congrArg StrState.egress hstr :), fun q hsub hwait => (n.rd_wr_ne hsub _).trans (hn.fields q hwait)⟩

/-! ### The order of a boundary -/

/-- The end of a tick: the window unless it has been opened, the self-test, what the network sends, the braids. -/
theorem State.endTick_eq (s : State) (bad : Bool) : s.endTick bad =
    ((if s.inWindow then s else s.openWindow).selfTest bad).netSendAll.netEndTick.braidsEnd := rfl

/-- The window: overruns, coil accesses, ends of program, matrix pass, parameter copies, scrubs, substitution, shadow
commits, and the pair. -/
theorem State.openWindow_eq (s : State) : s.openWindow =
    let p := ((List.range 192).foldl State.engineEnd (s.overruns.banks fun _ => true)).mtxPass.copyPages
    { p.scrubs.fillNext.copyWhips.whipsDc.pairWindow with inWindow := true } := rfl

/-- The boundary: exchange, upsets, time, triggers, pair, plans, records, configurations, what is due, ingress, egress. -/
theorem State.nextTick_eq (a : State) (x : TickIn) : a.nextTick x =
    let b := ((x.upsets.foldl State.upset (a.exchange (a.tick + 1))).timeTick x.sc).resolveAll
    let c := (b.pairBoundary b.tick x.peerActive).planTick.shownTick
    x.prbs.foldl State.prbsTick (c.recordsTick.configTick.dueTick.ingressTick fun n => x.bits.getD n []).egressTick := rfl

/-- Settles O23: the commands by the equations of the window, the end of a tick and the boundary. -/
theorem tickBoundaryOrder : Obligations.TickBoundaryOrder := by
  unfold Obligations.TickBoundaryOrder
  intro x sc s hs
  obtain ⟨hheld, hclk⟩ := hs
  have htick : exec (.tickBoundary x) s = .next (if s.relockDue then (s.endTick x.patternBad).relock x.sc
    else (s.endTick x.patternBad).nextTick x) :=
    clocked_runs s (fun s => if s.relockDue then (s.endTick x.patternBad).relock x.sc
      else (s.endTick x.patternBad).nextTick x) hheld hclk
  have hwindow : exec .exchangeWindow s = .next (if s.inWindow then s else s.openWindow) :=
    clocked_runs s (fun s => if s.inWindow then s else s.openWindow) hheld hclk
  have hrelock : exec (.relockStart sc) s = .next (if s.relockDue then (s.endTick false).relock sc else s) :=
    clocked_runs s (fun s => if s.relockDue then (s.endTick false).relock sc else s) hheld hclk
  refine ⟨fun hr => ⟨_, htick, ?_⟩, fun hw => ⟨_, hwindow, ?_⟩, fun hr => ⟨?_, ?_⟩⟩
  · simp only [hr, Bool.false_eq_true, if_false, State.nextTick_eq, State.endTick_eq]
  · rw [hw, if_neg Bool.false_ne_true]
    exact ⟨rfl, s.openWindow_eq⟩
  · rw [htick, hr, if_pos rfl]
  · rw [hrelock, hr, if_pos rfl]

end Sys2Proof.Machine
end

section
/-! SUPPORT. The hitch tables and their changes (02 R28-R33, R41, R42, 10 R212), and the statement settled. -/

namespace Sys2Proof.Machine

open Sys2Proof.Claims

/-- A control write acts at once where the chip is alone. -/
theorem State.alone.control {s : State} (hs : s.alone) {a : Nat} {v : Word} {act : State → State}
    (hf : (act s).flt = s.flt) : s.control a v act = act s := by
  obtain ⟨-, hpaired, haudit⟩ := hs
  rw [State.control, hpaired, Bool.false_and, if_neg Bool.false_ne_true]
  exact State.journal_off _ _ _ _ (hf ▸ haudit)

/-- A clocked command answers its function's state while the node runs. -/
theorem answers_clocked {s : State} {i : Instr} {m : State → Out} {p : State → Prop} (he : exec i s = m s) (h : s.runs)
    {f : State → State} (hm : m = clocked f) (hp : p (f s)) : Answers i s p :=
  ⟨f s, (hm ▸ he).trans (clocked_runs s f h.1 h.2), hp⟩

/-! ### The records of the hitches -/

/-- Two states that differ in the records of hitches alone. -/
def RunsOnly (s t : State) : Prop := t = { s with str := { s.str with runIn := t.str.runIn, runEg := t.str.runEg } }

namespace RunsOnly

variable {s t u : State}

theorem refl (s : State) : RunsOnly s s := rfl

theorem trans (h : RunsOnly s t) (g : RunsOnly t u) : RunsOnly s u := by
  unfold RunsOnly at *
  rw [g, h]

theorem setRun (s : State) (eg : Bool) (i : Nat) (x : HitchRun) : RunsOnly s (s.setRun eg i x) := by
  cases eg <;> rfl

/-- A fold of steps that change records of hitches alone is one. -/
theorem foldl {α : Type} {f : State → α → State} (h : ∀ s a, RunsOnly s (f s a)) (l : List α) :
    ∀ s, RunsOnly s (l.foldl f s) := foldl_related refl trans h l

theorem regs (h : RunsOnly s t) : t.regs = s.regs := (congrArg State.regs h :)
theorem queue (h : RunsOnly s t) : t.str.queue = s.str.queue := (congrArg (fun x : State => x.str.queue) h :)
theorem armed (h : RunsOnly s t) : t.str.armed = s.str.armed := (congrArg (fun x : State => x.str.armed) h :)
theorem cur (h : RunsOnly s t) : t.str.cur = s.str.cur := (congrArg (fun x : State => x.str.cur) h :)

theorem braid (h : RunsOnly s t) (b : Nat) : t.braid b = s.braid b :=
  congrArg (sget ({} : Braid) b) (congrArg (fun x : State => x.str.braid) h :)

end RunsOnly

/-- A hitch's record as it was set. -/
@[simp] theorem State.hitchRun_setRun_same (s : State) (eg : Bool) (i : Nat) (x : HitchRun) :
    (s.setRun eg i x).hitchRun eg i = x := by
  cases eg <;> simp [State.setRun, State.hitchRun]

/-- A change of an entry changes its record alone. -/
theorem State.hitchChanged_runsOnly (s : State) (eg : Bool) (i t : Nat) (old new : Hitch) :
    RunsOnly s (s.hitchChanged eg i t old new) := by
  unfold State.hitchChanged
  dsimp only
  split <;> exact RunsOnly.setRun _ _ _ _

/-- The counts of members change register fields alone. -/
theorem State.countMembers_regsOnly (s : State) : RegsOnly s s.countMembers :=
  RegsOnly.foldl (fun _ _ => RegsOnly.wr _ _ _) _ s

@[simp] theorem State.countMembers_str (s : State) : s.countMembers.str = s.str :=
  (congrArg State.str s.countMembers_regsOnly :)

/-- The fields outside the braids' status registers read as before the count of members. -/
theorem State.rd_countMembers (s : State) {q : FieldRef} (hq : q.key < 0x81010 * 32) : s.countMembers.rd q = s.rd q := by
  refine foldl_keeps (State.rd · q) _ (fun s b => State.rd_wr_ne s ?_ _) _ s
  simp only [Reg.STR_BRD_STATUS.MEMBERS, FieldRef.key] at hq ⊢
  omega

/-! ### HIT_APPLY (R31) -/

/-- The changes that a commit at the coming boundary applies. -/
def State.openChanges (s : State) : List HitChange := s.str.queue.filter fun c => !c.late

/-- The tables that the commit would leave. -/
def State.newTables (s : State) : HitchTables := s.openChanges.foldl HitchTables.change (s.str.ingress, s.str.egress)

/-- The node once the commit has taken its changes from the queue. -/
def State.hitTaken (s : State) : State :=
  let left := s.str.queue.filter fun c => c.late
  (State.wr { s with str := { s.str with queue := left, armed := s.str.armed2, armed2 := none } }
    Reg.STR_HIT_QSTAT.DEPTH left.length).put Reg.STR_HIT_COMMIT.COMMIT s.str.armed2.isSome

/-- The rule that an entry breaks in the tables that the commit would leave. -/
def State.changeReason (s : State) (k : Bool × Nat) : Nat :=
  s.hitTaken.hitchReason s.newTables k.1 (sget {} k.2 (s.newTables.get k.1))

/-- The entries that the commit changes. -/
def State.changedEntries (s : State) : List (Bool × Nat) := (s.openChanges.map fun c => (c.egress, c.index)).eraseDups

/-- The rules that the commit breaks. -/
def State.brokenRules (s : State) : List Nat := (s.changedEntries.map s.changeReason).filter (· ≠ 0)

/-- A commit is refused for the first rule that it breaks, or changes the records and then both tables. -/
theorem State.hitApply_eq (s : State) (t : Nat) : s.hitApply t = match s.brokenRules with
    | r :: _ => (((s.hitTaken.wr Reg.STR_HIT_QSTAT.REFUSED (min s.brokenRules.length 255)).wr
        Reg.STR_HIT_QSTAT.REASON r).put Reg.STR_STATUS.HIT_REFUSED true).refused
    | [] =>
      ((s.changedEntries.foldl (fun u k => u.hitchChanged k.1 k.2 t
        (sget {} k.2 (HitchTables.get (s.str.ingress, s.str.egress) k.1)) (sget {} k.2 (s.newTables.get k.1)))
        s.hitTaken).onStr fun q => { q with ingress := s.newTables.1, egress := s.newTables.2 }).countMembers := rfl

/-- A reason is a code of QSTAT.REASON. -/
theorem State.hitchReason_le (s : State) (t : HitchTables) (eg : Bool) (h : Hitch) : s.hitchReason t eg h ≤ 6 := by
  unfold State.hitchReason
  repeat' split
  all_goals decide

/-- No rule is broken where every change is in order. -/
theorem State.brokenRules_nil {s : State} (h : ∀ c ∈ s.openChanges, s.changeReason (c.egress, c.index) = 0) :
    s.brokenRules = [] := by
  simp only [State.brokenRules, State.changedEntries, List.filter_eq_nil_iff, List.mem_map, List.mem_eraseDups]
  rintro _ ⟨_, ⟨c, hc, rfl⟩, rfl⟩
  simp [h c hc]

/-- A change that breaks a rule is among the broken ones; each is a code from 1 to 6. -/
theorem State.brokenRules_cons {s : State} (h : ∃ c ∈ s.openChanges, s.changeReason (c.egress, c.index) ≠ 0) :
    ∃ r l, s.brokenRules = r :: l ∧ 1 ≤ r ∧ r ≤ 6 := by
  obtain ⟨c, hc, hne⟩ := h
  have hmem : s.changeReason (c.egress, c.index) ∈ s.brokenRules := by
    simp only [State.brokenRules, State.changedEntries, List.mem_filter, List.mem_map, List.mem_eraseDups]
    exact ⟨⟨_, ⟨c, hc, rfl⟩, rfl⟩, by simpa using hne⟩
  obtain ⟨r, l, hl⟩ := List.exists_cons_of_ne_nil (List.ne_nil_of_mem hmem)
  have hr : r ∈ s.brokenRules := hl ▸ List.mem_cons_self
  simp only [State.brokenRules, List.mem_filter, List.mem_map] at hr
  obtain ⟨⟨k, -, rfl⟩, hr⟩ := hr
  exact ⟨_, l, hl, Nat.one_le_iff_ne_zero.mpr (by simpa using hr), State.hitchReason_le _ _ _ _⟩

/-- What a commit leaves that breaks a rule: the tables, and the record of its refusal. -/
structure HitRefused (s t : State) : Prop where
  queue : t.str.queue = s.str.queue.filter fun c => c.late
  armed : t.str.armed = s.str.armed2
  ingress : t.str.ingress = s.str.ingress
  egress : t.str.egress = s.str.egress
  shown : t.on Reg.STR_STATUS.HIT_REFUSED = true
  raised : Raised t Src.CTL_REFUSED
  reason : t.rd Reg.STR_HIT_QSTAT.REASON ≠ 0
  count : 0 < t.rd Reg.STR_HIT_QSTAT.REFUSED

/-- What a commit leaves that breaks no rule: the tables with its changes, and no refusal. -/
structure HitDone (s t : State) : Prop where
  queue : t.str.queue = s.str.queue.filter fun c => c.late
  armed : t.str.armed = s.str.armed2
  ingress : t.str.ingress = s.newTables.1
  egress : t.str.egress = s.newTables.2
  shown : t.on Reg.STR_STATUS.HIT_REFUSED = s.on Reg.STR_STATUS.HIT_REFUSED

/-- A refusal raises CTL_REFUSED and changes no field and no table. -/
theorem State.refused_arriving (s : State) : s.refused.flt.arriving = s.flt.arriving ++ [Src.CTL_REFUSED] :=
  s.raise_arriving (by decide)

/-- A commit that breaks a rule is refused. -/
theorem State.hitApply_refused {s : State} (t : Nat)
    (h : ∃ c ∈ s.openChanges, s.changeReason (c.egress, c.index) ≠ 0) : HitRefused s (s.hitApply t) := by
  obtain ⟨r, l, hl, h1, h6⟩ := State.brokenRules_cons h
  rw [State.hitApply_eq, hl]
  dsimp only
  have hrd (u : State) (q : FieldRef) : u.refused.rd q = u.rd q := by
    rw [State.rd, State.refused, State.raise_regs]; rfl
  refine ⟨by simp [State.refused, State.hitTaken], by simp [State.refused, State.hitTaken],
    by simp [State.refused, State.hitTaken], by simp [State.refused, State.hitTaken], ?_, ?_, ?_, ?_⟩
  · exact (State.on_congr (hrd _ _)).trans (State.on_put_same _ _ _ (Nat.le_refl 1))
  · simp [Raised, State.refused_arriving]
  · rw [hrd, State.rd_put_ne _ (by decide), State.rd_wr_same]
    show r % 2 ^ 4 ≠ 0
    omega
  · rw [hrd, State.rd_put_ne _ (by decide), State.rd_wr_ne _ (by decide), State.rd_wr_same]
    show 0 < min (l.length + 1) 255 % 2 ^ 8
    omega

/-- The tables with a commit's changes, once the records of the hitches have followed. -/
theorem hitDone_countMembers {s u : State} (h : RunsOnly s.hitTaken u) : HitDone s
    ((u.onStr fun q => { q with ingress := s.newTables.1, egress := s.newTables.2 }).countMembers) where
  queue := (congrArg StrState.queue (State.countMembers_str _)).trans h.queue
  armed := (congrArg StrState.armed (State.countMembers_str _)).trans h.armed
  ingress := congrArg StrState.ingress (State.countMembers_str _)
  egress := congrArg StrState.egress (State.countMembers_str _)
  shown := by
    refine State.on_congr ?_
    rw [State.rd_countMembers _ (by decide), State.rd, State.onStr_regs, h.regs]
    exact (State.rd_put_ne _ (by decide) _).trans (State.rd_wr_ne _ (by decide) _)

/-- A commit that breaks no rule changes the tables. -/
theorem State.hitApply_done {s : State} (t : Nat)
    (h : ∀ c ∈ s.openChanges, s.changeReason (c.egress, c.index) = 0) : HitDone s (s.hitApply t) := by
  rw [State.hitApply_eq, State.brokenRules_nil h]
  exact hitDone_countMembers (RunsOnly.foldl (fun u (k : Bool × Nat) => u.hitchChanged_runsOnly k.1 k.2 t _ _) _ _)

/-- The change that a write of STR_HIT_W1 queues. -/
def State.stagedChange (s : State) (v : Word) : HitChange := {
  egress := s.on Reg.STR_HIT_SEL.TABLE, index := s.rd Reg.STR_HIT_SEL.INDEX, w0 := s.str.stagedW0
  w1 := if s.on Reg.STR_HIT_SEL.TABLE then v else v &&& 0x3FFFFFFF#32
  late := s.inWindow }

section Commands

variable {s : State}

/-! ### HIT_W1_QUEUE, HIT_COMMIT, HIT_DISCARD (R31, R42) -/

/-- A change joins a queue that has room. -/
theorem hitW1Queue_queues (hs : s.alone) (v : Word) (hq : s.str.queue.length < 256) : Answers (.hitW1Queue v) s fun t =>
    (∃ c : HitChange, t.str.queue = s.str.queue ++ [c] ∧ c.egress = s.on Reg.STR_HIT_SEL.TABLE ∧
      c.index = s.rd Reg.STR_HIT_SEL.INDEX ∧ c.w0 = s.str.stagedW0 ∧
      c.w1 = (if s.on Reg.STR_HIT_SEL.TABLE then v else v &&& 0x3FFFFFFF#32)) ∧
    t.rd Reg.STR_HIT_QSTAT.DEPTH = s.str.queue.length + 1 ∧ t.str.ingress = s.str.ingress ∧
    t.str.egress = s.str.egress := by
  refine answers_core (f := fun s => s.control 0x80018 v fun s => s.hitQueue v) rfl hs.1 ?_
  have hact : s.hitQueue v = (s.onStr fun q => { q with queue := s.str.queue ++ [s.stagedChange v] }).wr
      Reg.STR_HIT_QSTAT.DEPTH (s.str.queue ++ [s.stagedChange v]).length := if_neg (Nat.not_le.mpr hq)
  rw [hs.control (by rw [hact]; rfl), hact]
  refine ⟨⟨s.stagedChange v, rfl, rfl, rfl, rfl, rfl⟩, ?_, rfl, rfl⟩
  rw [State.rd_wr_same, List.length_append, List.length_singleton]
  exact Nat.mod_eq_of_lt (show _ < 2 ^ 9 by omega)

/-- A change is lost to a full queue. -/
theorem hitW1Queue_lost (hs : s.alone) (v : Word) (hq : 256 ≤ s.str.queue.length) : Answers (.hitW1Queue v) s fun t =>
    t.str = s.str ∧ t.on Reg.STR_HIT_QSTAT.OVF = true := by
  refine answers_core (f := fun s => s.control 0x80018 v fun s => s.hitQueue v) rfl hs.1 ?_
  have hact : s.hitQueue v = s.put Reg.STR_HIT_QSTAT.OVF true := if_pos hq
  rw [hs.control (by rw [hact]; rfl), hact]
  exact ⟨rfl, State.on_put_same _ _ _ (Nat.le_refl 1)⟩

/-- COMMIT arms the next boundary, from the exchange window the one after it. -/
theorem hitCommit_arms (hs : s.alone) {v : Word} (hv : v.getLsbD 0 = true) (ha : s.str.armed = none) :
    Answers (.hitCommit v) s fun t =>
      t.str.armed = some (if s.inWindow then s.tick + 2 else s.tick + 1) ∧ t.on Reg.STR_HIT_COMMIT.COMMIT = true ∧
      t.str.queue = s.str.queue := by
  refine answers_core (f := fun s => s.control 0x80024 v fun s => s.writeHitCommit v) rfl hs.1 ?_
  have hact : s.writeHitCommit v = (s.put Reg.STR_HIT_COMMIT.COMMIT true).onStr fun q => { q with
      armed := some (s.tick + if s.inWindow then 2 else 1) } := by
    simp only [State.writeHitCommit, hv, if_true, State.put_str, ha]
  rw [hs.control (by rw [hact]; rfl), hact]
  refine ⟨?_, s.on_put_same Reg.STR_HIT_COMMIT.COMMIT true (Nat.le_refl 1), rfl⟩
  simp only [State.onStr_str]
  split <;> rfl

/-- DISCARD empties the queue unless a commit is pending. -/
theorem hitDiscard_empties (hs : s.alone) {v : Word} (h0 : v.getLsbD 0 = false) (h1 : v.getLsbD 1 = true) :
    Answers (.hitDiscard v) s fun t =>
      (s.str.armed = none → t.str.queue = [] ∧ t.rd Reg.STR_HIT_QSTAT.DEPTH = 0) ∧
      (s.str.armed ≠ none → t.str.queue = s.str.queue) := by
  refine answers_core (f := fun s => s.control 0x80024 v fun s => s.writeHitCommit v) rfl hs.1 ?_
  cases ha : s.str.armed with
  | none =>
    have hact : s.writeHitCommit v =
        (s.onStr fun q => { q with queue := [] }).wr Reg.STR_HIT_QSTAT.DEPTH 0 := by
      simp only [State.writeHitCommit, h0, h1, ha, Bool.false_eq_true, if_false, Option.isNone_none, Bool.and_self,
        if_true]
    rw [hs.control (by rw [hact]; rfl), hact]
    exact ⟨fun _ => ⟨rfl, State.rd_wr_same _ _ _⟩, fun h => absurd rfl h⟩
  | some d =>
    have hact : s.writeHitCommit v = s := by
      simp only [State.writeHitCommit, h0, ha, Bool.false_eq_true, if_false, Option.isNone_some, Bool.and_false]
    rw [hs.control (by rw [hact]), hact]
    exact ⟨(nomatch ·), fun _ => rfl⟩

/-! ### The events -/

/-- HIT_APPLY at the armed boundary: all changes of the commit, or none. -/
theorem hitApply_allOrNone (hs : s.runs) (ha : s.str.armed = some (s.tick + 1)) : Answers .hitApply s fun t =>
    t.str.queue = s.str.queue.filter (fun c => c.late) ∧ t.str.armed = s.str.armed2 ∧
    ((∀ c ∈ s.openChanges, s.changeReason (c.egress, c.index) = 0) →
      t.str.ingress = s.newTables.1 ∧ t.str.egress = s.newTables.2) ∧
    ((∃ c ∈ s.openChanges, s.changeReason (c.egress, c.index) ≠ 0) →
      t.str.ingress = s.str.ingress ∧ t.str.egress = s.str.egress ∧ t.on Reg.STR_STATUS.HIT_REFUSED = true ∧
      Raised t Src.CTL_REFUSED ∧ t.rd Reg.STR_HIT_QSTAT.REASON ≠ 0 ∧ 0 < t.rd Reg.STR_HIT_QSTAT.REFUSED) ∧
    (t.on Reg.STR_STATUS.HIT_REFUSED = true → s.on Reg.STR_STATUS.HIT_REFUSED = false →
      t.str.ingress = s.str.ingress ∧ t.str.egress = s.str.egress ∧ Raised t Src.CTL_REFUSED) := by
  refine answers_clocked (m := execHitApply) rfl hs rfl ?_
  simp only [ha, if_true]
  by_cases h : ∃ c ∈ s.openChanges, s.changeReason (c.egress, c.index) ≠ 0
  · have hr := State.hitApply_refused (s.tick + 1) h
    obtain ⟨c, hc, hne⟩ := h
    exact ⟨hr.queue, hr.armed, fun hall => absurd (hall c hc) hne,
      fun _ => ⟨hr.ingress, hr.egress, hr.shown, hr.raised, hr.reason, hr.count⟩,
      fun _ _ => ⟨hr.ingress, hr.egress, hr.raised⟩⟩
  · have hall : ∀ c ∈ s.openChanges, s.changeReason (c.egress, c.index) = 0 :=
      fun c hc => not_not.mp fun hne => h ⟨c, hc, hne⟩
    have hd := State.hitApply_done (s.tick + 1) hall
    exact ⟨hd.queue, hd.armed, fun _ => ⟨hd.ingress, hd.egress⟩, fun hex => absurd hex h,
      fun ht hsf => by rw [hd.shown, hsf] at ht; cases ht⟩

/-- HITCH_RAMP_DONE: a ramp in its last tick ends. -/
theorem hitchRampDone_ends (hs : s.runs) (eg : Bool) (h : Fin 8192) : Answers (.hitchRampDone eg h) s fun t =>
    ((s.hitchRun eg h).mute = .down 15 → (t.hitchRun eg h).mute = .muted) ∧
    ((s.hitchRun eg h).mute = .up 15 → (t.hitchRun eg h).mute = .full) ∧ t.regs = s.regs := by
  refine answers_clocked (m := execHitchRampDone eg h) rfl hs rfl ?_
  dsimp only
  split
  · next hm => exact ⟨fun _ => by simp, fun hu => by simp [hm] at hu, (RunsOnly.setRun _ _ _ _).regs⟩
  · next hm => exact ⟨fun hd => by simp [hm] at hd, fun _ => by simp, (RunsOnly.setRun _ _ _ _).regs⟩
  · next hd hu => exact ⟨fun h => absurd h hd, fun h => absurd h hu, rfl⟩

/-- A record whose wait ends. -/
theorem State.zc_found (s : State) (h : Nat) :
    ((s.setRun false h { s.hitchRun false h with zc := true }).hitchRun false h).zc = true ∧
    (s.setRun false h { s.hitchRun false h with zc := true }).regs = s.regs :=
  ⟨by simp, (RunsOnly.setRun _ _ _ _).regs⟩

/-- HITCH_ZC_CROSSING: the wait of a gated hitch ends at a zero crossing. -/
theorem hitchZcCrossing_ends (hs : s.runs) {prev : Word} {h : Fin 8192} (hw : (s.hitchRun false h).waits = true)
    (hx : prev.msb ≠ (s.hitchRun false h).lastIn.msb ∨
      (s.hitchRun false h).lastIn.toInt.natAbs ≤ s.rd (Reg.SAP_ZC.THR (sget {} h.val s.str.ingress).port) * 256) :
    Answers (.hitchZcCrossing h prev) s fun t => (t.hitchRun false h).zc = true ∧ t.regs = s.regs := by
  refine answers_clocked (m := execHitchZcCrossing h prev) rfl hs rfl ?_
  have hcross : crossing (s.rd (Reg.SAP_ZC.THR (sget {} h.val s.str.ingress).port)) prev
      (s.hitchRun false h).lastIn = true := by
    simp only [crossing, Bool.or_eq_true, bne_iff_ne, decide_eq_true_eq]
    exact hx
  simp only [hw, hcross, Bool.and_self, if_true]
  exact s.zc_found h

/-- HITCH_ZC_TIMEOUT: the wait of a gated hitch ends at its TIMEOUT. -/
theorem hitchZcTimeout_ends (hs : s.runs) {h : Fin 8192} {dn : Bool} {w : Nat}
    (hm : (s.hitchRun false h).mute = .waitZc dn w)
    (ht : s.rd (Reg.SAP_ZC.TIMEOUT (sget {} h.val s.str.ingress).port) ≤ w + 1) :
    Answers (.hitchZcTimeout h) s fun t => (t.hitchRun false h).zc = true ∧ t.regs = s.regs := by
  refine answers_clocked (m := execHitchZcTimeout h) rfl hs rfl ?_
  have hwait : (s.hitchRun false h).waits = true := by rw [HitchRun.waits, hm]; rfl
  have hdue : s.rd (Reg.SAP_ZC.TIMEOUT (sget {} h.val s.str.ingress).port) ≤ (s.hitchRun false h).mute.waited := by
    rw [hm]; exact ht
  simp only [hwait, hdue, decide_true, Bool.and_self, if_true]
  exact s.zc_found h

/-- TETHER_UNSETTLED_END: the UNSETTLED span ends. -/
theorem tetherUnsettled_ends (hs : s.runs) {h : Fin 8192} (ht : (s.hitchRun false h).unsettledTo ≤ s.tick + 1) :
    Answers (.tetherUnsettledEnd h) s fun t =>
      t.hitchRun false h = { s.hitchRun false h with unsettledTo := 0 } ∧ t.regs = s.regs := by
  refine answers_clocked (m := execTetherUnsettledEnd h) rfl hs rfl ?_
  simp only [ht, if_true]
  exact ⟨State.hitchRun_setRun_same _ _ _ _, (RunsOnly.setRun _ _ _ _).regs⟩

end Commands

/-- Settles O25, each clause by the law of its command. -/
theorem hitchChangesQueueAndCommit : Obligations.HitchChangesQueueAndCommit := by
  unfold Obligations.HitchChangesQueueAndCommit
  intro v prev eg h s
  exact ⟨fun hs => hitW1Queue_queues hs v, fun hs => hitW1Queue_lost hs v, fun hs => hitCommit_arms hs,
    fun hs => hitDiscard_empties hs, hitApply_allOrNone, fun hs => hitchRampDone_ends hs eg h,
    fun hs => hitchZcCrossing_ends hs, fun _ _ hs => hitchZcTimeout_ends hs, fun hs => tetherUnsettled_ends hs⟩

end Sys2Proof.Machine
end

section
/-! SUPPORT. The braids: their control writes, their starts and their rejoins (02 R33-R39), and the statement settled. -/

namespace Sys2Proof.Machine

open Sys2Proof.Claims

/-- What every step of a fold establishes for its own item and no step undoes holds of every item in the end. -/
theorem foldl_reaches {α β : Type} (p : β → α → Prop) (g : β → α → β) (hset : ∀ s a, p (g s a) a)
    (hkeep : ∀ s a c, p s a → p (g s c) a) (l : List α) : ∀ s, ∀ a ∈ l, p (l.foldl g s) a := by
  have hrest (a : α) (l : List α) : ∀ s, p s a → p (l.foldl g s) a := by
    induction l with
    | nil => exact fun _ h => h
    | cons c l ih => exact fun s h => ih (g s c) (hkeep s a c h)
  induction l with
  | nil => simp
  | cons c l ih =>
    intro s a ha
    rcases List.mem_cons.mp ha with rfl | ha
    · exact hrest a l (g s a) (hset s a)
    · exact ih (g s c) a ha

/-! ### Records of braids and hitches -/

/-- A braid's record as it was changed. -/
@[simp] theorem State.braid_onBraid_same (s : State) (b : Nat) (f : Braid → Braid) :
    (s.onBraid b f).braid b = f (s.braid b) := by
  simp [State.braid, State.onBraid]

/-- A change of a braid's record leaves every other. -/
theorem State.braid_onBraid_ne (s : State) {k b : Nat} (h : k ≠ b) (f : Braid → Braid) :
    (s.onBraid b f).braid k = s.braid k := by
  simp only [State.braid, State.onBraid, State.onStr_str]
  exact sget_sset_ne h _ _ _ _

/-- Setting a hitch's record leaves every other. -/
theorem State.hitchRun_setRun_ne (s : State) {eg eg' : Bool} {i j : Nat} (h : (eg', j) ≠ (eg, i)) (x : HitchRun) :
    (s.setRun eg i x).hitchRun eg' j = s.hitchRun eg' j := by
  have hne (he : eg' = eg) : j ≠ i := fun hj => h (by rw [he, hj])
  cases eg <;> cases eg' <;> simp only [State.setRun, State.hitchRun, State.onStr_str, Bool.false_eq_true, if_false, if_true]
  · exact sget_sset_ne (hne rfl) _ _ _ _
  · exact sget_sset_ne (hne rfl) _ _ _ _

/-! ### STR_BRD_bb_CTRL (R42) -/

/-- The fields of STR_BRD_bb_CTRL. -/
def braidCtrlFields (b : Nat) : List FieldSpec :=
  [⟨Reg.STR_BRD_CTRL.LOCKSTEP b, .rw, .any⟩, ⟨Reg.STR_BRD_CTRL.TRIGSRC b, .rw, .any⟩,
    ⟨Reg.STR_BRD_CTRL.DOMAIN b, .rw, .any⟩, ⟨Reg.STR_BRD_CTRL.EDGE b, .rw, .any⟩,
    ⟨Reg.STR_BRD_CTRL.ARM b, .ws, .any⟩, ⟨Reg.STR_BRD_CTRL.STOP b, .wo, .any⟩,
    ⟨Reg.STR_BRD_CTRL.BFRAME b, .rw, .nat 1 384⟩, ⟨Reg.STR_BRD_CTRL.REJOIN_FRAMES b, .rw, .nat 1 1023⟩]

/-- They are the fields that the register index lists. -/
theorem fieldsAt_braidCtrl : ∀ b : Fin 64, fieldsAt (0x81000 + b.val * 0x20) = some (braidCtrlFields b) := by decide

/-- A write by a field's type code changes register fields alone. -/
theorem State.writeField_regsOnly (s : State) (v : Word) (f : FieldSpec) : RegsOnly s (s.writeField v f) := by
  unfold State.writeField
  split
  · exact RegsOnly.wr _ _ _
  · split
    · exact RegsOnly.refl s
    · exact RegsOnly.wr _ _ _
  · exact RegsOnly.refl s

/-- A write of one field leaves every field at another place. -/
theorem State.rd_writeField_ne (s : State) (v : Word) {q : FieldRef} {f : FieldSpec} (h : q.key ≠ f.ref.key) :
    (s.writeField v f).rd q = s.rd q := by
  unfold State.writeField
  split
  · exact State.rd_wr_ne _ h _
  · split
    · rfl
    · exact State.rd_wr_ne _ h _
  · rfl

/-- A write of STR_BRD_bb_CTRL by the type codes of its fields. -/
def State.braidSet (s : State) (b : Nat) (v : Word) : State := s.writeFields (braidCtrlFields b) v

/-- It changes register fields alone. -/
theorem State.braidSet_regsOnly (s : State) (b : Nat) (v : Word) : RegsOnly s (s.braidSet b v) :=
  RegsOnly.foldl (fun s f => s.writeField_regsOnly v f) _ s

@[simp] theorem State.braidSet_str (s : State) (b : Nat) (v : Word) : (s.braidSet b v).str = s.str :=
  (congrArg State.str (s.braidSet_regsOnly b v) :)
@[simp] theorem State.braidSet_tick (s : State) (b : Nat) (v : Word) : (s.braidSet b v).tick = s.tick :=
  (congrArg State.tick (s.braidSet_regsOnly b v) :)
@[simp] theorem State.braidSet_braid (s : State) (b k : Nat) (v : Word) : (s.braidSet b v).braid k = s.braid k := by
  rw [State.braid, State.braidSet_str]; rfl

/-- STATE of every braid reads as before. -/
@[simp] theorem State.braidSet_state (s : State) (b k : Nat) (v : Word) :
    (s.braidSet b v).braidState k = s.braidState k := by
  refine foldl_keeps_mem (State.braidState · k) _ _ (fun s f hf => s.rd_writeField_ne v ?_) s
  have hctrl : ∀ f ∈ braidCtrlFields b, f.ref.addr = 0x81000 + b * 0x20 ∧ f.ref.lo < 32 := by
    simp [braidCtrlFields, Reg.STR_BRD_CTRL.LOCKSTEP, Reg.STR_BRD_CTRL.TRIGSRC, Reg.STR_BRD_CTRL.DOMAIN,
      Reg.STR_BRD_CTRL.EDGE, Reg.STR_BRD_CTRL.ARM, Reg.STR_BRD_CTRL.STOP, Reg.STR_BRD_CTRL.BFRAME,
      Reg.STR_BRD_CTRL.REJOIN_FRAMES]
  obtain ⟨haddr, hlo⟩ := hctrl f hf
  simp only [FieldRef.key, Reg.STR_BRD_STATUS.STATE, haddr]
  omega

/-- TRIGSRC takes its part of the word. -/
theorem State.braidSet_trigsrc (s : State) (b : Nat) (v : Word) :
    (s.braidSet b v).rd (Reg.STR_BRD_CTRL.TRIGSRC b) = (Reg.STR_BRD_CTRL.TRIGSRC b).part v := by
  have hkeep (u : State) : ∀ f ∈ (braidCtrlFields b).drop 2, (u.writeField v f).rd (Reg.STR_BRD_CTRL.TRIGSRC b) =
      u.rd (Reg.STR_BRD_CTRL.TRIGSRC b) := by
    intro f hf
    refine u.rd_writeField_ne v ?_
    have hlo : ∀ f ∈ (braidCtrlFields b).drop 2, f.ref.addr = 0x81000 + b * 0x20 ∧ f.ref.lo ≠ 2 := by
      simp [braidCtrlFields, Reg.STR_BRD_CTRL.DOMAIN, Reg.STR_BRD_CTRL.EDGE, Reg.STR_BRD_CTRL.ARM,
        Reg.STR_BRD_CTRL.STOP, Reg.STR_BRD_CTRL.BFRAME, Reg.STR_BRD_CTRL.REJOIN_FRAMES]
    obtain ⟨haddr, hne⟩ := hlo f hf
    simp only [FieldRef.key, Reg.STR_BRD_CTRL.TRIGSRC, haddr]
    omega
  calc (s.braidSet b v).rd (Reg.STR_BRD_CTRL.TRIGSRC b)
      = (((s.wr (Reg.STR_BRD_CTRL.LOCKSTEP b) ((Reg.STR_BRD_CTRL.LOCKSTEP b).part v)).wr (Reg.STR_BRD_CTRL.TRIGSRC b)
          ((Reg.STR_BRD_CTRL.TRIGSRC b).part v))).rd (Reg.STR_BRD_CTRL.TRIGSRC b) :=
        foldl_keeps_mem (State.rd · (Reg.STR_BRD_CTRL.TRIGSRC b)) _ _ hkeep _
    _ = (Reg.STR_BRD_CTRL.TRIGSRC b).part v := by
        rw [State.rd_wr_same, FieldRef.part, Nat.mod_mod]

/-- An admitted write of STR_BRD_bb_CTRL sets its fields, and then arms and stops. -/
theorem State.writeBraid_admitted (s : State) (b : Fin 64) {v : Word} (h : Admitted (0x81000 + b.val * 0x20) v) :
    s.writeBraid b v =
      let u := if v.getLsbD 7 then (s.braidSet b v).braidArm b else s.braidSet b v
      if v.getLsbD 8 then u.braidStop b else u := by
  obtain ⟨fs, hfs, hadm⟩ := h
  cases (fieldsAt_braidCtrl b).symm.trans hfs
  simp only [State.writeBraid, State.guarded, fieldsAt_braidCtrl, hadm, if_true]
  rfl

/-! ### ARM and STOP (R35, R37) -/

/-- A braid armed for a trigger. -/
def State.braidArmed (s : State) (b : Nat) (t : Trig) : State :=
  ((s.onBraid b fun x => { x with armed := some t }).put (Reg.STR_BRD_CTRL.ARM b) true).wr (Reg.STR_BRD_STATUS.STATE b) 1

/-- What an armed braid shows. -/
theorem State.braidArmed_shows (s : State) (b : Nat) (t : Trig) : ((s.braidArmed b t).braid b).armed = some t ∧
    (s.braidArmed b t).braidState b = 1 ∧ (s.braidArmed b t).on (Reg.STR_BRD_CTRL.ARM b) = true := by
  refine ⟨congrArg Braid.armed (s.braid_onBraid_same b fun x => { x with armed := some t }), State.rd_wr_same _ _ _, ?_⟩
  have hne : (Reg.STR_BRD_CTRL.ARM b).key ≠ (Reg.STR_BRD_STATUS.STATE b).key := by
    simp only [FieldRef.key, Reg.STR_BRD_CTRL.ARM, Reg.STR_BRD_STATUS.STATE]; omega
  exact (State.on_congr (State.rd_wr_ne _ hne _)).trans (State.on_put_same _ _ _ (Nat.le_refl 1))

/-- ARM of an IDLE braid whose members are no streams arms it by its TRIGSRC. -/
theorem State.braidArm_idle {s : State} {b : Nat} (h0 : s.braidState b = 0)
    (hm : ∀ m ∈ s.members b, m.2.2.iftype ≠ 5) :
    (s.rd (Reg.STR_BRD_CTRL.TRIGSRC b) = 0 → s.braidArm b = s.braidArmed b (.tick (s.tick + 2))) ∧
    (s.rd (Reg.STR_BRD_CTRL.TRIGSRC b) = 1 → s.braidArm b = s.braidArmed b .edge) := by
  have hframe (m) (hmem : m ∈ s.members b) : s.memberFrame m.1 m.2.2 = some 1 := if_neg (hm m hmem)
  constructor <;>
  · intro hsrc
    rw [State.braidArm, if_neg (not_not.mpr h0), hsrc]
    dsimp only
    rw [if_neg]
    · rfl
    · rw [List.any_eq_true]
      rintro ⟨m, hmem, hbad⟩
      rw [hframe m hmem] at hbad
      simp [Nat.mod_one] at hbad

/-- STOP of a RUNNING braid that no STOP runs for begins at the next boundary. -/
theorem State.braidStop_running {s : State} {b : Nat} (h : s.braidState b = 2) (hs : (s.braid b).stopAt = none) :
    s.braidStop b = s.onBraid b fun x => { x with
      stopAt := some (s.tick + 1), stopDone := max (s.tick + 1) x.rampEnd + 16 } := by
  simp only [State.braidStop, h, hs, Option.isSome_none, Bool.false_eq_true, if_false]

/-- STOP of an ARMED braid makes it IDLE. -/
theorem State.braidStop_armed {s : State} {b : Nat} (h : s.braidState b = 1) : s.braidStop b = s.braidIdle b := by
  simp only [State.braidStop, h]

/-- STOP of an IDLE braid changes nothing. -/
theorem State.braidStop_idle {s : State} {b : Nat} (h : s.braidState b = 0) : s.braidStop b = s := by
  simp only [State.braidStop, h]

/-- What an IDLE braid shows. -/
theorem State.braidIdle_shows (s : State) (b : Nat) : (s.braidIdle b).braidState b = 0 ∧
    ((s.braidIdle b).braid b).armed = none ∧ (s.braidIdle b).on (Reg.STR_BRD_CTRL.ARM b) = false := by
  refine ⟨State.rd_wr_same _ _ _, congrArg Braid.armed (s.braid_onBraid_same b fun x => { x with
    armed := none, stopAt := none, rejoin := none }), ?_⟩
  have hne : (Reg.STR_BRD_CTRL.ARM b).key ≠ (Reg.STR_BRD_STATUS.STATE b).key := by
    simp only [FieldRef.key, Reg.STR_BRD_CTRL.ARM, Reg.STR_BRD_STATUS.STATE]; omega
  exact (State.on_congr (State.rd_wr_ne _ hne _)).trans (State.on_put_same _ _ _ (Nat.le_refl 1))

/-! ### START_IN (R35) -/

/-- What an edge of START_IN makes of a braid: its start tick, where it waits for an edge of this polarity. -/
def State.edged (s : State) (falling : Bool) (b : Nat) : Braid :=
  if s.braidState b = 1 ∧ (s.braid b).armed = some .edge ∧ s.on (Reg.STR_BRD_CTRL.EDGE b) = falling then
    { s.braid b with armed := some (.tick (s.tick + (if s.inWindow then 3 else 2))) }
  else s.braid b

/-- An edge of START_IN as one braid sees it. -/
def State.startIn (falling : Bool) (s : State) (b : Nat) : State :=
  if s.braidState b = 1 ∧ (s.braid b).armed = some .edge ∧ s.on (Reg.STR_BRD_CTRL.EDGE b) = falling then
    s.onBraid b fun x => { x with armed := some (.tick (s.tick + (if s.inWindow then 3 else 2))) }
  else s

/-- It changes the record of its braid alone. -/
theorem State.startIn_spec (falling : Bool) (s : State) (b : Nat) : (s.startIn falling b).regs = s.regs ∧
    (s.startIn falling b).tick = s.tick ∧ (s.startIn falling b).inWindow = s.inWindow ∧
    (s.startIn falling b).braid b = s.edged falling b ∧ ∀ k, k ≠ b → (s.startIn falling b).braid k = s.braid k := by
  unfold State.startIn State.edged
  split
  · exact ⟨rfl, rfl, rfl, s.braid_onBraid_same b _, fun k hk => s.braid_onBraid_ne hk _⟩
  · exact ⟨rfl, rfl, rfl, rfl, fun _ _ => rfl⟩

/-- What an edge makes of a braid depends on its own record, the registers, and the instant. -/
theorem State.edged_congr {s t : State} (falling : Bool) {b : Nat} (hr : t.regs = s.regs) (ht : t.tick = s.tick)
    (hw : t.inWindow = s.inWindow) (hb : t.braid b = s.braid b) : t.edged falling b = s.edged falling b := by
  have hrd (q : FieldRef) : t.rd q = s.rd q := congrArg (sget q.reset q.key) hr
  rw [State.edged, State.edged, State.braidState, hrd, State.on_congr (hrd _), ht, hw, hb]
  rfl

/-- An edge as the listed braids see it. -/
theorem State.foldl_startIn (falling : Bool) (l : List Nat) : ∀ (s : State), l.Nodup →
    (l.foldl (State.startIn falling) s).regs = s.regs ∧
    (∀ k ∈ l, (l.foldl (State.startIn falling) s).braid k = s.edged falling k) ∧
    ∀ k, k ∉ l → (l.foldl (State.startIn falling) s).braid k = s.braid k := by
  induction l with
  | nil => exact fun s _ => ⟨rfl, by simp, fun _ _ => rfl⟩
  | cons b l ih =>
    intro s hd
    obtain ⟨hb, hl⟩ := List.nodup_cons.mp hd
    obtain ⟨hregs, htick, hwin, hsame, hother⟩ := s.startIn_spec falling b
    obtain ⟨ihregs, ihin, ihout⟩ := ih (s.startIn falling b) hl
    refine ⟨ihregs.trans hregs, fun k hk => ?_, fun k hk => ?_⟩
    · rcases List.mem_cons.mp hk with rfl | hk
      · exact (ihout k hb).trans hsame
      · have hne : k ≠ b := fun h => hb (h ▸ hk)
        exact (ihin k hk).trans (State.edged_congr falling hregs htick hwin (hother k hne))
    · exact (ihout k (List.not_mem_of_not_mem_cons hk)).trans (hother k (List.ne_of_not_mem_cons hk))

/-! ### Starts and rejoins (R35, R39) -/

/-- A restart of a decimation channel leaves the registers below the DEC block. -/
theorem State.rd_decRestart (s : State) (c : Nat) {q : FieldRef} (hq : q.key < 0xE0000 * 32) :
    (s.decRestart c).rd q = s.rd q := by
  have hu : q.key ≠ (Reg.DEC_CH_STATUS.UNSETTLED c).key := by
    simp only [FieldRef.key, Reg.DEC_CH_STATUS.UNSETTLED] at hq ⊢; omega
  have hs : q.key ≠ (Reg.DEC_CH_STATUS.SETTLE c).key := by
    simp only [FieldRef.key, Reg.DEC_CH_STATUS.SETTLE] at hq ⊢; omega
  exact (State.rd_put_ne _ hu _).trans (State.rd_wr_ne _ hs _)

/-- A member of a braid at the braid's start at tick t. -/
def State.memberStart (t : Nat) (s : State) (m : Bool × Nat × Hitch) : State :=
  let r := s.hitchRun m.1 m.2.1
  let s := if m.1 = false ∧ m.2.2.iftype = 4 then s.decRestart m.2.2.chan else s
  s.setRun m.1 m.2.1 { r with
    mute := if m.2.2.mute m.1 then .muted else .full
    lockMute := false, frame := 0, join := t, gate := false }

/-- The state of a braid that starts at tick t, before its members follow. -/
def State.braidStarted (s : State) (b t : Nat) : State :=
  let s := s.onBraid b fun _ => { start := t, rampEnd := t }
  let s := (s.put (Reg.STR_BRD_CTRL.ARM b) false).wr (Reg.STR_BRD_STATUS.STATE b) 2
  (s.wr (Reg.STR_BRD_START_LO.START b) t).wr (Reg.STR_BRD_START_HI.START b) (t / 2 ^ 32)

/-- What a braid that starts shows. -/
theorem State.braidStarted_shows (s : State) (b t : Nat) : (s.braidStarted b t).braidState b = 2 ∧
    (s.braidStarted b t).on (Reg.STR_BRD_CTRL.ARM b) = false ∧
    (s.braidStarted b t).rd (Reg.STR_BRD_START_LO.START b) = t % 2 ^ 32 ∧
    (s.braidStarted b t).braid b = { start := t, rampEnd := t } := by
  have hlo {q : FieldRef} (h : q.addr = 0x81010 + b * 0x20 ∨ q.addr = 0x81000 + b * 0x20) (hl : q.lo < 32) :
      q.key ≠ (Reg.STR_BRD_START_LO.START b).key ∧ q.key ≠ (Reg.STR_BRD_START_HI.START b).key := by
    simp only [FieldRef.key, Reg.STR_BRD_START_LO.START, Reg.STR_BRD_START_HI.START]; omega
  obtain ⟨hslo, hshi⟩ := hlo (q := Reg.STR_BRD_STATUS.STATE b) (.inl rfl) (show 0 < 32 by decide)
  obtain ⟨halo, hahi⟩ := hlo (q := Reg.STR_BRD_CTRL.ARM b) (.inr rfl) (show 7 < 32 by decide)
  have has : (Reg.STR_BRD_CTRL.ARM b).key ≠ (Reg.STR_BRD_STATUS.STATE b).key := by
    simp only [FieldRef.key, Reg.STR_BRD_CTRL.ARM, Reg.STR_BRD_STATUS.STATE]; omega
  have hlh : (Reg.STR_BRD_START_LO.START b).key ≠ (Reg.STR_BRD_START_HI.START b).key := by
    simp only [FieldRef.key, Reg.STR_BRD_START_LO.START, Reg.STR_BRD_START_HI.START]; omega
  refine ⟨?_, ?_, ?_, s.braid_onBraid_same b fun _ => { start := t, rampEnd := t }⟩
  · rw [State.braidState, State.braidStarted, State.rd_wr_ne _ hshi, State.rd_wr_ne _ hslo, State.rd_wr_same]; rfl
  · refine (State.on_congr (s := (s.onBraid b fun _ => { start := t, rampEnd := t }).put (Reg.STR_BRD_CTRL.ARM b) false)
      ?_).trans (State.on_put_same _ _ _ (Nat.le_refl 1))
    rw [State.braidStarted, State.rd_wr_ne _ hahi, State.rd_wr_ne _ halo, State.rd_wr_ne _ has]
  · rw [State.braidStarted, State.rd_wr_ne _ hlh, State.rd_wr_same]; rfl

/-- The start of a braid: the braid, and then its members. -/
theorem State.braidStart_eq (s : State) (b t : Nat) :
    s.braidStart b t = (s.members b).foldl (State.memberStart t) (s.braidStarted b t) := rfl

/-- What the start of one member leaves: the store but for the records of hitches, and the registers below the DEC block. -/
structure MemberStep (s u : State) : Prop where
  str : u.str = { s.str with runIn := u.str.runIn, runEg := u.str.runEg }
  fields : ∀ q : FieldRef, q.key < 0xE0000 * 32 → u.rd q = s.rd q

theorem MemberStep.refl (s : State) : MemberStep s s := ⟨rfl, fun _ _ => rfl⟩

theorem MemberStep.trans {s t u : State} (h : MemberStep s t) (g : MemberStep t u) : MemberStep s u :=
  ⟨by rw [g.str, h.str], fun q hq => (g.fields q hq).trans (h.fields q hq)⟩

theorem MemberStep.of_runsOnly {s u : State} (h : RunsOnly s u) : MemberStep s u :=
  ⟨(congrArg State.str h :), fun q _ => congrArg (sget q.reset q.key) h.regs⟩

/-- The restart of a decimation channel leaves the store. -/
theorem State.decRestart_step (s : State) (c : Nat) : MemberStep s (s.decRestart c) :=
  ⟨rfl, fun _ hq => s.rd_decRestart c hq⟩

theorem State.memberStart_step (t : Nat) (s : State) (m : Bool × Nat × Hitch) : MemberStep s (s.memberStart t m) := by
  refine MemberStep.trans ?_ (.of_runsOnly (RunsOnly.setRun _ _ _ _))
  split
  · exact s.decRestart_step _
  · exact .refl s

/-- The start of members leaves the store but for the records of hitches, and the registers below the DEC block. -/
theorem State.foldl_memberStart (t : Nat) (l : List (Bool × Nat × Hitch)) (s : State) :
    MemberStep s (l.foldl (State.memberStart t) s) :=
  foldl_related MemberStep.refl MemberStep.trans (State.memberStart_step t) l s

/-- A hitch after the start of one member: its counter is at 0 and it has joined, where it is the member or was so before. -/
theorem State.memberStart_run (t : Nat) (s : State) (m : Bool × Nat × Hitch) (eg : Bool) (i : Nat) :
    (s.memberStart t m).hitchRun eg i = s.hitchRun eg i ∧ (eg, i) ≠ (m.1, m.2.1) ∨
    ((s.memberStart t m).hitchRun eg i).frame = 0 ∧ ((s.memberStart t m).hitchRun eg i).join = t := by
  by_cases h : (eg, i) = (m.1, m.2.1)
  · obtain ⟨rfl, rfl⟩ := Prod.mk.injEq .. ▸ h
    right
    simp [State.memberStart]
  · left
    refine ⟨(State.hitchRun_setRun_ne _ h _).trans ?_, h⟩
    split <;> rfl

/-- Every member has its counter at 0 and has joined once all have started. -/
theorem State.foldl_memberStart_run (t : Nat) (l : List (Bool × Nat × Hitch)) (s : State) : ∀ m ∈ l,
    ((l.foldl (State.memberStart t) s).hitchRun m.1 m.2.1).frame = 0 ∧
    ((l.foldl (State.memberStart t) s).hitchRun m.1 m.2.1).join = t := by
  refine foldl_reaches (fun (s : State) (m : Bool × Nat × Hitch) =>
    (s.hitchRun m.1 m.2.1).frame = 0 ∧ (s.hitchRun m.1 m.2.1).join = t) _ (fun s m => ?_) (fun s m c h => ?_) l s
  · exact (s.memberStart_run t m m.1 m.2.1).resolve_left fun h => h.2 rfl
  · rcases s.memberStart_run t c m.1 m.2.1 with ⟨hkeep, -⟩ | hset
    · rw [hkeep]; exact h
    · exact hset

/-- The mute of members by their braid changes the records of hitches alone. -/
theorem State.muteMembers_runsOnly (s : State) (b : Nat) (on : Bool) : RunsOnly s (s.muteMembers b on) :=
  RunsOnly.foldl (fun _ _ => RunsOnly.setRun _ _ _ _) _ s

/-- Every member's mute by its braid is as it was set. -/
theorem State.muteMembers_lockMute (s : State) (b : Nat) (on : Bool) : ∀ m ∈ s.members b,
    ((s.muteMembers b on).hitchRun m.1 m.2.1).lockMute = on := by
  refine foldl_reaches (fun (s : State) (m : Bool × Nat × Hitch) => (s.hitchRun m.1 m.2.1).lockMute = on) _
    (fun s m => by simp) (fun s m c h => ?_) _ s
  by_cases hm : (m.1, m.2.1) = (c.1, c.2.1)
  · obtain ⟨h1, h2⟩ := Prod.mk.injEq .. ▸ hm
    simp [h1, h2]
  · rw [State.hitchRun_setRun_ne _ hm]; exact h

/-- The record of a braid that rejoins at tick t: no further rejoin, and its ramp-in. -/
def State.braidRejoining (s : State) (b t : Nat) : State :=
  s.onBraid b fun x => { x with rejoin := none, rampEnd := t + 16 }

/-- A rejoin: the record, the mute of the members, STATE. -/
theorem State.braidRejoin_eq (s : State) (b t : Nat) : s.braidRejoin b t =
    ((s.braidRejoining b t).muteMembers b false).wr (Reg.STR_BRD_STATUS.STATE b) 2 := rfl

/-- The members of a braid are those of the tables. -/
theorem State.members_congr {s t : State} (h : t.str = s.str) (b : Nat) : t.members b = s.members b := by
  simp only [State.members, State.hitches, h]

section Commands

variable {s : State} {b : Fin 64} {v : Word}

/-! ### BRAID_ARM and BRAID_STOP -/

/-- A control write of STR_BRD_bb_CTRL that leaves the fault collector acts at once where the chip is alone. -/
theorem State.alone.writeBraid (hs : s.alone) {u : State} (hact : s.writeBraid b v = u) (hf : u.flt = s.flt) :
    s.control (0x81000 + b.val * 0x20) v (fun s => s.writeBraid b.val v) = u :=
  (hs.control (hact ▸ hf)).trans hact

/-- BRAID_ARM of an IDLE braid without stream members. -/
theorem braidArm_arms (hs : s.alone) (hv : Admitted (0x81000 + b.val * 0x20) v) (h7 : v.getLsbD 7 = true)
    (h8 : v.getLsbD 8 = false) (h0 : s.braidState b = 0) (hm : ∀ m ∈ s.members b, m.2.2.iftype ≠ 5) :
    Answers (.braidArm b v) s fun t =>
      ((Reg.STR_BRD_CTRL.TRIGSRC b).part v = 0 → (t.braid b).armed = some (.tick (s.tick + 2)) ∧ t.braidState b = 1 ∧
        t.on (Reg.STR_BRD_CTRL.ARM b) = true) ∧
      ((Reg.STR_BRD_CTRL.TRIGSRC b).part v = 1 → (t.braid b).armed = some .edge ∧ t.braidState b = 1) := by
  refine answers_core (f := fun s => s.control (0x81000 + b.val * 0x20) v fun s => s.writeBraid b.val v) rfl hs.1 ?_
  have hw : s.writeBraid b v = (s.braidSet b v).braidArm b := by
    simp only [s.writeBraid_admitted b hv, h7, h8, if_true, Bool.false_eq_true, if_false]
  have hflt (t : Trig) : ((s.braidSet b v).braidArmed b t).flt = s.flt := (s.braidSet_regsOnly b v).flt
  obtain ⟨htick, hedge⟩ := State.braidArm_idle ((s.braidSet_state b b v).trans h0)
    (State.members_congr (s.braidSet_str b v) b ▸ hm)
  rw [State.braidSet_trigsrc] at htick hedge
  refine ⟨fun hsrc => ?_, fun hsrc => ?_⟩
  · rw [hs.writeBraid (hw.trans (htick hsrc)) (hflt _)]
    have hshow := (s.braidSet b v).braidArmed_shows b (.tick ((s.braidSet b v).tick + 2))
    rwa [State.braidSet_tick] at hshow ⊢
  · rw [hs.writeBraid (hw.trans (hedge hsrc)) (hflt _)]
    obtain ⟨harmed, hstate, -⟩ := (s.braidSet b v).braidArmed_shows b .edge
    exact ⟨harmed, hstate⟩

/-- BRAID_STOP of a RUNNING, an ARMED and an IDLE braid. -/
theorem braidStop_stops (hs : s.alone) (hv : Admitted (0x81000 + b.val * 0x20) v) (h7 : v.getLsbD 7 = false)
    (h8 : v.getLsbD 8 = true) : Answers (.braidStop b v) s fun t =>
      (s.braidState b = 2 → (s.braid b).stopAt = none → t.braidState b = 2 ∧ (t.braid b).stopAt = some (s.tick + 1) ∧
        (t.braid b).stopDone = max (s.tick + 1) (s.braid b).rampEnd + 16) ∧
      (s.braidState b = 1 → t.braidState b = 0 ∧ (t.braid b).armed = none ∧ t.on (Reg.STR_BRD_CTRL.ARM b) = false) ∧
      (s.braidState b = 0 → t.braidState b = 0 ∧ t.braid b = s.braid b) := by
  refine answers_core (f := fun s => s.control (0x81000 + b.val * 0x20) v fun s => s.writeBraid b.val v) rfl hs.1 ?_
  have hw : s.writeBraid b v = (s.braidSet b v).braidStop b := by
    simp only [s.writeBraid_admitted b hv, h7, h8, if_true, Bool.false_eq_true, if_false]
  have hstate := s.braidSet_state b b v
  have hbraid := s.braidSet_braid b b v
  have htick := s.braidSet_tick b v
  have hflt := (s.braidSet_regsOnly b v).flt
  generalize s.braidSet b v = u at hw hstate hbraid htick hflt
  refine ⟨fun h2 hstop => ?_, fun h1 => ?_, fun h0 => ?_⟩
  · have hact := State.braidStop_running (hstate.trans h2) ((congrArg Braid.stopAt hbraid).trans hstop)
    rw [hs.writeBraid (hw.trans hact) hflt, State.braid_onBraid_same, hbraid, htick]
    exact ⟨hstate.trans h2, rfl, rfl⟩
  · rw [hs.writeBraid (hw.trans (State.braidStop_armed (hstate.trans h1))) hflt]
    exact u.braidIdle_shows b
  · rw [hs.writeBraid (hw.trans (State.braidStop_idle (hstate.trans h0))) hflt]
    exact ⟨hstate.trans h0, hbraid⟩

/-! ### The events -/

/-- START_IN_EDGE fixes the start tick of the braids that wait for an edge of its polarity, and of no other. -/
theorem startInEdge_fixes (hs : s.runs) (falling : Bool) : Answers (.startInEdge falling) s fun t =>
    t.regs = s.regs ∧ ∀ k, k < 64 →
      (s.braidState k = 1 ∧ (s.braid k).armed = some .edge ∧ s.on (Reg.STR_BRD_CTRL.EDGE k) = falling →
        (t.braid k).armed = some (.tick (if s.inWindow then s.tick + 3 else s.tick + 2))) ∧
      (¬(s.braidState k = 1 ∧ (s.braid k).armed = some .edge ∧ s.on (Reg.STR_BRD_CTRL.EDGE k) = falling) →
        t.braid k = s.braid k) := by
  refine answers_clocked (m := execStartInEdge falling) rfl hs
    (f := fun s => (List.range 64).foldl (State.startIn falling) s) rfl ?_
  obtain ⟨hregs, hin, -⟩ := s.foldl_startIn falling (List.range 64) List.nodup_range
  refine ⟨hregs, fun k hk => ⟨fun hwait => ?_, fun hwait => ?_⟩⟩
  · rw [hin k (List.mem_range.mpr hk), State.edged, if_pos hwait]
    cases s.inWindow <;> rfl
  · rw [hin k (List.mem_range.mpr hk), State.edged, if_neg hwait]

/-- BRAID_START of an ARMED braid at its start tick. -/
theorem braidStart_starts (hs : s.runs) (h1 : s.braidState b = 1) (ha : (s.braid b).armed = some (.tick (s.tick + 1))) :
    Answers (.braidStart b) s fun t =>
      t.braidState b = 2 ∧ t.on (Reg.STR_BRD_CTRL.ARM b) = false ∧ (t.braid b).start = s.tick + 1 ∧
      t.rd (Reg.STR_BRD_START_LO.START b) = (s.tick + 1) % 2 ^ 32 ∧
      (∀ m ∈ s.members b, (t.hitchRun m.1 m.2.1).frame = 0 ∧ (t.hitchRun m.1 m.2.1).join = s.tick + 1) ∧
      t.str.ingress = s.str.ingress ∧ t.str.egress = s.str.egress ∧ t.str.cur = s.str.cur := by
  refine answers_clocked (m := execBraidStart b) rfl hs rfl ?_
  rw [if_pos ⟨h1, ha⟩, State.braidStart_eq]
  have hrun := State.foldl_memberStart_run (s.tick + 1) (s.members b) (s.braidStarted b (s.tick + 1))
  have hstep := State.foldl_memberStart (s.tick + 1) (s.members b) (s.braidStarted b (s.tick + 1))
  generalize (s.members b).foldl _ _ = t at hrun hstep ⊢
  obtain ⟨hstr, hfields⟩ := hstep
  obtain ⟨hstate, harm, hlo, hbraid⟩ := s.braidStarted_shows b (s.tick + 1)
  have hkey {q : FieldRef} {o : Nat} (ha : q.addr = o + b.val * 0x20) (ho : o < 0x82000) (hl : q.lo < 32) :
      q.key < 0xE0000 * 32 := by
    have := b.isLt
    rw [FieldRef.key, ha]; omega
  refine ⟨(hfields _ (hkey rfl (by decide) (show 0 < 32 by decide))).trans hstate,
    (State.on_congr (hfields _ (hkey rfl (by decide) (show 7 < 32 by decide)))).trans harm, ?_,
    (hfields _ (hkey rfl (by decide) (show 0 < 32 by decide))).trans hlo, hrun,
    (congrArg StrState.ingress hstr :), (congrArg StrState.egress hstr :), (congrArg StrState.cur hstr :)⟩
  rw [State.braid, hstr]
  exact congrArg Braid.start hbraid

/-- BRAID_REJOIN of a MUTED braid at its boundary. -/
theorem braidRejoin_rejoins (hs : s.runs) (h3 : s.braidState b = 3) (hr : (s.braid b).rejoin = some (s.tick + 1)) :
    Answers (.braidRejoin b) s fun t =>
      t.braidState b = 2 ∧ (t.braid b).rejoin = none ∧
      (∀ m ∈ s.members b, (t.hitchRun m.1 m.2.1).lockMute = false) ∧ t.str.cur = s.str.cur := by
  refine answers_clocked (m := execBraidRejoin b) rfl hs rfl ?_
  rw [if_pos ⟨h3, hr⟩, s.braidRejoin_eq]
  have hruns := (s.braidRejoining b (s.tick + 1)).muteMembers_runsOnly b false
  exact ⟨State.rd_wr_same _ _ _, congrArg Braid.rejoin ((hruns.braid b).trans (s.braid_onBraid_same b _)),
    (s.braidRejoining b (s.tick + 1)).muteMembers_lockMute b false, hruns.cur⟩

end Commands

/-- Settles O26, each clause by the law of its command. -/
theorem braidsArmStartStopRejoin : Obligations.BraidsArmStartStopRejoin := by
  unfold Obligations.BraidsArmStartStopRejoin
  exact fun b v falling s => ⟨braidArm_arms, braidStop_stops, fun hs => startInEdge_fixes hs falling,
    braidStart_starts, braidRejoin_rejoins⟩

end Sys2Proof.Machine
end

section
/-! SUPPORT. The words of the engine's instructions: which field of a word holds what was put where, and for each class that
its decoder reads back what its encoding table put (04 R76, R84-R95), and the statements settled. -/

namespace Sys2Proof

/-! ### Fields and bits of a word -/

@[simp] theorem bits_or (v w : IWord) (lo n : Nat) : bits (v ||| w) lo n = bits v lo n ||| bits w lo n :=
  BitVec.extractLsb'_or

@[simp] theorem bit_or (v w : IWord) (i : Nat) : bit (v ||| w) i = (bit v i || bit w i) :=
  BitVec.getLsbD_or

/-- The bits of a word that holds one field: those of the field, and 0 around it. -/
theorem bit_put {m lo : Nat} (v : BitVec m) {i : Nat} (hi : i < 64) :
    bit (put v lo) i = (decide (lo ≤ i) && v.getLsbD (i - lo)) := by
  simp only [bit, put, BitVec.getLsbD_shiftLeft, BitVec.getLsbD_setWidth, hi, show i - lo < 64 by omega, decide_true,
    Bool.true_and, ← Nat.not_lt, decide_not]

/-- What is read within one field's place is that part of the field. -/
theorem bits_put_within {m lo' : Nat} (v : BitVec m) {lo n : Nat} (h : lo' ≤ lo ∧ lo + n ≤ 64) :
    bits (put v lo') lo n = v.extractLsb' (lo - lo') n := by
  refine BitVec.eq_of_getLsbD_eq fun i hi => ?_
  have hbit := bit_put (lo := lo') v (i := lo + i) (by omega)
  rw [bit] at hbit
  simp [bits, hi, hbit, show lo' ≤ lo + i by omega, show lo + i - lo' = lo - lo' + i by omega]

@[simp] theorem bits_put_same {lo n : Nat} (v : BitVec n) (h : lo + n ≤ 64) : bits (put v lo) lo n = v := by
  rw [bits_put_within v ⟨Nat.le_refl lo, h⟩, Nat.sub_self, BitVec.extractLsb'_eq_self]

/-- A field leaves the places below it and above it 0. -/
@[simp] theorem bit_put_apart {m lo : Nat} (v : BitVec m) {i : Nat} (h : lo + m ≤ i ∨ i < lo) :
    bit (put v lo) i = false := by
  obtain hi | hi := Nat.lt_or_ge i 64
  · rw [bit_put v hi]
    obtain habove | hbelow := h
    · simp [BitVec.getLsbD_of_ge v (i - lo) (by omega)]
    · simp [hbelow]
  · exact BitVec.getLsbD_of_ge _ _ hi

@[simp] theorem bits_put_apart {m lo' : Nat} (v : BitVec m) {lo n : Nat} (h : lo' + m ≤ lo ∨ lo + n ≤ lo') :
    bits (put v lo') lo n = 0#n := by
  refine BitVec.eq_of_getLsbD_eq fun i hi => ?_
  have hbit := bit_put_apart (lo := lo') v (i := lo + i) (by omega)
  rw [bit] at hbit
  simp [bits, hi, hbit]

@[simp] theorem bit_putBit_same (b : Bool) {i : Nat} (h : i < 64) : bit (putBit b i) i = b := by
  simp [bit, putBit, h]

@[simp] theorem bit_putBit_apart (b : Bool) {i j : Nat} (h : j ≠ i) : bit (putBit b j) i = false :=
  bit_put_apart (BitVec.ofBool b) (by omega)

@[simp] theorem bits_putBit_apart (b : Bool) {j lo n : Nat} (h : j < lo ∨ lo + n ≤ j) : bits (putBit b j) lo n = 0#n :=
  bits_put_apart (BitVec.ofBool b) (by omega)

/-- A number scaled to a place is the field there that reaches the top of the word. -/
theorem ofNat_mul_two_pow (k lo : Nat) (h : lo ≤ 64) :
    BitVec.ofNat 64 (k * 2 ^ lo) = put (BitVec.ofNat (64 - lo) k) lo := by
  have hsplit : 2 ^ 64 = 2 ^ (64 - lo) * 2 ^ lo := by rw [← Nat.pow_add, Nat.sub_add_cancel h]
  have hsmall : k % 2 ^ (64 - lo) < 2 ^ 64 :=
    Nat.lt_of_lt_of_le (Nat.mod_lt _ (Nat.two_pow_pos _)) (Nat.pow_le_pow_right (by decide) (Nat.sub_le _ _))
  refine BitVec.eq_of_toNat_eq ?_
  rw [put, BitVec.toNat_ofNat, BitVec.toNat_shiftLeft, BitVec.toNat_setWidth, BitVec.toNat_ofNat, Nat.shiftLeft_eq,
    Nat.mod_eq_of_lt hsmall, hsplit, Nat.mul_mod_mul_right, Nat.mul_mod_mul_right, Nat.mod_mod]

/-- Class and OP are the top byte of a word (R76). -/
theorem headWord_eq_put (cls op : Nat) : headWord cls op = put (BitVec.ofNat 8 (cls * 16 + op)) 56 := by
  rw [headWord, show 2 ^ 60 = 16 * 2 ^ 56 by decide, ← Nat.mul_assoc, ← Nat.add_mul, ofNat_mul_two_pow _ 56 (by decide)]

@[simp] theorem bits_headWord_class (cls : Nat) {op : Nat} (h : op < 16) :
    bits (headWord cls op) 60 4 = BitVec.ofNat 4 cls := by
  rw [headWord_eq_put, bits_put_within _ (by decide)]
  refine BitVec.eq_of_toNat_eq ?_
  simp only [BitVec.extractLsb'_toNat, BitVec.toNat_ofNat, Nat.shiftRight_eq_div_pow]
  omega

@[simp] theorem bits_headWord_op (cls op : Nat) : bits (headWord cls op) 56 4 = BitVec.ofNat 4 op := by
  rw [headWord_eq_put, bits_put_within _ (by decide)]
  refine BitVec.eq_of_toNat_eq ?_
  simp only [BitVec.extractLsb'_toNat, BitVec.toNat_ofNat, Nat.shiftRight_eq_div_pow]
  omega

@[simp] theorem bits_headWord_low (cls op : Nat) {lo n : Nat} (h : lo + n ≤ 56) : bits (headWord cls op) lo n = 0#n := by
  rw [headWord_eq_put, bits_put_apart _ (.inr h)]

@[simp] theorem bit_headWord_low (cls op : Nat) {i : Nat} (h : i < 56) : bit (headWord cls op) i = false := by
  rw [headWord_eq_put, bit_put_apart _ (.inr h)]

/-! ### Operands -/

@[simp] theorem decodeSpec_encodeSpec (a : AddrSpec) : decodeSpec (encodeSpec a) = some a := by
  obtain ⟨ptr, mode, step⟩ := a
  have hmode (m : BitVec 2) : (ptr ++ m ++ step).extractLsb' 4 2 = m := by
    rw [BitVec.extractLsb'_append_eq_of_le (by decide), BitVec.extractLsb'_append_eq_right]
  have hptr (m : BitVec 2) : (ptr ++ m ++ step).extractLsb' 6 3 = ptr := by
    rw [BitVec.extractLsb'_append_eq_of_le (by decide), BitVec.extractLsb'_append_eq_left]
  have hstep (m : BitVec 2) : (ptr ++ m ++ step).extractLsb' 0 4 = step := BitVec.extractLsb'_append_eq_right
  simp only [decodeSpec, encodeSpec, hmode, hptr, hstep]
  cases mode <;> rfl

/-- A bus source stays in its ten bits. -/
@[simp] theorem bits_encodeBus_apart (b : BusSrc) {s lo' lo n : Nat} (hs : lo' + 9 = s) (h : s < lo ∨ lo + n ≤ lo') :
    bits (encodeBus b s lo') lo n = 0#n := by
  cases b <;> simp (disch := omega) [encodeBus]

@[simp] theorem bit_encodeBus_apart (b : BusSrc) {s lo' i : Nat} (hs : lo' + 9 = s) (h : s < i ∨ i < lo') :
    bit (encodeBus b s lo') i = false := by
  cases b <;> simp (disch := omega) [encodeBus]

@[simp] theorem decodeBus_encodeBus (b : BusSrc) {s lo : Nat} (hs : lo + 9 = s) (h : s < 64) :
    decodeBus (bit (encodeBus b s lo) s) (bits (encodeBus b s lo) lo 9) = some b := by
  cases b with
  | mem a => simp (disch := omega) [encodeBus, decodeBus]
  | quad q =>
    have hq : bits (put q lo) lo 9 = q.extractLsb' 0 9 := by rw [bits_put_within q (by omega), Nat.sub_self]
    simp (disch := omega) [encodeBus, decodeBus, hq, BitVec.extractLsb'_extractLsb'_of_le]

@[simp] theorem bits_encodeAluB_apart (b : AluB) {lo n : Nat} (h : 48 ≤ lo) : bits (encodeAluB b) lo n = 0#n := by
  cases b <;> simp (disch := omega) [encodeAluB]

@[simp] theorem aluB_encodeAluB (b : AluB) : (if bit (encodeAluB b) 47 = true then
    AluB.imm (bits (encodeAluB b) 0 32) else .reg (bits (encodeAluB b) 43 4)) = b := by
  cases b <;> simp [encodeAluB]

@[simp] theorem bits_encodeSlotSrc_apart (src : SlotSrc) {lo n : Nat} (h : 52 ≤ lo) :
    bits (encodeSlotSrc src) lo n = 0#n := by
  cases src <;> simp (disch := omega) [encodeSlotSrc]

@[simp] theorem slotSrc_encodeSlotSrc (src : SlotSrc) : (if bit (encodeSlotSrc src) 51 = true then
    SlotSrc.reg (bits (encodeSlotSrc src) 47 4) else .imm (bits (encodeSlotSrc src) 0 13)) = src := by
  cases src <;> simp [encodeSlotSrc]

/-- The two forms of a coil index lie in bits 16-31 and 40-49. -/
@[simp] theorem bits_encodeCoilIdx_apart (i : CoilIdx) {lo n : Nat}
    (h : 50 ≤ lo ∨ 32 ≤ lo ∧ lo + n ≤ 40 ∨ lo + n ≤ 16) : bits (encodeCoilIdx i) lo n = 0#n := by
  cases i <;> simp (disch := omega) [encodeCoilIdx]

@[simp] theorem bit_encodeCoilIdx_apart (i : CoilIdx) : bit (encodeCoilIdx i) 37 = false := by
  cases i <;> simp [encodeCoilIdx]

@[simp] theorem coilIdx_encodeCoilIdx (i : CoilIdx) : (if bit (encodeCoilIdx i) 49 = true then
    (decodeSpec (bits (encodeCoilIdx i) 40 9)).map CoilIdx.spec
    else some (.imm (bits (encodeCoilIdx i) 16 16))) = some i := by
  cases i <;> simp [encodeCoilIdx]

/-! ### The classes -/

theorem busPointerOk_eq_wf (yBus : Bool) (b : BusSrc) : busPointerOk yBus b = b.wf yBus := by
  cases b <;> rfl

/-- The bits of a sharing mode (R85). -/
def MacMode.code : MacMode → BitVec 3
  | .quad => 0 | .bcastx => 1 | .bcasty => 2 | .cplx => 3 | .sum => 4

/-- The bits of an accumulate mode (R85). -/
def AccMode.code : AccMode → BitVec 2
  | .acc => 0 | .sub => 1 | .set => 2

/-- Class and modes of a MAC are the top nine bits of its word (R85). -/
theorem ofNat_macHead (m am : Nat) :
    BitVec.ofNat 64 (1 * 2 ^ 60 + m * 2 ^ 57 + am * 2 ^ 55) = put (BitVec.ofNat 9 (32 + m * 4 + am)) 55 := by
  rw [← ofNat_mul_two_pow _ 55 (by decide), show 2 ^ 57 = 4 * 2 ^ 55 by decide, show 1 * 2 ^ 60 = 32 * 2 ^ 55 by decide,
    ← Nat.mul_assoc, ← Nat.add_mul, ← Nat.add_mul]

theorem encodeEng_mac (a : MacArgs) : encodeEng (.mac a) = put (1#4 ++ a.mode.code ++ a.amode.code) 55 |||
    putBit a.cf 54 ||| put a.k 52 ||| encodeBus a.x 51 42 ||| encodeBus a.y 41 32 := by
  obtain ⟨mode, amode, cf, k, x, y⟩ := a
  simp only [encodeEng, ofNat_macHead]
  cases mode <;> cases amode <;> rfl

theorem bits_macHead_class (m : BitVec 3) (am : BitVec 2) : bits (put (1#4 ++ m ++ am) 55) 60 4 = 1#4 := by
  rw [bits_put_within _ (by decide), BitVec.extractLsb'_append_eq_of_le (by decide), BitVec.extractLsb'_append_eq_left]

theorem bits_macHead_mode (m : BitVec 3) (am : BitVec 2) : bits (put (1#4 ++ m ++ am) 55) 57 3 = m := by
  rw [bits_put_within _ (by decide), BitVec.extractLsb'_append_eq_of_le (by decide), BitVec.extractLsb'_append_eq_right]

theorem bits_macHead_amode (m : BitVec 3) (am : BitVec 2) : bits (put (1#4 ++ m ++ am) 55) 55 2 = am := by
  rw [bits_put_within _ (by decide), BitVec.extractLsb'_append_eq_right]

theorem decodeEng_macClass {w : IWord} (h : bits w 60 4 = 1#4) : decodeEng w = decodeMac w := by
  simp [decodeEng, h]

/-- A word with the fields of a MAC, its pointers legal on their buses, is that MAC. -/
theorem decodeMac_of_fields {w : IWord} {a : MacArgs} (hmode : bits w 57 3 = a.mode.code)
    (hamode : bits w 55 2 = a.amode.code) (hcf : bit w 54 = a.cf) (hk : bits w 52 2 = a.k)
    (hx : decodeBus (bit w 51) (bits w 42 9) = some a.x) (hy : decodeBus (bit w 41) (bits w 32 9) = some a.y)
    (hwf : (EngOp.mac a).wf = true) : decodeMac w = .op (.mac a) := by
  obtain ⟨mode, amode, cf, k, x, y⟩ := a
  rw [EngOp.wf, Bool.and_eq_true] at hwf
  obtain ⟨hxPtr, hyPtr⟩ := hwf
  simp only [decodeMac, hmode, hamode, hcf, hk, hx, hy, busPointerOk_eq_wf]
  cases mode <;> cases amode <;> simp [MacMode.code, AccMode.code, hxPtr, hyPtr]

theorem decodeEng_encodeEng_mac (a : MacArgs) (hwf : (EngOp.mac a).wf = true) :
    decodeEng (encodeEng (.mac a)) = .op (.mac a) := by
  have hclass : bits (encodeEng (.mac a)) 60 4 = 1#4 := by simp [encodeEng_mac, bits_macHead_class]
  rw [decodeEng_macClass hclass]
  exact decodeMac_of_fields (by simp [encodeEng_mac, bits_macHead_mode]) (by simp [encodeEng_mac, bits_macHead_amode])
    (by simp [encodeEng_mac]) (by simp [encodeEng_mac]) (by simp [encodeEng_mac]) (by simp [encodeEng_mac]) hwf

/-- What is encoded is decoded: by class, the decoder of the class reads the fields where its table put them. -/
theorem decodeEng_encodeEng : ∀ o : EngOp, o.wf = true → decodeEng (encodeEng o) = .op o := by
  intro o hwf
  cases o with
  | mac a => exact decodeEng_encodeEng_mac a hwf
  | mva a | mvaq a => simp [encodeEng, decodeEng, decodeMva]
  | aclr | acpy | aadd | asub | aneg | aabs | norm | ashi | dtoa | dadd | expa | atst =>
    simp [encodeEng, decodeEng, decodeAcc]
  | ldw | ldq | stw | stq | ldwa | ldqa | stwa | stqa => simp [encodeEng, decodeEng, decodeMem]
  | add | sub | adds | subs | and | or | xor | ash | lsh | min | max | abs | neg | cmp | mov | expd =>
    simp [encodeEng, decodeEng, decodeAlu, encodeAlu]
  | setr r | movr r | getr r =>
    simp only [EngOp.wf, decide_eq_true_eq] at hwf
    simp [encodeEng, decodeEng, decodeAgu, aguCodeOk, aguWritable, show r.toNat < 0x2A by omega, hwf]
  | modp a =>
    simp only [EngOp.wf, decide_eq_true_eq] at hwf
    simp [encodeEng, decodeEng, decodeAgu, hwf]
  | srd | swr => simp [encodeEng, decodeEng, decodeStr]
  | crdd | crdm | cwrd | cwrm => simp [encodeEng, decodeEng, decodeCoil]
  | tclip | tor | tset | tcpy | ttst | fclr => simp [encodeEng, decodeEng, decodeTag]
  | bcc c =>
    simp only [EngOp.wf, decide_eq_true_eq] at hwf
    simp [encodeEng, decodeEng, decodeCtl, hwf]
  | nop => rfl
  | wait | bra | loop | loopr | brk => simp [encodeEng, decodeEng, decodeCtl]

/-- Settles O2: each class decoder reads back the fields that the class's table put. -/
theorem engineWordsDecodeAsEncoded : Obligations.EngineWordsDecodeAsEncoded := decodeEng_encodeEng

/-- Settles O3: the words are closed, and the decoder computes. -/
theorem engineWordsOfTheTables : Obligations.EngineWordsOfTheTables := by
  unfold Obligations.EngineWordsOfTheTables
  decide

end Sys2Proof
end

section
/-! SUPPORT. The program flow (04 R94-R99): what the issue of a flow instruction leaves, and the statement settled. -/

namespace Sys2Proof.Machine

open Sys2Proof.Claims

/-! ### Where issue goes -/

/-- The conditions of BCC are those of the table of R95. -/
theorem condition_eq_condHolds (f : EngFlags) {c : BitVec 4} (hc : c.toNat < 13) : condition f c = condHolds f c.toNat := by
  unfold condition
  generalize c.toNat = n at hc
  interval_cases n <;> rfl

theorem Engine.openLoop_zero (x : Engine) (last : Nat) :
    x.openLoop last 0 = { x with pc := (last + 1) % 4096, cyc := x.cyc + 3 } := rfl

theorem Engine.openLoop_pos (x : Engine) (last : Nat) {n : Nat} (hn : 0 < n) : x.openLoop last n =
    { x with loops := ⟨(x.pc + 1) % 4096, last, n⟩ :: x.loops, pc := (x.pc + 1) % 4096, cyc := x.cyc + 1 } :=
  if_neg (Nat.pos_iff_ne_zero.mp hn)

/-- An address that is no level's END closes no level. -/
theorem loopEnd_inside {pc : Nat} {l : List LoopLevel} (h : ∀ m ∈ l, m.last ≠ pc) :
    loopEnd pc l = ((pc + 1) % 4096, l) := by
  induction l with
  | nil => rfl
  | cons m r ih =>
    obtain ⟨hm, hr⟩ := List.forall_mem_cons.mp h
    rw [loopEnd, if_neg hm, ih hr]

/-- At the END of the innermost level, with passes left, issue goes back to its first address. -/
theorem loopEnd_repeats {pc : Nat} {l : LoopLevel} (r : List LoopLevel) (hl : l.last = pc) (hn : 1 < l.remaining) :
    loopEnd pc (l :: r) = (l.first, { l with remaining := l.remaining - 1 } :: r) := by
  rw [loopEnd, if_pos hl, if_pos hn]

/-- At the END of its last pass the innermost level closes, and the outer levels are checked. -/
theorem loopEnd_closes {pc : Nat} {l : LoopLevel} (r : List LoopLevel) (hl : l.last = pc) (hn : l.remaining ≤ 1) :
    loopEnd pc (l :: r) = loopEnd pc r := by
  rw [loopEnd, if_pos hl, if_neg (Nat.not_lt.mpr hn)]

theorem slotNext_first (pc a : Nat) {n : Nat} (hn : 1 < n) :
    slotNext pc ⟨n, a⟩ = ((pc + 1) % 4096, some ⟨n - 1, a⟩) :=
  if_neg (Nat.not_le.mpr hn)

theorem slotNext_last (pc a : Nat) {n : Nat} (hn : n ≤ 1) : slotNext pc ⟨n, a⟩ = (a, none) :=
  if_pos hn

/-- In a delay slot, NOP goes on to the second slot or the target. -/
theorem Engine.next_nop_slot {x : Engine} {d : DelaySlots} (h : x.slots = some d) :
    x.next .nop = { x with pc := (slotNext x.pc d).1, cyc := x.cyc + 1, slots := (slotNext x.pc d).2 } := by
  simp only [Engine.next, h]

/-- Outside a delay slot, NOP goes on as the loop levels say. -/
theorem Engine.next_nop_loops {x : Engine} (h : x.slots = none) :
    x.next .nop = { x with pc := (loopEnd x.pc x.loops).1, cyc := x.cyc + 1, loops := (loopEnd x.pc x.loops).2 } := by
  simp only [Engine.next, h]

/-! ### Drains of the cycles without issue -/

/-- What lands in the strand store leaves the engines. -/
@[simp] theorem State.landStrand_engine (s : State) (e i : Nat) (w : StrandWrite) :
    (s.landStrand e w).engine i = s.engine i := by
  unfold State.landStrand
  dsimp only
  split <;> rfl

/-- A drain moves the engine's write queue alone. -/
theorem State.drain_engine (s : State) (e : Nat) : ∃ q, (s.drain e).engine e = { s.engine e with queue := q } := by
  unfold State.drain
  dsimp only
  split
  · exact ⟨_, rfl⟩
  · exact ⟨_, (State.landStrand_engine _ _ _ _).trans (State.engine_setEngine_same _ _ _)⟩

/-- The drain of an engine's cycle moves its write queue and notes the cycle. -/
theorem State.drainCycle_engine (s : State) (e : Nat) :
    ∃ q l, (s.drainCycle e).engine e = { s.engine e with queue := q, lastDrain := l } := by
  unfold State.drainCycle
  dsimp only
  split
  · obtain ⟨q, hq⟩ := (s.setEngine e { s.engine e with lastDrain := some (s.engine e).cyc }).drain_engine e
    exact ⟨q, _, by rw [hq, State.engine_setEngine_same]⟩
  · exact ⟨_, _, rfl⟩

/-- The drains of the cycles without issue leave the engine's program and data. -/
theorem State.skippedDrains_engine {s : State} {e t : Nat} (h : (s.engine e).cyc = t + 3) :
    ∃ q l, (s.skippedDrains e t).engine e = { s.engine e with queue := q, lastDrain := l } := by
  obtain ⟨q₁, l₁, h₁⟩ := (s.setEngine e { s.engine e with cyc := t + 1 }).drainCycle_engine e
  unfold State.skippedDrains
  dsimp only
  rw [if_pos h]
  generalize (s.setEngine e { s.engine e with cyc := t + 1 }).drainCycle e = u at h₁ ⊢
  obtain ⟨q₂, l₂, h₂⟩ := (u.setEngine e { u.engine e with cyc := t + 2 }).drainCycle_engine e
  refine ⟨q₂, l₂, ?_⟩
  rw [State.engine_setEngine_same, h₂, State.engine_setEngine_same, h₁, State.engine_setEngine_same, ← h]

theorem State.skippedDrains_idle {s : State} {e t : Nat} (h : (s.engine e).cyc ≠ t + 3) : s.skippedDrains e t = s :=
  if_neg h

/-! ### The issue of an instruction without an effect of its own -/

/-- The engine goes on, and then come the drains of the cycles without issue. -/
theorem State.issues.goes_on {s : State} {e : Nat} {o : EngOp} {y : Engine} (hi : s.issues e o) (heff : effect e o s = s)
    (hy : (s.engine e).next o = y) (hfly : y.fly = []) (hcyc : y.cyc ≤ (s.engine e).cyc + 3) :
    ∃ u, Sets s u e y ∧ s.issueOp e o = u.skippedDrains e (s.engine e).cyc := by
  have hquiet : s.quiet e (y.cyc - 1) := State.quiet_mono hi.quiet (by omega)
  have hset := ((Sets.refl s e).setEngine y).settle hquiet (by simp [hfly])
  have hdone : y.settled (y.cyc - 1) = y := by
    simp only [Engine.settled, hfly, Engine.settledList]
    rw [← hfly]
  rw [hdone] at hset
  refine ⟨_, hset, ?_⟩
  rw [State.issueOp]
  simp only [heff, State.mayIssue_runs hi.may, if_true, hy, State.engine_setEngine_same]

/-- The engine goes on in the next cycle. -/
theorem State.issues.steps {s : State} {e : Nat} {o : EngOp} {y : Engine} (hi : s.issues e o) (heff : effect e o s = s)
    (hy : (s.engine e).next o = y) (hfly : y.fly = []) (hcyc : y.cyc = (s.engine e).cyc + 1) :
    Sets s (s.issueOp e o) e y := by
  obtain ⟨u, hset, hissue⟩ := hi.goes_on heff hy hfly (by omega)
  rwa [hissue, State.skippedDrains_idle (by rw [hset.here, hcyc]; omega)]

/-- The engine goes on, its data untouched. -/
theorem Sets.flowOnly {s t : State} {e : Nat} {y : Engine} (h : Sets s t e y) (hd : DataKept (s.engine e) y) :
    FlowOnly s t e where
  data := by rw [h.here]; exact hd
  only := h.alone

section Commands

variable {e : Fin 192} {s : State}

/-- WAIT ends issue, closes every level and records its cycle. -/
theorem wait_ends (hi : s.issues e .wait) : Answers (.wait e) s fun t => FlowOnly s t e ∧ (t.engine e).issuing = false ∧
    (t.engine e).loops = [] ∧ (t.engine e).waitCyc = some (s.engine e).cyc := by
  refine answers_issue hi rfl ?_
  have hset := hi.steps rfl rfl hi.fly rfl
  refine ⟨hset.flowOnly ⟨rfl, rfl, rfl, rfl, rfl⟩, ?_⟩
  rw [hset.here]
  exact ⟨rfl, rfl, rfl⟩

/-- BRA opens two delay slots before its target. -/
theorem bra_branches {tgt : BitVec 12} (hi : s.issues e (.bra tgt)) : Answers (.bra e tgt) s fun t =>
    FlowOnly s t e ∧ (t.engine e).pc = ((s.engine e).pc + 1) % 4096 ∧ (t.engine e).slots = some ⟨2, tgt.toNat⟩ ∧
    (t.engine e).loops = (s.engine e).loops ∧ (t.engine e).cyc = (s.engine e).cyc + 1 := by
  refine answers_issue hi rfl ?_
  have hset := hi.steps rfl rfl hi.fly rfl
  refine ⟨hset.flowOnly ⟨rfl, rfl, rfl, rfl, rfl⟩, ?_⟩
  rw [hset.here]
  exact ⟨rfl, rfl, rfl, rfl⟩

/-- BCC opens two delay slots before its target, or before the address after them. -/
theorem bcc_branches {cond : BitVec 4} {tgt : BitVec 12} (hi : s.issues e (.bcc cond tgt)) (hc : cond.toNat < 13) :
    Answers (.bcc e cond tgt) s fun t =>
      FlowOnly s t e ∧ (t.engine e).pc = ((s.engine e).pc + 1) % 4096 ∧ (t.engine e).loops = (s.engine e).loops ∧
      (t.engine e).cyc = (s.engine e).cyc + 1 ∧ (t.engine e).slots =
        some ⟨2, if condition (s.engine e).flags cond then tgt.toNat else ((s.engine e).pc + 3) % 4096⟩ := by
  refine answers_issue hi rfl ?_
  have hset := hi.steps rfl rfl hi.fly rfl
  refine ⟨hset.flowOnly ⟨rfl, rfl, rfl, rfl, rfl⟩, ?_⟩
  rw [hset.here, condition_eq_condHolds _ hc]
  exact ⟨rfl, rfl, rfl, rfl⟩

/-- A loop instruction opens a level, or passes over its body where its count is 0. -/
theorem loop_opens {o : EngOp} {last n : Nat} (hi : s.issues e o) (heff : effect e o s = s)
    (hnext : (s.engine e).next o = (s.engine e).openLoop last n) :
    let x := s.engine e
    let t := s.issueOp e o
    (0 < n → FlowOnly s t e ∧ (t.engine e).loops = ⟨(x.pc + 1) % 4096, last, n⟩ :: x.loops ∧
      (t.engine e).pc = (x.pc + 1) % 4096 ∧ (t.engine e).cyc = x.cyc + 1) ∧
    (n = 0 → (t.engine e).loops = x.loops ∧ (t.engine e).pc = (last + 1) % 4096 ∧ (t.engine e).cyc = x.cyc + 3 ∧
      (t.engine e).d = x.d) := by
  refine ⟨fun hn => ?_, fun hn => ?_⟩
  · have hset := hi.steps heff (hnext.trans (Engine.openLoop_pos _ last hn)) hi.fly rfl
    refine ⟨hset.flowOnly ⟨rfl, rfl, rfl, rfl, rfl⟩, ?_⟩
    rw [hset.here]
    exact ⟨rfl, rfl, rfl⟩
  · subst hn
    obtain ⟨u, hset, hissue⟩ := hi.goes_on heff (hnext.trans (Engine.openLoop_zero _ last)) hi.fly (Nat.le_refl _)
    obtain ⟨q, l, hdrained⟩ := State.skippedDrains_engine (s := u) (e := e) (t := (s.engine e).cyc) (by rw [hset.here])
    rw [hissue, hdrained, hset.here]
    exact ⟨rfl, rfl, rfl, rfl⟩

/-- BRK closes the innermost level. -/
theorem brk_closes (hi : s.issues e .brk) : Answers (.brk e) s fun t => FlowOnly s t e ∧
    (t.engine e).loops = (s.engine e).loops.tail ∧ (t.engine e).pc = ((s.engine e).pc + 1) % 4096 ∧
    (t.engine e).cyc = (s.engine e).cyc + 1 := by
  refine answers_issue hi rfl ?_
  have hset := hi.steps rfl rfl hi.fly rfl
  refine ⟨hset.flowOnly ⟨rfl, rfl, rfl, rfl, rfl⟩, ?_⟩
  rw [hset.here]
  exact ⟨rfl, rfl, rfl⟩

/-- NOP takes one cycle, and goes on where its place in the program says. -/
theorem nop_steps {p : Nat} {ls : List LoopLevel} {sl : Option DelaySlots} (hi : s.issues e .nop)
    (hn : (s.engine e).next .nop = { s.engine e with pc := p, cyc := (s.engine e).cyc + 1, loops := ls, slots := sl }) :
    let t := s.issueOp e .nop
    FlowOnly s t e ∧ (t.engine e).cyc = (s.engine e).cyc + 1 ∧ (t.engine e).pc = p ∧ (t.engine e).loops = ls ∧
      (t.engine e).slots = sl := by
  have hset := hi.steps rfl hn hi.fly rfl
  refine ⟨hset.flowOnly ⟨rfl, rfl, rfl, rfl, rfl⟩, ?_⟩
  rw [hset.here]
  exact ⟨rfl, rfl, rfl, rfl⟩

/-- NOP at a place that is neither a delay slot nor the END of a level, in a delay slot, and at the END of levels. -/
theorem nop_goes_on (hi : s.issues e .nop) : Answers (.nop e) s fun t =>
    let x := s.engine e
    FlowOnly s t e ∧ (t.engine e).cyc = x.cyc + 1 ∧
    (x.slots = none → (∀ l ∈ x.loops, l.last ≠ x.pc) →
      (t.engine e).pc = (x.pc + 1) % 4096 ∧ (t.engine e).loops = x.loops ∧ (t.engine e).slots = none) ∧
    (∀ n a, x.slots = some ⟨n, a⟩ → (1 < n →
        (t.engine e).pc = (x.pc + 1) % 4096 ∧ (t.engine e).slots = some ⟨n - 1, a⟩ ∧ (t.engine e).loops = x.loops) ∧
      (n ≤ 1 → (t.engine e).pc = a ∧ (t.engine e).slots = none ∧ (t.engine e).loops = x.loops)) ∧
    (∀ l r, x.slots = none → x.loops = l :: r → l.last = x.pc → (1 < l.remaining →
        (t.engine e).pc = l.first ∧ (t.engine e).loops = ⟨l.first, l.last, l.remaining - 1⟩ :: r) ∧
      (l.remaining ≤ 1 → (∀ m ∈ r, m.last ≠ x.pc) →
        (t.engine e).pc = (x.pc + 1) % 4096 ∧ (t.engine e).loops = r)) := by
  refine answers_issue hi rfl ?_
  dsimp only
  obtain ⟨_, _, _, hnext⟩ := (s.engine e).next_plain (o := .nop) rfl
  obtain ⟨hflow, hcyc, -⟩ := nop_steps hi hnext
  refine ⟨hflow, hcyc, fun hs hl => ?_, fun n a hs => ?_, fun l r hs hl hend => ?_⟩
  · obtain ⟨-, -, hpc, hloops, hslots⟩ := nop_steps hi (Engine.next_nop_loops hs)
    rw [loopEnd_inside hl] at hpc hloops
    exact ⟨hpc, hloops, hslots.trans hs⟩
  · obtain ⟨-, -, hpc, hloops, hslots⟩ := nop_steps hi (Engine.next_nop_slot hs)
    refine ⟨fun hn => ?_, fun hn => ?_⟩
    · rw [slotNext_first _ _ hn] at hpc hslots
      exact ⟨hpc, hslots, hloops⟩
    · rw [slotNext_last _ _ hn] at hpc hslots
      exact ⟨hpc, hslots, hloops⟩
  · obtain ⟨-, -, hpc, hloops, -⟩ := nop_steps hi (Engine.next_nop_loops hs)
    rw [hl] at hpc hloops
    refine ⟨fun hn => ?_, fun hn hr => ?_⟩
    · rw [loopEnd_repeats r hend hn] at hpc hloops
      exact ⟨hpc, hloops⟩
    · rw [loopEnd_closes r hend hn, loopEnd_inside hr] at hpc hloops
      exact ⟨hpc, hloops⟩

end Commands

/-- Settles O18, each clause by the law of its instruction. -/
theorem programFlow : Obligations.ProgramFlow := by
  unfold Obligations.ProgramFlow
  intro e tgt last cond d count s
  exact ⟨wait_ends, bra_branches, bcc_branches, fun hi => answers_issue hi rfl (loop_opens hi rfl rfl),
    fun hi => answers_issue hi rfl (loop_opens hi rfl rfl), brk_closes, nop_goes_on⟩

end Sys2Proof.Machine
end

section
/-! SUPPORT. What the matrix and the memories of the engines keep while a lay plan is switched (05 R118, R119): relations of
states that differ in one part of the node alone. -/

namespace Sys2Proof.Machine

/-- Two states that differ in the matrix and in the count of free values alone. -/
def MatrixOnly (s t : State) : Prop := t = { s with mtx := t.mtx, free := t.free }

namespace MatrixOnly

variable {s t u : State}

theorem refl (s : State) : MatrixOnly s s := rfl

theorem trans (h : MatrixOnly s t) (g : MatrixOnly t u) : MatrixOnly s u :=
  Eq.trans g (congrArg (fun x : State => { x with mtx := u.mtx, free := u.free }) h)

theorem lp (h : MatrixOnly s t) : t.lp = s.lp := (congrArg State.lp h :)
theorem regs (h : MatrixOnly s t) : t.regs = s.regs := (congrArg State.regs h :)

theorem setCol (s : State) (n : Nat) (c : Col) : MatrixOnly s (s.setCol n c) := rfl

theorem setRow (s : State) (n : Nat) (r : Row) : MatrixOnly s (s.setRow n r) := rfl

theorem onCommit (s : State) (n : Nat) (f : Commit → Commit) : MatrixOnly s (s.onCommit n f) := by
  unfold State.onCommit
  split <;> rfl

/-- A fold of steps that change the matrix alone does. -/
theorem foldl {α : Type} {f : State → α → State} (h : ∀ s a, MatrixOnly s (f s a)) (l : List α) (s : State) :
    MatrixOnly s (l.foldl f s) := foldl_related refl trans h l s

/-- A gain added to a frozen list may take a free value. -/
theorem addFrozen (s : State) (g : SMap Word) (r : Nat) (v : Int) : MatrixOnly s (s.addFrozen g r v).2 := by
  unfold State.addFrozen
  dsimp only
  split <;> rfl

theorem addFaded (f : Nat) (l : List (Nat × Int)) : ∀ (s : State) (g : SMap Word), MatrixOnly s (s.addFaded g f l).2 := by
  induction l with
  | nil => exact fun s _ => refl s
  | cons a l ih => exact fun s g => (addFrozen s g a.1 _).trans (ih _ _)

theorem frozenList (s : State) (c : Col) (h : ColChange) (t : Nat) : MatrixOnly s (s.frozenList c h t).2 := by
  unfold State.frozenList
  dsimp only
  split
  · split
    · exact (addFaded _ _ s _).trans (addFaded _ _ _ _)
    · exact refl s
  · exact refl s
  · exact refl s

/-- A change completed by a later one. -/
theorem freeze (s : State) (n t : Nat) : MatrixOnly s (s.freeze n t).2 := by
  unfold State.freeze
  dsimp only
  split
  · exact refl s
  · next h _ =>
    refine (frozenList s (s.col n) h t).trans ?_
    split
    · exact (setCol _ _ _).trans (onCommit _ _ _)
    · exact setCol _ _ _

/-- A column's part in a bank splice. -/
theorem bankCol (s : State) (t len : Nat) (old new : LayPlan) (n : Nat) : MatrixOnly s (s.bankCol t len old new n) := by
  unfold State.bankCol
  dsimp only
  split
  · exact freeze s n t
  · exact (freeze s n t).trans (setCol _ _ _)

theorem finishCol (s : State) (n result : Nat) (cut : Bool) : MatrixOnly s (s.finishCol n result cut) := by
  unfold State.finishCol
  dsimp only
  split
  · exact refl s
  · split <;> exact setCol _ _ _

theorem phaseCol (s : State) (n t : Nat) (p : ColPhase) : MatrixOnly s (s.phaseCol n t p) := by
  unfold State.phaseCol
  dsimp only
  split
  · exact refl s
  · exact setCol _ _ _

theorem colEvent (s : State) (n t : Nat) (e : ColEvent) : MatrixOnly s (s.colEvent n t e) := by
  cases e with
  | zcStart | zcTimeout | dipStart => exact phaseCol _ _ _ _
  | spliceEnd | cutZc | dipEnd => exact finishCol _ _ _ _

/-- A column at a boundary. -/
theorem colStep (s : State) (t n : Nat) : MatrixOnly s (s.colStep t n) := by
  unfold State.colStep
  dsimp only
  split
  · exact setCol _ _ _
  · split
    · exact colEvent _ _ _ _
    · exact refl s

theorem colsStep (s : State) (t : Nat) : MatrixOnly s (s.colsStep t) := foldl (fun s n => colStep s t n) _ s

end MatrixOnly

/-- Two states that differ in addressed memory and its error marks alone. -/
def MemoryOnly (s t : State) : Prop := t = { s with mem := t.mem, ecc := t.ecc }

namespace MemoryOnly

variable {s t u : State}

theorem refl (s : State) : MemoryOnly s s := rfl

theorem trans (h : MemoryOnly s t) (g : MemoryOnly t u) : MemoryOnly s u :=
  Eq.trans g (congrArg (fun x : State => { x with mem := u.mem, ecc := u.ecc }) h)

theorem lp (h : MemoryOnly s t) : t.lp = s.lp := (congrArg State.lp h :)
theorem regs (h : MemoryOnly s t) : t.regs = s.regs := (congrArg State.regs h :)

/-- A fold of steps that change memory alone does. -/
theorem foldl {α : Type} {f : State → α → State} (h : ∀ s a, MemoryOnly s (f s a)) (l : List α) (s : State) :
    MemoryOnly s (l.foldl f s) := foldl_related refl trans h l s

theorem store (s : State) (a n v : Nat) : MemoryOnly s (s.store a n v) := by
  rw [State.store_eq n s a v]
  rfl

theorem eccClear (s : State) (k : EccKey) : MemoryOnly s (s.eccClear k) := rfl

theorem outerWord (s : State) (e : Nat) (y : Bool) (a : Nat) (v : Word) : MemoryOnly s (s.outerWord e y a v) := by
  unfold State.outerWord
  dsimp only
  split
  · exact store _ _ _ _
  · exact (store _ _ _ _).trans (eccClear _ _)

theorem zeroRegion (s : State) (e : Nat) (r : Region) : MemoryOnly s (s.zeroRegion e r) := by
  unfold State.zeroRegion
  split <;> rfl

theorem zeroKnot (s : State) (k : Knot) : MemoryOnly s (s.zeroKnot k) := by
  unfold State.zeroKnot
  split
  · exact foldl (fun s r => zeroRegion s k.engine r) _ s
  · exact refl s

theorem putWords (e : Nat) (r : Region) (l : List Word) : ∀ (s : State) (i : Nat), MemoryOnly s (s.putWords e r i l) := by
  induction l with
  | nil => exact fun s _ => refl s
  | cons w l ih =>
    intro s i
    rw [State.putWords]
    refine trans ?_ (ih _ _)
    split
    · exact outerWord _ _ _ _ _
    · exact outerWord _ _ _ _ _
    · exact (store _ _ _ _).trans (eccClear _ _)
    · exact refl s

theorem putConst (s : State) (e : Nat) (c : ConstData) : MemoryOnly s (s.putConst e c) := putWords e _ _ s 0

end MemoryOnly

end Sys2Proof.Machine
end

section
/-! SUPPORT. The lay plans: ENG_LP_CTRL, loads, the arming of a switch, its ramps and the switch itself (05 R104, R116-R122),
and the statement settled. -/

namespace Sys2Proof.Machine

open Sys2Proof.Claims

/-- A command of the matrix or of a lay plan's switch answers its function's state in the window of a running node. -/
theorem answers_atWindow {s : State} {i : Instr} {f : State → State} {p : State → Prop} (he : exec i s = atWindow f s)
    (h : s.runs) (hw : s.inWindow = true) (hp : p (f s)) : Answers i s p :=
  answers_clocked (m := atWindow f) he h rfl (by rwa [hw, if_pos rfl])

/-! ### What a switch keeps -/

/-- The registers of the lay plans, from ENG_LP_CTRL up to the matrix, read as before, and so does what is armed. -/
structure LpKept (s t : State) : Prop where
  armed : t.lp.armed = s.lp.armed
  fields : ∀ q : FieldRef, 0x94000 * 32 ≤ q.key → q.key < 0xA0000 * 32 → t.rd q = s.rd q

namespace LpKept

variable {s t u : State}

theorem refl (s : State) : LpKept s s := ⟨rfl, fun _ _ _ => rfl⟩

theorem trans (h : LpKept s t) (g : LpKept t u) : LpKept s u :=
  ⟨g.armed.trans h.armed, fun q hl hh => (g.fields q hl hh).trans (h.fields q hl hh)⟩

/-- Whatever leaves registers and what is armed. -/
theorem of_regs (hr : t.regs = s.regs) (ha : t.lp.armed = s.lp.armed) : LpKept s t :=
  ⟨ha, fun q _ _ => by rw [State.rd, State.rd, hr]⟩

theorem of_matrix (h : MatrixOnly s t) : LpKept s t := of_regs h.regs (congrArg LpState.armed h.lp)

theorem of_memory (h : MemoryOnly s t) : LpKept s t := of_regs h.regs (congrArg LpState.armed h.lp)

/-- A field of another block. -/
theorem wr (s : State) {f : FieldRef} (hf : f.key < 0x94000 * 32 ∨ 0xA0000 * 32 ≤ f.key) (v : Nat) :
    LpKept s (s.wr f v) :=
  ⟨rfl, fun q hl hh => s.rd_wr_ne (by omega) v⟩

/-- A fold of steps that keep the lay plans' registers, after what keeps them. -/
theorem foldl {α : Type} {f : State → α → State} (h : LpKept s t) (l : List α)
    (hf : ∀ s, ∀ a ∈ l, LpKept s (f s a)) : LpKept s (l.foldl f t) := by
  induction l generalizing t with
  | nil => exact h
  | cons a l ih =>
    obtain ⟨ha, hl⟩ := List.forall_mem_cons.mp (fun a ha s => hf s a ha)
    exact ih (h.trans (ha t)) fun s a hm => hl a hm s

/-- Either branch. -/
theorem branch {c : Prop} [Decidable c] (h : LpKept s t) (g : LpKept s u) : LpKept s (if c then t else u) := by
  split
  · exact h
  · exact g

theorem addRamp (s : State) (n : Nat) (r : SlotRamp) : LpKept s (s.addRamp n r) := of_regs rfl rfl

theorem rampIn (s : State) (l : List Nat) (t len : Nat) : LpKept s (s.rampIn l t len) := by
  unfold State.rampIn
  split
  · exact refl s
  · exact foldl (refl s) _ fun s n _ => addRamp s n _

theorem rampOut (s : State) (t : Nat) : LpKept s (s.rampOut t) := by
  unfold State.rampOut
  split
  · exact refl s
  · exact foldl (refl s) _ fun s n _ => addRamp s n _

theorem rampBack (s : State) (t : Nat) : LpKept s (s.rampBack t) := of_regs rfl rfl

/-- The registers of an engine lie below the lay plans'. -/
theorem wr_engine (s : State) {e : Nat} (he : e < 192) {f : FieldRef} (hf : f.addr ≤ 0x90004 + e * 0x40) (hlo : f.lo < 32)
    (v : Nat) : LpKept s (s.wr f v) :=
  wr s (.inl (by rw [FieldRef.key]; omega)) v

/-- An engine at the switch. -/
theorem switchEngine (s : State) (old new : LayPlan) {e : Nat} (he : e < 192) : LpKept s (s.switchEngine old new e) := by
  have hstate (u : State) (v : Nat) : LpKept u (u.wr (Reg.ENG_STATUS.STATE e) v) :=
    wr_engine u he (Nat.le_refl _) (show 10 < 32 by decide) v
  have hstart : LpKept s ((s.wr (Reg.ENG_STATUS.BANK e) s.liveBank).put (Reg.ENG_CTRL.RELOAD e) false) :=
    (wr_engine s he (Nat.le_refl _) (show 12 < 32 by decide) _).trans
      (wr_engine _ he (show 0x90000 + e * 0x40 ≤ _ by omega) (show 1 < 32 by decide) _)
  have hset (u : State) (x : Engine) : LpKept u (u.setEngine e x) := of_regs rfl rfl
  unfold State.switchEngine
  refine hstart.trans ?_
  dsimp only
  split
  · exact (hset _ _).trans (hstate _ _)
  · refine branch (foldl (foldl ?run _ fun s c _ => of_memory (MemoryOnly.putConst s e c)) _ fun s k _ =>
      of_memory (MemoryOnly.zeroKnot s k)) ?run
    exact trans (branch (hset _ _) (branch (refl _) (hset _ _))) (hstate _ 0)

/-- The settings of the matrix lie above the lay plans'. -/
theorem wr_matrix (s : State) {f : FieldRef} (hf : 0xA0000 ≤ f.addr) (v : Nat) : LpKept s (s.wr f v) :=
  wr s (.inr (by rw [FieldRef.key]; omega)) v

/-- The bank splice of a switch. -/
theorem bankSplice (s : State) (t len : Nat) (old new : LayPlan) : LpKept s (s.bankSplice t len old new) := by
  unfold State.bankSplice
  dsimp only
  refine foldl (foldl (foldl (of_matrix (MatrixOnly.colsStep s t)) _ fun s r _ => of_matrix (MatrixOnly.setRow s r _)) _
    fun s p _ => ?nom) _ fun s n _ => of_matrix (MatrixOnly.bankCol s t len old new n)
  refine foldl ((wr_matrix s ?law _).trans (wr_matrix _ ?ramp _)) _ fun s i _ => wr_matrix s ?gain _
  case law => simp only [Reg.MTX_NOM_CTRL.LAW]; omega
  case ramp => simp only [Reg.MTX_NOM_CTRL.RAMP]; omega
  case gain => simp only [Reg.MTX_NOM_TABLE.GAIN]; omega

end LpKept

/-! ### ENG_LP_CTRL (R122) -/

/-- A low bit of a word by its remainder. -/
theorem getLsbD_of_mod_eight {v : Word} {k i : Nat} (h : v.toNat % 8 = k) (hi : i < 3) : v.getLsbD i = k.testBit i := by
  rw [BitVec.getLsbD, ← h, show 8 = 2 ^ 3 from rfl, Nat.testBit_mod_two_pow, decide_eq_true hi, Bool.true_and]

/-- The settings that a write of ENG_LP_CTRL leaves. -/
def State.lpSettings (s : State) (v : Word) : State :=
  (s.wr Reg.ENG_LP_CTRL.TRIGSRC (Reg.ENG_LP_CTRL.TRIGSRC.part v)).wr Reg.ENG_LP_CTRL.DOMAIN (Reg.ENG_LP_CTRL.DOMAIN.part v)

/-- A write with a TRIGSRC in its range, which is no LOAD that is refused: its settings, and then DISARM, LOAD and ARM. -/
theorem State.writeLpCtrl_accepted {s : State} {v : Word} (hv : v.toNat / 8 % 4 ≤ 2)
    (hload : (v.getLsbD 0 && (s.lp.loading || s.lp.armed.isSome || s.rampRuns s.tick)) = false) : s.writeLpCtrl v =
      let u := if v.getLsbD 2 then (s.lpSettings v).lpDisarm else s.lpSettings v
      let u := if v.getLsbD 0 then u.startLoad else u
      if v.getLsbD 1 then u.lpArm else u := by
  have hfs : fieldsAt 0x94000 = some [⟨Reg.ENG_LP_CTRL.LOAD, .ws, .any⟩, ⟨Reg.ENG_LP_CTRL.ARM, .ws, .any⟩,
      ⟨Reg.ENG_LP_CTRL.DISARM, .wo, .any⟩, ⟨Reg.ENG_LP_CTRL.TRIGSRC, .rw, .nat 0 2⟩,
      ⟨Reg.ENG_LP_CTRL.DOMAIN, .rw, .any⟩] := by decide
  have hadm : admitsAll [⟨Reg.ENG_LP_CTRL.LOAD, .ws, .any⟩, ⟨Reg.ENG_LP_CTRL.ARM, .ws, .any⟩,
      ⟨Reg.ENG_LP_CTRL.DISARM, .wo, .any⟩, ⟨Reg.ENG_LP_CTRL.TRIGSRC, .rw, .nat 0 2⟩,
      ⟨Reg.ENG_LP_CTRL.DOMAIN, .rw, .any⟩] v = true := by
    have htrig : Reg.ENG_LP_CTRL.TRIGSRC.part v ≤ 2 := hv
    simp [admitsAll, FieldSpec.admits, htrig]
  rw [State.writeLpCtrl, hload, if_neg Bool.false_ne_true, State.guarded, hfs]
  simp only [hadm, if_true]
  rfl

/-- Every field but TRIGSRC and DOMAIN reads as before. -/
theorem State.rd_lpSettings (s : State) (v : Word) {q : FieldRef} (ht : q.key ≠ Reg.ENG_LP_CTRL.TRIGSRC.key)
    (hd : q.key ≠ Reg.ENG_LP_CTRL.DOMAIN.key) : (s.lpSettings v).rd q = s.rd q :=
  (State.rd_wr_ne _ hd _).trans (State.rd_wr_ne _ ht _)

/-- Why a switch is refused depends on the plans, the hitches and the banks' states alone. -/
theorem State.lpReason_congr {s t : State} (hlp : t.lp = s.lp) (hstr : t.str = s.str)
    (hlive : t.rd Reg.ENG_LP_STATUS.LIVE = s.rd Reg.ENG_LP_STATUS.LIVE)
    (hother : t.rd Reg.ENG_LP_STATUS.OTHER = s.rd Reg.ENG_LP_STATUS.OTHER)
    (hbad : ∀ e, t.rd (Reg.ENG_STATUS.OTHER_BAD e) = s.rd (Reg.ENG_STATUS.OTHER_BAD e)) (late : Bool) :
    t.lpReason late = s.lpReason late := by
  have hplanOf (b : Nat) : t.planOf b = s.planOf b := by rw [State.planOf, State.planOf, hlp]
  have hbank : t.liveBank = s.liveBank := hlive
  have hlivePlan : t.livePlan = s.livePlan := by rw [State.livePlan, State.livePlan, hplanOf, hbank]
  have hotherPlan : t.planOf t.otherBank = s.planOf s.otherBank := by
    rw [State.otherBank, State.otherBank, hplanOf, hbank]
  have hbad' : (fun e => t.on (Reg.ENG_STATUS.OTHER_BAD e)) = fun e => s.on (Reg.ENG_STATUS.OTHER_BAD e) :=
    funext fun e => State.on_congr (hbad e)
  rw [State.lpReason, State.lpReason, hlivePlan, hotherPlan, hbad', hstr, hother]

theorem State.lpReason_lpSettings (s : State) (v : Word) (late : Bool) :
    (s.lpSettings v).lpReason late = s.lpReason late := by
  have hlive := s.rd_lpSettings v (q := Reg.ENG_LP_STATUS.LIVE) (by decide) (by decide)
  have hother := s.rd_lpSettings v (q := Reg.ENG_LP_STATUS.OTHER) (by decide) (by decide)
  refine State.lpReason_congr (s := s) (t := s.lpSettings v) rfl rfl hlive hother (fun e => s.rd_lpSettings v ?_ ?_) late
  · simp only [FieldRef.key, Reg.ENG_STATUS.OTHER_BAD, Reg.ENG_LP_CTRL.TRIGSRC]; omega
  · simp only [FieldRef.key, Reg.ENG_STATUS.OTHER_BAD, Reg.ENG_LP_CTRL.DOMAIN]; omega

/-- An EMPTY or LOADING bank is refused with reason 1. -/
theorem State.lpReason_notReady {s : State} (h : s.rd Reg.ENG_LP_STATUS.OTHER < 2) (late : Bool) : s.lpReason late = 1 := by
  simp only [State.lpReason, h, if_true]

/-- A bank that an engine has marked bad is refused with reason 2. -/
theorem State.lpReason_bad {s : State} {e : Nat} (he : e < 192) (hbad : s.on (Reg.ENG_STATUS.OTHER_BAD e) = true)
    (h : 2 ≤ s.rd Reg.ENG_LP_STATUS.OTHER) (late : Bool) : s.lpReason late = 2 := by
  have hany : ((List.range 192).any fun e => s.on (Reg.ENG_STATUS.OTHER_BAD e)) = true :=
    List.any_eq_true.mpr ⟨e, List.mem_range.mpr he, hbad⟩
  simp only [State.lpReason, Nat.not_lt.mpr h, hany, if_true, if_false]

/-! ### Arming and refusals (R117, R119) -/

/-- Without an armed switch ARMED shows 0. -/
theorem State.lpUnarm_shows (s : State) : s.lpUnarm.lp.armed = none ∧ s.lpUnarm.on Reg.ENG_LP_STATUS.ARMED = false :=
  ⟨rfl, State.on_put_same _ _ _ (Nat.le_refl 1)⟩

/-- Disarming leaves every field but ARM and ARMED. -/
theorem State.rd_lpUnarm (s : State) {q : FieldRef} (hc : q.key ≠ Reg.ENG_LP_CTRL.ARM.key)
    (hs : q.key ≠ Reg.ENG_LP_STATUS.ARMED.key) : s.lpUnarm.rd q = s.rd q :=
  (State.rd_put_ne _ hs _).trans (State.rd_put_ne _ hc _)

/-- What a node shows of a refused switch. -/
structure LpRefused (t : State) (why : Nat) : Prop where
  armed : t.lp.armed = none
  unarmed : t.on Reg.ENG_LP_STATUS.ARMED = false
  refused : t.on Reg.ENG_LP_STATUS.REFUSED = true
  reason : t.rd Reg.ENG_LP_STATUS.REASON = why % 16

/-- What keeps the lay plans' registers keeps what they show. -/
theorem LpRefused.kept {s t : State} {why : Nat} (h : LpRefused s why) (hk : LpKept s t) : LpRefused t why where
  armed := hk.armed.trans h.armed
  unarmed := (State.on_congr (hk.fields _ (by decide) (by decide))).trans h.unarmed
  refused := (State.on_congr (hk.fields _ (by decide) (by decide))).trans h.refused
  reason := (hk.fields _ (by decide) (by decide)).trans h.reason

/-- A refusal is shown with its reason; the live bank stays. -/
theorem State.lpRefuse_shows (s : State) (why : Nat) :
    LpRefused (s.lpRefuse why) why ∧ (s.lpRefuse why).liveBank = s.liveBank := by
  obtain ⟨harmed, hshown⟩ := s.lpUnarm_shows
  have hplain : LpRefused ((s.lpUnarm.put Reg.ENG_LP_STATUS.REFUSED true).wr Reg.ENG_LP_STATUS.REASON why) why := {
    armed := harmed
    unarmed := by rw [State.on, State.rd_wr_ne _ (by decide), State.rd_put_ne _ (by decide)]; exact hshown
    refused := by rw [State.on, State.rd_wr_ne _ (by decide), State.rd_put_same _ _ _ (by decide)]; rfl
    reason := State.rd_wr_same _ _ _ }
  have hlive : ((s.lpUnarm.put Reg.ENG_LP_STATUS.REFUSED true).wr Reg.ENG_LP_STATUS.REASON why).liveBank = s.liveBank := by
    rw [State.liveBank, State.rd_wr_ne _ (by decide), State.rd_put_ne _ (by decide),
      State.rd_lpUnarm _ (by decide) (by decide)]
    rfl
  unfold State.lpRefuse
  dsimp only
  split
  · refine ⟨⟨hplain.armed, ?_, ?_, ?_⟩, ?_⟩
    · rw [State.on_put_ne _ (by decide)]; exact hplain.unarmed
    · rw [State.on_put_ne _ (by decide)]; exact hplain.refused
    · rw [State.rd_put_ne _ (by decide)]; exact hplain.reason
    · rw [State.liveBank, State.rd_put_ne _ (by decide)]; exact hlive
  · exact ⟨hplain, hlive⟩

/-- ARM with a reason to refuse. -/
theorem State.lpArm_refused {s : State} {t : Trig} (ha : s.lp.armed = none) (ht : s.lpTrigger = .wait t)
    (hr : s.lpReason false ≠ 0) : LpRefused s.lpArm (s.lpReason false) := by
  have heq : s.lpArm = (s.lpRefuse (s.lpReason false)).refused := by
    simp only [State.lpArm, ha, ht, hr, Option.isSome_none, Bool.false_eq_true, if_false, ne_eq, not_false_eq_true, if_true]
  rw [heq]
  exact (s.lpRefuse_shows _).1.kept (.of_regs (State.raise_regs _ _) (congrArg LpState.armed (State.raise_lp _ _)))

/-- ARM for a tick, with no reason to refuse. -/
theorem State.lpArm_arms {s : State} {n : Nat} (ha : s.lp.armed = none) (ht : s.lpTrigger = .wait (.tick n))
    (hr : s.lpReason false = 0) : s.lpArm.lp.armed = some (.tick n) ∧ s.lpArm.on Reg.ENG_LP_STATUS.ARMED = true := by
  have hkept := LpKept.rampOut (((s.onLp fun l => { l with
    armed := some (.tick n), armTick := s.tick, len := s.rd Reg.ENG_LP_SPLICE.LEN }).put
      Reg.ENG_LP_CTRL.ARM true).put Reg.ENG_LP_STATUS.ARMED true) n
  simp only [State.lpArm, ha, ht, hr, Option.isSome_none, Bool.false_eq_true, if_false, ne_eq, not_true_eq_false]
  refine ⟨hkept.armed, ?_⟩
  rw [State.showRamps, State.on_put_ne _ (by decide), State.on_congr (hkept.fields _ (by decide) (by decide))]
  exact State.on_put_same _ _ _ (Nat.le_refl 1)

/-! ### Loads (R116) -/

/-- ENG_LP_ID and the settings shown after it stand above ENG_LP_CTRL and ENG_LP_STATUS. -/
theorem State.rd_wr_above (s : State) {q f : FieldRef} (hq : q.addr ≤ 0x94004) (hlo : q.lo < 32) (hf : 0x94014 ≤ f.addr)
    (v : Nat) : (s.wr f v).rd q = s.rd q := s.rd_wr_ne (by simp only [FieldRef.key]; omega) v

/-- A bank's plan is replaced; what loads and registers stay. -/
theorem State.setPlan_keeps (s : State) (b : Nat) (p : LayPlan) : (s.setPlan b p).lp.loading = s.lp.loading ∧
    (s.setPlan b p).lp.incoming = s.lp.incoming := by
  simp only [State.setPlan, State.onLp_lp]
  split <;> exact ⟨rfl, rfl⟩

/-- What a load that starts shows. -/
theorem State.startLoad_shows (s : State) : s.startLoad.lp.loading = true ∧ s.startLoad.lp.incoming = s.lp.staged ∧
    s.startLoad.on Reg.ENG_LP_CTRL.LOAD = true ∧ s.startLoad.rd Reg.ENG_LP_STATUS.OTHER = 1 ∧
    s.startLoad.rd Reg.ENG_LP_STATUS.LOADPCT = 0 := by
  unfold State.startLoad
  dsimp only
  generalize hu : (s.onLp fun l => { l with loading := true, refresh := false, incoming := l.staged }).put
    Reg.ENG_LP_CTRL.LOAD true = u
  obtain ⟨hloading, hincoming⟩ := u.setPlan_keeps u.otherBank {}
  have hload : u.on Reg.ENG_LP_CTRL.LOAD = true := hu ▸ State.on_put_same _ _ _ (Nat.le_refl 1)
  have hid (t : State) (v : Nat) : ∀ q : FieldRef, q.addr ≤ 0x94004 → q.lo < 32 →
      (t.wr (Reg.ENG_LP_ID.ID (u.setPlan u.otherBank {}).otherBank) v).rd q = t.rd q := fun q hq hlo =>
    t.rd_wr_above hq hlo (show 0x94014 ≤ 0x94014 + _ by omega) v
  refine ⟨hloading.trans (hu ▸ rfl), hincoming.trans (hu ▸ rfl), ?_, ?_, ?_⟩
  · rw [State.on, hid _ _ _ (by decide) (by decide), State.rd_wr_ne _ (by decide), State.rd_wr_ne _ (by decide)]
    exact hload
  · rw [hid _ _ _ (by decide) (by decide), State.rd_wr_ne _ (by decide), State.rd_wr_same]
    rfl
  · rw [hid _ _ _ (by decide) (by decide), State.rd_wr_same]
    rfl

/-- What a load shows that ends: READY, or BAD. -/
theorem State.loadDone_shows {s : State} {new : LayPlan} (hl : s.lp.loading = true) (hi : s.lp.incoming = some new) :
    ((s.loadDone true).rd Reg.ENG_LP_STATUS.OTHER = 2 ∧ (s.loadDone true).rd Reg.ENG_LP_STATUS.LOADPCT = 100) ∧
    ((s.loadDone false).rd Reg.ENG_LP_STATUS.OTHER = 3 ∧ (s.loadDone false).lp.loading = false) := by
  simp only [State.loadDone, hl, Bool.true_eq_false, if_false, State.put_lp, State.onLp_lp, hi]
  refine ⟨⟨?_, ?_⟩, ?_, rfl⟩
  · rw [State.rd_wr_above _ (by decide) (by decide) (show 0x94014 ≤ 0x94014 + _ by omega), State.rd_wr_ne _ (by decide),
      State.rd_wr_same]
    rfl
  · rw [State.rd_wr_above _ (by decide) (by decide) (show 0x94014 ≤ 0x94014 + _ by omega), State.rd_wr_same]
    rfl
  · rw [State.rd_wr_same]
    rfl

/-! ### The switch (R118) -/

/-- The plan's settings stand above ENG_LP_CTRL and ENG_LP_STATUS. -/
theorem State.rd_showPlan (s : State) (p : LayPlan) {q : FieldRef} (hq : q.key < 0x94014 * 32) :
    (s.showPlan p).rd q = s.rd q := by
  have hne (f : FieldRef) (hf : 0x94014 * 32 ≤ f.key) : q.key ≠ f.key := by omega
  rw [State.showPlan, State.rd_wr_ne _ (hne _ (by decide)), State.rd_wr_ne _ (hne _ (by decide)),
    State.rd_wr_ne _ (hne _ (by decide))]

/-- A switch with a reason to refuse. -/
theorem State.lpSwitch_refused {s : State} (t : Nat) (hr : s.lpReason false ≠ 0) :
    LpRefused (s.lpSwitch t) (s.lpReason false) ∧ (s.lpSwitch t).liveBank = s.liveBank := by
  obtain ⟨hshown, hlive⟩ := s.lpRefuse_shows (s.lpReason false)
  rw [State.lpSwitch]
  simp only [ne_eq, hr, not_false_eq_true, if_true]
  have hkept := LpKept.rampBack (s.lpRefuse (s.lpReason false)) t
  exact ⟨hshown.kept hkept, hlive⟩

/-- A switch first exchanges the banks and disarms; then engines, memories and crossfades follow, the registers show the new
plan, the tick and a bank that is loading, and ramps and the matrix start. -/
theorem State.lpSwitch_done {s : State} (t : Nat) (hr : s.lpReason false = 0) :
    ∃ u : State, LpKept (s.wr Reg.ENG_LP_STATUS.LIVE s.otherBank).lpUnarm u ∧
      LpKept ((((u.showPlan (s.planOf s.otherBank)).wr Reg.ENG_LP_LAST_LO.TICK t).wr Reg.ENG_LP_LAST_HI.TICK (t / 2 ^ 32)).wr
        Reg.ENG_LP_STATUS.OTHER 1) (s.lpSwitch t) := by
  rw [State.lpSwitch]
  simp only [ne_eq, hr, not_true_eq_false, if_false]
  refine ⟨_, ?_, (LpKept.rampIn _ _ _ _).trans (LpKept.bankSplice _ _ _ _ _)⟩
  refine LpKept.trans (t := List.foldl _ _ _) ?_ (LpKept.of_regs rfl rfl)
  exact LpKept.foldl (LpKept.foldl (LpKept.refl _) _ fun s e he => LpKept.switchEngine s _ _ (List.mem_range.mp he)) _
    fun s k _ => LpKept.of_memory (MemoryOnly.zeroKnot s k)

/-! ### The commands -/

/-- A control write that leaves the audit list acts at once where the chip is alone. -/
theorem State.alone.control_act {s : State} (hs : s.alone) {a : Nat} {v : Word} {act : State → State}
    (hf : (act s).flt.auditList = s.flt.auditList) : s.control a v act = act s := by
  obtain ⟨-, hpaired, haudit⟩ := hs
  rw [State.control, hpaired, Bool.false_and, if_neg Bool.false_ne_true]
  exact State.journal_off _ _ _ _ (hf.trans haudit)

/-- ARM leaves the audit list. -/
theorem State.lpArm_auditList (s : State) : s.lpArm.flt.auditList = s.flt.auditList := by
  have hrefused (t : State) : t.refused.flt.auditList = t.flt.auditList := by rw [State.refused, State.raise_eq]; rfl
  have hrefuse (n : Nat) : (s.lpRefuse n).flt = s.flt := by
    unfold State.lpRefuse
    dsimp only
    split <;> rfl
  have hramp (t : State) (n : Nat) : (t.rampOut n).flt = t.flt := by
    unfold State.rampOut
    split
    · rfl
    · exact foldl_keeps State.flt (fun s k => s.addRamp k _) (fun _ _ => rfl) _ t
  unfold State.lpArm
  split
  · rfl
  · split
    · rw [hrefused, hrefuse]
    · rw [hrefused]; exact congrArg FltState.auditList (hrefuse _)
    · dsimp only
      split
      · rw [hrefused, hrefuse]
      · split
        · exact congrArg FltState.auditList (hramp _ _)
        · rfl

section Commands

variable {s : State} {v : Word}

/-- LP_LOAD: the load of the staged plan starts, and shows so. -/
theorem lpLoad_starts (hs : s.alone) (hv : v.toNat % 8 = 1) (ht : v.toNat / 8 % 4 ≤ 2) (hl : s.lp.loading = false)
    (ha : s.lp.armed = none) (hr : s.rampRuns s.tick = false) (plan : LayPlan) : Answers (.lpLoad v plan) s fun t =>
      t.lp.loading = true ∧ t.lp.incoming = some plan ∧ t.on Reg.ENG_LP_CTRL.LOAD = true ∧
      t.rd Reg.ENG_LP_STATUS.OTHER = 1 ∧ t.rd Reg.ENG_LP_STATUS.LOADPCT = 0 := by
  refine answers_core (f := fun s => (s.onLp fun l => { l with staged := some plan }).control 0x94000 v
    fun s => s.writeLpCtrl v) rfl hs.1 ?_
  have hstands : (s.lp.loading || s.lp.armed.isSome || s.rampRuns s.tick) = false := by rw [hl, ha, hr]; rfl
  have hu : (s.onLp fun l => { l with staged := some plan }).alone := hs
  generalize hdef : (s.onLp fun l => { l with staged := some plan }) = u at hu
  have hact : u.writeLpCtrl v = (u.lpSettings v).startLoad := by
    rw [State.writeLpCtrl_accepted ht (by rw [← hdef]; exact Bool.and_eq_false_imp.mpr fun _ => hstands),
      getLsbD_of_mod_eight hv (by decide), getLsbD_of_mod_eight hv (by decide), getLsbD_of_mod_eight hv (by decide)]
    rfl
  rw [hu.control (by rw [hact]; rfl), hact]
  obtain ⟨hloading, hincoming, hshown⟩ := (u.lpSettings v).startLoad_shows
  refine ⟨hloading, hincoming.trans ?_, hshown⟩
  rw [← hdef]
  rfl

/-- LP_LOAD_DONE: the load ends, with READY or BAD. -/
theorem lpLoadDone_ends (hs : s.runs) (hl : s.lp.loading = true) {plan : LayPlan} (hi : s.lp.incoming = some plan)
    (ok : Bool) : Answers (.lpLoadDone ok) s fun t =>
      (ok = true → t.rd Reg.ENG_LP_STATUS.OTHER = 2 ∧ t.rd Reg.ENG_LP_STATUS.LOADPCT = 100) ∧
      (ok = false → t.rd Reg.ENG_LP_STATUS.OTHER = 3 ∧ t.lp.loading = false) := by
  refine answers_clocked (m := execLpLoadDone ok) rfl hs rfl ?_
  obtain ⟨hready, hbad⟩ := State.loadDone_shows hl hi
  exact ⟨fun h => h ▸ hready, fun h => h ▸ hbad⟩

/-- LP_ARM with TRIGSRC 0: armed for the tick after next, or refused. -/
theorem lpArm_arms (hs : s.alone) (hv : v.toNat % 8 = 2) (ht : v.toNat / 8 % 4 = 0) (ha : s.lp.armed = none) :
    Answers (.lpArm v) s fun t =>
      (s.lpReason false = 0 → t.lp.armed = some (.tick (s.tick + 2)) ∧ t.on Reg.ENG_LP_STATUS.ARMED = true) ∧
      (s.rd Reg.ENG_LP_STATUS.OTHER < 2 → t.lp.armed = none ∧ t.on Reg.ENG_LP_STATUS.ARMED = false ∧
        t.on Reg.ENG_LP_STATUS.REFUSED = true ∧ t.rd Reg.ENG_LP_STATUS.REASON = 1) ∧
      (∀ e, e < 192 → s.on (Reg.ENG_STATUS.OTHER_BAD e) = true → 2 ≤ s.rd Reg.ENG_LP_STATUS.OTHER →
        t.lp.armed = none ∧ t.on Reg.ENG_LP_STATUS.REFUSED = true ∧ t.rd Reg.ENG_LP_STATUS.REASON = 2) := by
  refine answers_core (f := fun s => s.control 0x94000 v fun s => s.writeLpCtrl v) rfl hs.1 ?_
  have hact : s.writeLpCtrl v = (s.lpSettings v).lpArm := by
    rw [State.writeLpCtrl_accepted (ht ▸ Nat.zero_le 2) (by rw [getLsbD_of_mod_eight hv (by decide)]; rfl),
      getLsbD_of_mod_eight hv (by decide), getLsbD_of_mod_eight hv (by decide), getLsbD_of_mod_eight hv (by decide)]
    rfl
  rw [hs.control_act (by rw [hact]; exact State.lpArm_auditList _), hact]
  have hsrc : (s.lpSettings v).rd Reg.ENG_LP_CTRL.TRIGSRC = 0 := by
    rw [State.lpSettings, State.rd_wr_ne _ (by decide), State.rd_wr_same]
    exact congrArg (· % 4) ht
  have htrig : (s.lpSettings v).lpTrigger = .wait (.tick (s.tick + 2)) := by simp only [State.lpTrigger, hsrc]; rfl
  have hwhy := s.lpReason_lpSettings v false
  have hrefused (hr : s.lpReason false ≠ 0) : LpRefused (s.lpSettings v).lpArm (s.lpReason false) :=
    hwhy ▸ State.lpArm_refused ha htrig (hwhy ▸ hr)
  refine ⟨fun hr => State.lpArm_arms ha htrig (hwhy.trans hr), fun ho => ?_, fun e he hbad ho => ?_⟩
  · have hr := State.lpReason_notReady ho false
    have h := hrefused (by rw [hr]; decide)
    exact ⟨h.armed, h.unarmed, h.refused, by rw [h.reason, hr]⟩
  · have hr := State.lpReason_bad he hbad ho false
    have h := hrefused (by rw [hr]; decide)
    exact ⟨h.armed, h.refused, by rw [h.reason, hr]⟩

/-- LP_DISARM cancels the armed switch; the live bank stays. -/
theorem lpDisarm_cancels (hs : s.alone) (hv : v.toNat % 8 = 4) (ht : v.toNat / 8 % 4 ≤ 2)
    (ha : s.lp.armed.isSome = true) : Answers (.lpDisarm v) s fun t =>
      t.lp.armed = none ∧ t.on Reg.ENG_LP_STATUS.ARMED = false ∧
      t.rd Reg.ENG_LP_STATUS.LIVE = s.rd Reg.ENG_LP_STATUS.LIVE := by
  refine answers_core (f := fun s => s.control 0x94000 v fun s => s.writeLpCtrl v) rfl hs.1 ?_
  have hact : s.writeLpCtrl v =
      ((s.lpSettings v).lpUnarm.rampBack (if s.inWindow then s.tick + 1 else s.tick)).showRamps := by
    rw [State.writeLpCtrl_accepted ht (by rw [getLsbD_of_mod_eight hv (by decide)]; rfl),
      getLsbD_of_mod_eight hv (by decide), getLsbD_of_mod_eight hv (by decide), getLsbD_of_mod_eight hv (by decide)]
    exact if_pos ha
  rw [hs.control (by rw [hact]; rfl), hact]
  have hkept := LpKept.rampBack (s.lpSettings v).lpUnarm (if s.inWindow then s.tick + 1 else s.tick)
  obtain ⟨harmed, hshown⟩ := (s.lpSettings v).lpUnarm_shows
  refine ⟨hkept.armed.trans harmed, ?_, ?_⟩
  · rw [State.showRamps, State.on_put_ne _ (by decide), State.on_congr (hkept.fields _ (by decide) (by decide)), hshown]
  · rw [State.showRamps, State.rd_put_ne _ (by decide), hkept.fields _ (by decide) (by decide),
      State.rd_lpUnarm _ (by decide) (by decide), State.rd_lpSettings _ _ (by decide) (by decide)]

/-- LP_RAMP_OUT_START shows the ramp that begins. -/
theorem lpRampOutStart_shows (hs : s.runs) (hw : s.inWindow = true) (hr : s.rampRuns (s.tick + 1) = true) :
    Answers .lpRampOutStart s fun t => t.on Reg.ENG_LP_STATUS.RAMPING = true ∧ t.lp = s.lp := by
  refine answers_atWindow (f := fun s => if s.rampRuns (s.tick + 1) then s.put Reg.ENG_LP_STATUS.RAMPING true else s)
    rfl hs hw ?_
  simp only [hr, if_true]
  exact ⟨State.on_put_same _ _ _ (Nat.le_refl 1), rfl⟩

/-- LP_SWITCH at the armed boundary: the other bank is live, or the switch is refused. -/
theorem lpSwitch_switches (hs : s.runs) (hw : s.inWindow = true) (ha : s.lp.armed = some (.tick (s.tick + 1))) :
    Answers .lpSwitch s fun t =>
      t.lp.armed = none ∧ t.on Reg.ENG_LP_STATUS.ARMED = false ∧
      (s.lpReason false = 0 → s.liveBank ≤ 1 → t.liveBank = 1 - s.liveBank ∧ t.rd Reg.ENG_LP_STATUS.OTHER = 1 ∧
        t.rd Reg.ENG_LP_LAST_LO.TICK = (s.tick + 1) % 2 ^ 32) ∧
      (s.lpReason false ≠ 0 → t.liveBank = s.liveBank ∧ t.on Reg.ENG_LP_STATUS.REFUSED = true ∧
        t.rd Reg.ENG_LP_STATUS.REASON = s.lpReason false % 16) := by
  refine answers_atWindow
    (f := fun s => if s.lp.armed = some (.tick (s.tick + 1)) then s.lpSwitch (s.tick + 1) else s) rfl hs hw ?_
  simp only [ha, if_true]
  by_cases hr : s.lpReason false = 0
  · obtain ⟨u, hexchanged, hstarted⟩ := State.lpSwitch_done (s.tick + 1) hr
    obtain ⟨harmed, hshown⟩ := (s.wr Reg.ENG_LP_STATUS.LIVE s.otherBank).lpUnarm_shows
    have hother : (s.lpSwitch (s.tick + 1)).rd Reg.ENG_LP_STATUS.OTHER = 1 := by
      rw [hstarted.fields _ (by decide) (by decide), State.rd_wr_same]; rfl
    have htick : (s.lpSwitch (s.tick + 1)).rd Reg.ENG_LP_LAST_LO.TICK = (s.tick + 1) % 2 ^ 32 := by
      rw [hstarted.fields _ (by decide) (by decide), State.rd_wr_ne _ (by decide), State.rd_wr_ne _ (by decide),
        State.rd_wr_same]; rfl
    have hkept {q : FieldRef} (hl : 0x94000 * 32 ≤ q.key) (hh : q.key < 0x94014 * 32)
        (hne : q.key ≠ Reg.ENG_LP_STATUS.OTHER.key) : (s.lpSwitch (s.tick + 1)).rd q =
          (s.wr Reg.ENG_LP_STATUS.LIVE s.otherBank).lpUnarm.rd q := by
      rw [hstarted.fields q hl (by omega), State.rd_wr_ne _ hne, ← hexchanged.fields q hl (by omega)]
      have hne' (f : FieldRef) (hf : 0x94014 * 32 ≤ f.key) : q.key ≠ f.key := by omega
      rw [State.rd_wr_ne _ (hne' _ (by decide)), State.rd_wr_ne _ (hne' _ (by decide)), State.rd_showPlan _ _ hh]
    refine ⟨hstarted.armed.trans (hexchanged.armed.trans harmed), ?_, fun _ hbank => ⟨?_, hother, htick⟩,
      fun h => absurd hr h⟩
    · rw [State.on_congr (hkept (by decide) (by decide) (by decide)), hshown]
    · rw [State.liveBank, hkept (by decide) (by decide) (by decide), State.rd_lpUnarm _ (by decide) (by decide),
        State.rd_wr_same]
      exact Nat.mod_eq_of_lt (show 1 - s.liveBank < 2 by omega)
  · obtain ⟨h, hlive⟩ := State.lpSwitch_refused (s.tick + 1) hr
    exact ⟨h.armed, h.unarmed, fun h0 => absurd h0 hr, fun _ => ⟨hlive, h.refused, h.reason⟩⟩

/-- LP_RAMP_IN_END drops the ramps that are over. -/
theorem lpRampInEnd_drops (hs : s.runs) (hw : s.inWindow = true) : Answers .lpRampInEnd s fun t =>
    ∀ p ∈ t.lp.ramps, ∀ r ∈ p.2, s.tick + 1 < r.first + r.len := by
  refine answers_atWindow (f := fun s => (s.pruneRamps (s.tick + 1)).put Reg.ENG_LP_STATUS.RAMPING
    (s.rampRuns (s.tick + 1))) rfl hs hw ?_
  intro p hp r hr
  obtain ⟨hp, -⟩ := List.mem_filter.mp hp
  obtain ⟨q, -, rfl⟩ := List.mem_map.mp hp
  exact of_decide_eq_true (List.mem_filter.mp hr).2

/-- LP_REFRESH_DONE: the other bank is READY, the live bank stays. -/
theorem lpRefreshDone_ready (hs : s.runs) (hr : s.lp.refresh = true) : Answers .lpRefreshDone s fun t =>
    t.lp.refresh = false ∧ t.rd Reg.ENG_LP_STATUS.OTHER = 2 ∧ t.liveBank = s.liveBank := by
  refine answers_clocked (m := execLpRefreshDone) rfl hs rfl ?_
  unfold State.refreshDone
  rw [hr, if_pos rfl]
  have hkept := MemoryOnly.foldl MemoryOnly.zeroKnot (changedKnots s.livePlan (s.planOf s.otherBank)) s
  refine ⟨rfl, State.rd_wr_same _ _ _, ?_⟩
  rw [State.liveBank, State.rd_wr_ne _ (by decide), State.rd, State.onLp_regs, hkept.regs]
  rfl

/-- BYPASS_XFADE_END drops a crossfade whose ticks are used up, and nothing else. -/
theorem bypassXfadeEnd_drops (hs : s.runs) (hw : s.inWindow = true) {kid : Nat} {x : Xfade}
    (hx : sfind kid s.lp.xfade = some x) (hleft : x.left ≤ 1) : Answers (.bypassXfadeEnd kid) s fun t =>
      sfind kid t.lp.xfade = none ∧ t = { s with lp := t.lp } := by
  refine answers_atWindow (f := fun s => match sfind kid s.lp.xfade with
    | some x => if x.left ≤ 1 then s.onLp fun l => { l with xfade := serase kid l.xfade } else s
    | none => s) rfl hs hw ?_
  simp only [hx, hleft, if_true]
  exact ⟨sfind_serase_same _ _, rfl⟩

end Commands

/-- Settles O21, each clause by the law of its command. -/
theorem layPlanLoadsAndSwitches : Obligations.LayPlanLoadsAndSwitches := by
  unfold Obligations.LayPlanLoadsAndSwitches
  intro v plan ok kid s
  exact ⟨fun hs hv ht hl ha hr => lpLoad_starts hs hv ht hl ha hr plan, fun hs hl hi => lpLoadDone_ends hs hl hi ok,
    lpArm_arms, lpDisarm_cancels, lpRampOutStart_shows, lpSwitch_switches, lpRampInEnd_drops, lpRefreshDone_ready,
    fun _ hs hw hx hleft => bypassXfadeEnd_drops hs hw hx hleft⟩

end Sys2Proof.Machine
end

section
/-! SUPPORT. How the Pelond service deals with a message: authentication, the replay table, the STATUS codes that do not
depend on the operation, and the response (17 R391-R394). -/

namespace Sys2Proof.Machine

open Sys2Proof.Claims

variable {s u : State}

/-! ### Authentication (R391, R392) -/

/-- The no-image state accepts only KEYID 0. -/
theorem State.pelKey_noImage {id key : Nat} (h : s.pelKey id = some key) (hn : s.noImageState = true) : id = 0 := by
  by_contra hid
  simp [State.pelKey, hid, hn] at h

/-- What a message that authenticates is. -/
theorem State.pelAuth_some {l : List Byte} {key : Nat} (h : s.pelAuth l = some key) :
    (l.length = 32 + field l 8 2 ∧ field l 8 2 ≤ 1440 ∧ field l 0 2 = 0x4C50 ∧ field l 2 1 = 1) ∧
    s.pelKey (field l 10 1) = some key ∧ pelMac key (l.take (16 + field l 8 2)) = l.drop (16 + field l 8 2) := by
  unfold State.pelAuth at h
  dsimp only at h
  split at h
  · next hform =>
    split at h
    · next k hk =>
      split at h
      · next hmac => cases h; exact ⟨hform, hk, hmac⟩
      · cases h
    · cases h
  · cases h

/-- The form of a message that authenticates: its last 16 bytes are the MAC of what stands before them. -/
theorem State.pelAuth_form {l : List Byte} {key : Nat} (h : s.pelAuth l = some key) :
    field l 0 2 = 0x4C50 ∧ field l 2 1 = 1 ∧ l.length = 32 + field l 8 2 ∧ l.length ≤ 1472 ∧
    l.drop (l.length - 16) = pelMac key (l.take (l.length - 16)) ∧ s.pelKey (field l 10 1) = some key ∧
    (s.noImageState = true → field l 10 1 = 0) := by
  obtain ⟨⟨hlen, hmax, hmagic, hversion⟩, hkey, hmac⟩ := State.pelAuth_some h
  have hcut : l.length - 16 = 16 + field l 8 2 := by omega
  exact ⟨hmagic, hversion, hlen, by omega, hcut ▸ hmac.symm, hkey, State.pelKey_noImage hkey⟩

/-- In PAIRED mode B is the first mirror boundary 7 ticks or more away. -/
theorem State.pelTick_paired (h : s.paired = true) : s.tick + 7 ≤ s.pelTick ∧
    s.pelTick < s.tick + 7 + max 1 (s.rd Reg.TTH_CTRL.MIRROR) ∧ s.pelTick % max 1 (s.rd Reg.TTH_CTRL.MIRROR) = 0 := by
  have hpos : 0 < max 1 (s.rd Reg.TTH_CTRL.MIRROR) := by omega
  simp only [State.pelTick, h, if_true]
  generalize max 1 (s.rd Reg.TTH_CTRL.MIRROR) = m at hpos ⊢
  have hdiv := Nat.div_add_mod (s.tick + 7 + m - 1) m
  have hmod := Nat.mod_lt (s.tick + 7 + m - 1) hpos
  rw [Nat.mul_comm] at hdiv
  exact ⟨by omega, by omega, Nat.mul_mod_left _ _⟩

/-! ### The replay table (R392) -/

/-- A source that is remembered goes to the front of the table; beside sources and floors nothing changes. -/
theorem PelState.remember_front (r : PelState) (x : PelSource) : (r.remember x).sources.head? = some x ∧
    r.remember x = { r with sources := (r.remember x).sources, floors := (r.remember x).floors } := by
  unfold PelState.remember
  dsimp only
  split <;> exact ⟨rfl, rfl⟩

/-- A response is sent and cached, and nothing else of the service changes. -/
theorem State.pelSend_remember (p : PelPeer) (x : PelSource) (msg : List Byte) :
    let t := (s.onPel fun r => r.remember x).pelSend p msg
    t.pel.sent = (p, msg) :: s.pel.sent ∧ t.pel.sources.head? = some x ∧
    t = { s with pel := { s.pel with sent := t.pel.sent, sources := t.pel.sources, floors := t.pel.floors } } := by
  obtain ⟨hfront, hrest⟩ := s.pel.remember_front x
  generalize hr : s.pel.remember x = r at hfront hrest
  have ht : (s.onPel fun r => r.remember x).pelSend p msg = { s with pel := { r with sent := (p, msg) :: r.sent } } := by
    rw [← hr]; rfl
  dsimp only
  rw [ht]
  refine ⟨by rw [hrest], hfront, by rw [hrest]⟩

/-- A message without a response is counted, and CTL_REFUSED arrives. -/
theorem State.pelDrop_dropped (f : FieldRef) : Dropped s (s.pelDrop f) f := by
  have hraised : (s.pelDrop f).flt.arriving = (s.bump f 1).flt.arriving ++ [Src.CTL_REFUSED] :=
    State.raise_arriving _ (by decide)
  have hrd (q : FieldRef) : (s.pelDrop f).rd q = (s.bump f 1).rd q := State.raise_rd _ _ q
  refine ⟨?_, ?_, State.raise_pel _ _, State.raise_mem _ _, fun q hq => ?_⟩
  · rw [Bumped, hrd, State.rd_bump_same]
  · rw [Raised, hraised, List.getLast?_concat]
  · rw [hrd, State.rd_bump_ne _ hq]

/-! ### What answers a message (R393, R394) -/

/-- The no-image state answers STATUS 7 to all but READ, WRITE, QUERY and IMAGE. -/
theorem State.pelRun_noImage {op : Nat} (hn : s.noImageState = true) (hop : op ∉ [1, 2, 7, 8]) (q : PelRequest) (f : PelOp) :
    s.pelRun op q f = ((7, []), s) := by
  simp only [List.mem_cons, List.not_mem_nil, or_false] at hop
  rw [State.pelRun, if_pos ⟨hn, hop⟩]

/-- The operations that a standby refuses. -/
theorem pelControl_iff (op : Nat) : pelControl op = true ↔ op ∈ [2, 3, 4, 5] := by
  simp only [pelControl, decide_eq_true_eq, List.mem_cons, List.not_mem_nil, or_false]
  omega

/-- A standby answers STATUS 4 to a control change. -/
theorem State.pelRun_standby {op : Nat} (hn : s.noImageState = false) (hs : s.isStandby = true) (hop : op ∈ [2, 3, 4, 5])
    (q : PelRequest) (f : PelOp) : s.pelRun op q f = ((4, []), s) := by
  have hctl := (pelControl_iff op).mpr hop
  simp only [State.pelRun, hn, hs, hctl, Bool.false_eq_true, false_and, if_false, and_self, if_true]

/-- The answer to a control change carries B. -/
theorem State.pelRun_logged {op st : Nat} {out : List Byte} {q : PelRequest} {f : PelOp} (hn : s.noImageState = false)
    (hs : s.isStandby = false) (hop : op ∈ [2, 3, 4, 5]) (hf : f q s = ((st, out), u)) :
    s.pelRun op q f = ((st, leBytes 4 (s.pelTick % 2 ^ 32) ++ out), u) := by
  have hctl := (pelControl_iff op).mpr hop
  simp only [State.pelRun, hn, hs, hctl, hf, Bool.false_eq_true, false_and, and_false, if_false, if_true]

/-- Any other operation answers for itself. -/
theorem State.pelRun_plain {op : Nat} (hn : s.noImageState = true → op ∈ [1, 2, 7, 8]) (hop : op ∉ [2, 3, 4, 5])
    (q : PelRequest) (f : PelOp) : s.pelRun op q f = f q s := by
  have hctl : pelControl op ≠ true := fun h => hop ((pelControl_iff op).mp h)
  simp only [List.mem_cons, List.not_mem_nil, or_false] at hn
  rw [State.pelRun, if_neg (fun h => h.2 (hn h.1)), if_neg (fun h => hctl h.1), if_neg hctl]

/-- A message that is answered: the operation's state, a refusal reported where the operation has reported none, and the
response sent and cached. -/
theorem State.pelServe_responded {peer : PelPeer} {key op st : Nat} {l out : List Byte} {f : PelOp}
    (hrun : s.pelRun op ⟨peer, field l 11 1, pelBody l⟩ f = ((st, out), u)) :
    Responded s u (s.pelServe peer key op (field l 4 4) l (pelBody l) f) peer l key op st out := by
  rw [State.pelServe, hrun]
  dsimp only
  generalize hw : (if st ≠ 0 ∧ u.refusals = s.refusals then u.refused else u) = w
  have harr : w.flt.arriving =
      if st ≠ 0 ∧ u.refusals = s.refusals then u.flt.arriving ++ [Src.CTL_REFUSED] else u.flt.arriving := by
    rw [← hw]
    split
    · exact State.raise_arriving u (by decide)
    · rfl
  have hrest : w = { u with flt := { u.flt with arriving := w.flt.arriving } } := by
    rw [← hw]
    split
    · rw [State.refused, State.raise_eq]; rfl
    · rfl
  have hpel : w.pel = u.pel := by rw [hrest]
  obtain ⟨hsent, hfront, heq⟩ := State.pelSend_remember (s := w) peer
    ⟨peer, field l 4 4, pelMessage key op peer.key 1 st ((l.drop 4).take 4) out⟩
    (pelMessage key op peer.key 1 st ((l.drop 4).take 4) out)
  generalize (w.onPel fun r => r.remember _).pelSend peer _ = t at hsent hfront heq ⊢
  refine ⟨hpel ▸ hsent, hfront, ?_, w.flt.arriving, t.pel.sources, t.pel.floors, ?_⟩
  · rw [heq]; exact harr
  · rw [hrest] at heq; exact heq

/-! ### A message received (R391, R392) -/

section Receive

variable {ip : BitVec 32} {port : BitVec 16} {l : List Byte} {mine : Nat → List Byte → Bool} {f : PelOp} {key : Nat}

/-- A node that does not serve ignores every message. -/
theorem State.pelReceive_silent (hv : s.pelServes = false) : s.pelReceive ip port l mine f = s := by
  rw [State.pelReceive, if_pos hv]

variable (hv : s.pelServes = true)
include hv

/-- A message that fails authentication. -/
theorem State.pelReceive_forged (ha : s.pelAuth l = none) :
    s.pelReceive ip port l mine f = s.pelDrop Reg.HOST_PEL_CNT.AUTH := by
  simp only [State.pelReceive, hv, ha, Bool.true_eq_false, if_false]

variable (ha : s.pelAuth l = some key)
include ha

/-- A message of another operation. -/
theorem State.pelReceive_other (hm : mine (field l 3 1) (pelBody l) = false) : s.pelReceive ip port l mine f = s := by
  simp only [State.pelReceive, hv, ha, hm, Bool.true_eq_false, if_false, if_true]

variable (hm : mine (field l 3 1) (pelBody l) = true)
include hm

/-- A message from a known source, by its SEQ. -/
theorem State.pelReceive_known {x : PelSource} (hx : pelKnown s ⟨ip, port, field l 10 1⟩ = some x) :
    s.pelReceive ip port l mine f =
      if x.seq < field l 4 4 then s.pelServe ⟨ip, port, field l 10 1⟩ key (field l 3 1) (field l 4 4) l (pelBody l) f
      else if x.seq = field l 4 4 then (s.onPel fun r => r.remember x).pelSend ⟨ip, port, field l 10 1⟩ x.response
      else s.pelDrop Reg.HOST_PEL_CNT.REPLAY := by
  simp only [State.pelReceive, hv, ha, hm, hx, Bool.true_eq_false, if_false]

/-- A message from a new source, by the floor of its KEYID. -/
theorem State.pelReceive_unknown (hx : pelKnown s ⟨ip, port, field l 10 1⟩ = none) :
    s.pelReceive ip port l mine f = if s.pel.aboveFloor (field l 10 1) (field l 4 4) then
      s.pelServe ⟨ip, port, field l 10 1⟩ key (field l 3 1) (field l 4 4) l (pelBody l) f
      else s.pelDrop Reg.HOST_PEL_CNT.REPLAY := by
  simp only [State.pelReceive, hv, ha, hm, hx, Bool.true_eq_false, if_false]

/-- A fresh message is served. -/
theorem State.pelReceive_fresh (hf : Fresh s ⟨ip, port, field l 10 1⟩ (field l 4 4)) : s.pelReceive ip port l mine f =
    s.pelServe ⟨ip, port, field l 10 1⟩ key (field l 3 1) (field l 4 4) l (pelBody l) f := by
  obtain ⟨hknown, hnew⟩ := hf
  cases hx : pelKnown s ⟨ip, port, field l 10 1⟩ with
  | some x => rw [State.pelReceive_known hv ha hm hx, if_pos (hknown x hx)]
  | none =>
    rw [State.pelReceive_unknown hv ha hm hx, if_pos]
    unfold PelState.aboveFloor
    split
    · next n hn => exact decide_eq_true (hnew hx n hn)
    · rfl

end Receive

/-- A command of the service deals with every message as R391-R394 say. -/
theorem serves_of_receive {i : Instr} {ip : BitVec 32} {port : BitVec 16} {l : List Byte} {mine : Nat → List Byte → Bool}
    {p : Prop} {f : PelOp} (he : exec i s = core (fun s => s.pelReceive ip port l mine f) s) (hs : s.held = false)
    (hm : mine (field l 3 1) (pelBody l) = true ↔ p) : Serves i s ip port l p f := by
  have hans {q : State → Prop} : q (s.pelReceive ip port l mine f) → Answers i s q := answers_core he hs
  have hrun {key st : Nat} {out : List Byte} {u : State} (hv : s.pelServes = true) (ha : s.pelAuth l = some key) (h : p)
      (hf : Fresh s ⟨ip, port, field l 10 1⟩ (field l 4 4))
      (hrun : s.pelRun (field l 3 1) ⟨⟨ip, port, field l 10 1⟩, field l 11 1, pelBody l⟩ f = ((st, out), u)) :
      Answers i s fun t => Responded s u t ⟨ip, port, field l 10 1⟩ l key (field l 3 1) st out :=
    hans (by rw [State.pelReceive_fresh hv ha (hm.mpr h) hf]; exact State.pelServe_responded hrun)
  constructor
  case silent => exact fun hv => hans (State.pelReceive_silent hv)
  case forged => exact fun hv ha => hans (by rw [State.pelReceive_forged hv ha]; exact State.pelDrop_dropped _)
  case other =>
    intro key hv ha h
    exact hans (State.pelReceive_other hv ha (Bool.eq_false_iff.mpr fun hc => h (hm.mp hc)))
  case again =>
    intro key x hv ha h hx hseq
    refine hans ?_
    rw [State.pelReceive_known hv ha (hm.mpr h) hx, if_neg (by omega), if_pos hseq]
    exact ⟨(State.pelSend_remember _ x _).1, rfl, rfl, rfl⟩
  case old =>
    intro key x hv ha h hx hseq
    refine hans ?_
    rw [State.pelReceive_known hv ha (hm.mpr h) hx, if_neg (by omega), if_neg (by omega)]
    exact State.pelDrop_dropped _
  case floor =>
    intro key n hv ha h hx hn hseq
    refine hans ?_
    have hbelow : s.pel.aboveFloor (field l 10 1) (field l 4 4) = false := by
      simp only [PelState.aboveFloor, hn, decide_eq_false_iff_not]; omega
    rw [State.pelReceive_unknown hv ha (hm.mpr h) hx, hbelow, if_neg Bool.false_ne_true]
    exact State.pelDrop_dropped _
  case noImage => exact fun key hv ha h hf hn hop => hrun hv ha h hf (State.pelRun_noImage hn hop _ _)
  case standby => exact fun key hv ha h hf hn hs hop => hrun hv ha h hf (State.pelRun_standby hn hs hop _ _)
  case logged => exact fun key st out u hv ha h hf hn hs hop hq => hrun hv ha h hf (State.pelRun_logged hn hs hop hq)
  case plain => exact fun key st out u hv ha h hf hn hop hq => hrun hv ha h hf ((State.pelRun_plain hn hop _ _).trans hq)

/-- A control change that a node takes is answered with B before the operation's payload. -/
theorem serves_takes_logged {i : Instr} {ip : BitVec 32} {port : BitVec 16} {l : List Byte} {p : Prop} {f : PelOp}
    (h : Serves i s ip port l p f) {key : Nat} (ht : Takes s ⟨ip, port, field l 10 1⟩ l key) (hp : p)
    (hop : field l 3 1 ∈ [2, 3, 4, 5]) : Answers i s fun t =>
      let r := f ⟨⟨ip, port, field l 10 1⟩, field l 11 1, pelBody l⟩ s
      Responded s r.2 t ⟨ip, port, field l 10 1⟩ l key (field l 3 1) r.1.1
        (leBytes 4 (s.pelTick % 2 ^ 32) ++ r.1.2) := by
  obtain ⟨-, hv, ha, hf, hn, hs⟩ := ht
  exact h.logged key _ _ _ hv ha hp hf hn hs hop rfl

/-- Any other message that a node takes is answered with the operation's payload. -/
theorem serves_takes_plain {i : Instr} {ip : BitVec 32} {port : BitVec 16} {l : List Byte} {p : Prop} {f : PelOp}
    (h : Serves i s ip port l p f) {key : Nat} (ht : Takes s ⟨ip, port, field l 10 1⟩ l key) (hp : p)
    (hop : field l 3 1 ∉ [2, 3, 4, 5]) : Answers i s fun t =>
      let r := f ⟨⟨ip, port, field l 10 1⟩, field l 11 1, pelBody l⟩ s
      Responded s r.2 t ⟨ip, port, field l 10 1⟩ l key (field l 3 1) r.1.1 ([] ++ r.1.2) := by
  obtain ⟨-, hv, ha, hf, hn, -⟩ := ht
  exact h.plain key _ _ _ hv ha hp hf (fun hc => absurd hc (by rw [hn]; exact Bool.false_ne_true)) hop rfl

end Sys2Proof.Machine
end

section
/-! SUPPORT. The operations of the Pelond service beside IMAGE: READ, WRITE, PARAM, SPLICE, EVENT, METER and QUERY, and the
events of subscriptions and splice lists (17 R393). -/

namespace Sys2Proof.Machine

open Sys2Proof.Claims

variable {s u : State} {q : PelRequest}

/-! ### Bytes -/

/-- A little-endian number has as many bytes as it is written in. -/
@[simp] theorem length_leBytes (n v : Nat) : (leBytes n v).length = n := by
  rw [leBytes, List.length_reverse, beBytes, List.length_map, List.length_range]

/-- Numbers of 4 bytes one after the other. -/
theorem length_flatMap_leBytes {α : Type} (f : α → Nat) (l : List α) :
    (l.flatMap fun a => leBytes 4 (f a)).length = 4 * l.length := by
  induction l with
  | nil => rfl
  | cons a l ih => rw [List.flatMap_cons, List.length_append, ih, length_leBytes, List.length_cons]; omega

/-! ### READ and QUERY -/

/-- READ of one word. -/
theorem pelRead_one {v : Nat} (hl : q.body.length = 8) (hn : field q.body 4 2 = 1)
    (hr : s.busRead 0 0 (field q.body 0 4) 4 = (some v, u)) : pelRead q s = ((0, leBytes 4 v), u) := by
  have hwords : s.pelWords (field q.body 0 4) 1 = (leBytes 4 v, true, u) := by
    simp only [State.pelWords, hr, List.append_nil]
  simp only [pelRead, hl, hn, hwords]
  rfl

/-- READ of no words or too many. -/
theorem pelRead_count (hn : field q.body 4 2 = 0 ∨ 360 < field q.body 4 2) : pelRead q s = ((1, []), s) := by
  rw [pelRead, if_pos (.inr hn)]

/-- QUERY answers its twelve registers, the first and last named here. -/
theorem pelQuery_answers (hb : q.body = []) : (pelQuery q s).1.1 = 0 ∧ (pelQuery q s).1.2.length = 48 ∧
    (pelQuery q s).2 = s ∧ (pelQuery q s).1.2.take 4 = leBytes 4 (s.regRead 0x104).1 ∧
    (pelQuery q s).1.2.drop 44 = leBytes 4 (s.regRead 0x8000C).1 := by
  have heq : pelQuery q s = ((0, queryRegs.flatMap fun a => leBytes 4 (s.regRead a).1), s) := by
    rw [pelQuery, hb, if_neg (by simp)]
  have hfirst : queryRegs = 0x104 :: queryRegs.tail := rfl
  have hlast : queryRegs = queryRegs.dropLast ++ [0x8000C] := rfl
  rw [heq]
  refine ⟨rfl, length_flatMap_leBytes _ _, rfl, ?_, ?_⟩
  · rw [hfirst, List.flatMap_cons]
    exact List.take_left' (length_leBytes _ _)
  · rw [hlast, List.flatMap_append, List.flatMap_singleton]
    exact List.drop_left' (length_flatMap_leBytes _ _)

/-! ### WRITE -/

/-- WRITE of one word: accepted, or stopped at index 0. -/
theorem pelWrite_one (hl : q.body.length = 12) (hn : field q.body 4 2 = 1)
    (hw : s.busWrite 0 0 (field q.body 0 4) 4 (field q.body 8 4) = (true, u)) :
    (u.refusals = s.refusals → pelWrite q s = ((0, []), u)) ∧
    (u.refusals ≠ s.refusals → pelWrite q s = ((2, [0, 0]), u)) := by
  have hput : s.pelPut (field q.body 0 4) (field q.body 8 4) = (decide (u.refusals = s.refusals), u) := by
    simp only [State.pelPut, hw, Bool.true_and]
  have hwords : ((List.range 1).map fun i => field q.body (8 + 4 * i) 4) = [field q.body 8 4] := rfl
  refine ⟨fun hr => ?_, fun hr => ?_⟩
  · simp only [pelWrite, hl, hn, hwords, State.pelPuts, Nat.mul_zero, Nat.add_zero, hput, hr]
    rfl
  · simp only [pelWrite, hl, hn, hwords, State.pelPuts, Nat.mul_zero, Nat.add_zero, hput, hr]
    rfl

/-! ### PARAM (05 R105, R107, R108) -/

/-- The words of a PARAM message. -/
def paramWords (l : List Byte) : List Word :=
  (List.range (field l 35 1)).map fun i => BitVec.ofNat 32 (field l (38 + 4 * i) 4)

/-- PARAM of a parameter that the live plan knows: RANGE, BUSY, or the writes. -/
theorem pelParam_known {k : Knot} {r : ParamRec} (hk : s.livePlan.atPath q.body = some k)
    (hr : k.params.find? (fun r => decide (r.number = field q.body 34 1)) = some r)
    (hl : q.body.length = 38 + 4 * field q.body 35 1) : pelParam q s =
      if field q.body 35 1 = 0 ∨ field q.body 35 1 ≠ r.words ∨ ((paramWords q.body).all r.admits) = false then ((1, []), s)
      else if s.on Reg.ENG_PCM_GO.GO then ((3, []), s)
      else match s.pelAll (paramWrites r (paramWords q.body)) with
        | (true, s) => ((0, []), s)
        | (false, s) => ((2, []), s) := by
  rw [pelParam, if_neg (not_not.mpr hl), hk, Option.bind_some, hr]
  rfl

/-- PARAM: RANGE for wrong words, BUSY while a group commit waits, else the writes decide. -/
theorem pelParam_answers {k : Knot} {r : ParamRec} (hk : s.livePlan.atPath q.body = some k)
    (hr : k.params.find? (fun r => decide (r.number = field q.body 34 1)) = some r)
    (hl : q.body.length = 38 + 4 * field q.body 35 1) (hn : 0 < field q.body 35 1) :
    (field q.body 35 1 ≠ r.words ∨ (∃ x ∈ paramWords q.body, r.admits x = false) → pelParam q s = ((1, []), s)) ∧
    (field q.body 35 1 = r.words → (∀ x ∈ paramWords q.body, r.admits x = true) → s.on Reg.ENG_PCM_GO.GO = true →
      pelParam q s = ((3, []), s)) ∧
    (∀ u, field q.body 35 1 = r.words → (∀ x ∈ paramWords q.body, r.admits x = true) → s.on Reg.ENG_PCM_GO.GO = false →
      s.pelAll (paramWrites r (paramWords q.body)) = (true, u) → pelParam q s = ((0, []), u)) := by
  have hout : ((paramWords q.body).all r.admits) = false ↔ ∃ x ∈ paramWords q.body, r.admits x = false := by
    rw [List.all_eq_false]; simp only [Bool.not_eq_true]
  have hin (hw : field q.body 35 1 = r.words) (ha : ∀ x ∈ paramWords q.body, r.admits x = true) :
      ¬ (field q.body 35 1 = 0 ∨ field q.body 35 1 ≠ r.words ∨ ((paramWords q.body).all r.admits) = false) := by
    rintro (h | h | h)
    · omega
    · exact h hw
    · rw [List.all_eq_true.mpr ha] at h; cases h
  rw [pelParam_known hk hr hl]
  refine ⟨fun h => if_pos (.inr (h.imp_right hout.mpr)), fun hw ha hgo => ?_, fun u hw ha hgo hall => ?_⟩
  · rw [if_neg (hin hw ha), if_pos hgo]
  · rw [if_neg (hin hw ha), if_neg (by rw [hgo]; exact Bool.false_ne_true), hall]

/-! ### SPLICE -/

/-- The open list belongs to another source. -/
theorem pelSplice_busy {p : PelPeer} (h0 : 0 < field q.body 20 2) (hn : field q.body 20 2 ≤ 177)
    (hl : q.body.length = 24 + 8 * field q.body 20 2) (hp : s.pel.splice = some p) (hne : p ≠ q.peer) :
    pelSplice q s = ((3, []), s) := by
  have hform : ¬ (field q.body 20 2 = 0 ∨ 177 < field q.body 20 2 ∨ q.body.length ≠ 24 + 8 * field q.body 20 2) := by
    omega
  rw [pelSplice, if_neg hform, if_pos ⟨by rw [hp]; rfl, by rw [hp]; exact fun h => hne (Option.some.inj h)⟩]

/-- SPLICE of no entries or too many. -/
theorem pelSplice_count (hn : field q.body 20 2 = 0 ∨ 177 < field q.body 20 2) : pelSplice q s = ((1, []), s) := by
  rw [pelSplice, if_pos (hn.imp_right .inl)]

/-! ### EVENT -/

/-- An EVENT that stands for no writes is RANGE. -/
theorem pelEvent_range (h : s.eventOf q.body = none) : pelEvent q s = ((1, []), s) := by
  rw [pelEvent, h]

/-- START_IN is no trigger of a lay-plan switch or of a start group. -/
theorem eventOf_startIn {l : List Byte} (hsrc : field l 2 1 = 1) (hop : field l 0 1 = 1 ∨ field l 0 1 = 2) :
    s.eventOf l = none := by
  unfold State.eventOf
  refine ite_eq_left_iff.mpr fun _ => ?_
  obtain hop | hop := hop
  · simp only [hop, hsrc, if_true]
  · simp only [hop, hsrc, or_true, if_true]

/-- LOAD takes no trigger: the bytes after its operation are 0. -/
theorem eventOf_load {l : List Byte} (hop : field l 0 1 = 3) (hb : ∃ b ∈ l.drop 2, b ≠ 0) : s.eventOf l = none := by
  have hany : ((l.drop 2).any fun b => decide (b ≠ 0)) = true := by
    simpa only [List.any_eq_true, decide_eq_true_eq] using hb
  unfold State.eventOf
  refine ite_eq_left_iff.mpr fun _ => ?_
  simp only [hop, hany, if_true]

/-! ### METER -/

/-- The paths of a METER message. -/
def meterPaths (l : List Byte) : List (List Byte) :=
  (List.range (field l 0 2)).map fun i => (l.drop (6 + 34 * i)).take 34

/-- The subscriptions of the other sources. -/
def otherMeters (s : State) (p : PelPeer) : List PelMeter :=
  s.pel.meters.filter fun m => decide (m.peer ≠ p)

/-- METER of meter knots: RANGE for its times, BUSY at the seventeenth, or the source's subscription is replaced. -/
theorem pelMeter_knots (h0 : 0 < field q.body 0 2) (hn : field q.body 0 2 ≤ 32)
    (hl : q.body.length = 6 + 34 * field q.body 0 2)
    (hp : ∀ p ∈ meterPaths q.body, ∃ k, s.livePlan.atPath p = some k ∧ k.lib = 9) : pelMeter q s =
      if field q.body 2 2 < 48 ∨ field q.body 4 2 = 0 ∨ 3600 < field q.body 4 2 then ((1, []), s)
      else if 16 ≤ (otherMeters s q.peer).length then ((3, []), s)
      else ((0, []), { s with pel := { s.pel with meters := otherMeters s q.peer ++
        [⟨q.peer, field q.body 2 2, field q.body 4 2, meterPaths q.body, s.tick + field q.body 2 2, 0⟩] } }) := by
  have hknots : ((meterPaths q.body).all fun p => decide (((s.livePlan.atPath p).map Knot.lib) = some 9)) = true :=
    List.all_eq_true.mpr fun p hm => by
      obtain ⟨k, hk, hlib⟩ := hp p hm
      rw [hk, Option.map_some, hlib]; rfl
  have hform : (field q.body 0 2 = 0 ∨ 32 < field q.body 0 2 ∨ q.body.length ≠ 6 + 34 * field q.body 0 2 ∨
      field q.body 2 2 < 48 ∨ field q.body 4 2 = 0 ∨ 3600 < field q.body 4 2 ∨
      ((meterPaths q.body).all fun p => decide (((s.livePlan.atPath p).map Knot.lib) = some 9)) = false) ↔
      (field q.body 2 2 < 48 ∨ field q.body 4 2 = 0 ∨ 3600 < field q.body 4 2) := by
    rw [hknots]
    simp only [Bool.true_eq_false, or_false]
    omega
  exact if_congr hform rfl rfl

/-- METER by its times and by the number of subscriptions. -/
theorem pelMeter_answers (h0 : 0 < field q.body 0 2) (hn : field q.body 0 2 ≤ 32)
    (hl : q.body.length = 6 + 34 * field q.body 0 2)
    (hp : ∀ p ∈ meterPaths q.body, ∃ k, s.livePlan.atPath p = some k ∧ k.lib = 9) :
    (48 ≤ field q.body 2 2 → 0 < field q.body 4 2 → field q.body 4 2 ≤ 3600 → (otherMeters s q.peer).length < 16 →
      pelMeter q s = ((0, []), { s with pel := { s.pel with meters := otherMeters s q.peer ++
        [⟨q.peer, field q.body 2 2, field q.body 4 2, meterPaths q.body, s.tick + field q.body 2 2, 0⟩] } })) ∧
    (48 ≤ field q.body 2 2 → 0 < field q.body 4 2 → field q.body 4 2 ≤ 3600 → 16 ≤ (otherMeters s q.peer).length →
      pelMeter q s = ((3, []), s)) ∧
    (field q.body 2 2 < 48 ∨ field q.body 4 2 = 0 ∨ 3600 < field q.body 4 2 → pelMeter q s = ((1, []), s)) := by
  rw [pelMeter_knots h0 hn hl hp]
  refine ⟨fun he hl0 hl1 ho => ?_, fun he hl0 hl1 ho => ?_, fun h => if_pos h⟩
  · rw [if_neg (by omega), if_neg (by omega)]
  · rw [if_neg (by omega), if_pos ho]

/-- The words of a report, each a free value. -/
theorem meterWords_free (n : Nat) : ∀ s : State,
    (meterWords n s).1.length = 4 * n ∧ (meterWords n s).2 = { s with free := (meterWords n s).2.free } := by
  induction n with
  | zero => exact fun _ => ⟨rfl, rfl⟩
  | succ n ih =>
    intro s
    obtain ⟨hlen, hfree⟩ := ih { s with free := s.free + 1 }
    refine ⟨?_, hfree⟩
    show (leBytes 4 _ ++ (meterWords n _).1).length = _
    rw [List.length_append, length_leBytes, hlen]
    omega

/-! ### The events -/

section Events

variable {m : Fin 16} {x : PelMeter}

/-- METER_REPORT before the subscription's tick does nothing. -/
theorem meterReport_early (hs : s.runs) (hm : s.pel.meters[m.val]? = some x) (ht : s.tick < x.next) :
    Answers (.meterReport m) s fun t => t = s := by
  refine answers_clocked (m := execMeterReport m) rfl hs rfl ?_
  simp only [State.meterReport, hm, ht, if_true]

/-- METER_REPORT at the subscription's tick sends OP 0x86, and the subscription waits for its next tick. -/
theorem meterReport_sends (hs : s.runs) {key : Nat} (hm : s.pel.meters[m.val]? = some x) (ht : x.next ≤ s.tick)
    (hk : s.pelKey x.peer.key = some key) : Answers (.meterReport m) s fun t =>
      t.pel.meters[m.val]? = some { x with next := x.next + x.interval, seq := (x.seq + 1) % 2 ^ 32 } ∧ t.mem = s.mem ∧
      t.regs = s.regs ∧ ∃ w, w.length = 8 * x.paths.length ∧
        t.pel.sent = (x.peer, pelMessage key 0x86 x.peer.key 1 0 (leBytes 4 x.seq) w) :: s.pel.sent := by
  refine answers_clocked (m := execMeterReport m) rfl hs rfl ?_
  obtain ⟨hlen, hfree⟩ := meterWords_free (2 * x.paths.length) s
  simp only [State.meterReport, hm, Nat.not_lt.mpr ht, if_false, hk]
  generalize meterWords (2 * x.paths.length) s = r at hlen hfree ⊢
  obtain ⟨w, t⟩ := r
  dsimp only at hlen hfree ⊢
  rw [hfree]
  refine ⟨?_, rfl, rfl, w, by omega, rfl⟩
  show (s.pel.meters.map _)[m.val]? = _
  rw [List.getElem?_map, hm, Option.map_some, if_pos rfl]

/-- METER_EXPIRY ends one subscription. -/
theorem meterExpiry_ends (hs : s.held = false) : Answers (.meterExpiry m) s fun t =>
    t = { s with pel := { s.pel with meters := s.pel.meters.eraseIdx m.val } } := by
  refine answers_core (f := fun s => s.onPel fun r => { r with
    meters := r.meters.take m.val ++ r.meters.drop (m.val + 1) }) rfl hs ?_
  rw [List.eraseIdx_eq_take_drop_succ]
  rfl

/-- SPLICE_LIST_TIMEOUT without an open list does nothing. -/
theorem spliceListTimeout_idle (hs : s.held = false) (hp : s.pel.splice = none) :
    Answers .spliceListTimeout s fun t => t = s := by
  refine answers_core (f := fun s => if s.pel.splice.isSome then
    (State.busWrite (s.onPel fun r => { r with splice := none }) 0 0 0x400A0074 4 2).2 else s) rfl hs ?_
  rw [hp]
  rfl

/-- SPLICE_LIST_TIMEOUT discards the open list. -/
theorem spliceListTimeout_discards {p : PelPeer} (hs : s.held = false) (hp : s.pel.splice = some p) :
    Answers .spliceListTimeout s fun t =>
      t = (State.busWrite { s with pel := { s.pel with splice := none } } 0 0 0x400A0074 4 2).2 := by
  refine answers_core (f := fun s => if s.pel.splice.isSome then
    (State.busWrite (s.onPel fun r => { r with splice := none }) 0 0 0x400A0074 4 2).2 else s) rfl hs ?_
  exact if_pos (by rw [hp]; rfl)

end Events

end Sys2Proof.Machine
end

section
/-! SUPPORT. Image updates: the progress shown, bytes programmed into flash, and the sub-operations of IMAGE
(17 R389, R395). -/

namespace Sys2Proof.Machine

open Sys2Proof.Claims

variable {s : State} {q : PelRequest}

/-! ### The progress shown (R389) -/

/-- Two states that differ in registers and in the operations that run alone. -/
def ProgressOnly (s t : State) : Prop := t = { s with regs := t.regs, ctl := t.ctl }

namespace ProgressOnly

variable {t : State}

theorem pel (h : ProgressOnly s t) : t.pel = s.pel := (congrArg State.pel h :)
theorem boot (h : ProgressOnly s t) : t.boot = s.boot := (congrArg State.boot h :)
theorem mem (h : ProgressOnly s t) : t.mem = s.mem := (congrArg State.mem h :)

theorem opMove (s : State) (op pct pos : Nat) : ProgressOnly s (s.opMove op pct pos) := by
  unfold State.opMove
  dsimp only
  split <;> rfl

theorem opEnd (s : State) (op : Nat) : ProgressOnly s (s.opEnd op) := by
  unfold State.opEnd
  dsimp only
  split
  · split <;> rfl
  · rfl

end ProgressOnly

/-- An operation that starts is the one shown. -/
theorem State.opStart_shown (op : Nat) : (s.opStart op).rd Reg.CHIP_PROGRESS.OP = op % 16 := by
  rw [State.opStart, State.opShow, State.rd_wr_ne _ (by decide), State.rd_wr_ne _ (by decide), State.rd_wr_same]
  rfl

/-- An update that is over leaves the flash; no update stands. -/
theorem State.updateOver_keeps (s : State) : s.updateOver.pel.update = none ∧ s.updateOver.boot = s.boot := by
  have h := ProgressOnly.opEnd (s.onPel fun r => { r with update := none }) 4
  exact ⟨congrArg PelState.update h.pel, h.boot⟩

/-! ### The flash -/

/-- Bytes programmed from an address on; the others stay. -/
theorem BootState.program_flash (l : List Byte) : ∀ (b : BootState) (a c : Nat), sget 0xFF c (b.program a l).flash =
    if a ≤ c ∧ c < a + l.length then l.getD (c - a) 0 else sget 0xFF c b.flash := by
  induction l with
  | nil =>
    intro b a c
    rw [BootState.program, if_neg (by simp only [List.length_nil]; omega)]
  | cons x l ih =>
    intro b a c
    rw [BootState.program, ih]
    by_cases hlater : a + 1 ≤ c ∧ c < a + 1 + l.length
    · have hc : c - a = c - (a + 1) + 1 := by omega
      rw [if_pos hlater, if_pos (by simp only [List.length_cons]; omega), hc, List.getD_cons_succ]
    · rw [if_neg hlater]
      by_cases hhere : c = a
      · subst hhere
        rw [if_pos (by simp only [List.length_cons]; omega), Nat.sub_self, List.getD_cons_zero, sget_sset_same]
      · rw [if_neg (by simp only [List.length_cons]; omega), sget_sset_ne hhere]

/-- A map whose keys were sifted has an entry where the key passes. -/
theorem sfind_filter_key {V : Type} (f : Nat → Bool) (k : Nat) (m : SMap V) :
    sfind k (m.filter fun p => f p.1) = if f k then sfind k m else none := by
  induction m with
  | nil => simp [sfind]
  | cons p r ih =>
    obtain ⟨j, w⟩ := p
    by_cases hj : j = k
    · subst hj
      cases hf : f j <;> simp [sfind, hf, ih]
    · cases hf : f j <;> simp [sfind, hf, hj, ih]

/-- An erased range reads 0xFF; the rest of the flash stays. -/
theorem sget_erased (lo hi a : Nat) (m : SMap Byte) :
    sget 0xFF a (m.filter fun p : Nat × Byte => decide (p.1 < lo ∨ hi ≤ p.1)) =
      if lo ≤ a ∧ a < hi then 0xFF else sget 0xFF a m := by
  rw [sget, sfind_filter_key (fun k => decide (k < lo ∨ hi ≤ k))]
  by_cases h : lo ≤ a ∧ a < hi
  · rw [if_pos h, if_neg (by simp only [decide_eq_true_eq]; omega)]
    rfl
  · rw [if_neg h, if_pos (by simp only [decide_eq_true_eq]; omega)]
    rfl

/-! ### IMAGE BEGIN -/

/-- BEGIN of the slot that runs the node is RANGE. -/
theorem pelBegin_running (hn : s.noImageState = false) (hr : s.boot.source = field q.body 1 1) :
    pelBegin q s = ((1, []), s) := by
  have hruns : s.slotRuns (field q.body 1 1) = true := by simp [State.slotRuns, hn, hr]
  rw [pelBegin, if_pos (by simp only [hruns, or_true])]

/-- BEGIN of the other slot starts its erase under OP 4. -/
theorem pelBegin_starts (hl : q.body.length = 6) (hslot : field q.body 1 1 ≤ 1) (hmin : 256 ≤ field q.body 2 4)
    (hmax : field q.body 2 4 ≤ s.boot.flashSize / 2) (hr : s.boot.source ≠ field q.body 1 1)
    (he : (s.pel.update.map PelUpdate.erasing) ≠ some true) : (pelBegin q s).1 = (0, []) ∧
      (pelBegin q s).2.pel.update = some { slot := field q.body 1 1, len := field q.body 2 4 } ∧
      (pelBegin q s).2.rd Reg.CHIP_PROGRESS.OP = 4 ∧ (pelBegin q s).2.boot = s.boot := by
  have hruns : s.slotRuns (field q.body 1 1) = false := by simp [State.slotRuns, hr]
  have hform : ¬ (q.body.length ≠ 6 ∨ 1 < field q.body 1 1 ∨ field q.body 2 4 < 256 ∨
      s.boot.flashSize / 2 < field q.body 2 4 ∨ s.slotRuns (field q.body 1 1) = true) := by
    rw [hruns]
    simp only [Bool.false_eq_true, or_false]
    omega
  rw [pelBegin, if_neg hform, if_neg he]
  exact ⟨rfl, rfl, State.opStart_shown 4, rfl⟩

/-! ### IMAGE DATA, END and ABORT -/

/-- DATA and END while the slot is being erased are BUSY. -/
theorem pelData_pelEnd_erasing {u : PelUpdate} (hu : s.pel.update = some u) (he : u.erasing = true) :
    pelData q s = ((3, []), s) ∧ pelEnd q s = ((3, []), s) := by
  simp only [pelData, pelEnd, hu, he, if_true, and_self]

/-- DATA and END without an update are refused. -/
theorem pelData_pelEnd_none (hu : s.pel.update = none) : pelData q s = ((2, []), s) ∧ pelEnd q s = ((2, []), s) := by
  simp only [pelData, pelEnd, hu, and_self]

/-- Bytes of DATA in order: up to 4 KB are held, the rest is written to the slot (R395). -/
def State.heldAndWritten (s : State) (u : PelUpdate) (l : List Byte) : State :=
  let rest := l.drop (4096 - u.head.length)
  (s.onBoot fun b => b.program (s.slotBase u.slot + u.next + (l.length - rest.length)) rest).onPel fun r => { r with
    update := some { u with next := u.next + l.length, head := u.head ++ l.take (4096 - u.head.length) } }

/-- Of bytes in order, those from 4 KB on are in the slot. -/
theorem State.heldAndWritten_flash {u : PelUpdate} (l : List Byte) (hhead : u.head.length = min u.next 4096) (a : Nat) :
    sget 0xFF a (s.heldAndWritten u l).boot.flash =
      if s.slotBase u.slot + u.next ≤ a ∧ a < s.slotBase u.slot + u.next + l.length ∧ s.slotBase u.slot + 4096 ≤ a then
        l.getD (a - (s.slotBase u.slot + u.next)) 0
      else sget 0xFF a s.boot.flash := by
  have hprogram := BootState.program_flash (l.drop (4096 - u.head.length)) s.boot
    (s.slotBase u.slot + u.next + (l.length - (l.drop (4096 - u.head.length)).length)) a
  refine Eq.trans hprogram ?_
  generalize s.slotBase u.slot = b
  rw [List.length_drop, List.getD_eq_getElem?_getD, List.getElem?_drop, ← List.getD_eq_getElem?_getD]
  by_cases hin : b + u.next ≤ a ∧ a < b + u.next + l.length ∧ b + 4096 ≤ a
  · have hplace : 4096 - u.head.length + (a - (b + u.next + (l.length - (l.length - (4096 - u.head.length))))) =
        a - (b + u.next) := by omega
    rw [if_pos hin, if_pos (by omega), hplace]
  · rw [if_neg hin, if_neg (by omega)]

section Update

variable {u : PelUpdate} (hu : s.pel.update = some u) (he : u.erasing = false)
include hu he

/-- DATA at another offset than the next is RANGE. -/
theorem pelData_offset (ho : field q.body 1 4 ≠ u.next) : pelData q s = ((1, []), s) := by
  simp only [pelData, hu, he, Bool.false_eq_true, if_false]
  exact if_pos (.inr (.inl ho))

/-- DATA in order: the first 4 KB are held, the rest goes to the slot. -/
theorem pelData_stores (hb : q.body.drop 5 ≠ []) (ho : field q.body 1 4 = u.next)
    (hfit : u.next + (q.body.drop 5).length ≤ u.len) (hhead : u.head.length = min u.next 4096) :
    (pelData q s).1 = (0, []) ∧ (pelData q s).2.pel.update = some { u with
      next := u.next + (q.body.drop 5).length, head := u.head ++ (q.body.drop 5).take (4096 - u.head.length) } ∧
    ∀ a, sget 0xFF a (pelData q s).2.boot.flash =
      let o := s.slotBase u.slot + u.next
      if o ≤ a ∧ a < o + (q.body.drop 5).length ∧ s.slotBase u.slot + 4096 ≤ a then (q.body.drop 5).getD (a - o) 0
      else sget 0xFF a s.boot.flash := by
  have hdata : ∃ pct pos, pelData q s = ((0, []), State.opMove (s.heldAndWritten u (q.body.drop 5)) 4 pct pos) := by
    rw [pelData, hu]
    dsimp only
    rw [if_neg (he ▸ Bool.false_ne_true), ho, if_neg (by simp only [hb, false_or, ne_eq, not_true_eq_false]; omega)]
    exact ⟨_, _, rfl⟩
  obtain ⟨pct, pos, hdata⟩ := hdata
  have hshown := ProgressOnly.opMove (s.heldAndWritten u (q.body.drop 5)) 4 pct pos
  rw [hdata]
  refine ⟨rfl, congrArg PelState.update hshown.pel, fun a => ?_⟩
  rw [congrArg BootState.flash hshown.boot]
  exact State.heldAndWritten_flash _ hhead a

/-- END of a complete update: the checks decide, and only then is the head written. -/
theorem pelEnd_checks (hl : q.body.length = 1) (hc : u.next = u.len) :
    let img := u.head ++ s.flashBytes (s.slotBase u.slot + u.head.length) (u.len - u.head.length)
    let why := imageReason img s.boot.otp (s.rd Reg.CHIP_REV.REV) false
    (why ≠ 0 → (pelEnd q s).1 = (2, []) ∧ (pelEnd q s).2.boot = s.boot ∧ (pelEnd q s).2.pel.update = none) ∧
    (why = 0 → (pelEnd q s).1 = (0, []) ∧ (pelEnd q s).2.pel.update = none ∧ ∀ a, sget 0xFF a (pelEnd q s).2.boot.flash =
      if s.slotBase u.slot ≤ a ∧ a < s.slotBase u.slot + u.head.length then u.head.getD (a - s.slotBase u.slot) 0
      else sget 0xFF a s.boot.flash) := by
  dsimp only
  have hend : pelEnd q s =
      if imageReason (u.head ++ s.flashBytes (s.slotBase u.slot + u.head.length) (u.len - u.head.length)) s.boot.otp
        (s.rd Reg.CHIP_REV.REV) false ≠ 0 then ((2, []), s.updateOver)
      else ((0, []), (s.onBoot fun b => b.program (s.slotBase u.slot) u.head).updateOver) := by
    simp only [pelEnd, hu, he, Bool.false_eq_true, if_false]
    exact if_neg (by omega)
  rw [hend]
  generalize imageReason _ _ _ _ = why
  refine ⟨fun hw => ?_, fun hw => ?_⟩
  · rw [if_pos hw]
    obtain ⟨hnone, hboot⟩ := s.updateOver_keeps
    exact ⟨rfl, hboot, hnone⟩
  · rw [if_neg (not_not.mpr hw)]
    obtain ⟨hnone, hboot⟩ := (s.onBoot fun b => b.program (s.slotBase u.slot) u.head).updateOver_keeps
    refine ⟨rfl, hnone, fun a => ?_⟩
    rw [congrArg BootState.flash hboot]
    exact BootState.program_flash u.head s.boot (s.slotBase u.slot) a

end Update

/-- ABORT ends the update and leaves the flash. -/
theorem pelAbort_ends {u : PelUpdate} (hu : s.pel.update = some u) (hl : q.body.length = 1) :
    (pelAbort q s).1 = (0, []) ∧ (pelAbort q s).2.pel.update = none ∧ (pelAbort q s).2.boot = s.boot := by
  rw [pelAbort, if_neg (not_not.mpr hl), hu, if_neg (by simp)]
  exact ⟨rfl, s.updateOver_keeps⟩

/-! ### SLOT_ERASE_DONE -/

/-- The erase of a slot ends: its bytes read 0xFF. -/
theorem slotEraseDone_erases {u : PelUpdate} (hs : s.held = false) (hu : s.pel.update = some u) (he : u.erasing = true) :
    Answers .slotEraseDone s fun t => t.pel.update = some { u with erasing := false } ∧ t.mem = s.mem ∧
      ∀ a, sget 0xFF a t.boot.flash =
        if s.slotBase u.slot ≤ a ∧ a < s.slotBase u.slot + s.boot.flashSize / 2 then 0xFF else sget 0xFF a s.boot.flash := by
  refine answers_core (f := State.slotErased) rfl hs ?_
  simp only [State.slotErased, hu, he, if_true]
  refine ⟨congrArg PelState.update (ProgressOnly.opMove _ 4 _ _).pel, (ProgressOnly.opMove _ 4 _ _).mem, fun a => ?_⟩
  rw [congrArg BootState.flash (ProgressOnly.opMove _ 4 _ _).boot]
  exact sget_erased _ _ a s.boot.flash

/-- Without an erase that runs there is nothing to end. -/
theorem slotEraseDone_idle (hs : s.held = false) (he : (s.pel.update.map PelUpdate.erasing) ≠ some true) :
    Answers .slotEraseDone s fun t => t = s := by
  refine answers_core (f := State.slotErased) rfl hs ?_
  unfold State.slotErased
  split
  · next u hu =>
    refine if_neg fun h => he ?_
    rw [hu, Option.map_some, h]
  · rfl

end Sys2Proof.Machine
end

section
/-! SUPPORT. The twelve commands that receive a message of the Pelond service (17 R391-R394), and the statement settled. -/

namespace Sys2Proof.Machine

open Sys2Proof.Claims

variable {s : State} {ip : BitVec 32} {port : BitVec 16} {l : List Byte}

/-- The message is of no operation, or an IMAGE message of no sub-operation (R394). -/
abbrev unknownOp (l : List Byte) : Prop :=
  field l 3 1 = 0 ∨ 8 < field l 3 1 ∨ (field l 3 1 = 8 ∧ (pelBody l = [] ∨ 3 < field (pelBody l) 0 1))

/-- What such a message is answered. -/
abbrev answerUnknown (l : List Byte) : PelOp := fun _ s => ((if field l 3 1 = 8 then 1 else 5, []), s)

/-- A message of an IMAGE sub-operation. -/
theorem pelSub_iff (k : Nat) : pelSub k (field l 3 1) (pelBody l) = true ↔ imageSub l k := by
  simp only [pelSub, Bool.and_eq_true, decide_eq_true_eq, and_assoc]

/-- PELOND_UNKNOWN_OP receives the messages that no other command does. -/
theorem pelondUnknownOp_serves (hs : s.held = false) :
    Serves (.pelondUnknownOp ip port l) s ip port l (unknownOp l) (answerUnknown l) := by
  have hexec : exec (.pelondUnknownOp ip port l) s = core (fun s => s.pelReceive ip port l
      (fun op body => decide (op = 0 ∨ 8 < op) || (decide (op = 8) && decide (body = [] ∨ 3 < field body 0 1)))
      (answerUnknown l)) s := by
    have hanswer : (fun _ s => ((if decide (field l 3 1 = 8) = true then 1 else 5, []), s) : PelOp) = answerUnknown l := by
      simp only [decide_eq_true_eq]
    rw [← hanswer]
    rfl
  refine serves_of_receive hexec hs ?_
  simp only [Bool.or_eq_true, Bool.and_eq_true, decide_eq_true_eq, or_assoc]

/-- Every command of the service deals with its messages as R391-R394 say. -/
theorem pelond_serves (hs : s.held = false) :
    Serves (.pelondRead ip port l) s ip port l (field l 3 1 = 1) pelRead ∧
    Serves (.pelondWrite ip port l) s ip port l (field l 3 1 = 2) pelWrite ∧
    Serves (.pelondParam ip port l) s ip port l (field l 3 1 = 3) pelParam ∧
    Serves (.pelondSplice ip port l) s ip port l (field l 3 1 = 4) pelSplice ∧
    Serves (.pelondEvent ip port l) s ip port l (field l 3 1 = 5) pelEvent ∧
    Serves (.pelondMeter ip port l) s ip port l (field l 3 1 = 6) pelMeter ∧
    Serves (.pelondQuery ip port l) s ip port l (field l 3 1 = 7) pelQuery ∧
    Serves (.pelondImageBegin ip port l) s ip port l (imageSub l 0) pelBegin ∧
    Serves (.pelondImageData ip port l) s ip port l (imageSub l 1) pelData ∧
    Serves (.pelondImageEnd ip port l) s ip port l (imageSub l 2) pelEnd ∧
    Serves (.pelondImageAbort ip port l) s ip port l (imageSub l 3) pelAbort ∧
    Serves (.pelondUnknownOp ip port l) s ip port l (unknownOp l) (answerUnknown l) := by
  have hop (k : Nat) : decide (field l 3 1 = k) = true ↔ field l 3 1 = k := decide_eq_true_iff
  exact ⟨serves_of_receive (mine := fun op _ => decide (op = 1)) rfl hs (hop 1),
    serves_of_receive (mine := fun op _ => decide (op = 2)) rfl hs (hop 2),
    serves_of_receive (mine := fun op _ => decide (op = 3)) rfl hs (hop 3),
    serves_of_receive (mine := fun op _ => decide (op = 4)) rfl hs (hop 4),
    serves_of_receive (mine := fun op _ => decide (op = 5)) rfl hs (hop 5),
    serves_of_receive (mine := fun op _ => decide (op = 6)) rfl hs (hop 6),
    serves_of_receive (mine := fun op _ => decide (op = 7)) rfl hs (hop 7),
    serves_of_receive rfl hs (pelSub_iff 0), serves_of_receive rfl hs (pelSub_iff 1),
    serves_of_receive rfl hs (pelSub_iff 2), serves_of_receive rfl hs (pelSub_iff 3), pelondUnknownOp_serves hs⟩

/-- What a taken message leaves: the operation's state, and its answer sent with a head before the payload. -/
abbrev PelDone (s : State) (peer : PelPeer) (l : List Byte) (key : Nat) (f : PelOp) (head : List Byte) (t : State) : Prop :=
  Responded s (f ⟨peer, field l 11 1, pelBody l⟩ s).2 t peer l key (field l 3 1)
    (f ⟨peer, field l 11 1, pelBody l⟩ s).1.1 (head ++ (f ⟨peer, field l 11 1, pelBody l⟩ s).1.2)

/-- Every message that a node takes is answered by its operation. -/
theorem pelond_takes {key : Nat} (ht : Takes s ⟨ip, port, field l 10 1⟩ l key) :
    let done := PelDone s ⟨ip, port, field l 10 1⟩ l key
    let tick := leBytes 4 (s.pelTick % 2 ^ 32)
    (field l 3 1 = 1 → Answers (.pelondRead ip port l) s fun t => done pelRead [] t) ∧
    (field l 3 1 = 2 → Answers (.pelondWrite ip port l) s fun t => done pelWrite tick t) ∧
    (field l 3 1 = 3 → Answers (.pelondParam ip port l) s fun t => done pelParam tick t) ∧
    (field l 3 1 = 4 → Answers (.pelondSplice ip port l) s fun t => done pelSplice tick t) ∧
    (field l 3 1 = 5 → Answers (.pelondEvent ip port l) s fun t => done pelEvent tick t) ∧
    (field l 3 1 = 6 → Answers (.pelondMeter ip port l) s fun t => done pelMeter [] t) ∧
    (field l 3 1 = 7 → Answers (.pelondQuery ip port l) s fun t => done pelQuery [] t) ∧
    (imageSub l 0 → Answers (.pelondImageBegin ip port l) s fun t => done pelBegin [] t) ∧
    (imageSub l 1 → Answers (.pelondImageData ip port l) s fun t => done pelData [] t) ∧
    (imageSub l 2 → Answers (.pelondImageEnd ip port l) s fun t => done pelEnd [] t) ∧
    (imageSub l 3 → Answers (.pelondImageAbort ip port l) s fun t => done pelAbort [] t) ∧
    ((field l 3 1 = 0 ∨ 8 < field l 3 1) → Answers (.pelondUnknownOp ip port l) s fun t =>
      Responded s s t ⟨ip, port, field l 10 1⟩ l key (field l 3 1) 5 []) := by
  obtain ⟨hread, hwrite, hparam, hsplice, hevent, hmeter, hquery, hbegin, hdata, hend, habort, hunknown⟩ :=
    pelond_serves (ip := ip) (port := port) (l := l) ht.1
  have hlogged {k : Nat} (h : field l 3 1 = k) (hk : k ∈ [2, 3, 4, 5]) : field l 3 1 ∈ [2, 3, 4, 5] := h ▸ hk
  have hplain {k : Nat} (h : field l 3 1 = k) (hk : k ∉ [2, 3, 4, 5]) : field l 3 1 ∉ [2, 3, 4, 5] := h ▸ hk
  refine ⟨fun h => serves_takes_plain hread ht h (hplain h (by decide)),
    fun h => serves_takes_logged hwrite ht h (hlogged h (by decide)),
    fun h => serves_takes_logged hparam ht h (hlogged h (by decide)),
    fun h => serves_takes_logged hsplice ht h (hlogged h (by decide)),
    fun h => serves_takes_logged hevent ht h (hlogged h (by decide)),
    fun h => serves_takes_plain hmeter ht h (hplain h (by decide)),
    fun h => serves_takes_plain hquery ht h (hplain h (by decide)),
    fun h => serves_takes_plain hbegin ht h (hplain h.1 (by decide)),
    fun h => serves_takes_plain hdata ht h (hplain h.1 (by decide)),
    fun h => serves_takes_plain hend ht h (hplain h.1 (by decide)),
    fun h => serves_takes_plain habort ht h (hplain h.1 (by decide)), fun h => ?_⟩
  have hne : field l 3 1 ≠ 8 := by omega
  have hop : field l 3 1 ∉ [2, 3, 4, 5] := by
    simp only [List.mem_cons, List.not_mem_nil, or_false]
    omega
  have hanswer := serves_takes_plain hunknown ht (h.imp_right .inl) hop
  simpa only [answerUnknown, hne, if_false, List.append_nil] using hanswer

/-- Settles O58: the commands by what they make of a message, the operations each by its own law. -/
theorem pelondService : Obligations.PelondService := by
  unfold Obligations.PelondService
  intro ip port l m q s
  refine ⟨pelond_serves, fun key ht => pelond_takes ht, fun _ => State.pelAuth_form, State.pelTick_paired,
    fun _ _ => pelRead_one, pelRead_count, pelQuery_answers, fun _ => pelWrite_one, fun _ _ => pelParam_answers,
    fun _ => pelSplice_busy, pelSplice_count, fun _ hsrc hop => pelEvent_range (eventOf_startIn hsrc hop),
    fun _ hop hb => pelEvent_range (eventOf_load hop hb), pelMeter_answers,
    fun x key hs hc hm => ⟨meterReport_early ⟨hs, hc⟩ hm, meterReport_sends ⟨hs, hc⟩ hm⟩, meterExpiry_ends,
    spliceListTimeout_idle, fun _ => spliceListTimeout_discards,
    fun hl hslot hmin hmax => ⟨pelBegin_running, fun _ => pelBegin_starts hl hslot hmin hmax⟩,
    fun _ => pelData_pelEnd_erasing, fun u hu he => ⟨fun _ => pelData_offset hu he, pelData_stores hu he, ?_⟩,
    pelData_pelEnd_none, fun _ => slotEraseDone_erases, slotEraseDone_idle⟩
  exact ⟨fun hl hc _ => pelEnd_checks hu he hl hc, pelAbort_ends hu⟩

end Sys2Proof.Machine
end

section
/-! SUPPORT. The matrix' rows and change lists: bindings, the open list and its commit (06 R126, R131, R132, R147), and the
statement settled. -/

namespace Sys2Proof.Machine

open Sys2Proof.Claims

/-! ### Rows and columns -/

/-- A row as it was set. -/
@[simp] theorem State.row_setRow_same (s : State) (r : Nat) (x : Row) : (s.setRow r x).row r = x := by
  simp [State.row, State.setRow]

/-- Setting a row leaves every other. -/
theorem State.row_setRow_ne (s : State) {k r : Nat} (h : k ≠ r) (x : Row) : (s.setRow r x).row k = s.row k := by
  simp only [State.row, State.setRow, State.onMtx_mtx]
  exact sget_sset_ne h _ _ _ _

/-- A column as it was set. -/
@[simp] theorem State.col_setCol_same (s : State) (c : Nat) (x : Col) : (s.setCol c x).col c = x := by
  simp [State.col, State.setCol]

/-- Setting a column leaves every other. -/
theorem State.col_setCol_ne (s : State) {k c : Nat} (h : k ≠ c) (x : Col) : (s.setCol c x).col k = s.col k := by
  simp only [State.col, State.setCol, State.onMtx_mtx]
  exact sget_sset_ne h _ _ _ _

/-- Setting a row changes that row alone. -/
theorem rowOnly_setRow (s : State) (r : Nat) (x : Row) : RowOnly s (s.setRow r x) r :=
  ⟨fun _ h => s.row_setRow_ne h x, rfl, rfl, rfl, rfl⟩

/-- Setting a column changes that column alone. -/
theorem colOnly_setCol (s : State) (c : Nat) (x : Col) : ColOnly s (s.setCol c x) c :=
  ⟨fun _ h => s.col_setCol_ne h x, rfl, rfl, rfl, rfl⟩

/-! ### Refusals -/

/-- An error response leaves the audit list. -/
theorem State.fabError_auditList (s : State) (m i t k a : Nat) (w : Bool) :
    (s.fabError m i t k a w).flt.auditList = s.flt.auditList := by
  unfold State.fabError State.refused
  dsimp only
  split <;> split <;> simp only [State.raise_eq] <;> rfl

/-- What a write leaves that its target refuses (15 R339): an error response, and CTL_REFUSED raised as the latest. -/
structure BusRefused (s t : State) : Prop where
  mtx : t.mtx = s.mtx
  mem : t.mem = s.mem
  err : t.bus.err = true
  raised : Raised t Src.CTL_REFUSED
  auditList : t.flt.auditList = s.flt.auditList
  fields : ∀ q : FieldRef, (∀ f ∈ errorFields, q.key ≠ f.key) → t.rd q = s.rd q

theorem State.busError_refused (s : State) (a : Nat) : BusRefused s (s.busError a) := by
  have hmtx := s.fabError_mtx s.bus.master s.bus.id (fabTarget a) 5 a true
  have hmem := s.fabError_mem s.bus.master s.bus.id (fabTarget a) 5 a true
  have harr := s.fabError_arriving s.bus.master s.bus.id (fabTarget a) 5 a true
  have haud := s.fabError_auditList s.bus.master s.bus.id (fabTarget a) 5 a true
  have hrd (q : FieldRef) := State.rd_fabError s s.bus.master s.bus.id (fabTarget a) 5 a true (q := q)
  unfold State.busError
  generalize s.fabError s.bus.master s.bus.id (fabTarget a) 5 a true = t at hmtx hmem harr haud hrd
  exact ⟨hmtx, hmem, rfl, by simp [Raised, harr], haud, hrd⟩

/-! ### The commit of the open list (R132) -/

/-- The commit that the open list makes with the settings of MTX_CM_*. -/
def State.listCommit (s : State) (g : Trig) : Commit := {
  entries := s.mtx.openList, len := s.rd Reg.MTX_CM_CTRL.LEN, equalPower := s.on Reg.MTX_CM_CTRL.LAW
  preempt := s.on Reg.MTX_CM_CTRL.PREEMPT, zc := s.on Reg.MTX_CM_CTRL.ZC, timeout := s.rd Reg.MTX_CM_ZC.TIMEOUT
  thr := s.rd Reg.MTX_CM_ZC.THR, trig := g, accepted := s.tick }

/-- With no reason to refuse, the open list becomes a commit and is emptied, and MTX_CM_LAST shows its ID. -/
theorem State.commitList_accepted {s : State} {g : Trig} (h : s.commitReason = 0) (hg : s.commitTrigger = .wait g) :
    s.commitList = ((((s.onMtx fun m => { m with
      commits := sinsert s.mtx.nextSeq (s.listCommit g) m.commits, nextSeq := s.mtx.nextSeq + 1 }).emptyList.wr
        Reg.MTX_CM_LAST.ID (s.mtx.nextSeq % 16)).wr Reg.MTX_CM_LAST.REFUSED 0).wr Reg.MTX_CM_LAST.REASON 0) := by
  simp only [State.commitList, h, hg]
  rfl

/-- With a reason to refuse, the reason is recorded and raised. -/
theorem State.commitList_refused {s : State} (h : s.commitReason ≠ 0) :
    s.commitList = (((s.wr Reg.MTX_CM_LAST.REFUSED 1).wr Reg.MTX_CM_LAST.REASON s.commitReason).put
      Reg.MTX_STATUS.CM_REFUSED true).refused := by
  unfold State.commitList
  dsimp only
  split
  · next h0 _ => exact absurd h0 h
  · rfl

/-- A reason is a code of MTX_CM_LAST.REASON. -/
theorem State.commitReason_le (s : State) : s.commitReason ≤ 7 := by
  unfold State.commitReason
  dsimp only
  repeat' split
  all_goals decide

section Commands

variable {s : State}

/-! ### ROW_BIND_WRITE and ROW_BIND_APPLY (R126) -/

/-- A binding of a row that is not in use is staged. -/
theorem rowBindWrite_stages (v : Word) (hs : s.alone) (hb : s.rowBusy (s.rd Reg.MTX_ROW_SEL.INDEX) = false) :
    Answers (.rowBindWrite v) s fun t =>
      let i := s.rd Reg.MTX_ROW_SEL.INDEX
      (t.row i).staged = some { (s.row i).shown with slot := v.toNat % 2 ^ 13, valid := v.getLsbD 31 } ∧
      (t.row i).live = (s.row i).live ∧ RowOnly s t i := by
  refine answers_core (f := fun s => s.control 0xA0024 v fun s => s.writeRowW0 v) rfl hs.1 ?_
  have hact : s.writeRowW0 v = s.setRow (s.rd Reg.MTX_ROW_SEL.INDEX) { s.row (s.rd Reg.MTX_ROW_SEL.INDEX) with
      staged := some { (s.row (s.rd Reg.MTX_ROW_SEL.INDEX)).shown with slot := wfield v 0 13, valid := v.getLsbD 31 } } := by
    simp only [State.writeRowW0, hb, Bool.false_eq_true, if_false]
  rw [hs.control (by rw [hact]; rfl), hact]
  refine ⟨?_, ?_, rowOnly_setRow _ _ _⟩
  · rw [State.row_setRow_same, wfield, Nat.pow_zero, Nat.div_one]
  · rw [State.row_setRow_same]

/-- A binding of a row in use is refused. -/
theorem rowBindWrite_busy (v : Word) (hs : s.alone) (hb : s.rowBusy (s.rd Reg.MTX_ROW_SEL.INDEX) = true) :
    Answers (.rowBindWrite v) s fun t => t.mtx = s.mtx ∧ t.mem = s.mem ∧ t.bus.err = true ∧
      t.on Reg.MTX_STATUS.ROW_BUSY = true ∧ Raised t Src.CTL_REFUSED := by
  refine answers_core (f := fun s => s.control 0xA0024 v fun s => s.writeRowW0 v) rfl hs.1 ?_
  have hact : s.writeRowW0 v = (s.put Reg.MTX_STATUS.ROW_BUSY true).busError 0x400A0024 := by
    simp only [State.writeRowW0, hb, if_true]
  have hrefused := (s.put Reg.MTX_STATUS.ROW_BUSY true).busError_refused 0x400A0024
  rw [hs.control_act (by rw [hact]; exact hrefused.auditList), hact]
  exact ⟨hrefused.mtx, hrefused.mem, hrefused.err, (State.on_congr (hrefused.fields _ (by decide))).trans
    (State.on_put_same _ _ _ (Nat.le_refl 1)), hrefused.raised⟩

/-- Staged settings that are applied are in force, a new binding with its gate closed. -/
theorem Row.apply_staged {x : Row} {n : RowSet} (h : x.staged = some n) : x.apply.live = n ∧ x.apply.staged = none ∧
    ((n.slot ≠ x.live.slot ∨ n.valid ≠ x.live.valid) → x.apply.gateNext = false) := by
  simp only [Row.apply, h]
  split
  · next hsame => exact ⟨rfl, rfl, fun hnew => absurd hsame (not_and_or.mpr hnew)⟩
  · exact ⟨rfl, rfl, fun _ => rfl⟩

/-- ROW_BIND_APPLY puts the staged settings of the row in force. -/
theorem rowBindApply_applies (r : Fin 2304) {n : RowSet} (hs : s.runs) (hw : s.inWindow = true)
    (hn : (s.row r).staged = some n) : Answers (.rowBindApply r) s fun t =>
      (t.row r).live = n ∧ (t.row r).staged = none ∧
      ((n.slot ≠ (s.row r).live.slot ∨ n.valid ≠ (s.row r).live.valid) → (t.row r).gateNext = false) ∧ RowOnly s t r := by
  refine answers_atWindow (f := fun s => s.setRow r.val (s.row r.val).apply) rfl hs hw ?_
  obtain ⟨hlive, hstaged, hgate⟩ := Row.apply_staged hn
  rw [State.row_setRow_same]
  exact ⟨hlive, hstaged, hgate, rowOnly_setRow _ _ _⟩

/-! ### CL_APPEND and CL_DISCARD (R131, R147) -/

/-- An entry joins an open list that has room, and is counted. -/
theorem clAppend_appends (v : Word) (hs : s.alone) (hl : s.mtx.openList.length < 4096) : Answers (.clAppend v) s fun t =>
    t.mtx = { s.mtx with openList := s.mtx.openList ++ [⟨s.mtx.clW0, v⟩] } ∧
    t.rd Reg.MTX_CL_COUNT.COUNT = s.mtx.openList.length + 1 := by
  refine answers_core (f := fun s => s.control 0xA0054 v fun s => s.appendEntry v) rfl hs.1 ?_
  have hact : s.appendEntry v = (s.onMtx fun m => { m with openList := m.openList ++ [⟨m.clW0, v⟩] }).wr
      Reg.MTX_CL_COUNT.COUNT (s.mtx.openList ++ [ChangeEntry.mk s.mtx.clW0 v]).length := if_neg (Nat.not_le.mpr hl)
  rw [hs.control (by rw [hact]; rfl), hact]
  refine ⟨rfl, ?_⟩
  rw [State.rd_wr_same, List.length_append, List.length_singleton]
  exact Nat.mod_eq_of_lt (show _ < 2 ^ 13 by omega)

/-- An entry is lost to a full open list. -/
theorem clAppend_overflows (v : Word) (hs : s.alone) (hl : 4096 ≤ s.mtx.openList.length) :
    Answers (.clAppend v) s fun t => t.mtx = s.mtx ∧ t.on Reg.MTX_STATUS.CL_OVF = true := by
  refine answers_core (f := fun s => s.control 0xA0054 v fun s => s.appendEntry v) rfl hs.1 ?_
  have hact : s.appendEntry v = s.put Reg.MTX_STATUS.CL_OVF true := if_pos hl
  rw [hs.control (by rw [hact]; rfl), hact]
  exact ⟨rfl, State.on_put_same _ _ _ (Nat.le_refl 1)⟩

/-- DISCARD empties the open list. -/
theorem clDiscard_empties {v : Word} (hs : s.alone) (h0 : v.getLsbD 0 = false) (h1 : v.getLsbD 1 = true) :
    Answers (.clDiscard v) s fun t =>
      t.mtx = { s.mtx with openList := [] } ∧ t.rd Reg.MTX_CL_COUNT.COUNT = 0 := by
  refine answers_core (f := fun s => s.control 0xA0074 v fun s => s.writeCmGo v) rfl hs.1 ?_
  have hact : s.writeCmGo v = s.emptyList := by
    simp only [State.writeCmGo, h0, h1, Bool.false_eq_true, if_false, if_true]
  rw [hs.control (by rw [hact]; rfl), hact]
  exact ⟨rfl, State.rd_wr_same _ _ _⟩

/-! ### MTX_COMMIT (R132) -/

/-- A write of MTX_CM_GO with COMMIT alone commits the open list. -/
theorem State.writeCmGo_commit (s : State) {v : Word} (h0 : v.getLsbD 0 = true) (h1 : v.getLsbD 1 = false) :
    s.writeCmGo v = s.commitList := by
  simp only [State.writeCmGo, h0, h1, Bool.false_eq_true, if_false, if_true]

/-- With no reason to refuse, the open list becomes a pending commit. -/
theorem mtxCommit_accepts {v : Word} {g : Trig} (hs : s.alone) (h0 : v.getLsbD 0 = true) (h1 : v.getLsbD 1 = false)
    (hr : s.commitReason = 0) (hg : s.commitTrigger = .wait g) : Answers (.mtxCommit v) s fun t =>
      (∃ c, sfind s.mtx.nextSeq t.mtx.commits = some c ∧ c.state = 1 ∧ c.entries = s.mtx.openList ∧
        c.len = s.rd Reg.MTX_CM_CTRL.LEN ∧ c.equalPower = s.on Reg.MTX_CM_CTRL.LAW ∧ c.preempt = s.on Reg.MTX_CM_CTRL.PREEMPT ∧
        c.zc = s.on Reg.MTX_CM_CTRL.ZC ∧ c.timeout = s.rd Reg.MTX_CM_ZC.TIMEOUT ∧ c.thr = s.rd Reg.MTX_CM_ZC.THR ∧
        c.trig = g ∧ c.refused = 0) ∧
      (∀ n, n ≠ s.mtx.nextSeq → sfind n t.mtx.commits = sfind n s.mtx.commits) ∧
      t.mtx.openList = [] ∧ t.mtx.cols = s.mtx.cols ∧ t.mtx.rows = s.mtx.rows ∧ t.mem = s.mem ∧
      t.rd Reg.MTX_CM_LAST.ID = s.mtx.nextSeq % 16 ∧ t.on Reg.MTX_CM_LAST.REFUSED = false := by
  refine answers_core (f := fun s => s.control 0xA0074 v fun s => s.writeCmGo v) rfl hs.1 ?_
  have hact := (s.writeCmGo_commit h0 h1).trans (State.commitList_accepted hr hg)
  rw [hs.control (by rw [hact]; rfl), hact]
  refine ⟨⟨s.listCommit g, sfind_sinsert_same _ _ _, rfl, rfl, rfl, rfl, rfl, rfl, rfl, rfl, rfl, rfl⟩,
    fun n hn => sfind_sinsert_ne hn _ _, rfl, rfl, rfl, rfl, ?_, ?_⟩
  · rw [State.rd_wr_ne _ (by decide), State.rd_wr_ne _ (by decide), State.rd_wr_same]
    exact Nat.mod_mod _ 16
  · rw [State.on, State.rd_wr_ne _ (by decide), State.rd_wr_same]
    rfl

/-- With a reason to refuse, the matrix stays and the reason is shown. -/
theorem mtxCommit_refuses {v : Word} (hs : s.alone) (h0 : v.getLsbD 0 = true) (h1 : v.getLsbD 1 = false)
    (hr : s.commitReason ≠ 0) : Answers (.mtxCommit v) s fun t =>
      t.mtx = s.mtx ∧ t.mem = s.mem ∧ t.on Reg.MTX_CM_LAST.REFUSED = true ∧
      t.rd Reg.MTX_CM_LAST.REASON = s.commitReason ∧ t.on Reg.MTX_STATUS.CM_REFUSED = true ∧ Raised t Src.CTL_REFUSED := by
  refine answers_core (f := fun s => s.control 0xA0074 v fun s => s.writeCmGo v) rfl hs.1 ?_
  have hact := (s.writeCmGo_commit h0 h1).trans (State.commitList_refused hr)
  rw [hs.control_act (by rw [hact, State.refused, State.raise_eq]; rfl), hact]
  have hle := s.commitReason_le
  refine ⟨State.raise_mtx _ _, State.raise_mem _ _, ?_, ?_, ?_, ?_⟩
  · rw [State.refused, State.raise_on, State.on_put_ne _ (by decide), State.on, State.rd_wr_ne _ (by decide),
      State.rd_wr_same]
    rfl
  · rw [State.refused, State.raise_rd, State.rd_put_ne _ (by decide), State.rd_wr_same]
    exact Nat.mod_eq_of_lt (show _ < 2 ^ 4 by omega)
  · rw [State.refused, State.raise_on]
    exact State.on_put_same _ _ _ (Nat.le_refl 1)
  · simp [Raised, State.refused_arriving]

end Commands

/-- Settles O27, each clause by the law of its command. -/
theorem matrixBindingsAndLists : Obligations.MatrixBindingsAndLists := by
  unfold Obligations.MatrixBindingsAndLists
  exact fun v r s => ⟨rowBindWrite_stages v, rowBindWrite_busy v, clAppend_appends v, clAppend_overflows v,
    clDiscard_empties, fun _ => mtxCommit_accepts, mtxCommit_refuses, fun _ => rowBindApply_applies r⟩

end Sys2Proof.Machine
end

section
/-! SUPPORT. Changes of the matrix' columns: the start of a commit, and the phases of splices, cuts and dips
(06 R131-R139), and the statement settled. -/

namespace Sys2Proof.Machine

open Sys2Proof.Claims

/-! ### The columns of a commit -/

/-- An entry put into an ordered list joins its entries. -/
theorem insertBy_perm {V : Type} (le : V → V → Bool) (a : V) (l : List V) : (insertBy le a l).Perm (a :: l) := by
  induction l with
  | nil => exact .refl _
  | cons b l ih =>
    rw [insertBy]
    split
    · exact .refl _
    · exact (ih.cons b).trans (.swap a b l)

/-- Numbers in ascending order are the same numbers. -/
theorem ascending_perm (l : List Nat) : (ascending l).Perm l := by
  rw [ascending, sortBy]
  induction l with
  | nil => exact .refl _
  | cons a l ih => exact (insertBy_perm _ a _).trans (ih.cons a)

/-- A list without its repetitions lists nothing twice. -/
theorem nodup_eraseDups (l : List Nat) : l.eraseDups.Nodup := by
  induction hn : l.length using Nat.strong_induction_on generalizing l with
  | _ n ih =>
    cases l with
    | nil => exact .nil
    | cons a l =>
      rw [List.eraseDups_cons, List.nodup_cons, List.mem_eraseDups]
      have hlen : (l.filter fun b => !b == a).length < n := by
        have := List.length_filter_le (fun b => !b == a) l
        simp only [List.length_cons] at hn
        omega
      exact ⟨by simp, ih _ hlen _ rfl⟩

/-- A commit names each of its columns once. -/
theorem Commit.columns_nodup (c : Commit) : c.columns.Nodup :=
  (ascending_perm _).nodup_iff.mpr (nodup_eraseDups _)

/-! ### A column at the start of a commit (R131, R134) -/

/-- The column takes the commit's change: it is neither changing nor FAULTED nor made OFF by the live plan, and no entry makes
a NOM column a PATCH. -/
structure State.Takes (s : State) (c : Commit) (k : Nat) : Prop where
  still : (s.col k).change = none
  sound : (s.col k).faulted = false
  planned : s.planOff k = false
  mix : (s.col k).nom = true → ∀ e ∈ c.entries, e.column = k → e.op ≠ 1

/-- A column with the change that commit n gives it at tick t. -/
def Col.started (x : Col) (n t : Nat) (c : Commit) (k : Nat) : Col := { x with
  commitId := n % 16
  change := some {
    new := (c.entries.filter fun e => decide (e.column = k)).foldl ColList.change x.live
    phase := if c.zc then .waitZc else .start, t0 := t, len := c.len, equalPower := c.equalPower
    zc := c.zc, thr := c.thr, timeout := c.timeout, commit := some n } }

/-- A column that takes the change starts it. -/
theorem State.startCol_takes {s : State} {c : Commit} {k : Nat} (h : s.Takes c k) (n t : Nat) :
    s.startCol n t c k = s.setCol k ((s.col k).started n t c k) := by
  have hfreeze : s.freeze k t = ((s.col k).live, s) := by simp only [State.freeze, h.still]
  have hnom : ((s.col k).nom && (c.entries.filter fun e => decide (e.column = k)).any fun e => decide (e.op = 1)) =
      false := by
    refine Bool.eq_false_iff.mpr fun hany => ?_
    simp only [Bool.and_eq_true, List.any_eq_true, List.mem_filter, decide_eq_true_eq] at hany
    obtain ⟨hnom, e, ⟨he, hk⟩, hop⟩ := hany
    exact h.mix hnom e he hk hop
  simp only [State.startCol, hfreeze, h.planned, hnom, h.sound, Bool.false_and, Bool.or_self, Bool.not_false,
    Bool.and_true, Bool.false_eq_true, if_false, Col.started]

/-- Setting another column leaves a column that takes the change. -/
theorem State.Takes.setCol {s : State} {c : Commit} {k i : Nat} (h : s.Takes c k) (hne : k ≠ i) (x : Col) :
    (s.setCol i x).Takes c k where
  still := by rw [State.col_setCol_ne _ hne]; exact h.still
  sound := by rw [State.col_setCol_ne _ hne]; exact h.sound
  planned := h.planned
  mix := by rw [State.col_setCol_ne _ hne]; exact h.mix

/-- Columns that take the change start it, and nothing else changes. -/
theorem State.foldl_startCol (n t : Nat) (c : Commit) (l : List Nat) : ∀ (s : State), l.Nodup →
    (∀ k ∈ l, s.Takes c k) →
    (∀ k ∈ l, (l.foldl (fun s k => s.startCol n t c k) s).col k = (s.col k).started n t c k) ∧
    (∀ k, k ∉ l → (l.foldl (fun s k => s.startCol n t c k) s).col k = s.col k) ∧
    l.foldl (fun s k => s.startCol n t c k) s = { s with
      mtx := { s.mtx with cols := (l.foldl (fun s k => s.startCol n t c k) s).mtx.cols } } := by
  induction l with
  | nil => exact fun _ _ _ => ⟨by simp, fun _ _ => rfl, rfl⟩
  | cons i l ih =>
    intro s hd ht
    obtain ⟨hi, hl⟩ := List.nodup_cons.mp hd
    obtain ⟨hti, htl⟩ := List.forall_mem_cons.mp ht
    have hne {k : Nat} (hk : k ∈ l) : k ≠ i := fun e => hi (e ▸ hk)
    obtain ⟨hin, hout, hrest⟩ := ih (s.setCol i ((s.col i).started n t c i)) hl fun k hk => (htl k hk).setCol (hne hk) _
    rw [List.foldl_cons, State.startCol_takes hti]
    refine ⟨fun k hk => ?_, fun k hk => ?_, hrest⟩
    · rcases List.mem_cons.mp hk with rfl | hk
      · rw [hout k hi, State.col_setCol_same]
      · rw [hin k hk, State.col_setCol_ne _ (hne hk)]
    · rw [hout k (List.not_mem_of_not_mem_cons hk), State.col_setCol_ne _ (List.ne_of_not_mem_cons hk)]

/-! ### The start of a commit (R133) -/

/-- Where no column is changing or damaged, the items of the columns change nothing. -/
theorem State.colsStep_still {s : State} (t : Nat)
    (h : ∀ i, (s.col i).change = none ∧ (s.col i).damaged = false ∧ (s.col i).faulted = false) : s.colsStep t = s := by
  have hstep (i : Nat) : s.colStep t i = s := by
    obtain ⟨hchange, hdamaged, hfaulted⟩ := h i
    simp only [State.colStep, Col.due, hchange, hdamaged, hfaulted, Bool.or_self, Bool.false_eq_true, if_false]
  rw [State.colsStep]
  induction s.mtx.cols.map (·.1) with
  | nil => rfl
  | cons i l ih => rw [List.foldl_cons, hstep, ih]

/-- A commit as it runs from tick t on. -/
def Commit.running (k : Commit) (b t : Nat) : Commit := { k with
  state := 2, delayed := decide (b < t), started := if k.zc then k.started else some t }

/-- The node with the commit marked RUNNING. -/
def State.commitRuns (s : State) (n b t : Nat) (k : Commit) : State :=
  s.onMtx fun m => { m with commits := sinsert n (k.running b t) m.commits }

/-- A commit that may start starts on its columns. -/
theorem State.tryCommit_starts {s : State} {t n b : Nat} {k : Commit} (hn : sfind n s.mtx.commits = some k)
    (hb : k.trig = .tick b) (hm : s.mayStart n t k = true) :
    s.tryCommit t n = k.columns.foldl (fun s i => s.startCol n t k i) (s.commitRuns n b t k) := by
  simp only [State.tryCommit, hn, hm, if_true, State.startCommit, hb, State.onCommit, State.commitRuns, Commit.running]

/-! ### What is due for a column (R135, R137, R139) -/

section Due

variable {x : Col} {h : ColChange} (hc : x.change = some h) {t : Nat}
include hc

theorem Col.due_zcStart (hp : h.phase = .waitZc) (hx : h.cross = true) : x.due t = some .zcStart := by
  simp only [Col.due, hc, hp, hx, if_true]

theorem Col.due_zcTimeout (hp : h.phase = .waitZc) (hx : h.cross = false) (ht : h.t0 + h.timeout ≤ t) :
    x.due t = some .zcTimeout := by
  simp only [Col.due, hc, hp, hx, ht, Bool.false_eq_true, if_false, if_true]

theorem Col.due_spliceEnd (hp : h.phase = .splice) (ht : h.t0 + h.len ≤ t) : x.due t = some .spliceEnd := by
  simp only [Col.due, hc, hp, ht, if_true]

theorem Col.due_cutZc (hp : h.phase = .waitCut) (hx : h.cross = true) : x.due t = some .cutZc := by
  simp only [Col.due, hc, hp, hx, if_true]

theorem Col.due_dipStart (hp : h.phase = .waitCut) (hx : h.cross = false) (ht : h.t0 + h.timeout ≤ t) :
    x.due t = some .dipStart := by
  simp only [Col.due, hc, hp, hx, ht, Bool.false_eq_true, if_false, if_true]

theorem Col.due_dipEnd (hp : h.phase = .dip) (ht : h.t0 + 32 ≤ t) : x.due t = some .dipEnd := by
  simp only [Col.due, hc, hp, ht, if_true]

end Due

section Commands

variable {s : State}

/-- COMMIT_START of a commit that may start, with no column changing. -/
theorem commitStart_starts {id : Fin 16} {n b : Nat} {k : Commit} (hs : s.runs) (hw : s.inWindow = true)
    (hid : (s.mtx.commits.filter fun p => decide (p.1 % 16 = id.val)).map (·.1) = [n])
    (hn : sfind n s.mtx.commits = some k) (hb : k.trig = .tick b) (hm : s.mayStart n (s.tick + 1) k = true)
    (hc : ∀ i, (s.col i).change = none ∧ (s.col i).damaged = false ∧ (s.col i).faulted = false)
    (hp : ∀ i ∈ k.columns, s.planOff i = false) (hnom : ∀ e ∈ k.entries, (s.col e.column).nom = true → e.op ≠ 1) :
    Answers (.commitStart id) s fun t =>
      sfind n t.mtx.commits = some (k.running b (s.tick + 1)) ∧
      (∀ i ∈ k.columns, t.col i = (s.col i).started n (s.tick + 1) k i) ∧
      (∀ i, i ∉ k.columns → t.col i = s.col i) ∧ t.regs = s.regs ∧ t.mem = s.mem := by
  refine answers_atWindow (f := fun s =>
    let s := s.colsStep (s.tick + 1)
    ((s.mtx.commits.filter fun p => decide (p.1 % 16 = id.val)).map (·.1)).foldl
      (fun s n => s.tryCommit (s.tick + 1) n) s) rfl hs hw ?_
  simp only [State.colsStep_still _ hc, hid, List.foldl_cons, List.foldl_nil, State.tryCommit_starts hn hb hm]
  have htakes : ∀ i ∈ k.columns, (s.commitRuns n b (s.tick + 1) k).Takes k i := fun i hi => by
    obtain ⟨hstill, -, hsound⟩ := hc i
    exact ⟨hstill, hsound, hp i hi, fun h e he hk => hnom e he (hk ▸ h)⟩
  obtain ⟨hin, hout, hrest⟩ := State.foldl_startCol n (s.tick + 1) k k.columns _ k.columns_nodup htakes
  refine ⟨?_, hin, hout, (congrArg State.regs hrest :), (congrArg State.mem hrest :)⟩
  rw [(congrArg (fun t : State => t.mtx.commits) hrest :)]
  exact sfind_sinsert_same _ _ _

/-! ### The phases of a change (R135, R137, R139) -/

/-- A column's change begins a phase. -/
theorem State.phaseCol_changing {n : Nat} {h : ColChange} (hc : (s.col n).change = some h) (t : Nat) (p : ColPhase) :
    s.phaseCol n t p = s.setCol n { s.col n with change := some { h with phase := p, t0 := t, cross := false } } := by
  simp only [State.phaseCol, hc]

/-- A change ends with its new list in force. -/
theorem State.finishCol_stays {n : Nat} {h : ColChange} (hc : (s.col n).change = some h) (ho : h.toOff = false)
    (r : Nat) (cut : Bool) : s.finishCol n r cut =
      s.setCol n { s.col n with live := h.new, change := none, result := r, cutTick := cut } := by
  simp only [State.finishCol, hc, ho, Bool.false_eq_true, if_false]

/-- A change that makes its column OFF ends so. -/
theorem State.finishCol_off {n : Nat} {h : ColChange} (hc : (s.col n).change = some h) (ho : h.toOff = true)
    (r : Nat) (cut : Bool) : s.finishCol n r cut = s.setCol n { commitId := (s.col n).commitId, result := r } := by
  simp only [State.finishCol, hc, ho, if_true]

variable {c : Fin 2304} {h : ColChange}

/-- The change of a column that is changing. -/
theorem change_of_changing (hc : Changing s c h) : (s.col c).change = some h := by
  obtain ⟨-, -, -, hchange⟩ := hc
  exact hchange

/-- An item of a column that is due at the coming boundary takes place. -/
theorem answers_colEvent {i : Instr} {e : ColEvent} {p : State → Prop} (hc : Changing s c h)
    (he : exec i s = atWindow (fun s => s.colCommand c.val e) s) (hd : (s.col c).due (s.tick + 1) = some e)
    (hp : p (s.colEvent c (s.tick + 1) e)) : Answers i s p := by
  obtain ⟨hs, hw, hdamaged, -⟩ := hc
  refine answers_atWindow he hs hw ?_
  rwa [State.colCommand, if_pos ⟨hd, hdamaged⟩]

/-- An item that begins a phase of the change. -/
theorem answers_phase {i : Instr} {e : ColEvent} {q : ColPhase} (hc : Changing s c h)
    (he : exec i s = atWindow (fun s => s.colCommand c.val e) s) (hd : (s.col c).due (s.tick + 1) = some e)
    (hq : s.colEvent c (s.tick + 1) e = s.phaseCol c (s.tick + 1) q) : Answers i s fun t =>
      t.col c = { s.col c with change := some { h with phase := q, t0 := s.tick + 1, cross := false } } ∧
      ColOnly s t c := by
  refine answers_colEvent hc he hd ?_
  rw [hq, State.phaseCol_changing (change_of_changing hc)]
  exact ⟨State.col_setCol_same _ _ _, colOnly_setCol _ _ _⟩

/-- An item that puts the new list in force. -/
theorem answers_finish {i : Instr} {e : ColEvent} {r : Nat} {cut : Bool} (hc : Changing s c h)
    (he : exec i s = atWindow (fun s => s.colCommand c.val e) s) (hd : (s.col c).due (s.tick + 1) = some e)
    (hf : s.colEvent c (s.tick + 1) e = s.finishCol c r cut) (ho : h.toOff = false) : Answers i s fun t =>
      t.col c = { s.col c with live := h.new, change := none, result := r, cutTick := cut } ∧ ColOnly s t c := by
  refine answers_colEvent hc he hd ?_
  rw [hf, State.finishCol_stays (change_of_changing hc) ho]
  exact ⟨State.col_setCol_same _ _ _, colOnly_setCol _ _ _⟩

/-- SPLICE_ZC_START and SPLICE_ZC_TIMEOUT: the change is due to start, the list in force stays. -/
theorem answers_spliceStart {i : Instr} {e : ColEvent} (hc : Changing s c h)
    (he : exec i s = atWindow (fun s => s.colCommand c.val e) s) (hd : (s.col c).due (s.tick + 1) = some e)
    (hq : s.colEvent c (s.tick + 1) e = s.phaseCol c (s.tick + 1) .start) : Answers i s fun t =>
      (t.col c).change = some { h with phase := .start, t0 := s.tick + 1, cross := false } ∧
      (t.col c).live = (s.col c).live ∧ ColOnly s t c := by
  obtain ⟨t, ht, hcol, honly⟩ := answers_phase hc he hd hq
  exact ⟨t, ht, by rw [hcol], by rw [hcol], honly⟩

/-- SPLICE_END: the new list is in force, or the column is OFF. -/
theorem spliceEnd_ends (hc : Changing s c h) (hp : h.phase = .splice) (ht : h.t0 + h.len ≤ s.tick + 1) :
    Answers (.spliceEnd c) s fun t =>
      (h.toOff = false → t.col c = { s.col c with live := h.new, change := none, result := 1, cutTick := false }) ∧
      (h.toOff = true → (t.col c).live = .off ∧ (t.col c).change = none ∧ (t.col c).result = 1) ∧ ColOnly s t c := by
  have hchange := change_of_changing hc
  have hdue : (s.col c).due (s.tick + 1) = some .spliceEnd := Col.due_spliceEnd hchange hp ht
  cases ho : h.toOff with
  | false =>
    obtain ⟨t, hexec, hcol, honly⟩ := answers_finish (i := .spliceEnd c) hc rfl hdue rfl ho
    exact ⟨t, hexec, fun _ => hcol, (nomatch ·), honly⟩
  | true =>
    refine answers_colEvent hc rfl hdue ?_
    rw [State.colEvent, State.finishCol_off hchange ho, State.col_setCol_same]
    exact ⟨(nomatch ·), fun _ => ⟨rfl, rfl, rfl⟩, colOnly_setCol _ _ _⟩

end Commands

/-- Settles O28: the start of a commit, and each item of a column by what it does to the change. -/
theorem matrixChangesRunTheirPhases : Obligations.MatrixChangesRunTheirPhases := by
  unfold Obligations.MatrixChangesRunTheirPhases
  intro id c s
  exact ⟨fun _ _ _ hs hw hid hn hb hm => commitStart_starts hs hw hid hn hb hm,
    fun _ hc hp hx => answers_spliceStart hc rfl (Col.due_zcStart (change_of_changing hc) hp hx) rfl,
    fun _ hc hp hx ht => answers_spliceStart hc rfl (Col.due_zcTimeout (change_of_changing hc) hp hx ht) rfl,
    fun _ hc => spliceEnd_ends hc,
    fun _ hc hp hx => answers_finish hc rfl (Col.due_cutZc (change_of_changing hc) hp hx) rfl,
    fun _ hc hp hx ht => answers_phase hc rfl (Col.due_dipStart (change_of_changing hc) hp hx ht) rfl,
    fun _ hc hp ht => answers_finish hc rfl (Col.due_dipEnd (change_of_changing hc) hp ht) rfl⟩

end Sys2Proof.Machine
end

section
/-! SUPPORT. NOM gates and gain ramps (06 R140, R142), and the statement settled. -/

namespace Sys2Proof.Machine

open Sys2Proof.Claims

/-- A gate that has been below CLOSE for its HOLD ticks closes. -/
theorem Row.close_due {x : Row} (ho : x.gateNext = true) (hq : max 1 x.live.hold ≤ x.quiet) :
    x.close = { x with gateNext := false } := by
  simp only [Row.close, ho, hq, decide_true, Bool.and_self, if_true]

/-- Any other gate stays. -/
theorem Row.close_early {x : Row} (h : x.gateNext = false ∨ x.quiet < max 1 x.live.hold) : x.close = x := by
  refine if_neg fun hdue => ?_
  rw [Bool.and_eq_true, decide_eq_true_eq] at hdue
  obtain ⟨ho, hq⟩ := hdue
  rcases h with hclosed | hlt
  · exact Bool.false_ne_true (hclosed.symm.trans ho)
  · exact Nat.not_le.mpr hlt hq

variable {s : State} {u : Nat}

/-- A ramp that has run its RAMP ticks ends on its target. -/
theorem State.nomRampEnd_over (hr : (sget {} u s.mtx.nom).ramping = true)
    (hj : s.rd (Reg.MTX_NOM_CTRL.RAMP u) ≤ (sget {} u s.mtx.nom).j) : s.nomRampEnd u = s.onMtx fun m => { m with
      nom := sset {} u { sget {} u s.mtx.nom with ramping := false, g := (sget {} u s.mtx.nom).target } m.nom } := by
  simp only [State.nomRampEnd, hr, hj, decide_true, Bool.and_self, if_true]

/-- A unit whose ramp has not run out stays. -/
theorem State.nomRampEnd_running
    (h : (sget {} u s.mtx.nom).ramping = false ∨ (sget {} u s.mtx.nom).j < s.rd (Reg.MTX_NOM_CTRL.RAMP u)) :
    s.nomRampEnd u = s := by
  refine if_neg fun hover => ?_
  rw [Bool.and_eq_true, decide_eq_true_eq] at hover
  obtain ⟨hr, hj⟩ := hover
  rcases h with hstill | hlt
  · exact Bool.false_ne_true (hstill.symm.trans hr)
  · exact Nat.not_le.mpr hlt hj

/-- NOM_GATE_CLOSE closes a gate that is due, and leaves any other. -/
theorem nomGateClose_closes (r : Fin 2304) (hs : s.runs) (hw : s.inWindow = true) : Answers (.nomGateClose r) s fun t =>
    ((s.row r).gateNext = true → max 1 (s.row r).live.hold ≤ (s.row r).quiet →
      t.row r = { s.row r with gateNext := false }) ∧
    (((s.row r).gateNext = false ∨ (s.row r).quiet < max 1 (s.row r).live.hold) → t.row r = s.row r) ∧ RowOnly s t r := by
  refine answers_atWindow (f := fun s => s.setRow r.val (s.row r.val).close) rfl hs hw ?_
  rw [State.row_setRow_same]
  exact ⟨Row.close_due, Row.close_early, rowOnly_setRow _ _ _⟩

/-- NOM_RAMP_END ends a ramp that has run out, and leaves any other. -/
theorem nomRampEnd_ends (u : Fin 256) (hs : s.runs) (hw : s.inWindow = true) : Answers (.nomRampEnd u) s fun t =>
    let x := sget {} u.val s.mtx.nom
    let y := sget {} u.val t.mtx.nom
    (x.ramping = true → s.rd (Reg.MTX_NOM_CTRL.RAMP u) ≤ x.j → y = { x with ramping := false, g := x.target }) ∧
    ((x.ramping = false ∨ x.j < s.rd (Reg.MTX_NOM_CTRL.RAMP u)) → t = s) ∧
    (∀ k, k ≠ u.val → sget {} k t.mtx.nom = sget {} k s.mtx.nom) ∧ t.regs = s.regs ∧ t.mem = s.mem := by
  refine answers_atWindow (f := fun s => s.nomRampEnd u.val) rfl hs hw ?_
  by_cases hover : (sget {} u.val s.mtx.nom).ramping = true ∧ s.rd (Reg.MTX_NOM_CTRL.RAMP u) ≤ (sget {} u.val s.mtx.nom).j
  · obtain ⟨hr, hj⟩ := hover
    have hends := State.nomRampEnd_over hr hj
    refine ⟨fun _ _ => ?_, fun h => State.nomRampEnd_running h, ?_⟩ <;> rw [hends]
    · exact sget_sset_same _ _ _ _
    · exact ⟨fun k hk => sget_sset_ne hk _ _ _ _, rfl, rfl⟩
  · have hrunning := State.nomRampEnd_running (s := s) (u := u)
      ((not_and_or.mp hover).imp (Bool.eq_false_of_not_eq_true ·) Nat.not_le.mp)
    rw [hrunning]
    exact ⟨fun hr hj => absurd ⟨hr, hj⟩ hover, fun _ => rfl, fun _ _ => rfl, rfl, rfl⟩

/-- Settles O29 by the laws of the two commands. -/
theorem nomGatesAndRamps : Obligations.NomGatesAndRamps := by
  unfold Obligations.NomGatesAndRamps
  exact fun r u _ hs hw => ⟨nomGateClose_closes r hs hw, nomRampEnd_ends u hs hw⟩

end Sys2Proof.Machine
end

section
/-! SUPPORT. Whipping stages and side-tone gains (06 R143-R145, R148, 15 R353), and the statement settled. -/

namespace Sys2Proof.Machine

open Sys2Proof.Claims

/-! ### Stages -/

/-- A stage as it was set. -/
@[simp] theorem State.whip_setWhip_same (s : State) (i : Nat) (x : Whip) : (s.setWhip i x).whip i = x := by
  simp [State.whip, State.setWhip]

/-- Setting a stage leaves every other. -/
theorem State.whip_setWhip_ne (s : State) {k i : Nat} (h : k ≠ i) (x : Whip) : (s.setWhip i x).whip k = s.whip k := by
  simp only [State.whip, State.setWhip, State.onEgr_egr]
  exact sget_sset_ne h _ _ _ _

/-- Setting a stage changes that stage alone. -/
theorem State.setWhip_only (s : State) (i : Nat) (x : Whip) : (s.setWhip i x).whip i = x ∧
    (∀ k, k ≠ i → (s.setWhip i x).whip k = s.whip k) ∧ s.setWhip i x = { s with egr := (s.setWhip i x).egr } :=
  ⟨s.whip_setWhip_same i x, fun _ h => s.whip_setWhip_ne h x, rfl⟩

/-- A stage after the copy cycle: its staged settings are live, and a DC mute ends with them. -/
def Whip.copied (x : Whip) : Whip :=
  match x.staged with
  | some c => { x with live := c, staged := none, dcWant := false }
  | none => x

/-- The copy cycle of an armed COMMIT. -/
theorem State.copyWhips_armed {s : State} (h : s.on Reg.EGR_WCOMMIT.COMMIT = true) : s.copyWhips =
    (s.onEgr fun e => { e with whip := e.whip.map fun p => (p.1, p.2.copied) }).put Reg.EGR_WCOMMIT.COMMIT false :=
  if_pos h

/-- Without COMMIT nothing is copied. -/
theorem State.copyWhips_unarmed {s : State} (h : s.on Reg.EGR_WCOMMIT.COMMIT = false) : s.copyWhips = s := by
  rw [State.copyWhips, h, if_neg Bool.false_ne_true]

/-- Every stage goes through the copy cycle. -/
theorem State.whip_copyWhips {s : State} (h : s.on Reg.EGR_WCOMMIT.COMMIT = true) (k : Nat) :
    s.copyWhips.whip k = (s.whip k).copied := by
  rw [State.copyWhips_armed h]
  simp only [State.whip, State.put_egr, State.onEgr_egr, sget, sfind_map Whip.copied]
  cases sfind k s.egr.whip <;> rfl

section Commands

variable {s : State} {i : Fin 2304}

/-! ### WHIP_COMMIT and WHIP_APPLY (R148, 15 R353) -/

/-- WHIP_COMMIT arms the copy. -/
theorem whipCommit_arms {v : Word} (hs : s.alone) (h0 : v.getLsbD 0 = true) : Answers (.whipCommit v) s fun t =>
    t.on Reg.EGR_WCOMMIT.COMMIT = true ∧ t = { s with regs := t.regs } ∧
    ∀ q : FieldRef, q.key ≠ Reg.EGR_WCOMMIT.COMMIT.key → t.rd q = s.rd q := by
  refine answers_core (f := fun s => s.control 0xB0014 v fun s => s.writeWcommit v) rfl hs.1 ?_
  have hact : s.writeWcommit v = s.put Reg.EGR_WCOMMIT.COMMIT true := if_pos h0
  rw [hs.control (by rw [hact]; rfl), hact]
  exact ⟨State.on_put_same _ _ _ (Nat.le_refl 1), rfl, fun q hq => State.rd_put_ne _ hq _⟩

/-- WHIP_APPLY before the window is the copy cycle. -/
theorem answers_whipApply {p : State → Prop} (hs : s.runs) (hw : s.inWindow = false) (hp : p s.copyWhips) :
    Answers .whipApply s p :=
  answers_clocked (m := execWhipApply) rfl hs rfl (by rwa [hw, if_neg Bool.false_ne_true])

/-- WHIP_APPLY of an armed copy. -/
theorem whipApply_copies (hs : s.runs) (hw : s.inWindow = false) (hc : s.on Reg.EGR_WCOMMIT.COMMIT = true) :
    Answers .whipApply s fun t =>
      t.on Reg.EGR_WCOMMIT.COMMIT = false ∧ t.str = s.str ∧ t.mem = s.mem ∧
      (∀ k c, (s.whip k).staged = some c → t.whip k = { s.whip k with live := c, staged := none, dcWant := false }) ∧
      (∀ k, (s.whip k).staged = none → t.whip k = s.whip k) := by
  refine answers_whipApply hs hw ⟨?_, ?_, ?_, fun k c hk => ?_, fun k hk => ?_⟩
  · rw [State.copyWhips_armed hc]; exact State.on_put_same _ _ _ (Nat.le_refl 1)
  · rw [State.copyWhips_armed hc]; rfl
  · rw [State.copyWhips_armed hc]; rfl
  · rw [State.whip_copyWhips hc]; simp only [Whip.copied, hk]
  · rw [State.whip_copyWhips hc]; simp only [Whip.copied, hk]

/-! ### Changes of gain and mute (R144) -/

/-- A found crossing puts the change in effect. -/
theorem whipZcChange_applies {n : Nat} (hs : s.runs) (hp : (s.whip i).phase = .waitZc n true) :
    Answers (.whipZcChange i) s fun t =>
      t.whip i = { s.whip i with phase := .rest, curGain := (s.whip i).toGain, curMute := (s.whip i).toMute } ∧
      (∀ k, k ≠ i.val → t.whip k = s.whip k) ∧ t = { s with egr := t.egr } := by
  refine answers_clocked (m := execWhipZcChange i) rfl hs rfl ?_
  simp only [hp]
  exact s.setWhip_only i _

/-- After ZCTO ticks without a crossing the ramp starts. -/
theorem whipZcTimeout_ramps {n : Nat} (hs : s.runs) (hp : (s.whip i).phase = .waitZc n false)
    (hn : (s.whip i).live.zcto ≤ n) : Answers (.whipZcTimeout i) s fun t =>
      t.whip i = { s.whip i with phase := .ramp 0 } ∧ (∀ k, k ≠ i.val → t.whip k = s.whip k) ∧
      t = { s with egr := t.egr } := by
  refine answers_clocked (m := execWhipZcTimeout i) rfl hs rfl ?_
  simp only [hp, hn, if_true]
  exact s.setWhip_only i _

/-- A ramp that has run its 16 ticks puts the change in effect. -/
theorem whipRampEnd_applies {n : Nat} (hs : s.runs) (hp : (s.whip i).phase = .ramp n) (hn : 16 ≤ n) :
    Answers (.whipRampEnd i) s fun t =>
      t.whip i = { s.whip i with phase := .rest, curGain := (s.whip i).toGain, curMute := (s.whip i).toMute } ∧
      (∀ k, k ≠ i.val → t.whip k = s.whip k) ∧ t = { s with egr := t.egr } := by
  refine answers_clocked (m := execWhipRampEnd i) rfl hs rfl ?_
  simp only [hp, hn, if_true]
  exact s.setWhip_only i _

/-! ### WHIP_DC_FAULT (R143) and SIDETONE_GAIN_RAMP_END (R145) -/

/-- After DCTIME ticks above the threshold the detector fires. -/
theorem State.whipDc_fires {n : Nat} (he : (s.whip n).live.dcEn = true)
    (ht : max 1 (s.whip n).live.dctime ≤ (s.whip n).dcRun) (hd : (s.whip n).dc = false) : s.whipDc n =
      ((s.setWhip n { s.whip n with dc := true, dcWant := (s.whip n).dcWant || (s.whip n).live.dcMute }).put
        (Reg.FLT_SRC.ACTIVE Src.EGR_DC) true).raise Src.EGR_DC := by
  simp only [State.whipDc, he, ht, hd, decide_true, Bool.not_false, Bool.and_self, if_true]

/-- WHIP_DC_FAULT sets the detector, raises EGR_DC and mutes where DCMUTE is set. -/
theorem whipDcFault_fires (hs : s.runs) (he : (s.whip i).live.dcEn = true)
    (ht : max 1 (s.whip i).live.dctime ≤ (s.whip i).dcRun) (hd : (s.whip i).dc = false) :
    Answers (.whipDcFault i) s fun t =>
      (t.whip i).dc = true ∧ (t.whip i).dcWant = ((s.whip i).dcWant || (s.whip i).live.dcMute) ∧
      t.on (Reg.FLT_SRC.ACTIVE Src.EGR_DC) = true ∧ Raised t Src.EGR_DC ∧
      (∀ k, k ≠ i.val → t.whip k = s.whip k) ∧ t.str = s.str ∧ t.mem = s.mem := by
  refine answers_clocked (m := execWhipDcFault i) rfl hs rfl ?_
  rw [State.whipDc_fires he ht hd]
  generalize hx : ({ s.whip i with dc := true, dcWant := (s.whip i).dcWant || (s.whip i).live.dcMute } : Whip) = x
  have hwhip (k : Nat) : (((s.setWhip i x).put (Reg.FLT_SRC.ACTIVE Src.EGR_DC) true).raise Src.EGR_DC).whip k =
      (s.setWhip i x).whip k := congrArg (fun e : EgrState => sget ({} : Whip) k e.whip) (State.raise_egr _ _)
  refine ⟨?_, ?_, ?_, ?_, fun k hk => (hwhip k).trans (s.whip_setWhip_ne hk x), State.raise_str _ _, State.raise_mem _ _⟩
  · rw [hwhip, State.whip_setWhip_same, ← hx]
  · rw [hwhip, State.whip_setWhip_same, ← hx]
  · rw [State.raise_on]
    exact State.on_put_same _ _ _ (Nat.le_refl 1)
  · simp [Raised, State.raise_arriving _ (show faultListed Src.EGR_DC = true by decide)]

/-- The last step of a side-tone ramp makes the gain the target. -/
theorem sidetoneGainRampEnd_ends {m : Fin 64} {j : Fin 4} (hs : s.runs)
    (hk : (sget {} (m.val * 4 + j.val) s.egr.st).k = 15) : Answers (.sidetoneGainRampEnd m j) s fun t =>
      let x := sget {} (m.val * 4 + j.val) t.egr.st
      x.cur = x.goal ∧ x.k = 16 ∧ x.goal = (sget {} (m.val * 4 + j.val) s.egr.st).goal ∧
      (∀ n, n ≠ m.val * 4 + j.val → sget {} n t.egr.st = sget {} n s.egr.st) ∧ t = { s with egr := t.egr } := by
  refine answers_clocked (m := execSidetoneGainRampEnd m j) rfl hs rfl ?_
  simp only [hk, if_true, State.onEgr_egr, sget_sset_same, true_and]
  exact ⟨fun n hn => sget_sset_ne hn _ _ _ _, rfl⟩

end Commands

/-- Settles O30, each clause by the law of its command. -/
theorem whippingStages : Obligations.WhippingStages := by
  unfold Obligations.WhippingStages
  exact fun v i m j s => ⟨whipCommit_arms, whipApply_copies,
    fun hs hw hc => answers_whipApply hs hw (State.copyWhips_unarmed hc), fun _ => whipZcChange_applies,
    fun _ => whipZcTimeout_ramps, fun _ => whipRampEnd_applies, whipDcFault_fires, sidetoneGainRampEnd_ends⟩

end Sys2Proof.Machine
end

section
/-! SUPPORT. The arithmetic of a whipping stage (06 R143, R144), and the statement settled. -/

namespace Sys2Proof.Machine

/-! ### Scaling by 1 and by 0 -/

/-- A multiple of the divisor is rounded to the quotient. -/
theorem roundNearest_mul (x : Int) {d : Nat} (hd : 0 < d) : roundNearest (x * d) d = x := by
  have hz : (d : Int) ≠ 0 := by omega
  have hneg : ¬ (2 * (0 : Int) > d) := by omega
  have hne : ¬ (2 * (0 : Int) = d ∧ x % 2 = 1) := by omega
  simp only [roundNearest, Int.mul_ediv_cancel x hz, Int.mul_emod_left, if_neg hneg, if_neg hne]

/-- A sample needs no saturation. -/
theorem satBits_sval (v : Word) : satBits 32 (sval v) = sval v := by
  have hlo : -2 ^ 31 ≤ sval v := v.le_toInt
  have hhi : sval v < 2 ^ 31 := v.toInt_lt
  rw [satBits, if_neg (by omega), if_neg (by omega)]

/-- A sample scaled by 1 is the sample. -/
theorem scaleSample_one (v : Word) {d : Nat} (hd : 0 < d) : scaleSample v d d = v := by
  rw [scaleSample, s31, roundNearest_mul _ hd, satBits_sval]
  exact BitVec.ofInt_toInt

/-- A sample scaled by 0 is 0. -/
theorem scaleSample_zero (v : Word) {d : Nat} (hd : 0 < d) : scaleSample v 0 d = 0 := by
  have h0 := roundNearest_mul 0 hd
  rw [Int.zero_mul] at h0
  rw [scaleSample, Int.mul_zero, s31, h0]
  rfl

/-! ### A stage at rest (R143) -/

/-- A stage at rest: no change of its gain or mute, limiter, DC detector and DC mute off. -/
structure Whip.Rests (x : Whip) : Prop where
  phase : x.phase = .rest
  gain : x.live.gain = x.curGain
  mute : x.live.mute = x.curMute
  limEn : x.live.limEn = false
  dcEn : x.live.dcEn = false
  dcForced : x.dcForced = .full
  dcWant : x.dcWant = false

/-- A stage at rest begins a tick as it is. -/
theorem Whip.Rests.begin {x : Whip} (h : x.Rests) : x.begin = x := by
  obtain ⟨hp, hg, hm, -⟩ := h
  simp only [Whip.begin, hp, hg, hm, and_self, if_true]
  rw [← hp]

/-- What a stage at rest does to a word while the node is not muted and no amplifier channel follows. -/
theorem State.passWhip_rests {s : State} {i : Nat} (h : (s.whip i).Rests) (ho : s.egr.out = .full) (v : Word) :
    (s.passWhip i none v).1 = {
      gain := sval (s.whip i).curGain, lim := none
      num := if (s.whip i).curMute then 0 else 4096, muting := (s.whip i).curMute } := by
  have hbegin := h.begin
  obtain ⟨hp, -, -, hlim, -, hforced, hwant⟩ := h
  have hstep : Mute.full.step false false false false = .full := rfl
  unfold State.passWhip
  cases hclip : s31Sat (sval v * sval (s.whip i).curGain) (2 ^ 27) <;>
  · simp only [hbegin, hp, hlim, hforced, hwant, ho, hstep, hclip, Whip.sixteenths, Whip.gain, State.ampGains,
      lt_self_iff_false, decide_false, Bool.or_self, Bool.false_and, Bool.false_eq_true, if_false, if_true]
    cases (s.whip i).curMute <;> rfl

/-- The pass of a stage at rest scales by its gain, or mutes. -/
theorem WhipPass.out_rests (g : Int) (muted : Bool) (v : Word) (t : Tag) :
    let p : WhipPass := { gain := g, lim := none, num := if muted then 0 else 4096, muting := muted }
    (muted = false → p.out { num := 1 } v t = (scaleSample v g (2 ^ 27), t)) ∧
    (muted = true → p.out { num := 1 } v t = (0, t ||| 0b1000)) := by
  refine ⟨fun hm => ?_, fun hm => ?_⟩ <;> subst hm
  · exact congrArg (·, t) (scaleSample_one (scaleSample v g (2 ^ 27)) (d := 4096) (by decide))
  · exact congrArg (·, t ||| 0b1000) (scaleSample_zero (scaleSample v g (2 ^ 27)) (d := 4096) (by decide))

/-- A stage at rest scales its input by its gain, or mutes it. -/
theorem State.runWhip_rests {s : State} {i : Nat} (h : (s.whip i).Rests) (ho : s.egr.out = .full) (v : Word) (t : Tag) :
    ((s.whip i).curMute = false →
      (s.runWhip i none v t).1 = scaleSample v (sval (s.whip i).curGain) (2 ^ 27) ∧ (s.runWhip i none v t).2.1 = t) ∧
    ((s.whip i).curMute = true → (s.runWhip i none v t).1 = 0 ∧ (s.runWhip i none v t).2.1 = t ||| 0b1000) := by
  have hrun : ((s.runWhip i none v t).1, (s.runWhip i none v t).2.1) = (s.passWhip i none v).1.out { num := 1 } v t := rfl
  rw [State.passWhip_rests h ho] at hrun
  obtain ⟨hloud, hmuted⟩ := WhipPass.out_rests (sval (s.whip i).curGain) (s.whip i).curMute v t
  exact ⟨fun hm => Prod.mk.inj (hrun.trans (hloud hm)), fun hm => Prod.mk.inj (hrun.trans (hmuted hm))⟩

/-! ### Ramps and the limiter (R143, R144) -/

/-- The gain in tick k of a ramp. -/
theorem Whip.gain_ramp {x : Whip} {k : Nat} (h : x.phase = .ramp k) :
    x.gain = sval x.curGain + roundNearest ((sval x.toGain - sval x.curGain) * (k + 1)) 16 := by
  simp only [Whip.gain, h]

/-- A target below the limiter's state is taken at once. -/
theorem Whip.limit_falls {x : Whip} {n : Nat} (h : n < x.r) : (x.limit n).r = n := if_pos h

/-- Otherwise the limiter recovers by a fraction of what lacks to 2^31 - 1. -/
theorem Whip.limit_recovers {x : Whip} {n : Nat} (h : x.r ≤ n) :
    (x.limit n).r = x.r + (2147483647 - x.r) / 2 ^ x.live.rshift := if_neg (Nat.not_lt.mpr h)

/-- Settles O31: a stage at rest by its pass, a ramp by its gain, the limiter by its two cases. -/
theorem whippingArithmetic : Obligations.WhippingArithmetic := by
  unfold Obligations.WhippingArithmetic
  intro i v g x s
  refine ⟨?_, fun k => Whip.gain_ramp, fun n hr => ⟨Whip.limit_falls, fun hn => ?_⟩⟩
  · rintro rfl hp hg hm hlim hdc hforced hwant ho
    exact State.runWhip_rests ⟨hp, hg, hm, hlim, hdc, hforced, hwant⟩ ho v g
  · have hstep : (2147483647 - x.r) / 2 ^ x.live.rshift ≤ 2147483647 - x.r := Nat.div_le_self _ _
    rw [Whip.limit_recovers hn]
    exact ⟨rfl, by omega⟩

end Sys2Proof.Machine
end

section
/-! SUPPORT. What a command answers on a node that is held in reset or whose clocks are stopped (08 R161, R175, 17 R375),
and the statement settled. -/

namespace Sys2Proof.Machine

open Sys2Proof.Claims

/-- An outcome of the two gates: of the core, which a node held in reset shuts, or of a unit on derived clocks. -/
inductive Gated (s : State) : Out → Prop
  | core (f : State → State) : Gated s (core f s)
  | clocked (f : State → State) : Gated s (clocked f s)

/-- Behind either gate a held node stays as it is. -/
theorem Gated.held {s : State} {o : Out} (h : Gated s o) (hh : s.held = true) : o = .next s := by
  cases h with
  | core f => exact core_held s f hh
  | clocked f => exact clocked_stopped s f (.inl hh)

/-- Every command but those that reach a held node stands behind a gate. -/
theorem exec_gated {i : Instr} (s : State) (hi : reachesHeld i = false) : Gated s (exec i s) := by
  cases i with
  | lockRead h wide a => exact .core fun s => s.issue (lockReq s h wide a)
  | unlock h wr wide a d => exact .core fun s => s.issue (unlockReq s h wr wide a d)
  | _ => cases hi <;> dsimp only [exec] <;> first | exact .clocked _ | exact .core _

/-- Every command of a unit on derived clocks stands behind their gate. -/
theorem exec_clocked {i : Instr} (s : State) (hi : needsClock i = true) : ∃ f, exec i s = clocked f s := by
  cases i <;> cases hi <;> (dsimp only [exec]; exact ⟨_, rfl⟩)

/-- A command that does not reach a held node changes nothing of it. -/
theorem exec_held {i : Instr} {s : State} (hi : reachesHeld i = false) (hs : s.held = true) : exec i s = .next s :=
  (exec_gated s hi).held hs

/-- A command that needs the derived clocks changes nothing while they are stopped. -/
theorem exec_stopped {i : Instr} {s : State} (hi : needsClock i = true) (hs : s.rclk = false) : exec i s = .next s := by
  obtain ⟨f, hf⟩ := exec_clocked s hi
  exact hf.trans (clocked_stopped s f (.inr hs))

/-- Where the front command changes nothing, a step takes it from the queue alone. -/
theorem step_stands {s : State} (h : ∀ i l, s.pending = i :: l → exec i { s with pending := l } = .next { s with pending := l }) :
    step s = .next { s with pending := s.pending.tail } := by
  cases hp : s.pending with
  | nil =>
    have hidle : step s = .next s := by simp only [step, hp]
    rw [hidle, List.tail_nil, ← hp]
  | cons i l => exact (step_cons s i l hp).trans (h i l hp)

/-- Settles O60: the front command stands behind a shut gate, and the rest of the queue is as before. -/
theorem stoppedNodeStands : Obligations.StoppedNodeStands := by
  unfold Obligations.StoppedNodeStands
  intro s hs
  refine ⟨_, step_stands fun i l hp => ?_, rfl, fun ⟨hheld, hq⟩ => ⟨hheld, fun c hc => hq c (List.mem_of_mem_tail hc)⟩,
    fun ⟨hclk, hq⟩ => ⟨hclk, fun c hc => hq c (List.mem_of_mem_tail hc)⟩⟩
  have hfront : i ∈ s.pending := hp ▸ List.mem_cons_self
  obtain ⟨hheld, hq⟩ | ⟨hclk, hq⟩ := hs
  · exact exec_held (hq i hfront) hheld
  · exact exec_stopped (hq i hfront) hclk

end Sys2Proof.Machine
end

section
/-! SUPPORT. What the selector, the DPLL and the conditions of the reference block may change (08 R165-R174, R180). -/

namespace Sys2Proof.Machine

/-- The fields that the selector and the DPLL may write, by key: REF_STATUS but its refusals; HO_FREQ, FOFF and PHERR; a
slot's SELECTED, DISAGREE and count SELECT; ACTIVE of REF_HOLDOVER and REF_DISAGREE. -/
abbrev selectorField (k : Nat) : Prop :=
  (k / 32 = 0x20004 ∧ k % 32 ≠ 11 ∧ k % 32 ≠ 12) ∨ k / 32 = 0x20020 ∨ k / 32 = 0x2002C ∨ k / 32 = 0x20030 ∨
    (0x20104 ≤ k / 32 ∧ k / 32 % 16 = 4 ∧ (k % 32 = 3 ∨ k % 32 = 6)) ∨
    (0x2010C ≤ k / 32 ∧ k / 32 % 16 = 12 ∧ k % 32 = 24) ∨
    k = (Reg.FLT_SRC.ACTIVE Src.REF_HOLDOVER).key ∨ k = (Reg.FLT_SRC.ACTIVE Src.REF_DISAGREE).key

/-- What a review of the slots and a change of the DPLL's state leave: every other field, the slots' records but their
counts of disagreement, the change of family, every event that has reached the collector, and all beyond. -/
structure Reselected (s t : State) : Prop where
  rest : t = { s with regs := t.regs, ref := t.ref, flt := { s.flt with arriving := t.flt.arriving } }
  fields : ∀ q : FieldRef, ¬ selectorField q.key → t.rd q = s.rd q
  slots : ∀ n, t.refSlot n = { s.refSlot n with disagree := (t.refSlot n).disagree }
  family : t.ref.family = s.ref.family
  events : s.flt.arriving <+: t.flt.arriving

/-- A slot's record as it was set. -/
@[simp] theorem State.refSlot_setRefSlot_same (s : State) (n : Nat) (x : RefSlot) : (s.setRefSlot n x).refSlot n = x := by
  simp [State.refSlot, State.setRefSlot]

/-- Setting a slot's record leaves every other. -/
theorem State.refSlot_setRefSlot_ne (s : State) {k n : Nat} (h : k ≠ n) (x : RefSlot) :
    (s.setRefSlot n x).refSlot k = s.refSlot k := by
  simp only [State.refSlot, State.setRefSlot]
  exact sget_sset_ne h _ _ _ _

namespace Reselected

variable {s t u : State}

theorem refl (s : State) : Reselected s s := ⟨rfl, fun _ _ => rfl, fun _ => rfl, rfl, List.prefix_refl _⟩

theorem trans (h : Reselected s t) (g : Reselected t u) : Reselected s u where
  rest := Eq.trans g.rest (congrArg (fun x : State =>
    { x with regs := u.regs, ref := u.ref, flt := { x.flt with arriving := u.flt.arriving } }) h.rest)
  fields q hq := (g.fields q hq).trans (h.fields q hq)
  slots n := by rw [g.slots n, h.slots n]
  family := g.family.trans h.family
  events := h.events.trans g.events

theorem wr (s : State) {f : FieldRef} (hf : selectorField f.key) (v : Nat) : Reselected s (s.wr f v) where
  rest := rfl
  fields q hq := s.rd_wr_ne (q := q) (fun h => hq (h.symm ▸ hf)) v
  slots _ := rfl
  family := rfl
  events := List.prefix_refl _

theorem onRef (s : State) (f : RefState → RefState) (hslot : ∀ r, (f r).slot = r.slot)
    (hfam : ∀ r, (f r).family = r.family) : Reselected s (s.onRef f) where
  rest := rfl
  fields _ _ := rfl
  slots n := by simp only [State.refSlot, State.onRef, hslot]
  family := hfam _
  events := List.prefix_refl _

theorem disagree (s : State) (k v : Nat) : Reselected s (s.setRefSlot k { s.refSlot k with disagree := v }) where
  rest := rfl
  fields _ _ := rfl
  slots n := by
    rcases eq_or_ne n k with rfl | h
    · rw [State.refSlot_setRefSlot_same]
    · rw [State.refSlot_setRefSlot_ne s h]
  family := rfl
  events := List.prefix_refl _

theorem raise (s : State) (n : Nat) : Reselected s (s.raise n) where
  rest := by rw [State.raise_eq]; rfl
  fields q _ := s.raise_rd n q
  slots k := by rw [State.refSlot, State.raise_ref]; rfl
  family := by rw [State.raise_ref]
  events := by
    rw [State.raise_eq, State.onFlt_flt]
    dsimp only
    split
    · exact List.prefix_append _ _
    · exact List.prefix_refl _

/-- Either branch of a choice. -/
theorem branch {c : Prop} [Decidable c] (h : Reselected s t) (g : Reselected s u) : Reselected s (if c then t else u) := by
  split
  · exact h
  · exact g

/-- A fold of such steps. -/
theorem foldl {α : Type} {f : State → α → State} (h : ∀ s a, Reselected s (f s a)) (l : List α) (s : State) :
    Reselected s (l.foldl f s) := foldl_related refl trans h l s

theorem condition (s : State) {n : Nat} (hn : n = Src.REF_HOLDOVER ∨ n = Src.REF_DISAGREE) (b : Bool) :
    Reselected s (s.condition n b) := by
  have hput : Reselected s (s.put (Reg.FLT_SRC.ACTIVE n) b) := by
    rcases hn with rfl | rfl <;> exact wr s (by decide) _
  exact branch (hput.trans (raise _ n)) hput

theorem setOutput (s : State) (y : Int) : Reselected s (s.setOutput y) :=
  (onRef s _ (by intro; rfl) (by intro; rfl)).trans (wr _ (by decide) _)

theorem setDpll (s : State) (st : Nat) : Reselected s (s.setDpll st) :=
  (branch (refl s) (onRef s _ (by intro; rfl) (by intro; rfl))).trans (wr _ (by decide) _)

theorem showDrift (s : State) : Reselected s s.showDrift := wr s (by decide) _

/-- SELECTED of any number is a field of the selector. -/
theorem selected_field (n : Nat) : selectorField (Reg.REFS_STATUS.SELECTED n).key := by
  simp only [selectorField, FieldRef.key, Reg.REFS_STATUS.SELECTED]; omega

theorem deselect (s : State) : Reselected s s.deselect := by
  have hsel : Reselected s (if s.on Reg.REF_STATUS.SEL_VALID then
      s.put (Reg.REFS_STATUS.SELECTED (s.rd Reg.REF_STATUS.SEL)) false else s) :=
    branch (wr s (selected_field _) _) (refl s)
  exact ((hsel.trans (wr _ (by decide) _)).trans (onRef _ _ (by intro; rfl) (by intro; rfl))).trans (showDrift _)

theorem holdAt (s : State) (f : Int × Bool) : Reselected s (s.holdAt f) :=
  (((setDpll s 5).trans (wr _ (by decide) _)).trans (wr _ (by decide) _)).trans (condition _ (.inl rfl) true)

theorem enterHoldover (s : State) : Reselected s s.enterHoldover :=
  (deselect s).trans (branch (refl _) (holdAt _ _))

theorem tetherHoldover (s : State) : Reselected s s.tetherHoldover := (deselect s).trans (holdAt _ _)

theorem selectSlot (s : State) (n : Nat) : Reselected s (s.selectSlot n) := by
  unfold State.selectSlot
  split
  · exact refl s
  dsimp only
  have hcount : selectorField (Reg.REFS_CNT.SELECT n).key := by
    simp only [selectorField, FieldRef.key, Reg.REFS_CNT.SELECT]; omega
  refine trans (trans ?_ (branch (setDpll _ 1) (branch (refl _) (setDpll _ 2)))) (showDrift _)
  refine trans (trans ?_ (condition _ (.inl rfl) false)) (onRef _ _ (by intro; rfl) (by intro; rfl))
  refine trans (trans ?_ (wr _ (f := Reg.REF_PHERR.PHERR) (by decide) _)) (raise _ Src.REF_SWITCH)
  refine trans ?_ (foldl (fun s k => disagree s k 0) (List.range 16) _)
  refine trans (trans ?_ (wr _ (selected_field n) _)) (wr _ hcount _)
  exact ((deselect s).trans (wr _ (f := Reg.REF_STATUS.SEL) (by decide) n)).trans
    (wr _ (f := Reg.REF_STATUS.SEL_VALID) (by decide) _)

theorem applyMode (s : State) : Reselected s s.applyMode := by
  unfold State.applyMode
  dsimp only
  split
  · split
    · split
      · split
        · exact selectSlot s _
        · exact refl s
      · exact refl s
    · split
      · exact selectSlot s _
      · exact branch (enterHoldover s) (refl s)
  · exact branch (selectSlot s _) (enterHoldover s)
  · exact enterHoldover s
  · exact ((deselect s).trans (setDpll _ 0)).trans (condition _ (.inl rfl) false)

theorem review (s : State) : Reselected s s.review := (branch (refl s) (applyMode s)).trans (showDrift _)

theorem standbyDpll (s : State) : Reselected s s.standbyDpll :=
  branch (refl s) (branch (branch (refl s) (((deselect s).trans (condition _ (.inl rfl) false)).trans (setDpll _ 6)))
    (branch (tetherHoldover s) (refl s)))

theorem countDisagree (s : State) : Reselected s s.countDisagree := by
  unfold State.countDisagree
  exact trans (foldl (fun s k => disagree s k _) _ s) (onRef _ _ (by intro; rfl) (by intro; rfl))

theorem showDisagree (s : State) : Reselected s s.showDisagree := by
  refine foldl (fun s n => wr s ?_ _) _ s
  simp only [selectorField, FieldRef.key, Reg.REFS_STATUS.DISAGREE]; omega

theorem disagreement (s : State) : Reselected s s.disagreement := by
  unfold State.disagreement
  split
  · exact refl s
  have hcount := countDisagree s
  dsimp only
  split
  · exact hcount.trans (branch ((wr _ (by decide) _).trans (condition _ (.inr rfl) false)) (refl _))
  have hshown := (hcount.trans (wr _ (f := Reg.REF_STATUS.DISAGREE) (by decide) true.toNat)).trans
    (condition _ (.inr rfl) true)
  split
  · exact hshown.trans (wr _ (by decide) _)
  · split
    · exact hshown
    · split
      · exact hshown.trans (branch (selectSlot _ _) (refl _))
      · exact hshown

theorem dpllSecond (s : State) (tether : Int) : Reselected s (s.dpllSecond tether) := by
  unfold State.dpllSecond
  exact trans (setOutput s _) (onRef _ _ (by intro; rfl) (by intro; rfl))

/-- The root's lock is shown, and the selector or the tether takes over (R161, R166, R175). -/
theorem rootAcquire (s : State) : Reselected (s.put Reg.CLK_STATUS.ROOT_LOCK true) s.rootAcquire := by
  unfold State.rootAcquire
  refine trans (trans ?_ (branch (standbyDpll _) (applyMode _))) (branch (refl _) (onRef _ _ (by intro; rfl) (by intro; rfl)))
  refine trans (trans ?_ (onRef _ _ (by intro; rfl) (by intro; rfl))) (setOutput _ 0)
  exact ((deselect _).trans (setDpll _ 0)).trans (condition _ (.inl rfl) false)

/-! ### What such a step leaves -/

theorem mem (h : Reselected s t) : t.mem = s.mem := (congrArg State.mem h.rest :)
theorem livePage (h : Reselected s t) : t.livePage = s.livePage := (congrArg State.livePage h.rest :)
theorem str (h : Reselected s t) : t.str = s.str := (congrArg State.str h.rest :)
theorem eng (h : Reselected s t) : t.eng = s.eng := (congrArg State.eng h.rest :)
theorem lp (h : Reselected s t) : t.lp = s.lp := (congrArg State.lp h.rest :)
theorem amp (h : Reselected s t) : t.amp = s.amp := (congrArg State.amp h.rest :)
theorem boot (h : Reselected s t) : t.boot = s.boot := (congrArg State.boot h.rest :)
theorem tick (h : Reselected s t) : t.tick = s.tick := (congrArg State.tick h.rest :)
theorem rclk (h : Reselected s t) : t.rclk = s.rclk := (congrArg State.rclk h.rest :)
theorem auditList (h : Reselected s t) : t.flt.auditList = s.flt.auditList :=
  (congrArg (fun x : State => x.flt.auditList) h.rest :)

theorem on (h : Reselected s t) {q : FieldRef} (hq : ¬ selectorField q.key) : t.on q = s.on q :=
  State.on_congr (h.fields q hq)

/-- STATE of a slot is no field of the selector. -/
theorem slotState (h : Reselected s t) (n : Nat) : t.slotState n = s.slotState n := by
  refine h.fields _ ?_
  simp only [selectorField, FieldRef.key, Reg.REFS_STATUS.STATE, Reg.FLT_SRC.ACTIVE, Src.REF_HOLDOVER, Src.REF_DISAGREE]
  omega

end Reselected

end Sys2Proof.Machine
end

section
/-! SUPPORT. What holds the core in reset (08 R161, 16 R369, R371, 17 R375), and the statement settled. -/

namespace Sys2Proof.Machine

open Sys2Proof.Claims

/-- A read of a map taken through a function that keeps the default. -/
theorem sget_map {V : Type} {d : V} {f : V → V} (hf : f d = d) (k : Nat) (m : SMap V) :
    sget d k (m.map fun p => (p.1, f p.2)) = f (sget d k m) := by
  unfold sget
  rw [sfind_map]
  cases sfind k m with
  | none => exact hf.symm
  | some v => rfl

/-- A fold whose steps over the listed items each stay within a reflexive and transitive relation stays within it. -/
theorem foldl_related_mem {α β : Type} {r : β → β → Prop} (hrefl : ∀ b, r b b)
    (htrans : ∀ {a b c}, r a b → r b c → r a c) {g : β → α → β} (l : List α) (h : ∀ b, ∀ a ∈ l, r b (g b a)) :
    ∀ b, r b (l.foldl g b) := by
  induction l with
  | nil => exact hrefl
  | cons a l ih =>
    obtain ⟨ha, hl⟩ := List.forall_mem_cons.mp fun a ha b => h b a ha
    exact fun b => htrans (ha b) (ih (fun b a ha => hl a ha b) (g b a))

/-! ### States that differ in registers, time bases, references and the fault collector alone -/

/-- Two states that differ in registers, time bases, references and the fault collector alone. -/
def ClockSide (s t : State) : Prop := t = { s with regs := t.regs, time := t.time, ref := t.ref, flt := t.flt }

namespace ClockSide

variable {s t u : State}

theorem refl (s : State) : ClockSide s s := rfl

theorem trans (h : ClockSide s t) (g : ClockSide t u) : ClockSide s u :=
  Eq.trans g (congrArg (fun x : State => { x with regs := u.regs, time := u.time, ref := u.ref, flt := u.flt }) h)

theorem of_regs (h : RegsOnly s t) : ClockSide s t := by
  unfold RegsOnly at h
  generalize t.regs = r at h
  subst h
  rfl

theorem of_reselected (h : Reselected s t) : ClockSide s t := by
  have hrest := h.rest
  generalize t.regs = r, t.ref = x, t.flt.arriving = l at hrest
  subst hrest
  rfl

theorem mem (h : ClockSide s t) : t.mem = s.mem := (congrArg State.mem h :)
theorem livePage (h : ClockSide s t) : t.livePage = s.livePage := (congrArg State.livePage h :)
theorem str (h : ClockSide s t) : t.str = s.str := (congrArg State.str h :)
theorem eng (h : ClockSide s t) : t.eng = s.eng := (congrArg State.eng h :)
theorem boot (h : ClockSide s t) : t.boot = s.boot := (congrArg State.boot h :)
theorem tick (h : ClockSide s t) : t.tick = s.tick := (congrArg State.tick h :)
theorem amp (h : ClockSide s t) : t.amp = s.amp := (congrArg State.amp h :)

end ClockSide

/-! ### The domains go to STEP (09 R184, R186) -/

/-- SOURCE of one of the four domains. -/
abbrev sourceField (k : Nat) : Prop := ∃ d < 4, k = (Reg.TIME_STATUS.SOURCE d).key

/-- What a change of the domains' source leaves. -/
structure Resourced (s t : State) : Prop where
  rest : t = { s with regs := t.regs, time := t.time }
  fields : ∀ q : FieldRef, ¬ sourceField q.key → t.rd q = s.rd q

namespace Resourced

variable {s t u : State}

theorem refl (s : State) : Resourced s s := ⟨rfl, fun _ _ => rfl⟩

theorem trans (h : Resourced s t) (g : Resourced t u) : Resourced s u where
  rest := Eq.trans g.rest (congrArg (fun x : State => { x with regs := u.regs, time := u.time }) h.rest)
  fields q hq := (g.fields q hq).trans (h.fields q hq)

theorem clockSide (h : Resourced s t) : ClockSide s t := by
  have hrest := h.rest
  generalize t.regs = r, t.time = m at hrest
  subst hrest
  rfl

/-- A change of the time bases alone. -/
theorem ofTime (s : State) (m : TimeState) : Resourced s { s with time := m } := ⟨rfl, fun _ _ => rfl⟩

theorem setDomain (s : State) (d : Nat) (x : Domain) : Resourced s (s.setDomain d x) := ofTime s _

theorem toStep (s : State) {d : Nat} (hd : d < 4) : Resourced s (s.toStep d) := by
  unfold State.toStep
  dsimp only
  split
  · exact refl s
  · exact (setDomain s d _).trans ⟨rfl, fun q hq => State.rd_put_ne _ (fun h => hq ⟨d, hd, h⟩) true⟩

theorem stepAt (s : State) (eclk sixteenth sc : Nat) : Resourced s (s.stepAt eclk sixteenth sc) := by
  unfold State.stepAt
  refine trans (ofTime s _ : Resourced s (s.runSc sc)) (foldl_related_mem refl trans _ (fun u d hd => ?_) _)
  split
  · exact refl u
  · exact (setDomain u d _).trans (toStep _ (List.mem_range.mp hd))

/-- The domains step only where the derived clocks still run. -/
theorem stepAtIf (s : State) (c : Bool) (eclk sixteenth sc : Nat) :
    Resourced s (if c then s.stepAt eclk sixteenth sc else s) := by
  split
  · exact stepAt s eclk sixteenth sc
  · exact refl s

end Resourced

/-! ### The clocks stop and the core is held -/

/-- Where the clocks stop: the root has no lock, and beyond the clock outputs, serial ports, lanes and drive channels all
is as before. -/
def ClocksOff (s t : State) : Prop := t = { s with
  regs := (s.put Reg.CLK_STATUS.ROOT_LOCK false).regs, rclk := false, clkOut := []
  ser := t.ser, lane := t.lane, amp := t.amp }

/-- A fold that changes lanes alone. -/
theorem foldl_lanes {g : State → Nat → State} (h : ∀ s n, g s n = { s with lane := (g s n).lane }) (l : List Nat)
    (s : State) : l.foldl g s = { s with lane := (l.foldl g s).lane } :=
  foldl_related (r := fun s t : State => t = { s with lane := t.lane }) (fun _ => rfl)
    (fun {_ _ c} h g => Eq.trans g (congrArg (fun x : State => { x with lane := c.lane }) h)) h l s

/-- The clocks are off once they have stopped. -/
theorem State.stopClocks_off (s : State) : ClocksOff s s.stopClocks := by
  unfold State.stopClocks
  dsimp only
  generalize hu : State.onAmp _ _ = u
  have hx := foldl_lanes (g := fun s n => if s.isFlx n then
    s.onLane n fun x => { x with out := [], outBytes := [], wire := [], codes := [] } else s)
    (fun s n => by split <;> rfl) (List.range 16) u
  generalize List.foldl _ u _ = t at hx
  rw [hx, ← hu]
  rfl

/-- A channel's pins are in their reset states. -/
theorem State.pinsOff_ampCh (s : State) (n : Nat) :
    s.pinsOff.ampCh n = { s.ampCh n with drive := .low, pse := false, rly := false } :=
  sget_map (f := fun x : AmpCh => { x with drive := .low, pse := false, rly := false }) rfl n s.amp.ch

/-- A reason to hold arises: the core is held for it, and every field but ROOT_LOCK reads as before. -/
theorem State.hold_holds (s : State) (f : BootState → BootState) : Held s (s.hold f) ∧ (s.hold f).boot = f s.boot ∧
    ∀ q : FieldRef, q.key ≠ Reg.CLK_STATUS.ROOT_LOCK.key → (s.hold f).rd q = s.rd q := by
  have hoff : ClocksOff (s.onBoot f) (s.onBoot f).stopClocks := State.stopClocks_off _
  have hpins := (s.onBoot f).stopClocks.pinsOff_ampCh
  have hhold : s.hold f = ({ (s.onBoot f).stopClocks.pinsOff with held := true }).dropFaultN := rfl
  generalize (s.onBoot f).stopClocks = u at hoff hpins hhold
  rw [hhold]
  have hregs : u.regs = (s.put Reg.CLK_STATUS.ROOT_LOCK false).regs := (congrArg State.regs hoff :)
  have hrd (q : FieldRef) : u.rd q = (s.put Reg.CLK_STATUS.ROOT_LOCK false).rd q := congrArg (sget q.reset q.key) hregs
  refine ⟨⟨rfl, (congrArg State.rclk hoff :), ?_, rfl, rfl, fun n => ?_, (congrArg State.mem hoff :),
    (congrArg State.livePage hoff :), (congrArg State.str hoff :), (congrArg State.eng hoff :)⟩,
    (congrArg State.boot hoff :), fun q hq => (hrd q).trans (State.rd_put_ne _ hq false)⟩
  · exact (State.on_congr (hrd _)).trans (State.on_put_same _ _ false (by decide))
  · change (u.pinsOff.ampCh n).drive = .low ∧ (u.pinsOff.ampCh n).pse = false ∧ (u.pinsOff.ampCh n).rly = false
    rw [hpins n]
    exact ⟨rfl, rfl, rfl⟩

/-- What a state holds for reset is held from any state with the same memories, strand store and engines. -/
theorem held_congr {s u t : State} (h : Held u t) (hc : ClockSide s u) : Held s t := by
  obtain ⟨hheld, hclk, hlock, hlow, hhold, hpins, hmem, hpage, hstr, heng⟩ := h
  exact ⟨hheld, hclk, hlock, hlow, hhold, hpins, hmem.trans hc.mem, hpage.trans hc.livePage, hstr.trans hc.str,
    heng.trans hc.eng⟩

/-! ### The clock monitor (R161) -/

/-- The record of the last event is two registers. -/
theorem State.setLast_regsOnly (s : State) (src level tick : Nat) (esc nobr : Bool) :
    RegsOnly s (s.setLast src level tick esc nobr) := rfl

/-- An event's record leaves every field below it. -/
theorem State.rd_setLast_below (s : State) {q : FieldRef} (hq : q.key < Reg.FLT_LAST_0.SRC.key) (src level tick : Nat)
    (esc nobr : Bool) : (s.setLast src level tick esc nobr).rd q = s.rd q := by
  have hne {f : FieldRef} (hf : Reg.FLT_LAST_0.SRC.key ≤ f.key) : q.key ≠ f.key := by omega
  simp only [State.setLast, State.put, State.rd_wr_ne _ (hne (f := Reg.FLT_LAST_0.SRC) (by decide)),
    State.rd_wr_ne _ (hne (f := Reg.FLT_LAST_0.LEVEL) (by decide)),
    State.rd_wr_ne _ (hne (f := Reg.FLT_LAST_0.ESCALATED) (by decide)),
    State.rd_wr_ne _ (hne (f := Reg.FLT_LAST_0.NOBR) (by decide)),
    State.rd_wr_ne _ (hne (f := Reg.FLT_LAST_0.CLASS) (by decide)),
    State.rd_wr_ne _ (hne (f := Reg.FLT_LAST_1.TICK) (by decide))]

/-- An event's record shows its source, level and tick. -/
theorem State.setLast_shows (s : State) (src level tick : Nat) (esc nobr : Bool) :
    let t := s.setLast src level tick esc nobr
    t.rd Reg.FLT_LAST_0.SRC = src % 2 ^ 8 ∧ t.rd Reg.FLT_LAST_0.LEVEL = level % 2 ^ 3 ∧
      t.rd Reg.FLT_LAST_1.TICK = tick % 2 ^ 32 := by
  refine ⟨?_, ?_, State.rd_wr_same _ _ _⟩
  · rw [State.setLast, State.rd_wr_ne _ (by decide), State.rd_wr_ne _ (by decide), State.rd_put_ne _ (by decide),
      State.rd_put_ne _ (by decide), State.rd_wr_ne _ (by decide), State.rd_wr_same]
    rfl
  · rw [State.setLast, State.rd_wr_ne _ (by decide), State.rd_wr_ne _ (by decide), State.rd_put_ne _ (by decide),
      State.rd_put_ne _ (by decide), State.rd_wr_same]
    rfl

/-- The first loss of a clock: its flag is set, its source is the last event, and the core is held. -/
structure ClockLost (s t : State) (flag : FieldRef) (src : Nat) : Prop where
  held : Held s t
  clk : t.boot.clk = true
  shown : t.on flag = true
  source : t.rd Reg.FLT_LAST_0.SRC = src % 2 ^ 8
  level : t.rd Reg.FLT_LAST_0.LEVEL = 4
  tick : t.rd Reg.FLT_LAST_1.TICK = s.tick % 2 ^ 32
  status : ∀ q : FieldRef, q.addr = 0x10004 → q.lo < 32 → q.key ≠ flag.key → q.key ≠ Reg.CLK_STATUS.ROOT_LOCK.key →
    t.rd q = s.rd q

/-- A loss of a clock while the core is not held for one. -/
theorem State.clockLoss_lost {s : State} (h : s.boot.clk = false) {flag : FieldRef} (ha : flag.addr = 0x10004)
    (hlo : flag.lo < 32) (hw : 1 ≤ flag.width) (hf : flag.key ≠ Reg.CLK_STATUS.ROOT_LOCK.key)
    (src eclk sixteenth sc : Nat) : ClockLost s (s.clockLoss flag src eclk sixteenth sc) flag src := by
  unfold State.clockLoss
  rw [if_neg (by simp [h])]
  dsimp only
  have hstep := Resourced.stepAtIf (s.put flag true) (s.put flag true).rclk eclk sixteenth sc
  generalize (if (s.put flag true).rclk then (s.put flag true).stepAt eclk sixteenth sc else s.put flag true) = u at hstep
  have hstepped : ClockSide s u := (ClockSide.of_regs (RegsOnly.put s flag true)).trans hstep.clockSide
  obtain ⟨hsrc, hlevel, htick⟩ := u.setLast_shows src 4 u.tick false false
  have hrecord := fun q hq => u.rd_setLast_below (q := q) hq src 4 u.tick false false
  have hside := hstepped.trans (ClockSide.of_regs (u.setLast_regsOnly src 4 u.tick false false))
  generalize u.setLast src 4 u.tick false false = v at hsrc hlevel htick hrecord hside
  have hsel := (Reselected.deselect v).trans (Reselected.setDpll _ 7)
  generalize (v.deselect).setDpll 7 = w at hsel
  obtain ⟨hheld, hboot, hfield⟩ := w.hold_holds fun b => { b with clk := true }
  have hstatus {q : FieldRef} (hqa : q.addr = 0x10004) (hql : q.lo < 32) (hq : q.key ≠ Reg.CLK_STATUS.ROOT_LOCK.key) :
      (w.hold fun b => { b with clk := true }).rd q = (s.put flag true).rd q := by
    have hkey : q.key = 0x10004 * 32 + q.lo := by rw [FieldRef.key, hqa]
    have hnsel : ¬ selectorField q.key := by
      simp only [selectorField, FieldRef.key, Reg.FLT_SRC.ACTIVE, Src.REF_HOLDOVER, Src.REF_DISAGREE] at hkey ⊢; omega
    have hbelow : q.key < Reg.FLT_LAST_0.SRC.key := by
      simp only [FieldRef.key, Reg.FLT_LAST_0.SRC] at hkey ⊢; omega
    have hnsrc : ¬ sourceField q.key := by
      rintro ⟨d, -, hd⟩
      simp only [FieldRef.key, Reg.TIME_STATUS.SOURCE] at hkey hd; omega
    rw [hfield q hq, hsel.fields q hnsel, hrecord q hbelow, hstep.fields q hnsrc]
  refine ⟨held_congr hheld (hside.trans (ClockSide.of_reselected hsel)), by rw [hboot], ?_, ?_, ?_, ?_, ?_⟩
  · exact (State.on_congr (hstatus ha hlo hf)).trans (State.on_put_same _ _ _ hw)
  · rw [hfield _ (by decide), hsel.fields _ (by decide), hsrc]
  · rw [hfield _ (by decide), hsel.fields _ (by decide)]; exact hlevel
  · rw [hfield _ (by decide), hsel.fields _ (by decide), htick, hstepped.tick]
  · exact fun q hqa hql hqf hq => (hstatus hqa hql hq).trans (State.rd_put_ne _ hqf _)

/-- A loss of a clock while the core is held for one sets its flag alone (log 129). -/
theorem State.clockLoss_again {s : State} (h : s.boot.clk = true) (flag : FieldRef) (src eclk sixteenth sc : Nat) :
    s.clockLoss flag src eclk sixteenth sc = s.put flag true := by
  unfold State.clockLoss
  exact if_pos h

/-! ### Supplies and temperature (R369, R371) -/

/-- A brown-out is recorded with its rail and lowest voltage, and the core is held for it. -/
theorem State.brownOut_holds (s : State) {r mv : Nat} (hr : r < 8) (hmv : mv < 4096) (eclk sixteenth sc : Nat) :
    let t := s.brownOut r mv eclk sixteenth sc
    Held s t ∧ t.boot.pwr = true ∧ t.rd Reg.PWR_LAST.RAIL = r ∧ t.rd Reg.PWR_LAST.MINV = mv ∧
      t.on Reg.PWR_LAST.VALID = true ∧ (r = 2 → t.boot.cold = true ∧ t.on Reg.PWR_LAST.AONLOST = true) := by
  unfold State.brownOut
  dsimp only
  have hstep := Resourced.stepAtIf s s.rclk eclk sixteenth sc
  generalize (if s.rclk then s.stepAt eclk sixteenth sc else s) = u at hstep
  generalize hlost : (u.boot.pwr && u.on Reg.PWR_LAST.AONLOST || decide (r = 2)) = lost
  have hrail : ((u.recordDip r mv).put Reg.PWR_LAST.AONLOST lost).rd Reg.PWR_LAST.RAIL = r % 2 ^ 3 := by
    rw [State.recordDip, State.rd_put_ne _ (by decide), State.rd_put_ne _ (by decide), State.rd_wr_ne _ (by decide),
      State.rd_wr_same]
    rfl
  have hminv : ((u.recordDip r mv).put Reg.PWR_LAST.AONLOST lost).rd Reg.PWR_LAST.MINV = mv % 2 ^ 12 := by
    rw [State.recordDip, State.rd_put_ne _ (by decide), State.rd_put_ne _ (by decide), State.rd_wr_same]
    rfl
  have hvalid : ((u.recordDip r mv).put Reg.PWR_LAST.AONLOST lost).on Reg.PWR_LAST.VALID = true := by
    rw [State.recordDip, State.on_put_ne _ (by decide), State.on_put_same _ _ _ (by decide)]
  have haon : ((u.recordDip r mv).put Reg.PWR_LAST.AONLOST lost).on Reg.PWR_LAST.AONLOST = lost :=
    State.on_put_same _ _ _ (by decide)
  have hside : ClockSide s ((u.recordDip r mv).put Reg.PWR_LAST.AONLOST lost) := hstep.clockSide.trans (ClockSide.of_regs rfl)
  generalize (u.recordDip r mv).put Reg.PWR_LAST.AONLOST lost = w at hrail hminv hvalid haon hside
  obtain ⟨hheld, hboot, hfield⟩ := w.hold_holds fun b => { b with pwr := true, cold := b.cold || decide (r = 2) }
  refine ⟨held_congr hheld hside, by rw [hboot], ?_, ?_, ?_, fun h2 => ⟨by rw [hboot]; simp [h2], ?_⟩⟩
  · rw [hfield _ (by decide), hrail]; exact Nat.mod_eq_of_lt hr
  · rw [hfield _ (by decide), hminv]; exact Nat.mod_eq_of_lt hmv
  · rw [State.on_congr (hfield _ (by decide)), hvalid]
  · rw [State.on_congr (hfield _ (by decide)), haon, ← hlost, h2]
    simp

/-- Settles O33: a loss of a clock, RST_N, a brown-out and a thermal shutdown each hold the core. -/
theorem causesThatHoldTheCore : Obligations.CausesThatHoldTheCore := by
  unfold Obligations.CausesThatHoldTheCore
  intro r mv k u sc s
  refine ⟨fun h => ?_, fun h => ?_, fun h => ?_, fun h => ?_, ?_, fun h3 h4 => ?_, fun h => ?_, ?_⟩
  · have hlost := State.clockLoss_lost (s := s.put Reg.CLK_STATUS.XO_OK false) h (flag := Reg.CLK_STATUS.XO_LOST) rfl
      (by decide) (by decide) (by decide) Src.CLK_XO k.toNat u.toNat sc
    have hok := (hlost.status Reg.CLK_STATUS.XO_OK rfl (by decide) (by decide) (by decide))
    exact ⟨_, rfl, held_congr hlost.held (ClockSide.of_regs (RegsOnly.put s _ _)), hlost.clk,
      (State.on_congr hok).trans (State.on_put_same _ _ _ (by decide)), hlost.shown, hlost.source, hlost.level, hlost.tick⟩
  · exact ⟨_, rfl, State.clockLoss_again (s := s.put Reg.CLK_STATUS.XO_OK false) h _ _ _ _ _⟩
  · have hlost := State.clockLoss_lost h (flag := Reg.CLK_STATUS.ROOT_UNLOCK) rfl
      (by decide) (by decide) (by decide) Src.CLK_ROOT k.toNat u.toNat sc
    exact ⟨_, rfl, hlost.held, hlost.clk, hlost.shown, hlost.source, hlost.level, hlost.tick⟩
  · exact ⟨_, rfl, State.clockLoss_again h _ _ _ _ _⟩
  · obtain ⟨hheld, hboot, -⟩ := s.hold_holds fun b => { b with rst := true, cold := true }
    exact ⟨_, rfl, hheld, by rw [hboot], by rw [hboot]⟩
  · have hr : ¬ (r.val = 3 ∨ r.val = 4) := by
      rintro (h | h)
      · exact h3 (Fin.ext h)
      · exact h4 (Fin.ext h)
    have hholds := s.brownOut_holds (r := r.val) (by omega) mv.isLt k.toNat u.toNat sc
    obtain ⟨hheld, hpwr, hrail, hminv, hvalid, haon⟩ := hholds
    exact ⟨_, congrArg Host.Outcome.next (if_neg hr), hheld, hpwr, hrail, hminv, hvalid,
      fun h2 => haon (congrArg Fin.val h2)⟩
  · have hr : r.val = 3 ∨ r.val = 4 := h.imp (congrArg Fin.val) (congrArg Fin.val)
    exact ⟨_, congrArg Host.Outcome.next (if_pos hr), rfl⟩
  · have hstep := Resourced.stepAtIf s s.rclk k.toNat u.toNat sc
    have hexec : exec (.thermalShutdown k u sc) s = .next (((if s.rclk then s.stepAt k.toNat u.toNat sc else s).put
      Reg.PWR_TEMP.SHUT_EV true).hold fun b => { b with temp := true }) := rfl
    generalize (if s.rclk then s.stepAt k.toNat u.toNat sc else s) = v at hstep hexec
    obtain ⟨hheld, hboot, hfield⟩ := (v.put Reg.PWR_TEMP.SHUT_EV true).hold_holds fun b => { b with temp := true }
    exact ⟨_, hexec, held_congr hheld (hstep.clockSide.trans (ClockSide.of_regs rfl)), by rw [hboot],
      (State.on_congr (hfield _ (by decide))).trans (State.on_put_same _ _ _ (by decide))⟩

end Sys2Proof.Machine
end

section
/-! SUPPORT. Starts and the releases that begin them (17 R374-R379, R387), and the statement settled. -/

namespace Sys2Proof.Machine

open Sys2Proof.Claims

variable {s : State}

/-! ### What a start leaves of the state (R379) -/

/-- What passes a filter at every value is found after it. -/
theorem sfind_filter_kept {V : Type} {p : Nat × V → Bool} {k : Nat} (h : ∀ v, p (k, v) = true) (m : SMap V) :
    sfind k (m.filter p) = sfind k m := by
  induction m with
  | nil => rfl
  | cons q r ih =>
    obtain ⟨j, w⟩ := q
    by_cases hj : j = k
    · subst hj
      simp [sfind, h w]
    · cases hp : p (j, w) <;> simp [sfind, hp, hj, ih]

/-- A field that is kept at every value reads as before. -/
theorem State.rd_cleared_kept (s : State) {keep : Nat → Nat → Bool} {q : FieldRef} (h : ∀ v, keep q.key v = true) :
    (s.cleared keep).rd q = s.rd q := by
  simp only [State.rd, sget, State.cleared]
  rw [sfind_filter_kept h]

/-- Beyond registers, time, references and faults a warm start keeps what the clearing of its blocks leaves. -/
theorem State.warmClear_side (s : State) : ClockSide (s.cleared warmKeeps) s.warmClear := by
  have hrail : ClockSide (s.cleared warmKeeps) (s.cleared warmKeeps).keepRail := by
    unfold State.keepRail
    split <;> rfl
  exact hrail.trans rfl

/-- CLK_STATUS outlasts a warm start, RELOCK apart. -/
theorem State.rd_warmClear_clock (s : State) {q : FieldRef} (ha : q.addr = 0x10004) (hlo : q.lo < 32)
    (hq : q.key ≠ Reg.CLK_STATUS.RELOCK.key) : s.warmClear.rd q = s.rd q := by
  have hkey : q.key = 0x10004 * 32 + q.lo := by rw [FieldRef.key, ha]
  have hkeep (v : Nat) : warmKeeps q.key v = true := by
    have hblock : q.key / 32 / 65536 = 1 := by omega
    simp only [warmKeeps, hblock]
  have hrail : (s.cleared warmKeeps).keepRail.rd q = (s.cleared warmKeeps).rd q := by
    unfold State.keepRail
    split
    · have hclass : q.key ≠ Reg.FLT_CLASS.PENDING.key := by
        simp only [FieldRef.key, Reg.FLT_CLASS.PENDING] at hkey ⊢; omega
      have hpend : q.key ≠ (Reg.FLT_PEND.PEND 0).key := by
        simp only [FieldRef.key, Reg.FLT_PEND.PEND] at hkey ⊢; omega
      exact (State.rd_wr_ne ((s.cleared warmKeeps).wr (Reg.FLT_PEND.PEND 0) 1) hclass (2 ^ faultClass 0)).trans
        (State.rd_wr_ne (s.cleared warmKeeps) hpend 1)
    · rfl
  have hfam : q.key ≠ Reg.REF_CTRL.FAMREQ.key := by
    simp only [FieldRef.key, Reg.REF_CTRL.FAMREQ] at hkey ⊢; omega
  rw [State.warmClear, State.rd_put_ne _ hfam, State.rd_put_ne _ hq]
  exact hrail.trans (s.rd_cleared_kept hkeep)

/-! ### Starts (R375, R376, R378) -/

/-- A start that begins shows its step, and whether it is a warm one. -/
theorem State.beginStart_shows (s : State) (warm : Bool) {n : Nat} (hn : n < 2 ^ 4) :
    (s.beginStart warm n).chipState = 2 ∧ (s.beginStart warm n).startStep = n ∧
      (s.beginStart warm n).on Reg.CHIP_STATE.WARM = warm := by
  have hstate : (s.beginStart warm n).chipState = 2 := by
    change (State.put _ _ warm).rd Reg.CHIP_STATE.STATE = 2
    rw [State.rd_put_ne _ (by decide), State.rd_wr_ne _ (by decide), State.rd_wr_same]
    rfl
  refine ⟨hstate, ?_, State.on_put_same _ _ _ (by decide)⟩
  rw [State.startStep, if_pos hstate]
  change (State.put _ _ warm).rd Reg.CHIP_STATE.STEP = n
  rw [State.rd_put_ne _ (by decide), State.rd_wr_same]
  exact Nat.mod_eq_of_lt hn

/-- The beginning of a start leaves every field but those of CHIP_STATE. -/
theorem State.rd_beginStart (s : State) (warm : Bool) (n : Nat) {q : FieldRef} (hq : q.key < 0x104 * 32 ∨ 0x105 * 32 ≤ q.key) :
    (s.beginStart warm n).rd q = s.rd q := by
  change (State.put _ _ warm).rd q = _
  have hne {f : FieldRef} (hf : 0x104 * 32 ≤ f.key ∧ f.key < 0x105 * 32) : q.key ≠ f.key := by omega
  rw [State.rd_put_ne _ (hne (by decide)), State.rd_wr_ne _ (hne (by decide)), State.rd_wr_ne _ (hne (by decide))]

/-- A cold start from step 1: only flash and memories outlast it, and the always-on domain. -/
theorem State.coldStart_begins (s : State) (aon : Bool) : ColdBegun s (s.coldStart aon) := by
  obtain ⟨hchip, hstep, hwarm⟩ := (s.coldClear aon).beginStart_shows false (n := 1) (by decide)
  exact ⟨rfl, rfl, hchip, hstep, hwarm, rfl, rfl, rfl, rfl, rfl, rfl, rfl⟩

/-- What a warm cause finds in a node that may start warm: the start begins, the clocks run where XO and root are good,
CLK_STATUS is as before, and `l` lists the sources to raise. -/
structure WarmStarted (s : State) (l : List Nat) (t : State) : Prop where
  begun : WarmBegun s t
  rclk : t.rclk = (s.on Reg.CLK_STATUS.XO_OK && s.on Reg.CLK_STATUS.ROOT_LOCK)
  notices : t.boot.notices = l
  clock : ∀ q : FieldRef, q.addr = 0x10004 → q.lo < 32 → q.key ≠ Reg.CLK_STATUS.RELOCK.key → t.rd q = s.rd q

/-- A warm start begins where neither HALT nor a cold start nor three attempts stand before it. -/
theorem State.warmStart_begins (hheld : s.held = false) (hmay : MayWarm s) : WarmStarted s s.boot.notices s.warmStart := by
  obtain ⟨-, hwarm, hfail⟩ := hmay
  have hcold : ¬ (s.chipState = 2 ∧ s.on Reg.CHIP_STATE.WARM = false) := fun ⟨h, hw⟩ => by
    rw [hwarm h] at hw; cases hw
  unfold State.warmStart
  rw [if_neg (by simp [hheld]), if_neg hcold]
  dsimp only
  rw [if_neg (by omega)]
  have hside := s.warmClear_side
  have hclock := fun q ha hlo hq => s.rd_warmClear_clock (q := q) ha hlo hq
  generalize s.warmClear = u at hside hclock
  generalize hrun : (s.on Reg.CLK_STATUS.XO_OK && s.on Reg.CLK_STATUS.ROOT_LOCK) = c
  obtain ⟨hchip, hstep, hon⟩ := ({ u with rclk := c }.wr Reg.BOOT_STATUS.WARMFAIL
    (s.rd Reg.BOOT_STATUS.WARMFAIL + 1)).beginStart_shows true (n := 2) (by decide)
  have hcount : ({ u with rclk := c }.wr Reg.BOOT_STATUS.WARMFAIL (s.rd Reg.BOOT_STATUS.WARMFAIL + 1)).rd
      Reg.BOOT_STATUS.WARMFAIL = s.rd Reg.BOOT_STATUS.WARMFAIL + 1 := by
    rw [State.rd_wr_same]
    exact Nat.mod_eq_of_lt (by change _ < 4; omega)
  refine ⟨⟨(congrArg State.held hside :).trans hheld, hchip, hstep, hon, rfl,
    (State.rd_beginStart _ _ _ (by decide)).trans hcount, (congrArg (fun x : State => x.boot.flash) hside :), hside.mem,
    hside.livePage, hside.str, hside.eng, hside.amp, hside.tick⟩, hrun.symm,
    (congrArg (fun x : State => x.boot.notices) hside :), fun q ha hlo hq => ?_⟩
  have hkey : q.key = 0x10004 * 32 + q.lo := by rw [FieldRef.key, ha]
  have hne : q.key ≠ Reg.BOOT_STATUS.WARMFAIL.key := by
    simp only [FieldRef.key, Reg.BOOT_STATUS.WARMFAIL] at hkey ⊢; omega
  exact ((State.rd_beginStart _ _ _ (.inr (by omega))).trans (State.rd_wr_ne _ hne _)).trans (hclock q ha hlo hq)

/-- A warm start leaves a held core as it is. -/
theorem State.warmStart_held (h : s.held = true) : s.warmStart = s := if_pos h

/-- A cold start past step 2 runs again from step 3. -/
theorem State.warmStart_again (hheld : s.held = false) (hchip : s.chipState = 2) (hwarm : s.on Reg.CHIP_STATE.WARM = false)
    (hstep : 3 ≤ s.startStep) : let t := s.warmStart
    t.chipState = 2 ∧ t.startStep = 3 ∧ t.on Reg.CHIP_STATE.WARM = false ∧ t.rclk = false ∧ t.mem = s.mem ∧ t.str = {} := by
  unfold State.warmStart
  rw [if_neg (by simp [hheld]), if_pos ⟨hchip, hwarm⟩, if_neg (by omega)]
  dsimp only
  obtain ⟨hc, hs, hw⟩ := ({ s.cleared (fun k _ => fusesKeep k) with time := {}, ref := {}, rclk := false, clkOut := [] } :
    State).beginStart_shows false (n := 3) (by decide)
  exact ⟨hc, hs, hw, rfl, rfl, rfl⟩

/-! ### The no-image state (R387) -/

/-- Memory, the hold and the reason of the no-image state are as before. -/
structure ReasonKept (s t : State) : Prop where
  mem : t.mem = s.mem
  held : t.held = s.held
  reason : t.rd Reg.BOOT_STATUS.NOIMG = s.rd Reg.BOOT_STATUS.NOIMG

namespace ReasonKept

variable {t u : State}

theorem refl (s : State) : ReasonKept s s := ⟨rfl, rfl, rfl⟩

theorem trans (h : ReasonKept s t) (g : ReasonKept t u) : ReasonKept s u :=
  ⟨g.mem.trans h.mem, g.held.trans h.held, g.reason.trans h.reason⟩

theorem wr (s : State) {f : FieldRef} (hf : Reg.BOOT_STATUS.NOIMG.key ≠ f.key) (v : Nat) : ReasonKept s (s.wr f v) :=
  ⟨rfl, rfl, s.rd_wr_ne hf v⟩

theorem vector (s : State) (v : Nat) : ReasonKept s (s.vector v) :=
  wr s (by simp only [FieldRef.key, Reg.BOOT_STATUS.NOIMG, Reg.HOST_IRQ_PEND.PEND]; omega) _

theorem opShow (s : State) (r : OpRun) : ReasonKept s (s.opShow r) :=
  ((wr s (by decide) _).trans (wr _ (by decide) _)).trans (wr _ (by decide) _)

theorem opEnd (s : State) (op : Nat) : ReasonKept s (s.opEnd op) := by
  have hctl (c : CtlState) : ReasonKept s { s with ctl := c } := ⟨rfl, rfl, rfl⟩
  unfold State.opEnd
  dsimp only
  split
  · refine trans (trans (trans ?_ (wr _ (by decide) _)) (wr _ (by decide) _)) (vector _ 1)
    split
    · exact (hctl _).trans (opShow _ _)
    · exact hctl _
  · exact refl s

theorem of_reselected (h : Reselected s t) : ReasonKept s t :=
  ⟨h.mem, (congrArg State.held h.rest :), h.fields _ (by decide)⟩

end ReasonKept

/-- CHIP_STATE shows the state that the chip enters; the reason of the no-image state stands. -/
theorem State.setChip_shows (s : State) {st : Nat} (hst : st < 2 ^ 4) :
    (s.setChip st).chipState = st ∧ ReasonKept s (s.setChip st) := by
  unfold State.setChip
  split
  · next h => exact ⟨h, ReasonKept.refl s⟩
  · refine ⟨?_, (ReasonKept.wr s (by decide) st).trans (ReasonKept.vector _ 1)⟩
    rw [State.chipState, State.vector, State.rd_wr_ne _ (by decide), State.rd_wr_same]
    exact Nat.mod_eq_of_lt hst

/-- The no-image state and its reason. -/
theorem State.enterNoImage_shows (s : State) {st reason : Nat} (hst : st < 2 ^ 4) (hr : reason < 2 ^ 4) :
    let t := s.enterNoImage st reason
    t.chipState = st ∧ t.rd Reg.BOOT_STATUS.NOIMG = reason ∧ t.held = s.held ∧ t.mem = s.mem := by
  have hreason : (s.slotClear.wr Reg.BOOT_STATUS.NOIMG reason).rd Reg.BOOT_STATUS.NOIMG = reason :=
    (State.rd_wr_same _ _ _).trans (Nat.mod_eq_of_lt hr)
  unfold State.enterNoImage
  dsimp only
  generalize hu : State.wr (State.wr (State.wr (State.put _ _ _) _ _) _ _) _ _ = u
  have hkept : ReasonKept (s.slotClear.wr Reg.BOOT_STATUS.NOIMG reason) u := by
    subst hu
    refine ReasonKept.trans ?_ (ReasonKept.wr _ (by decide) _)
    refine ReasonKept.trans ?_ (ReasonKept.wr _ (by decide) _)
    refine ReasonKept.trans ?_ (ReasonKept.wr _ (by decide) _)
    refine ReasonKept.trans ?_ (ReasonKept.wr _ (by decide) _)
    refine ReasonKept.trans ?_ (.of_reselected ((Reselected.setDpll _ _).trans (Reselected.setOutput _ _)))
    exact (ReasonKept.opEnd _ _).trans (ReasonKept.wr _ (by decide) _)
  obtain ⟨hchip, hset⟩ := u.setChip_shows hst
  have hall := hkept.trans hset
  exact ⟨hchip, hall.reason.trans hreason, hall.held, hall.mem⟩

/-- The attempt that follows three without step 10 enters the no-image state with reason 14. -/
theorem State.warmStart_fails (hheld : s.held = false) (hchip : s.chipState ≠ 2)
    (hfail : s.rd Reg.BOOT_STATUS.WARMFAIL = 3) : let t := s.warmStart
    t.chipState = 6 ∧ t.rd Reg.BOOT_STATUS.NOIMG = 14 ∧ t.held = false ∧ t.mem = s.mem := by
  unfold State.warmStart
  rw [if_neg (by simp [hheld]), if_neg (fun h => hchip h.1)]
  dsimp only
  rw [if_pos hfail]
  have hside := s.warmClear_side
  generalize s.warmClear = u at hside
  generalize hv : State.dropFaultN _ = v
  obtain ⟨h6, h14, hh, hm⟩ := v.enterNoImage_shows (st := 6) (reason := 14) (by decide) (by decide)
  refine ⟨h6, h14, hh.trans ?_, hm.trans ?_⟩
  · rw [← hv]; exact (congrArg State.held hside :).trans hheld
  · rw [← hv]; exact hside.mem

/-! ### Releases (R375) -/

section Releases

variable {f : BootState → BootState}

/-- A reason to hold is left. -/
def BootState.holds (b : BootState) : Bool := b.rst || b.clk || b.pwr || b.temp

/-- With another reason left the core stays held. -/
theorem State.release_stays (h : (f s.boot).holds = true) : s.release f = s.onBoot f := if_pos h

/-- With none left a cold start begins where one is called for. -/
theorem State.release_cold (h : (f s.boot).holds = false) (hc : s.boot.cold = true)
    (hflash : (f s.boot).flash = s.boot.flash) : ColdBegun s (s.release f) := by
  have hrelease : s.release f = (s.onBoot f).coldStart (!(s.on Reg.PWR_LAST.AONLOST && s.boot.pwr)) :=
    (if_neg (by rw [Bool.not_eq_true]; exact h)).trans (if_pos hc)
  rw [hrelease]
  obtain ⟨hheld, hclk, hchip, hstep, hwarm, hlow, hfl, hrest⟩ := (s.onBoot f).coldStart_begins
    (!(s.on Reg.PWR_LAST.AONLOST && s.boot.pwr))
  exact ⟨hheld, hclk, hchip, hstep, hwarm, hlow, hfl.trans hflash, hrest⟩

/-- With none left, and no cold start called for, a warm start begins. -/
theorem State.release_warm (h : (f s.boot).holds = false) (hc : s.boot.cold = false) (hmay : MayWarm s)
    (hflash : (f s.boot).flash = s.boot.flash) : WarmStarted s (f s.boot).notices (s.release f) := by
  have hrelease : s.release f = ({ s.onBoot f with held := false } : State).warmStart :=
    ((if_neg (by rw [Bool.not_eq_true]; exact h)).trans (if_neg (by simp [hc]))).trans (if_neg hmay.1)
  rw [hrelease]
  obtain ⟨⟨hheld, hchip, hstep, hwarm, hlow, hcount, hfl, hrest⟩, hclk, hnotices, hclock⟩ :=
    State.warmStart_begins (s := { s.onBoot f with held := false }) rfl hmay
  exact ⟨⟨hheld, hchip, hstep, hwarm, hlow, hcount, hfl.trans hflash, hrest⟩, hclk, hnotices, hclock⟩

end Releases

/-- Whether a node may start warm is read from CHIP_STATE and WARMFAIL. -/
theorem mayWarm_congr {u : State} (h : MayWarm s)
    (hstate : u.rd Reg.CHIP_STATE.STATE = s.rd Reg.CHIP_STATE.STATE)
    (hwarm : u.rd Reg.CHIP_STATE.WARM = s.rd Reg.CHIP_STATE.WARM)
    (hfail : u.rd Reg.BOOT_STATUS.WARMFAIL = s.rd Reg.BOOT_STATUS.WARMFAIL) : MayWarm u := by
  unfold MayWarm State.chipState State.on
  rw [hstate, hwarm, hfail]
  exact h

/-! ### The commands -/

/-- XO_RECOVERY acquires the root before it releases the core. -/
theorem execXoRecovery_eq (h : s.boot.clk = true) : exec .xoRecovery s = .next
    (({ s.put Reg.CLK_STATUS.XO_OK true with rclk := true } : State).rootAcquire.release fun b => { b with clk := false }) :=
  congrArg Host.Outcome.next (if_pos h)

/-- What the acquired root leaves of a node whose clock has recovered. -/
structure Recovered (s u : State) : Prop where
  acquired : Reselected (({ s.put Reg.CLK_STATUS.XO_OK true with rclk := true } : State).put Reg.CLK_STATUS.ROOT_LOCK true) u
  fields : ∀ q : FieldRef, ¬ selectorField q.key → q.key ≠ Reg.CLK_STATUS.XO_OK.key → q.key ≠ Reg.CLK_STATUS.ROOT_LOCK.key →
    u.rd q = s.rd q
  ok : u.on Reg.CLK_STATUS.XO_OK = true
  lock : u.on Reg.CLK_STATUS.ROOT_LOCK = true

theorem State.recovered (s : State) :
    Recovered s ({ s.put Reg.CLK_STATUS.XO_OK true with rclk := true } : State).rootAcquire := by
  have hacq := Reselected.rootAcquire ({ s.put Reg.CLK_STATUS.XO_OK true with rclk := true } : State)
  refine ⟨hacq, fun q hq hx hl => ?_, ?_, ?_⟩
  · exact ((hacq.fields q hq).trans (State.rd_put_ne _ hl _)).trans (State.rd_put_ne s hx true)
  · exact (hacq.on (by decide)).trans ((State.on_put_ne _ (by decide) _).trans 
      (State.on_put_same s Reg.CLK_STATUS.XO_OK true (by decide)))
  · exact (hacq.on (by decide)).trans (State.on_put_same _ _ _ (by decide))

/-- The power comes up on a node in its reset state, but for the flash, the queue, the last answer of the bus and the free
values (17 R375). -/
theorem execPowerOn_reset (s : State) : exec .powerOn s = .next { State.reset with
    pending := s.pending, bus := s.bus, free := s.free
    boot := { State.reset.boot with flash := s.boot.flash, flashSize := s.boot.flashSize } } := by
  have hnone : s.regs.filter (fun _ => false) = [] := List.filter_eq_nil_iff.mpr (by simp)
  change Host.Outcome.next (State.coldStart _ false) = _
  simp only [State.cleared, hnone]
  rfl

/-- XO_RECOVERY as the last reason: a warm start whose root has lock. -/
theorem xoRecovery_warm (hh : HeldFor s false true false false) (hc : s.boot.cold = false) (hmay : MayWarm s) :
    Answers .xoRecovery s fun t =>
      WarmBegun s t ∧ t.rclk = true ∧ t.on Reg.CLK_STATUS.XO_OK = true ∧ t.on Reg.CLK_STATUS.ROOT_LOCK = true := by
  obtain ⟨hrst, hclk, hpwr, htemp⟩ := hh
  obtain ⟨hacq, hfields, hok, hlock⟩ := s.recovered
  refine ⟨_, execXoRecovery_eq hclk, ?_⟩
  generalize ({ s.put Reg.CLK_STATUS.XO_OK true with rclk := true } : State).rootAcquire = u at hacq hfields hok hlock
  have hboot : u.boot = s.boot := hacq.boot
  have hmay' : MayWarm u := mayWarm_congr hmay (hfields _ (by decide) (by decide) (by decide))
    (hfields _ (by decide) (by decide) (by decide)) (hfields _ (by decide) (by decide) (by decide))
  obtain ⟨⟨hheld, hchip, hstep, hwarm, hlow, hcount, hflash, hmem, hpage, hrest⟩, hrun, -, hclock⟩ :=
    State.release_warm (s := u) (f := fun b => { b with clk := false })
      (by simp [BootState.holds, hboot, hrst, hpwr, htemp]) (hboot ▸ hc) hmay' rfl
  refine ⟨⟨hheld, hchip, hstep, hwarm, hlow, hcount.trans ?_, hflash.trans (congrArg BootState.flash hboot),
    hmem.trans hacq.mem, hpage.trans hacq.livePage, hrest⟩, hrun.trans (by rw [hok, hlock]; rfl), ?_, ?_⟩
  · rw [hfields _ (by decide) (by decide) (by decide)]
  · exact (State.on_congr (hclock _ rfl (by decide) (by decide))).trans hok
  · exact (State.on_congr (hclock _ rfl (by decide) (by decide))).trans hlock

/-- XO_RECOVERY as the last reason where a cold start is called for. -/
theorem xoRecovery_cold (hh : HeldFor s false true false false) (hc : s.boot.cold = true) :
    Answers .xoRecovery s fun t => ColdBegun s t := by
  obtain ⟨hrst, hclk, hpwr, htemp⟩ := hh
  obtain ⟨hacq, -, -, -⟩ := s.recovered
  refine ⟨_, execXoRecovery_eq hclk, ?_⟩
  generalize ({ s.put Reg.CLK_STATUS.XO_OK true with rclk := true } : State).rootAcquire = u at hacq
  have hboot : u.boot = s.boot := hacq.boot
  obtain ⟨hheld, hrun, hchip, hstep, hwarm, hlow, hflash, hmem, hrest⟩ :=
    State.release_cold (s := u) (f := fun b => { b with clk := false })
      (by simp [BootState.holds, hboot, hrst, hpwr, htemp]) (hboot ▸ hc) rfl
  exact ⟨hheld, hrun, hchip, hstep, hwarm, hlow, hflash.trans (congrArg BootState.flash hboot), hmem.trans hacq.mem, hrest⟩

/-- BROWNOUT_RELEASE records the lowest voltage of the dip and the event to raise, and releases the core. -/
theorem execBrownoutRelease_eq (mv : BitVec 12) (h : s.boot.pwr = true) : exec (.brownoutRelease mv) s = .next
    (((s.wr Reg.PWR_LAST.MINV (min mv.toNat (s.rd Reg.PWR_LAST.MINV))).onBoot fun b =>
      { b with notices := b.notices ++ [Src.PWR_BROWNOUT] }).release fun b => { b with pwr := false }) :=
  congrArg Host.Outcome.next (if_pos h)

/-- BROWNOUT_RELEASE as the last reason: a warm start, and the brown-out to raise. -/
theorem brownoutRelease_warm (mv : BitVec 12) (hh : HeldFor s false false true false) (hc : s.boot.cold = false)
    (hmay : MayWarm s) : Answers (.brownoutRelease mv) s fun t => WarmBegun s t ∧ Src.PWR_BROWNOUT ∈ t.boot.notices := by
  obtain ⟨hrst, hclk, hpwr, htemp⟩ := hh
  refine ⟨_, execBrownoutRelease_eq mv hpwr, ?_⟩
  generalize min mv.toNat (s.rd Reg.PWR_LAST.MINV) = n
  have hrd {q : FieldRef} (hq : q.key ≠ Reg.PWR_LAST.MINV.key) : ((s.wr Reg.PWR_LAST.MINV n).onBoot fun b =>
      { b with notices := b.notices ++ [Src.PWR_BROWNOUT] }).rd q = s.rd q := s.rd_wr_ne hq n
  obtain ⟨⟨hheld, hchip, hstep, hwarm, hlow, hcount, hrest⟩, -, hnotices, -⟩ :=
    State.release_warm (s := (s.wr Reg.PWR_LAST.MINV n).onBoot fun b =>
      { b with notices := b.notices ++ [Src.PWR_BROWNOUT] }) (f := fun b => { b with pwr := false })
      (by simp [BootState.holds, hrst, hclk, htemp]) hc
      (mayWarm_congr hmay (hrd (by decide)) (hrd (by decide)) (hrd (by decide))) rfl
  exact ⟨⟨hheld, hchip, hstep, hwarm, hlow, hcount.trans (by rw [hrd (by decide)]), hrest⟩, by rw [hnotices]; simp⟩

/-- THERMAL_RESTART as the last reason: a warm start, and the shutdown to raise. -/
theorem thermalRestart_warm (hh : HeldFor s false false false true) (hc : s.boot.cold = false) (hmay : MayWarm s) :
    Answers .thermalRestart s fun t => WarmBegun s t ∧ Src.TEMP_SHUT ∈ t.boot.notices := by
  obtain ⟨hrst, hclk, hpwr, htemp⟩ := hh
  obtain ⟨hbegun, -, hnotices, -⟩ :=
    State.release_warm (s := s.onBoot fun b => { b with notices := b.notices ++ [Src.TEMP_SHUT] })
      (f := fun b => { b with temp := false }) (by simp [BootState.holds, hrst, hclk, hpwr]) hc hmay rfl
  exact ⟨_, congrArg Host.Outcome.next (if_pos htemp), hbegun, by rw [hnotices]; simp⟩

/-- Settles O34: each release and each cause of a start by what it begins. -/
theorem releasesAndStarts : Obligations.ReleasesAndStarts := by
  unfold Obligations.ReleasesAndStarts
  intro mv s
  refine ⟨fun hh hc => ?_, fun hr ho => ?_, fun hr => ?_, xoRecovery_warm, xoRecovery_cold, fun hr => ?_,
    brownoutRelease_warm mv, fun hh hc => ?_, thermalRestart_warm, fun hheld hmay => ?_, fun hheld => ?_,
    fun hheld hchip hfail => ?_, fun hheld hchip hwarm hstep => ?_, ⟨_, execPowerOn_reset s, rfl⟩⟩
  · obtain ⟨hrst, hclk, hpwr, htemp⟩ := hh
    exact ⟨_, congrArg Host.Outcome.next (if_pos hrst), State.release_cold (by simp [BootState.holds, hclk, hpwr, htemp]) hc rfl⟩
  · exact ⟨_, congrArg Host.Outcome.next (if_pos hr), State.release_stays (by simpa [BootState.holds, or_assoc] using ho)⟩
  · exact ⟨_, congrArg Host.Outcome.next (if_neg (by simp [hr])), rfl⟩
  · exact ⟨_, congrArg Host.Outcome.next (if_neg (by simp [hr])), rfl⟩
  · obtain ⟨hrst, hclk, hpwr, htemp⟩ := hh
    exact ⟨_, execBrownoutRelease_eq mv hpwr, State.release_cold (by simp [BootState.holds, hrst, hclk, htemp]) hc rfl⟩
  · obtain ⟨hbegun, -, -, -⟩ := State.warmStart_begins hheld hmay
    exact ⟨⟨_, rfl, hbegun⟩, ⟨_, rfl, hbegun⟩⟩
  · have hstay := State.warmStart_held hheld
    exact ⟨⟨_, rfl, hstay⟩, ⟨_, rfl, hstay⟩⟩
  · have hout := State.warmStart_fails hheld hchip hfail
    exact ⟨⟨_, rfl, hout⟩, ⟨_, rfl, hout⟩⟩
  · have hagain := State.warmStart_again hheld hchip hwarm hstep
    exact ⟨⟨_, rfl, hagain⟩, ⟨_, rfl, hagain⟩⟩

end Sys2Proof.Machine
end

section
/-! SUPPORT. What the events and measurements of a reference slot change, and what they leave of the others
(08 R162-R165). -/

namespace Sys2Proof.Machine

open Sys2Proof.Claims

variable {s t u : State}

/-! ### Events (R162, R163) -/

/-- The phase error that an accepted event gives: on a FREF_IN slot PPS_IN alone gives one. -/
def State.eventPhase (s : State) (n edge : Nat) (phase : Int) (pps : Bool) : Int :=
  if decide (s.rd (Reg.REFS_CFG.SRC n) = 0x21) && !pps then (s.refSlot n).phase else s.targetPhase n edge phase

/-- An event of a slot that is off changes nothing. -/
theorem State.refEvent_off {n : Nat} (h : s.slotState n = 0) {dep phase : Int} {pps : Bool} {frames : Nat} :
    s.refEvent n dep phase pps frames = s := if_pos h

/-- An event outside the window is discarded and counted. -/
theorem State.refEvent_discarded {n : Nat} (h : s.slotState n ≠ 0) {dep : Int}
    (hw : s.rd Reg.REF_PHWIN.WIN * 1000 < dep.natAbs) {phase : Int} {pps : Bool} {frames : Nat} :
    s.refEvent n dep phase pps frames =
      (s.setRefSlot n { s.refSlot n with discards := (s.refSlot n).discards + 1 }).bump (Reg.REFS_CNT.GLITCH n) 1 :=
  (if_neg h).trans (if_pos hw)

/-- Showing the selected slot's phase. -/
theorem Reselected.showPhase (s : State) (b : Bool) (e : Int) :
    Reselected s (if b then s.wrInt Reg.REF_PHERR.PHERR e else s) :=
  Reselected.branch (Reselected.wr s (f := Reg.REF_PHERR.PHERR) (by decide) _) (Reselected.refl s)

/-- An event inside the window ends the discards and gives the phase; PPS_IN clears PPS_LOST, any other event is activity;
beyond that the phase of the selected slot is shown. -/
theorem State.refEvent_accepted {n : Nat} (h : s.slotState n ≠ 0) {dep : Int}
    (hw : dep.natAbs ≤ s.rd Reg.REF_PHWIN.WIN * 1000) (phase : Int) (pps : Bool) (frames : Nat) :
    ∃ edge, let u := s.setRefSlot n { s.refSlot n with
        discards := 0, phase := s.eventPhase n edge phase pps, edge := edge }
      Reselected (if decide (s.rd (Reg.REFS_CFG.SRC n) = 0x21) && pps then u.put (Reg.REFS_STATUS.PPS_LOST n) false
        else u.slotActive n) (s.refEvent n dep phase pps frames) := by
  refine ⟨if s.slotState n = 1 then 0 else ((s.refSlot n).edge + frames) % 10000, ?_⟩
  unfold State.refEvent
  rw [if_neg h, if_neg (Nat.not_lt.mpr hw)]
  exact Reselected.showPhase _ _ _

/-- What every step of the table of R165 keeps, the table keeps: it shows the family, then sets the slot's state or its record. -/
theorem State.measureSlot_related {r : State → State → Prop} (hrefl : ∀ s, r s s)
    (htrans : ∀ {s t u}, r s t → r t u → r s u) {n : Nat} (hfam : ∀ s v, r s (s.wr (Reg.REFS_STATUS.FAMILY n) v))
    (hset : ∀ s st v, r s (s.setSlotState n st v)) (hrec : ∀ s x, r s (s.setRefSlot n x)) (s : State) (f : Int)
    (fam : Nat) : r s (s.measureSlot n f fam) := by
  have hshown : r s (if servesBoth (s.rd (Reg.REFS_CFG.SRC n)) = true then s else s.wr (Reg.REFS_STATUS.FAMILY n) fam) := by
    split
    · exact hrefl s
    · exact hfam s fam
  unfold State.measureSlot
  dsimp only
  generalize (if servesBoth (s.rd (Reg.REFS_CFG.SRC n)) = true then s else s.wr (Reg.REFS_STATUS.FAMILY n) fam) = u
    at hshown ⊢
  refine htrans hshown ?_
  have hnoted (st v : Nat) (x : RefSlot) : r u ((u.setSlotState n st v).setRefSlot n x) :=
    htrans (hset u st v) (hrec _ x)
  have hif {c : Prop} [Decidable c] {a b : State} (ha : r u a) (hb : r u b) : r u (if c then a else b) := by
    split
    · exact ha
    · exact hb
  split
  · exact hif (hset u _ _) (hif (hset u _ _) (hset u _ _))
  · exact hif (hset u _ _) (hif (hset u _ _) (hset u _ _))
  · exact hif (hset u _ _) (hif (hset u _ _) (hif (hnoted _ _ _) (hrefl u)))
  · exact hif (hset u _ _) (hif (hset u _ _) (hif (hrec u _) (hif (hnoted _ _ _) (hrec u _))))
  · exact hif (hset u _ _) (hrefl u)
  · exact hrefl u

/-! ### What is left of the other slots -/

/-- STATUS, FREQ and CNT of a slot, by key. -/
abbrev slotField (n k : Nat) : Prop := 0x20104 + n * 0x10 ≤ k / 32 ∧ k / 32 < 0x20110 + n * 0x10

/-- What the events of other slots, and the reviews that follow them, leave of slot k and of the node. -/
structure SlotKept (k : Nat) (s t : State) : Prop where
  rest : t = { s with regs := t.regs, ref := t.ref, flt := { s.flt with arriving := t.flt.arriving } }
  fields : ∀ q : FieldRef, ¬ selectorField q.key → (∀ n, n ≠ k → ¬ slotField n q.key) → t.rd q = s.rd q
  slot : t.refSlot k = { s.refSlot k with disagree := (t.refSlot k).disagree }

/-- A field of the slots' registers at another bit than SELECTED, DISAGREE, SELECT and an ACTIVE is none of the selector. -/
theorem not_selectorField {q : FieldRef} (ha : 0x20100 ≤ q.addr) (hlo : q.lo < 32)
    (hbit : q.lo ≠ 3 ∧ q.lo ≠ 5 ∧ q.lo ≠ 6 ∧ q.lo ≠ 24) : ¬ selectorField q.key := by
  simp only [selectorField, FieldRef.key, Reg.FLT_SRC.ACTIVE, Src.REF_HOLDOVER, Src.REF_DISAGREE]
  omega

namespace SlotKept

variable {k n : Nat}

theorem refl (k : Nat) (s : State) : SlotKept k s s := ⟨rfl, fun _ _ _ => rfl, rfl⟩

theorem trans (h : SlotKept k s t) (g : SlotKept k t u) : SlotKept k s u where
  rest := Eq.trans g.rest (congrArg (fun x : State =>
    { x with regs := u.regs, ref := u.ref, flt := { x.flt with arriving := u.flt.arriving } }) h.rest)
  fields q hq hn := (g.fields q hq hn).trans (h.fields q hq hn)
  slot := by rw [g.slot, h.slot]

theorem of_reselected (h : Reselected s t) : SlotKept k s t := ⟨h.rest, fun q hq _ => h.fields q hq, h.slots k⟩

theorem wr (s : State) {f : FieldRef} (hn : n ≠ k) (hf : slotField n f.key) (v : Nat) : SlotKept k s (s.wr f v) where
  rest := rfl
  fields q _ hq := s.rd_wr_ne (q := q) (fun h => hq n hn (h.symm ▸ hf)) v
  slot := rfl

theorem setRefSlot (s : State) (hn : n ≠ k) (x : RefSlot) : SlotKept k s (s.setRefSlot n x) where
  rest := rfl
  fields _ _ _ := rfl
  slot := by rw [State.refSlot_setRefSlot_ne s hn.symm]

/-- Either branch of a choice. -/
theorem branch {c : Prop} [Decidable c] (h : SlotKept k s t) (g : SlotKept k s u) : SlotKept k s (if c then t else u) := by
  split
  · exact h
  · exact g

/-- A field below the slots' registers that the selector does not write. -/
theorem low (h : SlotKept k s t) {q : FieldRef} (hq : q.key < 0x20104 * 32) (hs : ¬ selectorField q.key) : t.rd q = s.rd q :=
  h.fields q hs fun n _ hn => by unfold slotField at hn; omega

theorem boot (h : SlotKept k s t) : t.boot = s.boot := (congrArg State.boot h.rest :)
theorem auditList (h : SlotKept k s t) : t.flt.auditList = s.flt.auditList :=
  (congrArg (fun x : State => x.flt.auditList) h.rest :)

theorem mult (h : SlotKept k s t) : t.mult = s.mult := h.low (by decide) (by decide)

theorem rate (h : SlotKept k s t) : t.rate = s.rate := by
  rw [State.rate, State.rate, h.mult, h.low (by decide) (by decide)]

/-- A field of slot k that the selector does not write. -/
theorem own (h : SlotKept k s t) {q : FieldRef} (hq : 0x20100 + k * 0x10 ≤ q.key / 32 ∧ q.key / 32 < 0x20110 + k * 0x10)
    (hs : ¬ selectorField q.key) : t.rd q = s.rd q :=
  h.fields q hs fun n hne hn => by unfold slotField at hn; omega

theorem src (h : SlotKept k s t) : t.rd (Reg.REFS_CFG.SRC k) = s.rd (Reg.REFS_CFG.SRC k) := by
  refine h.own ?_ (not_selectorField ?_ ?_ ?_)
  all_goals simp only [FieldRef.key, Reg.REFS_CFG.SRC]; omega

theorem nom (h : SlotKept k s t) : t.rd (Reg.REFS_CFG.NOM k) = s.rd (Reg.REFS_CFG.NOM k) := by
  refine h.own ?_ (not_selectorField ?_ ?_ ?_)
  all_goals simp only [FieldRef.key, Reg.REFS_CFG.NOM]; omega

theorem slotState (h : SlotKept k s t) : t.slotState k = s.slotState k := by
  refine h.own ?_ (not_selectorField ?_ ?_ ?_)
  all_goals simp only [FieldRef.key, Reg.REFS_STATUS.STATE]; omega

/-- What is read of slot k at a gate is the same. -/
theorem measured (h : SlotKept k s t) (hy : t.ref.y = s.ref.y) {m : RefMeas} (hm : m.slot.val = k) :
    t.measured m = s.measured m := by
  have hfam : t.rd Reg.CLK_STATUS.FAMILY = s.rd Reg.CLK_STATUS.FAMILY := h.low (by decide) (by decide)
  have hgate : (t.refSlot k).gate = (s.refSlot k).gate := (congrArg RefSlot.gate h.slot :)
  have hphase : (t.refSlot k).phase = (s.refSlot k).phase := (congrArg RefSlot.phase h.slot :)
  unfold State.measured State.nearer
  simp only [hm, h.src, h.nom, hfam, hgate, hphase, h.rate, h.mult, hy]

theorem acceptTime (h : SlotKept k s t) : t.acceptTime = s.acceptTime := by
  unfold State.acceptTime
  rw [h.boot, h.low (q := Reg.CHIP_STATE.STATE) (by decide) (by decide),
    h.low (q := Reg.REF_TIME.START_ACCEPT) (by decide) (by decide),
    h.low (q := Reg.REF_TIME.ACCEPT_TIME) (by decide) (by decide)]

/-! ### Events -/

/-- The state, the accept timer and the rejections of another slot. -/
theorem setSlotState (s : State) (hn : n ≠ k) (st v : Nat) : SlotKept k s (s.setSlotState n st v) := by
  have hstate : slotField n (Reg.REFS_STATUS.STATE n).key := by
    simp only [slotField, FieldRef.key, Reg.REFS_STATUS.STATE]; omega
  have htime : slotField n (Reg.REFS_STATUS.QTIME n).key := by
    simp only [slotField, FieldRef.key, Reg.REFS_STATUS.QTIME]; omega
  have hcount : slotField n (Reg.REFS_CNT.REJECT n).key := by
    simp only [slotField, FieldRef.key, Reg.REFS_CNT.REJECT]; omega
  have hrej : SlotKept k s (if st = 5 ∧ s.slotState n ≠ 5 then s.bump (Reg.REFS_CNT.REJECT n) 1 else s) :=
    branch (wr s hn hcount _) (refl k s)
  exact (hrej.trans (wr _ hn hstate st)).trans (wr _ hn htime _)

theorem slotLost (s : State) (hn : n ≠ k) : SlotKept k s (s.slotLost n) := by
  have hcount : slotField n (Reg.REFS_CNT.LOSS n).key := by
    simp only [slotField, FieldRef.key, Reg.REFS_CNT.LOSS]; omega
  refine branch (trans ?_ (of_reselected (Reselected.review _))) (refl k s)
  exact trans (trans (setSlotState s hn 1 0) (wr _ hn hcount _)) (setRefSlot _ hn _)

theorem slotActive (s : State) (hn : n ≠ k) : SlotKept k s (s.slotActive n) :=
  branch ((setSlotState s hn 2 0).trans (of_reselected (Reselected.review _))) (refl k s)

theorem refEvent (s : State) (hn : n ≠ k) (dep phase : Int) (pps : Bool) (frames : Nat) :
    SlotKept k s (s.refEvent n dep phase pps frames) := by
  have hglitch : slotField n (Reg.REFS_CNT.GLITCH n).key := by
    simp only [slotField, FieldRef.key, Reg.REFS_CNT.GLITCH]; omega
  have hpps : slotField n (Reg.REFS_STATUS.PPS_LOST n).key := by
    simp only [slotField, FieldRef.key, Reg.REFS_STATUS.PPS_LOST]; omega
  by_cases h0 : s.slotState n = 0
  · rw [State.refEvent_off h0]
    exact refl k s
  by_cases hw : s.rd Reg.REF_PHWIN.WIN * 1000 < dep.natAbs
  · rw [State.refEvent_discarded h0 hw]
    exact (setRefSlot s hn _).trans (wr _ hn hglitch _)
  · obtain ⟨edge, hsel⟩ := State.refEvent_accepted h0 (Nat.not_lt.mp hw) phase pps frames
    exact ((setRefSlot s hn _).trans (branch (wr _ hn hpps _) (slotActive _ hn))).trans (of_reselected hsel)

/-! ### Measurements -/

theorem measureSlot (s : State) (hn : n ≠ k) (f : Int) (fam : Nat) : SlotKept k s (s.measureSlot n f fam) := by
  have hfam : slotField n (Reg.REFS_STATUS.FAMILY n).key := by
    simp only [slotField, FieldRef.key, Reg.REFS_STATUS.FAMILY]; omega
  exact State.measureSlot_related (refl k) trans (fun s => wr s hn hfam) (fun s => setSlotState s hn)
    (fun s => setRefSlot s hn) s f fam

theorem measure (s : State) {m : RefMeas} (hn : m.slot.val ≠ k) : SlotKept k s (s.measure m) := by
  have hfreq : slotField m.slot.val (Reg.REFS_FREQ.FREQ m.slot.val).key := by
    simp only [slotField, FieldRef.key, Reg.REFS_FREQ.FREQ]; omega
  unfold State.measure
  dsimp only
  split
  · exact refl k s
  split
  · exact setRefSlot s hn _
  · exact (((setRefSlot s hn _).trans (wr _ hn hfreq _)).trans (measureSlot _ hn _ _)).trans (setRefSlot _ hn _)

end SlotKept

/-- A slot's state and accept timer are registers. -/
theorem State.setSlotState_regsOnly (s : State) (n st v : Nat) : RegsOnly s (s.setSlotState n st v) := by
  unfold State.setSlotState
  dsimp only
  split <;> rfl

theorem State.setSlotState_y (s : State) (n st v : Nat) : (s.setSlotState n st v).ref.y = s.ref.y :=
  (congrArg (fun x : State => x.ref.y) (s.setSlotState_regsOnly n st v) :)

/-- The table of R165 leaves the output. -/
theorem State.measureSlot_y (s : State) (n : Nat) (f : Int) (fam : Nat) : (s.measureSlot n f fam).ref.y = s.ref.y :=
  State.measureSlot_related (r := fun s t => t.ref.y = s.ref.y) (fun _ => rfl) (fun h g => g.trans h) (fun _ _ => rfl)
    (fun s => s.setSlotState_y n) (fun _ _ => rfl) s f fam

/-- A measurement leaves the output. -/
theorem State.measure_y (s : State) (m : RefMeas) : (s.measure m).ref.y = s.ref.y := by
  unfold State.measure
  dsimp only
  split
  · rfl
  split
  · rfl
  · exact State.measureSlot_y _ _ _ _

/-- A fold that meets an item once: it stands between steps that each stay within the relation. -/
theorem foldl_once {α : Type} {r : State → State → Prop} (hrefl : ∀ s, r s s)
    (htrans : ∀ {s t u}, r s t → r t u → r s u) {g : State → α → State} {p : α → Bool} {a : α}
    (hg : ∀ s x, p x = false → r s (g s x)) (l : List α) (hl : l.filter p = [a]) :
    ∀ s, ∃ u, r s u ∧ r (g u a) (l.foldl g s) := by
  induction l with
  | nil => cases hl
  | cons x l ih =>
    intro s
    cases hx : p x with
    | false =>
      rw [List.filter_cons_of_neg (by simp [hx])] at hl
      obtain ⟨u, hu, ht⟩ := ih hl (g s x)
      exact ⟨u, htrans (hg s x hx) hu, ht⟩
    | true =>
      rw [List.filter_cons_of_pos hx, List.cons.injEq] at hl
      obtain ⟨rfl, hrest⟩ := hl
      refine ⟨s, hrefl s, foldl_related_mem hrefl htrans l (fun b y hy => hg b y ?_) _⟩
      have hnone := List.filter_eq_nil_iff.mp hrest y hy
      exact Bool.not_eq_true _ ▸ hnone

end Sys2Proof.Machine
end

section
/-! SUPPORT. The events and measurements of a reference slot at the slot itself (08 R162-R165), and the statement settled. -/

namespace Sys2Proof.Machine

open Sys2Proof.Claims

variable {s t u : State}

/-! ### A slot's state and record -/

/-- Setting a slot's state leaves every field but its state, its accept timer and its count of rejections. -/
theorem State.rd_setSlotState_ne (s : State) {n : Nat} {q : FieldRef} (hst : q.key ≠ (Reg.REFS_STATUS.STATE n).key)
    (htm : q.key ≠ (Reg.REFS_STATUS.QTIME n).key) (hrej : q.key ≠ (Reg.REFS_CNT.REJECT n).key) (st v : Nat) :
    (s.setSlotState n st v).rd q = s.rd q := by
  unfold State.setSlotState
  rw [State.rd_wr_ne _ htm, State.rd_wr_ne _ hst]
  split
  · exact s.rd_bump_ne hrej 1
  · rfl

/-- A slot's state as it was set. -/
theorem State.slotState_setSlotState (s : State) {st : Nat} (hst : st < 8) (n v : Nat) :
    (s.setSlotState n st v).slotState n = st := by
  unfold State.setSlotState State.slotState
  rw [State.rd_wr_ne _ (by simp [FieldRef.key, Reg.REFS_STATUS.STATE, Reg.REFS_STATUS.QTIME]), State.rd_wr_same]
  exact Nat.mod_eq_of_lt hst

/-- A slot's accept timer as it was set. -/
theorem State.qtime_setSlotState (s : State) {v : Nat} (hv : v < 1024) (n st : Nat) :
    (s.setSlotState n st v).rd (Reg.REFS_STATUS.QTIME n) = v := by
  unfold State.setSlotState
  rw [State.rd_wr_same, Nat.min_eq_left (by omega)]
  exact Nat.mod_eq_of_lt hv

theorem State.refSlot_setSlotState (s : State) (n st v k : Nat) : (s.setSlotState n st v).refSlot k = s.refSlot k :=
  (congrArg (fun x : State => x.refSlot k) (s.setSlotState_regsOnly n st v) :)

/-- A slot in QUALIFYING or above whose activity is lost (R163, R165). -/
theorem State.slotLost_fields {n : Nat} (h : 2 ≤ s.slotState n) : (s.slotLost n).slotState n = 1 ∧
    ((s.slotLost n).refSlot n).discards = 0 ∧
    (s.slotLost n).rd (Reg.REFS_CNT.LOSS n) = min (s.rd (Reg.REFS_CNT.LOSS n) + 1) 255 := by
  rw [State.slotLost, if_pos h]
  have hsel := Reselected.review
    (((s.setSlotState n 1 0).bump (Reg.REFS_CNT.LOSS n) 1).setRefSlot n
      { ((s.setSlotState n 1 0).bump (Reg.REFS_CNT.LOSS n) 1).refSlot n with
        discards := 0, warnRun := 0, qualified := 0, gate := none, edge := 0 })
  refine ⟨(hsel.slotState n).trans ?_, ?_, (hsel.fields _ ?_).trans ?_⟩
  · exact (State.rd_bump_ne _ (by simp [FieldRef.key, Reg.REFS_STATUS.STATE, Reg.REFS_CNT.LOSS]; omega) 1).trans
      (s.slotState_setSlotState (by omega) n 0)
  · rw [hsel.slots n, State.refSlot_setRefSlot_same]
  · simp only [selectorField, FieldRef.key, Reg.REFS_CNT.LOSS, Reg.FLT_SRC.ACTIVE, Src.REF_HOLDOVER, Src.REF_DISAGREE]
    omega
  · refine (State.rd_bump_same _ _ 1).trans ?_
    rw [s.rd_setSlotState_ne]
    all_goals simp [FieldRef.key, Reg.REFS_CNT.LOSS, Reg.REFS_STATUS.STATE, Reg.REFS_STATUS.QTIME, Reg.REFS_CNT.REJECT]
    all_goals omega

/-- Below QUALIFYING there is nothing to lose. -/
theorem State.slotLost_idle {n : Nat} (h : s.slotState n < 2) : s.slotLost n = s := if_neg (Nat.not_le.mpr h)

/-- Activity moves NOACT to QUALIFYING and leaves the slot's record but its count of disagreement. -/
theorem State.slotActive_fields (s : State) (n : Nat) :
    (s.slotActive n).slotState n = (if s.slotState n = 1 then 2 else s.slotState n) ∧
    (s.slotActive n).refSlot n = { s.refSlot n with disagree := ((s.slotActive n).refSlot n).disagree } := by
  unfold State.slotActive
  split
  · have hsel := Reselected.review (s.setSlotState n 2 0)
    refine ⟨(hsel.slotState n).trans (s.slotState_setSlotState (by omega) n 0), ?_⟩
    rw [hsel.slots n, s.refSlot_setSlotState]
  · exact ⟨rfl, rfl⟩

/-! ### Events -/

/-- An event inside the window that is no PPS_IN is activity. -/
theorem State.refEvent_active {n : Nat} (h : s.slotState n ≠ 0) {dep : Int}
    (hw : dep.natAbs ≤ s.rd Reg.REF_PHWIN.WIN * 1000) {phase : Int} {pps : Bool} {frames : Nat}
    (hp : s.rd (Reg.REFS_CFG.SRC n) ≠ 0x21 ∨ pps = false) :
    ((s.refEvent n dep phase pps frames).refSlot n).discards = 0 ∧
    (∃ edge, ((s.refEvent n dep phase pps frames).refSlot n).phase = s.eventPhase n edge phase pps) ∧
    (s.refEvent n dep phase pps frames).slotState n = (if s.slotState n = 1 then 2 else s.slotState n) := by
  obtain ⟨edge, hsel⟩ := State.refEvent_accepted h hw phase pps frames
  have hfref : (decide (s.rd (Reg.REFS_CFG.SRC n) = 0x21) && pps) = false := by
    rcases hp with hp | hp <;> simp [hp]
  dsimp only at hsel
  rw [hfref, if_neg Bool.false_ne_true] at hsel
  obtain ⟨hstate, hrec⟩ := State.slotActive_fields (s.setRefSlot n { s.refSlot n with
    discards := 0, phase := s.eventPhase n edge phase pps, edge := edge }) n
  rw [State.refSlot_setRefSlot_same] at hrec
  refine ⟨?_, ⟨edge, ?_⟩, (hsel.slotState n).trans hstate⟩
  · rw [hsel.slots n, hrec]
  · rw [hsel.slots n, hrec]

/-- PPS_IN on a FREF_IN slot clears PPS_LOST and is no activity. -/
theorem State.refEvent_pps {n : Nat} (h : s.slotState n ≠ 0) {dep : Int}
    (hw : dep.natAbs ≤ s.rd Reg.REF_PHWIN.WIN * 1000) {phase : Int} {frames : Nat}
    (hsrc : s.rd (Reg.REFS_CFG.SRC n) = 0x21) :
    ((s.refEvent n dep phase true frames).refSlot n).discards = 0 ∧
    (∃ edge, ((s.refEvent n dep phase true frames).refSlot n).phase = s.eventPhase n edge phase true) ∧
    (s.refEvent n dep phase true frames).slotState n = s.slotState n ∧
    (s.refEvent n dep phase true frames).on (Reg.REFS_STATUS.PPS_LOST n) = false := by
  obtain ⟨edge, hsel⟩ := State.refEvent_accepted h hw phase true frames
  dsimp only at hsel
  rw [decide_eq_true hsrc, Bool.true_and, if_pos rfl] at hsel
  refine ⟨?_, ⟨edge, ?_⟩, (hsel.slotState n).trans ?_, (hsel.on ?_).trans (State.on_put_same _ _ _ (Nat.le_refl 1))⟩
  · rw [hsel.slots n]
    exact congrArg RefSlot.discards (State.refSlot_setRefSlot_same s n _)
  · rw [hsel.slots n]
    exact congrArg RefSlot.phase (State.refSlot_setRefSlot_same s n _)
  · exact State.rd_put_ne _ (by simp [FieldRef.key, Reg.REFS_STATUS.STATE, Reg.REFS_STATUS.PPS_LOST]) false
  · simp only [selectorField, FieldRef.key, Reg.REFS_STATUS.PPS_LOST, Reg.FLT_SRC.ACTIVE, Src.REF_HOLDOVER, Src.REF_DISAGREE]
    omega

/-- Sources with one event a tick, PPS_IN, and word clocks at the tick rate: the phase wraps to half a tick. -/
theorem State.eventPhase_wraps {n : Nat} (edge : Nat) (phase : Int) {pps : Bool}
    (h : s.rd (Reg.REFS_CFG.SRC n) ≤ 4 ∨ (0x10 ≤ s.rd (Reg.REFS_CFG.SRC n) ∧ s.rd (Reg.REFS_CFG.SRC n) ≤ 0x1F) ∨
      (s.rd (Reg.REFS_CFG.SRC n) = 0x21 ∧ pps = true) ∨ (5 ≤ s.rd (Reg.REFS_CFG.SRC n) ∧
        s.rd (Reg.REFS_CFG.SRC n) ≤ 0xF ∧ s.rd (Reg.REFS_CFG.NOM n) = s.mult)) :
    s.eventPhase n edge phase pps = wrapPhase s.rate phase := by
  have hpps : (decide (s.rd (Reg.REFS_CFG.SRC n) = 0x21) && !pps) = false := by
    rcases h with h | h | h | h
    · simp; omega
    · simp; omega
    · simp [h.2]
    · simp; omega
  rw [State.eventPhase, hpps, if_neg Bool.false_ne_true, State.targetPhase]
  dsimp only
  split
  · next hword =>
    have hnom : s.rd (Reg.REFS_CFG.NOM n) = s.mult := by omega
    rw [hnom, Nat.sub_self, Nat.pow_zero, Nat.mul_one]
  · rw [if_neg (by omega)]

/-! ### The slots of a PTP domain -/

/-- A refused write of the reference block. -/
theorem State.refuseWrite_ref (s : State) {a : Nat} (ha : a / 65536 = 2) :
    s.refuseWrite a = (s.put Reg.REF_STATUS.CFG_REFUSED true).raise Src.CTL_REFUSED := by
  unfold State.refuseWrite refusalFlag
  simp only [ha]
  rfl

/-- The slots bound to a domain. -/
def State.boundSlots (s : State) (d : Nat) : List Nat :=
  (List.range 16).filter fun n => decide (s.rd (Reg.REFS_CFG.SRC n) = d + 1)

/-- A bound slot is met once. -/
theorem State.boundSlots_once {d k : Nat} (h : BoundTo s d k) : (s.boundSlots d).filter (· == k) = [k] := by
  obtain ⟨hk, hsrc⟩ := h
  have hmem : k ∈ s.boundSlots d := by simp [State.boundSlots, hk, hsrc]
  have hnodup : (s.boundSlots d).Nodup := List.nodup_range.filter _
  rw [List.filter_beq, List.count_eq_one_of_mem hnodup hmem]
  rfl

/-- A fold over the bound slots comes to a bound slot as it was, and leaves it so. -/
theorem State.boundSlots_foldl {g : State → Nat → State} (hg : ∀ {k n : Nat} (s : State), n ≠ k → SlotKept k s (g s n))
    {d k : Nat} (h : BoundTo s d k) :
    ∃ u, SlotKept k s u ∧ SlotKept k (g u k) ((s.boundSlots d).foldl g s) :=
  foldl_once (SlotKept.refl k) SlotKept.trans (fun u n hn => hg u (by simpa using hn)) _ (State.boundSlots_once h) s

/-- A write of REF_PTP_d_ERR leaves the list of audits. -/
theorem State.writePtpErr_auditList (s : State) (d : Nat) (hd : d < 4) (v : Word) (dep : Int) :
    (s.writePtpErr d v dep).flt.auditList = s.flt.auditList := by
  have hfold {g : State → Nat → State} (hg : ∀ (s : State) (n : Nat), SlotKept (n + 1) s (g s n)) (l : List Nat) :
      (l.foldl g s).flt.auditList = s.flt.auditList :=
    foldl_related (r := fun s t : State => t.flt.auditList = s.flt.auditList) (fun _ => rfl) (fun h g => g.trans h)
      (fun u n => (hg u n).auditList) l s
  unfold State.writePtpErr
  dsimp only
  split
  · exact hfold (fun u n => SlotKept.slotLost u (by omega)) _
  split
  · rw [State.refuseWrite_ref s (by omega), State.raise_eq]
    rfl
  · exact hfold (fun u n => SlotKept.refEvent u (by omega) dep _ false 0) _

/-- The servo is unlocked: every bound slot in QUALIFYING or above goes to NOACT. -/
theorem State.slotLost_bound {d k : Nat} (h : BoundTo s d k) :
    ((s.boundSlots d).foldl State.slotLost s).slotState k = (if 2 ≤ s.slotState k then 1 else s.slotState k) := by
  obtain ⟨u, hu, ht⟩ := State.boundSlots_foldl (fun s hn => SlotKept.slotLost s hn) h
  rw [ht.slotState, ← hu.slotState]
  split
  · next hup => exact (State.slotLost_fields hup).1
  · next hlow => rw [State.slotLost_idle (by omega)]

/-- A phase error is an event of every bound slot. -/
theorem State.refEvent_bound {d k : Nat} (h : BoundTo s d k) (hd : d < 4) (hstate : s.slotState k ≠ 0) {dep : Int}
    (hw : dep.natAbs ≤ s.rd Reg.REF_PHWIN.WIN * 1000) (e : Int) (t : State)
    (ht : t = (s.boundSlots d).foldl (fun s n => s.refEvent n dep e false 0) s) :
    (t.refSlot k).phase = wrapPhase s.rate e ∧ t.slotState k = (if s.slotState k = 1 then 2 else s.slotState k) := by
  obtain ⟨u, hu, hlast⟩ := State.boundSlots_foldl (fun s hn => SlotKept.refEvent s hn dep e false 0) h
  obtain ⟨-, hsrc⟩ := h
  have hwin : u.rd Reg.REF_PHWIN.WIN = s.rd Reg.REF_PHWIN.WIN := hu.low (by decide) (by decide)
  have hsrcu : u.rd (Reg.REFS_CFG.SRC k) = d + 1 := hu.src.trans hsrc
  obtain ⟨-, ⟨edge, hphase⟩, hst⟩ := State.refEvent_active (s := u) (n := k) (dep := dep) (hu.slotState ▸ hstate)
    (hwin ▸ hw) (phase := e) (frames := 0) (.inr rfl)
  rw [← ht] at hlast
  rw [hlast.slotState, hst, hu.slotState, hlast.slot]
  refine ⟨hphase.trans ?_, rfl⟩
  rw [State.eventPhase_wraps edge e (.inl (by omega)), hu.rate]

/-! ### Measurements -/

/-- The table of R165 leaves every field but the slot's family, state, accept timer and count of rejections. -/
theorem State.rd_measureSlot_ne (s : State) {n : Nat} {q : FieldRef} (hfam : q.key ≠ (Reg.REFS_STATUS.FAMILY n).key)
    (hst : q.key ≠ (Reg.REFS_STATUS.STATE n).key) (htm : q.key ≠ (Reg.REFS_STATUS.QTIME n).key)
    (hrej : q.key ≠ (Reg.REFS_CNT.REJECT n).key) (f : Int) (fam : Nat) : (s.measureSlot n f fam).rd q = s.rd q :=
  State.measureSlot_related (r := fun s t => t.rd q = s.rd q) (fun _ => rfl) (fun h g => g.trans h)
    (fun s v => s.rd_wr_ne hfam v) (fun s => s.rd_setSlotState_ne hst htm hrej) (fun _ _ => rfl) s f fam

/-- The state that a measurement in the slot's family gives: QUALIFYING, QUALIFIED, WARN and REJECTED (R165). -/
theorem State.measureSlot_state {n : Nat} {f : Int} {fam : Nat}
    (hown : servesBoth (s.rd (Reg.REFS_CFG.SRC n)) = true ∨ fam = s.rd Reg.CLK_STATUS.FAMILY) :
    (s.slotState n = 2 → f.natAbs ≤ s.rd Reg.REF_LIM_0.ACCEPT * 10000 →
      s.acceptTime ≤ s.rd (Reg.REFS_STATUS.QTIME n) + 1 → (s.measureSlot n f fam).slotState n = 3) ∧
    (s.slotState n = 3 → s.rd Reg.REF_LIM_1.WARN * 10000 < f.natAbs → f.natAbs ≤ s.rd Reg.REF_LIM_0.REJECT * 10000 →
      (s.measureSlot n f fam).slotState n = 4) ∧
    (s.slotState n = 3 ∨ s.slotState n = 4 → s.rd Reg.REF_LIM_0.REJECT * 10000 < f.natAbs →
      (s.measureSlot n f fam).slotState n = 5) := by
  have hother : (!servesBoth (s.rd (Reg.REFS_CFG.SRC n)) && decide (fam ≠ s.rd Reg.CLK_STATUS.FAMILY)) = false := by
    rcases hown with h | h <;> simp [h]
  unfold State.measureSlot
  dsimp only
  rw [hother]
  refine ⟨fun h ha ht => ?_, fun h hw hr => ?_, fun h hr => ?_⟩
  · simp only [h, ha, ht, decide_true, Bool.and_self, if_true, Bool.false_eq_true, if_false]
    exact State.slotState_setSlotState _ (by omega) n _
  · simp only [h, hw, Nat.not_lt.mpr hr, decide_true, decide_false, if_true, Bool.false_eq_true, if_false]
    exact State.slotState_setSlotState _ (by omega) n _
  · rcases h with h | h
    all_goals simp only [h, hr, decide_true, if_true, Bool.false_eq_true, if_false]
    all_goals exact State.slotState_setSlotState _ (by omega) n _

/-- A REJECTED slot within ACCEPT goes back to QUALIFYING with its accept timer at 0 (R165). -/
theorem State.measureSlot_rejected {n : Nat} {f : Int} (h : s.slotState n = 5)
    (ha : f.natAbs ≤ s.rd Reg.REF_LIM_0.ACCEPT * 10000) (fam : Nat) :
    (s.measureSlot n f fam).slotState n = 2 ∧ (s.measureSlot n f fam).rd (Reg.REFS_STATUS.QTIME n) = 0 := by
  unfold State.measureSlot
  simp only [h, ha, decide_true, if_true]
  exact ⟨State.slotState_setSlotState _ (by omega) n 0, State.qtime_setSlotState _ (by omega) n 2⟩

/-- What a slot with a frequency is measured with: its record with the gate, and FREQ, before the table of R165. -/
def State.gated (s : State) (n : Nat) (f : Int) : State :=
  (s.setRefSlot n { s.refSlot n with gate := some (s.refSlot n).phase }).wrInt (Reg.REFS_FREQ.FREQ n) f

/-- A measurement of a slot in QUALIFYING or above: FREQ shows the offset, and the table of R165 gives the state. -/
theorem State.measure_fields {m : RefMeas} {raw : Int} {fam : Nat} (h2 : 2 ≤ s.slotState m.slot)
    (hm : s.measured m = some (raw, fam)) {f : Int} (hf : f = raw + s.rdInt Reg.REF_XOCAL.XOCAL) :
    (s.measure m).rd (Reg.REFS_FREQ.FREQ m.slot) = (code 32 f).toNat ∧
    (s.measure m).slotState m.slot = ((s.gated m.slot f).measureSlot m.slot f fam).slotState m.slot ∧
    (s.measure m).rd (Reg.REFS_STATUS.QTIME m.slot) =
      ((s.gated m.slot f).measureSlot m.slot f fam).rd (Reg.REFS_STATUS.QTIME m.slot) := by
  have hrd (q : FieldRef) : (s.measure m).rd q = ((s.gated m.slot f).measureSlot m.slot f fam).rd q := by
    unfold State.measure
    rw [if_neg (by omega), hm, hf]
    rfl
  refine ⟨?_, hrd _, hrd _⟩
  rw [hrd, State.rd_measureSlot_ne]
  case hfam | hst | htm | hrej =>
    simp only [FieldRef.key, Reg.REFS_FREQ.FREQ, Reg.REFS_STATUS.FAMILY, Reg.REFS_STATUS.STATE, Reg.REFS_STATUS.QTIME,
      Reg.REFS_CNT.REJECT]
    omega
  exact (State.rd_wr_same _ _ _).trans (Nat.mod_eq_of_lt (code 32 f).isLt)

/-- At the gate every field but FREQ of the slot reads as before. -/
theorem State.rd_gated_ne (s : State) {n : Nat} {q : FieldRef} (hq : q.key ≠ (Reg.REFS_FREQ.FREQ n).key) (f : Int) :
    (s.gated n f).rd q = s.rd q := State.rd_wr_ne _ hq _

/-- At the gate what the table of R165 reads is as it was. -/
theorem State.gated_reads (s : State) (n : Nat) (f : Int) : (s.gated n f).slotState n = s.slotState n ∧
    (s.gated n f).rd (Reg.REFS_CFG.SRC n) = s.rd (Reg.REFS_CFG.SRC n) ∧
    (s.gated n f).rd (Reg.REFS_STATUS.QTIME n) = s.rd (Reg.REFS_STATUS.QTIME n) ∧
    (s.gated n f).acceptTime = s.acceptTime ∧
    ∀ q : FieldRef, q.key < 0x20108 * 32 → (s.gated n f).rd q = s.rd q := by
  have hlow (q : FieldRef) (hq : q.key < 0x20108 * 32) : (s.gated n f).rd q = s.rd q :=
    s.rd_gated_ne (by simp only [FieldRef.key, Reg.REFS_FREQ.FREQ] at hq ⊢; omega) f
  refine ⟨s.rd_gated_ne ?_ f, s.rd_gated_ne ?_ f, s.rd_gated_ne ?_ f, ?_, hlow⟩
  · simp only [FieldRef.key, Reg.REFS_FREQ.FREQ, Reg.REFS_STATUS.STATE]; omega
  · simp only [FieldRef.key, Reg.REFS_FREQ.FREQ, Reg.REFS_CFG.SRC]; omega
  · simp only [FieldRef.key, Reg.REFS_FREQ.FREQ, Reg.REFS_STATUS.QTIME]; omega
  · unfold State.acceptTime
    rw [hlow _ (by decide), hlow Reg.REF_TIME.START_ACCEPT (by decide), hlow Reg.REF_TIME.ACCEPT_TIME (by decide)]
    rfl

/-- A second in which a slot is measured once: it comes to the slot's gate with the slot as it was and ends as the
measurement leaves the slot. -/
theorem State.refSecond_measured {l : List RefMeas} {m : RefMeas} (tether : Int)
    (hl : l.filter (fun x => decide (x.slot = m.slot)) = [m]) :
    ∃ u, SlotKept m.slot s u ∧ u.ref.y = s.ref.y ∧ SlotKept m.slot (u.measure m) (s.refSecond l tether) := by
  obtain ⟨u, ⟨hkept, hy⟩, hlast, -⟩ := foldl_once
    (r := fun s t => SlotKept m.slot s t ∧ t.ref.y = s.ref.y) (g := State.measure) (fun s => ⟨SlotKept.refl _ s, rfl⟩)
    (fun h g => ⟨h.1.trans g.1, g.2.trans h.2⟩)
    (fun s x hx => ⟨SlotKept.measure s (fun h => of_decide_eq_false hx (Fin.ext h)), s.measure_y x⟩) l hl s
  refine ⟨u, hkept, hy, hlast.trans (SlotKept.of_reselected ?_)⟩
  exact (((Reselected.review _).trans (Reselected.showDisagree _)).trans (Reselected.disagreement _)).trans
    (Reselected.dpllSecond _ tether)

/-- The second's offset and the slot's state after it (R164, R165). -/
theorem State.refSecond_fields {l : List RefMeas} {m : RefMeas} (tether : Int)
    (hl : l.filter (fun x => decide (x.slot = m.slot)) = [m]) (h2 : 2 ≤ s.slotState m.slot) {raw : Int} {fam : Nat}
    (hm : s.measured m = some (raw, fam)) {f : Int} (hf : f = raw + s.rdInt Reg.REF_XOCAL.XOCAL) :
    let t := s.refSecond l tether
    let k := m.slot.val
    let own := servesBoth (s.rd (Reg.REFS_CFG.SRC k)) = true ∨ fam = s.rd Reg.CLK_STATUS.FAMILY
    t.rd (Reg.REFS_FREQ.FREQ k) = (code 32 f).toNat ∧
    (own → s.slotState k = 2 → f.natAbs ≤ s.rd Reg.REF_LIM_0.ACCEPT * 10000 → s.acceptTime ≤ s.rd (Reg.REFS_STATUS.QTIME k) + 1 →
      t.slotState k = 3) ∧
    (own → s.slotState k = 3 → s.rd Reg.REF_LIM_1.WARN * 10000 < f.natAbs → f.natAbs ≤ s.rd Reg.REF_LIM_0.REJECT * 10000 →
      t.slotState k = 4) ∧
    (own → (s.slotState k = 3 ∨ s.slotState k = 4) → s.rd Reg.REF_LIM_0.REJECT * 10000 < f.natAbs → t.slotState k = 5) ∧
    (s.slotState k = 5 → f.natAbs ≤ s.rd Reg.REF_LIM_0.ACCEPT * 10000 →
      t.slotState k = 2 ∧ t.rd (Reg.REFS_STATUS.QTIME k) = 0) := by
  obtain ⟨u, hu, hy, ht⟩ := State.refSecond_measured tether hl
  dsimp only
  generalize s.refSecond l tether = t at ht
  generalize hk : m.slot.val = k at hu ht h2
  have hxo : u.rdInt Reg.REF_XOCAL.XOCAL = s.rdInt Reg.REF_XOCAL.XOCAL :=
    congrArg Reg.REF_XOCAL.XOCAL.signed (hu.low (by decide) (by decide))
  obtain ⟨hfreq, hstate, htime⟩ := State.measure_fields (s := u) (m := m) (hk ▸ hu.slotState ▸ h2)
    ((hu.measured hy hk).trans hm) (f := f) (hxo ▸ hf)
  rw [hk] at hfreq hstate htime
  have hshown : t.rd (Reg.REFS_FREQ.FREQ k) = (u.measure m).rd (Reg.REFS_FREQ.FREQ k) := by
    refine ht.own ?_ (not_selectorField ?_ ?_ ?_)
    all_goals simp only [FieldRef.key, Reg.REFS_FREQ.FREQ]; omega
  have htimer {a b : State} (h : SlotKept k a b) : b.rd (Reg.REFS_STATUS.QTIME k) = a.rd (Reg.REFS_STATUS.QTIME k) := by
    refine h.own ?_ (not_selectorField ?_ ?_ ?_)
    all_goals simp only [FieldRef.key, Reg.REFS_STATUS.QTIME]; omega
  obtain ⟨hgst, hgsrc, hgtime, hgaccept, hglow⟩ := u.gated_reads k f
  rw [ht.slotState, hstate, htimer ht, htime, hshown, hfreq, ← hu.slotState, ← hu.src, ← htimer hu, ← hu.acceptTime,
    ← hu.low (q := Reg.CLK_STATUS.FAMILY) (by decide) (by decide), ← hu.low (q := Reg.REF_LIM_0.ACCEPT) (by decide) (by decide),
    ← hu.low (q := Reg.REF_LIM_1.WARN) (by decide) (by decide), ← hu.low (q := Reg.REF_LIM_0.REJECT) (by decide) (by decide),
    ← hgst, ← hgsrc, ← hgtime, ← hgaccept, ← hglow Reg.CLK_STATUS.FAMILY (by decide),
    ← hglow Reg.REF_LIM_0.ACCEPT (by decide), ← hglow Reg.REF_LIM_1.WARN (by decide), ← hglow Reg.REF_LIM_0.REJECT (by decide)]
  refine ⟨rfl, fun hown => (State.measureSlot_state hown).1, fun hown => (State.measureSlot_state hown).2.1,
    fun hown => (State.measureSlot_state hown).2.2, fun h ha => State.measureSlot_rejected h ha fam⟩

/-- Settles O35: the slot's own events and measurements, and what those of the other slots leave of it. -/
theorem referenceSlots : Obligations.ReferenceSlots := by
  unfold Obligations.ReferenceSlots
  intro n d dep phase tether pps frames v l m s hheld
  have hevent (pps : Bool) : exec (.refEvent n dep phase ⟨pps, frames⟩) s =
      core (fun s => s.refEvent n dep phase pps frames) s := rfl
  have hsecond : exec (.refMeasurement ⟨l, tether⟩) s = core (fun s => s.refSecond l tether) s := rfl
  refine ⟨fun h => ⟨fun hw => ?_, fun hw => ?_⟩, fun h => ?_, fun hd h2 => ?_, fun h2 => ?_, fun h => ?_,
    fun hsrc h => ?_, fun hal => ?_, fun raw fam hl h2 hm => ?_⟩
  · refine answers_core (hevent pps) hheld ?_
    rw [State.refEvent_discarded h hw]
    refine ⟨congrArg RefSlot.discards (State.refSlot_setRefSlot_same s n _), ?_, State.rd_bump_same _ _ 1⟩
    exact State.rd_bump_ne _ (by simp only [FieldRef.key, Reg.REFS_STATUS.STATE, Reg.REFS_CNT.GLITCH]; omega) 1
  · refine answers_core (hevent pps) hheld ?_
    dsimp only
    by_cases hpps : s.rd (Reg.REFS_CFG.SRC n) = 0x21 ∧ pps = true
    · obtain ⟨hsrc, rfl⟩ := hpps
      obtain ⟨hdis, ⟨edge, hphase⟩, hst, hlost⟩ := State.refEvent_pps h hw (phase := phase) (frames := frames) hsrc
      refine ⟨hdis, fun hs => ?_, fun _ hs => ?_, fun _ _ => ⟨hst, hlost⟩, fun _ hf => absurd hf (by decide), fun hs => ?_⟩
      · exact hphase.trans (State.eventPhase_wraps edge phase (hs.imp_right (Or.imp_right .inl)))
      · omega
      · simp [hsrc] at hs
    · have hact : s.rd (Reg.REFS_CFG.SRC n) ≠ 0x21 ∨ pps = false := by
        rw [← Bool.not_eq_true]
        exact not_and_or.mp hpps
      obtain ⟨hdis, ⟨edge, hphase⟩, hst⟩ := State.refEvent_active h hw (phase := phase) (frames := frames) hact
      refine ⟨hdis, fun hs => ?_, fun h5 hf hnom => ?_, fun hs hp => absurd ⟨hs, hp⟩ hpps, fun hs hp => ?_, fun _ => hst⟩
      · exact hphase.trans (State.eventPhase_wraps edge phase (hs.imp_right (Or.imp_right .inl)))
      · exact hphase.trans (State.eventPhase_wraps edge phase (.inr (.inr (.inr ⟨h5, hf, hnom⟩))))
      · rw [hphase, State.eventPhase, hs, hp]
        rfl
  · exact answers_core (hevent pps) hheld (State.refEvent_off h)
  · refine answers_core rfl hheld ?_
    rw [if_pos hd]
    exact State.slotLost_fields h2
  · obtain ⟨hst, -, hloss⟩ := State.slotLost_fields h2
    exact answers_core rfl hheld ⟨hst, hloss⟩
  · exact answers_core rfl hheld (State.slotLost_idle h)
  · refine answers_core rfl hheld ?_
    rw [if_pos ⟨hsrc, h⟩]
    refine ⟨State.on_put_same _ _ _ (Nat.le_refl 1), State.rd_put_ne _ ?_ true⟩
    simp only [FieldRef.key, Reg.REFS_STATUS.STATE, Reg.REFS_STATUS.PPS_LOST]; omega
  · refine answers_core (f := fun s => s.control (0x20040 + 4 * d.val) v fun s => s.writePtpErr d.val v dep) rfl hheld ?_
    rw [hal.control_act (s.writePtpErr_auditList d d.isLt v dep)]
    refine ⟨fun hv k hk => ?_, fun hv hbig => ?_, fun hv hsmall hw k hk hst => ?_⟩
    · rw [State.writePtpErr, if_pos hv]
      exact State.slotLost_bound hk
    · rw [State.writePtpErr, if_neg hv, if_pos hbig, State.refuseWrite_ref s (by omega)]
      refine ⟨State.raise_ref _ _, fun k => ?_, ?_, ?_⟩
      · rw [State.slotState, State.raise_rd]
        refine State.rd_put_ne _ ?_ true
        simp only [FieldRef.key, Reg.REFS_STATUS.STATE, Reg.REF_STATUS.CFG_REFUSED]; omega
      · rw [State.raise_on]
        exact State.on_put_same _ _ _ (by decide)
      · rw [Raised, State.raise_arriving _ (by decide), List.getLast?_concat]
    · refine State.refEvent_bound hk d.isLt hst hw _ _ ?_
      rw [State.writePtpErr, if_neg hv, if_neg (Nat.not_lt.mpr hsmall)]
      rfl
  · exact answers_core hsecond hheld (State.refSecond_fields tether hl h2 hm rfl)

end Sys2Proof.Machine
end

section
/-! SUPPORT. The DPLL's own moves, and the relock that FORCE_RELOCK makes (08 R168-R179), and the statement settled. -/

namespace Sys2Proof.Machine

open Sys2Proof.Claims

variable {s t u : State}

/-! ### The DPLL moves (R168-R170) -/

/-- A signed field reads as the value written, where it fits. -/
theorem State.rdInt_wrInt_same (s : State) {f : FieldRef} (hf : 0 < f.width) {v : Int} (hlo : -2 ^ (f.width - 1) ≤ v)
    (hhi : v < 2 ^ (f.width - 1)) : (s.wrInt f v).rdInt f = v := by
  have hv : (BitVec.ofInt f.width v).toInt = v := BitVec.toInt_ofInt_eq_self hf hlo hhi
  have hdouble : 2 ^ f.width = 2 * 2 ^ (f.width - 1) := by rw [← Nat.pow_succ', Nat.succ_eq_add_one, Nat.sub_add_cancel hf]
  rw [State.rdInt, State.wrInt, State.rd_wr_same, Nat.mod_eq_of_lt (code f.width v).isLt, FieldRef.signed]
  rw [BitVec.toInt_eq_toNat_cond] at hv
  refine Eq.trans ?_ hv
  by_cases hneg : (code f.width v).toNat < 2 ^ (f.width - 1)
  · rw [if_pos hneg, if_pos (by unfold code at hneg; omega)]
    rfl
  · rw [if_neg hneg, if_neg (by unfold code at hneg; omega)]
    rfl

/-- Out of a state other than LOCKED and TETHER the DPLL's move starts a new second of the history alone. -/
theorem State.setDpll_moves (s : State) {old st : Nat} (h : s.dpll = old) (hne : old ≠ st) (h4 : old ≠ 4) (h6 : old ≠ 6) :
    s.setDpll st = (s.onRef fun r => { r with whole := false }).wr Reg.REF_STATUS.DPLL st := by
  simp only [State.setDpll, h, if_neg hne, if_neg h4, if_neg h6]

/-- LOCKED is shown, whatever else of the references changes with it. -/
theorem State.rd_locked (s : State) (f : RefState → RefState) :
    ((s.wr Reg.REF_STATUS.DPLL 4).onRef f).rd Reg.REF_STATUS.DPLL = 4 := s.rd_wr_same _ 4

/-- The output that follows a slot of known frequency. -/
theorem State.slotOutput_of_freq {f : Int} (h : s.slotFreq (s.rd Reg.REF_STATUS.SEL) = some f) :
    s.slotOutput = f - s.rdInt Reg.REF_XOCAL.XOCAL := by
  rw [State.slotOutput, h]
  rfl

/-- The DPLL at the slot's frequency: PULLING, or LOCKED with the phase built out, its output that frequency. -/
theorem State.slewDone_moves (h : s.dpll = 2) :
    let n := s.rd Reg.REF_STATUS.SEL
    let pbo := s.on (Reg.REFS_CFG.PBO n) = true ∧ ignoresPbo (s.rd (Reg.REFS_CFG.SRC n)) = false
    (pbo → s.slewDone.rd Reg.REF_STATUS.DPLL = 4 ∧ s.slewDone.ref.buildOut = some (s.refSlot n).phase ∧
      s.slewDone.ref.fromHoldover = false) ∧
    (¬pbo → s.slewDone.rd Reg.REF_STATUS.DPLL = 3 ∧ s.slewDone.ref.buildOut = s.ref.buildOut) ∧
    s.slewDone.ref.y = s.slotOutput := by
  dsimp only
  have hrd {q : FieldRef} (hq : q.key ≠ Reg.REF_FOFF.FOFF.key) (y : Int) : (s.setOutput y).rd q = s.rd q :=
    State.rd_wr_ne _ hq _
  have hpbo (n : Nat) (y : Int) : (s.setOutput y).on (Reg.REFS_CFG.PBO n) = s.on (Reg.REFS_CFG.PBO n) :=
    State.on_congr (hrd (by simp only [FieldRef.key, Reg.REFS_CFG.PBO, Reg.REF_FOFF.FOFF]; omega) y)
  have hsrc (n : Nat) (y : Int) : (s.setOutput y).rd (Reg.REFS_CFG.SRC n) = s.rd (Reg.REFS_CFG.SRC n) :=
    hrd (by simp only [FieldRef.key, Reg.REFS_CFG.SRC, Reg.REF_FOFF.FOFF]; omega) y
  have hmove (st : Nat) (hst : 2 ≠ st) (y : Int) := State.setDpll_moves (s.setOutput y) (st := st)
    ((hrd (q := Reg.REF_STATUS.DPLL) (by decide) y).trans h) hst (by decide) (by decide)
  generalize hn : s.rd Reg.REF_STATUS.SEL = n
  simp only [State.slewDone, hn, hpbo, hsrc, hmove 4 (by decide), hmove 3 (by decide)]
  by_cases hp : s.on (Reg.REFS_CFG.PBO n) = true ∧ ignoresPbo (s.rd (Reg.REFS_CFG.SRC n)) = false
  · rw [if_pos (by simp [hp])]
    refine ⟨fun _ => ⟨(State.rd_wr_ne _ (by decide) _).trans (State.rd_locked _ _), rfl, rfl⟩, fun h => absurd hp h, rfl⟩
  · rw [if_neg (by simpa using hp)]
    exact ⟨fun h => absurd h hp, fun _ => ⟨State.rd_wr_same _ _ _, rfl⟩, rfl⟩

/-! ### The relock (R161, R179) -/

/-- A write of several fields changes registers alone. -/
theorem State.writeFields_regsOnly (s : State) (fs : List FieldSpec) (v : Word) : RegsOnly s (s.writeFields fs v) :=
  RegsOnly.foldl (fun s f => s.writeField_regsOnly v f) fs s

/-- What a step of the drive channels alone leaves: all beyond registers and channels, and every field below theirs. -/
structure ChannelsMoved (s t : State) : Prop where
  rest : t = { s with regs := t.regs, amp := t.amp }
  fields : ∀ q : FieldRef, q.key < 0xF0000 * 32 → t.rd q = s.rd q

namespace ChannelsMoved

theorem refl (s : State) : ChannelsMoved s s := ⟨rfl, fun _ _ => rfl⟩

theorem trans (h : ChannelsMoved s t) (g : ChannelsMoved t u) : ChannelsMoved s u where
  rest := Eq.trans g.rest (congrArg (fun x : State => { x with regs := u.regs, amp := u.amp }) h.rest)
  fields q hq := (g.fields q hq).trans (h.fields q hq)

theorem ampGo (s : State) (n st : Nat) (drive : Drive) (pse rly : Bool) (part : Nat) :
    ChannelsMoved s (s.ampGo n st drive pse rly part) where
  rest := rfl
  fields q hq := by
    have hdiag : q.key ≠ Reg.AMP_STATUS.NDIAG.key := by
      simp only [FieldRef.key, Reg.AMP_STATUS.NDIAG] at hq ⊢; omega
    have hstate : q.key ≠ (Reg.AMP_CH_STATUS.STATE n).key := by
      simp only [FieldRef.key, Reg.AMP_CH_STATUS.STATE] at hq ⊢; omega
    exact (State.rd_wr_ne _ hdiag _).trans (State.rd_wr_ne _ hstate _)

theorem ampAllOff (s : State) : ChannelsMoved s s.ampAllOff := by
  refine foldl_related refl trans (fun s n => ?_) _ s
  split
  · exact refl s
  · exact ampGo s n 0 .low false false 0

theorem ampBegin (s : State) (n : Nat) (diag : Bool) : ChannelsMoved s (s.ampBegin n diag) := by
  have hset : ChannelsMoved s (s.setAmp n { s.ampCh n with once := false, retry := false }) := ⟨rfl, fun _ _ => rfl⟩
  cases diag with
  | true => exact hset.trans (ampGo _ n 1 .low false false 0)
  | false => exact hset.trans (ampGo _ n 3 .idle true false 0)

theorem ampRestart (s : State) : ChannelsMoved s s.ampRestart := by
  refine foldl_related refl trans (fun s n => ?_) _ s
  split
  · exact ampBegin s n _
  · exact refl s

theorem mem (h : ChannelsMoved s t) : t.mem = s.mem := (congrArg State.mem h.rest :)
theorem str (h : ChannelsMoved s t) : t.str = s.str := (congrArg State.str h.rest :)
theorem rclk (h : ChannelsMoved s t) : t.rclk = s.rclk := (congrArg State.rclk h.rest :)
theorem flt (h : ChannelsMoved s t) : t.flt = s.flt := (congrArg State.flt h.rest :)

end ChannelsMoved

/-- After no slot is selected, SEL_VALID is clear. -/
theorem State.deselect_selValid (s : State) : s.deselect.on Reg.REF_STATUS.SEL_VALID = false := by
  have hdrift (u : State) : u.showDrift.on Reg.REF_STATUS.SEL_VALID = u.on Reg.REF_STATUS.SEL_VALID :=
    u.on_put_ne (by decide) _
  have hbuilt (u : State) (f : RefState → RefState) : ((u.put Reg.REF_STATUS.SEL_VALID false).onRef f).on
      Reg.REF_STATUS.SEL_VALID = false := u.on_put_same Reg.REF_STATUS.SEL_VALID false (by decide)
  exact (hdrift _).trans (hbuilt _ _)

/-- A forced relock stops the clocks and the outputs, with DPLL in RELOCK and no slot selected. -/
theorem State.forcedRelock_stops (s : State) (eclk sixteenth sc : Nat) :
    let t := (((((s.put Reg.CLK_ROOT.FORCE_RELOCK true).deselect).setDpll 7).stepAt eclk sixteenth sc).stopClocks).pinsOff.ampAllOff
    t.on Reg.CLK_ROOT.FORCE_RELOCK = true ∧ t.rd Reg.REF_STATUS.DPLL = 7 ∧ t.on Reg.REF_STATUS.SEL_VALID = false ∧
    t.rclk = false ∧ t.on Reg.CLK_STATUS.ROOT_LOCK = false ∧ t.mem = s.mem ∧ t.str = s.str ∧
    t.flt.auditList = s.flt.auditList := by
  dsimp only
  have hsel := (Reselected.deselect (s.put Reg.CLK_ROOT.FORCE_RELOCK true)).trans (Reselected.setDpll _ 7)
  have hdpll : ((s.put Reg.CLK_ROOT.FORCE_RELOCK true).deselect.setDpll 7).rd Reg.REF_STATUS.DPLL = 7 := State.rd_wr_same _ _ _
  have hvalid : ((s.put Reg.CLK_ROOT.FORCE_RELOCK true).deselect.setDpll 7).on Reg.REF_STATUS.SEL_VALID = false := by
    refine (State.on_congr (State.rd_wr_ne _ (by decide) 7)).trans ?_
    rw [apply_ite (State.on · Reg.REF_STATUS.SEL_VALID)]
    exact (ite_self _).trans (State.deselect_selValid _)
  generalize (s.put Reg.CLK_ROOT.FORCE_RELOCK true).deselect.setDpll 7 = a at hsel hdpll hvalid
  have hstep := Resourced.stepAt a eclk sixteenth sc
  generalize a.stepAt eclk sixteenth sc = b at hstep
  have hoff := b.stopClocks_off
  generalize b.stopClocks = c at hoff
  have hmoved := ChannelsMoved.ampAllOff c.pinsOff
  generalize c.pinsOff.ampAllOff = t at hmoved
  have hroot (q : FieldRef) : c.pinsOff.rd q = (b.put Reg.CLK_STATUS.ROOT_LOCK false).rd q :=
    congrArg (sget q.reset q.key) (congrArg State.regs hoff :)
  have hrd {q : FieldRef} (hq : q.key < 0xF0000 * 32) (hr : q.key ≠ Reg.CLK_STATUS.ROOT_LOCK.key)
      (hs : ¬ sourceField q.key) : t.rd q = a.rd q := by
    rw [hmoved.fields q hq, hroot, State.rd_put_ne _ hr, hstep.fields q hs]
  have hbflt : b.flt = a.flt := (congrArg State.flt hstep.rest :)
  have hcflt : c.pinsOff.flt = b.flt := (congrArg State.flt hoff :)
  refine ⟨?_, ?_, ?_, hmoved.rclk.trans (congrArg State.rclk hoff :), ?_, ?_, ?_, ?_⟩
  · rw [State.on_congr (hrd (q := Reg.CLK_ROOT.FORCE_RELOCK) (by decide) (by decide) (by decide)),
      hsel.on (by decide), State.on_put_same _ _ _ (by decide)]
  · rw [hrd (by decide) (by decide) (by decide), hdpll]
  · rw [State.on_congr (hrd (q := Reg.REF_STATUS.SEL_VALID) (by decide) (by decide) (by decide)), hvalid]
  · rw [State.on_congr (hmoved.fields Reg.CLK_STATUS.ROOT_LOCK (by decide)), State.on_congr (hroot _),
      State.on_put_same _ _ _ (by decide)]
  · exact hmoved.mem.trans ((congrArg State.mem hoff :).trans (hstep.clockSide.mem.trans hsel.mem))
  · exact hmoved.str.trans ((congrArg State.str hoff :).trans (hstep.clockSide.str.trans hsel.str))
  · rw [hmoved.flt, hcflt, hbflt, hsel.auditList]
    rfl

/-- The fields of an admitted write of CLK_ROOT are written, and FORCE_RELOCK then stops the clocks that run. -/
theorem State.writeClkRoot_forces {v : Word} (hadm : Admitted 0x10008 v) (hbit : v.getLsbD 3 = true) (hrun : s.rclk = true)
    (eclk sixteenth sc : Nat) : ∃ u, RegsOnly s u ∧ s.writeClkRoot v eclk sixteenth sc =
      (((((u.put Reg.CLK_ROOT.FORCE_RELOCK true).deselect).setDpll 7).stepAt eclk sixteenth sc).stopClocks).pinsOff.ampAllOff := by
  obtain ⟨fs, hfs, hok⟩ := hadm
  have hregs := s.writeFields_regsOnly fs v
  have hpart : Reg.CLK_ROOT.FORCE_RELOCK.part v = 1 := by
    rw [BitVec.getLsbD, Nat.testBit_eq_decide_div_mod_eq, decide_eq_true_eq] at hbit
    exact hbit
  refine ⟨s.writeFields fs v, hregs, ?_⟩
  simp only [State.writeClkRoot, State.guarded, hfs, hok, if_true]
  exact if_pos ⟨hpart, (congrArg State.rclk hregs : _).trans hrun⟩

/-- After a forced relock the root has lock again and the clocks run. -/
theorem State.relocked_runs (s : State) :
    let t : State := { (s.put Reg.CLK_ROOT.FORCE_RELOCK false).rootAcquire.ampRestart with rclk := true }
    t.rclk = true ∧ t.on Reg.CLK_STATUS.ROOT_LOCK = true ∧ t.on Reg.CLK_ROOT.FORCE_RELOCK = false ∧
      t.mem = s.mem ∧ t.str = s.str := by
  have hacq := Reselected.rootAcquire (s.put Reg.CLK_ROOT.FORCE_RELOCK false)
  generalize (s.put Reg.CLK_ROOT.FORCE_RELOCK false).rootAcquire = a at hacq
  have hmoved := ChannelsMoved.ampRestart a
  generalize a.ampRestart = b at hmoved
  refine ⟨rfl, ?_, ?_, hmoved.mem.trans hacq.mem, hmoved.str.trans hacq.str⟩
  · have hlock : b.on Reg.CLK_STATUS.ROOT_LOCK = a.on Reg.CLK_STATUS.ROOT_LOCK := State.on_congr (hmoved.fields _ (by decide))
    exact hlock.trans ((hacq.on (by decide)).trans (State.on_put_same _ _ _ (by decide)))
  · have hforce : b.on Reg.CLK_ROOT.FORCE_RELOCK = a.on Reg.CLK_ROOT.FORCE_RELOCK :=
      State.on_congr (hmoved.fields _ (by decide))
    rw [hacq.on (by decide), State.on_put_ne _ (by decide), State.on_put_same _ _ _ (by decide)] at hforce
    exact hforce

/-- ROOT_RELOCKED ends the relock of a family change, or that of FORCE_RELOCK, or is none. -/
theorem State.rootRelocked_runs (h : s.held = false) : exec .rootRelocked s = .next
    (if s.ref.family.map FamilyStep.phase = some 3 then (s.familyPhase 4).rootAcquire.planRestart
    else if s.on Reg.CLK_ROOT.FORCE_RELOCK then
      { (s.put Reg.CLK_ROOT.FORCE_RELOCK false).rootAcquire.ampRestart with rclk := true }
    else s) := by
  change execRootRelocked s = _
  exact core_runs s _ h

/-- Settles O36: the DPLL's moves by their states, and the relock by the parts that it stops and starts. -/
theorem dpllAndForcedRelock : Obligations.DpllAndForcedRelock := by
  unfold Obligations.DpllAndForcedRelock
  intro err v k u sc s
  refine ⟨fun hr h => ?_, fun hr h => ?_, fun f hr h hf hnear => ?_, fun f hr hf hfar => ?_, fun hr h herr => ?_,
    fun hr h => ?_, fun hheld hacq => ?_, fun hal hrun hadm hbit => ?_, fun hheld hfam hforce => ?_, fun hheld hfam hforce => ?_⟩
  · refine answers_clocked rfl hr rfl ?_
    rw [if_pos h, State.setDpll_moves s h (by decide) (by decide) (by decide)]
    exact ⟨State.rd_locked _ _, rfl, fun q hq => State.rd_wr_ne _ hq 4⟩
  · exact answers_clocked rfl hr rfl (if_neg h)
  · refine answers_clocked rfl hr rfl ?_
    have hout := State.slotOutput_of_freq hf
    rw [if_pos ⟨h, hout ▸ hnear⟩, ← hout]
    exact State.slewDone_moves h
  · refine answers_clocked rfl hr rfl (if_neg ?_)
    rintro ⟨h2, hnear⟩
    rw [State.slotOutput_of_freq hf] at hnear
    exact hfar.elim (absurd h2) (fun h => absurd hnear (Nat.not_le.mpr h))
  · refine answers_clocked rfl hr rfl ?_
    rw [if_pos ⟨h, herr⟩, State.setDpll_moves s h (by decide) (by decide) (by decide)]
    refine ⟨(State.rd_wr_ne _ (by decide) _).trans (State.rd_locked _ _), State.rdInt_wrInt_same _ (by decide) ?_ ?_, rfl⟩
    all_goals simp only [Reg.REF_PHERR.PHERR]; omega
  · refine answers_clocked rfl hr rfl (if_neg ?_)
    rintro ⟨h3, hnear⟩
    exact h.elim (absurd h3) (fun h => absurd hnear (Nat.not_le.mpr h))
  · refine answers_core rfl hheld ?_
    rw [if_pos (by simp [hacq])]
    exact ⟨rfl, rfl, rfl⟩
  · refine answers_core (f := fun s => s.control 0x10008 v fun s => s.writeClkRoot v k.toNat u.toNat sc) rfl hal.1 ?_
    obtain ⟨w, hregs, hw⟩ := State.writeClkRoot_forces hadm hbit hrun k.toNat u.toNat sc
    obtain ⟨hforce, hdpll, hvalid, hclk, hlock, hmem, hstr, haudit⟩ := w.forcedRelock_stops k.toNat u.toNat sc
    rw [← hw] at hforce hdpll hvalid hclk hlock hmem hstr haudit
    rw [hal.control_act (haudit.trans (congrArg (fun x : State => x.flt.auditList) hregs :))]
    exact ⟨hforce, hdpll, hvalid, hclk, hlock, hmem.trans (congrArg State.mem hregs :), hstr.trans (congrArg State.str hregs :)⟩
  · refine ⟨_, State.rootRelocked_runs hheld, ?_⟩
    rw [if_neg (by simp [hfam]), if_pos hforce]
    exact s.relocked_runs
  · refine ⟨_, State.rootRelocked_runs hheld, ?_⟩
    rw [if_neg (by simp [hfam]), if_neg (by simp [hforce])]

end Sys2Proof.Machine
end

section
/-! SUPPORT. What a change of rate family does at its ticks (08 R175), and the statement settled. -/

namespace Sys2Proof.Machine

open Sys2Proof.Claims

variable {s t u : State}

/-! ### Tick F + 16: the columns finish (R175) -/

/-- A column whose change has finished. -/
def Col.finished (c : Col) (result : Nat) (cut : Bool) : Col :=
  match c.change with
  | none => c
  | some h =>
    if h.toOff then { commitId := c.commitId, result := result }
    else { c with live := h.new, change := none, result := result, cutTick := cut }

/-- A finished column changes no more. -/
theorem Col.finished_change (c : Col) (result : Nat) (cut : Bool) : (c.finished result cut).change = none := by
  unfold Col.finished
  split
  · assumption
  · split <;> rfl

/-- A column that changes no more is finished. -/
theorem Col.finished_idle {c : Col} (h : c.change = none) (result : Nat) (cut : Bool) : c.finished result cut = c := by
  unfold Col.finished
  rw [h]

/-- A column that stays ends on its new list. -/
theorem Col.finished_live {c : Col} {h : ColChange} (hc : c.change = some h) (ho : h.toOff = false) (result : Nat)
    (cut : Bool) : (c.finished result cut).live = h.new := by
  unfold Col.finished
  rw [hc]
  simp only [ho, Bool.false_eq_true, if_false]

/-- Finishing column n finishes its record and leaves every other. -/
theorem State.col_finishCol (s : State) (n result : Nat) (cut : Bool) (c : Nat) :
    (s.finishCol n result cut).col c = if c = n then (s.col n).finished result cut else s.col c := by
  have hset (x : Col) : (s.setCol n x).col c = if c = n then x else s.col c := sget_sset _ _ _ _ _
  cases hc : (s.col n).change with
  | none =>
    have hsame : s.finishCol n result cut = s := by simp only [State.finishCol, hc]
    rw [hsame, Col.finished_idle hc]
    split
    · next h => rw [h]
    · rfl
  | some h =>
    by_cases ho : h.toOff
    · rw [State.finishCol_off hc ho, hset]
      simp only [Col.finished, hc, ho, if_true]
    · rw [State.finishCol_stays hc (Bool.not_eq_true _ ▸ ho), hset]
      simp only [Col.finished, hc, ho, Bool.false_eq_true, if_false]

/-- Finishing the listed columns finishes the records of these and leaves every other. -/
theorem State.col_finishCols (result : Nat) (cut : Bool) (c : Nat) (l : List Nat) : ∀ s : State,
    (l.foldl (fun s n => s.finishCol n result cut) s).col c =
      if c ∈ l then (s.col c).finished result cut else s.col c := by
  induction l with
  | nil => exact fun s => rfl
  | cons n l ih =>
    intro s
    have hidle (x : Col) : (x.finished result cut).finished result cut = x.finished result cut :=
      Col.finished_idle (x.finished_change result cut) result cut
    rw [List.foldl_cons, ih, State.col_finishCol]
    by_cases hn : c = n
    · simp only [hn, if_true, hidle, List.mem_cons_self, ite_self]
    · simp only [hn, if_false, List.mem_cons, false_or]

/-- A key that is not listed reads as the default. -/
theorem sget_of_notMem {V : Type} (d : V) {k : Nat} {m : SMap V} (h : k ∉ m.map (·.1)) : sget d k m = d := by
  induction m with
  | nil => rfl
  | cons p m ih =>
    rw [List.map_cons, List.mem_cons, not_or] at h
    obtain ⟨hp, hm⟩ := h
    rw [sget, sfind, if_neg (fun e => hp e.symm)]
    exact ih hm

/-- The records of commits leave the columns. -/
theorem State.commitsDone_cols (s : State) : s.commitsDone.mtx.cols = s.mtx.cols := by
  refine foldl_keeps (fun s : State => s.mtx.cols) _ (fun u n => ?_) _ s
  unfold State.onCommit
  split <;> rfl

/-- What the writes of generic gains and of their records keep, their placing keeps. -/
theorem State.placeGains_keeps {γ : Type} {f : State → γ}
    (hgain : ∀ s m m', f { s with mtx := { s.mtx with gown := m, gmem := m' } } = f s)
    (hecc : ∀ (s : State) k, f (s.eccClear k) = f s) (s : State) : f s.placeGains = f s := by
  unfold State.placeGains
  dsimp only
  rw [foldl_keeps f]
  · exact hgain s _ s.mtx.gmem
  · exact fun u w => (hecc _ _).trans (hgain u _ _)

/-- At the last tick every column's change has finished. -/
theorem State.mtxComplete_col (s : State) (c : Nat) : s.mtxComplete.col c = (s.col c).finished 1 false := by
  have hcols : s.mtxComplete.col c =
      ((s.mtx.cols.map (·.1)).foldl (fun s n => s.finishCol n 1 false) s).col c := by
    unfold State.mtxComplete State.col
    rw [State.placeGains_keeps (f := fun s => s.mtx.cols) (fun _ _ _ => rfl) (fun _ _ => rfl), State.commitsDone_cols]
  rw [hcols, State.col_finishCols]
  split
  · rfl
  · next h =>
    have hoff : s.col c = {} := sget_of_notMem _ h
    rw [hoff]
    rfl

/-- The matrix's own items leave the references. -/
theorem State.mtxComplete_ref (s : State) : s.mtxComplete.ref = s.ref := by
  have hcols : ((s.mtx.cols.map (·.1)).foldl (fun s n => s.finishCol n 1 false) s).ref = s.ref :=
    (congrArg State.ref (MatrixOnly.foldl (fun s n => MatrixOnly.finishCol s n 1 false) _ s) :)
  have hcommits (u : State) : u.commitsDone.ref = u.ref :=
    (congrArg State.ref (MatrixOnly.foldl (fun s n => MatrixOnly.onCommit s n _) _ u) :)
  have hgains (u : State) : u.placeGains.ref = u.ref := State.placeGains_keeps (fun _ _ _ => rfl) (fun _ _ => rfl) u
  rw [State.mtxComplete, hgains, hcommits, hcols]

/-! ### The gap: the plan restarts and the new rate begins (R175) -/

/-- Two states that differ in addressed memory, its error marks and the engines alone. -/
def EnginesOnly (s t : State) : Prop := t = { s with mem := t.mem, ecc := t.ecc, eng := t.eng }

namespace EnginesOnly

theorem refl (s : State) : EnginesOnly s s := rfl

theorem trans (h : EnginesOnly s t) (g : EnginesOnly t u) : EnginesOnly s u :=
  Eq.trans g (congrArg (fun x : State => { x with mem := u.mem, ecc := u.ecc, eng := u.eng }) h)

theorem of_memory (h : MemoryOnly s t) : EnginesOnly s t := by
  unfold MemoryOnly at h
  generalize t.mem = m, t.ecc = c at h
  subst h
  rfl

theorem planRestart (s : State) : EnginesOnly s s.planRestart := by
  refine trans (of_memory (MemoryOnly.foldl MemoryOnly.zeroKnot _ s)) (foldl_related refl trans (fun u q => ?_) _ _)
  have hconst : EnginesOnly u (q.2.consts.foldl (fun s c => s.putConst q.1 c) u) :=
    of_memory (MemoryOnly.foldl (fun s (c : ConstData) => MemoryOnly.putWords q.1 c.region _ s 0) _ u)
  dsimp only
  generalize q.2.consts.foldl (fun s c => s.putConst q.1 c) u = w at hconst
  split
  · exact hconst.trans rfl
  · exact hconst

end EnginesOnly

/-- Two states that differ in registers, network and converters alone. -/
def RateOnly (s t : State) : Prop := t = { s with regs := t.regs, net := t.net, ser := t.ser }

namespace RateOnly

theorem refl (s : State) : RateOnly s s := rfl

theorem trans (h : RateOnly s t) (g : RateOnly t u) : RateOnly s u :=
  Eq.trans g (congrArg (fun x : State => { x with regs := u.regs, net := u.net, ser := u.ser }) h)

theorem wr (s : State) (f : FieldRef) (v : Nat) : RateOnly s (s.wr f v) := rfl

theorem rescaleInc (s : State) (old new : Nat) : RateOnly s (s.rescaleInc old new) := by
  refine foldl_related refl trans (fun u d => ?_) _ s
  split
  · exact refl u
  · exact (wr u _ _).trans (wr _ _ _)

theorem onSer (s : State) (f : SerState → SerState) : RateOnly s (s.onSer f) := rfl

theorem netRestart (s : State) (k : Nat) : RateOnly s (s.netRestart k) := rfl

/-- ASRC lanes of a list begin again. -/
theorem lanesRestart (l : List Nat) (s : State) : RateOnly s (l.foldl (fun s l =>
    if s.rd (Reg.SAP_ASRC_STATUS.STATE l) = 0 then s else s.wr (Reg.SAP_ASRC_STATUS.STATE l) 1) s) := by
  refine foldl_related refl trans (fun u n => ?_) l s
  split <;> rfl

/-- Decimation channels of a list begin again. -/
theorem decRestart (l : List Nat) (s : State) :
    RateOnly s (l.foldl (fun s c => s.setDec c { s.decCh c with restart := true }) s) :=
  foldl_related refl trans (fun u _ => onSer u _) l s

theorem convertersRestart (s : State) : RateOnly s s.convertersRestart :=
  ((lanesRestart _ s).trans (onSer _ _)).trans (decRestart _ _)

end RateOnly

/-- The first tick at the new rate finds the clocks running, the change in its hold, and the noise shapers cleared. -/
theorem State.newRate_begins {f : FamilyStep} (hf : s.ref.family = some f) (k : Nat) :
    (s.newRate k).rclk = true ∧ (s.newRate k).ref.family = some { f with phase := 5 } ∧ (s.newRate k).mem = s.mem ∧
      (s.newRate k).tick = s.tick ∧ ∀ n, n < 32 → ((s.newRate k).ampCh n).errs = [] := by
  unfold State.newRate
  dsimp only
  generalize hv : State.familyPhase _ 5 = v
  have hrate : RateOnly v ((v.rescaleInc (tickRate (1 - s.rd Reg.CLK_STATUS.FAMILY) v.mult)
      (tickRate (s.rd Reg.CLK_STATUS.FAMILY) v.mult)).netRestart k).convertersRestart :=
    ((RateOnly.rescaleInc v _ _).trans (RateOnly.netRestart _ k)).trans (RateOnly.convertersRestart _)
  generalize ((v.rescaleInc _ _).netRestart k).convertersRestart = w at hrate
  have href : w.ref = v.ref := (congrArg State.ref hrate :)
  have hfam : v.ref.family = s.ref.family.map fun f => { f with phase := 5 } := by rw [← hv]; rfl
  refine ⟨(congrArg State.rclk hrate :).trans (hv ▸ rfl), ?_, (congrArg State.mem hrate :).trans (hv ▸ rfl),
    (congrArg State.tick hrate :).trans (hv ▸ rfl), fun n _ => ?_⟩
  · exact (congrArg RefState.family href).trans (hfam.trans (by rw [hf]; rfl))
  · unfold State.ampCh sget State.onAmp
    dsimp only
    rw [sfind_map (fun x => { x with errs := [], restart := true } : AmpCh → AmpCh)]
    cases sfind n w.amp.ch with
    | none => rfl
    | some x => rfl

/-! ### The request (R175) -/

/-- The fields of REF_CTRL. -/
def refCtrlFields : List FieldSpec :=
  [⟨Reg.REF_CTRL.MODE, .rw, .any⟩, ⟨Reg.REF_CTRL.FORCE_SLOT, .rw, .any⟩, ⟨Reg.REF_CTRL.REVERT, .rw, .any⟩,
    ⟨Reg.REF_CTRL.FAMILY, .rw, .any⟩, ⟨Reg.REF_CTRL.FAMREQ, .ws, .any⟩]

/-- They are the fields that the register index lists. -/
theorem fieldsAt_refCtrl : fieldsAt 0x20000 = some refCtrlFields := by decide

/-- FAMILY takes its part of a word written to REF_CTRL. -/
theorem State.writeRefCtrl_family (s : State) (v : Word) :
    (s.writeFields refCtrlFields v).rd Reg.REF_CTRL.FAMILY = Reg.REF_CTRL.FAMILY.part v :=
  (State.rd_wr_same _ Reg.REF_CTRL.FAMILY _).trans (Nat.mod_mod _ _)

/-- A write of REF_CTRL leaves every field at another place. -/
theorem State.rd_writeRefCtrl_ne (s : State) (v : Word) {q : FieldRef} (hq : q.addr ≠ 0x20000) (hlo : q.lo < 32) :
    (s.writeFields refCtrlFields v).rd q = s.rd q := by
  have hat : ∀ f ∈ refCtrlFields, f.ref.addr = 0x20000 ∧ f.ref.lo < 32 := by decide
  refine foldl_keeps_mem (State.rd · q) _ _ (fun u f hf => u.rd_writeField_ne v ?_) s
  obtain ⟨haddr, hflo⟩ := hat f hf
  simp only [FieldRef.key, haddr]
  omega

/-- What FAMREQ makes of the fields just written: a refusal, or the change two ticks ahead. -/
def State.requested (s : State) : State :=
  if s.rd Reg.REF_CTRL.FAMILY = s.rd Reg.CLK_STATUS.FAMILY ∨ s.on Reg.ENG_LP_STATUS.ARMED = true ∨
      s.on Reg.ENG_LP_STATUS.RAMPING = true then
    (s.put Reg.REF_STATUS.FAM_REFUSED true).refused
  else if s.ref.family.isSome then s
  else (s.put Reg.REF_CTRL.FAMREQ true).onRef fun r => { r with family := some ⟨s.tick + 2, 0⟩ }

/-- An admitted write of REF_CTRL with FAMREQ writes the fields, requests, and has the slots reviewed. -/
theorem State.writeRefCtrl_requests {v : Word} (h : Admitted 0x20000 v) (hreq : Reg.REF_CTRL.FAMREQ.part v = 1) :
    s.writeRefCtrl v = (s.writeFields refCtrlFields v).requested.review := by
  obtain ⟨fs, hfs, hadm⟩ := h
  cases fieldsAt_refCtrl.symm.trans hfs
  simp only [State.writeRefCtrl, State.guarded, fieldsAt_refCtrl, hadm, hreq, if_true]
  rfl

/-- The request leaves the list of audits. -/
theorem State.requested_auditList (s : State) : s.requested.flt.auditList = s.flt.auditList := by
  unfold State.requested
  split
  · rw [State.refused, State.raise_eq]
    rfl
  · split <;> rfl

/-- Settles O37: the request, and each step of the change at its tick and not at its tick. -/
theorem familyChange : Obligations.FamilyChange := by
  unfold Obligations.FamilyChange
  intro v x s
  refine ⟨fun hal hadm hreq hnone => ?_, fun hr hdue => ?_, fun hr hdue => ?_, fun hr hwin hdue => ?_,
    fun f hheld hfam hphase => ?_, fun f hheld hfam hphase => ?_, fun hr hdue => ?_, fun hr hdue => ?_, fun hr hdue => ?_,
    fun hr hdue => ?_⟩
  · have hregs := s.writeFields_regsOnly refCtrlFields v
    have hfamily := s.writeRefCtrl_family v
    have hkeep := fun {q : FieldRef} => s.rd_writeRefCtrl_ne v (q := q)
    have hlive := hkeep (q := Reg.CLK_STATUS.FAMILY) (by decide) (by decide)
    have harmed := State.on_congr (hkeep (q := Reg.ENG_LP_STATUS.ARMED) (by decide) (by decide))
    have hramp := State.on_congr (hkeep (q := Reg.ENG_LP_STATUS.RAMPING) (by decide) (by decide))
    have hact := State.writeRefCtrl_requests (s := s) hadm hreq
    generalize s.writeFields refCtrlFields v = w at hregs hfamily hlive harmed hramp hact
    have href : w.ref = s.ref := (congrArg State.ref hregs :)
    have htick : w.tick = s.tick := (congrArg State.tick hregs :)
    have hsel := Reselected.review w.requested
    rw [← hact] at hsel
    have hexec : exec (.famreq v) s = core (fun s => s.control 0x20000 v fun s => s.writeRefCtrl v) s := rfl
    have hrun := hal.control_act (a := 0x20000) (v := v) (act := fun s => s.writeRefCtrl v)
      (hsel.auditList.trans (w.requested_auditList.trans (congrArg (fun x : State => x.flt.auditList) hregs :)))
    refine ⟨fun hother ha hp => answers_core hexec hal.1 ?_, fun hrefuse => answers_core hexec hal.1 ?_⟩
    · have hbegun : w.requested = (w.put Reg.REF_CTRL.FAMREQ true).onRef fun r => { r with family := some ⟨s.tick + 2, 0⟩ } := by
        rw [State.requested, if_neg (by simp [hfamily, hlive, harmed, hramp, ha, hp, hother]),
          if_neg (by simp [href, hnone]), htick]
      rw [hrun]
      rw [hbegun] at hsel
      exact ⟨hsel.family, (hsel.on (by decide)).trans (w.on_put_same Reg.REF_CTRL.FAMREQ true (by decide))⟩
    · have hrefused : w.requested = (w.put Reg.REF_STATUS.FAM_REFUSED true).raise Src.CTL_REFUSED := by
        rw [State.requested, if_pos (by simpa [hfamily, hlive, harmed, hramp] using hrefuse), State.refused]
      rw [hrun]
      rw [hrefused] at hsel
      refine ⟨hsel.family.trans ?_, (hsel.on (by decide)).trans ?_, hsel.events.subset ?_⟩
      · rw [State.raise_ref]
        exact (congrArg RefState.family href).trans hnone
      · rw [State.raise_on]
        exact w.on_put_same Reg.REF_STATUS.FAM_REFUSED true (by decide)
      · rw [State.raise_arriving _ (by decide)]
        exact List.mem_concat_self
  · refine answers_clocked rfl hr rfl ?_
    rw [if_pos hdue]
    exact ⟨rfl, State.on_put_same _ _ _ (by decide), rfl⟩
  · exact answers_clocked rfl hr rfl (if_neg (by simp [hdue]))
  · refine answers_clocked rfl hr rfl ?_
    rw [if_pos (by simp [hwin, hdue])]
    refine ⟨congrArg RefState.family (s.familyPhase 2).mtxComplete_ref, fun c => ?_, fun c h hc ho => ?_⟩
    · rw [State.familyLast, State.mtxComplete_col]
      exact Col.finished_change _ 1 false
    · rw [State.familyLast, State.mtxComplete_col]
      exact Col.finished_live hc ho 1 false
  · refine ⟨_, State.rootRelocked_runs hheld, ?_⟩
    rw [if_pos (by simp [hfam, hphase])]
    have hacq := Reselected.rootAcquire (s.familyPhase 4)
    generalize (s.familyPhase 4).rootAcquire = a at hacq
    have hplan := EnginesOnly.planRestart a
    have href : a.planRestart.ref = a.ref := (congrArg State.ref hplan :)
    have hrd (q : FieldRef) : a.planRestart.rd q = a.rd q := congrArg (sget q.reset q.key) (congrArg State.regs hplan :)
    refine ⟨?_, ?_, (congrArg State.rclk hplan :).trans hacq.rclk⟩
    · have hfour : (s.familyPhase 4).ref.family = some { f with phase := 4 } := by
        simp [State.familyPhase, State.onRef, hfam]
      exact (congrArg RefState.family href).trans (hacq.family.trans hfour)
    · exact (State.on_congr (hrd _)).trans ((hacq.on (by decide)).trans (State.on_put_same _ _ _ (by decide)))
  · refine answers_core (f := fun s => if (s.ref.family.map FamilyStep.phase) = some 4 then
      (s.newRate (s.tick + 1)).nextTick x else s) rfl hheld ?_
    rw [if_pos (by simp [hfam, hphase])]
    exact ⟨_, rfl, State.newRate_begins hfam _⟩
  · exact answers_clocked rfl hr rfl (if_pos hdue)
  · exact answers_clocked rfl hr rfl (if_neg (Bool.not_eq_true _ ▸ hdue))
  · refine answers_clocked rfl hr rfl ?_
    have hdue' : s.familyDue 6 (33 + s.holdTicks) = true := hdue
    rw [if_pos hdue']
    refine ⟨rfl, ?_, State.on_put_same _ Reg.REF_CTRL.FAMREQ false (by decide), rfl⟩
    exact (State.on_put_ne _ (r := Reg.REF_CTRL.FAMREQ) (by decide) false).trans
      (s.on_put_same Reg.CLK_STATUS.RELOCK false (by decide))
  · exact answers_clocked rfl hr rfl (if_neg (Bool.not_eq_true _ ▸ hdue))

end Sys2Proof.Machine
end

section
/-! SUPPORT. The resolution of time triggers and the tick each of its owners then waits for (09 R197), and the statement
settled. -/

namespace Sys2Proof.Machine

open Sys2Proof.Claims

/-! ### The law of resolution (R197) -/

/-- A quotient rounded up is the least integer whose multiple reaches the dividend. -/
theorem ceilDivInt_le_iff {b : Nat} (hb : 0 < b) (a c : Int) : ceilDivInt a b ≤ c ↔ a ≤ c * b := by
  have hdiv := Int.le_ediv_iff_mul_le (a := -c) (b := -a) (c := b) (by exact_mod_cast hb)
  rw [Int.neg_mul] at hdiv
  rw [ceilDivInt]
  omega

/-- A time resolves once it is at most 8,192.5 increments ahead. -/
theorem resolveAt_isSome_iff (k : Nat) (now : Int) (inc t : Nat) :
    (resolveAt k now inc t).isSome = true ↔ 2 * (t : Int) ≤ 2 * now + 16385 * inc := by
  unfold resolveAt
  split
  · next h => exact iff_of_true rfl h
  · next h => exact iff_of_false nofun h

/-- What a time resolves to: among the ticks from k on, those at or after it are the ticks whose boundary is at or after
half an increment before the time. -/
theorem resolveAt_le_iff {k r inc t : Nat} {now : Int} (hinc : 0 < inc) (h : resolveAt k now inc t = some r) {j : Nat}
    (hj : k ≤ j) : r ≤ j ↔ 2 * (t : Int) - inc ≤ 2 * (now + ((j : Int) - k) * inc) := by
  have hceil := ceilDivInt_le_iff (b := 2 * inc) (by omega) (2 * ((t : Int) - now) - inc) ((j : Int) - k)
  have hmul : ((j : Int) - k) * (2 * inc : Nat) = 2 * (((j : Int) - k) * inc) := by push_cast; ring
  rw [hmul] at hceil
  unfold resolveAt at h
  split at h
  · cases h
    omega
  · cases h

/-- A time resolves to no tick before the boundary at which it resolves. -/
theorem le_of_resolveAt {k r inc t : Nat} {now : Int} (h : resolveAt k now inc t = some r) : k ≤ r := by
  unfold resolveAt at h
  split at h
  · cases h
    exact Nat.le_add_right _ _
  · cases h

variable {s : State}

/-! ### The owners by their codes -/

section Codes

variable (s : State) (f : Trig → Option (Nat × Bool)) (b : Fin 64) (c g : Fin 16)

theorem State.ownerTrig_braid : s.ownerTrig (ownerCode (.braid b)) = (s.braid b).armed := if_pos b.isLt

theorem State.ownerTrig_commit : s.ownerTrig (ownerCode (.commit c)) =
    (s.mtx.commits.find? fun p => decide (p.1 % 16 = c.val ∧ p.2.state = 1)).map fun p => p.2.trig := by
  rw [ownerCode, State.ownerTrig, if_neg (by omega), if_neg (by omega), if_pos (by omega), Nat.add_sub_cancel_left]

theorem State.ownerTrig_group : s.ownerTrig (ownerCode (.group g)) = sfind g.val s.net.grp := by
  rw [ownerCode, State.ownerTrig, if_neg (by omega), if_neg (by omega), if_neg (by omega), Nat.add_sub_cancel_left]

theorem State.resolveWith_braid : s.resolveWith f (ownerCode (.braid b)) = s.resolveBraid f b := if_pos b.isLt

theorem State.resolveWith_commit : s.resolveWith f (ownerCode (.commit c)) =
    (s.mtx.commits.map (·.1)).foldl (fun s n => if n % 16 = c.val then s.resolveCommit f n else s) s := by
  rw [ownerCode, State.resolveWith, if_neg (by omega), if_neg (by omega), if_pos (by omega), Nat.add_sub_cancel_left]

theorem State.resolveWith_group : s.resolveWith f (ownerCode (.group g)) = s.resolveGroup f g := by
  rw [ownerCode, State.resolveWith, if_neg (by omega), if_neg (by omega), if_neg (by omega), Nat.add_sub_cancel_left]

end Codes

/-! ### An owner's trigger off a pair -/

/-- A chip that is not in PAIRED mode neither leads a pair nor stands by. -/
theorem State.pairSt_of_unpaired (hp : s.paired = false) : s.pairSt ≠ 1 ∧ s.isStandby = false := by
  simp only [State.paired, Bool.and_eq_false_iff, decide_eq_false_iff_not] at hp
  simp only [State.pairSt, State.isStandby, decide_eq_false_iff_not]
  omega

/-- TRIGGER_RESOLVE off a pair: where the owner's trigger resolves to a later tick, it answers what its resolution
makes of the node. -/
theorem answers_triggerResolve {sc k : Nat} {y : Trig} {o : TrigOwner} {t : State} {p : State → Prop} (hs : s.runs)
    (hp : s.paired = false) (hy : ResolvesTo s sc y k) (hk : s.tick + 1 < k) (ho : s.ownerTrig (ownerCode o) = some y)
    (ht : ∀ g, Trig.timed g y = some (k, false) → s.resolveWith (Trig.timed g) (ownerCode o) = t)
    (hst : t.pairSt = s.pairSt) (hpt : p t) : Answers (.triggerResolve o sc) s p := by
  obtain ⟨hlead, hstandby⟩ := State.pairSt_of_unpaired hp
  have htimed : Trig.timed ((s.timeTick sc).resolve (s.tick + 1)) y = some (k, false) := by
    obtain ⟨d, sec, ns, rfl, hres⟩ := hy
    rw [Trig.timed, State.resolve, hres, Option.map_some, decide_eq_false (Nat.not_le.mpr hk)]
  have hsend (n : Nat) : t.sendTrig (ownerCode o) n = t := if_neg fun h => hlead (hst ▸ h.1)
  have hrun : s.resolveOwner o sc = t := by
    rw [State.resolveOwner, State.resolveOne, ho, Option.bind_some, htimed]
    simp only [hstandby, Bool.false_and, Bool.false_eq_true, if_false, ht _ htimed, hsend, ite_self]
  exact answers_clocked (f := fun s => s.resolveOwner o sc) rfl hs rfl (hrun.symm ▸ hpt)

/-- The pair state is read from the registers. -/
theorem State.pairSt_congr {t : State} (h : t.regs = s.regs) : t.pairSt = s.pairSt :=
  congrArg (sget Reg.TTH_STATUS.STATE.reset Reg.TTH_STATUS.STATE.key) h

/-! ### What each owner makes of a trigger that resolves to a later tick -/

section Owners

variable {f : Trig → Option (Nat × Bool)} {y : Trig} {k : Nat} (hf : f y = some (k, false))
include hf

/-- A braid waits for the tick. -/
theorem State.resolveBraid_later {b : Nat} (h : (s.braid b).armed = some y) :
    s.resolveBraid f b = s.onBraid b fun x => { x with armed := some (.tick k) } := by
  simp [State.resolveBraid, h, hf]

/-- The lay-plan switch waits for the tick, and its ramp-out is placed. -/
theorem State.resolvePlan_later (h : s.lp.armed = some y) :
    s.resolvePlan f = ((s.onLp fun l => { l with armed := some (.tick k) }).rampOut k).showRamps := by
  simp [State.resolvePlan, h, hf]

/-- A commit waits for the tick. -/
theorem State.resolveCommit_later {n : Nat} {x : Commit} (h : sfind n s.mtx.commits = some x) (hx : x.state = 1)
    (hy : x.trig = y) : s.resolveCommit f n = s.onCommit n fun c => { c with trig := .tick k } := by
  simp [State.resolveCommit, h, hx, hy, hf]

/-- A start group waits for the tick. -/
theorem State.resolveGroup_later {g : Nat} (h : sfind g s.net.grp = some y) :
    s.resolveGroup f g = s.onNet fun r => { r with grp := sinsert g (.tick k) r.grp } := by
  simp [State.resolveGroup, h, hf]

end Owners

/-! ### The lay-plan switch -/

/-- A ramp-out placed changes the records of the lay plans alone. -/
theorem State.rampOut_keeps {γ : Type} (f : State → γ) (hf : ∀ (s : State) l, f { s with lp := l } = f s) (s : State)
    (n : Nat) : f (s.rampOut n) = f s := by
  unfold State.rampOut
  split
  · rfl
  · exact foldl_keeps f _ (fun u _ => hf u _) _ s

/-! ### The pending commits -/

/-- A commit's record as it was changed. -/
theorem State.commit_onCommit_same {n : Nat} {x : Commit} (h : sfind n s.mtx.commits = some x) (f : Commit → Commit) :
    sfind n (s.onCommit n f).mtx.commits = some (f x) := by
  simp [State.onCommit, h]

/-- A change of a commit's record leaves the columns. -/
theorem State.onCommit_cols (s : State) (n : Nat) (f : Commit → Commit) : (s.onCommit n f).mtx.cols = s.mtx.cols := by
  unfold State.onCommit
  split <;> rfl

/-- A commit that waits for a tick has no time trigger to resolve. -/
theorem State.resolveCommit_tick {g : Nat → Nat → Nat → Option (Nat × Bool)} {n k : Nat} {x : Commit}
    (h : sfind n s.mtx.commits = some x) (hx : x.trig = .tick k) : s.resolveCommit (Trig.timed g) n = s := by
  simp [State.resolveCommit, h, hx, Trig.timed]

/-- Where every entry that a search may meet stands under one key, it meets what is found under that key. -/
theorem find?_of_sfind {V : Type} {q : Nat × V → Bool} {n : Nat} {x : V} {m : SMap V} (h : sfind n m = some x)
    (hx : q (n, x) = true) (hq : ∀ p ∈ m, q p = true → p.1 = n) : m.find? q = some (n, x) := by
  induction m with
  | nil => cases h
  | cons p m ih =>
    obtain ⟨j, v⟩ := p
    obtain ⟨hj, hm⟩ := List.forall_mem_cons.mp hq
    by_cases hjn : j = n
    · subst hjn
      obtain rfl : v = x := by simpa [sfind] using h
      rw [List.find?_cons_of_pos hx]
    · rw [List.find?_cons_of_neg fun hpos => hjn (hj hpos)]
      exact ih (by simpa [sfind, hjn] using h) hm

/-- A fold over a list with one effective item, which has its effect once however often it is listed. -/
theorem foldl_of_idempotent {α β : Type} {g : β → α → β} {a : α} {b : β} {l : List α} (ha : a ∈ l)
    (hother : ∀ c ∈ l, c ≠ a → ∀ u, g u c = u) (hself : g (g b a) a = g b a) : l.foldl g b = g b a := by
  have hdone (l : List α) (hl : ∀ c ∈ l, g (g b a) c = g b a) : l.foldl g (g b a) = g b a := by
    induction l with
    | nil => rfl
    | cons c l ih =>
      obtain ⟨hc, hl⟩ := List.forall_mem_cons.mp hl
      rw [List.foldl_cons, hc, ih hl]
  induction l with
  | nil => cases ha
  | cons c l ih =>
    obtain ⟨hc, hl⟩ := List.forall_mem_cons.mp hother
    by_cases hca : c = a
    · subst hca
      refine hdone l fun d hd => ?_
      by_cases hdc : d = c
      · rw [hdc, hself]
      · exact hl d hd hdc _
    · rw [List.foldl_cons, hc hca]
      exact ih (List.mem_of_ne_of_mem (Ne.symm hca) ha) hl

/-- The pending trigger of a commit ID that one commit alone has. -/
theorem State.ownerTrig_commit_of_find {c : Fin 16} {n : Nat} {x : Commit} (hn : n % 16 = c.val)
    (h : sfind n s.mtx.commits = some x) (hx : x.state = 1) (hone : ∀ p ∈ s.mtx.commits, p.1 % 16 = c.val → p.1 = n) :
    s.ownerTrig (ownerCode (.commit c)) = some x.trig := by
  rw [State.ownerTrig_commit, find?_of_sfind h (decide_eq_true ⟨hn, hx⟩) fun p hp hq => hone p hp (of_decide_eq_true hq).1,
    Option.map_some]

/-- The resolution of a commit ID that one commit alone has. -/
theorem State.resolveWith_commit_later {g : Nat → Nat → Nat → Option (Nat × Bool)} {c : Fin 16} {n k : Nat} {x : Commit}
    (hn : n % 16 = c.val) (h : sfind n s.mtx.commits = some x) (hx : x.state = 1)
    (hone : ∀ p ∈ s.mtx.commits, p.1 % 16 = c.val → p.1 = n) (hg : Trig.timed g x.trig = some (k, false)) :
    s.resolveWith (Trig.timed g) (ownerCode (.commit c)) = s.onCommit n fun c => { c with trig := .tick k } := by
  have hstep := State.resolveCommit_later (s := s) hg h hx rfl
  have hagain := State.resolveCommit_tick (g := g) (State.commit_onCommit_same h fun c => { c with trig := .tick k }) rfl
  rw [State.resolveWith_commit, foldl_of_idempotent (List.mem_map.mpr ⟨_, mem_of_sfind h, rfl⟩), if_pos hn, hstep]
  · intro j hj hne u
    obtain ⟨p, hp, rfl⟩ := List.mem_map.mp hj
    exact if_neg fun hjc => hne (hone p hp hjc)
  · rw [if_pos hn, if_pos hn, hstep, hagain]

/-- Settles O39: the law by the ticks at or after the one that a time resolves to, and TRIGGER_RESOLVE owner by owner. -/
theorem timeTriggersResolve : Obligations.TimeTriggersResolve := by
  unfold Obligations.TimeTriggersResolve
  refine ⟨fun k now inc t hinc => ⟨resolveAt_isSome_iff k now inc t, fun r h => ⟨le_of_resolveAt h,
    (resolveAt_le_iff hinc h (le_of_resolveAt h)).mp (Nat.le_refl r), fun j hj hlt => ?_⟩⟩,
    fun b g c sc k y s hs hp hy hk => ⟨fun hb => ?braid, fun ha => ?plan, fun n x hn hx hstate htrig hone => ?commit,
      fun hg => ?group⟩⟩
  · exact Int.not_le.mp fun hle => Nat.not_le.mpr hlt ((resolveAt_le_iff hinc h hj).mpr hle)
  case braid =>
    exact answers_triggerResolve hs hp hy hk ((s.ownerTrig_braid b).trans hb)
      (fun f hf => (s.resolveWith_braid _ b).trans (State.resolveBraid_later hf hb)) (State.pairSt_congr rfl)
      ⟨s.braid_onBraid_same b _, rfl⟩
  case plan =>
    refine answers_triggerResolve hs hp hy hk ha (fun f hf => State.resolvePlan_later hf ha) ?_ ⟨?_, ?_⟩
    · exact (State.rd_put_ne _ (by decide) _).trans (State.pairSt_congr (State.rampOut_keeps State.regs (fun _ _ => rfl) _ k))
    · exact (LpKept.rampOut (s.onLp fun l => { l with armed := some (.tick k) }) k).armed
    · exact State.rampOut_keeps State.mem (fun _ _ => rfl) _ k
  case commit =>
    subst htrig
    exact answers_triggerResolve hs hp hy hk (State.ownerTrig_commit_of_find hn hx hstate hone)
      (fun f hf => State.resolveWith_commit_later hn hx hstate hone hf) (State.pairSt_congr (s.onCommit_regs n _))
      ⟨State.commit_onCommit_same hx _, s.onCommit_cols n _, s.onCommit_regs n _⟩
  case group =>
    exact answers_triggerResolve hs hp hy hk ((s.ownerTrig_group g).trans hg)
      (fun f hf => (s.resolveWith_group _ g).trans (State.resolveGroup_later hf hg)) (State.pairSt_congr rfl)
      ⟨sfind_sinsert_same g.val _ s.net.grp, rfl⟩

end Sys2Proof.Machine
end

section
/-! SUPPORT. The DC blocker and the fields of a subframe (10 R206, R213, R223), and the statement settled. -/

namespace Sys2Proof.Machine

/-! ### The DC blocker (R223) -/

/-- Saturation to 32 bits changes what lies outside the range, and nothing else. -/
theorem satBits_ne_iff (y : Int) : satBits 32 y ≠ y ↔ y < -2147483648 ∨ 2147483647 < y := by
  simp only [satBits]
  split
  · omega
  · split <;> omega

/-- With FREEZE the estimate stays. -/
theorem dcBlock_frozen (k : Nat) (m x : Int) : (dcBlock k true m x).2.1 = m := rfl

/-- Without FREEZE the estimate moves toward the input. -/
theorem dcBlock_moves (k : Nat) (m x : Int) :
    (dcBlock k false m x).2.1 = m + roundNearest (k * (x * 65536 - m)) 2147483648 := rfl

/-! ### Subframes (R206, R213) -/

/-- The sample lies in the upper 24 bits. -/
theorem subSample_upper (w : Word) {i : Nat} (h : i < 24) : (subSample w).getLsbD (8 + i) = w.getLsbD (4 + i) := by
  have hmask : (0xFFFFFF#32).getLsbD i = true := by
    have hall : ∀ j : Fin 24, (0xFFFFFF#32).getLsbD j = true := by decide
    exact hall ⟨i, h⟩
  simp [subSample, hmask, show 8 + i < 32 by omega]

/-- The bits below the sample are zeros. -/
theorem subSample_lower (w : Word) {i : Nat} (h : i < 8) : (subSample w).getLsbD i = false := by
  simp [subSample, h]

/-- Counts by two conditions that differ at one member alone are of different parity. -/
theorem countP_flip {α : Type} [DecidableEq α] {p q : α → Bool} {a : α} {l : List α} (hl : l.Nodup) (ha : a ∈ l)
    (hflip : q a = !p a) (hrest : ∀ b, b ≠ a → q b = p b) : (l.countP q + l.countP p) % 2 = 1 := by
  have hperm := List.perm_cons_erase ha
  have hsame : (l.erase a).countP q = (l.erase a).countP p :=
    List.countP_congr fun b hb => by rw [hrest b ((hl.mem_erase_iff.mp hb).1)]
  rw [hperm.countP_eq, hperm.countP_eq, List.countP_cons, List.countP_cons, hsame, hflip]
  cases p a <;> simp <;> omega

/-- One bit of a word inverted. -/
theorem getLsbD_invert (w : Word) {i : Nat} (hi : i < 32) (j : Nat) :
    (w ^^^ 1#32 <<< i).getLsbD j = if j = i then !w.getLsbD j else w.getLsbD j := by
  rw [BitVec.getLsbD_xor, ← BitVec.twoPow_eq, BitVec.getLsbD_twoPow, decide_eq_true hi, Bool.true_and]
  by_cases h : j = i
  · simp [h]
  · simp [h, Ne.symm h]

/-- The parity changes with every bit it is taken over. -/
theorem parityOk_invert (w : Word) {i : Nat} (h4 : 4 ≤ i) (h32 : i < 32) :
    parityOk (w ^^^ 1#32 <<< i) = !(parityOk w) := by
  have hodd := countP_flip (p := fun j => w.getLsbD (4 + j)) (q := fun j => (w ^^^ 1#32 <<< i).getLsbD (4 + j))
    List.nodup_range (List.mem_range.mpr (show i - 4 < 28 by omega))
    (by rw [getLsbD_invert w h32, if_pos (by omega)]) (fun j hj => by rw [getLsbD_invert w h32, if_neg (by omega)])
  rw [parityOk, parityOk, ← decide_not, ← List.countP_eq_length_filter, ← List.countP_eq_length_filter, decide_eq_decide]
  omega

/-- Settles O42: the DC blocker by its definition, and the parity by the count that one inverted bit changes. -/
theorem decimationArithmetic : Obligations.DecimationArithmetic := by
  unfold Obligations.DecimationArithmetic
  refine ⟨fun k f m x => ⟨rfl, ?_, ?_, decide_eq_true_iff.trans (satBits_ne_iff _)⟩,
    fun w => ⟨fun i => subSample_upper w, fun i => subSample_lower w, fun i => parityOk_invert w⟩⟩
  · rintro rfl
    exact dcBlock_frozen k m x
  · rintro rfl
    exact dcBlock_moves k m x

end Sys2Proof.Machine
end

section
/-! SUPPORT. The records, states and faults of the serial ports: what each update of them leaves (10 R207-R216). -/

namespace Sys2Proof.Machine

variable (s : State)

/-! ### Records of the directions -/

/-- A receive direction's record as it was set. -/
@[simp] theorem State.rxPort_setRx_same (i : Nat) (x : RxPort) : (s.setRx i x).rxPort i = x := by
  simp [State.rxPort, State.setRx]

/-- A transmit direction's record as it was set. -/
@[simp] theorem State.txPort_setTx_same (i : Nat) (x : TxPort) : (s.setTx i x).txPort i = x := by
  simp [State.txPort, State.setTx]

variable {s}

theorem State.rd_congr {t : State} (h : t.regs = s.regs) (q : FieldRef) : t.rd q = s.rd q :=
  congrArg (sget q.reset q.key) h

theorem State.rxPort_congr {t : State} (h : t.ser = s.ser) (i : Nat) : t.rxPort i = s.rxPort i :=
  congrArg (fun r : SerState => sget ({} : RxPort) i r.rx) h

theorem State.txPort_congr {t : State} (h : t.ser = s.ser) (i : Nat) : t.txPort i = s.txPort i :=
  congrArg (fun r : SerState => sget ({} : TxPort) i r.tx) h

theorem RegsOnly.ser {t : State} (h : RegsOnly s t) : t.ser = s.ser := (congrArg State.ser h :)

/-- A field that was set, whatever was written at other places since. -/
theorem State.rd_eq_of_wr {t : State} {f : FieldRef} {v : Nat} (h : t.rd f = (s.wr f v).rd f) (hv : v < 2 ^ f.width) :
    t.rd f = v := by
  rw [h, State.rd_wr_same, Nat.mod_eq_of_lt hv]

/-! ### States of the receive directions -/

theorem rxStateField_sap (p : Fin 24) : rxStateField p = Reg.SAP_STATUS.RXSTATE p := if_pos p.isLt

theorem rxStateField_aes (n : Fin 8) : rxStateField (24 + n) = Reg.AES_RX_STATUS.STATE n := by
  rw [rxStateField, if_neg (by omega), if_pos (by omega), Nat.add_sub_cancel_left]

theorem rxStateField_madi (m : Fin 2) : rxStateField (32 + m) = Reg.MADI_STATUS.RXSTATE m := by
  rw [rxStateField, if_neg (by omega), if_neg (by omega), Nat.add_sub_cancel_left]

/-- Whether a direction delivers frames is read from its state field. -/
theorem State.rxRuns_congr {t : State} {i : Nat} (h : t.rd (rxStateField i) = s.rd (rxStateField i)) :
    t.rxRuns i = s.rxRuns i := by
  simp only [State.rxRuns, h]

/-- Whether a direction is ASYNC is read from the configuration in force. -/
theorem State.rxAsync_congr {t : State} {i : Nat} (h : (t.rxPort i).cfg = (s.rxPort i).cfg) : t.rxAsync i = s.rxAsync i := by
  simp only [State.rxAsync, h]

/-- A receiver in LOCK or RATEMIS delivers frames. -/
theorem State.rxRuns_receiver {i : Nat} (hi : 24 ≤ i) (h2 : 2 ≤ s.rd (rxStateField i)) (h3 : s.rd (rxStateField i) ≤ 3) :
    s.rxRuns i = true := by
  rw [State.rxRuns, if_neg (by omega)]
  exact decide_eq_true (by omega)

/-- A direction that delivers frames is not OFF. -/
theorem State.rxRuns_on {i : Nat} (h : s.rxRuns i = true) : s.rd (rxStateField i) ≠ 0 := by
  intro h0
  simp [State.rxRuns, h0] at h

/-! ### Places of fields -/

/-- The place of a field of a port's own: at or above the SAP block, and not among the ASRC lanes. -/
def portField (k : Nat) : Prop := 0xC0000 * 32 ≤ k ∧ (k < 0xC1000 * 32 ∨ 0xC1200 * 32 ≤ k)

theorem portField_rxState {i : Nat} (hi : i < 34) : portField (rxStateField i).key := by
  unfold rxStateField
  split_ifs
  all_goals simp only [portField, FieldRef.key, Reg.SAP_STATUS.RXSTATE, Reg.AES_RX_STATUS.STATE, Reg.MADI_STATUS.RXSTATE]
  all_goals omega

/-- A field of SAP_pp_STATUS. -/
theorem portField_sapStatus (p : Fin 24) {lo : Nat} (h : lo < 12) : portField ((0xC000C + p * 0x40) * 32 + lo) := by
  unfold portField
  omega

/-! ### Faults of the ports (R209, R216) -/

/-- The fault condition of a port. -/
def State.portBad (s : State) (i : Nat) : Bool :=
  if i < 24 then decide (3 ≤ s.rd (Reg.SAP_STATUS.RXSTATE i) ∨ 3 ≤ s.rd (Reg.SAP_STATUS.TXSTATE i))
  else decide (s.rd (rxStateField i) = 3)

theorem State.portFault_eq (i : Nat) (entry : Bool) : s.portFault i entry =
    if entry then (s.put (Reg.FLT_SRC.ACTIVE (portSource i)) (s.portBad i)).raise (portSource i)
    else s.put (Reg.FLT_SRC.ACTIVE (portSource i)) (s.portBad i) := rfl

/-- A fault leaves the records of the directions. -/
@[simp] theorem State.portFault_ser (i : Nat) (entry : Bool) : (s.portFault i entry).ser = s.ser := by
  rw [State.portFault_eq]
  split
  · exact State.raise_ser _ _
  · rfl

/-- Beyond an event, a fault changes ACTIVE alone. -/
theorem State.rd_portFault_eq (i : Nat) (entry : Bool) (q : FieldRef) :
    (s.portFault i entry).rd q = (s.put (Reg.FLT_SRC.ACTIVE (portSource i)) (s.portBad i)).rd q := by
  rw [State.portFault_eq]
  split
  · exact State.raise_rd _ _ _
  · rfl

/-- A fault leaves the fields of the ports. -/
theorem State.rd_portFault {i : Nat} (hi : i < 34) (entry : Bool) {q : FieldRef} (hq : portField q.key) :
    (s.portFault i entry).rd q = s.rd q := by
  rw [State.rd_portFault_eq]
  refine State.rd_put_ne _ ?_ _
  simp only [portField, FieldRef.key, Reg.FLT_SRC.ACTIVE, portSource, Src.SAP_00] at hq ⊢
  omega

/-- ACTIVE shows the condition. -/
theorem State.portFault_active (i : Nat) (entry : Bool) :
    (s.portFault i entry).on (Reg.FLT_SRC.ACTIVE (portSource i)) = s.portBad i :=
  (State.on_congr (State.rd_portFault_eq i entry _)).trans (State.on_put_same _ _ _ (Nat.le_refl 1))

/-- Every port's source is listed. -/
theorem portSource_listed {i : Nat} (hi : i < 34) : faultListed (portSource i) = true := by
  have hall : ∀ j : Fin 34, faultListed (portSource j) = true := by decide
  exact hall ⟨i, hi⟩

/-- An entry raises the port's source. -/
theorem State.portFault_raised {i : Nat} (hi : i < 34) : Claims.Raised (s.portFault i true) (portSource i) := by
  rw [State.portFault_eq, if_pos rfl, Claims.Raised, State.raise_arriving _ (portSource_listed hi), List.getLast?_concat]

/-- The lanes that re-enter ACQUIRE change register fields alone. -/
theorem State.lanesReacquire_regsOnly (i : Nat) : RegsOnly s (s.lanesReacquire i) := by
  refine RegsOnly.foldl (fun s p => ?_) _ s
  split
  · exact RegsOnly.wr _ _ _
  · exact RegsOnly.refl s

/-- The lanes that re-enter ACQUIRE leave the fields of the ports. -/
theorem State.rd_lanesReacquire (i : Nat) {q : FieldRef} (hq : portField q.key) : (s.lanesReacquire i).rd q = s.rd q := by
  refine foldl_keeps (State.rd · q) _ (fun s p => ?_) _ s
  have hlane : p.2.asrc < 64 := Nat.mod_lt _ (by decide)
  split
  · refine State.rd_wr_ne _ ?_ _
    simp only [portField, FieldRef.key, Reg.SAP_ASRC_STATUS.STATE] at hq ⊢
    omega
  · rfl

/-! ### Loss of clock or lock (R209, R213) -/

/-- The sticky bit of a lost clock or lock. -/
def lostField (i : Nat) : FieldRef :=
  if i < 24 then Reg.SAP_STATUS.RX_CLKLOST i
  else if i < 32 then Reg.AES_RX_STATUS.LOCKLOST (i - 24) else Reg.MADI_STATUS.LOCKLOST (i - 32)

/-- A record without frames, counts or an open block. -/
def RxPort.lost (x : RxPort) : RxPort :=
  { x with good := 0, bad := 0, frames := [], rateGood := 0, block := none, rateBad := true }

theorem State.rxLost_eq (i : Nat) : s.rxLost i =
    ((((s.setRx i (s.rxPort i).lost).wr (rxStateField i) (if i < 24 then 3 else 1)).put (lostField i) true).lanesReacquire
      i).portFault i true := by
  unfold State.rxLost lostField
  split_ifs <;> rfl

theorem portField_lost {i : Nat} (hi : i < 34) : portField (lostField i).key := by
  unfold lostField
  split_ifs
  all_goals simp only [portField, FieldRef.key, Reg.SAP_STATUS.RX_CLKLOST, Reg.AES_RX_STATUS.LOCKLOST, Reg.MADI_STATUS.LOCKLOST]
  all_goals omega

theorem rxState_ne_lost (i : Nat) : (rxStateField i).key ≠ (lostField i).key := by
  unfold rxStateField lostField
  split_ifs
  all_goals simp [FieldRef.key, Reg.SAP_STATUS.RXSTATE, Reg.SAP_STATUS.RX_CLKLOST, Reg.AES_RX_STATUS.STATE,
    Reg.AES_RX_STATUS.LOCKLOST, Reg.MADI_STATUS.RXSTATE, Reg.MADI_STATUS.LOCKLOST]

/-- What a receive direction shows that has lost its clock or lock. -/
structure RxLost (i : Nat) (t : State) : Prop where
  state : t.rd (rxStateField i) = if i < 24 then 3 else 1
  flag : t.on (lostField i) = true
  frames : (t.rxPort i).frames = []
  active : i < 24 → t.on (Reg.FLT_SRC.ACTIVE (portSource i)) = true
  raised : Claims.Raised t (portSource i)

theorem State.rxLost_shows (s : State) {i : Nat} (hi : i < 34) : RxLost i (s.rxLost i) := by
  rw [State.rxLost_eq]
  have hstate : ((((s.setRx i (s.rxPort i).lost).wr (rxStateField i) (if i < 24 then 3 else 1)).put (lostField i)
      true).lanesReacquire i).rd (rxStateField i) = if i < 24 then 3 else 1 := by
    refine State.rd_eq_of_wr ((State.rd_lanesReacquire i (portField_rxState hi)).trans
      (State.rd_put_ne _ (rxState_ne_lost i) true)) ?_
    unfold rxStateField
    split_ifs
    · exact (by decide : 3 < 2 ^ 3)
    all_goals exact (by decide : 1 < 2 ^ 2)
  constructor
  case state => exact (State.rd_portFault hi true (portField_rxState hi)).trans hstate
  case flag =>
    refine (State.on_congr ((State.rd_portFault hi true (portField_lost hi)).trans
      (State.rd_lanesReacquire i (portField_lost hi)))).trans (State.on_put_same _ _ _ ?_)
    unfold lostField
    split_ifs <;> exact Nat.le_refl 1
  case frames =>
    rw [State.rxPort_congr ((State.portFault_ser i true).trans (State.lanesReacquire_regsOnly i).ser)]
    exact congrArg RxPort.frames (State.rxPort_setRx_same s i _)
  case active =>
    intro h24
    have hclklost := (congrArg (State.rd _) (if_pos h24)).symm.trans (hstate.trans (if_pos h24))
    rw [State.portFault_active, State.portBad, if_pos h24]
    exact decide_eq_true (.inl (Nat.le_of_eq hclklost.symm))
  case raised => exact State.portFault_raised hi

/-! ### A good frame (R207, R210) -/

/-- A frame dropped counts in records of hitches alone. -/
theorem State.dropFrame_runsOnly (ift port : Nat) : RunsOnly s (s.dropFrame ift port) :=
  RunsOnly.foldl (fun s _ => RunsOnly.setRun s _ _ _) _ s

section Good

variable {i phase : Nat} {f : RxFrame}

/-- A direction that delivers frames puts it into the two-frame buffer. -/
theorem State.rxGood_joins (hrun : s.rxRuns i = true) (hsync : s.rxAsync i = false) (hroom : (s.rxPort i).frames.length < 2) :
    s.rxGood i phase f = s.setRx i { s.rxPort i with frames := (s.rxPort i).frames ++ [f], bad := 0 } := by
  rw [State.rxGood, if_neg (State.rxRuns_on hrun), if_pos hrun, hsync, if_neg Bool.false_ne_true,
    if_neg (Nat.not_le.mpr hroom)]

/-- A direction in ACQUIRE counts it. -/
theorem State.rxGood_counts (hon : s.rd (rxStateField i) ≠ 0) (hrun : s.rxRuns i = false)
    (hgood : (s.rxPort i).good + 1 < goodNeed i) :
    s.rxGood i phase f = s.setRx i { s.rxPort i with good := (s.rxPort i).good + 1, bad := 0 } := by
  rw [State.rxGood, if_neg hon, hrun, if_neg Bool.false_ne_true, if_pos hgood]

/-- The last one that a direction in ACQUIRE needs makes it run. -/
theorem State.rxGood_enters (hon : s.rd (rxStateField i) ≠ 0) (hrun : s.rxRuns i = false)
    (hgood : goodNeed i ≤ (s.rxPort i).good + 1) : s.rxGood i phase f =
      ((s.setRx i { s.rxPort i with good := 0, bad := 0, frames := [] }).wr (rxStateField i) 2).portFault i false := by
  rw [State.rxGood, if_neg hon, hrun, if_neg Bool.false_ne_true, if_neg (Nat.not_lt.mpr hgood)]

/-- It leaves every field of the ports but the direction's state and its count of dropped frames. -/
theorem State.rd_rxGood (hi : i < 34) (hsync : s.rxAsync i = false) {q : FieldRef} (hq : portField q.key)
    (hstate : q.key ≠ (rxStateField i).key) (hslip : q.key ≠ (Reg.SAP_RXCNT.SLIP i).key) :
    (s.rxGood i phase f).rd q = s.rd q := by
  unfold State.rxGood
  simp only [hsync, Bool.false_eq_true, if_false]
  split_ifs
  · rfl
  · exact (State.rd_congr (State.dropFrame_runsOnly _ _).regs q).trans (State.rd_bump_ne _ hslip 1)
  · exact State.rd_congr (State.dropFrame_runsOnly _ _).regs q
  · rfl
  · rfl
  · exact (State.rd_portFault hi false hq).trans (State.rd_wr_ne _ hstate 2)

end Good

end Sys2Proof.Machine
end

section
/-! SUPPORT. The serial receivers: what SAP, AES3 and MADI frames, losses of a clock and rate windows do
(10 R207-R215), and the statement settled. -/

namespace Sys2Proof.Machine

open Sys2Proof.Claims

variable {s : State}

/-- A bad frame breaks the run of good ones. -/
theorem State.rxBad_good (s : State) (i : Nat) : ((s.rxBad i).rxPort i).good = 0 :=
  congrArg RxPort.good (s.rxPort_setRx_same i _)

/-- A bad frame leaves the buffer. -/
theorem State.rxBad_frames (s : State) (i : Nat) : ((s.rxBad i).rxPort i).frames = (s.rxPort i).frames :=
  (congrArg RxPort.frames (s.rxPort_setRx_same i _) :)

/-! ### SAP frames (R207-R210) -/

/-- The frame that the input of a SAP direction spells. -/
def sapReceived (c : Word) (line : List SapBck) : RxFrame :=
  (List.range (sapSlots c)).map fun j => some (sapSample (sapDw c) (sapSlot c (sapData c line) j), (0 : Tag))

section Sap

variable {p : Fin 24} {phase period : Nat} {line : List SapBck}

theorem State.sapRxFrame_good (hon : s.rd (Reg.SAP_STATUS.RXSTATE p) ≠ 0)
    (hopen : s.straddles p (sapMaster (s.rxPort p).cfg) phase period = false)
    (hgood : sapWellFormed (s.rxPort p).cfg line = true) : s.sapRxFrame p phase period line =
      (s.wr (Reg.SAP_PHASE.RXPH p) phase).rxGood p phase (sapReceived (s.rxPort p).cfg line) := by
  simp only [State.sapRxFrame, if_neg hon, hopen, hgood, Bool.false_eq_true, if_false, if_true, sapReceived]

theorem State.sapRxFrame_malformed (hon : s.rd (Reg.SAP_STATUS.RXSTATE p) ≠ 0)
    (hopen : s.straddles p (sapMaster (s.rxPort p).cfg) phase period = false)
    (hbad : sapWellFormed (s.rxPort p).cfg line = false) : s.sapRxFrame p phase period line =
      ((s.put (Reg.SAP_STATUS.MALF p) true).bump (Reg.SAP_RXCNT.MALF p) 1).rxBad p := by
  simp only [State.sapRxFrame, if_neg hon, hopen, hbad, Bool.false_eq_true, if_false]

/-- The phase shown and the state of a direction lie at different places. -/
theorem rxState_ne_phase (p : Fin 24) : (rxStateField p).key ≠ (Reg.SAP_PHASE.RXPH p).key := by
  rw [rxStateField_sap]
  simp only [FieldRef.key, Reg.SAP_STATUS.RXSTATE, Reg.SAP_PHASE.RXPH]
  omega

/-- A SAP frame's phase shows, whatever becomes of the frame. -/
theorem State.rxGood_phase {f : RxFrame} (hphase : phase < 2 ^ 15) (hsync : s.rxAsync p = false) :
    ((s.wr (Reg.SAP_PHASE.RXPH p) phase).rxGood p phase f).rd (Reg.SAP_PHASE.RXPH p) = phase := by
  refine State.rd_eq_of_wr (s := s) (State.rd_rxGood (s := s.wr _ phase) (by omega) hsync ?_ (rxState_ne_phase p).symm ?_) hphase
  · simp only [portField, FieldRef.key, Reg.SAP_PHASE.RXPH]
    omega
  · simp only [FieldRef.key, Reg.SAP_PHASE.RXPH, Reg.SAP_RXCNT.SLIP]
    omega

/-- What a well-formed frame does in RUN and in ACQUIRE. -/
theorem State.rxGood_sap {f : RxFrame} (hon : s.rd (Reg.SAP_STATUS.RXSTATE p) ≠ 0) (hsync : s.rxAsync p = false)
    (hphase : phase < 2 ^ 15) : let t := (s.wr (Reg.SAP_PHASE.RXPH p) phase).rxGood p phase f
      t.rd (Reg.SAP_PHASE.RXPH p) = phase ∧
      (s.rxRuns p = true → (s.rxPort p).frames.length < 2 → (t.rxPort p).frames = (s.rxPort p).frames ++ [f] ∧
        t.rd (Reg.SAP_STATUS.RXSTATE p) = s.rd (Reg.SAP_STATUS.RXSTATE p)) ∧
      (s.rxRuns p = false → (s.rxPort p).good = 0 → (t.rxPort p).good = 1 ∧
        t.rd (Reg.SAP_STATUS.RXSTATE p) = s.rd (Reg.SAP_STATUS.RXSTATE p)) ∧
      (s.rxRuns p = false → (s.rxPort p).good = 1 → t.rd (Reg.SAP_STATUS.RXSTATE p) = 2 ∧ (t.rxPort p).frames = []) := by
  rw [← rxStateField_sap] at hon ⊢
  have hneed : goodNeed p = 2 := if_neg (by omega)
  have hstate : (s.wr (Reg.SAP_PHASE.RXPH p) phase).rd (rxStateField p) = s.rd (rxStateField p) :=
    State.rd_wr_ne _ (rxState_ne_phase p) _
  have hruns := State.rxRuns_congr hstate
  have hon' := hstate.trans_ne hon
  refine ⟨State.rxGood_phase hphase hsync, fun hrun hroom => ?_, fun hrun hgood => ?_, fun hrun hgood => ?_⟩
  · rw [State.rxGood_joins (hruns.trans hrun) hsync hroom]
    exact ⟨congrArg RxPort.frames (State.rxPort_setRx_same _ _ _), hstate⟩
  · have hfirst : (s.rxPort p).good + 1 < goodNeed p := by omega
    rw [State.rxGood_counts hon' (hruns.trans hrun) hfirst, State.rxPort_setRx_same]
    exact ⟨congrArg (· + 1) hgood, hstate⟩
  · have hsecond : goodNeed p ≤ (s.rxPort p).good + 1 := by omega
    rw [State.rxGood_enters hon' (hruns.trans hrun) hsecond]
    refine ⟨State.rd_eq_of_wr (State.rd_portFault (by omega) false (portField_rxState (by omega))) ?_, ?_⟩
    · rw [rxStateField_sap]
      exact (by decide : 2 < 2 ^ 3)
    · rw [State.rxPort_congr (State.portFault_ser _ _)]
      exact congrArg RxPort.frames (State.rxPort_setRx_same _ _ _)

/-- A malformed frame is shown and counted, and breaks a run of good frames. -/
theorem State.rxBad_malformed (s : State) (p : Fin 24) :
    let t := ((s.put (Reg.SAP_STATUS.MALF p) true).bump (Reg.SAP_RXCNT.MALF p) 1).rxBad p
    t.on (Reg.SAP_STATUS.MALF p) = true ∧ t.rd (Reg.SAP_RXCNT.MALF p) = min (s.rd (Reg.SAP_RXCNT.MALF p) + 1) 65535 ∧
      (t.rxPort p).good = 0 ∧ (t.rxPort p).frames = (s.rxPort p).frames ∧
      t.rd (Reg.SAP_STATUS.RXSTATE p) = s.rd (Reg.SAP_STATUS.RXSTATE p) := by
  have hcount : (Reg.SAP_RXCNT.MALF p).key ≠ (Reg.SAP_STATUS.MALF p).key := by
    simp only [FieldRef.key, Reg.SAP_RXCNT.MALF, Reg.SAP_STATUS.MALF]; omega
  have hstate : (Reg.SAP_STATUS.RXSTATE p).key ≠ (Reg.SAP_RXCNT.MALF p).key := by
    simp only [FieldRef.key, Reg.SAP_STATUS.RXSTATE, Reg.SAP_RXCNT.MALF]; omega
  have hflag : (Reg.SAP_STATUS.RXSTATE p).key ≠ (Reg.SAP_STATUS.MALF p).key := by
    simp only [FieldRef.key, Reg.SAP_STATUS.RXSTATE, Reg.SAP_STATUS.MALF]; omega
  refine ⟨?_, ?_, State.rxBad_good _ _, State.rxBad_frames _ _, ?_⟩
  · exact (State.on_congr (State.rd_bump_ne _ hcount.symm 1)).trans (State.on_put_same _ _ _ (Nat.le_refl 1))
  · refine (State.rd_bump_same _ _ 1).trans ?_
    rw [State.rd_put_ne _ hcount]
    rfl
  · exact (State.rd_bump_ne _ hstate 1).trans (State.rd_put_ne _ hflag true)

end Sap

/-! ### Losses of a clock or lock (R209, R213) -/

/-- A transmit direction that loses its clock enters CLKLOST. -/
theorem State.clockLost_tx {p : Fin 24} (hslave : sapMaster (s.txPort p).cfg = false)
    (hoff : s.rd (Reg.SAP_STATUS.TXSTATE p) ≠ 0) (hlost : s.rd (Reg.SAP_STATUS.TXSTATE p) ≠ 3) :
    let t := s.clockLost (.sapTx p)
    t.rd (Reg.SAP_STATUS.TXSTATE p) = 3 ∧ t.on (Reg.SAP_STATUS.TX_CLKLOST p) = true ∧ Raised t (portSource p) := by
  have hp : p.val < 34 := by omega
  have hdiff : (Reg.SAP_STATUS.TXSTATE p).key ≠ (Reg.SAP_STATUS.TX_CLKLOST p).key := by
    simp only [FieldRef.key, Reg.SAP_STATUS.TXSTATE, Reg.SAP_STATUS.TX_CLKLOST]; omega
  simp only [State.clockLost, hslave, hoff, hlost, Bool.false_eq_true, or_self, if_false]
  refine ⟨State.rd_eq_of_wr ((State.rd_portFault hp true ?_).trans (State.rd_put_ne _ hdiff true)) ?_,
    (State.on_congr (State.rd_portFault hp true ?_)).trans (State.on_put_same _ _ _ (Nat.le_refl 1)),
    State.portFault_raised hp⟩
  · exact portField_sapStatus p (lo := 3) (by decide)
  · exact (by decide : 3 < 2 ^ 3)
  · exact portField_sapStatus p (lo := 9) (by decide)

/-- A running slave receive direction that loses its clock. -/
theorem State.clockLost_rx {p : Fin 24} (hslave : sapMaster (s.rxPort p).cfg = false)
    (hoff : s.rd (Reg.SAP_STATUS.RXSTATE p) ≠ 0) (hlost : s.rd (Reg.SAP_STATUS.RXSTATE p) ≠ 3) :
    s.clockLost (.sapRx p) = s.rxLost p := by
  simp only [State.clockLost, hslave, hoff, hlost, Bool.false_eq_true, or_self, if_false]

/-! ### Rate windows (R209) -/

/-- A window of a SAP direction in RUN, of well-formed frames alone. -/
theorem State.rxWindow_run {p : Fin 24} (eclk : Nat) (hrun : s.rd (Reg.SAP_STATUS.RXSTATE p) = 2)
    (hwhole : (s.rxPort p).rateBad = false) : s.rxWindow p eclk =
      let u := s.wrInt (Reg.SAP_PHASE.RXPPM p) (ratePpm (64 * eclkPerTick s.mult) eclk)
      if rateOff (64 * eclkPerTick s.mult) eclk then
        (((u.setRx p { s.rxPort p with rateGood := 0 }).wr (Reg.SAP_STATUS.RXSTATE p) 4).put
          (Reg.SAP_STATUS.RX_RATEMIS p) true).portFault p true
      else u := by
  have hstate : (s.wrInt (Reg.SAP_PHASE.RXPPM p) (ratePpm (64 * eclkPerTick s.mult) eclk)).rd (rxStateField p) = 2 := by
    rw [rxStateField_sap]
    refine (State.rd_wr_ne _ ?_ _).trans hrun
    simp only [FieldRef.key, Reg.SAP_STATUS.RXSTATE, Reg.SAP_PHASE.RXPPM]
    omega
  have hruns : (s.wrInt (Reg.SAP_PHASE.RXPPM p) (ratePpm (64 * eclkPerTick s.mult) eclk)).rxRuns p = true := by
    simp [State.rxRuns, hstate]
  have hin : (s.wrInt (Reg.SAP_PHASE.RXPPM p) (ratePpm (64 * eclkPerTick s.mult) eclk)).rxRateMis p = false := by
    simp [State.rxRateMis, hstate]
  have hmis (x : RxPort) : ((s.wrInt (Reg.SAP_PHASE.RXPPM p) (ratePpm (64 * eclkPerTick s.mult) eclk)).setRx p
      x).rxRateMis p = false := hin
  simp only [State.rxWindow, p.isLt, if_true, hwhole, hruns, hin, hmis, Bool.false_eq_true, Bool.not_true, if_false,
    rxStateField_sap]

/-- It enters RATEMIS beyond the tolerance, and stays in RUN within it. -/
theorem State.rxWindow_shows {p : Fin 24} {eclk : Nat} (hrun : s.rd (Reg.SAP_STATUS.RXSTATE p) = 2)
    (hwhole : (s.rxPort p).rateBad = false) : let t := s.rxWindow p eclk
      (rateOff (64 * eclkPerTick s.mult) eclk = true → t.rd (Reg.SAP_STATUS.RXSTATE p) = 4 ∧
        t.on (Reg.SAP_STATUS.RX_RATEMIS p) = true ∧ Raised t (portSource p)) ∧
      (rateOff (64 * eclkPerTick s.mult) eclk = false → t.rd (Reg.SAP_STATUS.RXSTATE p) = 2) := by
  have hp : p.val < 34 := by omega
  have hdiff : (Reg.SAP_STATUS.RXSTATE p).key ≠ (Reg.SAP_STATUS.RX_RATEMIS p).key := by
    simp only [FieldRef.key, Reg.SAP_STATUS.RXSTATE, Reg.SAP_STATUS.RX_RATEMIS]; omega
  have hppm : (Reg.SAP_STATUS.RXSTATE p).key ≠ (Reg.SAP_PHASE.RXPPM p).key := by
    simp only [FieldRef.key, Reg.SAP_STATUS.RXSTATE, Reg.SAP_PHASE.RXPPM]; omega
  rw [State.rxWindow_run eclk hrun hwhole]
  refine ⟨fun hoff => ?_, fun hin => ?_⟩
  · rw [hoff, if_pos rfl]
    refine ⟨State.rd_eq_of_wr ((State.rd_portFault hp true ?_).trans (State.rd_put_ne _ hdiff true)) ?_,
      (State.on_congr (State.rd_portFault hp true ?_)).trans (State.on_put_same _ _ _ (Nat.le_refl 1)),
      State.portFault_raised hp⟩
    · exact portField_sapStatus p (lo := 0) (by decide)
    · exact (by decide : 4 < 2 ^ 3)
    · exact portField_sapStatus p (lo := 8) (by decide)
  · rw [hin, if_neg Bool.false_ne_true]
    exact (State.rd_wr_ne _ hppm _).trans hrun

/-! ### AES3 frames (R213) -/

/-- A published channel status changes register fields alone. -/
theorem State.publishCs_regsOnly (n : Nat) (bits : List Bool) : RegsOnly s (s.publishCs n bits) := by
  have hwords (l : List Nat) (g : Nat → Nat) : RegsOnly s (l.foldl (fun s k => s.wr (Reg.AES_RX_CS.CS n k) (g k)) s) :=
    RegsOnly.foldl (fun _ _ => RegsOnly.wr _ _ _) _ s
  unfold State.publishCs
  dsimp only
  split
  · exact ((hwords _ _).trans (RegsOnly.put _ _ _)).trans (RegsOnly.put _ _ _)
  · exact (hwords _ _).trans (RegsOnly.put _ _ _)

/-- A published channel status leaves the receiver's state. -/
theorem State.publishCs_state (n : Nat) (bits : List Bool) :
    (s.publishCs n bits).rd (Reg.AES_RX_STATUS.STATE n) = s.rd (Reg.AES_RX_STATUS.STATE n) := by
  have hwords (l : List Nat) (g : Nat → Nat) : (l.foldl (fun s k => s.wr (Reg.AES_RX_CS.CS n k) (g k)) s).rd
      (Reg.AES_RX_STATUS.STATE n) = s.rd (Reg.AES_RX_STATUS.STATE n) := by
    refine foldl_keeps (State.rd · _) _ (fun s k => State.rd_wr_ne _ ?_ _) l s
    simp only [FieldRef.key, Reg.AES_RX_STATUS.STATE, Reg.AES_RX_CS.CS]
    omega
  have hnew : (Reg.AES_RX_STATUS.STATE n).key ≠ (Reg.AES_RX_STATUS.CS_NEW n).key := by
    simp only [FieldRef.key, Reg.AES_RX_STATUS.STATE, Reg.AES_RX_STATUS.CS_NEW]; omega
  have hcrc : (Reg.AES_RX_STATUS.STATE n).key ≠ (Reg.AES_RX_STATUS.CRC_ERR n).key := by
    simp only [FieldRef.key, Reg.AES_RX_STATUS.STATE, Reg.AES_RX_STATUS.CRC_ERR]; omega
  unfold State.publishCs
  dsimp only
  split
  · exact (State.rd_put_ne _ hcrc true).trans ((State.rd_put_ne _ hnew true).trans (hwords _ _))
  · exact (State.rd_put_ne _ hnew true).trans (hwords _ _)

/-- A C bit changes the receiver's open block, and no state. -/
theorem State.csBit_shows (n : Nat) (z c : Bool) :
    (∃ blk, (s.csBit n z c).rxPort (24 + n) = { s.rxPort (24 + n) with block := blk }) ∧
      (s.csBit n z c).rd (Reg.AES_RX_STATUS.STATE n) = s.rd (Reg.AES_RX_STATUS.STATE n) := by
  unfold State.csBit
  dsimp only
  split
  · exact ⟨⟨(s.rxPort (24 + n)).block, rfl⟩, rfl⟩
  · split
    · refine ⟨⟨none, ?_⟩, State.publishCs_state n _⟩
      rw [State.rxPort_congr (State.publishCs_regsOnly n _).ser, State.rxPort_setRx_same]
    · exact ⟨⟨_, State.rxPort_setRx_same _ _ _⟩, rfl⟩

/-- A receiver that has taken the V and C bits of a frame. -/
def State.aesTaken (s : State) (n : Nat) (z : Bool) (a b : Word) : State :=
  (s.put (Reg.AES_RX_STATUS.VBIT n) (a.getLsbD 28 || b.getLsbD 28)).csBit n z
    ((if wfield (s.rxPort (24 + n)).cfg 2 1 = 1 then b else a).getLsbD 30)

theorem State.aesTaken_shows (s : State) (n : Nat) (z : Bool) (a b : Word) :
    (∃ blk, (s.aesTaken n z a b).rxPort (24 + n) = { s.rxPort (24 + n) with block := blk }) ∧
      (s.aesTaken n z a b).rd (Reg.AES_RX_STATUS.STATE n) = s.rd (Reg.AES_RX_STATUS.STATE n) := by
  obtain ⟨hport, hstate⟩ := State.csBit_shows (s := s.put (Reg.AES_RX_STATUS.VBIT n) (a.getLsbD 28 || b.getLsbD 28)) n z
    ((if wfield (s.rxPort (24 + n)).cfg 2 1 = 1 then b else a).getLsbD 30)
  refine ⟨hport, hstate.trans (State.rd_put_ne _ ?_ _)⟩
  simp only [FieldRef.key, Reg.AES_RX_STATUS.STATE, Reg.AES_RX_STATUS.VBIT]
  omega

section Aes

variable {n : Fin 8} {phase period : Nat} {z : Bool} {a b : Word}

theorem State.aesRxFrame_eq (hon : s.rd (Reg.AES_RX_STATUS.STATE n) ≠ 0)
    (hopen : s.straddles (24 + n) false phase period = false) : s.aesRxFrame n phase period true z a b =
      if parityOk a && parityOk b then
        (s.aesTaken n z a b).rxGood (24 + n) phase [some (subSample a, 0), some (subSample b, 0)]
      else
        let u := ((s.aesTaken n z a b).put (Reg.AES_RX_STATUS.PARITY n) true).bump (Reg.AES_RX_CNT.PARITY n) 1
        if u.rxRuns (24 + n) then u.setRx (24 + n) { u.rxPort (24 + n) with bad := 0 }
        else u.rxGood (24 + n) phase [some (subSample a, 0), some (subSample b, 0)] := by
  simp only [State.aesRxFrame, if_neg hon, hopen, Bool.false_eq_true, if_false, Bool.not_true]
  rfl

variable (hlow : 2 ≤ s.rd (Reg.AES_RX_STATUS.STATE n)) (hhigh : s.rd (Reg.AES_RX_STATUS.STATE n) ≤ 3)
include hlow hhigh

/-- A receiver in lock stays so while it takes the V and C bits. -/
theorem State.aesTaken_runs {u : State} (h : u.rd (Reg.AES_RX_STATUS.STATE n) = (s.aesTaken n z a b).rd
    (Reg.AES_RX_STATUS.STATE n)) : u.rxRuns (24 + n) = true := by
  obtain ⟨-, hstate⟩ := s.aesTaken_shows n z a b
  exact State.rxRuns_receiver (by omega) (by rw [rxStateField_aes]; omega) (by rw [rxStateField_aes]; omega)

/-- A good frame of a receiver in lock joins its buffer. -/
theorem State.aesRxFrame_joins (hsync : s.rxAsync (24 + n) = false)
    (hopen : s.straddles (24 + n) false phase period = false) (ha : parityOk a = true) (hb : parityOk b = true)
    (hroom : (s.rxPort (24 + n)).frames.length < 2) :
    ((s.aesRxFrame n phase period true z a b).rxPort (24 + n)).frames =
      (s.rxPort (24 + n)).frames ++ [[some (subSample a, 0), some (subSample b, 0)]] := by
  obtain ⟨⟨blk, hport⟩, -⟩ := s.aesTaken_shows n z a b
  have hcfg : ((s.aesTaken n z a b).rxPort (24 + n)).cfg = (s.rxPort (24 + n)).cfg := by rw [hport]
  have hframes : ((s.aesTaken n z a b).rxPort (24 + n)).frames = (s.rxPort (24 + n)).frames := by rw [hport]
  rw [State.aesRxFrame_eq (by omega) hopen, ha, hb, Bool.and_self, if_pos rfl,
    State.rxGood_joins (State.aesTaken_runs hlow hhigh rfl) ((State.rxAsync_congr hcfg).trans hsync) (hframes ▸ hroom),
    State.rxPort_setRx_same, hframes]

/-- A frame with a parity error is discarded and shown. -/
theorem State.aesRxFrame_parity (hopen : s.straddles (24 + n) false phase period = false)
    (hbad : parityOk a = false ∨ parityOk b = false) : let t := s.aesRxFrame n phase period true z a b
    (t.rxPort (24 + n)).frames = (s.rxPort (24 + n)).frames ∧ t.on (Reg.AES_RX_STATUS.PARITY n) = true := by
  obtain ⟨⟨blk, hport⟩, -⟩ := s.aesTaken_shows n z a b
  have hflag : (Reg.AES_RX_STATUS.STATE n).key ≠ (Reg.AES_RX_STATUS.PARITY n).key := by
    simp only [FieldRef.key, Reg.AES_RX_STATUS.STATE, Reg.AES_RX_STATUS.PARITY]; omega
  have hcount : (Reg.AES_RX_STATUS.STATE n).key ≠ (Reg.AES_RX_CNT.PARITY n).key := by
    simp only [FieldRef.key, Reg.AES_RX_STATUS.STATE, Reg.AES_RX_CNT.PARITY]; omega
  have hboth : (Reg.AES_RX_STATUS.PARITY n).key ≠ (Reg.AES_RX_CNT.PARITY n).key := by
    simp only [FieldRef.key, Reg.AES_RX_STATUS.PARITY, Reg.AES_RX_CNT.PARITY]; omega
  have hrun := State.aesTaken_runs (z := z) (a := a) (b := b) hlow hhigh
    ((State.rd_bump_ne _ hcount 1).trans (State.rd_put_ne _ hflag true))
  have hneither : ¬(parityOk a && parityOk b) = true := by
    obtain h | h := hbad <;> simp [h]
  rw [State.aesRxFrame_eq (by omega) hopen, if_neg hneither, if_pos hrun]
  refine ⟨(congrArg RxPort.frames (State.rxPort_setRx_same _ _ _)).trans (congrArg RxPort.frames hport :), ?_⟩
  exact (State.on_congr (State.rd_bump_ne _ hboth 1)).trans (State.on_put_same _ _ _ (Nat.le_refl 1))

end Aes

/-! ### MADI frames (R215) -/

section Madi

variable {m : Fin 2} {phase period : Nat} {subs : List Word}

/-- A frame in violation is discarded and shown. -/
theorem State.madiRxFrame_bad (hon : s.rd (Reg.MADI_STATUS.RXSTATE m) ≠ 0)
    (hopen : s.straddles (32 + m) false phase period = false) :
    s.madiRxFrame m phase period false subs = (s.put (Reg.MADI_STATUS.SYNCERR m) true).rxBad (32 + m) := by
  simp only [State.madiRxFrame, if_neg hon, hopen, Bool.false_eq_true, if_false, Bool.not_false, Bool.true_or, if_true]

/-- A receiver that has shown and counted the channels with parity errors. -/
def State.madiParity (s : State) (m lost : Nat) : State :=
  if lost = 0 then s else (s.put (Reg.MADI_STATUS.PARITY m) true).bump (Reg.MADI_CNT.PARITY m) lost

theorem State.madiParity_ser (s : State) (m lost : Nat) : (s.madiParity m lost).ser = s.ser := by
  unfold State.madiParity
  split <;> rfl

theorem State.madiParity_state (s : State) (m lost : Nat) :
    (s.madiParity m lost).rd (Reg.MADI_STATUS.RXSTATE m) = s.rd (Reg.MADI_STATUS.RXSTATE m) := by
  have hflag : (Reg.MADI_STATUS.RXSTATE m).key ≠ (Reg.MADI_STATUS.PARITY m).key := by
    simp only [FieldRef.key, Reg.MADI_STATUS.RXSTATE, Reg.MADI_STATUS.PARITY]; omega
  have hcount : (Reg.MADI_STATUS.RXSTATE m).key ≠ (Reg.MADI_CNT.PARITY m).key := by
    simp only [FieldRef.key, Reg.MADI_STATUS.RXSTATE, Reg.MADI_CNT.PARITY]; omega
  unfold State.madiParity
  split
  · rfl
  · exact (State.rd_bump_ne _ hcount lost).trans (State.rd_put_ne _ hflag true)

/-- A good frame goes on to the buffer, whatever channels have parity errors. -/
theorem State.madiRxFrame_good (hon : s.rd (Reg.MADI_STATUS.RXSTATE m) ≠ 0)
    (hopen : s.straddles (32 + m) false phase period = false) (hstart : (subs.getD 0 0).getLsbD 0 = true) :
    ∃ lost, s.madiRxFrame m phase period true subs = (s.madiParity m lost).rxGood (32 + m) phase
      ((List.range (s.rxChans (32 + m))).map fun j => madiChan (subs.getD j 0)) := by
  simp only [State.madiRxFrame, if_neg hon, hopen, hstart, Bool.false_eq_true, if_false, Bool.not_true, Bool.or_self]
  exact ⟨_, rfl⟩

/-- A good frame of a receiver in lock joins its buffer. -/
theorem State.madiRxFrame_joins (hlow : 2 ≤ s.rd (Reg.MADI_STATUS.RXSTATE m)) (hhigh : s.rd (Reg.MADI_STATUS.RXSTATE m) ≤ 3)
    (hsync : s.rxAsync (32 + m) = false) (hopen : s.straddles (32 + m) false phase period = false)
    (hstart : (subs.getD 0 0).getLsbD 0 = true) (hroom : (s.rxPort (32 + m)).frames.length < 2) :
    ((s.madiRxFrame m phase period true subs).rxPort (32 + m)).frames = (s.rxPort (32 + m)).frames ++
      [(List.range (s.rxChans (32 + m))).map fun j => madiChan (subs.getD j 0)] := by
  obtain ⟨lost, hframe⟩ := State.madiRxFrame_good (by omega) hopen hstart
  have hport := State.rxPort_congr (s.madiParity_ser m lost) (32 + m)
  have hstate := s.madiParity_state m lost
  have hrun : (s.madiParity m lost).rxRuns (32 + m) = true :=
    State.rxRuns_receiver (by omega) (by rw [rxStateField_madi]; omega) (by rw [rxStateField_madi]; omega)
  rw [hframe, State.rxGood_joins hrun ((State.rxAsync_congr (congrArg RxPort.cfg hport)).trans hsync) (hport ▸ hroom),
    State.rxPort_setRx_same, hport]

end Madi

/-- Settles O40, each clause by the law of its command. -/
theorem serialReceivers : Obligations.SerialReceivers := by
  unfold Obligations.SerialReceivers
  intro p n m phase period eclk before frame next subs z a b s hs
  refine ⟨fun hon hsync hopen => ⟨fun hgood => ?_, fun hbad => ?_⟩, fun hoff => ?_, fun hslave hoff hlost => ?_,
    fun hslave hoff hlost => ?_, fun hlock => ?_, ?_, fun hslave hsync hrun hwhole => ?_,
    fun hlow hhigh hsync hopen => ⟨fun ha hb hroom => ?_, fun hbad => ?_⟩,
    fun hlow hhigh hsync hopen => ⟨fun hstart hroom => ?_, ?_⟩⟩
  · refine answers_clocked rfl hs rfl ?_
    rw [State.sapRxFrame_good hon hopen hgood]
    exact State.rxGood_sap hon hsync phase.isLt
  · refine answers_clocked rfl hs rfl ?_
    rw [State.sapRxFrame_malformed hon hopen hbad]
    exact s.rxBad_malformed p
  · exact answers_clocked rfl hs rfl (if_pos hoff)
  · refine answers_clocked rfl hs rfl ?_
    rw [State.clockLost_rx hslave hoff hlost]
    obtain ⟨hstate, hflag, hframes, hactive, hraised⟩ := s.rxLost_shows (i := p) (by omega)
    rw [rxStateField_sap, if_pos p.isLt] at hstate
    rw [lostField, if_pos p.isLt] at hflag
    exact ⟨hstate, hflag, hframes, hactive p.isLt, hraised⟩
  · exact answers_clocked rfl hs rfl (State.clockLost_tx hslave hoff hlost)
  · refine answers_clocked rfl hs rfl ?_
    have hlost : s.clockLost (.aesRx n) = s.rxLost (24 + n) := if_neg (Nat.not_lt.mpr hlock)
    obtain ⟨hstate, hflag, hframes, -, -⟩ := s.rxLost_shows (i := 24 + n) (by omega)
    rw [rxStateField_aes, if_neg (by omega)] at hstate
    rw [lostField, if_neg (by omega), if_pos (by omega), Nat.add_sub_cancel_left] at hflag
    rw [← hlost] at hstate hflag hframes
    exact ⟨hstate, hflag, hframes⟩
  · exact answers_clocked rfl hs rfl rfl
  · have hwin : (if sapMaster (s.rxPort p).cfg then s else if s.rxAsync p then s.asyncWindow p eclk else s.rxWindow p eclk) =
        s.rxWindow p eclk := by
      rw [hslave, if_neg Bool.false_ne_true, hsync, if_neg Bool.false_ne_true]
    have hshows := State.rxWindow_shows (eclk := eclk) hrun hwhole
    rw [← hwin] at hshows
    exact answers_clocked rfl hs rfl hshows
  · exact answers_clocked rfl hs rfl (State.aesRxFrame_joins hlow hhigh hsync hopen ha hb hroom)
  · exact answers_clocked rfl hs rfl (State.aesRxFrame_parity hlow hhigh hopen hbad)
  · exact answers_clocked rfl hs rfl (State.madiRxFrame_joins hlow hhigh hsync hopen hstart hroom)
  · refine answers_clocked rfl hs rfl ?_
    rw [State.madiRxFrame_bad (by omega) hopen]
    exact ⟨s.on_put_same (Reg.MADI_STATUS.SYNCERR m) true (Nat.le_refl 1), State.rxBad_frames _ _⟩

end Sys2Proof.Machine
end

section
/-! SUPPORT. The serial transmitters and configurations, the ASRC lanes and the switches of decimation channels: what
their commands do (10 R208-R216, R224), and the statement settled. -/

namespace Sys2Proof.Machine

open Sys2Proof.Claims

variable {s : State}

/-! ### SAP transmit frames (R208) -/

section Transmit

variable {p : Fin 24} {phase : Nat} {ok : Bool}

/-- A direction in RUN sends the loaded frame that it has not sent. -/
theorem State.sapTxNext_fresh {i : Nat} (h : (s.txPort i).fresh = true) :
    s.sapTxNext i = s.setTx i { (s.txPort i).send (s.txPort i).loaded with fresh := false } := if_pos h

/-- A direction in RUN without such a frame repeats the last one and counts it. -/
theorem State.sapTxNext_repeats {i : Nat} (h : (s.txPort i).fresh = false) :
    s.sapTxNext i = s.bump (Reg.SAP_TXCNT.REPEAT i) 1 := if_neg (by simp [h])

/-- A transmit direction whose rate window a malformed frame has spoiled. -/
def State.txJudged (s : State) (i : Nat) (ok : Bool) : State :=
  if ok then s else s.setTx i { s.txPort i with rateBad := true }

theorem State.txJudged_eq (s : State) (i : Nat) (ok : Bool) :
    s.txJudged i ok = if ok then s else s.setTx i { s.txPort i with rateBad := true } := rfl

theorem State.txJudged_shows (s : State) (i : Nat) (ok : Bool) : (s.txJudged i ok).regs = s.regs ∧
    ∃ r, (s.txJudged i ok).txPort i = { s.txPort i with rateBad := r } := by
  unfold State.txJudged
  split
  · exact ⟨rfl, _, rfl⟩
  · exact ⟨rfl, true, s.txPort_setTx_same i _⟩

/-- An external frame of a slave direction in RUN, before the next frame is promoted. -/
theorem State.sapTxFrame_run (hslave : sapMaster (s.txPort p).cfg = false) (hrun : s.rd (Reg.SAP_STATUS.TXSTATE p) = 2)
    (hearly : phase + 32 < eclkPerTick s.mult) : s.sapTxFrame p phase ok = (s.txJudged p ok).sapTxNext p := by
  obtain ⟨hregs, r, hport⟩ := s.txJudged_shows p ok
  have hstate : (s.txJudged p ok).rd (Reg.SAP_STATUS.TXSTATE p) = 2 := (State.rd_congr hregs _).trans hrun
  have hcfg : sapMaster ((s.txJudged p ok).txPort p).cfg = false := by rw [hport]; exact hslave
  simp only [State.sapTxFrame, if_neg (Nat.not_le.mpr hearly), ← State.txJudged_eq, hcfg, hstate, Bool.false_eq_true, false_or,
    OfNat.ofNat_ne_zero, if_false]

/-- What it sends and counts. -/
theorem State.sapTxFrame_sends (hslave : sapMaster (s.txPort p).cfg = false) (hrun : s.rd (Reg.SAP_STATUS.TXSTATE p) = 2)
    (hearly : phase + 32 < eclkPerTick s.mult) : let t := s.sapTxFrame p phase ok
      ((s.txPort p).fresh = true → (t.txPort p).sent = (s.txPort p).loaded ∧ (t.txPort p).fresh = false ∧
        (t.txPort p).line = sapLine (s.txPort p).cfg (s.txPort p).loaded ∧ t.regs = s.regs) ∧
      ((s.txPort p).fresh = false → (t.txPort p).sent = (s.txPort p).sent ∧
        t.rd (Reg.SAP_TXCNT.REPEAT p) = min (s.rd (Reg.SAP_TXCNT.REPEAT p) + 1) 65535) := by
  obtain ⟨hregs, r, hport⟩ := s.txJudged_shows p ok
  rw [State.sapTxFrame_run hslave hrun hearly]
  refine ⟨fun hfresh => ?_, fun hsent => ?_⟩
  · rw [State.sapTxNext_fresh (by rw [hport]; exact hfresh)]
    dsimp only
    rw [State.txPort_setTx_same, hport]
    exact ⟨rfl, rfl, rfl, hregs⟩
  · rw [State.sapTxNext_repeats (by rw [hport]; exact hsent)]
    refine ⟨(congrArg TxPort.sent hport :), (State.rd_bump_same _ _ 1).trans ?_⟩
    rw [State.rd_congr hregs]
    rfl

end Transmit

/-! ### SAP configurations (R210) -/

section Config

variable {p : Fin 24} {tx : Bool} {v : Word}

/-- A refused write of a SAP configuration. -/
theorem State.refuseWrite_sap (s : State) (p : Fin 24) (tx : Bool) : s.refuseWrite (0xC0000 + p.val * 0x40 + 4 * tx.toNat) =
    (s.put (Reg.SAP_STATUS.CFG_REFUSED p) true).raise Src.CTL_REFUSED := by
  have htx : tx.toNat ≤ 1 := Bool.toNat_le tx
  have hblock : (0xC0000 + p.val * 0x40 + 4 * tx.toNat) / 65536 = 12 := by omega
  have hport : (0xC0000 + p.val * 0x40 + 4 * tx.toNat) % 65536 / 0x40 = p.val := by omega
  simp only [State.refuseWrite, refusalFlag, hblock, instFlag, hport, if_pos p.isLt, State.refused]

/-- Whether a write of a SAP configuration is legal: by itself, and with the channels of the port's hitches. -/
def State.sapLegal (s : State) (p : Nat) (tx : Bool) (new : Word) : Bool :=
  sapCfgLegal s.mult tx new && !(s.channelsBeyond tx 1 p (sapSlots new))

/-- A write of a SAP configuration by whether it is legal. -/
theorem State.writeSapCfg_eq (s : State) (p : Nat) (tx : Bool) (v : Word) : s.writeSapCfg p tx v =
    if s.sapLegal p tx (v &&& 0x7FFF#32) then s.guarded (0xC0000 + p * 0x40 + 4 * tx.toNat) v fun u =>
      if v &&& 0x7FFF#32 = s.word ((fieldsAt (0xC0000 + p * 0x40 + 4 * tx.toNat)).getD []) then u
      else if tx then u.setTx p { u.txPort p with staged := true } else u.setRx p { u.rxPort p with staged := true }
    else s.refuseWrite (0xC0000 + p * 0x40 + 4 * tx.toNat) := rfl

/-- A legal configuration that changes the register waits for the boundary. -/
theorem State.writeSapCfg_stages {fs : List FieldSpec} (hf : fieldsAt (0xC0000 + p.val * 0x40 + 4 * tx.toNat) = some fs)
    (hadm : admitsAll fs v = true) (hlegal : s.sapLegal p tx (v &&& 0x7FFF#32) = true)
    (hnew : v &&& 0x7FFF#32 ≠ s.word fs) : s.writeSapCfg p tx v =
      let u := s.writeFields fs v
      if tx then u.setTx p { s.txPort p with staged := true } else u.setRx p { s.rxPort p with staged := true } := by
  have hser := (s.writeFields_regsOnly fs v).ser
  rw [State.writeSapCfg_eq, if_pos hlegal]
  simp only [State.guarded, hf, hadm, Option.getD_some, hnew, if_true, if_false, State.txPort_congr hser,
    State.rxPort_congr hser]

/-- An illegal configuration is refused. -/
theorem State.writeSapCfg_refused (hlegal : s.sapLegal p tx (v &&& 0x7FFF#32) = false) :
    s.writeSapCfg p tx v = (s.put (Reg.SAP_STATUS.CFG_REFUSED p) true).raise Src.CTL_REFUSED := by
  rw [State.writeSapCfg_eq, hlegal, if_neg Bool.false_ne_true, State.refuseWrite_sap]

/-- A write of a SAP configuration leaves the list of audits. -/
theorem State.writeSapCfg_auditList (s : State) (p : Fin 24) (tx : Bool) (v : Word) :
    (s.writeSapCfg p tx v).flt.auditList = s.flt.auditList := by
  have hrefused : (s.refuseWrite (0xC0000 + p.val * 0x40 + 4 * tx.toNat)).flt.auditList = s.flt.auditList := by
    rw [State.refuseWrite_sap, State.raise_eq]; rfl
  rw [State.writeSapCfg_eq]
  split
  · unfold State.guarded
    split
    · rfl
    · next fs _ =>
      have hfields := congrArg FltState.auditList (s.writeFields_regsOnly fs v).flt
      split_ifs
      · exact hfields
      · exact hfields
      · exact hfields
      · exact hrefused
  · exact hrefused

/-- SAP_CFG_WRITE of a chip that is alone. -/
theorem sapCfgWrite_shows (hs : s.alone) (hadm : Admitted (0xC0000 + p.val * 0x40 + 4 * tx.toNat) v) :
    let new := v &&& 0x7FFF#32
    Answers (.sapCfgWrite p tx v) s fun t =>
      (s.sapLegal p tx new = true → new ≠ s.word ((fieldsAt (0xC0000 + p.val * 0x40 + 4 * tx.toNat)).getD []) →
        (tx = true → t.txPort p = { s.txPort p with staged := true }) ∧
        (tx = false → t.rxPort p = { s.rxPort p with staged := true })) ∧
      (s.sapLegal p tx new = false → t.ser = s.ser ∧ t.on (Reg.SAP_STATUS.CFG_REFUSED p) = true ∧
        Raised t Src.CTL_REFUSED) := by
  refine answers_core (f := fun s => s.control (0xC0000 + p.val * 0x40 + 4 * tx.toNat) v fun s => s.writeSapCfg p tx v)
    rfl hs.1 ?_
  rw [hs.control_act (s.writeSapCfg_auditList p tx v)]
  obtain ⟨fs, hf, hadm⟩ := hadm
  refine ⟨fun hlegal hnew => ?_, fun hillegal => ?_⟩
  · rw [hf, Option.getD_some] at hnew
    rw [State.writeSapCfg_stages hf hadm hlegal hnew]
    exact ⟨by rintro rfl; exact State.txPort_setTx_same _ _ _, by rintro rfl; exact State.rxPort_setRx_same _ _ _⟩
  · rw [State.writeSapCfg_refused hillegal]
    refine ⟨State.raise_ser _ _, (State.raise_on _ _ _).trans (State.on_put_same _ _ _ (Nat.le_refl 1)), ?_⟩
    rw [Raised, State.raise_arriving _ (by decide), List.getLast?_concat]

/-- A staged configuration of a transmit direction comes into force and restarts it. -/
theorem State.sapCfgApply_tx (h : (s.txPort p).staged = true) : let t := s.sapCfgApply p true
    let c := s.word ((fieldsAt (p.val * 0x40 + 0xC0004)).getD [])
    t.txPort p = { cfg := c } ∧ t.rd (Reg.SAP_STATUS.TXSTATE p) = (sapEn c).toNat := by
  rw [State.sapCfgApply, if_pos rfl, if_pos h]
  refine ⟨?_, State.rd_eq_of_wr (State.rd_portFault (by omega) false ?_) ?_⟩
  · exact (State.txPort_congr ((State.portFault_ser _ _).trans (State.wr_ser _ _ _)) _).trans (State.txPort_setTx_same _ _ _)
  · exact portField_sapStatus p (lo := 3) (by decide)
  · exact (Bool.toNat_lt _).trans (by decide : 2 < 2 ^ 3)

/-- Without a staged configuration nothing changes. -/
theorem State.sapCfgApply_idle (h : (s.txPort p).staged = false) : s.sapCfgApply p true = s := by
  rw [State.sapCfgApply, if_pos rfl, if_neg (by simp [h])]

/-- A staged configuration of a receive direction comes into force and restarts it. -/
theorem State.sapCfgApply_rx (h : (s.rxPort p).staged = true) : let t := s.sapCfgApply p false
    let c := s.word ((fieldsAt (p.val * 0x40 + 0xC0000)).getD [])
    t.rxPort p = { cfg := c, since := s.tick } ∧ t.rd (Reg.SAP_STATUS.RXSTATE p) = (sapEn c).toNat := by
  have hplace : portField (Reg.SAP_STATUS.RXSTATE p).key := portField_sapStatus p (lo := 0) (by decide)
  rw [State.sapCfgApply, if_neg Bool.false_ne_true, if_pos h]
  refine ⟨?_, State.rd_eq_of_wr ((State.rd_portFault (by omega) false hplace).trans
    (State.rd_lanesReacquire _ hplace)) ?_⟩
  · exact (State.rxPort_congr ((State.portFault_ser _ _).trans ((State.lanesReacquire_regsOnly _).ser.trans
      (State.wr_ser _ _ _))) _).trans (State.rxPort_setRx_same _ _ _)
  · exact (Bool.toNat_lt _).trans (by decide : 2 < 2 ^ 3)

end Config

/-! ### Transmit channel status (R214) -/

/-- An armed channel status comes into force. -/
theorem State.csApply_armed {n : Nat} (h : (sget {} n s.ser.cs).armed = true) : let t := s.csApply n
    sget {} n t.ser.cs = ⟨s.txStatusBytes n, false⟩ ∧ t.regs = s.regs := by
  rw [State.csApply, if_pos h]
  exact ⟨sget_sset_same _ _ _ _, rfl⟩

/-! ### ASRC lanes (R216) -/

section Lanes

variable (l : Fin 64) (rate : Nat)

/-- The fields of a lane lie at different places. -/
theorem asrcFields_apart : (Reg.SAP_ASRC_STATUS.INRATE l).key ≠ (Reg.SAP_ASRC_STATUS.STATE l).key ∧
    (Reg.SAP_ASRC_STATUS.INRATE l).key ≠ (Reg.SAP_ASRC_RATIO.RATIO l).key ∧
    (Reg.SAP_ASRC_STATUS.STATE l).key ≠ (Reg.SAP_ASRC_STATUS.RANGE l).key := by
  simp only [FieldRef.key, Reg.SAP_ASRC_STATUS.INRATE, Reg.SAP_ASRC_STATUS.STATE, Reg.SAP_ASRC_RATIO.RATIO,
    Reg.SAP_ASRC_STATUS.RANGE]
  omega

/-- A lane's fields lie above those of the fault sources. -/
theorem asrcFields_above : (Reg.SAP_ASRC_STATUS.STATE l).key ≠ (Reg.FLT_SRC.ACTIVE Src.ASRC_RANGE).key ∧
    (Reg.SAP_ASRC_STATUS.RANGE l).key ≠ (Reg.FLT_SRC.ACTIVE Src.ASRC_RANGE).key := by
  simp only [FieldRef.key, Reg.SAP_ASRC_STATUS.STATE, Reg.SAP_ASRC_STATUS.RANGE, Reg.FLT_SRC.ACTIVE, Src.ASRC_RANGE]
  omega

/-- Beyond an event, a condition changes ACTIVE alone. -/
theorem State.rd_condition (s : State) (n : Nat) (b : Bool) (q : FieldRef) :
    (s.condition n b).rd q = (s.put (Reg.FLT_SRC.ACTIVE n) b).rd q := by
  unfold State.condition
  dsimp only
  split
  · exact State.raise_rd _ _ _
  · rfl

/-- A lane that has locked shows its rate. -/
theorem State.laneLocked_shows (s : State) (hrate : rate < 2 ^ 24) :
    let t := (s.laneRate l rate).wr (Reg.SAP_ASRC_STATUS.STATE l) 2
    t.rd (Reg.SAP_ASRC_STATUS.STATE l) = 2 ∧ t.rd (Reg.SAP_ASRC_STATUS.INRATE l) = rate ∧ t.ser = s.ser := by
  obtain ⟨hstate, hratio, -⟩ := asrcFields_apart l
  exact ⟨State.rd_wr_same _ _ _, State.rd_eq_of_wr ((State.rd_wr_ne _ hstate 2).trans (State.rd_wr_ne _ hratio _)) hrate,
    ((State.wr_ser _ _ _).trans (State.wr_ser _ _ _)).trans (State.wr_ser _ _ _)⟩

/-- A lane at a rate beyond its range is in FAULT. -/
theorem State.laneRange_faults (s : State) (hrate : rate < 320000 ∨ 1920000 < rate) : let t := s.laneRange l rate
    t.rd (Reg.SAP_ASRC_STATUS.STATE l) = 3 ∧ t.on (Reg.SAP_ASRC_STATUS.RANGE l) = true ∧
      t.on (Reg.FLT_SRC.ACTIVE Src.ASRC_RANGE) = true := by
  obtain ⟨-, -, hrange⟩ := asrcFields_apart l
  obtain ⟨hstate, hflag⟩ := asrcFields_above l
  rw [State.laneRange, if_neg (by omega)]
  refine ⟨?_, (State.on_congr (State.rd_condition _ _ true _)).trans ?_,
    (State.on_congr (State.rd_condition _ _ true _)).trans (State.on_put_same _ _ _ (Nat.le_refl 1))⟩
  · exact State.rd_eq_of_wr ((State.rd_condition _ _ true _).trans
      ((State.rd_put_ne _ hstate true).trans (State.rd_put_ne _ hrange true))) (by decide : 3 < 2 ^ 2)
  · exact (State.on_put_ne _ hflag true).trans (State.on_put_same _ _ _ (Nat.le_refl 1))

end Lanes

/-! ### Decimation switches (R224) -/

/-- A decimation channel's record as it was set. -/
@[simp] theorem State.decCh_setDec_same (s : State) (c : Nat) (x : DecCh) : (s.setDec c x).decCh c = x := by
  simp [State.decCh, State.setDec]

/-- The outputs that settle after a switch fit SETTLE. -/
theorem settleCount_lt (c : Word) : decOrder c * decMdd c + 32 < 2 ^ 8 := by
  have horder : decOrder c ≤ 6 := by
    have : wfield c 1 2 < 2 ^ 2 := Nat.mod_lt _ (by decide)
    rw [decOrder]; omega
  have hmdd : decMdd c ≤ 2 := by
    have : wfield c 3 1 < 2 ^ 1 := Nat.mod_lt _ (by decide)
    rw [decMdd]; omega
  have := Nat.mul_le_mul horder hmdd
  omega

/-- A switch clears a channel's filters, and what comes out settles first. -/
theorem State.decRestart_shows (s : State) (c : Nat) : let t := s.decRestart c
    let cfg := s.word ((fieldsAt (0xE0000 + c * 0x10)).getD [])
    (t.decCh c).cfg = cfg ∧ (t.decCh c).restart = false ∧ (t.decCh c).ints = [] ∧ (t.decCh c).fir = [] ∧ (t.decCh c).hb = [] ∧
    (t.decCh c).m = (if s.on (Reg.DEC_CH_DC.FREEZE c) then (s.decCh c).m else 0) ∧
    (decEn cfg = true → t.rd (Reg.DEC_CH_STATUS.SETTLE c) = decOrder cfg * decMdd cfg + 32 ∧
      t.on (Reg.DEC_CH_STATUS.UNSETTLED c) = true) := by
  have hdiff : (Reg.DEC_CH_STATUS.SETTLE c).key ≠ (Reg.DEC_CH_STATUS.UNSETTLED c).key := by
    simp only [FieldRef.key, Reg.DEC_CH_STATUS.SETTLE, Reg.DEC_CH_STATUS.UNSETTLED]; omega
  have hrecord : (s.decRestart c).decCh c = _ := s.decCh_setDec_same c _
  dsimp only
  rw [hrecord]
  refine ⟨rfl, rfl, rfl, rfl, rfl, rfl, fun hen => ?_⟩
  simp only [State.decRestart, hen, if_true]
  exact ⟨State.rd_eq_of_wr (State.rd_put_ne _ hdiff _) (settleCount_lt _),
    (State.on_put_same _ _ _ (Nat.le_refl 1)).trans (decide_eq_true (Nat.succ_ne_zero _))⟩

/-- UNSETTLED goes once the count is 0. -/
theorem State.decSettled_shows (s : State) (c : Nat) : let t := s.decSettled c
    t.ser = s.ser ∧ (s.rd (Reg.DEC_CH_STATUS.SETTLE c) = 0 → t.on (Reg.DEC_CH_STATUS.UNSETTLED c) = false) ∧
      (s.rd (Reg.DEC_CH_STATUS.SETTLE c) ≠ 0 → t = s) := by
  unfold State.decSettled
  split
  · next h => exact ⟨rfl, fun _ => State.on_put_same _ _ _ (Nat.le_refl 1), fun hne => absurd h hne⟩
  · next h => exact ⟨rfl, fun h0 => absurd h0 h, fun _ => rfl⟩

/-- Settles O41, each clause by the law of its command. -/
theorem serialTransmitAndConfiguration : Obligations.SerialTransmitAndConfiguration := by
  unfold Obligations.SerialTransmitAndConfiguration
  intro p n l c rate phase ok tx v s
  refine ⟨fun hs hslave hrun hearly => ?_, sapCfgWrite_shows, fun hs hstaged => ?_, fun hs hstaged => ?_,
    fun hs hstaged => ?_, fun hs harmed hpos => ?_, fun hs hnot => ?_, fun hs hacquire hrate => ?_,
    fun hs hstate hrate => ?_, fun hs hrestart => ?_, fun hs hrestart => ?_, fun hs => ?_⟩
  · exact answers_clocked rfl hs rfl (State.sapTxFrame_sends hslave hrun hearly)
  · exact answers_clocked rfl hs rfl (State.sapCfgApply_tx hstaged)
  · exact answers_clocked rfl hs rfl (State.sapCfgApply_rx hstaged)
  · exact answers_clocked rfl hs rfl (State.sapCfgApply_idle hstaged)
  · refine answers_clocked rfl hs rfl ?_
    rw [if_pos hpos]
    exact State.csApply_armed harmed
  · refine answers_clocked rfl hs rfl ?_
    obtain hidle | hpos := hnot
    · have hkept : s.csApply n = s := if_neg (by simp [hidle])
      rw [hkept, ite_self]
    · exact if_neg hpos
  · refine answers_clocked rfl hs rfl ?_
    rw [if_pos hacquire]
    exact s.laneLocked_shows l rate hrate
  · refine answers_clocked rfl hs rfl ?_
    rw [if_pos hstate]
    exact (s.laneRate l rate).laneRange_faults l rate hrate
  · refine answers_clocked rfl hs rfl ?_
    rw [if_pos hrestart]
    exact s.decRestart_shows c
  · exact answers_clocked rfl hs rfl (if_neg (by simp [hrestart]))
  · exact answers_clocked rfl hs rfl (s.decSettled_shows c)

end Sys2Proof.Machine
end

section
/-! SUPPORT. The drive channels: their records, the places of their fields, and what each operation on a channel leaves
(11 R237-R247). -/

namespace Sys2Proof.Machine

/-! ### Fields -/

/-- Where a field lies in its 0x20 bytes of registers: the fields of one name share it over the drive channels. -/
def FieldRef.place (f : FieldRef) : Nat := f.key % 1024

/-- The place of a register that every drive channel has. -/
theorem place_mk (a lo w d n : Nat) : (⟨a + n * 0x20, lo, w, d⟩ : FieldRef).place = (a * 32 + lo) % 1024 := by
  simp only [FieldRef.place, FieldRef.key]
  omega

@[simp] theorem place_en (n : Nat) : (Reg.AMP_CH_CTRL.EN n).place = 0 := place_mk 0xF0100 0 1 0 n
@[simp] theorem place_diagEn (n : Nat) : (Reg.AMP_CH_CTRL.DIAG_EN n).place = 1 := place_mk 0xF0100 1 1 1 n
@[simp] theorem place_openEn (n : Nat) : (Reg.AMP_CH_CTRL.OPEN_EN n).place = 2 := place_mk 0xF0100 2 1 1 n
@[simp] theorem place_plimEn (n : Nat) : (Reg.AMP_CH_CTRL.PLIM_EN n).place = 3 := place_mk 0xF0100 3 1 1 n
@[simp] theorem place_rundiag (n : Nat) : (Reg.AMP_CH_CTRL.RUNDIAG n).place = 5 := place_mk 0xF0100 5 1 0 n
@[simp] theorem place_state (n : Nat) : (Reg.AMP_CH_STATUS.STATE n).place = 512 := place_mk 0xF0110 0 4 0 n
@[simp] theorem place_diagRes (n : Nat) : (Reg.AMP_CH_STATUS.DIAG_RES n).place = 516 := place_mk 0xF0110 4 3 0 n
@[simp] theorem place_senseLost (n : Nat) : (Reg.AMP_CH_STATUS.SENSE_LOST n).place = 520 := place_mk 0xF0110 8 1 0 n
@[simp] theorem place_retries (n : Nat) : (Reg.AMP_CH_STATUS.RETRIES n).place = 522 := place_mk 0xF0110 10 2 0 n
@[simp] theorem place_latchEv (n : Nat) : (Reg.AMP_CH_STATUS.LATCH_EV n).place = 524 := place_mk 0xF0110 12 1 0 n
@[simp] theorem place_chRefused (n : Nat) : (Reg.AMP_CH_STATUS.CFG_REFUSED n).place = 525 := place_mk 0xF0110 13 1 0 n
@[simp] theorem place_ocper (n : Nat) : (Reg.AMP_CH_CNT.OCPER n).place = 896 := place_mk 0xF011C 0 16 0 n
@[simp] theorem place_latches (n : Nat) : (Reg.AMP_CH_CNT.LATCHES n).place = 912 := place_mk 0xF011C 16 8 0 n
@[simp] theorem place_ndiag : Reg.AMP_STATUS.NDIAG.place = 129 := rfl

variable {s t : State} {n m : Nat}

/-- Fields at two places are two fields. -/
theorem key_ne_of_place {q f : FieldRef} (h : q.place ≠ f.place) : q.key ≠ f.key :=
  fun e => h (congrArg (· % 1024) e)

/-- A write leaves a field that lies elsewhere. -/
theorem State.rd_wr_elsewhere {q f : FieldRef} (h : q.place ≠ f.place) (v : Nat) : (s.wr f v).rd q = s.rd q :=
  s.rd_wr_ne (key_ne_of_place h) v

/-- A write elsewhere than STATE leaves every channel's state. -/
theorem State.ampSt_wr {f : FieldRef} (h : f.place ≠ 512) (v m : Nat) : (s.wr f v).ampSt m = s.ampSt m :=
  State.rd_wr_elsewhere (by rw [place_state]; exact h.symm) v

/-- The chip's part in a pair is read from one register field. -/
theorem State.isStandby_congr (h : t.rd Reg.TTH_STATUS.STATE = s.rd Reg.TTH_STATUS.STATE) :
    t.isStandby = s.isStandby := by
  simp only [State.isStandby, h]

/-! ### Records -/

@[simp] theorem State.ampCh_setAmp_same (s : State) (n : Nat) (x : AmpCh) : (s.setAmp n x).ampCh n = x := by
  simp [State.ampCh, State.setAmp]

theorem State.ampCh_setAmp_ne (s : State) (h : m ≠ n) (x : AmpCh) : (s.setAmp n x).ampCh m = s.ampCh m :=
  sget_sset_ne h _ _ _ _

@[simp] theorem State.ampCh_put (s : State) (f : FieldRef) (b : Bool) (n : Nat) : (s.put f b).ampCh n = s.ampCh n := rfl
@[simp] theorem State.ampCh_raise (s : State) (k n : Nat) : (s.raise k).ampCh n = s.ampCh n := by
  rw [State.ampCh, State.raise_amp]; rfl
@[simp] theorem State.ampSt_raise (s : State) (k n : Nat) : (s.raise k).ampSt n = s.ampSt n := s.raise_rd k _
@[simp] theorem State.ampSt_setAmp (s : State) (k n : Nat) (x : AmpCh) : (s.setAmp k x).ampSt n = s.ampSt n := rfl

/-- An event that has been raised is the last that has arrived. -/
theorem State.raised_raise (s : State) {k : Nat} (h : faultListed k = true) : Claims.Raised (s.raise k) k := by
  rw [Claims.Raised, s.raise_arriving h, List.getLast?_concat]

/-! ### A new state of a channel (R237) -/

/-- A channel's record as it enters a state. -/
def AmpCh.entering (x : AmpCh) (st : Nat) (d : Drive) (pse rly : Bool) (part : Nat) : AmpCh :=
  { x with
    drive := d, pse := pse, rly := rly, t := 0, part := part, acted := true
    errs := if st = 0 then [] else x.errs
    hist := if st = 0 then [] else x.hist
    noRetry := decide (st = 7) && x.noRetry }

/-- A new state is a new record in STATE's channel. -/
@[simp] theorem State.ampCh_ampGo (s : State) (n st : Nat) (d : Drive) (pse rly : Bool) (part : Nat) :
    (s.ampGo n st d pse rly part).ampCh n = (s.ampCh n).entering st d pse rly part :=
  s.ampCh_setAmp_same n _

/-- Fields other than STATE and NDIAG read as before. -/
theorem State.rd_ampGo {q : FieldRef} (hst : q.place ≠ 512) (hnd : q.place ≠ 129) (st : Nat) (d : Drive)
    (pse rly : Bool) (part : Nat) : (s.ampGo n st d pse rly part).rd q = s.rd q :=
  (State.rd_wr_elsewhere (by simpa using hnd) _).trans (State.rd_wr_elsewhere (by simpa using hst) st)

/-- STATE shows the new state. -/
theorem State.ampSt_ampGo (s : State) (n : Nat) {st : Nat} (h : st < 16) (d : Drive) (pse rly : Bool) (part : Nat) :
    (s.ampGo n st d pse rly part).ampSt n = st :=
  (State.ampSt_wr (by simp) _ n).trans ((State.rd_wr_same _ _ st).trans (Nat.mod_eq_of_lt h))

/-- STATE of one channel is at another place than that of any other. -/
theorem State.ampSt_wr_state {m : Nat} (h : m ≠ n) (v : Nat) :
    (s.wr (Reg.AMP_CH_STATUS.STATE n) v).ampSt m = s.ampSt m := by
  refine s.rd_wr_ne ?_ v
  simp only [FieldRef.key, Reg.AMP_CH_STATUS.STATE]
  omega

/-- The record of a channel that is about to be latched off. -/
def AmpCh.latching (x : AmpCh) : AmpCh := { x with after := .latched, ocRun := 0, lastOc := none, latchDue := false }

/-- A latch-off in its parts. -/
theorem State.ampLatch_eq (s : State) (n : Nat) : s.ampLatch n =
    ((((s.setAmp n (s.ampCh n).latching).ampGo n 7 .low false (s.ampCh n).rly (if (s.ampCh n).rly then 0 else 1)).put
      (Reg.AMP_CH_STATUS.LATCH_EV n) true).bump (Reg.AMP_CH_CNT.LATCHES n) 1).raise Src.AMP_LATCH := rfl

end Sys2Proof.Machine

/-! ### The other channels, and a channel's pins -/

namespace Sys2Proof.Claims

open Sys2Proof.Machine

variable {s t u : State} {n st : Nat} {d : Drive} {pse rly : Bool}

theorem AmpOthers.refl (s : State) (n : Nat) : AmpOthers s s n := fun _ _ _ => ⟨rfl, rfl⟩

theorem AmpOthers.trans (h : AmpOthers s t n) (g : AmpOthers t u n) : AmpOthers s u n := fun m hm hl =>
  ⟨(g m hm hl).1.trans (h m hm hl).1, (g m hm hl).2.trans (h m hm hl).2⟩

theorem AmpOthers.setAmp (h : AmpOthers s t n) (x : AmpCh) : AmpOthers s (t.setAmp n x) n := fun m hm hl =>
  ⟨(t.ampCh_setAmp_ne hm x).trans (h m hm hl).1, (h m hm hl).2⟩

theorem AmpOthers.wr (h : AmpOthers s t n) {f : FieldRef} (hf : f.place ≠ 512) (v : Nat) : AmpOthers s (t.wr f v) n :=
  fun m hm hl => ⟨(h m hm hl).1, (State.ampSt_wr hf v m).trans (h m hm hl).2⟩

theorem AmpOthers.raise (h : AmpOthers s t n) (k : Nat) : AmpOthers s (t.raise k) n := fun m hm hl =>
  ⟨(t.ampCh_raise k m).trans (h m hm hl).1, (t.ampSt_raise k m).trans (h m hm hl).2⟩

theorem AmpOthers.ampGo (h : AmpOthers s t n) (st : Nat) (d : Drive) (pse rly : Bool) (part : Nat) :
    AmpOthers s (t.ampGo n st d pse rly part) n := by
  refine AmpOthers.wr (fun m hm hl => ?_) (by simp) _
  obtain ⟨hch, hst⟩ := h.setAmp ((t.ampCh n).entering st d pse rly part) m hm hl
  exact ⟨hch, (State.ampSt_wr_state hm st).trans hst⟩

theorem AmpOthers.stopPath (h : AmpOthers s t n) (after : StopTo) : AmpOthers s (t.stopPath n after) n :=
  (h.setAmp _).ampGo _ _ _ _ _

theorem AmpOthers.ampLatch (h : AmpOthers s t n) : AmpOthers s (t.ampLatch n) n :=
  ((((h.setAmp _).ampGo _ _ _ _ _).wr (by simp) _).wr (by simp) _).raise _

theorem AmpAt.ampGo (s : State) (n : Nat) {st : Nat} (h : st < 16) (d : Drive) (pse rly : Bool) (part : Nat) :
    AmpAt (s.ampGo n st d pse rly part) n st d pse rly := by
  rw [AmpAt, s.ampSt_ampGo n h, State.ampCh_ampGo]
  exact ⟨rfl, rfl, rfl, rfl⟩

theorem AmpAt.wr (h : AmpAt t n st d pse rly) {f : FieldRef} (hf : f.place ≠ 512) (v : Nat) :
    AmpAt (t.wr f v) n st d pse rly :=
  ⟨(State.ampSt_wr hf v n).trans h.1, h.2⟩

theorem AmpAt.raise (h : AmpAt t n st d pse rly) (k : Nat) : AmpAt (t.raise k) n st d pse rly := by
  rwa [AmpAt, State.ampCh_raise, State.ampSt_raise]

/-- A record with the same pins shows the channel where it was. -/
theorem AmpAt.setAmp (h : AmpAt t n st d pse rly) {x : AmpCh} (hd : x.drive = (t.ampCh n).drive)
    (hp : x.pse = (t.ampCh n).pse) (hr : x.rly = (t.ampCh n).rly) : AmpAt (t.setAmp n x) n st d pse rly := by
  rwa [AmpAt, State.ampCh_setAmp_same, hd, hp, hr]

end Sys2Proof.Claims

namespace Sys2Proof.Machine

open Sys2Proof.Claims

variable {s : State} {n : Nat}

/-! ### The stop path, the end of a diagnostic and the latch-off (R238, R239, R241) -/

/-- What the stop path without a ramp leaves. -/
theorem State.stopPath_shows (s : State) (n : Nat) (after : StopTo) : let t := s.stopPath n after
    AmpAt t n 6 .idle true false ∧ (t.ampCh n).part = 1 ∧ (t.ampCh n).after = after := by
  refine ⟨AmpAt.ampGo _ n (by decide) _ _ _ _, ?_, ?_⟩ <;>
  · rw [State.stopPath, State.ampCh_ampGo, State.ampCh_setAmp_same]
    rfl

/-- A channel that is latched off: legs and PSE low, the relay not moved yet, the event shown and raised. -/
theorem State.ampLatch_shows (s : State) (n : Nat) : let t := s.ampLatch n
    AmpAt t n 7 .low false (s.ampCh n).rly ∧ t.on (Reg.AMP_CH_STATUS.LATCH_EV n) = true ∧ Raised t Src.AMP_LATCH := by
  dsimp only
  rw [State.ampLatch_eq]
  refine ⟨?_, ?_, State.raised_raise _ (by decide)⟩
  · exact (((AmpAt.ampGo _ n (by decide) _ _ _ _).wr (by simp) _).wr (by simp) _).raise _
  · rw [State.raise_on, State.bump, State.on_congr (State.rd_wr_elsewhere (by simp) _)]
    exact State.on_put_same _ _ _ (Nat.le_refl 1)

/-- A latch-off leaves OCPER. -/
theorem State.rd_ampLatch_ocper (s : State) (n : Nat) :
    (s.ampLatch n).rd (Reg.AMP_CH_CNT.OCPER n) = s.rd (Reg.AMP_CH_CNT.OCPER n) := by
  rw [State.ampLatch_eq, State.raise_rd, State.bump, State.rd_wr_elsewhere (by simp), State.put,
    State.rd_wr_elsewhere (by simp), State.rd_ampGo (by simp) (by simp)]
  rfl

end Sys2Proof.Machine
end

section
/-! SUPPORT. The control writes of the drive channels (11 R230, R238-R241), and the statement settled. -/

namespace Sys2Proof.Machine

open Sys2Proof.Claims

variable {s : State} {n : Fin 32} {v : Word}

/-! ### AMP_CH_nn_CTRL -/

/-- The fields of AMP_CH_nn_CTRL. -/
def ampCtrlFields (n : Nat) : List FieldSpec :=
  [⟨Reg.AMP_CH_CTRL.EN n, .rw, .any⟩, ⟨Reg.AMP_CH_CTRL.DIAG_EN n, .rw, .any⟩,
    ⟨Reg.AMP_CH_CTRL.OPEN_EN n, .rw, .any⟩, ⟨Reg.AMP_CH_CTRL.PLIM_EN n, .rw, .any⟩,
    ⟨Reg.AMP_CH_CTRL.CLR n, .wo, .any⟩, ⟨Reg.AMP_CH_CTRL.RUNDIAG n, .ws, .any⟩]

/-- They are the fields that the register index lists. -/
theorem fieldsAt_ampCtrl : ∀ n : Fin 32, fieldsAt (0xF0100 + n.val * 0x20) = some (ampCtrlFields n) := by
  decide

/-- A write of AMP_CH_nn_CTRL by the type codes of its fields. -/
def State.ampSet (s : State) (n : Nat) (v : Word) : State := s.writeFields (ampCtrlFields n) v

theorem State.ampSet_eq (s : State) (n : Nat) (v : Word) : s.ampSet n v =
    (((s.wr (Reg.AMP_CH_CTRL.EN n) ((Reg.AMP_CH_CTRL.EN n).part v)).wr (Reg.AMP_CH_CTRL.DIAG_EN n)
      ((Reg.AMP_CH_CTRL.DIAG_EN n).part v)).wr (Reg.AMP_CH_CTRL.OPEN_EN n) ((Reg.AMP_CH_CTRL.OPEN_EN n).part v)).wr
      (Reg.AMP_CH_CTRL.PLIM_EN n) ((Reg.AMP_CH_CTRL.PLIM_EN n).part v) := rfl

/-- A field that is not among the four that take their parts reads as before. -/
theorem State.rd_ampSet (s : State) (n : Nat) (v : Word) {q : FieldRef} (hq : 4 ≤ q.place) :
    (s.ampSet n v).rd q = s.rd q := by
  have hne {k : Nat} (hk : k < 4) : q.place ≠ k := fun e => absurd (e ▸ hq) (Nat.not_le.mpr hk)
  rw [State.ampSet_eq, State.rd_wr_elsewhere (by simp [hne]), State.rd_wr_elsewhere (by simp [hne]),
    State.rd_wr_elsewhere (by simp [hne]), State.rd_wr_elsewhere (by simp [hne])]

@[simp] theorem State.ampSt_ampSet (s : State) (n k : Nat) (v : Word) : (s.ampSet n v).ampSt k = s.ampSt k :=
  s.rd_ampSet n v (by simp)

/-- A one-bit field's part of a word is its bit. -/
theorem part_eq_bit {f : FieldRef} (h : f.width = 1) (v : Word) : decide (f.part v = 1) = v.getLsbD f.lo := by
  rw [FieldRef.part, h, Nat.pow_one, BitVec.getLsbD, Nat.testBit_eq_decide_div_mod_eq]

/-- A one-bit field that takes its part shows its bit. -/
theorem State.on_wr_part (s : State) {f : FieldRef} (h : f.width = 1) (v : Word) :
    (s.wr f (f.part v)).on f = v.getLsbD f.lo := by
  rw [State.on, State.rd_wr_same, FieldRef.part, Nat.mod_mod]
  exact part_eq_bit h v

/-- A write elsewhere leaves a flag. -/
theorem State.on_wr_elsewhere (s : State) {q f : FieldRef} (h : q.place ≠ f.place) (v : Nat) :
    (s.wr f v).on q = s.on q := State.on_congr (State.rd_wr_elsewhere h v)

theorem State.ampSet_en (s : State) (n : Nat) (v : Word) : (s.ampSet n v).on (Reg.AMP_CH_CTRL.EN n) = v.getLsbD 0 := by
  rw [State.ampSet_eq, State.on_wr_elsewhere _ (by simp), State.on_wr_elsewhere _ (by simp),
    State.on_wr_elsewhere _ (by simp)]
  exact s.on_wr_part rfl v

theorem State.ampSet_diagEn (s : State) (n : Nat) (v : Word) :
    (s.ampSet n v).on (Reg.AMP_CH_CTRL.DIAG_EN n) = v.getLsbD 1 := by
  rw [State.ampSet_eq, State.on_wr_elsewhere _ (by simp), State.on_wr_elsewhere _ (by simp)]
  exact State.on_wr_part _ rfl v

/-- What an admitted write does once its fields are set, by the bits of the word and the channel's state. -/
def State.ampObey (s : State) (n : Nat) (v : Word) : State :=
  let u := if v.getLsbD 4 && decide (s.ampSt n = 8) then s.ampClear n else s
  if v.getLsbD 0 then (if u.ampSt n = 0 then u.ampBegin n (u.on (Reg.AMP_CH_CTRL.DIAG_EN n)) else u)
  else if u.ampSt n = 0 then (if v.getLsbD 5 then u.ampRunDiag n else u)
  else u.ampStop n

/-- An admitted write of AMP_CH_nn_CTRL on a chip that governs, its scales set where it enables. -/
theorem State.writeAmpCtrl_admitted (h : Admitted (0xF0100 + n.val * 0x20) v) (hgoverns : s.isStandby = false)
    (hscale : v.getLsbD 0 = false ∨ s.rd (Reg.AMP_CH_SCALE.VFS n) ≠ 0 ∧ s.rd (Reg.AMP_CH_SCALE.IFS n) ≠ 0) :
    s.writeAmpCtrl n v = (s.ampSet n v).ampObey n v := by
  obtain ⟨fs, hfs, hadm⟩ := h
  cases (fieldsAt_ampCtrl n).symm.trans hfs
  have hset : (s.ampSet n v).isStandby = false :=
    (State.isStandby_congr (s.rd_ampSet n v (by decide))).trans hgoverns
  have hrefuse : (v.getLsbD 0 && (decide (s.rd (Reg.AMP_CH_SCALE.VFS n) = 0) ||
      decide (s.rd (Reg.AMP_CH_SCALE.IFS n) = 0))) = false := by
    rcases hscale with hen | ⟨hvfs, hifs⟩
    · rw [hen, Bool.false_and]
    · rw [decide_eq_false hvfs, decide_eq_false hifs, Bool.or_false, Bool.and_false]
  rw [State.writeAmpCtrl, hrefuse, if_neg Bool.false_ne_true, State.guarded, fieldsAt_ampCtrl]
  dsimp only
  rw [if_pos hadm]
  exact if_neg (ne_true_of_eq_false hset)

/-! ### What every write leaves, whatever it does -/

/-- What a step of channel `n` leaves: the other channels, the fault collector and EN of the channel. -/
structure AmpStepped (s t : State) (n : Nat) : Prop where
  others : AmpOthers s t n
  flt : t.flt = s.flt
  en : t.on (Reg.AMP_CH_CTRL.EN n) = s.on (Reg.AMP_CH_CTRL.EN n)

namespace AmpStepped

variable {t : State} {n : Nat}

theorem refl (s : State) (n : Nat) : AmpStepped s s n := ⟨AmpOthers.refl s n, rfl, rfl⟩

theorem setAmp (h : AmpStepped s t n) (x : AmpCh) : AmpStepped s (t.setAmp n x) n := ⟨h.others.setAmp x, h.flt, h.en⟩

theorem wr (h : AmpStepped s t n) {f : FieldRef} (hst : f.place ≠ 512) (hen : f.place ≠ 0) (v : Nat) :
    AmpStepped s (t.wr f v) n :=
  ⟨h.others.wr hst v, h.flt, (t.on_wr_elsewhere (by simpa using hen.symm) v).trans h.en⟩

theorem ampGo (h : AmpStepped s t n) (st : Nat) (d : Drive) (pse rly : Bool) (part : Nat) :
    AmpStepped s (t.ampGo n st d pse rly part) n :=
  ⟨h.others.ampGo st d pse rly part, h.flt,
    (State.on_congr (State.rd_ampGo (by simp) (by simp) st d pse rly part)).trans h.en⟩

theorem ampStop (h : AmpStepped s t n) : AmpStepped s (t.ampStop n) n := by
  have hput : AmpStepped s (t.put (Reg.AMP_CH_CTRL.RUNDIAG n) false) n := h.wr (by simp) (by simp) _
  unfold State.ampStop
  dsimp only
  split
  · exact hput.ampGo 0 .low false false 0
  · exact (hput.setAmp _).ampGo 6 .idle true false 1
  · exact (hput.setAmp _).ampGo 6 .idle true false 1
  · exact (hput.setAmp _).ampGo 6 .modulated true true 0
  · exact (hput.setAmp _).ampGo 6 .modulated true true 0
  · exact hput.setAmp _
  · split
    · exact hput.ampGo 0 .low false false 0
    · exact hput.setAmp _
  · exact hput

theorem ampClear (h : AmpStepped s t n) : AmpStepped s (t.ampClear n) n :=
  (h.ampGo 0 .low false false 0).wr (by simp) (by simp) 0

theorem ampBegin (h : AmpStepped s t n) (diag : Bool) : AmpStepped s (t.ampBegin n diag) n := by
  cases diag with
  | true => exact (h.setAmp _).ampGo 1 .low false false 0
  | false => exact (h.setAmp _).ampGo 3 .idle true false 0

theorem ampRunDiag (h : AmpStepped s t n) : AmpStepped s (t.ampRunDiag n) n :=
  ((h.setAmp _).wr (by simp) (by simp) _).ampGo 1 .low false false 0

theorem ampObey (s : State) (n : Nat) (v : Word) : AmpStepped s (s.ampObey n v) n := by
  have hclear : AmpStepped s (if v.getLsbD 4 && decide (s.ampSt n = 8) then s.ampClear n else s) n := by
    split
    · exact (refl s n).ampClear
    · exact refl s n
  unfold State.ampObey
  dsimp only
  generalize (if v.getLsbD 4 && decide (s.ampSt n = 8) then s.ampClear n else s) = u at hclear
  split_ifs
  · exact hclear.ampBegin _
  · exact hclear
  · exact hclear.ampRunDiag
  · exact hclear
  · exact hclear.ampStop

end AmpStepped

/-- A control write of AMP_CH_nn_CTRL that is admitted acts at once where the chip is alone; the other channels are as
before and EN shows its bit. -/
theorem State.alone.answers_ampCtrl (hs : s.alone) {i : Instr} {p : State → Prop}
    (he : exec i s = core (fun s => s.control (0xF0100 + n.val * 0x20) v fun s => s.writeAmpCtrl n.val v) s)
    (h : Admitted (0xF0100 + n.val * 0x20) v)
    (hscale : v.getLsbD 0 = false ∨ s.rd (Reg.AMP_CH_SCALE.VFS n) ≠ 0 ∧ s.rd (Reg.AMP_CH_SCALE.IFS n) ≠ 0)
    (hp : ∀ t, t = (s.ampSet n v).ampObey n v → AmpOthers s t n → t.on (Reg.AMP_CH_CTRL.EN n) = v.getLsbD 0 →
      p t) : Answers i s p := by
  obtain ⟨hheld, hpaired, -⟩ := id hs
  have hact := State.writeAmpCtrl_admitted h (State.pairSt_of_unpaired hpaired).2 hscale
  obtain ⟨hothers, hflt, hen⟩ := AmpStepped.ampObey (s.ampSet n v) n v
  refine answers_core he hheld ?_
  rw [hs.control (hact ▸ hflt), hact]
  have hset : AmpOthers s (s.ampSet n v) n := fun m _ _ => ⟨rfl, s.ampSt_ampSet n m v⟩
  exact hp _ rfl (hset.trans hothers) (hen.trans (s.ampSet_en n v))

/-! ### What each write does (R238, R239, R241) -/

section Obeyed

variable {n : Nat}

/-- A channel in OFF starts with EN = 1, and with EN = 0 and RUNDIAG is diagnosed. -/
theorem State.ampObey_off (h0 : s.ampSt n = 0) : s.ampObey n v =
    if v.getLsbD 0 then s.ampBegin n (s.on (Reg.AMP_CH_CTRL.DIAG_EN n))
    else if v.getLsbD 5 then s.ampRunDiag n else s := by
  have hclr : (v.getLsbD 4 && decide (s.ampSt n = 8)) = false := by rw [h0, decide_eq_false (by decide), Bool.and_false]
  simp only [State.ampObey, hclr, if_pos h0, Bool.false_eq_true, if_false]

/-- EN = 0 stops a channel that runs. -/
theorem State.ampObey_stops (hen : v.getLsbD 0 = false) (h0 : s.ampSt n ≠ 0) (h8 : s.ampSt n ≠ 8) :
    s.ampObey n v = s.ampStop n := by
  simp only [State.ampObey, hen, h0, h8, decide_false, Bool.and_false, Bool.false_eq_true, if_false]

/-- A channel that CLR has released is OFF with RETRIES 0. -/
theorem State.ampClear_shows (s : State) (n : Nat) :
    AmpAt (s.ampClear n) n 0 .low false false ∧ (s.ampClear n).rd (Reg.AMP_CH_STATUS.RETRIES n) = 0 :=
  ⟨(AmpAt.ampGo s n (by decide) .low false false 0).wr (by simp) 0, State.rd_wr_same _ _ 0⟩

/-- CLR in LOCKOUT with EN = 0 and no RUNDIAG releases the channel. -/
theorem State.ampObey_clears (hen : v.getLsbD 0 = false) (hdiag : v.getLsbD 5 = false) (hclr : v.getLsbD 4 = true)
    (h8 : s.ampSt n = 8) : s.ampObey n v = s.ampClear n := by
  have hoff : (s.ampClear n).ampSt n = 0 := (s.ampClear_shows n).1.1
  simp only [State.ampObey, hen, hdiag, hclr, h8, hoff, decide_true, Bool.and_true, if_true, Bool.false_eq_true,
    if_false]

/-- What the start with a diagnostic and the start without one leave. -/
theorem State.ampBegin_shows (s : State) (n : Nat) :
    AmpAt (s.ampBegin n true) n 1 .low false false ∧ AmpAt (s.ampBegin n false) n 3 .idle true false ∧
    ((s.ampBegin n false).ampCh n).part = 0 := by
  refine ⟨AmpAt.ampGo _ n (by decide) .low false false 0, AmpAt.ampGo _ n (by decide) .idle true false 0, ?_⟩
  exact congrArg AmpCh.part (State.ampCh_ampGo _ n 3 .idle true false 0)

/-- A channel that RUNDIAG has sent to wait for its diagnostic. -/
theorem State.ampRunDiag_shows (s : State) (n : Nat) : let t := s.ampRunDiag n
    AmpAt t n 1 .low false false ∧ (t.ampCh n).once = true ∧ t.on (Reg.AMP_CH_CTRL.RUNDIAG n) = true := by
  refine ⟨AmpAt.ampGo _ n (by decide) .low false false 0, ?_, ?_⟩
  · rw [State.ampRunDiag, State.ampCh_ampGo, State.ampCh_put, State.ampCh_setAmp_same]
    rfl
  · exact (State.on_congr (State.rd_ampGo (by simp) (by simp) 1 .low false false 0)).trans
      (State.on_put_same _ _ _ (Nat.le_refl 1))

/-- Clearing RUNDIAG leaves every channel's state. -/
theorem State.ampSt_put_rundiag (s : State) (n : Nat) :
    (s.put (Reg.AMP_CH_CTRL.RUNDIAG n) false).ampSt n = s.ampSt n := State.ampSt_wr (by simp) _ n

/-- EN = 0 in START: the stop path without a ramp. -/
theorem State.ampStop_start (h : s.ampSt n = 3) :
    s.ampStop n = (s.put (Reg.AMP_CH_CTRL.RUNDIAG n) false).stopPath n .off := by
  simp only [State.ampStop, State.ampSt_put_rundiag, h]

/-- EN = 0 in UNMUTE and RUN: the stop ramp. -/
theorem State.ampStop_ramp (h : s.ampSt n = 4 ∨ s.ampSt n = 5) : let t := s.ampStop n
    AmpAt t n 6 .modulated true true ∧ (t.ampCh n).part = 0 ∧ (t.ampCh n).after = .off := by
  have hstop : s.ampStop n = ((s.put (Reg.AMP_CH_CTRL.RUNDIAG n) false).setAmp n
      { s.ampCh n with after := .off }).ampGo n 6 .modulated true true 0 := by
    rcases h with h | h <;> simp only [State.ampStop, State.ampSt_put_rundiag, h]
  rw [hstop]
  refine ⟨AmpAt.ampGo _ n (by decide) .modulated true true 0, ?_, ?_⟩ <;>
  · rw [State.ampCh_ampGo, State.ampCh_setAmp_same]
    rfl

end Obeyed

/-! ### A refused write (R230, R435) -/

/-- A refused write of a channel's register shows at the channel and raises its events. -/
theorem State.refuseWrite_ampCh (s : State) (n : Fin 32) : s.refuseWrite (0xF0100 + n.val * 0x20) =
    ((s.put (Reg.AMP_CH_STATUS.CFG_REFUSED n) true).raise Src.AMP_CFG).raise Src.CTL_REFUSED := by
  have hblock : (0xF0100 + n.val * 0x20) / 65536 = 15 := by omega
  have hoff : ¬ (0xF0100 + n.val * 0x20) % 65536 < 0x100 := by omega
  have hchan : ((0xF0100 + n.val * 0x20) % 65536 - 0x100) / 0x20 = n.val := by omega
  simp only [State.refuseWrite, refusalFlag, hblock, if_neg hoff, instFlag, hchan, if_pos n.isLt, State.refused]

/-- A refused write of a register of the block shows in AMP_STATUS and raises its events. -/
theorem State.refuseWrite_amp (s : State) {a : Nat} (hblock : a / 65536 = 15) (hoff : a % 65536 < 0x100) :
    s.refuseWrite a = ((s.put Reg.AMP_STATUS.CFG_REFUSED true).raise Src.AMP_CFG).raise Src.CTL_REFUSED := by
  simp only [State.refuseWrite, refusalFlag, hblock, if_pos hoff, State.refused]

/-- Events raised leave the audit list. -/
theorem State.raise_auditList (s : State) (k : Nat) : (s.raise k).flt.auditList = s.flt.auditList := by
  rw [State.raise_eq]; rfl

/-- What a write that shows a refusal and raises both events leaves. -/
theorem State.ampRefused_shows (s : State) {f : FieldRef} (hf : 1 ≤ f.width) :
    let t := ((s.put f true).raise Src.AMP_CFG).raise Src.CTL_REFUSED
    t.amp = s.amp ∧ (∀ q : FieldRef, q.key ≠ f.key → t.rd q = s.rd q) ∧ t.on f = true ∧
      Raised t Src.CTL_REFUSED ∧ t.flt.auditList = s.flt.auditList := by
  refine ⟨by simp, fun q hq => ?_, ?_, State.raised_raise _ (by decide), ?_⟩
  · rw [State.raise_rd, State.raise_rd, State.rd_put_ne _ hq]
  · rw [State.raise_on, State.raise_on, State.on_put_same _ _ _ hf]
  · rw [State.raise_auditList, State.raise_auditList]; rfl

/-- EN = 1 with a scale at 0 is refused. -/
theorem ampEnable_refused (hs : s.alone) (h0 : s.rd (Reg.AMP_CH_SCALE.VFS n) = 0 ∨ s.rd (Reg.AMP_CH_SCALE.IFS n) = 0) :
    Answers (.ampEnable n v) s fun t => t.amp = s.amp ∧ t.ampSt n = s.ampSt n ∧
      t.on (Reg.AMP_CH_STATUS.CFG_REFUSED n) = true ∧ Raised t Src.CTL_REFUSED := by
  have hen : (v ||| 1).getLsbD 0 = true := by simp
  have hact : s.writeAmpCtrl n (v ||| 1) =
      ((s.put (Reg.AMP_CH_STATUS.CFG_REFUSED n) true).raise Src.AMP_CFG).raise Src.CTL_REFUSED := by
    rw [State.writeAmpCtrl, hen, if_pos (by simpa using h0), State.refuseWrite_ampCh]
  obtain ⟨hamp, hrd, hon, hraised, haudit⟩ :=
    s.ampRefused_shows (f := Reg.AMP_CH_STATUS.CFG_REFUSED n) (Nat.le_refl 1)
  refine answers_core (f := fun s => s.control (0xF0100 + n.val * 0x20) (v ||| 1) fun s => s.writeAmpCtrl n.val (v ||| 1))
    rfl hs.1 ?_
  rw [hs.control_act (hact ▸ haudit), hact]
  exact ⟨hamp, hrd _ (key_ne_of_place (by simp)), hon, hraised⟩

/-! ### AMP_MOD and AMP_NS_i (R230) -/

/-- The register that a command of the modulator's settings writes. -/
def ampModAddr (r : Nat) : Nat := if r = 0 then 0xF0008 else 0xF0010 + 4 * (r - 1)

/-- A write of the modulator's settings is refused while a channel is not OFF. -/
theorem State.writeAmpMod_busy (h : s.ampSt n ≠ 0) (r : Nat) : s.writeAmpMod r v = s.refuseWrite (ampModAddr r) := by
  have hbusy : ((List.range 32).any fun n => decide (s.ampSt n ≠ 0)) = true :=
    List.any_eq_true.mpr ⟨n, List.mem_range.mpr n.isLt, decide_eq_true h⟩
  rw [State.writeAmpMod, hbusy]
  rfl

/-- No channel keeps the settings from being written. -/
theorem State.modFree (h : ∀ m, m < 32 → s.ampSt m = 0) :
    ((List.range 32).any fun n => decide (s.ampSt n ≠ 0)) = false := by
  simpa using h

/-- The fields of AMP_MOD. -/
def ampModFields : List FieldSpec :=
  [⟨Reg.AMP_MOD.JMAX, .rw, .nat 1024 6400⟩, ⟨Reg.AMP_MOD.USCALE, .rw, .nat 1 6400⟩]

theorem fieldsAt_ampMod : fieldsAt 0xF0008 = some ampModFields := by decide

theorem fieldsAt_ampNs : ∀ r : Fin 5, fieldsAt (0xF0010 + 4 * r.val) = some [⟨Reg.AMP_NS.H r, .rw, .any⟩] := by
  decide

/-- AMP_MOD within its bound and with every channel OFF takes the word. -/
theorem State.writeAmpMod_settings (hoff : ∀ m, m < 32 → s.ampSt m = 0) (h : Admitted 0xF0008 v)
    (hbound : Reg.AMP_MOD.USCALE.part v + ceilDiv (s.tapSum 5 0) (2 ^ 28) ≤ Reg.AMP_MOD.JMAX.part v) :
    s.writeAmpMod 0 v = (s.wr Reg.AMP_MOD.JMAX (Reg.AMP_MOD.JMAX.part v)).wr Reg.AMP_MOD.USCALE
      (Reg.AMP_MOD.USCALE.part v) := by
  obtain ⟨fs, hfs, hadm⟩ := h
  cases fieldsAt_ampMod.symm.trans hfs
  simp only [State.writeAmpMod, State.modFree hoff, if_true, decide_eq_false (Nat.not_lt.mpr hbound), Bool.or_false,
    Bool.false_eq_true, if_false, State.guarded, fieldsAt_ampMod, hadm]
  rfl

/-- AMP_NS_r within its bound and with every channel OFF takes the word. -/
theorem State.writeAmpMod_tap (hoff : ∀ m, m < 32 → s.ampSt m = 0) {r : Fin 5} (h : Admitted (0xF0010 + 4 * r.val) v)
    (hbound : s.rd Reg.AMP_MOD.USCALE + ceilDiv (s.tapSum r v) (2 ^ 28) ≤ s.rd Reg.AMP_MOD.JMAX) :
    s.writeAmpMod (r + 1) v = s.wr (Reg.AMP_NS.H r) ((Reg.AMP_NS.H r).part v) := by
  obtain ⟨fs, hfs, hadm⟩ := h
  cases (fieldsAt_ampNs r).symm.trans hfs
  simp only [State.writeAmpMod, State.modFree hoff, Nat.succ_ne_zero, Nat.add_sub_cancel, if_true,
    decide_eq_false (Nat.not_lt.mpr hbound), Bool.or_false, Bool.false_eq_true, if_false, State.guarded,
    fieldsAt_ampNs, hadm]
  rfl

/-- AMP_MOD_WRITE answers its write where the chip is alone. -/
theorem State.alone.answers_ampMod (hs : s.alone) {r : Fin 6} {t : State} {p : State → Prop}
    (hact : s.writeAmpMod r v = t) (haudit : t.flt.auditList = s.flt.auditList) (hp : p t) :
    Answers (.ampModWrite r v) s p := by
  refine answers_core (f := fun s => s.control (ampModAddr r) v fun s => s.writeAmpMod r.val v) rfl hs.1 ?_
  rwa [hs.control_act (hact ▸ haudit), hact]

/-- A write of the modulator's settings with a channel not OFF is refused, and the settings stand. -/
theorem ampModWrite_refused (hs : s.alone) (h : s.ampSt n ≠ 0) (r : Fin 6) : Answers (.ampModWrite r v) s fun t =>
    t.amp = s.amp ∧ t.rd Reg.AMP_MOD.USCALE = s.rd Reg.AMP_MOD.USCALE ∧
    t.rd Reg.AMP_MOD.JMAX = s.rd Reg.AMP_MOD.JMAX ∧ (∀ i, i < 5 → t.rd (Reg.AMP_NS.H i) = s.rd (Reg.AMP_NS.H i)) ∧
    t.on Reg.AMP_STATUS.CFG_REFUSED = true ∧ Raised t Src.CTL_REFUSED := by
  have haddr : 0xF0008 ≤ ampModAddr r ∧ ampModAddr r < 0xF0100 := by unfold ampModAddr; split <;> omega
  have hact := (State.writeAmpMod_busy (v := v) h r).trans (s.refuseWrite_amp (by omega) (by omega))
  obtain ⟨hamp, hrd, hon, hraised, haudit⟩ := s.ampRefused_shows (f := Reg.AMP_STATUS.CFG_REFUSED) (Nat.le_refl 1)
  refine hs.answers_ampMod hact haudit ⟨hamp, hrd _ (by decide), hrd _ (by decide), fun i _ => hrd _ ?_, hon, hraised⟩
  simp only [FieldRef.key, Reg.AMP_NS.H, Reg.AMP_STATUS.CFG_REFUSED]
  omega

/-- Settles O43: the writes of AMP_CH_nn_CTRL by what they do to a channel in its state, those of the settings by the
bound and the channels. -/
theorem amplifierControlWrites : Obligations.AmplifierControlWrites := by
  unfold Obligations.AmplifierControlWrites
  intro n v s hs
  refine ⟨fun hadm => ⟨fun hvfs hifs h0 => ?_, ampEnable_refused hs⟩, fun hadm hdiag => ?_, fun hadm hen h0 => ?_,
    fun hadm hen hdiag h8 => ?_, fun hoff => ⟨fun hadm hbound => ?_, fun r hadm hbound => ?_⟩,
    fun r hst => ampModWrite_refused hs hst r⟩
  · have hen : (v ||| 1).getLsbD 0 = true := by simp
    have hbit : (v ||| 1).getLsbD 1 = decide ((Reg.AMP_CH_CTRL.DIAG_EN n).part v = 1) :=
      .trans ((BitVec.getLsbD_or ..).trans (Bool.or_false _)) (part_eq_bit (f := Reg.AMP_CH_CTRL.DIAG_EN n) rfl v).symm
    refine hs.answers_ampCtrl (v := v ||| 1) rfl hadm (.inr ⟨hvfs, hifs⟩) fun t ht hothers hon => ?_
    rw [State.ampObey_off ((s.ampSt_ampSet n n _).trans h0), if_pos hen, State.ampSet_diagEn, hbit] at ht
    obtain ⟨hdiag, hstart, hpart⟩ := (s.ampSet n (v ||| 1)).ampBegin_shows n
    refine ⟨hothers, hon.trans hen, fun h1 => ?_, fun h1 => ?_⟩
    · rw [ht, h1]; exact hdiag
    · rw [ht, h1]; exact ⟨hstart, hpart⟩
  · have hen : (v &&& ~~~1#32).getLsbD 0 = false := by simp
    have hbit : (v &&& ~~~1#32).getLsbD 5 = false := by rw [BitVec.getLsbD_and, hdiag, Bool.false_and]
    have hset := s.ampSt_ampSet n n (v &&& ~~~1#32)
    refine hs.answers_ampCtrl (v := v &&& ~~~1#32) rfl hadm (.inl hen) fun t ht hothers hon => ?_
    refine ⟨hothers, hon.trans hen, fun h0 => ?_, fun h3 => ?_, fun h45 => ?_⟩
    · rw [ht, State.ampObey_off (hset.trans h0), hen, hbit, if_neg Bool.false_ne_true, if_neg Bool.false_ne_true]
      exact ⟨rfl, hset.trans h0⟩
    · rw [ht, State.ampObey_stops hen (by omega) (by omega), State.ampStop_start (hset.trans h3)]
      exact State.stopPath_shows _ n .off
    · rw [ht, State.ampObey_stops hen (by omega) (by omega)]
      exact State.ampStop_ramp (hset ▸ h45)
  · have hen' : (v ||| 0x20#32).getLsbD 0 = false := by rw [BitVec.getLsbD_or, hen]; rfl
    have hbit : (v ||| 0x20#32).getLsbD 5 = true := by simp
    refine hs.answers_ampCtrl (v := v ||| 0x20#32) rfl hadm (.inl hen') fun t ht hothers _ => ?_
    rw [State.ampObey_off ((s.ampSt_ampSet n n _).trans h0), hen', if_neg Bool.false_ne_true, if_pos hbit] at ht
    subst ht
    exact ⟨hothers, State.ampRunDiag_shows _ n⟩
  · have hen' : (v ||| 0x10#32).getLsbD 0 = false := by rw [BitVec.getLsbD_or, hen]; rfl
    have hdiag' : (v ||| 0x10#32).getLsbD 5 = false := by rw [BitVec.getLsbD_or, hdiag]; rfl
    have hclr : (v ||| 0x10#32).getLsbD 4 = true := by simp
    refine hs.answers_ampCtrl (v := v ||| 0x10#32) rfl hadm (.inl hen') fun t ht hothers _ => ?_
    rw [State.ampObey_clears hen' hdiag' hclr ((s.ampSt_ampSet n n _).trans h8)] at ht
    subst ht
    exact ⟨hothers, State.ampClear_shows _ n⟩
  · refine hs.answers_ampMod (State.writeAmpMod_settings hoff hadm hbound) rfl ⟨?_, ?_, rfl⟩
    · exact (State.rd_wr_same _ _ _).trans (Nat.mod_mod _ _)
    · exact (State.rd_wr_ne _ (by decide) _).trans ((State.rd_wr_same _ _ _).trans (Nat.mod_mod _ _))
  · refine hs.answers_ampMod (State.writeAmpMod_tap hoff hadm hbound) rfl ⟨?_, rfl⟩
    have hpart : (Reg.AMP_NS.H r).part v = v.toNat % 2 ^ 32 := congrArg (· % 2 ^ 32) (Nat.div_one _)
    rw [State.rd_wr_same, hpart]
    exact (Nat.mod_mod _ _).trans (Nat.mod_eq_of_lt v.isLt)

end Sys2Proof.Machine
end

section
/-! SUPPORT. The timed events of the drive channels (11 R237-R241), and the statement settled. -/

namespace Sys2Proof.Machine

open Sys2Proof.Claims

variable {s : State} {n : Nat}

/-- A channel whose event has been done for the coming boundary. -/
def State.ampActed (s : State) (n : Nat) : State := s.setAmp n { s.ampCh n with acted := true }

/-- The command of the event that is due performs it. -/
theorem State.ampCommand_due {e : AmpEvent} {p : AmpEvent → Bool} (hstandby : s.isStandby = false)
    (hacted : (s.ampCh n).acted = false) (hdue : s.ampDue n ((s.ampCh n).t + 1) = some e) (hp : p e = true) :
    s.ampCommand n p = (s.ampEvent n ((s.ampCh n).t + 1) e).ampActed n := by
  simp only [State.ampCommand, hacted, hstandby, hdue, hp, Bool.or_false, Bool.false_eq_true, if_false, if_true]
  rfl

/-- The command of the event that is due answers what the event makes of the node. -/
theorem answers_ampEvent {i : Instr} {m : State → Out} {p : State → AmpEvent → Bool} {e : AmpEvent}
    {q : State → Prop} (h : AmpTimed s n) (he : exec i s = m s) (hm : m = clocked fun s => s.ampCommand n (p s))
    (hdue : s.ampDue n ((s.ampCh n).t + 1) = some e) (hp : p s e = true)
    (hq : q ((s.ampEvent n ((s.ampCh n).t + 1) e).ampActed n)) : Answers i s q := by
  obtain ⟨hruns, hstandby, hacted⟩ := h
  refine answers_clocked he hruns hm ?_
  rwa [State.ampCommand_due hstandby hacted hdue hp]

/-! ### What each event leaves -/

/-- A new state that an event gives. -/
theorem State.ampGo_acted (s : State) (n : Nat) {st : Nat} (h : st < 16) (d : Drive) (pse rly : Bool) (part : Nat) :
    let t := (s.ampGo n st d pse rly part).ampActed n
    AmpAt t n st d pse rly ∧ (t.ampCh n).part = part ∧ (t.ampCh n).t = 0 ∧ AmpOthers s t n := by
  have hothers := (AmpOthers.refl s n).ampGo st d pse rly part
  refine ⟨(AmpAt.ampGo s n h d pse rly part).setAmp rfl rfl rfl, ?_, ?_, hothers.setAmp _⟩ <;>
  · rw [State.ampActed, State.ampCh_setAmp_same, State.ampCh_ampGo]
    rfl

/-- RLYT after the relay opened: PSE off, and the state that follows the stop. -/
theorem State.pseOff_acted (s : State) (n k : Nat) : let t := (s.ampEvent n k .pseOff).ampActed n
    ((s.ampCh n).after = .off → AmpAt t n 0 .low false false) ∧
    ((s.ampCh n).after = .latched → AmpAt t n 7 .low false false) ∧
    ((s.ampCh n).after = .locked → AmpAt t n 8 .low false false ∧ Raised t Src.AMP_LOCKOUT) ∧ AmpOthers s t n := by
  cases hafter : (s.ampCh n).after with
  | off =>
    obtain ⟨hat, -, -, hothers⟩ := s.ampGo_acted n (st := 0) (by decide) .low false false 0
    simp only [State.ampEvent, hafter]
    exact ⟨fun _ => hat, nofun, nofun, hothers⟩
  | latched =>
    obtain ⟨hat, -, -, hothers⟩ := s.ampGo_acted n (st := 7) (by decide) .low false false 1
    simp only [State.ampEvent, hafter]
    exact ⟨nofun, fun _ => hat, nofun, hothers⟩
  | locked =>
    simp only [State.ampEvent, hafter]
    refine ⟨nofun, nofun, fun _ => ⟨?_, State.raised_raise _ (by decide)⟩, ?_⟩
    · exact ((AmpAt.ampGo s n (by decide) .low false false 0).raise _).setAmp rfl rfl rfl
    · exact (((AmpOthers.refl s n).ampGo 8 .low false false 0).raise _).setAmp _

/-- The record of a channel whose diagnostic begins. -/
def State.diagRecord (s : State) (n : Nat) : AmpCh :=
  { s.ampCh n with vsum := 0, isum := 0, cnt := 0, senseBad := s.on (Reg.AMP_CH_STATUS.SENSE_LOST n) }

/-- A diagnostic that begins: phase 1 with PSE asserted, its sums and its timer at 0. -/
theorem State.diagEnter_shows (s : State) (n : Nat) : let t := s.diagEnter n
    AmpAt t n 2 .low true false ∧ (t.ampCh n).t = 0 ∧ (t.ampCh n).cnt = 0 ∧ AmpOthers s t n := by
  have hch : (s.diagEnter n).ampCh n = (s.diagRecord n).entering 2 .low true false 0 :=
    (State.ampCh_ampGo (s.setAmp n (s.diagRecord n)) n 2 .low true false 0).trans (by rw [State.ampCh_setAmp_same])
  have hst : (s.diagEnter n).ampSt n = 2 := State.ampSt_ampGo _ n (by decide) .low true false 0
  have hothers : AmpOthers s (s.diagEnter n) n := ((AmpOthers.refl s n).setAmp _).ampGo 2 .low true false 0
  dsimp only
  rw [AmpAt, hch, hst]
  exact ⟨⟨rfl, rfl, rfl, rfl⟩, rfl, rfl, hothers⟩

/-- The end of a phase before the last sets the pins of the next. -/
theorem State.phaseEnd_acted {k : Nat} (h : k < s.msTicks 60) : let t := (s.ampEvent n k .phaseEnd).ampActed n
    (t.ampCh n).t = k ∧ t.ampSt n = s.ampSt n ∧ (t.ampCh n).pse = true ∧
      (t.ampCh n).rly = decide (3 ≤ s.diagPhase k) ∧ AmpOthers s t n := by
  simp only [State.ampEvent, if_neg (Nat.not_le.mpr h), State.diagPins, State.ampActed, State.ampCh_setAmp_same,
    State.ampSt_setAmp, true_and]
  exact (((AmpOthers.refl s n).setAmp _).setAmp _).setAmp _

/-- A latched channel's relay opens, where the latch-off was not stopped. -/
theorem State.latchRelay_acted {k : Nat} (h : (s.ampCh n).after ≠ .off) :
    let t := (s.ampEvent n k .latchRelay).ampActed n
    (t.ampCh n).rly = false ∧ (t.ampCh n).part = 1 ∧ t.ampSt n = s.ampSt n ∧ AmpOthers s t n := by
  simp only [State.ampEvent, if_neg h, State.ampActed, State.ampCh_setAmp_same, State.ampSt_setAmp, true_and]
  exact ((AmpOthers.refl s n).setAmp _).setAmp _

/-- A retry waits for its diagnostic. -/
theorem State.retry_acted (s : State) (n k : Nat) : let t := (s.ampEvent n k .retry).ampActed n
    AmpAt t n 1 .low false false ∧ (t.ampCh n).retry = true ∧ AmpOthers s t n := by
  refine ⟨(AmpAt.ampGo _ n (by decide) .low false false 0).setAmp rfl rfl rfl, ?_,
    (((AmpOthers.refl s n).setAmp _).ampGo _ _ _ _ _).setAmp _⟩
  simp only [State.ampEvent, State.ampActed, State.ampCh_setAmp_same, State.ampCh_ampGo]
  rfl

/-- Ten seconds of RUN clear RETRIES. -/
theorem State.retryReset_acted (s : State) (n k : Nat) : let t := (s.ampEvent n k .retryReset).ampActed n
    t.rd (Reg.AMP_CH_STATUS.RETRIES n) = 0 ∧ t.ampSt n = s.ampSt n ∧ AmpOthers s t n := by
  refine ⟨State.rd_wr_same _ _ 0, ?_, (((AmpOthers.refl s n).setAmp _).wr (by simp) 0).setAmp _⟩
  rw [State.ampActed, State.ampSt_setAmp]
  exact State.ampSt_wr (by simp) 0 n

/-- Settles O44: each command performs the event that is due in the step of its channel's state. -/
theorem amplifierSequencing : Obligations.AmplifierSequencing := by
  unfold Obligations.AmplifierSequencing
  intro n s h
  dsimp only
  refine ⟨fun hst hpart ht => ?_, fun hst hpart ht => ?_, fun hst ht => ?_, fun hst hpart ht => ?_,
    fun hst hpart ht => ?_, fun hplace hnext => ?_, fun hst hphase ht => ?_, fun hst hpart ht hafter => ?_,
    fun hst hpart ht hretry => ?_, fun hst hpart ht => ?_⟩
  · refine answers_ampEvent (e := .relayClose) h rfl rfl ?_ (by rfl) (s.ampGo_acted n (by decide) .idle true true 1)
    simp only [State.ampDue, hst, hpart, if_pos ht, if_true]
  · obtain ⟨hat, -, -, hothers⟩ := s.ampGo_acted n (st := 4) (by decide) .modulated true true 0
    refine answers_ampEvent (e := .unmute) h rfl rfl ?_ (by rfl) ⟨hat, hothers⟩
    simp only [State.ampDue, hst, hpart, one_ne_zero, if_pos ht, if_false]
  · obtain ⟨hat, -, -, hothers⟩ := s.ampGo_acted n (st := 5) (by decide) .modulated true true 0
    refine answers_ampEvent (e := .run) h rfl rfl ?_ (by rfl) ⟨hat, hothers⟩
    simp only [State.ampDue, hst, if_pos ht]
  · obtain ⟨hat, hopen, -, hothers⟩ := s.ampGo_acted n (st := 6) (by decide) .idle true false 1
    refine answers_ampEvent (e := .relayOpen) h rfl rfl ?_ (by rfl) ⟨hat, hopen, hothers⟩
    simp only [State.ampDue, hst, hpart, if_pos ht, if_true]
  · refine answers_ampEvent (e := .pseOff) h rfl rfl ?_ (by rfl) (s.pseOff_acted n _)
    simp only [State.ampDue, hst, hpart, one_ne_zero, if_pos ht, if_false]
  · obtain ⟨hruns, hstandby, -⟩ := h
    refine answers_clocked rfl hruns rfl ?_
    rw [if_pos (by simp [hplace, hnext, hstandby])]
    exact s.diagEnter_shows n
  · obtain ⟨htimer, hstay, hpins⟩ := State.phaseEnd_acted (n := n) ht
    refine answers_ampEvent (e := .phaseEnd) h rfl rfl ?_ (by rfl) ⟨htimer, hstay.trans hst, hpins⟩
    simp only [State.ampDue, hst, Nat.add_sub_cancel, if_pos (Or.inl hphase)]
  · obtain ⟨hrly, hmoved, hstay, hothers⟩ := State.latchRelay_acted (k := (s.ampCh n).t + 1) hafter
    refine answers_ampEvent (e := .latchRelay) h rfl rfl ?_ (by rfl) ⟨hrly, hmoved, hstay.trans hst, hothers⟩
    simp only [State.ampDue, hst, hpart, if_pos ht, if_true]
  · refine answers_ampEvent (e := .retry) h rfl rfl ?_ (by rfl) (s.retry_acted n _)
    simp only [State.ampDue, hst, hpart, one_ne_zero, if_pos (And.intro ht hretry), if_false]
  · obtain ⟨hclear, hstay, hothers⟩ := s.retryReset_acted n ((s.ampCh n).t + 1)
    refine answers_ampEvent (e := .retryReset) h rfl rfl ?_ (by rfl) ⟨hclear, hstay.trans hst, hothers⟩
    simp only [State.ampDue, hst, if_pos (And.intro ht hpart)]

end Sys2Proof.Machine
end

section
/-! SUPPORT. Overcurrent and the loss of sense of a drive channel (11 R231-R245), and the statement settled. -/

namespace Sys2Proof.Machine

open Sys2Proof.Claims

variable {s : State} {n : Nat}

/-! ### A carrier period with a filtered assertion (R240, R241) -/

/-- The run of periods with overcurrent that ends in a period. -/
def State.ocRunAt (s : State) (n now : Nat) : Nat :=
  if (s.ampCh n).lastOc = some (now - 1) ∧ 0 < now then (s.ampCh n).ocRun + 1 else 1

/-- The record of a channel whose period `now` counts, its legs low in it from an RCLK cycle. -/
def State.ocRecord (s : State) (n now cycle : Nat) : AmpCh :=
  { s.ampCh n with lastOc := some now, ocRun := s.ocRunAt n now, lowIn := some (now, cycle) }

/-- The period counts. -/
def State.ocCounted (s : State) (n now cycle : Nat) : State :=
  (s.setAmp n (s.ocRecord n now cycle)).bump (Reg.AMP_CH_CNT.OCPER n) 1

@[simp] theorem State.ampCh_ocCounted (s : State) (n now cycle : Nat) :
    (s.ocCounted n now cycle).ampCh n = s.ocRecord n now cycle := s.ampCh_setAmp_same n _

/-- Counting leaves every field but OCPER. -/
theorem State.rd_ocCounted (s : State) (n now cycle : Nat) {q : FieldRef} (hq : q.place ≠ 896) :
    (s.ocCounted n now cycle).rd q = s.rd q :=
  State.rd_wr_elsewhere (by simpa using hq) _

@[simp] theorem State.ampSt_ocCounted (s : State) (n now cycle : Nat) : (s.ocCounted n now cycle).ampSt n = s.ampSt n :=
  s.rd_ocCounted n now cycle (by simp)

theorem State.ocCounted_ocper (s : State) (n now cycle : Nat) : (s.ocCounted n now cycle).rd (Reg.AMP_CH_CNT.OCPER n) =
    min (s.rd (Reg.AMP_CH_CNT.OCPER n) + 1) (2 ^ (Reg.AMP_CH_CNT.OCPER n).width - 1) :=
  State.rd_bump_same _ _ 1

theorem State.ocCounted_others (s : State) (n now cycle : Nat) : AmpOthers s (s.ocCounted n now cycle) n :=
  ((AmpOthers.refl s n).setAmp _).wr (by simp) _

/-- The phases of a diagnostic depend on the tick rate alone. -/
theorem State.diagPhase_congr {u : State} (h : u.rate = s.rate) (t : Nat) : u.diagPhase t = s.diagPhase t := by
  unfold State.diagPhase State.msTicks
  rw [h]

theorem State.diagPhase_ocCounted (s : State) (n now cycle t : Nat) :
    (s.ocCounted n now cycle).diagPhase t = s.diagPhase t := by
  have hmult : (s.ocCounted n now cycle).mult = s.mult := s.rd_ocCounted n now cycle (by decide)
  refine State.diagPhase_congr ?_ t
  rw [State.rate, State.rate, hmult, s.rd_ocCounted n now cycle (by decide)]

/-- What follows a counted carrier period `k` of the tick, by the run that it ends and the diagnostic's timer. -/
def State.ocReact (u : State) (n k periods run t : Nat) : State :=
  if u.isStandby then u
  else match (if u.ampSt n = 2 then diagOcResult (u.diagPhase t) else none) with
    | some r => u.diagEnd n r
    | none => if 16 ≤ run then u.ampLatchNext n k periods else u

/-- A period that has not counted yet counts, and is reacted to. -/
theorem State.ocPeriod_new {k cycle periods : Nat} (h : (s.ampCh n).lastOc ≠ some (s.tick * periods + k)) :
    s.ocPeriod n k cycle periods = (s.ocCounted n (s.tick * periods + k) cycle).ocReact n k periods
      (s.ocRunAt n (s.tick * periods + k)) (s.ampCh n).t := by
  rw [State.ocPeriod, if_neg h]
  rfl

/-- Out of DIAG the sixteenth period in a row latches the channel off, but on a standby. -/
theorem State.ocReact_runs (hst : s.ampSt n ≠ 2) (k periods run t : Nat) : s.ocReact n k periods run t =
    if 16 ≤ run ∧ s.isStandby = false then s.ampLatchNext n k periods else s := by
  cases hstandby : s.isStandby <;> simp [State.ocReact, hst, hstandby]

/-- In DIAG the phase fails, but on a standby. -/
theorem State.ocReact_fails {r t : Nat} (hst : s.ampSt n = 2) (hgoverns : s.isStandby = false)
    (hr : diagOcResult (s.diagPhase t) = some r) (k periods run : Nat) : s.ocReact n k periods run t = s.diagEnd n r := by
  simp only [State.ocReact, hst, hgoverns, hr, Bool.false_eq_true, if_false, if_true]

/-- A latch-off at a carrier boundary in the tick. -/
theorem State.ampLatchNext_now {k periods : Nat} (h : k + 1 < periods) : let t := s.ampLatchNext n k periods
    AmpAt t n 7 .low false (s.ampCh n).rly ∧ t.on (Reg.AMP_CH_STATUS.LATCH_EV n) = true ∧ Raised t Src.AMP_LATCH ∧
      AmpOthers s t n ∧ t.rd (Reg.AMP_CH_CNT.OCPER n) = s.rd (Reg.AMP_CH_CNT.OCPER n) := by
  obtain ⟨hat, hshown, hraised⟩ := s.ampLatch_shows n
  have hothers := (AmpOthers.refl s n).ampLatch
  have hocper := s.rd_ampLatch_ocper n
  dsimp only
  rw [State.ampLatchNext, if_pos h]
  generalize s.ampLatch n = u at hat hshown hraised hothers hocper ⊢
  exact ⟨hat.setAmp rfl rfl rfl, hshown, hraised, hothers.setAmp _, hocper⟩

/-- A latch-off whose carrier boundary is the tick's waits for it. -/
theorem State.ampLatchNext_waits {k periods : Nat} (h : periods ≤ k + 1) :
    s.ampLatchNext n k periods = s.setAmp n { s.ampCh n with latchDue := true } :=
  if_neg (Nat.not_lt.mpr h)

/-- A new period outside DIAG: it counts, and the sixteenth in a row latches the channel off. -/
theorem State.ocPeriod_shows {k cycle periods : Nat} (h : (s.ampCh n).lastOc ≠ some (s.tick * periods + k))
    (hst : s.ampSt n ≠ 2) :
    let x := s.ampCh n
    let now := s.tick * periods + k
    let run := s.ocRunAt n now
    let t := s.ocPeriod n k cycle periods
    t.rd (Reg.AMP_CH_CNT.OCPER n) = min (s.rd (Reg.AMP_CH_CNT.OCPER n) + 1) (2 ^ (Reg.AMP_CH_CNT.OCPER n).width - 1) ∧
    ((run < 16 ∨ s.isStandby = true) →
      t.ampCh n = { x with lastOc := some now, ocRun := run, lowIn := some (now, cycle) } ∧ t.ampSt n = s.ampSt n) ∧
    (16 ≤ run → s.isStandby = false → k + 1 < periods → AmpAt t n 7 .low false x.rly ∧
      t.on (Reg.AMP_CH_STATUS.LATCH_EV n) = true ∧ Raised t Src.AMP_LATCH) ∧
    (16 ≤ run → s.isStandby = false → periods ≤ k + 1 → t.ampSt n = s.ampSt n ∧
      t.ampCh n = { x with lastOc := some now, ocRun := run, lowIn := some (now, cycle), latchDue := true }) ∧
    AmpOthers s t n := by
  intro x now run t
  have hcount := s.ocCounted_ocper n now cycle
  have hothers := s.ocCounted_others n now cycle
  have hsame := s.ampSt_ocCounted n now cycle
  have hstandby : (s.ocCounted n now cycle).isStandby = s.isStandby :=
    State.isStandby_congr (s.rd_ocCounted n now cycle (by decide))
  have ht : t = if 16 ≤ run ∧ s.isStandby = false then (s.ocCounted n now cycle).ampLatchNext n k periods
      else s.ocCounted n now cycle := by
    rw [← hstandby]
    exact (State.ocPeriod_new h).trans (State.ocReact_runs (hsame.trans_ne hst) k periods run _)
  rw [ht]
  split
  · next hlatch =>
    obtain ⟨hrun, hgoverns⟩ := hlatch
    have hno : ¬ (run < 16 ∨ s.isStandby = true) := by simp [hgoverns, hrun]
    rcases Nat.lt_or_ge (k + 1) periods with hin | hend
    · obtain ⟨hat, hshown, hraised, hrest, hocper⟩ :=
        State.ampLatchNext_now (s := s.ocCounted n now cycle) (n := n) hin
      rw [State.ampCh_ocCounted] at hat
      exact ⟨hocper.trans hcount, fun h => absurd h hno, fun _ _ _ => ⟨hat, hshown, hraised⟩,
        fun _ _ h => absurd hin (Nat.not_lt.mpr h), hothers.trans hrest⟩
    · rw [State.ampLatchNext_waits hend, State.ampCh_ocCounted]
      exact ⟨hcount, fun h => absurd h hno, fun _ _ h => absurd h (Nat.not_lt.mpr hend),
        fun _ _ _ => ⟨hsame, State.ampCh_setAmp_same _ n _⟩, hothers.setAmp _⟩
  · next hlatch =>
    rw [State.ampCh_ocCounted]
    exact ⟨hcount, fun _ => ⟨rfl, hsame⟩, fun hrun hgoverns => absurd ⟨hrun, hgoverns⟩ hlatch,
      fun hrun hgoverns => absurd ⟨hrun, hgoverns⟩ hlatch, hothers⟩

/-! ### Overcurrent in a diagnostic (R239) -/

theorem State.diagPhase_range (s : State) (t : Nat) : 1 ≤ s.diagPhase t ∧ s.diagPhase t ≤ 7 := by
  unfold State.diagPhase
  split_ifs <;> decide

/-- A phase other than 5 and 7 fails on overcurrent. -/
theorem diagOcResult_phase {p : Nat} (hp : 1 ≤ p ∧ p ≤ 7) (h5 : p ≠ 5) (h7 : p ≠ 7) :
    diagOcResult p = some (if p = 1 then 2 else if p = 2 then 3 else 4) := by
  obtain rfl | rfl | rfl | rfl | rfl : p = 1 ∨ p = 2 ∨ p = 3 ∨ p = 4 ∨ p = 6 := by omega
  all_goals rfl

/-- A diagnostic that was no retry ends with a failure. -/
theorem State.diagEnd_fails {r : Nat} (h1 : r ≠ 1) (hr : r < 8) (hretry : (s.ampCh n).retry = false) :
    let t := s.diagEnd n r
    t.rd (Reg.AMP_CH_STATUS.DIAG_RES n) = r ∧ AmpAt t n 6 .idle true false ∧ Raised t Src.AMP_DIAG ∧
      AmpOthers s t n := by
  have hend : s.diagEnd n r = (((s.wr (Reg.AMP_CH_STATUS.DIAG_RES n) r).put (Reg.AMP_CH_CTRL.RUNDIAG n) false).raise
      Src.AMP_DIAG).stopPath n .off := by
    simp only [State.diagEnd, if_neg h1, hretry, Bool.false_eq_true, if_false]
  dsimp only
  rw [hend]
  refine ⟨?_, (State.stopPath_shows _ n .off).1, State.raised_raise _ (by decide),
    ((((AmpOthers.refl s n).wr (by simp) r).wr (by simp) _).raise _).stopPath .off⟩
  have hres := State.rd_wr_elsewhere (s := s.wr (Reg.AMP_CH_STATUS.DIAG_RES n) r) (q := Reg.AMP_CH_STATUS.DIAG_RES n)
    (f := Reg.AMP_CH_CTRL.RUNDIAG n) (by simp) false.toNat
  exact (State.rd_ampGo (by simp) (by simp) 6 .idle true false 1).trans ((State.raise_rd _ _ _).trans
    (State.rd_eq_of_wr hres hr))

/-- A new period in a phase that fails on overcurrent ends the diagnostic with that failure. -/
theorem State.ocPeriod_fails {k cycle periods : Nat} (h : (s.ampCh n).lastOc ≠ some (s.tick * periods + k))
    (h2 : s.ampSt n = 2) (hgoverns : s.isStandby = false) (hretry : (s.ampCh n).retry = false)
    (h5 : s.diagPhase (s.ampCh n).t ≠ 5) (h7 : s.diagPhase (s.ampCh n).t ≠ 7) :
    let t := s.ocPeriod n k cycle periods
    t.rd (Reg.AMP_CH_STATUS.DIAG_RES n) =
      (if s.diagPhase (s.ampCh n).t = 1 then 2 else if s.diagPhase (s.ampCh n).t = 2 then 3 else 4) ∧
    AmpAt t n 6 .idle true false ∧ Raised t Src.AMP_DIAG ∧ AmpOthers s t n := by
  let u := s.ocCounted n (s.tick * periods + k) cycle
  have hphase : u.diagPhase (s.ampCh n).t = s.diagPhase (s.ampCh n).t := s.diagPhase_ocCounted n _ cycle _
  have hstandby : u.isStandby = false := (State.isStandby_congr (s.rd_ocCounted n _ cycle (by decide))).trans hgoverns
  have hres := diagOcResult_phase (s.diagPhase_range (s.ampCh n).t) h5 h7
  generalize hr : (if s.diagPhase (s.ampCh n).t = 1 then 2 else _) = r at hres ⊢
  have hrange : r ≠ 1 ∧ r < 8 := by rw [← hr]; split_ifs <;> decide
  dsimp only
  rw [State.ocPeriod_new h, State.ocReact_fails ((s.ampSt_ocCounted n _ cycle).trans h2) hstandby (hphase ▸ hres)]
  obtain ⟨hshown, hat, hraised, hothers⟩ := State.diagEnd_fails (s := u) hrange.1 hrange.2
    ((congrArg AmpCh.retry (s.ampCh_ocCounted n _ cycle)).trans hretry)
  exact ⟨hshown, hat, hraised, (s.ocCounted_others n _ cycle).trans hothers⟩

/-! ### OC_ASSERT -/

/-- An assertion while the clocks run acts in the carrier period in which it is filtered. -/
theorem State.overcurrent_clocked (h2 : 2 ≤ s.ampSt n) (h6 : s.ampSt n ≤ 6) (hclock : s.rclk = true) (k c : Nat) :
    let filt := c + 2 + s.rd Reg.AMP_CTRL.OCFILT
    s.overcurrent n k c = s.ocPeriod n (k + filt / 3200) (filt % 3200 + 2) (eclkPerTick s.mult / 1600) := by
  simp only [State.overcurrent, if_pos (And.intro h2 h6), hclock, Bool.not_true, Bool.false_eq_true, if_false]

/-- An assertion with the clocks stopped latches the channel off, but on a standby. -/
theorem State.overcurrent_stopped (h2 : 2 ≤ s.ampSt n) (h6 : s.ampSt n ≤ 6) (hclock : s.rclk = false) (k c : Nat) :
    s.overcurrent n k c = if s.isStandby then s else s.ampLatch n := by
  simp only [State.overcurrent, if_pos (And.intro h2 h6), hclock, Bool.not_false, if_true]

/-- An assertion out of the states that watch it changes nothing. -/
theorem State.overcurrent_ignored (h : s.ampSt n < 2 ∨ 6 < s.ampSt n) (k c : Nat) : s.overcurrent n k c = s :=
  if_neg (by omega)

/-! ### SENSE_LOST (R233) -/

/-- A bitstream starts to count its bits anew. -/
def senseRestart (c : Nat) (m : SMap SenseBits) : SMap SenseBits := sset {} c { sget {} c m with good := 0 } m

/-- A channel whose bitstreams count anew, the loss noted for its diagnostic. -/
def State.senseDrop (s : State) (n : Nat) : State :=
  (s.setAmp n { s.ampCh n with senseBad := true }).onAmp fun r =>
    { r with sense := senseRestart n (senseRestart (32 + n) r.sense) }

theorem State.senseLost_eq (h : s.on (Reg.AMP_CH_STATUS.SENSE_LOST n) = false) :
    s.senseLost n = ((s.senseDrop n).put (Reg.AMP_CH_STATUS.SENSE_LOST n) true).raise Src.AMP_SENSE :=
  if_neg (ne_true_of_eq_false h)

/-- The loss of a bitstream that was not lost yet. -/
theorem State.senseLost_shows (h : s.on (Reg.AMP_CH_STATUS.SENSE_LOST n) = false) : let t := s.senseLost n
    t.on (Reg.AMP_CH_STATUS.SENSE_LOST n) = true ∧ Raised t Src.AMP_SENSE ∧ (t.ampCh n).senseBad = true ∧
      t.ampSt n = s.ampSt n ∧ t.senseBack n = false ∧ AmpOthers s t n := by
  have hbad : ((s.senseDrop n).ampCh n).senseBad = true := congrArg AmpCh.senseBad (s.ampCh_setAmp_same n _)
  have hgood : (sget {} n (s.senseDrop n).amp.sense).good = 0 := congrArg SenseBits.good (sget_sset_same {} n _ _)
  have hothers : AmpOthers s (s.senseDrop n) n := (AmpOthers.refl s n).setAmp { s.ampCh n with senseBad := true }
  dsimp only
  rw [State.senseLost_eq h]
  refine ⟨?_, State.raised_raise _ (by decide), ?_, ?_, ?_, (hothers.wr (by simp) _).raise _⟩
  · rw [State.raise_on, State.on_put_same _ _ _ (Nat.le_refl 1)]
  · rw [State.ampCh_raise, State.ampCh_put, hbad]
  · exact (State.ampSt_raise _ _ n).trans (State.ampSt_wr (by simp) _ n)
  · simp only [State.senseBack, State.raise_amp, State.put_amp, hgood]
    rfl

/-- Settles O45: an assertion by the channel's state and the clocks, the loss of sense by the bit that shows it. -/
theorem amplifierProtection : Obligations.AmplifierProtection := by
  unfold Obligations.AmplifierProtection
  intro n k cycle s hheld _ x filt j per now run low
  have hoc {p : State → Prop} (hp : p (s.overcurrent n k.val cycle.toNat)) : Answers (.ocAssert n ⟨k, cycle⟩) s p :=
    answers_core (f := fun s => s.overcurrent n.val k.val cycle.toNat) rfl hheld hp
  refine ⟨fun h3 h6 hclock hnew => hoc ?_, fun h2 hclock hnew hgoverns hretry h5 h7 => hoc ?_,
    fun h2 h6 hclock hgoverns => hoc ?_, fun hclock hstandby => hoc ?_, fun h2 h6 hclock hseen => hoc ?_,
    fun hst => hoc (State.overcurrent_ignored hst _ _), fun hclock hon => ?_, fun hclock hon => ?_, fun hclock hback => ?_,
    fun hclock hback => ?_, fun i => rfl⟩
  · rw [State.overcurrent_clocked (by omega) h6 hclock]
    exact State.ocPeriod_shows hnew (by omega)
  · rw [State.overcurrent_clocked (by omega) (by omega) hclock]
    exact State.ocPeriod_fails hnew h2 hgoverns hretry h5 h7
  · rw [State.overcurrent_stopped h2 h6 hclock, hgoverns]
    obtain ⟨hat, hshown, hraised⟩ := s.ampLatch_shows n
    exact ⟨hat, hshown, hraised, (AmpOthers.refl s n).ampLatch⟩
  · by_cases hst : 2 ≤ s.ampSt n ∧ s.ampSt n ≤ 6
    · rw [State.overcurrent_stopped hst.1 hst.2 hclock, hstandby, if_pos rfl]
    · exact if_neg hst
  · rw [State.overcurrent_clocked h2 h6 hclock]
    exact if_pos hseen
  · exact answers_clocked rfl ⟨hheld, hclock⟩ rfl (State.senseLost_shows hon)
  · exact answers_clocked rfl ⟨hheld, hclock⟩ rfl (if_pos hon)
  · refine answers_clocked rfl ⟨hheld, hclock⟩ rfl ?_
    rw [if_pos hback]
    exact ⟨State.on_put_same _ _ _ (Nat.le_refl 1), rfl⟩
  · exact answers_clocked rfl ⟨hheld, hclock⟩ rfl (if_neg (ne_true_of_eq_false hback))

end Sys2Proof.Machine
end

section
/-! SUPPORT. Bytes, frames and words put into memory: where they lie and what they leave (12 R258). -/

namespace Sys2Proof.Machine

variable {s t u : State}

/-- Two states that differ in the bytes from `lo` up to `hi` and in the free values taken alone. -/
structure StoredWithin (s t : State) (lo hi : Nat) : Prop where
  rest : t = { s with mem := t.mem, free := t.free }
  out : ∀ c, (c < lo ∨ hi ≤ c) → t.byte c = s.byte c

namespace StoredWithin

variable {lo hi lo' hi' : Nat}

theorem trans (h : StoredWithin s t lo hi) (g : StoredWithin t u lo hi) : StoredWithin s u lo hi where
  rest := Eq.trans g.rest (congrArg (fun x : State => { x with mem := u.mem, free := u.free }) h.rest)
  out c hc := (g.out c hc).trans (h.out c hc)

/-- A wider range says less. -/
theorem widen (h : StoredWithin s t lo hi) (hlo : lo' ≤ lo) (hhi : hi ≤ hi') : StoredWithin s t lo' hi' where
  rest := h.rest
  out c hc := h.out c (by omega)

theorem store (s : State) (a n v : Nat) : StoredWithin s (s.store a n v) a (a + n) where
  rest := by rw [s.store_eq]
  out c hc := s.byte_store_out n a v c hc

theorem storeBytes (l : List Byte) : ∀ (s : State) (a : Nat), StoredWithin s (s.storeBytes a l) a (a + l.length) := by
  induction l with
  | nil => exact fun s a => ⟨rfl, fun c _ => rfl⟩
  | cons b l ih =>
    intro s a
    have hset : StoredWithin s (s.setByte a b) a (a + 1) := ⟨rfl, fun c hc => s.byte_setByte_ne (by omega) b⟩
    rw [List.length_cons]
    exact (hset.widen (Nat.le_refl a) (by omega)).trans ((ih _ (a + 1)).widen (by omega) (by omega))

theorem storeWordsAt (l : List Word) : ∀ (s : State) (a : Nat),
    StoredWithin s (s.storeWordsAt a l) a (a + 4 * l.length) := by
  induction l with
  | nil => exact fun s a => ⟨rfl, fun c _ => rfl⟩
  | cons w l ih =>
    intro s a
    rw [List.length_cons]
    exact ((store s a 4 w.toNat).widen (Nat.le_refl a) (by omega)).trans ((ih _ (a + 4)).widen (by omega) (by omega))

theorem freeWords (s : State) : StoredWithin s s.freeWords.2 lo hi := ⟨rfl, fun _ _ => rfl⟩

theorem regs (h : StoredWithin s t lo hi) : t.regs = s.regs := (congrArg State.regs h.rest :)
theorem net (h : StoredWithin s t lo hi) : t.net = s.net := (congrArg State.net h.rest :)

/-- A number read beside what was stored. -/
theorem load (h : StoredWithin s t lo hi) (n : Nat) : ∀ {a : Nat}, (a + n ≤ lo ∨ hi ≤ a) →
    t.load a n = s.load a n := by
  induction n with
  | zero => exact fun _ => rfl
  | succ n ih =>
    intro a ha
    rw [State.load, State.load, h.out a (by omega), ih (by omega)]

end StoredWithin

/-- A byte of a list that was stored. -/
theorem State.byte_storeBytes (l : List Byte) : ∀ (s : State) (a j : Nat) (h : j < l.length),
    (s.storeBytes a l).byte (a + j) = l[j] := by
  induction l with
  | nil => exact fun _ _ j h => absurd h (Nat.not_lt_zero j)
  | cons b l ih =>
    intro s a j h
    rw [State.storeBytes]
    cases j with
    | zero => rw [(StoredWithin.storeBytes l _ _).out _ (by omega)]; exact s.byte_setByte_same a b
    | succ j => rw [List.getElem_cons_succ, Nat.add_comm j 1, ← Nat.add_assoc]; exact ih _ _ j (by simpa using h)

/-- Bytes read see memory alone. -/
theorem State.loadBytes_congr (h : t.mem = s.mem) (n : Nat) : ∀ a, t.loadBytes a n = s.loadBytes a n := by
  induction n with
  | zero => exact fun _ => rfl
  | succ n ih => intro a; simp only [State.loadBytes, State.byte, h, ih]

end Sys2Proof.Machine
end

section
/-! SUPPORT. The MACs' receivers: what they read of a state, and a frame's cases (12 R250-R258). -/

namespace Sys2Proof.Machine

open Sys2Proof.Claims

variable {s t u : State}

/-! ### What is read of a state -/

/-- Two states that differ in SC and in the field WOKE alone. -/
structure WokeOnly (s t : State) : Prop where
  rest : t = { s with regs := t.regs, time := t.time }
  fields : ∀ q : FieldRef, (q.lo % 32 == 3) = false → t.rd q = s.rd q

/-- A field at another bit than WOKE's is another field. -/
theorem key_ne_woke {q : FieldRef} (h : (q.lo % 32 == 3) = false) : q.key ≠ Reg.MAC_WAKE.WOKE.key := by
  have hlo : q.lo % 32 ≠ 3 := ne_of_beq_false h
  simp only [FieldRef.key, Reg.MAC_WAKE.WOKE]
  omega

/-- SC runs in the time bases alone. -/
theorem State.runSc_eq (s : State) (sc : Nat) : ∃ x, s.runSc sc = { s with time := x } := ⟨_, rfl⟩

/-- The state in which a MAC meets a frame: SC has run, and WOKE tells of this frame alone. -/
def State.listening (s : State) (sc : Nat) : State := (s.runSc sc).put Reg.MAC_WAKE.WOKE false

theorem State.listening_wokeOnly (s : State) (sc : Nat) : WokeOnly s (s.listening sc) := by
  obtain ⟨x, hx⟩ := s.runSc_eq sc
  rw [State.listening, hx]
  exact ⟨rfl, fun q h => State.rd_put_ne _ (key_ne_woke h) false⟩

namespace WokeOnly

variable (h : WokeOnly s t) {i : Nat} {l : List Byte}
include h

theorem mem : t.mem = s.mem := (congrArg State.mem h.rest :)
theorem net : t.net = s.net := (congrArg State.net h.rest :)

theorem on {q : FieldRef} (hq : (q.lo % 32 == 3) = false) : t.on q = s.on q := State.on_congr (h.fields q hq)

theorem load (n a : Nat) : t.load a n = s.load a n := State.load_congr h.mem n a

theorem dormant : t.dormant = s.dormant := by
  rw [State.dormant, h.fields Reg.CHIP_STATE.STATE rfl, State.dormant]

theorem wakeMac : t.wakeMac i = s.wakeMac i := by
  have hwake (k : Nat) := h.on (q := Reg.MAC_WP_CTRL.WAKE k) rfl
  have hports (k : Nat) := h.fields (Reg.MAC_WP_CTRL.PORTS k) rfl
  simp only [State.wakeMac, hwake, hports]

theorem framePattern : t.framePattern i l = s.framePattern i l := by
  have hports (k : Nat) := h.fields (Reg.MAC_WP_CTRL.PORTS k) rfl
  have hcrc (k : Nat) := h.fields (Reg.MAC_WP_CTRL.CRC k) rfl
  have hmask (k w : Nat) := h.fields (Reg.MAC_WP_MASK.MASK k w) rfl
  simp only [State.framePattern, State.wakeMatch, State.wakeBytes, hports, hcrc, hmask] <;> rfl

theorem wakePattern : t.wakePattern i l = s.wakePattern i l := by
  have hwake (k : Nat) := h.on (q := Reg.MAC_WP_CTRL.WAKE k) rfl
  simp only [State.wakePattern, h.framePattern, hwake]

theorem classPattern : t.classPattern i l = s.classPattern i l := by
  have hclass (k : Nat) := h.on (q := Reg.MAC_WP_CTRL.CLASS k) rfl
  simp only [State.classPattern, h.framePattern, hclass]

theorem accepts : t.accepts i l = s.accepts i l := by
  simp only [State.accepts, State.station, State.validStreams, State.descWord, h.net,
    h.fields (Reg.MAC_ADDR_LO.ADDR i) rfl, h.fields (Reg.MAC_ADDR_HI.ADDR i) rfl,
    h.on (q := Reg.MAC_CTRL.MCALL i) rfl] <;> rfl

/-- Whether a frame is an errorless one for a control queue. -/
theorem plainControl (hl : PlainControl s i l) : PlainControl t i l := by
  unfold PlainControl at hl ⊢
  rwa [h.on (q := Reg.MAC_CTRL.EN i) rfl, h.fields (Reg.MAC_MAXLEN.MAXLEN i) rfl, h.accepts, h.wakePattern,
    h.classPattern, h.dormant, h.on (q := Reg.MAC_CTRL.CTLVLAN_EN i) rfl]

end WokeOnly

/-- A ring is read from three registers. -/
theorem State.rxRing_congr {q : Nat} (hbase : t.rd (Reg.NET_RXQ_BASE.BASE q) = s.rd (Reg.NET_RXQ_BASE.BASE q))
    (hsize : t.rd (Reg.NET_RXQ_CTRL.SIZE q) = s.rd (Reg.NET_RXQ_CTRL.SIZE q))
    (hhead : t.rd (Reg.NET_RXQ_PTR.HEAD q) = s.rd (Reg.NET_RXQ_PTR.HEAD q))
    (htail : t.rd (Reg.NET_RXQ_PTR.TAIL q) = s.rd (Reg.NET_RXQ_PTR.TAIL q)) : t.rxRing q = s.rxRing q := by
  simp only [State.rxRing, hbase, hsize, hhead, htail]

/-- Whether the device owns a descriptor is read from memory. -/
theorem State.owned_congr (h : t.mem = s.mem) (r : Ring) : t.owned r = s.owned r := by
  simp only [State.owned, State.load_congr h]

/-! ### Counts -/

@[simp] theorem State.macCount_mem (s : State) (i j : Nat) : (s.macCount i j).mem = s.mem := rfl
@[simp] theorem State.macCount_net (s : State) (i j : Nat) : (s.macCount i j).net = s.net := rfl

/-- A count that went up. -/
theorem State.macCount_counted (s : State) (i j : Nat) : Counted s (s.macCount i j) i j := s.rd_bump_same _ 1

/-- Counting leaves the fields of the other blocks. -/
theorem State.rd_macCount_net (s : State) (i : Fin 5) {j : Nat} (hj : j < 13) {q : FieldRef}
    (hq : 0x110000 * 32 ≤ q.key) : (s.macCount i j).rd q = s.rd q := by
  refine s.rd_bump_ne ?_ 1
  simp only [FieldRef.key, Reg.MAC_CNT.COUNT] at hq ⊢
  omega

/-- Counting leaves WOKE. -/
theorem State.rd_macCount_woke (s : State) (i j : Nat) : (s.macCount i j).rd Reg.MAC_WAKE.WOKE = s.rd Reg.MAC_WAKE.WOKE :=
  s.rd_bump_ne (key_ne_woke (q := Reg.MAC_CNT.COUNT i j) rfl).symm 1

/-- Counting leaves the other counts. -/
theorem State.rd_macCount_count (s : State) (i : Nat) {j k : Nat} (h : k ≠ j) :
    (s.macCount i j).rd (Reg.MAC_CNT.COUNT i k) = s.rd (Reg.MAC_CNT.COUNT i k) := by
  refine s.rd_bump_ne ?_ 1
  simp only [FieldRef.key, Reg.MAC_CNT.COUNT]
  omega

/-! ### A frame's cases (R250-R256) -/

variable {i : Fin 5} {l : List Byte} {pcs : Bool} {at' : RxInstant}

/-- A MAC that is not enabled, or that no wake pattern names in the dormant state, receives nothing. -/
theorem State.macReceive_deaf (h : s.on (Reg.MAC_CTRL.EN i) = false ∨ (s.dormant = true ∧ s.wakeMac i = false)) :
    s.macReceive i l pcs at' = s := by
  rw [State.macReceive, if_pos (h.imp_right .inr)]

/-- An enabled MAC that may receive takes up any frame with bytes. -/
theorem not_deaf (hen : s.on (Reg.MAC_CTRL.EN i) = true) (hw : s.dormant = false ∨ s.wakeMac i = true)
    (h1 : 1 ≤ l.length) :
    ¬(s.on (Reg.MAC_CTRL.EN i) = false ∨ l.length = 0 ∨ (s.dormant = true ∧ s.wakeMac i = false)) := by
  rintro (h | h | ⟨hd, hm⟩)
  · simp [hen] at h
  · omega
  · simp [hd, hm] at hw

/-- A frame of at most 13 bytes is counted. -/
theorem State.macReceive_tiny (hen : s.on (Reg.MAC_CTRL.EN i) = true) (hw : s.dormant = false ∨ s.wakeMac i = true)
    (h1 : 1 ≤ l.length) (h13 : l.length ≤ 13) : s.macReceive i l pcs at' = s.macCount i 3 := by
  rw [State.macReceive, if_neg (not_deaf hen hw h1), if_pos h13]

/-- A pause frame is counted. -/
theorem State.macReceive_pause (hen : s.on (Reg.MAC_CTRL.EN i) = true) (hw : s.dormant = false ∨ s.wakeMac i = true)
    (h14 : 14 ≤ l.length) (hp : be l (etherAt l) 2 = 0x8808) : s.macReceive i l pcs at' = s.macCount i 10 := by
  rw [State.macReceive, if_neg (not_deaf hen hw (by omega)), if_neg (by omega)]
  exact if_pos hp

/-- What is stored of an errorless frame besides its bytes. -/
def State.plainInfo (s : State) (i : Nat) (l : List Byte) : RxInfo :=
  { port := i, pattern := ((s.framePattern i l).map (· + 1)).getD 0 }

/-- A frame that is not UDP is not for the standby's watch. -/
theorem State.watchFrame_plain (h : isUdp l = false) : s.watchFrame i l = s := by
  simp [State.watchFrame, h]

/-- An errorless frame for a control queue is counted and delivered to queue 3. -/
theorem State.macReceive_plain (h : PlainControl s i l) :
    s.macReceive i l false at' = (s.macCount i 0).deliverFrame 3 (s.plainInfo i l) l := by
  obtain ⟨hen, h64, hmax, -, hfcs, hpause, hacc, hwake, hclass, hudp, hdorm, hvlan⟩ := h
  have hctl : (Reg.MAC_CTRL.CTLVLAN_EN i).key ≠ (Reg.MAC_CNT.COUNT i 0).key := by
    simp only [FieldRef.key, Reg.MAC_CTRL.CTLVLAN_EN, Reg.MAC_CNT.COUNT]
    omega
  have hvlan' : (s.macCount i 0).vlanStrip i l = some (l, none) :=
    if_neg (ne_true_of_eq_false ((State.on_congr (s.rd_bump_ne hctl 1)).trans hvlan))
  have hqueue : (s.macCount i 0).controlQueue i l = 3 := by simp [State.controlQueue, hudp]
  have hmedia : s.mediaStream i l = none := by simp [State.mediaStream, hudp]
  have hclassed : s.classify i l (s.plainInfo i l) false false at' =
      (s.macCount i 0).deliverFrame 3 (s.plainInfo i l) l := by
    simp only [State.classify, Bool.false_eq_true, if_false, hclass, hmedia, State.classedFrame, hqueue,
      State.controlFrame, hvlan']
    rfl
  have hrunt : decide (l.length < 64) = false := decide_eq_false (by omega)
  have hlong : decide (s.rd (Reg.MAC_MAXLEN.MAXLEN i) < l.length) = false := decide_eq_false (by omega)
  rw [State.macReceive, if_neg (not_deaf hen (.inl hdorm) (by omega)), if_neg (by omega)]
  simp only [hrunt, hlong, hfcs, show ¬ l.length < 18 by omega, hpause, hacc, hwake, hdorm,
    State.watchFrame_plain hudp, if_false, Bool.not_true, Bool.or_false, Bool.false_eq_true, reduceCtorEq]
  exact hclassed

/-! ### Frames delivered to a control queue (R258) -/

/-- A descriptor at `a` is filled in: words 1 to 3, and the words for a stamp. -/
def State.fillDesc (s : State) (a w1 w2 : Nat) : State :=
  let s := ((s.store (a + 4) 4 w1).store (a + 8) 4 w2).store (a + 12) 4 0
  s.freeWords.2.storeWordsAt (a + 16) s.freeWords.1

/-- It changes its 28 bytes from word 1 on. -/
theorem State.fillDesc_within (s : State) (a w1 w2 : Nat) : StoredWithin s (s.fillDesc a w1 w2) (a + 4) (a + 32) := by
  refine ((StoredWithin.store s (a + 4) 4 w1).widen (Nat.le_refl _) (by omega)).trans ?_
  refine ((StoredWithin.store _ (a + 8) 4 w2).widen (by omega) (by omega)).trans ?_
  refine ((StoredWithin.store _ (a + 12) 4 0).widen (by omega) (by omega)).trans ?_
  refine (StoredWithin.freeWords _).trans ?_
  exact (StoredWithin.storeWordsAt _ _ (a + 16)).widen (by omega) (Nat.le_refl _)

/-- Word 1 is read back. -/
theorem State.load_fillDesc (s : State) (a w1 w2 : Nat) : (s.fillDesc a w1 w2).load (a + 4) 4 = w1 % 256 ^ 4 := by
  have hafter : StoredWithin (s.store (a + 4) 4 w1) (s.fillDesc a w1 w2) (a + 8) (a + 32) := by
    refine ((StoredWithin.store _ (a + 8) 4 w2).widen (Nat.le_refl _) (by omega)).trans ?_
    refine ((StoredWithin.store _ (a + 12) 4 0).widen (by omega) (by omega)).trans ?_
    refine (StoredWithin.freeWords _).trans ?_
    exact (StoredWithin.storeWordsAt _ _ (a + 16)).widen (by omega) (Nat.le_refl _)
  rw [hafter.load 4 (.inl (by omega)), State.load_store]

/-- Asking for an interrupt changes HOST_IRQ_PEND alone. -/
theorem State.rd_vector (s : State) (v : Nat) {f : FieldRef} (h : f.key < 0x160010 * 32) : (s.vector v).rd f = s.rd f := by
  refine s.rd_wr_ne ?_ _
  simp only [FieldRef.key, Reg.HOST_IRQ_PEND.PEND] at h ⊢
  omega

/-- The interrupt of a queue whose head has moved, where it is enabled. -/
def State.vectorIf (s : State) (c : Bool) (v : Nat) : State := if c then s.vector v else s

/-- It changes HOST_IRQ_PEND alone. -/
theorem State.vectorIf_keeps (s : State) (c : Bool) (v : Nat) : (s.vectorIf c v).mem = s.mem ∧
    (s.vectorIf c v).net = s.net ∧ ∀ f : FieldRef, f.key < 0x160010 * 32 → (s.vectorIf c v).rd f = s.rd f := by
  cases c
  · exact ⟨rfl, rfl, fun _ _ => rfl⟩
  · exact ⟨rfl, rfl, fun _ hf => s.rd_vector v hf⟩

variable {q : Nat} {x : RxInfo}

/-- A frame without a stamp that finds a descriptor. -/
theorem State.deliverFrame_stores (ho : s.owned (s.rxRing q) = true) (hx : x.stamp = none) :
    ∃ c, s.deliverFrame q x l = (((s.storeBytes (s.load (s.rxRing q).at 4) l).fillDesc (s.rxRing q).at (x.words l.length).1
      (x.words l.length).2).wr (Reg.NET_RXQ_PTR.HEAD q) (s.rxRing q).advance).vectorIf c (2 + q) := by
  rw [State.deliverFrame, if_pos ho]
  simp only [hx]
  exact ⟨_, rfl⟩

/-- A frame that finds no descriptor. -/
theorem State.deliverFrame_drops (ho : s.owned (s.rxRing q) = false) : s.deliverFrame q x l = s.noBuffer x.port :=
  if_neg (ne_true_of_eq_false ho)

/-- What a frame leaves that was stored at `b` by the head descriptor of ring `r`. -/
structure Delivered (s t : State) (q : Nat) (r : Ring) (b : Nat) (x : RxInfo) (l : List Byte) : Prop where
  net : t.net = s.net
  head : t.rd (Reg.NET_RXQ_PTR.HEAD q) = r.advance % 4096
  fields : ∀ f : FieldRef, f.key < 0x110000 * 32 → t.rd f = s.rd f
  word : t.load (r.at + 4) 4 = (x.words l.length).1 % 256 ^ 4
  frame : (b + l.length ≤ r.at ∨ r.at + 32 ≤ b) → ∀ j (h : j < l.length), t.byte (b + j) = l[j]
  others : ∀ a, (a < b ∨ b + l.length ≤ a) → (a < r.at ∨ r.at + 32 ≤ a) → t.byte a = s.byte a

/-- A frame without a stamp is delivered where there is a descriptor. -/
theorem State.deliverFrame_delivered (hq : q < 4) (ho : s.owned (s.rxRing q) = true) (hx : x.stamp = none) :
    Delivered s (s.deliverFrame q x l) q (s.rxRing q) (s.load (s.rxRing q).at 4) x l := by
  obtain ⟨c, heq⟩ := State.deliverFrame_stores (l := l) ho hx
  rw [heq]
  clear heq
  generalize s.load (s.rxRing q).at 4 = b
  generalize s.rxRing q = r
  have hbytes := StoredWithin.storeBytes l s b
  have hdesc := (s.storeBytes b l).fillDesc_within r.at (x.words l.length).1 (x.words l.length).2
  have hword := (s.storeBytes b l).load_fillDesc r.at (x.words l.length).1 (x.words l.length).2
  generalize (s.storeBytes b l).fillDesc r.at (x.words l.length).1 (x.words l.length).2 = u at hdesc hword ⊢
  obtain ⟨hmem, hnet, hrd⟩ := (u.wr (Reg.NET_RXQ_PTR.HEAD q) r.advance).vectorIf_keeps c (2 + q)
  rw [State.wr_mem] at hmem
  rw [State.wr_net] at hnet
  constructor
  case net => exact hnet.trans (hdesc.net.trans hbytes.net)
  case head => exact (hrd _ (by simp only [FieldRef.key, Reg.NET_RXQ_PTR.HEAD]; omega)).trans (State.rd_wr_same _ _ _)
  case fields =>
    intro f hf
    have hne : f.key ≠ (Reg.NET_RXQ_PTR.HEAD q).key := by
      simp only [FieldRef.key, Reg.NET_RXQ_PTR.HEAD] at hf ⊢
      omega
    exact (hrd f (by omega)).trans ((u.rd_wr_ne hne _).trans (State.rd_congr (hdesc.regs.trans hbytes.regs) f))
  case word => exact (State.load_congr hmem 4 _).trans hword
  case frame =>
    intro hapart j hj
    rw [State.byte, hmem]
    exact (hdesc.out _ (by omega)).trans (State.byte_storeBytes l s b j hj)
  case others =>
    intro a ha hd
    rw [State.byte, hmem]
    exact (hdesc.out a (by omega)).trans (hbytes.out a ha)

end Sys2Proof.Machine
end

section
/-! SUPPORT. What MAC_RX_FRAME answers (12 R249-R258). -/

namespace Sys2Proof.Machine

open Sys2Proof.Claims

variable {s u : State} {i : Fin 5} {l : List Byte} {pcs : Bool} {done : BitVec 15} {sfd : SfdPoint} {sc : Nat}

/-- What a frame leaves that leaves WOKE as it found it: beyond WOKE, what its receiver left. -/
theorem answers_macRxFrame {p : State → Prop} (hs : s.held = false)
    (hu : ∀ at', (s.listening sc).macReceive i l pcs at' = u)
    (hwoke : u.rd Reg.MAC_WAKE.WOKE = (s.listening sc).rd Reg.MAC_WAKE.WOKE)
    (hp : ∀ t : State, t.mem = u.mem → t.net = u.net → t.flt = u.flt →
      (∀ q : FieldRef, (q.lo % 32 == 3) = false → t.rd q = u.rd q) → p t) :
    Answers (.macRxFrame i l pcs done sfd sc) s p := by
  have hoff : u.on Reg.MAC_WAKE.WOKE = false := (State.on_congr hwoke).trans (State.on_put_same _ _ _ (Nat.le_refl 1))
  refine answers_core (f := fun s => (s.runSc sc).macArrive i.val l pcs
    ⟨done.toNat, sfd.back, sfd.eclk.toNat, sfd.sixteenth.toNat, sfd.sc⟩) rfl hs ?_
  rw [State.macArrive, ← State.listening, hu, if_neg (ne_true_of_eq_false hoff)]
  exact hp _ (State.put_mem _ _ _) (State.put_net _ _ _) (State.put_flt _ _ _)
    fun q hq => State.rd_put_ne _ (key_ne_woke hq) _

/-- A frame that is not received leaves memory, the network and the counts. -/
theorem macRxFrame_ignored (hs : s.held = false)
    (h : s.on (Reg.MAC_CTRL.EN i) = false ∨ (s.dormant = true ∧ s.wakeMac i = false)) :
    Answers (.macRxFrame i l pcs done sfd sc) s fun t =>
      t.mem = s.mem ∧ t.net = s.net ∧ ∀ j, t.rd (Reg.MAC_CNT.COUNT i j) = s.rd (Reg.MAC_CNT.COUNT i j) := by
  have hw := s.listening_wokeOnly sc
  refine answers_macRxFrame hs (fun _ => State.macReceive_deaf (by rwa [hw.on rfl, hw.dormant, hw.wakeMac])) rfl ?_
  intro t hmem hnet _ hrd
  exact ⟨hmem.trans hw.mem, hnet.trans hw.net, fun j => (hrd _ rfl).trans (hw.fields _ rfl)⟩

/-- A frame that is counted leaves memory and the network. -/
theorem macRxFrame_counted {j : Nat} (hs : s.held = false)
    (h : ∀ at', (s.listening sc).macReceive i l pcs at' = (s.listening sc).macCount i j) :
    Answers (.macRxFrame i l pcs done sfd sc) s fun t => Counted s t i j ∧ t.mem = s.mem ∧ t.net = s.net := by
  have hw := s.listening_wokeOnly sc
  refine answers_macRxFrame hs h (State.rd_macCount_woke _ i j) fun t hmem hnet _ hrd => ⟨?_, ?_, ?_⟩
  · rw [Counted, hrd _ rfl, State.macCount_counted, hw.fields _ rfl]
  · rw [hmem, State.macCount_mem, hw.mem]
  · rw [hnet, State.macCount_net, hw.net]

/-- The number shown of a pattern, 0 for none. -/
theorem State.patternShown_le (s : State) (i : Nat) (l : List Byte) :
    ((s.framePattern i l).map (· + 1)).getD 0 ≤ 8 := by
  cases h : s.framePattern i l with
  | none => exact Nat.zero_le 8
  | some k => exact List.mem_range.mp (List.mem_of_find?_eq_some h)

/-- Word 1 of a descriptor for an errorless frame. -/
theorem State.plainInfo_word (s : State) (i : Fin 5) (l : List Byte) (hl : l.length < 2 ^ 16) :
    ((s.plainInfo i l).words l.length).1 % 256 ^ 4 =
      l.length + i.val * 2 ^ 22 + ((s.framePattern i l).map (· + 1)).getD 0 * 2 ^ 25 := by
  have hpat := s.patternShown_le i l
  have hi := i.isLt
  simp only [RxInfo.words, State.plainInfo, Option.isSome_none, Bool.toNat_false, Nat.zero_mul, Nat.add_zero]
  omega

/-- A frame for a control queue meets its ring as it stood. -/
theorem ring_of_counted (hw : WokeOnly s u) : (u.macCount i 0).rxRing 3 = s.rxRing 3 := by
  have hrd {q : FieldRef} (hq : 0x110000 * 32 ≤ q.key) (hlo : (q.lo % 32 == 3) = false) :
      (u.macCount i 0).rd q = s.rd q := (u.rd_macCount_net i (by decide) hq).trans (hw.fields q hlo)
  exact State.rxRing_congr (hrd (by decide) rfl) (hrd (by decide) rfl) (hrd (by decide) rfl) (hrd (by decide) rfl)

section Plain

variable (hs : s.held = false) (hl : PlainControl s i l)
include hs hl

/-- A frame for a control queue with a descriptor. -/
theorem macRxFrame_stored (ho : s.owned (s.rxRing 3) = true) : Answers (.macRxFrame i l false done sfd sc) s fun t =>
    let r := s.rxRing 3
    let b := s.load r.at 4
    Counted s t i 0 ∧ t.rd (Reg.NET_RXQ_PTR.HEAD 3) = r.advance % 4096 ∧
    t.load (r.at + 4) 4 = l.length + i.val * 2 ^ 22 + ((s.framePattern i l).map (· + 1)).getD 0 * 2 ^ 25 ∧
    ((b + l.length ≤ r.at ∨ r.at + 32 ≤ b) → ∀ j (h : j < l.length), t.byte (b + j) = l[j]) ∧
    (∀ a, (a < b ∨ b + l.length ≤ a) → (a < r.at ∨ r.at + 32 ≤ a) → t.byte a = s.byte a) := by
  obtain ⟨-, -, -, hshort, -⟩ := id hl
  have hw := s.listening_wokeOnly sc
  have hmem : ((s.listening sc).macCount i 0).mem = s.mem := (State.macCount_mem _ i 0).trans hw.mem
  have hring := ring_of_counted hw (i := i)
  have hd := State.deliverFrame_delivered (s := (s.listening sc).macCount i 0) (x := (s.listening sc).plainInfo i l)
    (l := l) (q := 3) (by decide) (by rw [hring, State.owned_congr hmem, ho]) rfl
  rw [hring, State.load_congr hmem] at hd
  refine answers_macRxFrame hs (fun _ => State.macReceive_plain (hw.plainControl hl)) ?_ ?_
  · rw [hd.fields _ (by decide), State.rd_macCount_woke]
  · intro t htmem _ _ hrd
    refine ⟨?_, (hrd _ rfl).trans hd.head, ?_, fun hapart j hj => ?_, fun a ha hd' => ?_⟩
    · rw [Counted, hrd _ rfl, hd.fields _ ?_, State.macCount_counted, hw.fields _ rfl]
      simp only [FieldRef.key, Reg.MAC_CNT.COUNT]
      omega
    · rw [State.load_congr htmem, hd.word, State.plainInfo_word _ i l hshort, hw.framePattern]
    · rw [State.byte, htmem]
      exact hd.frame hapart j hj
    · rw [State.byte, htmem, State.byte, ← hmem]
      exact hd.others a ha hd'

/-- A frame for a control queue without a descriptor. -/
theorem macRxFrame_dropped (ho : s.owned (s.rxRing 3) = false) : Answers (.macRxFrame i l false done sfd sc) s fun t =>
    Counted s t i 0 ∧ Counted s t i 9 ∧ t.mem = s.mem ∧ Raised t Src.NET_RXOVF := by
  have hw := s.listening_wokeOnly sc
  have hmem : ((s.listening sc).macCount i 0).mem = s.mem := (State.macCount_mem _ i 0).trans hw.mem
  have hring := ring_of_counted hw (i := i)
  have hdrop (at' : RxInstant) : (s.listening sc).macReceive i l false at' =
      ((s.listening sc).macCount i 0).noBuffer i :=
    (State.macReceive_plain (hw.plainControl hl)).trans
      (State.deliverFrame_drops (by rw [hring, State.owned_congr hmem, ho]))
  refine answers_macRxFrame hs hdrop ?_ ?_
  · rw [State.noBuffer, State.raise_rd, State.rd_macCount_woke, State.rd_macCount_woke]
  · intro t htmem _ htflt hrd
    rw [State.noBuffer] at htmem htflt hrd
    refine ⟨?_, ?_, ?_, ?_⟩
    · rw [Counted, hrd _ rfl, State.raise_rd, State.rd_macCount_count _ _ (by decide), State.macCount_counted,
        hw.fields _ rfl]
    · rw [Counted, hrd _ rfl, State.raise_rd, State.macCount_counted, State.rd_macCount_count _ _ (by decide),
        hw.fields _ rfl]
    · rw [htmem, State.raise_mem, State.macCount_mem, hmem]
    · rw [Raised, htflt]
      exact State.raised_raise _ (by decide)

end Plain

end Sys2Proof.Machine
end

section
/-! SUPPORT. Media packets sent: what leaves with them, and that time has no part in it (12 R263, R269). -/

namespace Sys2Proof.Machine

open Sys2Proof.Claims

variable {s t u : State}

/-- Two states that differ in egress streams, in the frames last sent, and in register fields: of these in the counts of
the frames that the media MACs sent. -/
structure MediaSent (s t : State) : Prop where
  rest : t = { s with regs := t.regs, net := { s.net with outs := t.net.outs, lastTx := t.net.lastTx } }
  fields : ∀ q : FieldRef, (∀ m, m < 4 → q.key ≠ (Reg.MAC_CNT.COUNT m 11).key) → t.rd q = s.rd q

namespace MediaSent

theorem refl (s : State) : MediaSent s s := ⟨rfl, fun _ _ => rfl⟩

theorem trans (h : MediaSent s t) (g : MediaSent t u) : MediaSent s u where
  rest := Eq.trans g.rest (congrArg (fun x : State =>
    { x with regs := u.regs, net := { x.net with outs := u.net.outs, lastTx := u.net.lastTx } }) h.rest)
  fields q hq := (g.fields q hq).trans (h.fields q hq)

theorem mem (h : MediaSent s t) : t.mem = s.mem := (congrArg State.mem h.rest :)
theorem tick (h : MediaSent s t) : t.tick = s.tick := (congrArg State.tick h.rest :)

/-- A frame that a media MAC sends, or does not. -/
theorem sendMedia (s : State) {m : Nat} (hm : m < 4) (l : List Byte) : MediaSent s (s.sendMedia m l) := by
  unfold State.sendMedia
  split
  · exact refl s
  · exact ⟨rfl, fun q hq => s.rd_bump_ne (hq m hm) 1⟩

end MediaSent

/-- The MACs of the two paths of a stream are media MACs. -/
theorem pathMac_lt (w : Word) {path : Nat} (h : path ≤ 1) : pathMac w path < 4 := by
  have hpair : wfield w 2 1 < 2 := Nat.mod_lt _ (by decide)
  unfold pathMac
  omega

/-- The packet that a stream sends next, by the MACs of its paths. -/
def State.packetOut (s : State) (i : Nat) : List (Nat × List Byte) :=
  let x := sget {} i s.net.outs
  let w := s.descWord 1 i 0
  let ts := ((x.buf.head?.map Prod.fst).getD 0 + (s.descWord 1 i 1).toNat) % 2 ^ 32
  let pkt := rtpPacket x (descPt 1 w) ts (s.descWord 1 i 2).toNat (wfield w 3 2) (s.streamP 1 i)
  (pathMac w 0, mediaFrame x.tmplA (pkt x.tmplA)) ::
    (if w.getLsbD 1 then [(pathMac w 1, mediaFrame x.tmplB (pkt x.tmplA))] else [])

/-- The state with a packet's frames handed to the MACs. -/
def State.sendOut (s : State) (i : Nat) : State := (s.packetOut i).foldl (fun s f => s.sendMedia f.1 f.2) s

/-- A stream's record after its packet. -/
def State.packetSent (s : State) (i : Nat) : OutStream :=
  let x := sget {} i s.net.outs
  { x with
    buf := x.buf.drop (s.streamP 1 i), n := x.n + 1, seq := (x.seq + 1) % 65536
    last := s.packetOut i, lastTick := s.tick }

theorem State.sendOut_sent (s : State) (i : Nat) : MediaSent s (s.sendOut i) := by
  refine foldl_related_mem MediaSent.refl MediaSent.trans _ (fun u f hf => ?_) s
  refine MediaSent.sendMedia u ?_ f.2
  rcases List.mem_cons.mp hf with rfl | hf
  · exact pathMac_lt _ (Nat.zero_le 1)
  · split at hf
    · rw [List.mem_singleton.mp hf]
      exact pathMac_lt _ (Nat.le_refl 1)
    · cases hf

/-- A packet: its frames go out, and the stream's record goes on. -/
theorem State.streamPacket_eq (s : State) (i : Nat) : s.streamPacket i =
    (s.sendOut i).onNet fun r => { r with outs := sset {} i (s.packetSent i) r.outs } := by
  have htick := (s.sendOut_sent i).tick
  unfold State.packetSent
  rw [← htick]
  rfl

theorem MediaSent.streamPacket (s : State) (i : Nat) : MediaSent s (s.streamPacket i) := by
  rw [State.streamPacket_eq]
  exact (s.sendOut_sent i).trans ⟨rfl, fun _ _ => rfl⟩

theorem MediaSent.streamSend (s : State) (i : Nat) : MediaSent s (s.streamSend i) := by
  unfold State.streamSend
  dsimp only
  split
  · exact MediaSent.streamPacket s i
  · exact MediaSent.refl s

theorem MediaSent.netSendAll (s : State) : MediaSent s s.netSendAll :=
  foldl_related MediaSent.refl MediaSent.trans MediaSent.streamSend _ s

/-! ### Time has no part in it -/

/-- A state at another time. -/
def State.atTime (x : TimeState) (s : State) : State := { s with time := x }

theorem State.sendMedia_atTime (x : TimeState) (s : State) (m : Nat) (l : List Byte) :
    (s.atTime x).sendMedia m l = (s.sendMedia m l).atTime x := by
  have hstandby : (s.atTime x).isStandby = s.isStandby := rfl
  have hlink : (s.atTime x).on (Reg.MAC_STATUS.LINK m) = s.on (Reg.MAC_STATUS.LINK m) := rfl
  rw [State.sendMedia, State.sendMedia, hstandby, hlink]
  split <;> rfl

theorem State.sendOut_atTime (x : TimeState) (s : State) (i : Nat) : (s.atTime x).sendOut i = (s.sendOut i).atTime x :=
  List.foldl_hom (State.atTime x) fun s f => s.sendMedia_atTime x f.1 f.2

theorem State.streamSend_atTime (x : TimeState) (s : State) (i : Nat) :
    (s.atTime x).streamSend i = (s.streamSend i).atTime x := by
  have hpacket : (s.atTime x).streamPacket i = (s.streamPacket i).atTime x := by
    rw [State.streamPacket_eq, State.sendOut_atTime, State.streamPacket_eq]
    rfl
  unfold State.streamSend
  rw [hpacket]
  exact (apply_ite (State.atTime x) _ _ _).symm

/-- What is sent is the same whether SC has run or not. -/
theorem State.netSendAll_atTime (x : TimeState) (s : State) : (s.atTime x).netSendAll = s.netSendAll.atTime x :=
  List.foldl_hom (State.atTime x) fun s i => s.streamSend_atTime x i

end Sys2Proof.Machine
end

section
/-! SUPPORT. Links, tail writes and control transmission of the MACs (12 R249, R252, R259, R273), and the statement
settled. -/

namespace Sys2Proof.Machine

open Sys2Proof.Claims

variable {s t : State} {i : Fin 5}

/-! ### Links (R249) -/

/-- The flags that a link shows. -/
def State.linkFlags (s : State) (i : Nat) (lf rf up : Bool) : State :=
  ((s.put (Reg.MAC_STATUS.LFAULT i) lf).put (Reg.MAC_STATUS.RFAULT i) rf).put (Reg.MAC_STATUS.LINK i) up

/-- Two fields of one register. -/
theorem key_ne_of_lo {q f : FieldRef} (ha : q.addr = f.addr) (h : (q.lo == f.lo) = false) : q.key ≠ f.key := by
  have hlo : q.lo ≠ f.lo := ne_of_beq_false h
  simp only [FieldRef.key, ha]
  omega

/-- The flags show as they were put. -/
theorem State.linkFlags_shows (s : State) (i : Nat) (lf rf up : Bool) : let t := s.linkFlags i lf rf up
    t.on (Reg.MAC_STATUS.LINK i) = up ∧ t.on (Reg.MAC_STATUS.LFAULT i) = lf ∧ t.on (Reg.MAC_STATUS.RFAULT i) = rf := by
  have hlf : (Reg.MAC_STATUS.LFAULT i).key ≠ (Reg.MAC_STATUS.RFAULT i).key := key_ne_of_lo rfl rfl
  have hlf' : (Reg.MAC_STATUS.LFAULT i).key ≠ (Reg.MAC_STATUS.LINK i).key := key_ne_of_lo rfl rfl
  have hrf : (Reg.MAC_STATUS.RFAULT i).key ≠ (Reg.MAC_STATUS.LINK i).key := key_ne_of_lo rfl rfl
  dsimp only
  rw [State.linkFlags, State.on_put_same _ _ _ (Nat.le_refl 1), State.on_put_ne _ hlf', State.on_put_ne _ hlf,
    State.on_put_same _ _ _ (Nat.le_refl 1), State.on_put_ne _ hrf, State.on_put_same _ _ _ (Nat.le_refl 1)]
  exact ⟨rfl, rfl, rfl⟩

/-- A link's update in its parts: its flags, the condition NET_LINK, what the MAC sends, and the loss of the link. -/
theorem State.setLink_eq (s : State) (i : Nat) (lf rf lock : Bool) : ∃ (active : Bool) (f : NetState → NetState),
    s.setLink i lf rf lock =
      let up := s.on (Reg.MAC_CTRL.EN i) && !lf && !rf && lock
      let u := ((s.linkFlags i lf rf up).put (Reg.FLT_SRC.ACTIVE Src.NET_LINK) active).onNet f
      if s.on (Reg.MAC_STATUS.LINK i) && !up then u.raise Src.NET_LINK else u := by
  unfold State.setLink State.linkFlags
  exact ⟨_, _, rfl⟩

/-- The state of a link shows, and its loss is raised. -/
theorem State.setLink_shows (s : State) (i : Nat) (lf rf lock : Bool) : let t := s.setLink i lf rf lock
    t.on (Reg.MAC_STATUS.LINK i) = (s.on (Reg.MAC_CTRL.EN i) && !lf && !rf && lock) ∧
    t.on (Reg.MAC_STATUS.LFAULT i) = lf ∧ t.on (Reg.MAC_STATUS.RFAULT i) = rf ∧ t.mem = s.mem ∧
    (s.on (Reg.MAC_STATUS.LINK i) = true → t.on (Reg.MAC_STATUS.LINK i) = false → Raised t Src.NET_LINK) := by
  obtain ⟨active, f, heq⟩ := s.setLink_eq i lf rf lock
  dsimp only at heq ⊢
  rw [heq]
  generalize (s.on (Reg.MAC_CTRL.EN i) && !lf && !rf && lock) = up
  have hrd (q : FieldRef) (hq : 0x100000 * 32 ≤ q.key) :
      (((s.linkFlags i lf rf up).put (Reg.FLT_SRC.ACTIVE Src.NET_LINK) active).onNet f).rd q =
        (s.linkFlags i lf rf up).rd q := by
    rw [State.onNet_rd, State.rd_put_ne]
    simp only [FieldRef.key, Reg.FLT_SRC.ACTIVE, Src.NET_LINK] at hq ⊢
    omega
  have hmem : (((s.linkFlags i lf rf up).put (Reg.FLT_SRC.ACTIVE Src.NET_LINK) active).onNet f).mem = s.mem := by
    simp only [State.onNet_mem, State.put_mem, State.linkFlags]
  generalize ((s.linkFlags i lf rf up).put (Reg.FLT_SRC.ACTIVE Src.NET_LINK) active).onNet f = u at hrd hmem ⊢
  have hkey {lo : Nat} : 0x100000 * 32 ≤ (0x100004 + i * 0x100) * 32 + lo := by omega
  obtain ⟨hlink, hlf, hrf⟩ := s.linkFlags_shows i lf rf up
  rw [← State.on_congr (hrd (Reg.MAC_STATUS.LINK i) hkey)] at hlink
  rw [← State.on_congr (hrd (Reg.MAC_STATUS.LFAULT i) hkey)] at hlf
  rw [← State.on_congr (hrd (Reg.MAC_STATUS.RFAULT i) hkey)] at hrf
  split
  · simp only [State.raise_on, State.raise_mem]
    exact ⟨hlink, hlf, hrf, hmem, fun _ _ => State.raised_raise u (by decide)⟩
  · next hkept =>
    refine ⟨hlink, hlf, hrf, hmem, fun hwas hnow => absurd ?_ hkept⟩
    rw [hwas, ← hlink, hnow]
    rfl

/-! ### Tail writes (R273) -/

/-- The fields of NET_RXQ_q_PTR. -/
theorem fieldsAt_rxqPtr : ∀ q : Fin 4, fieldsAt (0x110208 + q.val * 0x10) =
    some [⟨Reg.NET_RXQ_PTR.HEAD q, .ro, .any⟩, ⟨Reg.NET_RXQ_PTR.TAIL q, .rw, .any⟩] := by decide

/-- The fields of NET_TXQ_i_PTR. -/
theorem fieldsAt_txqPtr : ∀ i : Fin 5, fieldsAt (0x110308 + i.val * 0x10) =
    some [⟨Reg.NET_TXQ_PTR.HEAD i, .ro, .any⟩, ⟨Reg.NET_TXQ_PTR.TAIL i, .rw, .any⟩] := by decide

/-- Clearing a cause changes HOST_IRQ_PEND alone. -/
theorem State.rd_vectorClear (s : State) (v : Nat) {f : FieldRef} (h : f.key < 0x160010 * 32) :
    (s.vectorClear v).rd f = s.rd f := by
  refine s.rd_wr_ne ?_ _
  simp only [FieldRef.key, Reg.HOST_IRQ_PEND.PEND] at h ⊢
  omega

/-- A write of a ring's pointers: TAIL takes its part of the word, and the ring's vector is cleared. -/
theorem answers_tailWrite {c : Instr} {a n : Nat} {v : Word} {head tail : FieldRef} (hs : s.alone) (hv : Admitted a v)
    (he : exec c s = core (fun s => s.control a v fun s => s.guarded a v fun s => s.vectorClear n) s)
    (hf : fieldsAt a = some [⟨head, .ro, .any⟩, ⟨tail, .rw, .any⟩]) (hne : head.key ≠ tail.key)
    (hhead : head.key < 0x160010 * 32) (htail : tail.key < 0x160010 * 32) : Answers c s fun t =>
      t.rd tail = tail.part v ∧ t.rd head = s.rd head ∧ t.mem = s.mem := by
  obtain ⟨fs, hfs, hadm⟩ := hv
  cases hf.symm.trans hfs
  have hact : s.guarded a v (fun s => s.vectorClear n) = (s.wr tail (tail.part v)).vectorClear n := by
    rw [State.guarded, hf]
    exact if_pos hadm
  refine answers_core he hs.1 ?_
  rw [hs.control (hact ▸ rfl), hact]
  refine ⟨?_, ?_, rfl⟩
  · rw [State.rd_vectorClear _ _ htail, State.rd_wr_same, FieldRef.part, Nat.mod_mod]
  · rw [State.rd_vectorClear _ _ hhead, State.rd_wr_ne _ hne]

/-! ### Control transmission (R252, R259) -/

/-- Without a link or a descriptor a MAC sends nothing. -/
theorem State.macTransmit_idle (h : s.on (Reg.MAC_STATUS.LINK i) = false ∨ s.owned (s.txRing i) = false) (c f : Nat) :
    s.macTransmit i c f = s := by
  rw [State.macTransmit, if_neg]
  rcases h with h | h <;> simp [h]

/-- A descriptor at `a` whose frame is above MAXLEN comes back as refused. -/
def State.txRefuse (s : State) (i a w : Nat) : State :=
  (s.store (a + 4) 4 (w % 2 ^ 31 - w / 2 ^ 18 % 2 * 2 ^ 18 + 2 ^ 18)).macCount i 12

/-- The frame of a descriptor at `a` is sent, and the descriptor comes back, with a stamp where it asks for one. -/
def State.txSend (s : State) (i a w : Nat) (stamp : List Word) (frame : List Byte) : State :=
  (((if w.testBit 16 then s.storeWordsAt (a + 16) stamp else s).store (a + 4) 4 (w % 2 ^ 31)).macCount i 11).onNet fun q =>
    { q with lastTx := sset [] i frame q.lastTx }

/-- MAXLEN after HEAD has moved. -/
theorem State.rd_maxlen_head (s : State) (i : Fin 5) (v : Nat) :
    (s.wr (Reg.NET_TXQ_PTR.HEAD i) v).rd (Reg.MAC_MAXLEN.MAXLEN i) = s.rd (Reg.MAC_MAXLEN.MAXLEN i) := by
  refine s.rd_wr_ne ?_ v
  simp only [FieldRef.key, Reg.NET_TXQ_PTR.HEAD, Reg.MAC_MAXLEN.MAXLEN]
  omega

/-- A completed descriptor: HEAD has moved, the frame is counted, and an interrupt may be asked. -/
theorem State.txDone_shows {v u : State} {j n : Nat} (hj : j < 13)
    (hv : v.regs = (s.wr (Reg.NET_TXQ_PTR.HEAD i) n).regs) (hu : u.regs = (v.macCount i j).regs) (c : Bool) :
    (u.vectorIf c (6 + i)).rd (Reg.NET_TXQ_PTR.HEAD i) = n % 4096 ∧ Counted s (u.vectorIf c (6 + i)) i j := by
  obtain ⟨-, -, hrd⟩ := u.vectorIf_keeps c (6 + i)
  have hkey : 0x110000 * 32 ≤ (Reg.NET_TXQ_PTR.HEAD i).key ∧ (Reg.NET_TXQ_PTR.HEAD i).key < 0x160010 * 32 ∧
      (Reg.MAC_CNT.COUNT i j).key < 0x110000 * 32 := by
    simp only [FieldRef.key, Reg.NET_TXQ_PTR.HEAD, Reg.MAC_CNT.COUNT]
    omega
  obtain ⟨hlow, hhigh, hcount⟩ := hkey
  refine ⟨?_, ?_⟩
  · rw [hrd _ hhigh, State.rd_congr hu, State.rd_macCount_net _ i hj hlow, State.rd_congr hv, State.rd_wr_same]
    rfl
  · rw [Counted, hrd _ (by omega), State.rd_congr hu, State.macCount_counted, State.rd_congr hv,
      State.rd_wr_ne _ (by omega)]

section Transmit

variable {w : Nat} (hlink : s.on (Reg.MAC_STATUS.LINK i) = true) (ho : s.owned (s.txRing i) = true)
  (hvlan : s.on (Reg.MAC_CTRL.CTLVLAN_EN i) = false) (hw : w = s.load ((s.txRing i).at + 4) 4)
include hlink ho hvlan hw

/-- A frame above MAXLEN is refused. -/
theorem State.macTransmit_refuses (hlong : s.rd (Reg.MAC_MAXLEN.MAXLEN i) < w % 2 ^ 14 + 4) (c f : Nat) :
    ∃ irq, s.macTransmit i c f =
      ((s.wr (Reg.NET_TXQ_PTR.HEAD i) (s.txRing i).advance).txRefuse i (s.txRing i).at w).vectorIf irq (6 + i) := by
  rw [State.macTransmit, if_pos (by rw [hlink, ho]; rfl), ← hw]
  simp only [hvlan, Bool.false_and, Bool.false_eq_true, if_false, Nat.add_zero, State.rd_maxlen_head, if_pos hlong]
  exact ⟨_, rfl⟩

/-- A frame up to MAXLEN is sent. -/
theorem State.macTransmit_sends (hfit : w % 2 ^ 14 + 4 ≤ s.rd (Reg.MAC_MAXLEN.MAXLEN i)) (c f : Nat) :
    ∃ stamp irq, s.macTransmit i c f =
      ((s.wr (Reg.NET_TXQ_PTR.HEAD i) (s.txRing i).advance).txSend i (s.txRing i).at w stamp
        (s.controlBytes i (w.testBit 17) (s.loadBytes (s.load (s.txRing i).at 4) (w % 2 ^ 14)))).vectorIf irq (6 + i) := by
  rw [State.macTransmit, if_pos (by rw [hlink, ho]; rfl), ← hw]
  simp only [hvlan, Bool.false_and, Bool.false_eq_true, if_false, Nat.add_zero, State.rd_maxlen_head,
    if_neg (Nat.not_lt.mpr hfit)]
  exact ⟨_, _, rfl⟩

/-- What a refused frame leaves. -/
theorem State.macTransmit_refused (hlong : s.rd (Reg.MAC_MAXLEN.MAXLEN i) < w % 2 ^ 14 + 4) (c f : Nat) :
    let t := s.macTransmit i c f
    t.rd (Reg.NET_TXQ_PTR.HEAD i) = (s.txRing i).advance % 4096 ∧ Counted s t i 12 ∧ t.net = s.net ∧
      t.load ((s.txRing i).at + 4) 4 / 2 ^ 31 = 0 ∧ t.load ((s.txRing i).at + 4) 4 / 2 ^ 18 % 2 = 1 := by
  obtain ⟨irq, ht⟩ := State.macTransmit_refuses hlink ho hvlan hw hlong c f
  have hst := StoredWithin.store (s.wr (Reg.NET_TXQ_PTR.HEAD i) (s.txRing i).advance) ((s.txRing i).at + 4) 4
    (w % 2 ^ 31 - w / 2 ^ 18 % 2 * 2 ^ 18 + 2 ^ 18)
  obtain ⟨hhead, hcount⟩ := State.txDone_shows (j := 12)
    (u := (s.wr (Reg.NET_TXQ_PTR.HEAD i) (s.txRing i).advance).txRefuse i (s.txRing i).at w) (by decide) hst.regs rfl irq
  obtain ⟨hmem, hnet, -⟩ :=
    ((s.wr (Reg.NET_TXQ_PTR.HEAD i) (s.txRing i).advance).txRefuse i (s.txRing i).at w).vectorIf_keeps irq (6 + i)
  rw [← ht] at hhead hcount hmem hnet
  rw [State.txRefuse, State.macCount_mem] at hmem
  rw [State.txRefuse, State.macCount_net, hst.net, State.wr_net] at hnet
  refine ⟨hhead, hcount, hnet, ?_⟩
  rw [State.load_congr hmem, State.load_store]
  omega

/-- What a frame that was sent leaves. -/
theorem State.macTransmit_sent (hfit : w % 2 ^ 14 + 4 ≤ s.rd (Reg.MAC_MAXLEN.MAXLEN i)) (c f : Nat) :
    let t := s.macTransmit i c f
    t.rd (Reg.NET_TXQ_PTR.HEAD i) = (s.txRing i).advance % 4096 ∧ Counted s t i 11 ∧
      sget [] i.val t.net.lastTx =
        s.controlBytes i (w.testBit 17) (s.loadBytes (s.load (s.txRing i).at 4) (w % 2 ^ 14)) ∧
      (w.testBit 16 = false → t.load ((s.txRing i).at + 4) 4 = w % 2 ^ 31 ∧
        ∀ a, (a < (s.txRing i).at + 4 ∨ (s.txRing i).at + 8 ≤ a) → t.byte a = s.byte a) := by
  obtain ⟨stamp, irq, ht⟩ := State.macTransmit_sends hlink ho hvlan hw hfit c f
  generalize s.controlBytes i (w.testBit 17) (s.loadBytes (s.load (s.txRing i).at 4) (w % 2 ^ 14)) = frame at ht ⊢
  generalize hh : s.wr (Reg.NET_TXQ_PTR.HEAD i) (s.txRing i).advance = h at ht
  have hstamp : (if w.testBit 16 then h.storeWordsAt ((s.txRing i).at + 16) stamp else h).regs = h.regs := by
    split
    · exact (StoredWithin.storeWordsAt stamp h _).regs
    · rfl
  have hst := StoredWithin.store (if w.testBit 16 then h.storeWordsAt ((s.txRing i).at + 16) stamp else h)
    ((s.txRing i).at + 4) 4 (w % 2 ^ 31)
  obtain ⟨hhead, hcount⟩ := State.txDone_shows (j := 11) (u := h.txSend i (s.txRing i).at w stamp frame)
    (by decide) (hst.regs.trans (hstamp.trans (congrArg State.regs hh.symm))) rfl irq
  obtain ⟨hmem, hnet, -⟩ := (h.txSend i (s.txRing i).at w stamp frame).vectorIf_keeps irq (6 + i)
  rw [← ht] at hhead hcount hmem hnet
  refine ⟨hhead, hcount, ?_, fun hplain => ?_⟩
  · rw [hnet]
    exact sget_sset_same [] _ frame _
  · rw [State.txSend, hplain, if_neg Bool.false_ne_true, State.onNet_mem, State.macCount_mem] at hmem
    refine ⟨?_, fun a ha => ?_⟩
    · rw [State.load_congr hmem, State.load_store]
      omega
    · rw [State.byte, hmem, ← hh]
      exact State.byte_store_out 4 _ _ _ a (by omega)

end Transmit

/-! ### MAC_TX_CONTROL (R259, R263) -/

variable {k : BitVec 15} {f : BitVec 4} {sc : Nat}

/-- The media frames before a control frame. -/
theorem mediaFirst_sent (s : State) (k : BitVec 15) : MediaSent s (MediaFirst s k) := by
  unfold MediaFirst
  split
  · exact MediaSent.netSendAll s
  · exact MediaSent.refl s

/-- Unless the node is dormant, SC runs, the media frames due go out, and the MAC turns to its ring. -/
theorem macTxControl_eq : exec (.macTxControl i k f sc) s = core (fun s => if s.dormant then s else
    (if (s.runSc sc).rclk && decide (256 ≤ k.toNat) then (s.runSc sc).netSendAll else s.runSc sc).macTransmit i k.toNat
      f.toNat) s := rfl

/-- A MAC reaches its ring's head with the media frames sent, at some time. -/
theorem answers_macTxControl {p : State → Prop} (hs : s.held = false) (hd : s.dormant = false)
    (hp : ∀ x, p (((MediaFirst s k).atTime x).macTransmit i k.toNat f.toNat)) : Answers (.macTxControl i k f sc) s p := by
  obtain ⟨x, hx⟩ := s.runSc_eq sc
  have hfirst : (if (s.atTime x).rclk && decide (256 ≤ k.toNat) then (s.atTime x).netSendAll else s.atTime x) =
      (MediaFirst s k).atTime x := by
    have hclock : (s.atTime x).rclk = s.rclk := rfl
    rw [State.netSendAll_atTime, hclock, MediaFirst, apply_ite (State.atTime x)]
    simp only [Bool.and_eq_true, decide_eq_true_eq]
  refine answers_core macTxControl_eq hs ?_
  have hrun : s.runSc sc = s.atTime x := hx
  rw [hd, if_neg Bool.false_ne_true, hrun, hfirst]
  exact hp x

/-- A transmit ring is read from three registers. -/
theorem State.txRing_congr (hbase : t.rd (Reg.NET_TXQ_BASE.BASE i) = s.rd (Reg.NET_TXQ_BASE.BASE i))
    (hsize : t.rd (Reg.NET_TXQ_CTRL.SIZE i) = s.rd (Reg.NET_TXQ_CTRL.SIZE i))
    (hhead : t.rd (Reg.NET_TXQ_PTR.HEAD i) = s.rd (Reg.NET_TXQ_PTR.HEAD i))
    (htail : t.rd (Reg.NET_TXQ_PTR.TAIL i) = s.rd (Reg.NET_TXQ_PTR.TAIL i)) : t.txRing i = s.txRing i := by
  simp only [State.txRing, hbase, hsize, hhead, htail]

/-- What a MAC reads for a control frame. -/
structure TxSame (s t : State) (i : Fin 5) : Prop where
  mem : t.mem = s.mem
  ring : t.txRing i = s.txRing i
  link : t.on (Reg.MAC_STATUS.LINK i) = s.on (Reg.MAC_STATUS.LINK i)
  vlan : t.on (Reg.MAC_CTRL.CTLVLAN_EN i) = s.on (Reg.MAC_CTRL.CTLVLAN_EN i)
  maxlen : t.rd (Reg.MAC_MAXLEN.MAXLEN i) = s.rd (Reg.MAC_MAXLEN.MAXLEN i)

/-- Media frames sent leave it. -/
theorem MediaSent.txSame (h : MediaSent s t) (i : Fin 5) : TxSame s t i := by
  have hnet {q : FieldRef} (hq : 0x110000 * 32 ≤ q.key) : t.rd q = s.rd q := by
    refine h.fields q fun m hm => ?_
    simp only [FieldRef.key, Reg.MAC_CNT.COUNT] at hq ⊢
    omega
  have hring {a lo w d : Nat} (ha : 0x110000 ≤ a) : 0x110000 * 32 ≤ (⟨a + i * 0x10, lo, w, d⟩ : FieldRef).key := by
    simp only [FieldRef.key]
    omega
  have hmac {a lo w d : Nat} (ha : 0x100000 ≤ a) (ha' : a < 0x100040) (hlo : lo < 32) :
      t.rd ⟨a + i * 0x100, lo, w, d⟩ = s.rd ⟨a + i * 0x100, lo, w, d⟩ := by
    refine h.fields _ fun m hm => ?_
    simp only [FieldRef.key, Reg.MAC_CNT.COUNT]
    omega
  constructor
  case mem => exact h.mem
  case ring =>
    exact State.txRing_congr (hnet (hring (by decide))) (hnet (hring (by decide))) (hnet (hring (by decide)))
      (hnet (hring (by decide)))
  case link => exact State.on_congr (hmac (by decide) (by decide) (by decide))
  case vlan => exact State.on_congr (hmac (by decide) (by decide) (by decide))
  case maxlen => exact hmac (by decide) (by decide) (by decide)

/-- A control frame finds its MAC as it was, whatever media frames and SC did. -/
theorem txSame_mediaFirst (s : State) (k : BitVec 15) (x : TimeState) (i : Fin 5) :
    TxSame s ((MediaFirst s k).atTime x) i := by
  obtain ⟨hmem, hring, hlink, hvlan, hmax⟩ := (mediaFirst_sent s k).txSame i
  exact ⟨hmem, hring, hlink, hvlan, hmax⟩

/-- Without VLAN handling a control frame is its bytes, padded, and their FCS. -/
theorem State.controlBytes_congr (hs : s.on (Reg.MAC_CTRL.CTLVLAN_EN i) = false)
    (ht : t.on (Reg.MAC_CTRL.CTLVLAN_EN i) = false) (notag : Bool) (l : List Byte) :
    t.controlBytes i notag l = s.controlBytes i notag l := by
  simp only [State.controlBytes, hs, ht, Bool.false_and, Bool.false_eq_true, if_false]

/-- A control frame with a link and a descriptor is sent or refused. -/
theorem macTxControl_completes (hs : s.held = false) (hd : s.dormant = false)
    (hlink : s.on (Reg.MAC_STATUS.LINK i) = true) (ho : s.owned (s.txRing i) = true)
    (hvlan : s.on (Reg.MAC_CTRL.CTLVLAN_EN i) = false) :
    let r := s.txRing i
    let w := s.load (r.at + 4) 4
    let m := MediaFirst s k
    Answers (.macTxControl i k f sc) s fun t =>
      t.rd (Reg.NET_TXQ_PTR.HEAD i) = r.advance % 4096 ∧
      (w % 2 ^ 14 + 4 ≤ s.rd (Reg.MAC_MAXLEN.MAXLEN i) → Counted m t i 11 ∧
        sget [] i.val t.net.lastTx = s.controlBytes i (w.testBit 17) (s.loadBytes (s.load r.at 4) (w % 2 ^ 14)) ∧
        (w.testBit 16 = false → t.load (r.at + 4) 4 = w % 2 ^ 31 ∧
          ∀ a, (a < r.at + 4 ∨ r.at + 8 ≤ a) → t.byte a = s.byte a)) ∧
      (s.rd (Reg.MAC_MAXLEN.MAXLEN i) < w % 2 ^ 14 + 4 → Counted m t i 12 ∧ t.net = m.net ∧
        t.load (r.at + 4) 4 / 2 ^ 31 = 0 ∧ t.load (r.at + 4) 4 / 2 ^ 18 % 2 = 1) := by
  intro r w m
  refine answers_macTxControl hs hd fun x => ?_
  obtain ⟨hmem, hring, hlinkm, hvlanm, hmax⟩ := txSame_mediaFirst s k x i
  have ho' : (m.atTime x).owned ((m.atTime x).txRing i) = true := by rwa [hring, State.owned_congr hmem]
  have hw : w = (m.atTime x).load (((m.atTime x).txRing i).at + 4) 4 := by rw [hring, State.load_congr hmem]
  rcases Nat.lt_or_ge (s.rd (Reg.MAC_MAXLEN.MAXLEN i)) (w % 2 ^ 14 + 4) with hlong | hfit
  · obtain ⟨hhead, hcount, hnet, hdone⟩ := State.macTransmit_refused (hlinkm.trans hlink) ho' (hvlanm.trans hvlan) hw
      (hmax ▸ hlong) k.toNat f.toNat
    rw [hring] at hhead hdone
    exact ⟨hhead, fun hfit => absurd hlong (Nat.not_lt.mpr hfit), fun _ => ⟨hcount, hnet, hdone⟩⟩
  · obtain ⟨hhead, hcount, hlast, hplain⟩ := State.macTransmit_sent (hlinkm.trans hlink) ho' (hvlanm.trans hvlan) hw
      (hmax ▸ hfit) k.toNat f.toNat
    rw [hring, State.load_congr hmem, State.loadBytes_congr hmem,
      State.controlBytes_congr hvlan (hvlanm.trans hvlan)] at hlast
    rw [hring] at hhead hplain
    refine ⟨hhead, fun _ => ⟨hcount, hlast, fun h16 => ?_⟩, fun hlong => absurd hlong (Nat.not_lt.mpr hfit)⟩
    obtain ⟨hword, hrest⟩ := hplain h16
    exact ⟨hword, fun a ha => (hrest a ha).trans (congrArg (sget 0 a) hmem)⟩

/-- Settles O46: a frame received by its case and its queue's descriptor, a link by what it shows, a frame sent by its
ring, after the tick's media frames. -/
theorem macFramesAndQueues : Obligations.MacFramesAndQueues := by
  unfold Obligations.MacFramesAndQueues
  intro i q l pcs lf rf lock v done k back u sc scb s hs
  have hw := s.listening_wokeOnly sc
  refine ⟨fun hen => macRxFrame_ignored hs (.inl hen), fun hd hwake => macRxFrame_ignored hs (.inr ⟨hd, hwake⟩),
    fun hen hwake h1 h13 => ?_, fun hen hwake h14 hpause => ?_,
    fun hl => ⟨macRxFrame_stored hs hl, macRxFrame_dropped hs hl⟩, ?_, fun ha hv => ?_, fun ha hv => ?_,
    fun hd hlink ho hvlan => macTxControl_completes hs hd hlink ho hvlan, fun hd => ?_, fun hd hidle => ?_⟩
  · exact macRxFrame_counted hs fun _ =>
      State.macReceive_tiny (by rwa [hw.on rfl]) (by rwa [hw.dormant, hw.wakeMac]) h1 h13
  · exact macRxFrame_counted hs fun _ =>
      State.macReceive_pause (by rwa [hw.on rfl]) (by rwa [hw.dormant, hw.wakeMac]) h14 hpause
  · exact answers_core (f := fun s => s.setLink i.val lf rf (if i.val < 4 then s.laneLocked i.val else lock)) rfl hs
      (s.setLink_shows i lf rf _)
  · have hkey : (Reg.NET_RXQ_PTR.HEAD q).key < 0x160010 * 32 ∧ (Reg.NET_RXQ_PTR.TAIL q).key < 0x160010 * 32 := by
      simp only [FieldRef.key, Reg.NET_RXQ_PTR.HEAD, Reg.NET_RXQ_PTR.TAIL]
      omega
    exact answers_tailWrite ha hv rfl (fieldsAt_rxqPtr q) (key_ne_of_lo rfl rfl) hkey.1 hkey.2
  · have hkey : (Reg.NET_TXQ_PTR.HEAD i).key < 0x160010 * 32 ∧ (Reg.NET_TXQ_PTR.TAIL i).key < 0x160010 * 32 := by
      simp only [FieldRef.key, Reg.NET_TXQ_PTR.HEAD, Reg.NET_TXQ_PTR.TAIL]
      omega
    exact answers_tailWrite ha hv rfl (fieldsAt_txqPtr i) (key_ne_of_lo rfl rfl) hkey.1 hkey.2
  · exact answers_core (p := fun t => t = s) macTxControl_eq hs (if_pos hd)
  · refine answers_macTxControl hs hd fun x => ?_
    obtain ⟨hmem, hring, hlinkx, -, -⟩ := txSame_mediaFirst s k x i
    rw [State.macTransmit_idle (by rwa [hlinkx, hring, State.owned_congr hmem])]
    exact ⟨rfl, hmem, rfl⟩

end Sys2Proof.Machine
end

section
/-! SUPPORT. Stream descriptors: words staged, queued, stopped and put in force (12 R267). -/

namespace Sys2Proof.Machine

open Sys2Proof.Claims

variable {s t : State}

/-! ### Descriptor words -/

/-- Words listed under rising keys from `b + k` on. -/
theorem sget_foldl_words (b : Nat) (d : List Word) : ∀ (k n : Nat) (m : SMap Word) (j : Nat),
    sget 0 (b + j) ((d.zip (List.range' k n)).foldl (fun m p => sset 0 (b + p.2) p.1 m) m) =
      if k ≤ j ∧ j < k + min d.length n then d.getD (j - k) 0 else sget 0 (b + j) m := by
  induction d with
  | nil => intro k n m j; simp
  | cons w d ih =>
    intro k n m j
    cases n with
    | zero => simp
    | succ n =>
      rw [List.range'_succ, List.zip_cons_cons, List.foldl_cons, ih, List.length_cons, sget_sset]
      rcases Nat.lt_trichotomy j k with h | rfl | h
      · rw [if_neg (by omega), if_neg (by omega), if_neg (by omega)]
      · rw [if_neg (by omega), if_pos rfl, if_pos (by omega), Nat.sub_self, List.getD_cons_zero]
      · obtain ⟨e, rfl⟩ : ∃ e, j = k + 1 + e := ⟨j - (k + 1), by omega⟩
        have hdrop : k + 1 + e - k = e + 1 := by omega
        rw [Nat.add_sub_cancel_left, hdrop, List.getD_cons_succ, if_neg (show ¬ b + (k + 1 + e) = b + k by omega)]
        exact if_congr (by omega) rfl rfl

/-- A descriptor's words are read back. -/
theorem State.descWord_setDesc_same (s : State) (dir i : Nat) {d : List Word} (hd : d.length = 16) {w : Nat} (hw : w < 16) :
    (s.setDesc dir i d).descWord dir i w = d.getD w 0 := by
  have h := sget_foldl_words ((dir * 512 + i) * 16) d 0 16 s.net.live w
  rw [if_pos (by omega), Nat.sub_zero, ← List.range_eq_range'] at h
  exact h

/-- The words of another stream stand. -/
theorem State.descWord_setDesc_ne (s : State) {dir i dir' i' : Nat} (h : dir' * 512 + i' ≠ dir * 512 + i) (d : List Word)
    {w : Nat} (hw : w < 16) : (s.setDesc dir i d).descWord dir' i' w = s.descWord dir' i' w := by
  refine foldl_keeps_mem (sget 0 ((dir' * 512 + i') * 16 + w)) _ _ (fun m p hp => ?_) s.net.live
  have hindex : p.2 < 16 := List.mem_range.mp (List.of_mem_zip hp).2
  exact sget_sset_ne (by omega) _ _ _ _

/-! ### NET_DESC_GO (R267) -/

section Commit

variable {v : Word} {dir n : Nat} {d : List Word} (hv : v.getLsbD 0 = true) (hdir : dir = s.rd Reg.NET_SEL.DIR)
  (hn : n = s.rd Reg.NET_SEL.INDEX) (hd : d = s.stagedDesc dir)
include hv hdir hn hd

/-- A commit with VALID = 0 stops the stream. -/
theorem State.writeDescGo_stops (hvalid : (d.getD 0 0).getLsbD 0 = false) : s.writeDescGo v =
    (((s.streamStop dir n).setDesc dir n d).put Reg.NET_DESC_LAST.REFUSED false).wr Reg.NET_DESC_LAST.REASON 0 := by
  subst hd hn hdir
  rw [State.writeDescGo, if_neg (by simp [hv]), if_pos hvalid]

/-- A commit without a reason against it is queued. -/
theorem State.writeDescGo_queues (hvalid : (d.getD 0 0).getLsbD 0 = true) (hwhy : s.withGo.descReason dir n d = 0) :
    s.writeDescGo v = (((s.onNet fun r => { r with
      go := r.go.filter (fun p => decide (p.1 ≠ dir * 512 + n)) ++ [(dir * 512 + n, d)] }).put Reg.NET_DESC_GO.GO true).put
        Reg.NET_DESC_LAST.REFUSED false).wr Reg.NET_DESC_LAST.REASON 0 := by
  subst hd hn hdir
  rw [State.writeDescGo, if_neg (by simp [hv]), if_neg (by rw [hvalid]; decide)]
  exact if_pos hwhy

/-- Another commit is refused with its reason. -/
theorem State.writeDescGo_refuses (hvalid : (d.getD 0 0).getLsbD 0 = true) (hwhy : s.withGo.descReason dir n d ≠ 0) :
    s.writeDescGo v = ((s.put Reg.NET_DESC_LAST.REFUSED true).wr Reg.NET_DESC_LAST.REASON
      (s.withGo.descReason dir n d)).refuseWrite 0x110028 := by
  subst hd hn hdir
  rw [State.writeDescGo, if_neg (by simp [hv]), if_neg (by rw [hvalid]; decide)]
  exact if_neg hwhy

end Commit

/-- A refused write of a register of the NET block. -/
theorem State.refuseWrite_net (s : State) {a : Nat} (ha : a / 65536 = 17) : s.refuseWrite a =
    ((s.put Reg.NET_STATUS.CFG_REFUSED true).raise Src.NET_CFG).raise Src.CTL_REFUSED := by
  simp only [State.refuseWrite, refusalFlag, ha, State.refused]

/-- What a refused write of the NET block leaves. -/
theorem State.refuseWrite_net_shows (s : State) {a : Nat} (ha : a / 65536 = 17) : let t := s.refuseWrite a
    t.mem = s.mem ∧ t.net = s.net ∧ (∀ q : FieldRef, q.key ≠ Reg.NET_STATUS.CFG_REFUSED.key → t.rd q = s.rd q) ∧
      Raised t Src.CTL_REFUSED ∧ t.flt.auditList = s.flt.auditList := by
  dsimp only
  rw [State.refuseWrite_net s ha]
  refine ⟨by simp, by simp, fun q hq => ?_, State.raised_raise _ (by decide), ?_⟩
  · rw [State.raise_rd, State.raise_rd, State.rd_put_ne _ hq]
  · rw [State.raise_auditList, State.raise_auditList, State.put_flt]

/-- A reason is a number of R267's table. -/
theorem State.descReason_le (s : State) (dir i : Nat) (d : List Word) : s.descReason dir i d ≤ 8 := by
  unfold State.descReason
  dsimp only
  split_ifs <;> decide

/-- A stream of the ingress direction that has stopped has no record. -/
theorem State.streamStop_ins (s : State) (i : Nat) : sfind i (s.streamStop 0 i).net.ins = none := sfind_serase_same i _

/-- A commit that stops an ingress stream. -/
theorem State.streamStop_setDesc (s : State) {dir : Nat} (h0 : dir = 0) (i : Nat) {d : List Word} (hd : d.length = 16) :
    (sget {} i ((s.streamStop dir i).setDesc dir i d).net.ins).run = false ∧
      ((s.streamStop dir i).setDesc dir i d).descWord 0 i 0 = d.getD 0 0 := by
  subst h0
  refine ⟨?_, State.descWord_setDesc_same _ 0 i hd (by decide)⟩
  have hnone : sfind i ((s.streamStop 0 i).setDesc 0 i d).net.ins = none := s.streamStop_ins i
  rw [sget, hnone]
  rfl

/-- STREAM_DESC_COMMIT where the chip is alone. -/
theorem streamDescCommit_answers {v : Word} (hs : s.alone) (hv : v.getLsbD 0 = true) :
    let dir := s.rd Reg.NET_SEL.DIR
    let d := s.stagedDesc dir
    let n := s.rd Reg.NET_SEL.INDEX
    Answers (.streamDescCommit v) s fun t => t.mem = s.mem ∧
      ((d.getD 0 0).getLsbD 0 = true → s.withGo.descReason dir n d = 0 → (dir * 512 + n, d) ∈ t.net.go ∧
        t.net.live = s.net.live ∧ t.on Reg.NET_DESC_GO.GO = true ∧ t.on Reg.NET_DESC_LAST.REFUSED = false) ∧
      ((d.getD 0 0).getLsbD 0 = true → s.withGo.descReason dir n d ≠ 0 → t.net = s.net ∧
        t.on Reg.NET_DESC_LAST.REFUSED = true ∧ t.rd Reg.NET_DESC_LAST.REASON = s.withGo.descReason dir n d ∧
        Raised t Src.CTL_REFUSED) ∧
      ((d.getD 0 0).getLsbD 0 = false → dir = 0 →
        (sget {} n t.net.ins).run = false ∧ t.descWord 0 n 0 = d.getD 0 0) := by
  intro dir d n
  have hlength : d.length = 16 := by simp [d, State.stagedDesc]
  have hlast : Reg.NET_DESC_LAST.REFUSED.key ≠ Reg.NET_DESC_LAST.REASON.key := by decide
  have hanswer {t : State} {p : State → Prop} (ht : s.writeDescGo v = t) (haudit : t.flt.auditList = s.flt.auditList)
      (hp : p t) : Answers (.streamDescCommit v) s p := by
    refine answers_core (f := fun s => s.control 0x110028 v fun s => s.writeDescGo v) rfl hs.1 ?_
    rwa [hs.control_act (ht ▸ haudit), ht]
  cases hvalid : (d.getD 0 0).getLsbD 0 with
  | false =>
    refine hanswer (State.writeDescGo_stops hv rfl rfl rfl hvalid) rfl ⟨rfl, by simp, by simp, fun _ h0 => ?_⟩
    exact s.streamStop_setDesc h0 n hlength
  | true =>
    by_cases hwhy : s.withGo.descReason dir n d = 0
    · refine hanswer (State.writeDescGo_queues hv rfl rfl rfl hvalid hwhy) rfl
        ⟨rfl, fun _ _ => ⟨?_, rfl, ?_, ?_⟩, fun _ h => absurd hwhy h, by simp⟩
      · exact List.mem_append_right _ (List.mem_singleton.mpr rfl)
      · rw [State.on_congr (State.rd_wr_ne _ (by decide) _),
          State.on_put_ne _ (by decide), State.on_put_same _ _ _ (by decide)]
      · rw [State.on_congr (State.rd_wr_ne _ hlast _),
          State.on_put_same _ _ _ (by decide)]
    · obtain ⟨hmem, hnet, hrd, hraised, haudit⟩ := ((s.put Reg.NET_DESC_LAST.REFUSED true).wr Reg.NET_DESC_LAST.REASON
        (s.withGo.descReason dir n d)).refuseWrite_net_shows (a := 0x110028) rfl
      have hreason := s.withGo.descReason_le dir n d
      refine hanswer (State.writeDescGo_refuses hv rfl rfl rfl hvalid hwhy) haudit
        ⟨hmem, fun _ h => absurd h hwhy, fun _ _ => ⟨hnet, ?_, ?_, hraised⟩, by simp⟩
      · rw [State.on_congr (hrd _ (by decide)), State.on_congr (State.rd_wr_ne _ hlast _),
          State.on_put_same _ _ _ (by decide)]
      · rw [hrd _ (by decide), State.rd_wr_same]
        exact Nat.mod_eq_of_lt (Nat.lt_of_le_of_lt hreason (by decide))

/-! ### STREAM_DESC_APPLY (R267, R268) -/

/-- The record of an ingress stream that accepts packets from tick `t` on. -/
def freshIn (t : Nat) (d : List Word) : InStream :=
  { run := true, first := t, a := { up := true }, b := { up := (d.getD 0 0).getLsbD 1 } }

/-- A descriptor is put in force: its stream stops, and an ingress stream runs from tick `t`. -/
def State.descStart (t : Nat) (s : State) (p : Nat × List Word) : State :=
  let u := (s.streamStop (p.1 / 512) (p.1 % 512)).setDesc (p.1 / 512) (p.1 % 512) p.2
  if p.1 / 512 = 0 then u.onNet fun r => { r with ins := sset {} (p.1 % 512) (freshIn t p.2) r.ins } else u

/-- The queued descriptors are put in force in turn. -/
theorem State.descApply_eq (s : State) (t : Nat) : s.descApply t =
    ((s.net.go.foldl (State.descStart t) s).onNet fun r => { r with go := [] }).put Reg.NET_DESC_GO.GO false := rfl

/-- What two states have in common of stream `k` (direction × 512 + index): its descriptor and, of an ingress stream, its
record. -/
def StreamKept (k : Nat) (s t : State) : Prop :=
  (∀ w, w < 16 → t.descWord (k / 512) (k % 512) w = s.descWord (k / 512) (k % 512) w) ∧
  (k < 512 → sget {} k t.net.ins = sget {} k s.net.ins)

/-- Another stream's descriptor leaves a stream. -/
theorem State.descStart_kept (t : Nat) (s : State) {k : Nat} {p : Nat × List Word} (hp : p.1 < 1024) (hne : p.1 ≠ k) :
    StreamKept k s (s.descStart t p) := by
  have hword (w : Nat) (hw : w < 16) : ((s.streamStop (p.1 / 512) (p.1 % 512)).setDesc (p.1 / 512) (p.1 % 512) p.2).descWord
      (k / 512) (k % 512) w = s.descWord (k / 512) (k % 512) w := by
    rw [State.descWord_setDesc_ne _ (by omega) _ hw, State.descWord, State.descWord, State.streamStop]
    by_cases h1 : p.1 / 512 = 1 <;> simp [h1]
  rcases (by omega : p.1 / 512 = 0 ∨ p.1 / 512 = 1) with h | h
  · have hother (hk : k < 512) : k ≠ p.1 % 512 := by omega
    rw [State.descStart, if_pos h]
    refine ⟨hword, fun hk => (sget_sset_ne (hother hk) {} {} (freshIn t p.2) _).trans ?_⟩
    rw [h]
    exact congrArg (Option.getD · ({} : InStream)) (sfind_serase_ne (hother hk) _)
  · rw [State.descStart, if_neg (by omega)]
    refine ⟨hword, fun _ => ?_⟩
    rw [h]
    rfl

/-- A stream's own descriptor. -/
theorem State.descStart_own (t : Nat) (s : State) (k : Nat) {d : List Word} (hd : d.length = 16) :
    let u := s.descStart t (k, d)
    (∀ w, w < 16 → u.descWord (k / 512) (k % 512) w = d.getD w 0) ∧
      (k < 512 →
        (sget {} k u.net.ins).run = true ∧ (sget {} k u.net.ins).first = t ∧ (sget {} k u.net.ins).pkts = []) := by
  have hword (w : Nat) (hw : w < 16) := (s.streamStop (k / 512) (k % 512)).descWord_setDesc_same (k / 512) (k % 512) hd hw
  dsimp only
  rw [State.descStart]
  dsimp only
  split
  · next h =>
    refine ⟨hword, fun hk => ?_⟩
    rw [Nat.mod_eq_of_lt hk, State.onNet_net, sget_sset_same]
    exact ⟨rfl, rfl, rfl⟩
  · exact ⟨hword, fun hk => by omega⟩

/-- STREAM_DESC_APPLY puts the queued descriptors in force. -/
theorem streamDescApply_answers {k : Nat} {d : List Word} (hs : s.runs) (hd : d.length = 16)
    (hone : s.net.go.filter (fun p => decide (p.1 = k)) = [(k, d)]) (hall : ∀ p ∈ s.net.go, p.1 < 1024) :
    Answers .streamDescApply s fun t =>
      (∀ w, w < 16 → t.descWord (k / 512) (k % 512) w = d.getD w 0) ∧ t.net.go = [] ∧ t.on Reg.NET_DESC_GO.GO = false ∧
      (k < 512 → (sget {} k t.net.ins).run = true ∧ (sget {} k t.net.ins).first = s.tick + 1 ∧
        (sget {} k t.net.ins).pkts = []) := by
  have hcount : s.net.go.filter (fun p => decide (p.1 = k ∨ 1024 ≤ p.1)) = [(k, d)] :=
    hone ▸ List.filter_congr fun p hp => by have := hall p hp; simp; omega
  obtain ⟨u, -, hword, hins⟩ := foldl_once (r := StreamKept k) (g := State.descStart (s.tick + 1))
    (fun _ => ⟨fun _ _ => rfl, fun _ => rfl⟩)
    (fun h g => ⟨fun w hw => (g.1 w hw).trans (h.1 w hw), fun hk => (g.2 hk).trans (h.2 hk)⟩)
    (fun s p hp => s.descStart_kept _ (by simp at hp; omega) (by simp at hp; omega)) s.net.go hcount s
  obtain ⟨hown, hrun⟩ := u.descStart_own (s.tick + 1) k hd
  refine answers_clocked rfl hs rfl ?_
  rw [State.descApply_eq]
  refine ⟨fun w hw => (hword w hw).trans (hown w hw), rfl, State.on_put_same _ _ _ (Nat.le_refl 1), fun hk => ?_⟩
  rw [State.put_net, State.onNet_net, hins hk]
  exact hrun hk

end Sys2Proof.Machine
end

section
/-! SUPPORT. Start groups, egress packets, deadlines and the partner's watch (12 R263, R266, R268, R269). -/

namespace Sys2Proof.Machine

open Sys2Proof.Claims

variable {s t : State}

/-! ### NET_GRP_g_CTRL (R268) -/

/-- The fields of NET_GRP_g_CTRL. -/
def groupCtrlFields (g : Nat) : List FieldSpec :=
  [⟨Reg.NET_GRP_CTRL.ARM g, .ws, .any⟩, ⟨Reg.NET_GRP_CTRL.TRIGSRC g, .rw, .not 1⟩, ⟨Reg.NET_GRP_CTRL.DOMAIN g, .rw, .any⟩,
    ⟨Reg.NET_GRP_CTRL.LATE g, .w1c, .any⟩, ⟨Reg.NET_GRP_CTRL.BAD_TRIG g, .w1c, .any⟩]

/-- They are the fields that the register index lists. -/
theorem fieldsAt_groupCtrl : ∀ g : Fin 16, fieldsAt (0x110100 + g.val * 0x10) = some (groupCtrlFields g) := by decide

/-- TRIGSRC takes its part of the word. -/
theorem State.groupSet_trigsrc (s : State) (g : Nat) (v : Word) :
    (s.writeFields (groupCtrlFields g) v).rd (Reg.NET_GRP_CTRL.TRIGSRC g) = (Reg.NET_GRP_CTRL.TRIGSRC g).part v := by
  have hrest : ∀ f ∈ (groupCtrlFields g).drop 2, f.ref.addr = (Reg.NET_GRP_CTRL.TRIGSRC g).addr ∧
      ((Reg.NET_GRP_CTRL.TRIGSRC g).lo == f.ref.lo) = false := by
    simp [groupCtrlFields, Reg.NET_GRP_CTRL.TRIGSRC, Reg.NET_GRP_CTRL.DOMAIN, Reg.NET_GRP_CTRL.LATE,
      Reg.NET_GRP_CTRL.BAD_TRIG]
  have hkeep (u : State) : ∀ f ∈ (groupCtrlFields g).drop 2, (u.writeField v f).rd (Reg.NET_GRP_CTRL.TRIGSRC g) =
      u.rd (Reg.NET_GRP_CTRL.TRIGSRC g) := fun f hf =>
    u.rd_writeField_ne v (key_ne_of_lo (hrest f hf).1.symm (hrest f hf).2)
  calc (s.writeFields (groupCtrlFields g) v).rd (Reg.NET_GRP_CTRL.TRIGSRC g)
      = (s.wr (Reg.NET_GRP_CTRL.TRIGSRC g) ((Reg.NET_GRP_CTRL.TRIGSRC g).part v)).rd (Reg.NET_GRP_CTRL.TRIGSRC g) :=
        foldl_keeps_mem (State.rd · (Reg.NET_GRP_CTRL.TRIGSRC g)) _ _ hkeep _
    _ = (Reg.NET_GRP_CTRL.TRIGSRC g).part v := by rw [State.rd_wr_same, FieldRef.part, Nat.mod_mod]

/-- An admitted word with ARM and TRIGSRC 0b00, of an idle group. -/
theorem State.writeGroup_next {g : Fin 16} {v : Word} (hv : Admitted (0x110100 + g.val * 0x10) v)
    (harm : (Reg.NET_GRP_CTRL.ARM g).part v = 1) (hoff : s.on (Reg.NET_GRP_CTRL.ARM g) = false)
    (hsrc : (Reg.NET_GRP_CTRL.TRIGSRC g).part v = 0) : s.writeGroup g v =
      ((s.writeFields (groupCtrlFields g) v).onNet fun r => { r with grp := sinsert g.val (.tick (s.tick + 2)) r.grp }).put
        (Reg.NET_GRP_CTRL.ARM g) true := by
  obtain ⟨fs, hfs, hadm⟩ := hv
  cases (fieldsAt_groupCtrl g).symm.trans hfs
  have htick : (s.writeFields (groupCtrlFields g) v).tick = s.tick :=
    (congrArg State.tick (s.writeFields_regsOnly (groupCtrlFields g) v) :)
  rw [State.writeGroup, if_neg (by omega), if_neg (by simp [hoff]), State.guarded]
  simp only [fieldsAt_groupCtrl, hadm, harm, State.groupSet_trigsrc, hsrc, htick, if_true]

section Arm

variable {g : Fin 16} {v : Word} (hs : s.alone)
include hs

/-- GROUP_ARM with TRIGSRC 0b00 arms the second boundary. -/
theorem groupArm_arms (hv : Admitted (0x110100 + g.val * 0x10) v) (harm : (Reg.NET_GRP_CTRL.ARM g).part v = 1)
    (hoff : s.on (Reg.NET_GRP_CTRL.ARM g) = false) : Answers (.groupArm g v) s fun t =>
      (Reg.NET_GRP_CTRL.TRIGSRC g).part v = 0 → sfind g.val t.net.grp = some (.tick (s.tick + 2)) ∧
        t.on (Reg.NET_GRP_CTRL.ARM g) = true := by
  refine answers_core (f := fun s => s.control (0x110100 + g.val * 0x10) v fun s => s.writeGroup g.val v) rfl hs.1
    fun hsrc => ?_
  have hact := State.writeGroup_next hv harm hoff hsrc
  have hflt : (s.writeFields (groupCtrlFields g) v).flt = s.flt := (s.writeFields_regsOnly _ v).flt
  rw [hs.control (by rw [hact, State.put_flt, State.onNet_flt, hflt]), hact]
  exact ⟨sfind_sinsert_same _ _ _, State.on_put_same _ _ _ (Nat.le_refl 1)⟩

/-- GROUP_ARM with the reserved TRIGSRC is refused. -/
theorem groupArm_refused (hsrc : (Reg.NET_GRP_CTRL.TRIGSRC g).part v = 1) : Answers (.groupArm g v) s fun t =>
    t.net = s.net ∧ Raised t Src.CTL_REFUSED := by
  have hact : s.writeGroup g v = s.refuseWrite (0x110100 + g.val * 0x10) := if_pos hsrc
  obtain ⟨-, hnet, -, hraised, haudit⟩ := s.refuseWrite_net_shows (a := 0x110100 + g.val * 0x10) (by omega)
  refine answers_core (f := fun s => s.control (0x110100 + g.val * 0x10) v fun s => s.writeGroup g.val v) rfl hs.1 ?_
  rw [hs.control_act (hact ▸ haudit), hact]
  exact ⟨hnet, hraised⟩

end Arm

/-! ### GROUP_START (R268) -/

/-- A fold that meets an item: what holds before it turns into what holds after it. -/
theorem foldl_turns {α β : Type} {p q : β → Prop} {g : β → α → β} (a : α) (hself : ∀ s, p s → q (g s a))
    (hother : ∀ s c, c ≠ a → p s → p (g s c)) (hdone : ∀ s c, q s → q (g s c)) (l : List α) (ha : a ∈ l) :
    ∀ s, p s → q (l.foldl g s) := by
  have hrest (l : List α) : ∀ s, q s → q (l.foldl g s) := by
    induction l with
    | nil => exact fun _ h => h
    | cons c l ih => exact fun s h => ih _ (hdone s c h)
  induction l with
  | nil => cases ha
  | cons c l ih =>
    intro s h
    by_cases hc : c = a
    · exact hrest l _ (hc ▸ hself s h)
    · exact ih ((List.mem_cons.mp ha).resolve_left (Ne.symm hc)) _ (hother s c hc h)

/-- The record of an egress stream that starts at `m0`. -/
def State.startOut (s : State) (i m0 : Nat) : OutStream :=
  { run := true, m0 := m0, seq := wfield (s.descWord 1 i 3) 0 16
    tmplA := s.loadBytes (s.tmplAt (tmplIndex (s.descWord 1 i 4) 0)) 128
    tmplB := s.loadBytes (s.tmplAt (tmplIndex (s.descWord 1 i 4) 1)) 128 }

/-- A stream of the group that is idle starts. -/
def State.startStream (g m0 : Nat) (s : State) (i : Nat) : State :=
  if wfield (s.descWord 1 i 0) 24 4 = g ∧ (sget {} i s.net.outs).run = false then
    s.onNet fun r => { r with outs := sset {} i (s.startOut i m0) r.outs }
  else s

/-- The group is idle again, and its streams start in turn. -/
theorem State.groupStart_eq (s : State) (g m0 : Nat) : s.groupStart g m0 =
    (s.validStreams 1).foldl (State.startStream g m0)
      ((s.onNet fun r => { r with grp := serase g r.grp }).put (Reg.NET_GRP_CTRL.ARM g) false) := rfl

/-- Two states that differ in egress streams alone. -/
def OutsOnly (s t : State) : Prop := t = { s with net := { s.net with outs := t.net.outs } }

namespace OutsOnly

theorem refl (s : State) : OutsOnly s s := rfl

theorem trans {u : State} (h : OutsOnly s t) (g : OutsOnly t u) : OutsOnly s u :=
  Eq.trans g (congrArg (fun x : State => { x with net := { x.net with outs := u.net.outs } }) h)

theorem startStream (g m0 : Nat) (s : State) (i : Nat) : OutsOnly s (s.startStream g m0 i) := by
  unfold State.startStream
  split <;> rfl

theorem regs (h : OutsOnly s t) : t.regs = s.regs := (congrArg State.regs h :)
theorem mem (h : OutsOnly s t) : t.mem = s.mem := (congrArg State.mem h :)
theorem grp (h : OutsOnly s t) : t.net.grp = s.net.grp := (congrArg (fun x : State => x.net.grp) h :)
theorem live (h : OutsOnly s t) : t.net.live = s.net.live := (congrArg (fun x : State => x.net.live) h :)

end OutsOnly

/-- A stream's descriptor is read from the live words. -/
theorem State.descWord_congr (h : t.net.live = s.net.live) (dir i w : Nat) : t.descWord dir i w = s.descWord dir i w := by
  simp only [State.descWord, h]

/-- The start of a stream leaves another's record. -/
theorem State.startStream_ne {g m0 i n : Nat} (h : n ≠ i) :
    sget {} n (s.startStream g m0 i).net.outs = sget {} n s.net.outs := by
  unfold State.startStream
  split
  · exact sget_sset_ne h {} {} (s.startOut i m0) _
  · rfl

/-- A stream that runs is not started again. -/
theorem State.startStream_running {g m0 n : Nat} (h : (sget {} n s.net.outs).run = true) : s.startStream g m0 n = s :=
  if_neg (by simp [h])

/-- A stream of another group is not started. -/
theorem State.startStream_foreign {g m0 n : Nat} (h : wfield (s.descWord 1 n 0) 24 4 ≠ g) : s.startStream g m0 n = s :=
  if_neg (by simp [h])

/-- The record of a stream of the group that was idle, after its group's start. -/
theorem State.groupStart_starts {g m0 n : Nat} (l : List Nat) (hn : n ∈ l) (hg : wfield (s.descWord 1 n 0) 24 4 = g)
    (hidle : (sget {} n s.net.outs).run = false) :
    let y := sget {} n (l.foldl (State.startStream g m0) s).net.outs
    y.run = true ∧ y.m0 = m0 ∧ y.seq = wfield (s.descWord 1 n 3) 0 16 := by
  refine foldl_turns (g := State.startStream g m0) (p := fun u => u.net.live = s.net.live ∧ (sget {} n u.net.outs).run = false)
    (q := fun u => (sget {} n u.net.outs).run = true ∧ (sget {} n u.net.outs).m0 = m0 ∧
      (sget {} n u.net.outs).seq = wfield (s.descWord 1 n 3) 0 16) n ?_ ?_ ?_ l hn s ⟨rfl, hidle⟩
  · rintro u ⟨hlive, hrun⟩
    rw [State.startStream, if_pos ⟨by rw [State.descWord_congr hlive, hg], hrun⟩, State.onNet_net, sget_sset_same]
    exact ⟨rfl, rfl, by rw [State.startOut, State.descWord_congr hlive]⟩
  · rintro u c hc ⟨hlive, hrun⟩
    exact ⟨(OutsOnly.startStream g m0 u c).live.trans hlive, by rwa [State.startStream_ne hc.symm]⟩
  · rintro u c hdone
    by_cases hc : n = c
    · subst hc
      rwa [State.startStream_running hdone.1]
    · rwa [State.startStream_ne hc]

/-- A stream of another group stays as it was. -/
theorem State.groupStart_foreign {g m0 n : Nat} (l : List Nat) (hg : wfield (s.descWord 1 n 0) 24 4 ≠ g) :
    sget {} n (l.foldl (State.startStream g m0) s).net.outs = sget {} n s.net.outs := by
  have hkept : ∀ u : State, u.net.live = s.net.live → sget {} n u.net.outs = sget {} n s.net.outs →
      sget {} n (l.foldl (State.startStream g m0) u).net.outs = sget {} n s.net.outs := by
    induction l with
    | nil => exact fun _ _ h => h
    | cons c l ih =>
      intro u hlive hout
      refine ih _ ((OutsOnly.startStream g m0 u c).live.trans hlive) ?_
      by_cases hc : n = c
      · subst hc
        rwa [State.startStream_foreign (by rwa [State.descWord_congr hlive])]
      · rwa [State.startStream_ne hc]
  exact hkept s rfl rfl

/-- GROUP_START at its tick. -/
theorem groupStart_answers {g : Fin 16} (hs : s.runs) (hdue : sfind g.val s.net.grp = some (.tick (s.tick + 1))) :
    Answers (.groupStart g) s fun t =>
      sfind g.val t.net.grp = none ∧ t.on (Reg.NET_GRP_CTRL.ARM g) = false ∧ t.mem = s.mem ∧
      (∀ n ∈ s.validStreams 1, wfield (s.descWord 1 n 0) 24 4 = g.val → (sget {} n s.net.outs).run = false →
        (sget {} n t.net.outs).run = true ∧ (sget {} n t.net.outs).m0 = s.tick + 1 ∧
        (sget {} n t.net.outs).seq = wfield (s.descWord 1 n 3) 0 16) ∧
      (∀ n, wfield (s.descWord 1 n 0) 24 4 ≠ g.val → sget {} n t.net.outs = sget {} n s.net.outs) := by
  have hlisted : (s.groupsDue (s.tick + 1)).contains g.val = true := by
    rw [State.groupsDue, List.contains_iff_mem]
    exact List.mem_map.mpr ⟨_, List.mem_filter.mpr ⟨mem_of_sfind hdue, decide_eq_true rfl⟩, rfl⟩
  refine answers_clocked rfl hs rfl ?_
  rw [if_pos hlisted, State.groupStart_eq]
  have houts := foldl_related OutsOnly.refl OutsOnly.trans (OutsOnly.startStream g.val (s.tick + 1)) (s.validStreams 1)
    ((s.onNet fun r => { r with grp := serase g.val r.grp }).put (Reg.NET_GRP_CTRL.ARM g) false)
  refine ⟨?_, ?_, houts.mem, fun n hn hg hidle => ?_, fun n hg => ?_⟩
  · rw [houts.grp]
    exact sfind_serase_same _ _
  · rw [State.on_congr (State.rd_congr houts.regs _), State.on_put_same _ _ _ (Nat.le_refl 1)]
  · exact State.groupStart_starts (s.validStreams 1) hn hg hidle
  · exact State.groupStart_foreign (s.validStreams 1) hg

/-! ### STREAM_TX_QUEUE (R263) -/

/-- A packet whose ticks were read and whose instant has come is sent. -/
theorem streamTxQueue_sends {i : Fin 512} (hs : s.runs) (hrun : (sget {} i.val s.net.outs).run = true)
    (hread : s.streamP 1 i ≤ (sget {} i.val s.net.outs).buf.length)
    (hdue : (sget {} i.val s.net.outs).m0 + ((sget {} i.val s.net.outs).n + 1) * s.streamP 1 i ≤ s.tick) :
    Answers (.streamTxQueue i) s fun t =>
      let x := sget {} i.val s.net.outs
      let y := sget {} i.val t.net.outs
      y.n = x.n + 1 ∧ y.seq = (x.seq + 1) % 65536 ∧ y.buf = x.buf.drop (s.streamP 1 i) ∧ y.lastTick = s.tick ∧
        t.mem = s.mem := by
  have hrec : sget {} i.val (s.streamPacket i).net.outs = s.packetSent i := by
    rw [State.streamPacket_eq]
    exact sget_sset_same _ _ _ _
  refine answers_clocked rfl hs rfl ?_
  rw [State.streamSend, if_pos ⟨hrun, hread, hdue⟩, hrec]
  exact ⟨rfl, rfl, rfl, rfl, (MediaSent.streamPacket s i).mem⟩

/-- A packet whose ticks were not all read waits. -/
theorem streamTxQueue_waits {i : Fin 512} (hs : s.runs) (hread : (sget {} i.val s.net.outs).buf.length < s.streamP 1 i) :
    Answers (.streamTxQueue i) s fun t => t = s := by
  refine answers_clocked rfl hs rfl ?_
  exact if_neg fun h => by omega

/-! ### Records of the ingress streams -/

/-- An ingress stream's record as it was changed. -/
@[simp] theorem State.onIn_same (s : State) (i : Nat) (f : InStream → InStream) :
    sget {} i (s.onIn i f).net.ins = f (sget {} i s.net.ins) := sget_sset_same _ _ _ _

@[simp] theorem State.onIn_mem (s : State) (i : Nat) (f : InStream → InStream) : (s.onIn i f).mem = s.mem := rfl
@[simp] theorem State.onIn_rxq (s : State) (i : Nat) (f : InStream → InStream) : (s.onIn i f).net.rxq = s.net.rxq := rfl

/-! ### STREAM_PACKET_DEADLINE (R266) -/

/-- A stream's record after a deadline that found, or did not find, its packet. -/
def InStream.passed (x : InStream) (a b : NetPath) (tick : Nat) (lost : Bool) : InStream :=
  { x with a := a, b := b, deadline := some tick, lost := if lost then min (x.lost + 1) 65535 else x.lost }

/-- The deadline of a stream that runs, at a tick of its phase. -/
theorem State.packetDeadline_eq {i ph : Nat} (hrun : (sget {} i s.net.ins).run = true)
    (hph : (sget {} i s.net.ins).phase = some ph) (hnew : (sget {} i s.net.ins).deadline ≠ some s.tick)
    (hle : ph + wfield (s.descWord 0 i 1) 0 16 ≤ s.tick)
    (hmod : (s.tick - ph - wfield (s.descWord 0 i 1) 0 16) % s.streamP 0 i = 0) :
    ∃ (a b : NetPath) (down : Bool), s.packetDeadline i =
      let lost := ((sget {} i s.net.ins).pkts.find? fun k => decide (k.due = s.tick)).isNone
      let u := s.onIn i fun x => x.passed a b s.tick lost
      let u := if down then u.raise Src.NET_PATH else u
      if lost then u.raise Src.NET_LOSS else u := by
  simp only [State.packetDeadline, hph, if_pos (show _ ∧ _ ∧ _ ∧ _ from ⟨hrun, hnew, hle, hmod⟩)]
  exact ⟨_, _, _, rfl⟩

/-- STREAM_PACKET_DEADLINE of a stream that runs. -/
theorem streamPacketDeadline_answers {i : Fin 512} {ph : Nat} (hs : s.runs) (hrun : (sget {} i.val s.net.ins).run = true)
    (hph : (sget {} i.val s.net.ins).phase = some ph) (hnew : (sget {} i.val s.net.ins).deadline ≠ some s.tick)
    (hle : ph + wfield (s.descWord 0 i 1) 0 16 ≤ s.tick)
    (hmod : (s.tick - ph - wfield (s.descWord 0 i 1) 0 16) % s.streamP 0 i = 0) :
    Answers (.streamPacketDeadline i) s fun t =>
      let x := sget {} i.val s.net.ins
      let y := sget {} i.val t.net.ins
      y.deadline = some s.tick ∧ y.pkts = x.pkts ∧
      ((∀ k ∈ x.pkts, k.due ≠ s.tick) → y.lost = min (x.lost + 1) 65535 ∧ Raised t Src.NET_LOSS) ∧
      ((∃ k ∈ x.pkts, k.due = s.tick) → y.lost = x.lost) := by
  obtain ⟨a, b, down, heq⟩ := State.packetDeadline_eq hrun hph hnew hle hmod
  refine answers_clocked rfl hs rfl ?_
  rw [heq]
  generalize hlost : ((sget {} i.val s.net.ins).pkts.find? fun k => decide (k.due = s.tick)).isNone = lost
  have hrec : sget {} i.val (if down then (s.onIn i fun x => x.passed a b s.tick lost).raise Src.NET_PATH
      else s.onIn i fun x => x.passed a b s.tick lost).net.ins = (sget {} i.val s.net.ins).passed a b s.tick lost := by
    split
    · rw [State.raise_net, State.onIn_same]
    · rw [State.onIn_same]
  dsimp only
  cases lost with
  | true =>
    rw [if_pos rfl, State.raise_net, hrec]
    refine ⟨rfl, rfl, fun _ => ⟨rfl, State.raised_raise _ (by decide)⟩, fun ⟨k, hk, hdue⟩ => ?_⟩
    have hnone := List.find?_eq_none.mp (Option.isNone_iff_eq_none.mp hlost) k hk
    exact absurd (decide_eq_true hdue) hnone
  | false =>
    rw [if_neg Bool.false_ne_true, hrec]
    refine ⟨rfl, rfl, fun hnone => ?_, fun _ => rfl⟩
    have hfind : ((sget {} i.val s.net.ins).pkts.find? fun k => decide (k.due = s.tick)) = none :=
      List.find?_eq_none.mpr fun k hk => by simpa using hnone k hk
    rw [hfind] at hlost
    cases hlost

/-! ### PARTNER_ABSENT (R269) -/

/-- Two quiet packet times show the partner absent. -/
theorem partnerAbsent_sets {p : Nat} (hs : s.runs) (hstandby : s.isStandby = true)
    (hwatch : s.on Reg.NET_CTRL.WATCH_EN = true)
    (hp : s.shortestP = some p) (hquiet : 2 * p ≤ s.net.quiet) :
    Answers .partnerAbsent s fun t => t.on Reg.NET_STATUS.PARTNER_ABSENT = true ∧ t.net = s.net := by
  refine answers_clocked rfl hs rfl ?_
  rw [State.partnerAbsent, hp]
  simp only [hstandby, hwatch, decide_eq_true hquiet, Bool.and_self, if_true]
  exact ⟨State.on_put_same _ _ _ (Nat.le_refl 1), rfl⟩

/-- A chip that does not stand by watches no partner. -/
theorem partnerAbsent_stays (hs : s.runs) (hstandby : s.isStandby = false) : Answers .partnerAbsent s fun t => t = s := by
  refine answers_clocked rfl hs rfl ?_
  unfold State.partnerAbsent
  split
  · exact if_neg (by simp [hstandby])
  · rfl

end Sys2Proof.Machine
end

section
/-! SUPPORT. Packets received by the stream engine (12 R257, R264-R266), and the statement settled. -/

namespace Sys2Proof.Machine

open Sys2Proof.Claims

variable {s t u : State}

/-! ### A packet's checks (R257, R264) -/

/-- The state without the packet at the front of the stream engine's queue. -/
def State.taken (s : State) (rest : List NetRx) : State := s.onNet fun n => { n with rxq := rest }

/-- A packet lies in its stream's phase, where the stream has one. -/
def State.inPhase (s : State) (r : NetRx) : Bool :=
  (sget {} r.stream s.net.ins).phase.all fun ph : Nat => decide ((stampTick s r - ph) % s.streamP 0 r.stream = 0)

theorem State.inPhase_iff {r : NetRx} : s.inPhase r = true ↔ ∀ ph, (sget {} r.stream s.net.ins).phase = some ph →
    (stampTick s r - ph) % s.streamP 0 r.stream = 0 := by
  simp only [State.inPhase, Option.all_eq_true, decide_eq_true_eq]

/-- A packet on one of its stream's paths, by its checks. -/
theorem State.rxPacket_eq {r : NetRx} {rest : List NetRx} {path : Nat} (hq : s.net.rxq = r :: rest)
    (hpath : pathOf (s.descWord 0 r.stream 0) r.mac = some path) : s.rxPacket =
      if sumsOk r.bytes = false then (s.taken rest).macCount r.mac 7
      else if (sget {} r.stream s.net.ins).run = false ∨ r.now < (sget {} r.stream s.net.ins).first then s.taken rest
      else if (s.mediaOk r path && s.inPhase r) = true then (s.taken rest).takePacket r path (stampTick s r)
      else (s.taken rest).refusePacket r.stream := by
  have hpath' : pathOf ((s.taken rest).descWord 0 r.stream 0) r.mac = some path := hpath
  rw [State.taken] at hpath'
  simp only [State.rxPacket, hq, hpath', State.onNet_net]
  refine if_congr Iff.rfl rfl (if_congr Iff.rfl rfl ?_)
  cases hok : s.mediaOk r path with
  | false => exact if_pos hok
  | true =>
    have hok' : ¬(s.taken rest).mediaOk r path = false := by
      rw [show (s.taken rest).mediaOk r path = true from hok]
      decide
    refine (if_neg hok').trans ?_
    rw [Bool.true_and, State.inPhase]
    cases hph : (sget {} r.stream s.net.ins).phase with
    | none => rfl
    | some ph => exact if_congr decide_eq_true_iff.symm rfl rfl


/-! ### A packet taken (R265, R266) -/

/-- Data dropped counts in records of hitches alone. -/
theorem State.dropLate_runsOnly (s : State) (ift port : Nat) (fault : Bool) : RunsOnly s (s.dropLate ift port fault) :=
  RunsOnly.foldl (fun s _ => RunsOnly.setRun s _ _ _) _ s

@[simp] theorem State.dropLate_net (s : State) (ift port : Nat) (fault : Bool) :
    (s.dropLate ift port fault).net = s.net := (congrArg State.net (s.dropLate_runsOnly ift port fault) :)
@[simp] theorem State.dropLate_mem (s : State) (ift port : Nat) (fault : Bool) :
    (s.dropLate ift port fault).mem = s.mem := (congrArg State.mem (s.dropLate_runsOnly ift port fault) :)

/-- What the samples of a packet leave: the records of the ingress streams and the packets that wait. -/
def State.streamSide (s : State) : SMap InStream × List NetRx := (s.net.ins, s.net.rxq)

theorem State.placeSample_side (s : State) (i c u t : Nat) (v : Word) :
    (s.placeSample i c u t v).streamSide = s.streamSide := by
  unfold State.placeSample
  split
  · rfl
  · rw [State.store_eq]
    rfl

theorem State.placePacket_side (s : State) (i u t p nch fmt : Nat) (l : List Byte) (a : Nat) :
    (s.placePacket i u t p nch fmt l a).streamSide = s.streamSide := by
  refine foldl_keeps State.streamSide _ (fun s k => foldl_keeps State.streamSide _ (fun s c => ?_) _ s) _ s
  split
  · exact State.placeSample_side _ _ _ _ _ _
  · rfl

/-- A sequence number shows on its path alone. -/
theorem InStream.sequence_eq (x : InStream) (path n : Nat) :
    ∃ a b, x.sequence path n = { x with a := a, b := b } := by
  unfold InStream.sequence
  split
  · exact ⟨_, _, rfl⟩
  · exact ⟨_, _, rfl⟩

/-- A packet whose sequence number its stream's record shows. -/
def State.sequenced (s : State) (r : NetRx) (path : Nat) : State :=
  s.onIn r.stream fun x => x.sequence path (be r.bytes (ipAt r.bytes + 30) 2)

section Take

variable {r : NetRx} {path : Nat} {t due : Int} (hdue : due = t + wfield (s.descWord 0 r.stream 1) 0 16)
include hdue

/-- A copy of a packet already written. -/
theorem State.takePacket_again (h : ∃ k ∈ (sget {} r.stream s.net.ins).pkts, (k.due : Int) = due) :
    s.takePacket r path t = (s.sequenced r path).onIn r.stream fun x => { x with
      dup := min (x.dup + 1) 65535
      pkts := x.pkts.map fun k => if (k.due : Int) = due then k.got path else k } := by
  subst hdue
  exact if_pos (by simpa using h)

/-- A packet before its time. -/
theorem State.takePacket_early (hnew : ¬∃ k ∈ (sget {} r.stream s.net.ins).pkts, (k.due : Int) = due)
    (h : (r.now : Int) + wfield (s.descWord 0 r.stream 1) 16 16 - s.streamP 0 r.stream < due) :
    s.takePacket r path t = ((s.sequenced r path).onIn r.stream fun x => { x with
      early := min (x.early + 1) 65535 }).dropLate 5 r.stream true := by
  subst hdue
  rw [State.takePacket, if_neg (by simpa using hnew)]
  exact if_pos h

/-- A packet after its time. -/
theorem State.takePacket_late (hnew : ¬∃ k ∈ (sget {} r.stream s.net.ins).pkts, (k.due : Int) = due)
    (hin : due ≤ (r.now : Int) + wfield (s.descWord 0 r.stream 1) 16 16 - s.streamP 0 r.stream)
    (h : due ≤ r.tick ∨ t < 0) :
    s.takePacket r path t = ((s.sequenced r path).onIn r.stream fun x => { x with
      late := min (x.late + 1) 65535 }).dropLate 5 r.stream false := by
  subst hdue
  rw [State.takePacket, if_neg (by simpa using hnew), if_neg (by omega)]
  exact if_pos h

/-- A packet in time. -/
theorem State.takePacket_new (hnew : ¬∃ k ∈ (sget {} r.stream s.net.ins).pkts, (k.due : Int) = due)
    (hin : due ≤ (r.now : Int) + wfield (s.descWord 0 r.stream 1) 16 16 - s.streamP 0 r.stream) (h : r.tick < due)
    (ht : 0 ≤ t) : ∃ (u : State) (parity phase : Nat) (bad : List Nat),
      u.streamSide = (s.sequenced r path).streamSide ∧
      s.takePacket r path t = u.onIn r.stream fun x => { x with
        phase := some (x.phase.getD phase), parity := min (x.parity + parity) 65535
        pkts := x.pkts ++ [NetPkt.got { due := due.toNat, gotA := false, gotB := false, bad := bad } path] } := by
  subst hdue
  rw [State.takePacket, if_neg (by simpa using hnew), if_neg (by omega), if_neg (by omega)]
  exact ⟨_, _, _, _, State.placePacket_side _ _ _ _ _ _ _ _ _, rfl⟩

end Take

/-- Beyond its paths, a record is as it was. -/
theorem State.sequenced_rec (s : State) (r : NetRx) (path : Nat) :
    ∃ a b, sget {} r.stream (s.sequenced r path).net.ins = { sget {} r.stream s.net.ins with a := a, b := b } := by
  rw [State.sequenced, State.onIn_same]
  exact InStream.sequence_eq _ _ _

/-- A packet taken leaves the packets that wait. -/
theorem State.takePacket_rxq (s : State) (r : NetRx) (path : Nat) (t : Int) :
    (s.takePacket r path t).net.rxq = s.net.rxq := by
  have hseq : (s.sequenced r path).net.rxq = s.net.rxq := State.onIn_rxq _ _ _
  by_cases hagain : ∃ k ∈ (sget {} r.stream s.net.ins).pkts, (k.due : Int) = t + wfield (s.descWord 0 r.stream 1) 0 16
  · rw [State.takePacket_again rfl hagain, State.onIn_rxq, hseq]
  rcases lt_or_ge ((r.now : Int) + wfield (s.descWord 0 r.stream 1) 16 16 - s.streamP 0 r.stream)
    (t + wfield (s.descWord 0 r.stream 1) 0 16) with hearly | hin
  · rw [State.takePacket_early rfl hagain hearly, State.dropLate_net, State.onIn_rxq, hseq]
  by_cases hlate : t + wfield (s.descWord 0 r.stream 1) 0 16 ≤ r.tick ∨ t < 0
  · rw [State.takePacket_late rfl hagain hin hlate, State.dropLate_net, State.onIn_rxq, hseq]
  · obtain ⟨u, _, _, _, hside, heq⟩ := State.takePacket_new (path := path) rfl hagain hin (by omega) (by omega)
    rw [heq, State.onIn_rxq, ← hseq]
    exact congrArg Prod.snd hside

/-- A packet's first copy counts on its path alone. -/
theorem NetPkt.got_fresh (due : Nat) (bad : List Nat) {path : Nat} (h : path ≤ 1) :
    let k := NetPkt.got { due := due, gotA := false, gotB := false, bad := bad } path
    k.due = due ∧ k.gotA = decide (path = 0) ∧ k.gotB = decide (path = 1) := by
  rcases (by omega : path = 0 ∨ path = 1) with rfl | rfl
  · exact ⟨rfl, rfl, rfl⟩
  · exact ⟨rfl, rfl, rfl⟩

/-! ### STREAM_RX_PACKET (R265) -/

/-- Without a packet that waits nothing happens. -/
theorem streamRxPacket_idle (hs : s.runs) (hq : s.net.rxq = []) : Answers .streamRxPacket s fun t => t = s := by
  refine answers_clocked rfl hs rfl ?_
  rw [State.rxPacket, hq]

section Receive

variable {r : NetRx} {rest : List NetRx} {path : Nat} (hq : s.net.rxq = r :: rest)
  (hpath : pathOf (s.descWord 0 r.stream 0) r.mac = some path)
include hq hpath

/-- The packet at the front has left the queue. -/
theorem State.rxPacket_rxq : s.rxPacket.net.rxq = rest := by
  rw [State.rxPacket_eq hq hpath]
  split_ifs
  · rfl
  · rfl
  · exact State.takePacket_rxq _ _ _ _
  · rfl

/-- A packet with bad checksums is counted at its MAC and leaves the streams. -/
theorem State.rxPacket_badSums (h : sumsOk r.bytes = false) :
    Counted s s.rxPacket r.mac 7 ∧ s.rxPacket.net.ins = s.net.ins ∧ s.rxPacket.mem = s.mem := by
  rw [State.rxPacket_eq hq hpath, if_pos h]
  exact ⟨(s.taken rest).macCount_counted r.mac 7, rfl, rfl⟩

/-- A packet of a stream that does not run is dropped. -/
theorem State.rxPacket_stopped (h : sumsOk r.bytes = true)
    (hrun : ¬((sget {} r.stream s.net.ins).run = true ∧ (sget {} r.stream s.net.ins).first ≤ r.now)) :
    s.rxPacket = s.taken rest := by
  rw [State.rxPacket_eq hq hpath, if_neg (by simp [h]), if_pos]
  rwa [not_and_or, Bool.not_eq_true, Nat.not_le] at hrun

/-- A packet that fails the checks is counted as refused. -/
theorem State.rxPacket_unfit (h : sumsOk r.bytes = true)
    (hrun : (sget {} r.stream s.net.ins).run = true ∧ (sget {} r.stream s.net.ins).first ≤ r.now)
    (hfits : ¬(s.mediaOk r path = true ∧ ∀ ph, (sget {} r.stream s.net.ins).phase = some ph →
      (stampTick s r - ph) % s.streamP 0 r.stream = 0)) : s.rxPacket = (s.taken rest).refusePacket r.stream := by
  rw [← State.inPhase_iff, ← Bool.and_eq_true] at hfits
  rw [State.rxPacket_eq hq hpath, if_neg (by simp [h]), if_neg (by simp [hrun.1]; exact hrun.2), if_neg hfits]

/-- A packet that passes them is taken. -/
theorem State.rxPacket_fits (h : sumsOk r.bytes = true)
    (hrun : (sget {} r.stream s.net.ins).run = true ∧ (sget {} r.stream s.net.ins).first ≤ r.now)
    (hfits : s.mediaOk r path = true ∧ ∀ ph, (sget {} r.stream s.net.ins).phase = some ph →
      (stampTick s r - ph) % s.streamP 0 r.stream = 0) :
    s.rxPacket = (s.taken rest).takePacket r path (stampTick s r) := by
  rw [← State.inPhase_iff, ← Bool.and_eq_true] at hfits
  rw [State.rxPacket_eq hq hpath, if_neg (by simp [h]), if_neg (by simp [hrun.1]; exact hrun.2), if_pos hfits]

/-- STREAM_RX_PACKET of a packet on one of its stream's paths. -/
theorem streamRxPacket_answers (hs : s.runs) (hle : path ≤ 1) :
    let x := sget {} r.stream s.net.ins
    let lo := wfield (s.descWord 0 r.stream 1) 0 16
    let depth := wfield (s.descWord 0 r.stream 1) 16 16
    let p := s.streamP 0 r.stream
    let due := stampTick s r + lo
    let runs := x.run = true ∧ x.first ≤ r.now
    let fits := s.mediaOk r path = true ∧ ∀ ph, x.phase = some ph → (stampTick s r - ph) % p = 0
    let again := ∃ k ∈ x.pkts, (k.due : Int) = due
    Answers .streamRxPacket s fun t =>
      let y := sget {} r.stream t.net.ins
      t.net.rxq = rest ∧
      (sumsOk r.bytes = false → Counted s t r.mac 7 ∧ t.net.ins = s.net.ins ∧ t.mem = s.mem) ∧
      (sumsOk r.bytes = true → ¬runs → t.net.ins = s.net.ins ∧ t.mem = s.mem) ∧
      (sumsOk r.bytes = true → runs → ¬fits →
        y.refused = min (x.refused + 1) 65535 ∧ y.pkts = x.pkts ∧ t.mem = s.mem) ∧
      (sumsOk r.bytes = true → runs → fits → again →
        y.dup = min (x.dup + 1) 65535 ∧ y.early = x.early ∧ y.late = x.late ∧
        y.pkts = x.pkts.map (fun k => if (k.due : Int) = due then k.got path else k) ∧ t.mem = s.mem) ∧
      (sumsOk r.bytes = true → runs → fits → ¬again → (r.now : Int) + depth - p < due →
        y.early = min (x.early + 1) 65535 ∧ y.pkts = x.pkts ∧ t.mem = s.mem) ∧
      (sumsOk r.bytes = true → runs → fits → ¬again → due ≤ (r.now : Int) + depth - p →
        (due ≤ r.tick ∨ stampTick s r < 0) →
        y.late = min (x.late + 1) 65535 ∧ y.pkts = x.pkts ∧ t.mem = s.mem) ∧
      (sumsOk r.bytes = true → runs → fits → ¬again → due ≤ (r.now : Int) + depth - p →
        r.tick < due → 0 ≤ stampTick s r →
        ∃ k, y.pkts = x.pkts ++ [k] ∧ (k.due : Int) = due ∧
          k.gotA = decide (path = 0) ∧ k.gotB = decide (path = 1)) := by
  intro x lo depth p due runs fits again
  obtain ⟨a, b, hrec⟩ := (s.taken rest).sequenced_rec r path
  refine answers_clocked rfl hs rfl ⟨State.rxPacket_rxq hq hpath, State.rxPacket_badSums hq hpath, fun h hrun => ?_,
    fun h hrun hfits => ?_, fun h hrun hfits hagain => ?_, fun h hrun hfits hnew hearly => ?_,
    fun h hrun hfits hnew hin hlate => ?_, fun h hrun hfits hnew hin hafter hstamp => ?_⟩
  · rw [State.rxPacket_stopped hq hpath h hrun]
    exact ⟨rfl, rfl⟩
  · rw [State.rxPacket_unfit hq hpath h hrun hfits, State.refusePacket, State.onIn_same]
    exact ⟨rfl, rfl, rfl⟩
  · rw [State.rxPacket_fits hq hpath h hrun hfits, State.takePacket_again (s := s.taken rest) rfl hagain,
      State.onIn_same, hrec]
    exact ⟨rfl, rfl, rfl, rfl, rfl⟩
  · rw [State.rxPacket_fits hq hpath h hrun hfits, State.takePacket_early (s := s.taken rest) rfl hnew hearly,
      State.dropLate_net, State.dropLate_mem, State.onIn_same, hrec]
    exact ⟨rfl, rfl, rfl⟩
  · rw [State.rxPacket_fits hq hpath h hrun hfits, State.takePacket_late (s := s.taken rest) rfl hnew hin hlate,
      State.dropLate_net, State.dropLate_mem, State.onIn_same, hrec]
    exact ⟨rfl, rfl, rfl⟩
  · obtain ⟨u, _, _, bad, hside, heq⟩ :=
      State.takePacket_new (s := s.taken rest) (path := path) rfl hnew hin hafter hstamp
    have hins : u.net.ins = ((s.taken rest).sequenced r path).net.ins := congrArg Prod.fst hside
    obtain ⟨hd, hA, hB⟩ := NetPkt.got_fresh due.toNat bad hle
    rw [State.rxPacket_fits hq hpath h hrun hfits, heq, State.onIn_same, hins, hrec]
    have hpos : 0 ≤ due := Int.add_nonneg hstamp (Int.natCast_nonneg _)
    exact ⟨_, rfl, (congrArg Nat.cast hd).trans (Int.toNat_of_nonneg hpos), hA, hB⟩

end Receive

/-- Settles O47: each command by what it makes of its stream's descriptor and record. -/
theorem mediaStreams : Obligations.MediaStreams := by
  unfold Obligations.MediaStreams
  intro i g v s
  refine ⟨fun hs hv => streamDescCommit_answers hs hv,
    fun k d hs _ hd hone hall => streamDescApply_answers hs hd hone hall,
    fun hs hv harm hoff => groupArm_arms hs hv harm hoff, fun hs hsrc => groupArm_refused hs hsrc,
    fun hs hdue => groupStart_answers hs hdue, fun hs hrun hread hdue => streamTxQueue_sends hs hrun hread hdue,
    fun hs hread => streamTxQueue_waits hs hread, fun hs hq => streamRxPacket_idle hs hq,
    fun r rest path hs hq hpath hle => streamRxPacket_answers hq hpath hs hle,
    fun ph hs hrun hph hnew hle hmod => streamPacketDeadline_answers hs hrun hph hnew hle hmod,
    fun p hs hstandby hwatch hp hquiet => partnerAbsent_sets hs hstandby hwatch hp hquiet,
    fun hs hstandby => partnerAbsent_stays hs hstandby⟩

end Sys2Proof.Machine
end
